-- ==== Sys2Proof/Word.lean ====
section
/-!
DEFINITION. The plain words of the model: bytes, byte strings, and the list-of-pairs tables that hold every
indexed family of registers (R10, R13).
-/
namespace Sys2Proof

/-- One byte of a packet, a Larder word or a store. -/
abbrev Byte := BitVec 8

/-- A byte string: a packet, an entry, a field. -/
abbrev Bytes := List Byte

/-- An indexed family of registers as plain data: the first pair with an index gives its value, and an index
without a pair has the family's cold value, which the reader supplies. -/
abbrev Tab (α : Type) := List (Nat × α)

end Sys2Proof
end

