-- ==== Sys2Proof/Config.lean ====
section
/-!
DEFINITION. What the manual leaves to the part or to nature: the factory constants of one module, and the free
values. None has a body, so no statement can rest on what it is.
-/
namespace Sys2Proof

/-- The lands that the boundary-scan chain covers (R707, Table 19.1). A differential pair is one of them; `x` counts A, B, Z of an
encoder; port 0 of the ring is SR-L. -/
inductive Land where
  | sck | csN | mosi | miso | hostAttn
  | sbTxd (p : Nat) | sbRxd (p : Nat) | sbStby (p : Nat)
  | porchClk | porchDio
  | sd (k : Nat) | sdClk (k : Nat)
  | enc (k x : Nat) | ssiClk (k : Nat) | ssiDat (k : Nat)
  | ringTx (port pair : Nat) | ringRx (port pair : Nat)
  | stoA | stoB | dg (c : Nat)
  deriving DecidableEq, Repr

namespace Config

/-- DEVICE_UID, the 64-bit unique number of the module (Table 11.15, "Factory"). -/
opaque deviceUid : BitVec 64
/-- ORDER_VARIANT: true for the FZ8160-MS, whose Porch is locked for good (Table 0.1, R6). -/
opaque orderMs : Bool
/-- HW_REV, the module revision (Table 11.15, "Factory"). -/
opaque hwRev : BitVec 16
/-- TS_N25 of sensor s: its count at 25 °C (Table 10.7, "Factory"). -/
opaque tsN25 : Nat → BitVec 16
/-- TS_N125 of sensor s: its count at 125 °C (Table 10.7, "Factory"). -/
opaque tsN125 : Nat → BitVec 16
/-- D0 of sensor s, the factory difference to its neighbours in 0.25 °C (R416). -/
opaque tsD0 : Nat → Int
/-- Byte at an offset of a wing as the factory delivered it (chapter 17 gives the image no content). -/
opaque wingByte : Nat → Nat → BitVec 8
/-- Byte of a wing's header as the factory delivered it (Table 17.1). -/
opaque wingHeader : Nat → Nat → BitVec 8
/-- The hardware random source and every other value the manual leaves open: the n-th draw, with `State.free` the
counter (R517, R690). -/
opaque freeWord : Nat → BitVec 256
/-- The rounding residue of a computation the manual bounds but does not fix (R130 sine and cosine, atan2):
the kind, the argument, and the residue in units of the stated bound; the user clamps it to that bound. -/
opaque residue : Nat → Int → Int
/-- The land of cell i of the boundary-scan chain; none for a cell that only controls a driver. The order is that of the BSDL file, which
the manual does not reproduce (R707). -/
opaque cellLand : Nat → Option Land
/-- The check bits of an Attic generation, over its value and its number (R507 names no code). -/
opaque atticCheck : BitVec 64 → BitVec 4 → BitVec 8

end Config

end Sys2Proof
end

