-- ==== Sys2Proof/Syntax.lean ====
section
/-!
DEFINITION. The commands and events of the FZ8160: the rows of the table of operations as one inductive type, with
the operands the outside world gives each.
-/
namespace Sys2Proof

/-- The four transports of command packets (R467, Table 11.5). -/
inductive Transport where
  | spi | swarm | ring | porch
  deriving DecidableEq, Repr

/-- A frame as it comes over SBp_RXD: its nominal bits up to the BRS bit, its data-phase bits between that bit and the CRC delimiter, its
nominal bits after the delimiter (stuff bits among them), and the recessive-to-dominant edges after its start of frame, in CLK_BUS cycles
from that edge (R531). -/
structure RxBits where
  head : Nat
  fast : Nat := 0
  tail : Nat := 0
  edges : List Nat := []
  deriving DecidableEq, Repr

/-- How a transmission ended without success: 0 arbitration lost, 1 bit error inside the data field, 2 another error, 3 an error for which
ISO 11898-1 leaves the transmit counter as it is; and the transmitter delay in mtq, where the frame got as far as its res bit (R532, R544). -/
structure TxErr where
  kind : Nat
  tdc : Option Nat := none
  deriving DecidableEq, Repr

/-- An access of the test access port: its time, and for a scan of the data register that the instruction selects the bits shifted in,
first bit first; none where only the instruction is loaded. `high` names the lands of the chain that outside drivers hold high. -/
structure Scan where
  at_ : Nat
  high : List Land := []
  tdi : List Bool := []
  deriving DecidableEq, Repr

/-- The commands and events of the table of operations, one constructor for one row, in its order. Every one
carries the time in ns at which it comes. -/
inductive Instr where
  /-- POWER_ON_RESET_RELEASE (R56): The ORed 24 V feed has held at or above 16.0 V for 5 ms, so the reset releases and the device enters BOOT with every output inert. -/
  | powerOnResetRelease (t : Nat)
  /-- BROWN_OUT (R729): The feed has stayed below 15.0 V for 100 µs, so the Cellar holds off all cells and the device goes OFF. -/
  | brownOut (t : Nat)
  /-- CRYSTAL_QUALIFIED (R71): The 1 ms count against the monitor oscillator qualifies the 25 MHz reference and the boot moves on to the PLL. -/
  | crystalQualified (t : Nat)
  /-- CRYSTAL_TIMEOUT (R78): The reference is still unqualified at 5.0 ms, so the backup oscillator is selected and CLK_DEGRADED is set. -/
  | crystalTimeout (t : Nat) (inRange : Bool)
  /-- PLL_LOCKED (R71): The PLL locks and ROOT and all derived clocks start together. -/
  | pllLocked (t : Nat)
  /-- CELLAR_SELF_TEST (R71): The Cellar self-test of clock monitor, STO test pulses and hold-off read-back completes. -/
  | cellarSelfTest (t : Nat)
  /-- ATTIC_LOAD (R71): The newest valid generation of each of the 64 Attic slots is loaded into the mirror. -/
  | atticLoad (t : Nat) (failed : List (Nat × Nat))
  /-- LARDER_INIT (R71): Every Larder word is written to zero with valid ECC, read back, and defective rows are repaired. -/
  | larderInit (t : Nat) (bad : Option Nat)
  /-- WING_SELECTION (R74): The wing pointer and wing headers are read and the boot wing is chosen by the three checks. -/
  | wingSelection (t : Nat) (ptrOk : Bool)
  /-- IMAGE_CRC_CHECK (R74): Forager F4 completes CRC-32C over the chosen image; a mismatch falls back to the other wing. -/
  | imageCrcCheck (t : Nat)
  /-- LOCKSTEP_SELF_TEST (R71): Pairs A and B complete lockstep self-test, and the active pair starts firmware while the standby synchronises. -/
  | lockstepSelfTest (t : Nat) (okA okB : Bool)
  /-- BOOT_SELF_TEST_RETRY (R78): Both pairs failed self-test, so the reset is retried after 1 s, at most 3 times. -/
  | bootSelfTestRetry (t : Nat)
  /-- CONFIG_LOAD (R755): The configuration area is checked and loaded into the parameter image and records, or factory defaults are used. -/
  | configLoad (t : Nat) (ok : Bool) (area : List (Nat × Int))
  /-- CELL_LINK_TRAINING (R71): Cell links train, cells report identity, bootstrap voltage and temperature, and the first Fanner readings are taken. -/
  | cellLinkTraining (t : Nat) (absent : Nat) (bootV counts : List Nat)
  /-- BOOT_AFTER_REPLY (R756): BOOT starts once the SOFT_RESET reply or the completion has left its queue, or 100 ms after it was written. -/
  | bootAfterReply (t : Nat)
  /-- REFERENCE_LOST (R81): Five missed reference edges make the Cellar switch the PLL to the backup oscillator and enter degraded mode. -/
  | referenceLost (t : Nat)
  /-- CRYSTAL_BACK (R85): The reference returns in degraded mode, and the module reports it without switching back. -/
  | crystalBack (t : Nat)
  /-- CLOCK_CHECK_WINDOW (R25): At the end of each 10 µs window the Cellar compares the ROOT count with its monitor oscillator. -/
  | clockCheckWindow (t : Nat) (dev : Int)
  /-- FIRMWARE_FAULT (R51): The active house-core pair fails, and the standby resumes from the takeover checkpoint and the device enters RECOVERY. -/
  | firmwareFault (t : Nat) (fw : Bool)
  /-- PAIR_RESTART (R66): In RECOVERY the failed pair is restarted from BOOT_WING, self-tested and synchronised as standby, or left stopped on failure. -/
  | pairRestart (t : Nat) (ok : Bool)
  /-- CELLAR_CORE_RESTART (R68): No pair has been live for 5 ms, so the Cellar restarts both pairs, subject to 3 restarts per 60 min. -/
  | cellarCoreRestart (t : Nat)
  /-- SAMPLE_EVENT (R37): A lane's sample event opens a control period: capture, conversion, sample moves, fusion, latch, computation and shadow writes. -/
  | sampleEvent (t : Nat) (n : Nat) (samples : List (List Int × List Nat)) (computed spareOk : Bool)
  /-- SHADOW_DEADLINE (R41): At T − 0.50 µs a lane that has not filled its shadow registers repeats the previous edges and counts an overrun. -/
  | shadowDeadline (t : Nat) (n : Nat)
  /-- EDGE_DISPATCH (R39): At T − 0.40 µs the PWM generator dispatches the edges over the cell links. -/
  | edgeDispatch (t : Nat) (n : Nat)
  /-- LANE_MISMATCH (R136): A lane's comparator finds the two copies disagree on a compared write. -/
  | laneMismatch (t : Nat) (n : Nat) (again : Bool)
  /-- LANE_SELF_TEST (R144): A failed or freed lane runs its built-in self-test and reports it in LANE_FAULTS. -/
  | laneSelfTest (t : Nat) (n : Nat) (pass : Bool)
  /-- HOUSE_SILENT (R50): The last commit of a switching axis is older than 5 ms with no live pair, so the Hearth ramps torque to zero. -/
  | houseSilent (t : Nat) (k : Nat)
  /-- BRIDGE_IMBALANCE (R128): BAL_DEV has stayed above BAL_TRIP for 10 ms. -/
  | bridgeImbalance (t : Nat) (k : Nat)
  /-- SENSE_REF_CHECK (R188): Every 64th period each used converter converts its internal reference, raising SENSE_REF on two bad checks. -/
  | senseRefCheck (t : Nat) (b : Nat) (cur : List Int) (volt : Int)
  /-- SELF_TRIGGER_CONVERSION (R159): A bridge without SE for 10 µs makes its converters convert by themselves. -/
  | selfTriggerConversion (t : Nat) (b : Nat) (raw : List Int) (rawV : List Nat)
  /-- SENSE_SUM (R188): The phase current sum deviates on 8 consecutive fully measured valley SEs. -/
  | senseSum (t : Nat) (b : Nat)
  /-- SENSE_OFFSET (R188): An offset sample deviates by more than OFS_TRIP on 16 consecutive samples, and the corrections freeze. -/
  | senseOffset (t : Nat) (b x : Nat)
  /-- VDC_DISAGREE (R188): Samples of one link from two bridges disagree on 4 consecutive comparisons. -/
  | vdcDisagree (t : Nat) (k : Nat)
  /-- PHASE_OC (R188): A phase overcurrent detector exceeds OC_LEVEL and reports to the lane and the Cellar. -/
  | phaseOc (t : Nat) (b : Nat) (raw : List Int)
  /-- SD_STREAM (R188): A used sigma-delta input shows no transition for 32 modulator clocks. -/
  | sdStream (t : Nat) (d : Nat) (wave : Nat)
  /-- FUSION_SELF_TIMED (R757): While the lane gives no SEs, the fusion stage runs every 50 µs. -/
  | fusionSelfTimed (t : Nat) (k : Nat)
  /-- SOURCE_DROPPED (R199): A voting source outside the majority for 5 ms is dropped. -/
  | sourceDropped (t : Nat) (k src : Nat)
  /-- SOURCE_READMITTED (R199): A dropped source within POS_GATE for 1 s is readmitted. -/
  | sourceReadmitted (t : Nat) (k src : Nat)
  /-- WAGGLE_REVERSAL (R207): After WAGGLE_HALF measured SEs the injection sign reverses. -/
  | waggleReversal (t : Nat) (k : Nat)
  /-- SCOUT_SETTLE_TIMEOUT (R212): The demodulator has not settled within 50 ms, so the scout try fails. -/
  | scoutSettleTimeout (t : Nat) (k : Nat)
  /-- POLARITY_PULSE_END (R212): A polarity pulse ends after POL_TIME or at IMAX and its peak current change is recorded. -/
  | polarityPulseEnd (t : Nat) (k : Nat) (raw : List Int)
  /-- CURRENT_DECAYED (R215): Every phase current has fallen below CATCH_ZERO, so the next pulse, lock or scout try can start. -/
  | currentDecayed (t : Nat) (k : Nat) (codes : List (List Int))
  /-- SCOUT_BACK_CHECK_END (R214): The backward check ends at 90° of travel or 2 s, or fails on travel beyond SCOUT_BACK. -/
  | scoutBackCheckEnd (t : Nat) (k : Nat)
  /-- CATCH_LOCK (R219): The catch loop locks and loads theta, speed and the flux observer, dropping distant sources. -/
  | catchLock (t : Nat) (k : Nat)
  /-- CATCH_NO_EMF (R218): On the voltage path |e| stays below VM_MIN for 2 ms, so the attempt ends without lock. -/
  | catchNoEmf (t : Nat) (k : Nat)
  /-- CATCH_ATTEMPT_TIMEOUT (R221): An attempt has no lock 10 ms after detection, so the next attempt starts or position is lost. -/
  | catchAttemptTimeout (t : Nat) (k : Nat)
  /-- CATCH_USED_RESET (R221): After 1 s of valid position without criteria, CATCH_USED returns to 0. -/
  | catchUsedReset (t : Nat) (k : Nat)
  /-- LIMP_CROSSING_TIMEOUT (R224): A zero crossing is not seen within 1.5 times the last interval, meeting criterion 4. -/
  | limpCrossingTimeout (t : Nat) (k : Nat)
  /-- LIMP_RETURN (R224): A source has contributed for 100 ms, so the axis returns from LIMP to RUNNING. -/
  | limpReturn (t : Nat) (k : Nat)
  /-- ENC_TRANSITION (R241): A level change on A, B or Z holds for ENC_MIN_EDGE and is accepted and counted. -/
  | encTransition (t : Nat) (k : Nat) (a b z : Bool) (stamp hold : Nat)
  /-- FB_LINE (R243): A used differential pair stays below 200 mV for 1 µs, declaring the interface faulty. -/
  | fbLine (t : Nat) (k pair : Nat) (low : Bool)
  /-- INDEX_EVENT (R253): An accepted Z edge is checked and the count corrected, made suspect or re-referenced. -/
  | indexEvent (t : Nat) (k : Nat) (rising : Bool)
  /-- INDEX_MISSED (R256): A referenced encoder travels more than cpt plus tolerance without an index event. -/
  | indexMissed (t : Nat) (k : Nat)
  /-- ENC_STANDSTILL (R247): No motion transition for ENC_STILL_TIME puts the interface in standstill. -/
  | encStandstill (t : Nat) (k : Nat)
  /-- FEEDBACK_SELF_SAMPLE (R237): An interface without SEs samples itself every 50 µs. -/
  | feedbackSelfSample (t : Nat) (d : Nat)
  /-- RESOLVER_SAMPLE_PAIR (R258): At each excitation peak the resolver samples sine and cosine and runs its tracking loop. -/
  | resolverSamplePair (t : Nat) (k : Nat) (sinC cosC : Int) (pos : Bool)
  /-- RES_EXC (R261): The excitation current exceeds its limit, stopping excitation and declaring the interface faulty. -/
  | resExc (t : Nat) (k : Nat)
  /-- RES_EXC_RESTART (R261): Once per second while faulty the excitation restarts. -/
  | resExcRestart (t : Nat) (k : Nat)
  /-- SSI_FRAME_START (R265): Before every k-th SE the interface clocks out an SSI frame. -/
  | ssiFrameStart (t : Nat) (k : Nat) (high : Bool)
  /-- SSI_START_TIMEOUT (R263): No start bit is seen within 2 µs, making a bad frame. -/
  | ssiStartTimeout (t : Nat) (k : Nat)
  /-- SSI_FRAME_CHECK (R268): A received SSI frame is decoded and checked by CRC and life counter, and bad frames are counted. -/
  | ssiFrameCheck (t : Nat) (k bits delay : Nat)
  /-- FB_RETURN (R270): A faulty interface free of its causes for 1 s returns to service. -/
  | fbReturn (t : Nat) (d : Nat)
  /-- SPEED_LOOP_TICK (R279): Each tick the speed loop updates observer, reference, limits and ID_REF and commits the setpoint set. -/
  | speedLoopTick (t : Nat) (k : Nat)
  /-- SNATCH_DWELL_END (R291): The load has stayed below the clear level for SNATCH_DWELL, so RENDER clears. -/
  | snatchDwellEnd (t : Nat) (k : Nat)
  /-- VENTED (R293): The relative load stays below VENT_DROP for VENT_DETECT, so VENTED sets and motoring torque is capped. -/
  | vented (t : Nat) (k : Nat)
  /-- VENTED_END (R294): The relative load stays at or above VENT_RETURN for VENT_DETECT, so VENTED clears. -/
  | ventedEnd (t : Nat) (k : Nat)
  /-- STANDSTILL_REACHED (R284): Speed stays below ZERO_SPEED for ZERO_TIME, ending the stop in its end state. -/
  | standstillReached (t : Nat) (k : Nat)
  /-- CHOP_MIN_ON_END (R295): CHOP_MIN_ON passes, allowing the chopper to be turned off. -/
  | chopMinOnEnd (t : Nat) (k : Nat)
  /-- CHOP_ENERGY_UPDATE (R296): Every 1 ms the resistor energy model of each link is updated and CHOP_HOT set or cleared. -/
  | chopEnergyUpdate (t : Nat)
  /-- LINK_UV (R302): The link stays below LINK_UV_TRIP for 1 ms while an axis switches. -/
  | linkUv (t : Nat) (k : Nat)
  /-- EC_SAMPLE (R304): An emergency command pin reading is filtered into EC_VALUE and may start switching at EC_START. -/
  | ecSample (t : Nat) (k : Nat) (raw : Int) (freq : Nat) (quiet : Bool)
  /-- EC_LOST (R305): A loss condition lasts EC_LOSS_TIME, so EC_LOST sets and an EMERGENCY axis stops. -/
  | ecLost (t : Nat) (k : Nat)
  /-- EC_BACK (R305): The pin is free of loss conditions for 1 s, so EC_LOST clears. -/
  | ecBack (t : Nat) (k : Nat)
  /-- RING_CYCLE_START (R330): The cycle master starts a tray cycle and every member raises E12 at its hive-time boundary. -/
  | ringCycleStart (t : Nat)
  /-- TRAY_RECEIVED (R328): A member writes its slot into a passing tray, adds delays and forwards it after 120 ns. -/
  | trayReceived (t : Nat) (p : Nat) (bs : Bytes) (frac : Nat)
  /-- VIEW_CLOSE (R332): A member closes its view of a cycle and writes the tray image and share record. -/
  | viewClose (t : Nat)
  /-- RING_DELAY_REQUEST (R337): A neighbour's delay request arrives and is answered with a delay response. -/
  | ringDelayRequest (t : Nat) (p seq member turn : Nat)
  /-- RING_DELAY_RESPONSE (R337): A delay response updates the averaged link delay. -/
  | ringDelayResponse (t : Nat) (p seq member turn rtt : Nat)
  /-- PAIR_DOWN (R321): A receive pair goes down and the receiver switches pair, or the port falls silent and folds. -/
  | pairDown (t : Nat) (p pair : Nat)
  /-- PAIR_UP (R321): A down pair comes up after 1,000 good characters. -/
  | pairUp (t : Nat) (p pair : Nat)
  /-- PORT_READY (R350): A port has been up for 100 ms with the right neighbour, setting its ready bit. -/
  | portReady (t : Nat) (p : Nat)
  /-- CYCLE_MASTER_TAKEOVER (R351): No tray header for 30 µs makes the lowest live member cycle master of its segment. -/
  | cycleMasterTakeover (t : Nat)
  /-- RING_LOST (R352): Both ports are down for 3 cycles, so the member enters OWN_CMD and applies RING_FALLBACK. -/
  | ringLost (t : Nat)
  /-- MEMBER_JOINING (R354): A LISTENING member whose hive axis runs starts JOINING on its own. -/
  | memberJoining (t : Nat)
  /-- JOIN_RAMP_END (R341): The join ramp ends after HANDOVER_TIME and the member becomes CONTRIBUTING. -/
  | joinRampEnd (t : Nat)
  /-- LEAVE_RAMP_END (R355): The leave ramp ends and the member becomes LEFT. -/
  | leaveRampEnd (t : Nat)
  /-- HIVE_EN_WRITE (R353): HIVE_EN takes effect and the member starts idles on its ports to join the ring. -/
  | hiveEnWrite (t : Nat) (v : Nat)
  /-- DESAT (R379): After blanking the desaturation sense exceeds DESAT_LEVEL for 100 ns and the channel starts two-step soft-off. -/
  | desat (t : Nat) (c : Nat)
  /-- SOFT_OFF_LEVEL_END (R380): SOFT_TIME at SOFT_LEVEL ends and the channel sinks SOFT_SINK. -/
  | softOffLevelEnd (t : Nat) (c : Nat)
  /-- GATE_OFF_DETECTED (R373): The gate falls to OFF_THRESH, the Miller clamp engages and the partner is told. -/
  | gateOffDetected (t : Nat) (c : Nat)
  /-- GATE_STAGE_CHANGE (R367): The gate slope moves a switching channel into its next stage and the plateau duration is measured. -/
  | gateStageChange (t : Nat) (c what plateau : Nat)
  /-- DEAD_TIME_EXPIRED (R370): The opposite gate has been off for DEAD_TIME, so a waiting turn-on proceeds. -/
  | deadTimeExpired (t : Nat) (c : Nat)
  /-- GATE_STUCK (R371): The opposite gate is not off 10 µs after its turn-off command. -/
  | gateStuck (t : Nat) (c : Nat)
  /-- CELL_LINK_LOSS (R364): No valid frame for 2.0 µs makes the cell soft-off and the module raise CELL_LINK. -/
  | cellLinkLoss (t : Nat) (g : Nat)
  /-- CELL_STATUS_FRAME (R364): A cell sends its status frame every 1.0 µs. -/
  | cellStatusFrame (t : Nat) (g bootV vglp : Nat) (vgln : Int)
  /-- CROSS_CMD (R372): A cell is commanded to turn both channels on and refuses it. -/
  | crossCmd (t : Nat) (g : Nat)
  /-- BOOTSTRAP (R376): BOOT_V stays below BOOT_UV for 1.0 µs. -/
  | bootstrap (t : Nat) (g v : Nat)
  /-- GATE_SUPPLY (R378): A gate supply is out of range for 5 µs. -/
  | gateSupply (t : Nat) (c : Nat) (bad : Bool)
  /-- CHOP_OC (R386): The chopper sense exceeds CHOP_OC for 200 ns and the chopper soft-offs. -/
  | chopOc (t : Nat) (k : Nat)
  /-- DG_EDGE (R389): A DG pin edge reaches its gate in direct mode or counts a conflict outside it. -/
  | dgEdge (t : Nat) (p : Nat) (high : Bool)
  /-- OC_BACKSTOP (R396): A gate of an overcurrent bridge is still on 2.0 µs after detection, so the Cellar holds off the bridge. -/
  | ocBackstop (t : Nat) (b : Nat)
  /-- HOLDOFF_REQUEST (R395): The house cores request a hold-off or its release through the Cellar mailbox. -/
  | holdoffRequest (t : Nat) (mask : Nat) (on : Bool)
  /-- HOLDOFF_RELEASE (R395): No hold-off cause applies to a cell any more, so the Cellar releases it. -/
  | holdoffRelease (t : Nat) (g : Nat)
  /-- ASC_RELEASE (R382): Phase currents stay below ASC_RELEASE for 100 ms, ending the active short. -/
  | ascRelease (t : Nat) (k : Nat)
  /-- STO_INPUT_CHANGE (R391): An STO input crosses its threshold. -/
  | stoInputChange (t : Nat) (which : Nat) (high : Bool)
  /-- STO_DEMAND (R392): An STO low lasts STO_FILT and every axis goes to STO or SS1 stopping. -/
  | stoDemand (t : Nat)
  /-- STO_RELEASE (R395): Both STO inputs are high for STO_FILT with no discrepancy, releasing the STO hold-off. -/
  | stoRelease (t : Nat)
  /-- STO_DISCREPANCY (R394): STO_A and STO_B differ for STO_DISC_TIME. -/
  | stoDiscrepancy (t : Nat)
  /-- SS1_TIMEOUT (R393): SS1_TIME after the demand the Cellar holds off all cells. -/
  | ss1Timeout (t : Nat)
  /-- PRECHECK_PUMP_DEADLINE (R397): At 100 ms every BOOT_V of the bridge must have reached BOOT_WARN. -/
  | precheckPumpDeadline (t : Nat) (k : Nat)
  /-- GATE_LOOP_TEST (R398): A channel's gate loop test ends with pass, GATE_OPEN or GATE_SHORT. -/
  | gateLoopTest (t : Nat) (k : Nat) (reached : Bool) (ns mv : Nat)
  /-- DESAT_TEST (R399): A channel's desaturation test ends with pass or DESAT_PATH. -/
  | desatTest (t : Nat) (k : Nat) (trips rises : Bool)
  /-- PHASE_TEST (R400): A phase test ends with pass, SWITCH_SHORT or PHASE_OPEN, or is skipped below 50 V. -/
  | phaseTest (t : Nat) (k : Nat) (off node : List Nat)
  /-- SENSING_TEST (R397): The precheck sensing test ends with pass, SENSE_OFFSET, SD_STREAM or SENSE_REF. -/
  | sensingTest (t : Nat) (k : Nat) (zero : List (List Int)) (ref0 ref1 : List Int)
  /-- CHOPPER_TEST (R397): The precheck chopper tests of the link's channel end. -/
  | chopperTest (t : Nat) (k : Nat) (reached : Bool) (ns mv : Nat) (trips : Bool)
  /-- PRECHECK_BRIDGE_DONE (R397): A bridge result is written and the hold-off request withdrawn, moving to the next bridge or to READY. -/
  | precheckBridgeDone (t : Nat) (k : Nat)
  /-- FAULT_WAIT_EXPIRED (R402): The auto-clear wait ends and the axis returns if the cause has cleared, or uses a try. -/
  | faultWaitExpired (t : Nat) (k : Nat)
  /-- TEMP_WINDOW (R411): Every 100 µs all sensors are read, checked, substituted and the thermal states and level updated. -/
  | tempWindow (t : Nat) (counts : List Nat)
  /-- TS_PLAUSIBLE (R420): A broken sensor has 10,000 plausible readings and clears TS_BROKEN. -/
  | tsPlausible (t : Nat) (n : Nat)
  /-- THERMAL_STATE_CHANGE (R422): The wanted hot or cold state has differed for 2 s, so the state changes. -/
  | thermalStateChange (t : Nat) (which : Nat)
  /-- THERMAL_SD_RELEASE (R427): All sensors stay at or below 105 °C for 10 s and the Cellar releases THERMAL_SD. -/
  | thermalSdRelease (t : Nat)
  /-- TH_GRACE_EXPIRED (R429): The grace time passes in THROTTLE and enforcement starts. -/
  | thGraceExpired (t : Nat) (w : Nat)
  /-- TH_REQUEST_REPEAT (R429): Every 1 s in THROTTLE without TH_ACK, TH_REQUEST is repeated. -/
  | thRequestRepeat (t : Nat) (w : Nat)
  /-- TH_ACK (R429): The owner writes TH_ACK 1, stopping the request repetition. -/
  | thAck (t : Nat)
  /-- HOLD60_END (R419): 60 s after the hottest sensor broke, TH_LEVEL may fall again. -/
  | hold60End (t : Nat)
  /-- NTC_SAMPLE (R434): Every 10 ms an NTC input is converted and checked for open or short. -/
  | ntcSample (t : Nat) (k code : Nat)
  /-- JUNCTION_UPDATE (R435): Every 1 ms the junction estimate of each switch position is updated. -/
  | junctionUpdate (t : Nat)
  /-- JT_CAL_CMD (R439): A write of JT_CAL_CMD starts the pulse test or is answered NOT_READY. -/
  | jtCalCmd (t : Nat) (b v : Nat)
  /-- JT_PULSE (R439): Every 10 ms a calibration pulse is applied and its plateau recorded. -/
  | jtPulse (t : Nat) (b plateau : Nat)
  /-- JT_CAL_DONE (R440): The pulse test ends and point 1 or 2 is stored or refused. -/
  | jtCalDone (t : Nat) (b : Nat)
  /-- LIFE_UPDATE (R445): Every second LIFE_USED is increased from the hottest die reading. -/
  | lifeUpdate (t : Nat)
  /-- WEAR_SAVE (R447): Every 24 h of powered time LIFE_USED and CELL_CYCLES are saved. -/
  | wearSave (t : Nat)
  /-- SPI_WRITE (R472): An SPI WRITE transaction enters one packet into Q12. -/
  | spiWrite (t : Nat) (bs : Bytes)
  /-- SPI_READ (R472): An SPI READ transaction returns the oldest Q16 entry and removes it when fully clocked. -/
  | spiRead (t : Nat) (n : Nat)
  /-- SPI_STATUS (R471): An SPI STATUS transaction returns Q12 free space and Q16 entries; the bytes of one that is neither WRITE nor READ,
  code first. -/
  | spiStatus (t : Nat) (bs : Bytes)
  /-- OPEN (R460): OPEN opens a session, fixing its rank and optionally deriving a session key. -/
  | openSession (t : Nat) (tp : Transport)
  /-- CLOSE (R465): CLOSE ends the session after its reply. -/
  | closeSession (t : Nat) (tp : Transport)
  /-- HEARTBEAT (R464): HEARTBEAT returns device and axis states and the owner, and restarts timers. -/
  | heartbeat (t : Nat) (tp : Transport)
  /-- CLAIM (R496): CLAIM asks for ownership, by pre-emption, handover or election. -/
  | claim (t : Nat) (tp : Transport)
  /-- RELEASE (R500): RELEASE ends the owner's ownership and the backup order is walked. -/
  | release (t : Nat) (tp : Transport)
  /-- HANDOVER (R498): HANDOVER offers ownership to a target session. -/
  | handover (t : Nat) (tp : Transport)
  /-- GET (R479): GET reads listed parameters through their access classes. -/
  | getParams (t : Nat) (tp : Transport)
  /-- SET (R480): SET checks every item and then writes all or none. -/
  | setParams (t : Nat) (tp : Transport)
  /-- PARAMETER_WRITE (R480): A write to a parameter or register without a row of its own takes effect as its owning chapter gives. -/
  | parameterWrite (t : Nat) (pn v : Nat)
  /-- GET_BLOCK (R482): GET_BLOCK reads a run of parameters in one or more packets. -/
  | getBlock (t : Nat) (tp : Transport)
  /-- SET_BLOCK (R481): SET_BLOCK collects a transfer and applies it as a SET at its last command. -/
  | setBlock (t : Nat) (tp : Transport)
  /-- SNAPSHOT (R483): SNAPSHOT reads values from one state of the parameter image at its anchor. -/
  | snapshot (t : Nat) (tp : Transport)
  /-- ENABLE (R758): ENABLE takes a READY axis to RUNNING, or an EMERGENCY axis to STOPPING, or is refused. -/
  | enable (t : Nat) (tp : Transport)
  /-- DISABLE (R283): DISABLE stops or disables an axis, always answered DONE. -/
  | disable (t : Nat) (tp : Transport)
  /-- SETPOINT (R278): SETPOINT stores the torque or speed command of an axis. -/
  | setpoint (t : Nat) (tp : Transport)
  /-- MODE_DEVICE (R56): MODE addressed to the device changes device state under Table 2.2. -/
  | modeDevice (t : Nat) (tp : Transport)
  /-- MODE_AXIS (R480): MODE addressed to an axis writes CTRL_MODE and AXIS_CMD as one SET. -/
  | modeAxis (t : Nat) (tp : Transport)
  /-- PRECHECK (R397): PRECHECK starts the configuration checks and off-state diagnostics of an axis. -/
  | precheck (t : Nat) (tp : Transport)
  /-- QUICKSTOP (R283): QUICKSTOP stops an axis at QSTOP_RAMP to READY, always answered DONE. -/
  | quickstop (t : Nat) (tp : Transport)
  /-- FAULT_CLEAR_AXIS (R402): FAULT_CLEAR to an axis returns a latched axis whose cause cleared and clears chopper faults. -/
  | faultClearAxis (t : Nat) (tp : Transport)
  /-- FAULT_CLEAR_DEVICE (R65): FAULT_CLEAR to the device ends RECOVERY when both pairs are live and synchronised. -/
  | faultClearDevice (t : Nat) (tp : Transport)
  /-- SUBSCRIBE (R485): SUBSCRIBE adds event classes and sets telemetry. -/
  | subscribe (t : Nat) (tp : Transport)
  /-- UNSUBSCRIBE (R485): UNSUBSCRIBE removes event classes and may end telemetry. -/
  | unsubscribe (t : Nat) (tp : Transport)
  /-- FORAGER_LOAD (R606): FORAGER_LOAD writes and cleans program words of an idle or halted channel. -/
  | foragerLoad (t : Nat) (tp : Transport)
  /-- FORAGER_START (R610): FORAGER_START starts named idle or halted channels from a clean state. -/
  | foragerStart (t : Nat) (tp : Transport)
  /-- FORAGER_STOP (R611): FORAGER_STOP issues no further beats on the named channels. -/
  | foragerStop (t : Nat) (tp : Transport)
  /-- STOP_DRAINED (R611): The write responses of a stopped channel are in, so it enters IDLE with STOPPED. -/
  | stopDrained (t : Nat) (c : Nat)
  /-- PANTRY_DISARM (R644): PANTRY_ARM action 0 closes the frame and disarms, keeping the recording. -/
  | pantryDisarm (t : Nat) (tp : Transport)
  /-- PANTRY_ARM (R644): PANTRY_ARM action 1 discards the recording, writes a new header and arms. -/
  | pantryArm (t : Nat) (tp : Transport)
  /-- PANTRY_TRIGGER (R645): PANTRY_ARM action 2 triggers the recorder. -/
  | pantryTrigger (t : Nat) (tp : Transport)
  /-- PANTRY_READ (R655): PANTRY_READ stages recording or fault ring bytes through Q29. -/
  | pantryRead (t : Nat) (tp : Transport) (bad : List Nat)
  /-- ATTIC_READ (R513): ATTIC_READ returns one generation of a slot. -/
  | atticRead (t : Nat) (tp : Transport)
  /-- ATTIC_WRITE (R510): ATTIC_WRITE is judged and then programs the lowest erased generation. -/
  | atticWrite (t : Nat) (tp : Transport)
  /-- ATTIC_PROGRAM_DONE (R511): Attic programming and read-back end and the write completes DONE or LOCKED. -/
  | atticProgramDone (t : Nat) (pass : Bool)
  /-- ATTIC_JOURNAL (R513): ATTIC_JOURNAL returns the journal entry of a generation. -/
  | atticJournal (t : Nat) (tp : Transport)
  /-- IMAGE_LOAD (R662): IMAGE_LOAD erases and programs bytes of a wing or its header. -/
  | imageLoad (t : Nat) (tp : Transport)
  /-- IMAGE_LOAD_DONE (R662): The bytes of an IMAGE_LOAD are programmed and it is answered DONE. -/
  | imageLoadDone (t : Nat)
  /-- IMAGE_VERIFY (R666): IMAGE_VERIFY starts the header, version and CRC checks of a wing. -/
  | imageVerify (t : Nat) (tp : Transport)
  /-- IMAGE_VERIFY_DONE (R666): The wing checks end and IMAGE_VERIFY completes. -/
  | imageVerifyDone (t : Nat)
  /-- IMAGE_SWITCH (R667): IMAGE_SWITCH starts a live or rebooting switch to a target wing. -/
  | imageSwitch (t : Nat) (tp : Transport)
  /-- SWITCH_CHECKS_DONE (R667): The target wing checks end, failing the switch, rebooting, or stopping the standby for a live switch. -/
  | switchChecksDone (t : Nat) (ok : Bool)
  /-- STANDBY_SYNCED (R668): The standby runs the target image synchronised, and at H the active pair stops committing. -/
  | standbySynced (t : Nat) (ok : Bool)
  /-- NEW_PAIR_COMMIT (R669): The new pair commits its first setpoint sets and ACTIVE_PAIR changes. -/
  | newPairCommit (t : Nat)
  /-- FORMER_PAIR_SYNCED (R668): On a lasting switch the former pair synchronises on the target and the wing pointer is written. -/
  | formerPairSynced (t : Nat) (ok : Bool)
  /-- RECAL (R676): RECAL folds a bridge's online corrections into its stored values. -/
  | recal (t : Nat) (tp : Transport)
  /-- RECAL_DONE (R676): The folded values are written to the configuration area and RECAL completes. -/
  | recalDone (t : Nat)
  /-- LANE_SWAP (R672): LANE_SWAP moves an axis to another lane or is refused. -/
  | laneSwap (t : Nat) (tp : Transport)
  /-- LANE_SWAP_DONE (R673): The target lane computes its first period and the swap completes. -/
  | laneSwapDone (t : Nat) (k : Nat)
  /-- HIVE_LEAVE (R355): HIVE_LEAVE sets LEAVING and ramps the weight down. -/
  | hiveLeave (t : Nat) (tp : Transport)
  /-- HIVE_JOIN (R354): HIVE_JOIN allows a member that left to join again. -/
  | hiveJoin (t : Nat) (tp : Transport)
  /-- SOFT_RESET (R756): SOFT_RESET with the confirm value schedules BOOT at the end of its reply. -/
  | softReset (t : Nat) (tp : Transport)
  /-- SESSION_IDLE_TIMEOUT (R463): A session's idle timer reaches its timeout and the session closes. -/
  | sessionIdleTimeout (t : Nat) (n : Nat)
  /-- AUTH_PROOF_TIMEOUT (R519): An authenticated session not proven within 1 s is closed. -/
  | authProofTimeout (t : Nat) (n : Nat)
  /-- TELEMETRY (R487): Every TEL_PERIOD a telemetry notification is sent to the session. -/
  | telemetry (t : Nat) (n : Nat)
  /-- COMPLETION_NOTIFICATION (R486): A completion notification waits until it fits its reply queue and is written. -/
  | completionNotification (t : Nat)
  /-- REASSEMBLY_TIMEOUT (R475): A transfer has no frame for 50 ms (5 ms on the ring) and is discarded. -/
  | reassemblyTimeout (t : Nat)
  /-- ELECTION_CLOSE (R496): The 50 ms election window closes and the highest-ranked claimant becomes owner. -/
  | electionClose (t : Nat)
  /-- HANDOVER_LAPSE (R498): No CLAIM from the target within 1 s, so the offer lapses. -/
  | handoverLapse (t : Nat)
  /-- OWNER_HEARTBEAT_TIMEOUT (R500): The owner's heartbeat timer reaches HEARTBEAT_TO and ownership ends. -/
  | ownerHeartbeatTimeout (t : Nat)
  /-- EMERGENCY_DELAY (R502): The ownerless timer reaches EMERG_DELAY and configured axes enter EMERGENCY. -/
  | emergencyDelay (t : Nat)
  /-- QUEUE_WRITE (R36): An entry is written to a queue if it fits, or overflow is counted. -/
  | queueWrite (t : Nat) (q : Nat) (data : Bytes) (dest port : Nat)
  /-- HALLWAY_ACCESS (R29): A master's Larder access is checked against Table 1.5 and refused or served. -/
  | hallwayAccess (t : Nat) (m a n : Nat) (wr : Bool) (bs : Bytes) (bad : List Nat)
  /-- LARDER_SCRUB (R31): The scrubber reads and corrects Larder words in idle Hallway cycles. -/
  | larderScrub (t : Nat) (w : Nat) (bad : List Nat)
  /-- SWARM_FRAME_RECEIVED (R538): A valid frame is received and filtered, reassembled, forwarded or given to the claim logic. -/
  | swarmFrameReceived (t : Nat) (p kind id : Nat) (brs esi : Bool) (data : Bytes) (rx : RxBits)
  /-- RECEIVE_ENTRY_TAKE (R541): The house cores take a queue A or B entry. -/
  | receiveEntryTake (t : Nat) (q : Nat)
  /-- SWARM_FRAME_SENT (R542): A frame is sent and the port offers its next lowest identifier. -/
  | swarmFrameSent (t : Nat) (p dur tdc : Nat)
  /-- SWARM_TX_ERROR (R544): A transmission loses arbitration or meets an error and the counters change. -/
  | swarmTxError (t : Nat) (p : Nat) (err : TxErr) (dur : Nat)
  /-- FRAME_LIFETIME_END (R545): A queued frame's lifetime ends and it is removed. -/
  | frameLifetimeEnd (t : Nat) (p : Nat)
  /-- BUSOFF_REQ_DELAY (R549): BUSOFF_REQ_DELAY after bus-off the house cores request recovery. -/
  | busoffReqDelay (t : Nat) (p : Nat)
  /-- SB_RECOVER (R549): The owner writes a recovery request for a bus-off port. -/
  | sbRecover (t : Nat) (mask : Nat)
  /-- BUS_OFF_RECOVERED (R550): 128 occurrences of 11 recessive bits return the port to error active. -/
  | busOffRecovered (t : Nat) (p : Nat)
  /-- STATUS_FRAME (R537): Every STATUS_PERIOD a STATUS frame is queued. -/
  | statusFrame (t : Nat)
  /-- SB_EN (R530): The owner enables or disables a port, with the timing checked. -/
  | sbEn (t : Nat) (p v : Nat)
  /-- ADDR_CLAIMED (R554): CLAIM_WAIT passes without loss and the address is held. -/
  | addrClaimed (t : Nat)
  /-- ADDR_RECLAIM (R557): Every 10 s, or from the pool, the module claims an address again. -/
  | addrReclaim (t : Nat)
  /-- BASIC_CYCLE_START (R574): At a basic cycle start a time source sends its reference. -/
  | basicCycleStart (t : Nat)
  /-- COMB_WINDOW_START (R592): A Comb window starts and the port applies its window type. -/
  | combWindowStart (t : Nat) (p : Nat)
  /-- REFERENCE_MESSAGE (R579): An accepted reference corrects, steps or sets swarm time. -/
  | referenceMessage (t : Nat) (p id : Nat) (data : Bytes) (rx : RxBits)
  /-- DELAY_REQUEST_SEND (R576): Every DELAY_INTERVAL the follower sends a delay request. -/
  | delayRequestSend (t : Nat)
  /-- DELAY_REQUEST_MESSAGE (R575): A time source answers a delay request within 5 ms. -/
  | delayRequestMessage (t : Nat) (p id : Nat) (data : Bytes) (rx : RxBits)
  /-- DELAY_RESPONSE_MESSAGE (R576): A delay response updates PROP_DELAY. -/
  | delayResponseMessage (t : Nat) (p id : Nat) (data : Bytes) (rx : RxBits)
  /-- TIME_HOLDOVER (R581): No reference for 3 cycles makes the follower enter HOLDOVER. -/
  | timeHoldover (t : Nat)
  /-- TIME_LOST (R581): HOLDOVER_MAX expires and swarm time becomes not valid. -/
  | timeLost (t : Nat)
  /-- BECOME_MASTER (R584): A potential master hears no better key for its delay and becomes MASTER. -/
  | becomeMaster (t : Nat)
  /-- MASTER_BY_RANK (R585): A potential master synced to a worse key for 16 cycles becomes MASTER. -/
  | masterByRank (t : Nat)
  /-- TIME_SET (R588): The owner sets the master's time, stepped at the next cycle start. -/
  | timeSet (t : Nat) (v : Nat)
  /-- SWARM_SECOND (R572): Swarm time passes a whole second, raising E13 and latching HIVE_AT_SECOND. -/
  | swarmSecond (t : Nat)
  /-- COMB_WAIT_END (R595): HOLDOVER_MAX passes without a reference and the Comb is suspended. -/
  | combWaitEnd (t : Nat) (p : Nat)
  /-- RELAY_RESUME (R590): A relay resumes after 3 cycles without a better reference. -/
  | relayResume (t : Nat) (q : Nat)
  /-- END (R613): END puts the channel in IDLE with DONE once its writes are answered. -/
  | endProgram (t : Nat) (c : Nat) (ded : List Nat)
  /-- MOVE (R616): MOVE copies between memory and queues, waiting on an empty queue. -/
  | move (t : Nat) (c : Nat) (ded : List Nat)
  /-- LOOP (R618): LOOP decrements its counter and jumps back. -/
  | loop (t : Nat) (c : Nat) (ded : List Nat)
  /-- WAIT (R622): WAIT completes on a set latch or enters WAITING. -/
  | wait (t : Nat) (c : Nat) (ded : List Nat)
  /-- SIGNAL (R620): SIGNAL raises an event line E48 to E63. -/
  | signal (t : Nat) (c : Nat) (ded : List Nat)
  /-- SETX_LOAD (R613): SETX LOAD writes an immediate into a register. -/
  | setxLoad (t : Nat) (c : Nat) (ded : List Nat)
  /-- SETX_ADD (R613): SETX ADD adds an immediate to a register. -/
  | setxAdd (t : Nat) (c : Nat) (ded : List Nat)
  /-- SETX_LOADM (R613): SETX LOADM loads a register from memory. -/
  | setxLoadm (t : Nat) (c : Nat) (ded : List Nat)
  /-- SETX_COPY (R613): SETX COPY copies one register into another. -/
  | setxCopy (t : Nat) (c : Nat) (ded : List Nat)
  /-- SETX_AND (R613): SETX AND masks a register with an immediate. -/
  | setxAnd (t : Nat) (c : Nat) (ded : List Nat)
  /-- SETX_PLANE (R613): SETX PLANE loads the newest complete sample record address of a lane. -/
  | setxPlane (t : Nat) (c : Nat) (ded : List Nat)
  /-- SHUF (R632): SHUF copies strided elements between Larder regions. -/
  | shuf (t : Nat) (c : Nat) (ded : List Nat)
  /-- CRC (R631): CRC feeds data into the channel's CRC-32C in BOOT, TEST or RECOVERY. -/
  | crc (t : Nat) (c : Nat) (ded : List Nat)
  /-- EVENT_LINE_RAISE (R621): An event line is raised and sets latches or completes waits. -/
  | eventLineRaise (t : Nat) (k : Nat)
  /-- WAIT_TIMEOUT (R622): A WAIT's TIMEOUT passes and the channel halts. -/
  | waitTimeout (t : Nat) (c : Nat)
  /-- WRITE_BEAT_RESPONSE (R628): A write beat response arrives, completing, reissuing or halting. -/
  | writeBeatResponse (t : Nat) (c : Nat) (ok : Bool)
  /-- FG_DISABLE (R612): The owner pauses or resumes a channel at a beat boundary. -/
  | fgDisable (t : Nat) (c v : Nat)
  /-- PUBLISH_RECORD (R633): Every PUB_PERIOD a publish record is written, cleaned and signalled. -/
  | publishRecord (t : Nat) (k : Nat)
  /-- PANTRY_SAMPLE (R641): A channel takes a sample, compresses it and may close a frame. -/
  | pantrySample (t : Nat) (c : Nat)
  /-- FAULT_RECORD_COPY (R658): A fault record entry is copied into the configuration area. -/
  | faultRecordCopy (t : Nat) (j : Nat)
  /-- PORCH_TRANSACTION (R685): A Porch transaction is received and answered. -/
  | porchTransaction (t : Nat) (space : Nat) (wr : Bool) (a hchk v dchk : Nat) (hold : Bool)
  /-- PORCH_IDLE_RESET (R687): Thirty-two low cycles return the Porch logic to idle. -/
  | porchIdleReset (t : Nat)
  /-- PORCH_STAT_CLEAR (R688): Writing ones clears sticky bits of PORCH_STAT. -/
  | porchStatClear (t : Nat) (v : Nat)
  /-- NEW_CHALLENGE (R692): LOCK_CMD 1 draws a new challenge. -/
  | newChallenge (t : Nat)
  /-- VERIFY (R692): LOCK_CMD 2 starts verification of the response. -/
  | verify (t : Nat)
  /-- PORCH_VERIFY_DONE (R692): Verification ends, unlocking or counting a failure. -/
  | porchVerifyDone (t : Nat) (sig : Bool)
  /-- CHALLENGE_BLOCK_END (R693): The 1 s block after a failed response ends. -/
  | challengeBlockEnd (t : Nat)
  /-- RELOCK (R694): LOCK_CMD 3 resumes any halt, clears breakpoints and locks. -/
  | relock (t : Nat)
  /-- FULL_HALT (R696): HALT_CTRL 1 halts both pairs when allowed. -/
  | fullHalt (t : Nat)
  /-- LIVE_HALT (R699): HALT_CTRL 2 halts the standby pair. -/
  | liveHalt (t : Nat)
  /-- HALT_RESUME (R698): HALT_CTRL 3 ends a halt. -/
  | haltResume (t : Nat)
  /-- HALT_STEP (R697): HALT_CTRL 4 runs one instruction. -/
  | haltStep (t : Nat)
  /-- STANDBY_RESYNCED (R699): After a live halt the standby is synchronised again. -/
  | standbyResynced (t : Nat)
  /-- BREAKPOINT_HIT (R700): A breakpoint halts or snapshots the pair. -/
  | breakpointHit (t : Nat) (k : Nat)
  /-- WATCHPOINT_HIT (R700): A watchpoint halts or snapshots the pair. -/
  | watchpointHit (t : Nat) (k a : Nat) (wr : Bool)
  /-- MEM_DATA (R702): A MEM_DATA access reads or writes the Larder. -/
  | memData (t : Nat) (wr : Bool) (v : Nat) (hold : Bool)
  /-- REG_DATA (R703): A REG_DATA access reads or writes a core register. -/
  | regData (t : Nat) (wr : Bool) (v : Nat)
  /-- TXLEN (R704): TXLEN starts a Porch packet. -/
  | txlen (t : Nat) (n : Nat)
  /-- TXDATA (R704): TXDATA adds four bytes and enters the packet into Q15 with its last word. -/
  | txdata (t : Nat) (v : Nat)
  /-- RXDATA (R704): RXDATA reads a reply word and removes the entry at its last word. -/
  | rxdata (t : Nat)
  /-- EXTEST (R706): EXTEST drives pins from the chain and holds the control die in reset. -/
  | extest (x : Scan)
  /-- SAMPLE_PRELOAD (R705): SAMPLE/PRELOAD observes the pins. -/
  | samplePreload (x : Scan)
  /-- CLAMP (R706): CLAMP holds outputs from the chain and resets the control die. -/
  | clamp (x : Scan)
  /-- HIGHZ (R706): HIGHZ makes outputs high-impedance and resets the control die. -/
  | highz (x : Scan)
  /-- IDCODE (R705): IDCODE selects the identification register. -/
  | idcode (x : Scan)
  /-- BYPASS (R705): BYPASS selects the bypass register. -/
  | bypass (x : Scan)
  /-- TEST_LOGIC_RESET (R706): The TAP enters Test-Logic-Reset and ends any scan reset, so the module boots. -/
  | testLogicReset (t : Nat)
  /-- SUPPLY_MEASURE (R734): Every 1 ms the feeds and VSUP are measured and SUPPLY_STATUS set. -/
  | supplyMeasure (t : Nat) (vinA vinB : Int) (vsup cur : Nat)
  /-- FEED_REVERSE (R717): VSUP exceeds VIN by 10 mV and the feed MOSFET is turned off. -/
  | feedReverse (t : Nat) (x : Nat)
  /-- FEED_FORWARD (R717): The forward condition returns and the feed MOSFET is enhanced. -/
  | feedForward (t : Nat) (x : Nat) (vin : Int)
  /-- CARRIER_PEAK_SAMPLE (R182): At SE + T/2 at single update, the converters of a shunt bridge repeat their sequence at the carrier peak for calibration only. -/
  | carrierPeakSample (t : Nat) (n : Nat) (samples : List (List Int × List Nat))
  /-- EDGE_AT_GATE_PIN (R39): A placed PWM edge reaches the gate pin at its placed time and commands a switch on or off, starting the interlock wait or the turn-off stages. -/
  | edgeAtGatePin (t : Nat) (c : Nat) (on : Bool)
  /-- SWARM_RX_ERROR (R546): A port detects a bus error while receiving, signals it, changes REC and may change its error state with an ERR_STATE event. -/
  | swarmRxError (t : Nat) (p : Nat) (by8 : Bool)
  /-- PORT_INTEGRATED (R526): An integrating port, after enable or after a protocol exception on a recessive res bit, sees the bus idle and becomes error active. -/
  | portIntegrated (t : Nat) (p : Nat)
  /-- FAULT_CLEARED (R404): A fault whose clear condition needs a dwell, such as 10 ms of toggling streams, valid cell-link frames or supplies in range, or 1 s without a foreign tray, meets it and is marked cleared with a FAULT_CLEARED event and CLEARED_TIME. -/
  | faultCleared (t : Nat) (code inst : Nat)
  /-- REJECTED_PACKET (R457): A packet taken from an input queue that has no valid opcode, or cannot be bound to a session, is answered BAD_LENGTH, BAD_CHECK, BAD_OPCODE or NO_SESSION and leaves NEXT_SEQ unchanged. -/
  | rejectedPacket (t : Nat) (tp : Transport)
  deriving DecidableEq, Repr

end Sys2Proof
end

