-- ==== Sys2Proof/Machine/Crypto.lean ====
section
/-!
DEFINITION. The check and authentication functions of the command packets: CRC-32C (R453), and SHA-256 with HMAC
(R454, R517). The manual names SHA-256 and HMAC without defining them; they are taken from their standards
(PRESUMED, log entry 2).
-/
namespace Sys2Proof.Machine

/-- One bit of the reflected CRC-32C. -/
def crcBit (c : Nat) : Nat := if c % 2 = 1 then Nat.xor (c / 2) 0x82F63B78 else c / 2

/-- One byte of the CRC-32C, taken from bit 0. -/
def crcByte (c : Nat) (b : Byte) : Nat :=
  let c := Nat.xor c b.toNat
  crcBit (crcBit (crcBit (crcBit (crcBit (crcBit (crcBit (crcBit c)))))))

/-- CRC-32C of a byte string without the final exclusive-or, from a running value (R607). -/
def crcRun (c : Nat) (bs : Bytes) : Nat := bs.foldl crcByte c

/-- CRC-32C of R453. -/
def crc32c (bs : Bytes) : Nat := Nat.xor (crcRun 0xFFFFFFFF bs) 0xFFFFFFFF

/-- Addition of 32-bit words. -/
def add32 (a b : Nat) : Nat := (a + b) % 0x100000000

/-- Rotation of a 32-bit word to the right. -/
def rotr32 (n x : Nat) : Nat := (x / 2 ^ n + x * 2 ^ (32 - n)) % 0x100000000

/-- Complement of a 32-bit word. -/
def not32 (x : Nat) : Nat := 0xFFFFFFFF - x

/-- The largest r + x below r + 2^b whose n-th power is at most t, found bit by bit from the top. -/
def rootFrom (n t : Nat) : Nat → Nat → Nat
  | 0, r => r
  | b + 1, r => rootFrom n t b (if (r + 2 ^ b) ^ n ≤ t then r + 2 ^ b else r)

/-- The first 32 bits of the fraction of the n-th root of p, a number whose root is below 8. -/
def rootBits (n p : Nat) : Nat := rootFrom n (p * 2 ^ (32 * n)) 35 0 % 0x100000000

/-- The primes below 312, which are the first 64. -/
def primes : List Nat := (List.range 312).filter fun p => decide (2 ≤ p) && (List.range' 2 16).all fun d => decide (p ≤ d) || decide (p % d ≠ 0)

/-- The round constants of SHA-256, from the cube roots of the first 64 primes. -/
def shaK : List Nat := primes.map (rootBits 3)

/-- The initial hash value of SHA-256, from the square roots of the first 8 primes. -/
def shaInit : List Nat := (primes.take 8).map (rootBits 2)

/-- Big-endian value of a byte string. -/
def beNat (bs : Bytes) : Nat := bs.foldl (fun a b => a * 256 + b.toNat) 0

/-- The k bytes of a value, most significant first. -/
def beBytes : Nat → Nat → Bytes
  | 0, _ => []
  | k + 1, v => BitVec.ofNat 8 (v / 256 ^ k) :: beBytes k v

/-- A byte string in groups of n, with a bound on the number of groups. -/
def chunks (n : Nat) : Nat → Bytes → List Bytes
  | 0, _ => []
  | _, [] => []
  | f + 1, bs => bs.take n :: chunks n f (bs.drop n)

/-- Padding of SHA-256. -/
def shaPad (m : Bytes) : Bytes :=
  let z := (119 - m.length % 64) % 64
  m ++ [0x80#8] ++ List.replicate z 0#8 ++ beBytes 8 (8 * m.length)

/-- The message schedule, newest word first. -/
def shaExtend : Nat → List Nat → List Nat
  | 0, w => w
  | f + 1, w =>
    let g := fun i => w.getD i 0
    let s0 := Nat.xor (Nat.xor (rotr32 7 (g 14)) (rotr32 18 (g 14))) (g 14 / 8)
    let s1 := Nat.xor (Nat.xor (rotr32 17 (g 1)) (rotr32 19 (g 1))) (g 1 / 1024)
    shaExtend f ((g 15 + s0 + g 6 + s1) % 0x100000000 :: w)

/-- One round of SHA-256 on the eight working words. -/
def shaRound (st : List Nat) (kw : Nat × Nat) : List Nat :=
  match st with
  | [a, b, c, d, e, f, g, h] =>
    let s1 := Nat.xor (Nat.xor (rotr32 6 e) (rotr32 11 e)) (rotr32 25 e)
    let ch := Nat.xor (Nat.land e f) (Nat.land (not32 e) g)
    let t1 := (h + s1 + ch + kw.1 + kw.2) % 0x100000000
    let s0 := Nat.xor (Nat.xor (rotr32 2 a) (rotr32 13 a)) (rotr32 22 a)
    let mj := Nat.xor (Nat.xor (Nat.land a b) (Nat.land a c)) (Nat.land b c)
    [add32 t1 (add32 s0 mj), a, b, c, add32 d t1, e, f, g]
  | other => other

/-- One 64-byte block of SHA-256. -/
def shaBlock (h : List Nat) (blk : Bytes) : List Nat :=
  let w := (shaExtend 48 (((chunks 4 16 blk).map beNat).reverse)).reverse
  let st := (shaK.zip w).foldl shaRound h
  (h.zip st).map fun p => add32 p.1 p.2

/-- SHA-256. -/
def sha256 (m : Bytes) : Bytes :=
  let p := shaPad m
  ((chunks 64 (p.length / 64) p).foldl shaBlock shaInit).flatMap (beBytes 4)

/-- HMAC-SHA-256 keyed with k (R454, R517). -/
def hmac (k m : Bytes) : Bytes :=
  let k0 := if k.length > 64 then sha256 k else k
  let kp := k0 ++ List.replicate (64 - k0.length) 0#8
  sha256 (kp.map (· ^^^ 0x5C#8) ++ sha256 (kp.map (· ^^^ 0x36#8) ++ m))

/-- The tag of an authenticated packet: the first 8 bytes of the HMAC over header and payload (R454). -/
def packetTag (key m : Bytes) : Bytes := (hmac key m).take 8

end Sys2Proof.Machine
end

