-- ==== Sys2Proof/Machine/Params.lean ====
section
/-!
DEFINITION. The parameters of the manual: number, size, range, default, access class and state condition of each,
one line for one row of the parameter tables of the chapters (R489, Table 11.14), in the tables' order.
-/
namespace Sys2Proof.Machine

/-- The access classes of "Tables, timing and pseudocode" (chapter 0). -/
inductive Access where
  | owner | watcher | prot
  deriving DecidableEq, Repr

/-- The state condition a table marks a parameter with: D, P, C or A of its own chapter (R150, R567, R603, R660). -/
inductive Mark where
  | none | d | p | c | a
  deriving DecidableEq, Repr

/-- The Range column. `iv` a closed interval, `step` one in steps, `orVal` an interval or one more value, `oneOf` a
list, `bits` the writable bits; the rest name the range of one parameter that another parameter or table gives. -/
inductive Rng where
  | iv (lo hi : Int)
  | step (lo hi st : Int)
  | orVal (lo hi v : Int)
  | oneOf (vs : List Int)
  | bits (mask : Nat)
  | encIndexRef | winCell | fgPrio | definedPn | panSrc | panPace | panFmt
  deriving DecidableEq, Repr

/-- The Default column; the values that differ from index to index are named. -/
inductive Dflt where
  | c (v : Int)
  | shl | idx | laneRole | fgPrio | winCell | tsDiff
  | factory (which : Nat)
  deriving DecidableEq, Repr

/-- One row of a parameter table: the number of its first instance, the strides and counts of its two indexes,
the bytes of its type, whether the type is signed, range, default, access and state condition. -/
structure Par where
  base : Nat
  s1 : Nat
  n1 : Nat
  s2 : Nat
  n2 : Nat
  size : Nat
  signed : Bool
  rng : Rng
  dflt : Dflt
  acc : Access
  mark : Mark
  deriving DecidableEq, Repr

/-- The parameter number of instance (i, j). -/
def Par.pn (p : Par) (i j : Nat) : Nat := p.base + p.s1 * i + p.s2 * j

/-- The instance of a row that a parameter number names, if any. -/
def Par.index (p : Par) (pn : Nat) : Option (Nat × Nat) :=
  if pn < p.base then none
  else
    let d := pn - p.base
    if p.n2 ≤ 1 then
      if d % p.s1 = 0 ∧ d / p.s1 < p.n1 then some (d / p.s1, 0) else none
    else
      let r := d % p.s1
      if d / p.s1 < p.n1 ∧ r % p.s2 = 0 ∧ r / p.s2 < p.n2 then some (d / p.s1, r / p.s2) else none

/-- The value of a Default column at an instance. -/
def Dflt.value (d : Dflt) (i j : Nat) : Int :=
  match d with
  | .c v => v
  | .shl => (2 ^ i : Nat)
  | .idx => i
  | .laneRole => if i = 4 then 2 else 1
  | .fgPrio => if i < 4 then 0 else 3
  | .winCell => if j = 0 then 0x80 else 0
  | .tsDiff => Config.tsD0 i
  | .factory 0 => Config.deviceUid.toNat
  | .factory 1 => if Config.orderMs then 1 else 0
  | .factory 2 => Config.hwRev.toNat
  | .factory 3 => (Config.tsN25 i).toNat
  | .factory _ => (Config.tsN125 i).toNat

/-! ### Table 2.10 State and boot parameters (chapter 2) -/

def P.devState : Par := ⟨0x0010, 0x1, 1, 1, 1, 1, false, .iv 1 5, .c 1, .watcher, .none⟩
def P.bootCause : Par := ⟨0x0011, 0x1, 1, 1, 1, 1, false, .iv 0 3, .c 0, .watcher, .none⟩
def P.bootWing : Par := ⟨0x0012, 0x1, 1, 1, 1, 1, false, .iv 0 2, .c 0, .watcher, .none⟩
def P.clkStatus : Par := ⟨0x0013, 0x1, 1, 1, 1, 1, false, .bits 0x3, .c 0, .watcher, .none⟩
def P.recoveryCause : Par := ⟨0x0014, 0x1, 1, 1, 1, 1, false, .iv 0 4, .c 0, .watcher, .none⟩
def P.coreRestarts : Par := ⟨0x0015, 0x1, 1, 1, 1, 1, false, .iv 0 3, .c 0, .watcher, .none⟩
def P.bootTime : Par := ⟨0x0016, 0x1, 1, 1, 1, 4, false, .iv 0 4294967295, .c 0, .watcher, .none⟩
def P.bootFlags : Par := ⟨0x0017, 0x1, 1, 1, 1, 2, false, .bits 0xF, .c 0, .watcher, .none⟩
def P.cellAbsent : Par := ⟨0x0018, 0x1, 1, 1, 1, 2, false, .bits 0x1FFF, .c 0, .watcher, .none⟩
def P.axisState : Par := ⟨0x1000, 0x1000, 4, 1, 1, 1, false, .iv 0 9, .c 0, .watcher, .none⟩
def P.axisPrevState : Par := ⟨0x1001, 0x1000, 4, 1, 1, 1, false, .iv 0 9, .c 0, .watcher, .none⟩
def P.axisFault : Par := ⟨0x1002, 0x1000, 4, 1, 1, 2, false, .iv 0 65535, .c 0, .watcher, .none⟩
def P.retryUsed : Par := ⟨0x1003, 0x1000, 4, 1, 1, 1, false, .iv 0 7, .c 0, .watcher, .none⟩
def P.coldFlags : Par := ⟨0x1004, 0x1000, 4, 1, 1, 1, false, .bits 0x3F, .c 59, .watcher, .none⟩

/-! ### Table 3.9 Axis parameters (chapter 3) -/

def P.ctrlMode : Par := ⟨0x1100, 0x1000, 4, 1, 1, 1, false, .iv 0 1, .c 0, .owner, .none⟩
def P.grouping : Par := ⟨0x1101, 0x1000, 4, 1, 1, 1, false, .iv 0 4, .c 0, .owner, .d⟩
def P.bridgeMask : Par := ⟨0x1102, 0x1000, 4, 1, 1, 1, false, .bits 0xF, .shl, .owner, .d⟩
def P.lane : Par := ⟨0x1103, 0x1000, 4, 1, 1, 1, false, .iv 0 3, .idx, .owner, .d⟩
def P.machine : Par := ⟨0x1104, 0x1000, 4, 1, 1, 1, false, .iv 0 1, .c 0, .owner, .d⟩
def P.polePairs : Par := ⟨0x1105, 0x1000, 4, 1, 1, 1, false, .iv 1 64, .c 4, .owner, .d⟩
def P.baseCurrent : Par := ⟨0x1106, 0x1000, 4, 1, 1, 4, false, .iv 100 500000, .c 10000, .owner, .d⟩
def P.baseVoltage : Par := ⟨0x1107, 0x1000, 4, 1, 1, 4, false, .iv 1000 150000, .c 32660, .owner, .d⟩
def P.baseFreq : Par := ⟨0x1108, 0x1000, 4, 1, 1, 4, false, .iv 1000 2000000, .c 50000, .owner, .d⟩
def P.rs : Par := ⟨0x1109, 0x1000, 4, 1, 1, 4, false, .iv 0 4294967295, .c 21474836, .owner, .none⟩
def P.ld : Par := ⟨0x110A, 0x1000, 4, 1, 1, 4, false, .iv 1 4294967295, .c 134217728, .owner, .none⟩
def P.lq : Par := ⟨0x110B, 0x1000, 4, 1, 1, 4, false, .iv 1 4294967295, .c 134217728, .owner, .none⟩
def P.psi : Par := ⟨0x110C, 0x1000, 4, 1, 1, 4, false, .iv 0 4294967295, .c 1073741824, .owner, .none⟩
def P.lm : Par := ⟨0x110D, 0x1000, 4, 1, 1, 4, false, .iv 0 4294967295, .c 805306368, .owner, .none⟩
def P.lr : Par := ⟨0x110E, 0x1000, 4, 1, 1, 4, false, .iv 0 4294967295, .c 832149914, .owner, .none⟩
def P.tauR : Par := ⟨0x110F, 0x1000, 4, 1, 1, 4, false, .iv 0 10000000, .c 200000, .owner, .none⟩
def P.kpD : Par := ⟨0x1110, 0x1000, 4, 1, 1, 4, false, .iv 0 4294967295, .c 16777216, .owner, .none⟩
def P.kiD : Par := ⟨0x1111, 0x1000, 4, 1, 1, 4, false, .iv 0 4294967295, .c 10737418, .owner, .none⟩
def P.kpQ : Par := ⟨0x1112, 0x1000, 4, 1, 1, 4, false, .iv 0 4294967295, .c 16777216, .owner, .none⟩
def P.kiQ : Par := ⟨0x1113, 0x1000, 4, 1, 1, 4, false, .iv 0 4294967295, .c 10737418, .owner, .none⟩
def P.decouple : Par := ⟨0x1114, 0x1000, 4, 1, 1, 1, false, .bits 0x7, .c 7, .owner, .none⟩
def P.angleAdv : Par := ⟨0x1115, 0x1000, 4, 1, 1, 2, false, .iv 256 512, .c 384, .owner, .none⟩
def P.vmaxFrac : Par := ⟨0x1116, 0x1000, 4, 1, 1, 2, false, .iv 8000 10000, .c 9600, .owner, .none⟩
def P.imax : Par := ⟨0x1117, 0x1000, 4, 1, 1, 4, true, .iv 0 2147483647, .c 1073741824, .owner, .none⟩
def P.dtComp : Par := ⟨0x1118, 0x1000, 4, 1, 1, 1, false, .iv 0 1, .c 1, .owner, .none⟩
def P.carrierFreq : Par := ⟨0x1119, 0x1000, 4, 1, 1, 4, false, .iv 1000 40000, .c 4000, .owner, .none⟩
def P.update : Par := ⟨0x111A, 0x1000, 4, 1, 1, 1, false, .iv 0 1, .c 0, .owner, .d⟩
def P.minPulse : Par := ⟨0x111B, 0x1000, 4, 1, 1, 2, false, .iv 200 5000, .c 500, .owner, .none⟩
def P.mpcHorizon : Par := ⟨0x1120, 0x1000, 4, 1, 1, 1, false, .iv 1 3, .c 1, .owner, .none⟩
def P.mpcWD : Par := ⟨0x1121, 0x1000, 4, 1, 1, 2, false, .iv 0 65535, .c 4096, .owner, .none⟩
def P.mpcWQ : Par := ⟨0x1122, 0x1000, 4, 1, 1, 2, false, .iv 0 65535, .c 4096, .owner, .none⟩
def P.mpcLambdaSw : Par := ⟨0x1123, 0x1000, 4, 1, 1, 2, false, .iv 0 65535, .c 16, .owner, .none⟩
def P.mpcShuntSet : Par := ⟨0x1124, 0x1000, 4, 1, 1, 1, false, .iv 0 1, .c 0, .owner, .none⟩
def P.mpcHoldMax : Par := ⟨0x1125, 0x1000, 4, 1, 1, 1, false, .iv 1 4, .c 2, .owner, .none⟩
def P.sysShift1 : Par := ⟨0x1128, 0x1000, 4, 1, 1, 4, false, .iv 0 4294967295, .c 0, .owner, .d⟩
def P.sysShift2 : Par := ⟨0x1129, 0x1000, 4, 1, 1, 4, false, .iv 0 4294967295, .c 0, .owner, .d⟩
def P.sysShift3 : Par := ⟨0x112A, 0x1000, 4, 1, 1, 4, false, .iv 0 4294967295, .c 0, .owner, .d⟩
def P.balKi : Par := ⟨0x112B, 0x1000, 4, 1, 1, 2, false, .iv 0 65535, .c 256, .owner, .none⟩
def P.balLimit : Par := ⟨0x112C, 0x1000, 4, 1, 1, 4, true, .iv 0 536870912, .c 53687091, .owner, .none⟩
def P.balTrip : Par := ⟨0x112D, 0x1000, 4, 1, 1, 4, true, .iv 0 1073741824, .c 161061274, .owner, .none⟩
def P.ctrlStatus : Par := ⟨0x1140, 0x1000, 4, 1, 1, 2, false, .bits 0x3FF, .c 0, .watcher, .none⟩
def P.carrierEff : Par := ⟨0x1141, 0x1000, 4, 1, 1, 4, false, .iv 1000 40000, .c 4000, .watcher, .none⟩
def P.carrierCycles : Par := ⟨0x1142, 0x1000, 4, 1, 1, 4, false, .iv 10000 400000, .c 100000, .watcher, .none⟩
def P.idMeas : Par := ⟨0x1143, 0x1000, 4, 1, 1, 4, true, .iv (-2147483648) 2147483647, .c 0, .watcher, .none⟩
def P.iqMeas : Par := ⟨0x1144, 0x1000, 4, 1, 1, 4, true, .iv (-2147483648) 2147483647, .c 0, .watcher, .none⟩
def P.vdOut : Par := ⟨0x1145, 0x1000, 4, 1, 1, 4, true, .iv (-2147483648) 2147483647, .c 0, .watcher, .none⟩
def P.vqOut : Par := ⟨0x1146, 0x1000, 4, 1, 1, 4, true, .iv (-2147483648) 2147483647, .c 0, .watcher, .none⟩
def P.modIndex : Par := ⟨0x1147, 0x1000, 4, 1, 1, 2, false, .iv 0 11547, .c 0, .watcher, .none⟩
def P.satCount : Par := ⟨0x1148, 0x1000, 4, 1, 1, 4, false, .iv 0 4294967295, .c 0, .watcher, .none⟩
def P.overrunCount : Par := ⟨0x1149, 0x1000, 4, 1, 1, 4, false, .iv 0 4294967295, .c 0, .watcher, .none⟩
def P.fallbackCount : Par := ⟨0x114A, 0x1000, 4, 1, 1, 4, false, .iv 0 4294967295, .c 0, .watcher, .none⟩
def P.balDev : Par := ⟨0x114B, 0x1000, 4, 1, 1, 4, true, .iv 0 2147483647, .c 0, .watcher, .none⟩
def P.setpointAge : Par := ⟨0x114C, 0x1000, 4, 1, 1, 4, false, .iv 0 4294967295, .c 0, .watcher, .none⟩

/-! ### Table 3.10 Bridge and lane parameters (chapter 3) -/

def P.brLink : Par := ⟨0x5000, 0x10, 4, 1, 1, 1, false, .iv 0 1, .c 0, .owner, .d⟩
def P.brOffset : Par := ⟨0x5001, 0x10, 4, 1, 1, 2, false, .iv 0 65535, .c 0, .owner, .d⟩
def P.brOffEff : Par := ⟨0x5002, 0x10, 4, 1, 1, 2, false, .iv 0 65535, .c 0, .watcher, .none⟩
def P.laneRole : Par := ⟨0x5040, 0x1, 5, 1, 1, 1, false, .iv 0 3, .laneRole, .watcher, .none⟩
def P.spareFor : Par := ⟨0x5045, 0x1, 1, 1, 1, 1, false, .orVal 0 3 255, .c 255, .watcher, .none⟩
def P.laneFaults : Par := ⟨0x5046, 0x1, 1, 1, 1, 2, false, .bits 0x7FFF, .c 0, .watcher, .none⟩
def P.carrierCap : Par := ⟨0x5047, 0x1, 1, 1, 1, 4, false, .iv 1000 40000, .c 40000, .prot, .none⟩
def P.takeoverTime : Par := ⟨0x5048, 0x1, 1, 1, 1, 4, false, .iv 0 25000, .c 0, .watcher, .none⟩

/-! ### Table 4.8 Bridge sensing parameters (chapter 4) -/

def P.csMode : Par := ⟨0x6000, 0x20, 4, 1, 1, 1, false, .iv 0 1, .c 0, .owner, .d⟩
def P.csScale : Par := ⟨0x6001, 0x20, 4, 1, 1, 4, false, .iv 100 1000000, .c 50000, .owner, .d⟩
def P.sdScale : Par := ⟨0x6002, 0x20, 4, 1, 1, 4, false, .iv 100 1000000, .c 100000, .owner, .d⟩
def P.phvScale : Par := ⟨0x6003, 0x20, 4, 1, 1, 4, false, .iv 1000 300000, .c 100000, .owner, .d⟩
def P.minWindow : Par := ⟨0x6004, 0x20, 4, 1, 1, 2, false, .iv 800 6000, .c 2000, .owner, .none⟩
def P.shiftMode : Par := ⟨0x6005, 0x20, 4, 1, 1, 1, false, .iv 0 1, .c 0, .owner, .none⟩
def P.senseHoldMax : Par := ⟨0x6006, 0x20, 4, 1, 1, 1, false, .iv 1 8, .c 2, .owner, .none⟩
def P.calOnline : Par := ⟨0x6007, 0x20, 4, 1, 1, 1, false, .bits 0xF, .c 15, .owner, .none⟩
def P.ocLevel : Par := ⟨0x6008, 0x20, 4, 1, 1, 2, false, .iv 100 1000, .c 960, .owner, .none⟩
def P.ofs : Par := ⟨0x6009, 0x20, 4, 1, 3, 2, true, .iv (-4096) 4095, .c 0, .owner, .d⟩
def P.gain : Par := ⟨0x600C, 0x20, 4, 1, 3, 2, false, .iv 29491 36045, .c 32768, .owner, .d⟩
def P.ofsCorr : Par := ⟨0x600F, 0x20, 4, 1, 3, 4, true, .iv (-1048576) 1048576, .c 0, .watcher, .none⟩
def P.gainCorr : Par := ⟨0x6012, 0x20, 4, 1, 3, 2, true, .iv (-1311) 1311, .c 0, .watcher, .none⟩
def P.vcal : Par := ⟨0x6015, 0x20, 4, 1, 3, 4, false, .bits 0xFFFFFFFF, .c 0, .watcher, .none⟩
def P.senseStatus : Par := ⟨0x6018, 0x20, 4, 1, 1, 2, false, .bits 0xFF, .c 0, .watcher, .none⟩
def P.shiftCount : Par := ⟨0x6019, 0x20, 4, 1, 1, 4, false, .iv 0 4294967295, .c 0, .watcher, .none⟩
def P.reconCount : Par := ⟨0x601A, 0x20, 4, 1, 1, 4, false, .iv 0 4294967295, .c 0, .watcher, .none⟩
def P.holdCount : Par := ⟨0x601B, 0x20, 4, 1, 1, 4, false, .iv 0 4294967295, .c 0, .watcher, .none⟩
def P.guardCount : Par := ⟨0x601C, 0x20, 4, 1, 1, 4, false, .iv 0 4294967295, .c 0, .watcher, .none⟩

/-! ### Table 4.9 Link and global sensing parameters (chapter 4) -/

def P.vdcScale : Par := ⟨0x6080, 0x8, 2, 1, 1, 4, false, .iv 1000 300000, .c 100000, .owner, .d⟩
def P.vdcAvgTau : Par := ⟨0x6081, 0x8, 2, 1, 1, 4, false, .iv 100 1000000, .c 10000, .owner, .none⟩
def P.linkV : Par := ⟨0x6082, 0x8, 2, 1, 1, 4, false, .iv 0 300000, .c 0, .watcher, .none⟩
def P.linkVAvg : Par := ⟨0x6083, 0x8, 2, 1, 1, 4, false, .iv 0 300000, .c 0, .watcher, .none⟩
def P.vdcDisagree : Par := ⟨0x6084, 0x8, 2, 1, 1, 2, false, .iv 10 200, .c 50, .owner, .none⟩
def P.sdClkDiv : Par := ⟨0x6090, 0x1, 1, 1, 1, 1, false, .iv 4 10, .c 5, .owner, .d⟩
def P.sdOsr : Par := ⟨0x6091, 0x1, 1, 1, 1, 2, false, .iv 16 256, .c 32, .owner, .d⟩
def P.sdDelay : Par := ⟨0x6092, 0x1, 1, 1, 1, 1, false, .iv 0 15, .c 0, .owner, .d⟩
def P.sdFastOsr : Par := ⟨0x6093, 0x1, 1, 1, 1, 1, false, .iv 4 32, .c 8, .owner, .none⟩
def P.sdFaults : Par := ⟨0x6094, 0x1, 1, 1, 1, 2, false, .bits 0xFFF, .c 0, .watcher, .none⟩
def P.calOfsShift : Par := ⟨0x6095, 0x1, 1, 1, 1, 1, false, .iv 4 12, .c 8, .owner, .none⟩
def P.calOfsLimit : Par := ⟨0x6096, 0x1, 1, 1, 1, 2, false, .iv 0 4096, .c 512, .owner, .none⟩
def P.calGainMu : Par := ⟨0x6097, 0x1, 1, 1, 1, 2, false, .iv 0 65535, .c 64, .owner, .none⟩
def P.sumTrip : Par := ⟨0x6098, 0x1, 1, 1, 1, 2, false, .iv 10 500, .c 50, .owner, .none⟩
def P.ofsTrip : Par := ⟨0x6099, 0x1, 1, 1, 1, 2, false, .iv 64 8192, .c 1024, .owner, .none⟩

/-! ### Table 5.11 Position parameters (chapter 5) -/

def P.posSources : Par := ⟨0x1200, 0x1000, 4, 1, 1, 1, false, .bits 0xF, .c 12, .owner, .d⟩
def P.sensorSel : Par := ⟨0x1201, 0x1000, 4, 1, 1, 1, false, .oneOf [0,16,17,18,19,32,33,34,35,48,49,64,65,66,67], .c 0, .owner, .d⟩
def P.sensorPp : Par := ⟨0x1202, 0x1000, 4, 1, 1, 1, false, .iv 1 64, .c 1, .owner, .d⟩
def P.sensorDir : Par := ⟨0x1203, 0x1000, 4, 1, 1, 1, false, .iv 0 1, .c 0, .owner, .d⟩
def P.sensorOffset : Par := ⟨0x1204, 0x1000, 4, 1, 1, 4, false, .iv 0 4294967295, .c 0, .owner, .d⟩
def P.sensorW : Par := ⟨0x1205, 0x1000, 4, 1, 1, 2, false, .iv 0 65535, .c 61440, .owner, .none⟩
def P.waggleW : Par := ⟨0x1206, 0x1000, 4, 1, 1, 2, false, .iv 0 65535, .c 16384, .owner, .none⟩
def P.fluxW : Par := ⟨0x1207, 0x1000, 4, 1, 1, 2, false, .iv 0 65535, .c 16384, .owner, .none⟩
def P.vmW : Par := ⟨0x1208, 0x1000, 4, 1, 1, 2, false, .iv 0 65535, .c 16384, .owner, .none⟩
def P.posGate : Par := ⟨0x1209, 0x1000, 4, 1, 1, 2, false, .iv 50 300, .c 150, .owner, .none⟩
def P.fuseBw : Par := ⟨0x120A, 0x1000, 4, 1, 1, 2, false, .iv 10 2000, .c 200, .owner, .none⟩
def P.fluxLo : Par := ⟨0x120B, 0x1000, 4, 1, 1, 4, true, .iv 0 134217728, .c 13421773, .owner, .none⟩
def P.fluxHi : Par := ⟨0x120C, 0x1000, 4, 1, 1, 4, true, .iv 0 134217728, .c 26843546, .owner, .none⟩
def P.waggleOff : Par := ⟨0x120D, 0x1000, 4, 1, 1, 4, true, .iv 0 268435456, .c 40265318, .owner, .none⟩
def P.fluxWc : Par := ⟨0x120E, 0x1000, 4, 1, 1, 4, true, .iv 0 16777216, .c 5368709, .owner, .none⟩
def P.vmMin : Par := ⟨0x120F, 0x1000, 4, 1, 1, 4, true, .iv 10737418 107374182, .c 21474836, .owner, .none⟩
def P.waggleAmp : Par := ⟨0x1210, 0x1000, 4, 1, 1, 4, true, .iv 10737418 536870912, .c 107374182, .owner, .none⟩
def P.waggleHalf : Par := ⟨0x1211, 0x1000, 4, 1, 1, 1, false, .iv 1 8, .c 1, .owner, .none⟩
def P.waggleKs : Par := ⟨0x1212, 0x1000, 4, 1, 1, 4, true, .iv (-2147483648) 2147483647, .c 0, .owner, .d⟩
def P.accMax : Par := ⟨0x1213, 0x1000, 4, 1, 1, 4, false, .iv 100 1000000, .c 5000, .owner, .none⟩
def P.catchTries : Par := ⟨0x1214, 0x1000, 4, 1, 1, 1, false, .iv 1 3, .c 3, .owner, .none⟩
def P.catchRamp : Par := ⟨0x1215, 0x1000, 4, 1, 1, 4, false, .iv 100 100000, .c 2000, .owner, .none⟩
def P.catchZero : Par := ⟨0x1216, 0x1000, 4, 1, 1, 4, true, .iv 5368709 107374182, .c 21474836, .owner, .none⟩
def P.xoverMargin : Par := ⟨0x1217, 0x1000, 4, 1, 1, 2, false, .iv 0 200, .c 50, .owner, .none⟩
def P.posSafe : Par := ⟨0x1218, 0x1000, 4, 1, 1, 1, false, .iv 0 1, .c 0, .owner, .d⟩
def P.limpEn : Par := ⟨0x1219, 0x1000, 4, 1, 1, 1, false, .iv 0 1, .c 1, .owner, .none⟩
def P.sixMin : Par := ⟨0x121A, 0x1000, 4, 1, 1, 4, true, .iv 5368709 134217728, .c 13421773, .owner, .none⟩
def P.scoutTries : Par := ⟨0x121B, 0x1000, 4, 1, 1, 1, false, .iv 1 5, .c 3, .owner, .none⟩
def P.scoutBack : Par := ⟨0x121C, 0x1000, 4, 1, 1, 2, false, .iv 10 900, .c 100, .owner, .none⟩
def P.polV : Par := ⟨0x121D, 0x1000, 4, 1, 1, 4, true, .iv 53687091 1073741824, .c 322122547, .owner, .none⟩
def P.polTime : Par := ⟨0x121E, 0x1000, 4, 1, 1, 2, false, .iv 20 2000, .c 200, .owner, .none⟩
def P.polMargin : Par := ⟨0x121F, 0x1000, 4, 1, 1, 2, false, .iv 10 500, .c 30, .owner, .none⟩
def P.posStatus : Par := ⟨0x1230, 0x1000, 4, 1, 1, 2, false, .bits 0x3FFF, .c 0, .watcher, .none⟩
def P.posAngle : Par := ⟨0x1231, 0x1000, 4, 1, 1, 4, false, .iv 0 4294967295, .c 0, .watcher, .none⟩
def P.posSpeed : Par := ⟨0x1232, 0x1000, 4, 1, 1, 4, true, .iv (-2147483648) 2147483647, .c 0, .watcher, .none⟩
def P.posWeights : Par := ⟨0x1233, 0x1000, 4, 1, 1, 4, false, .bits 0xFFFFFFFF, .c 0, .watcher, .none⟩
def P.srcState : Par := ⟨0x1234, 0x1000, 4, 1, 1, 2, false, .bits 0xFFFF, .c 0, .watcher, .none⟩
def P.losCause : Par := ⟨0x1235, 0x1000, 4, 1, 1, 1, false, .bits 0x1F, .c 0, .watcher, .none⟩
def P.catchUsed : Par := ⟨0x1236, 0x1000, 4, 1, 1, 1, false, .iv 0 3, .c 0, .watcher, .none⟩
def P.catchCount : Par := ⟨0x1237, 0x1000, 4, 1, 1, 4, false, .iv 0 4294967295, .c 0, .watcher, .none⟩
def P.scoutCount : Par := ⟨0x1238, 0x1000, 4, 1, 1, 1, false, .iv 0 5, .c 0, .watcher, .none⟩
def P.xoverSpeed : Par := ⟨0x1239, 0x1000, 4, 1, 1, 4, true, .iv 0 2147483647, .c 0, .watcher, .none⟩
def P.waggleKsMeas : Par := ⟨0x123A, 0x1000, 4, 1, 1, 4, true, .iv (-2147483648) 2147483647, .c 0, .watcher, .none⟩
def P.sensorOfsLearned : Par := ⟨0x123B, 0x1000, 4, 1, 1, 4, false, .iv 0 4294967295, .c 0, .watcher, .none⟩
def P.fluxMag : Par := ⟨0x123C, 0x1000, 4, 1, 1, 4, false, .iv 0 4294967295, .c 0, .watcher, .none⟩
def P.dropCount : Par := ⟨0x123D, 0x1000, 4, 1, 1, 4, false, .iv 0 4294967295, .c 0, .watcher, .none⟩

/-! ### Table 6.9 Encoder parameters (chapter 6) -/

def P.encMode : Par := ⟨0x6100, 0x20, 4, 1, 1, 1, false, .iv 0 2, .c 0, .owner, .d⟩
def P.encLines : Par := ⟨0x6101, 0x20, 4, 1, 1, 4, false, .iv 1 1048576, .c 1024, .owner, .d⟩
def P.encMinEdge : Par := ⟨0x6102, 0x20, 4, 1, 1, 2, false, .step 20 10000 10, .c 40, .owner, .none⟩
def P.encIndexEn : Par := ⟨0x6103, 0x20, 4, 1, 1, 1, false, .iv 0 1, .c 0, .owner, .d⟩
def P.encIndexRef : Par := ⟨0x6104, 0x20, 4, 1, 1, 4, false, .encIndexRef, .c 0, .owner, .d⟩
def P.encIdxTol : Par := ⟨0x6105, 0x20, 4, 1, 1, 1, false, .iv 0 16, .c 2, .owner, .none⟩
def P.encStillTime : Par := ⟨0x6106, 0x20, 4, 1, 1, 4, false, .iv 1000 10000000, .c 200000, .owner, .none⟩
def P.encInterp : Par := ⟨0x6107, 0x20, 4, 1, 1, 1, false, .iv 0 1, .c 1, .owner, .none⟩
def P.encFiltN : Par := ⟨0x6108, 0x20, 4, 1, 1, 1, false, .iv 1 64, .c 8, .owner, .none⟩
def P.encCount : Par := ⟨0x6110, 0x20, 4, 1, 1, 4, true, .iv (-2147483648) 2147483647, .c 0, .watcher, .none⟩
def P.encAngle : Par := ⟨0x6111, 0x20, 4, 1, 1, 4, false, .iv 0 4294967295, .c 0, .watcher, .none⟩
def P.encSpeed : Par := ⟨0x6112, 0x20, 4, 1, 1, 4, true, .iv (-2147483648) 2147483647, .c 0, .watcher, .none⟩
def P.encStatus : Par := ⟨0x6113, 0x20, 4, 1, 1, 2, false, .bits 0x7FF, .c 3, .watcher, .none⟩
def P.encEdgeFaults : Par := ⟨0x6114, 0x20, 4, 1, 1, 4, false, .iv 0 4294967295, .c 0, .watcher, .none⟩
def P.encSlipCount : Par := ⟨0x6115, 0x20, 4, 1, 1, 4, false, .iv 0 4294967295, .c 0, .watcher, .none⟩
def P.encMissedIndex : Par := ⟨0x6116, 0x20, 4, 1, 1, 4, false, .iv 0 4294967295, .c 0, .watcher, .none⟩

/-! ### Table 6.10 Resolver parameters (chapter 6) -/

def P.resEn : Par := ⟨0x6180, 0x20, 2, 1, 1, 1, false, .iv 0 1, .c 0, .owner, .d⟩
def P.resExcFreq : Par := ⟨0x6181, 0x20, 2, 1, 1, 4, false, .iv 2000 20000, .c 10000, .owner, .d⟩
def P.resExcAmp : Par := ⟨0x6182, 0x20, 2, 1, 1, 2, false, .iv 1000 7000, .c 4000, .owner, .d⟩
def P.resPhase : Par := ⟨0x6183, 0x20, 2, 1, 1, 2, true, .iv (-512) 511, .c 0, .owner, .none⟩
def P.resAmpNom : Par := ⟨0x6184, 0x20, 2, 1, 1, 2, false, .iv 4096 32767, .c 20000, .owner, .none⟩
def P.resAmpLo : Par := ⟨0x6185, 0x20, 2, 1, 1, 1, false, .iv 10 90, .c 40, .owner, .none⟩
def P.resAmpHi : Par := ⟨0x6186, 0x20, 2, 1, 1, 1, false, .iv 110 200, .c 130, .owner, .none⟩
def P.resTrackBw : Par := ⟨0x6187, 0x20, 2, 1, 1, 2, false, .iv 50 5000, .c 1000, .owner, .none⟩
def P.resTrkTrip : Par := ⟨0x6188, 0x20, 2, 1, 1, 2, false, .iv 10 300, .c 50, .owner, .none⟩
def P.resFiltN : Par := ⟨0x6189, 0x20, 2, 1, 1, 1, false, .iv 1 64, .c 8, .owner, .none⟩
def P.resExcEff : Par := ⟨0x6190, 0x20, 2, 1, 1, 4, false, .iv 200000 2000000, .c 1000000, .watcher, .none⟩
def P.resAmp : Par := ⟨0x6191, 0x20, 2, 1, 1, 2, false, .iv 0 46341, .c 0, .watcher, .none⟩
def P.resAngle : Par := ⟨0x6192, 0x20, 2, 1, 1, 4, false, .iv 0 4294967295, .c 0, .watcher, .none⟩
def P.resSpeed : Par := ⟨0x6193, 0x20, 2, 1, 1, 4, true, .iv (-2147483648) 2147483647, .c 0, .watcher, .none⟩
def P.resStatus : Par := ⟨0x6194, 0x20, 2, 1, 1, 2, false, .bits 0x7FF, .c 2, .watcher, .none⟩

/-! ### Table 6.11 SSI parameters (chapter 6) -/

def P.ssiEn : Par := ⟨0x61C0, 0x20, 4, 1, 1, 1, false, .iv 0 2, .c 0, .owner, .d⟩
def P.ssiClkDiv : Par := ⟨0x61C1, 0x20, 4, 1, 1, 2, false, .iv 10 1000, .c 50, .owner, .d⟩
def P.ssiMtBits : Par := ⟨0x61C2, 0x20, 4, 1, 1, 1, false, .iv 0 24, .c 12, .owner, .d⟩
def P.ssiStBits : Par := ⟨0x61C3, 0x20, 4, 1, 1, 1, false, .iv 8 32, .c 13, .owner, .d⟩
def P.ssiStatBits : Par := ⟨0x61C4, 0x20, 4, 1, 1, 1, false, .iv 0 4, .c 0, .owner, .d⟩
def P.ssiCode : Par := ⟨0x61C5, 0x20, 4, 1, 1, 1, false, .iv 0 1, .c 1, .owner, .d⟩
def P.ssiRecovery : Par := ⟨0x61C6, 0x20, 4, 1, 1, 2, false, .iv 1 100, .c 20, .owner, .d⟩
def P.ssiErrMax : Par := ⟨0x61C7, 0x20, 4, 1, 1, 1, false, .iv 1 8, .c 3, .owner, .none⟩
def P.ssiStatMask : Par := ⟨0x61C8, 0x20, 4, 1, 1, 1, false, .bits 0xF, .c 15, .owner, .none⟩
def P.ssiFiltN : Par := ⟨0x61C9, 0x20, 4, 1, 1, 1, false, .iv 1 64, .c 8, .owner, .none⟩
def P.ssiEvery : Par := ⟨0x61D0, 0x20, 4, 1, 1, 1, false, .iv 1 255, .c 1, .watcher, .none⟩
def P.ssiDelayMeas : Par := ⟨0x61D1, 0x20, 4, 1, 1, 2, false, .iv 0 2000, .c 0, .watcher, .none⟩
def P.ssiAngle : Par := ⟨0x61D2, 0x20, 4, 1, 1, 4, false, .iv 0 4294967295, .c 0, .watcher, .none⟩
def P.ssiSpeed : Par := ⟨0x61D3, 0x20, 4, 1, 1, 4, true, .iv (-2147483648) 2147483647, .c 0, .watcher, .none⟩
def P.ssiMt : Par := ⟨0x61D4, 0x20, 4, 1, 1, 4, false, .iv 0 16777215, .c 0, .watcher, .none⟩
def P.ssiBadFrames : Par := ⟨0x61D5, 0x20, 4, 1, 1, 4, false, .iv 0 4294967295, .c 0, .watcher, .none⟩
def P.ssiStatus : Par := ⟨0x61D6, 0x20, 4, 1, 1, 2, false, .bits 0x7FF, .c 2, .watcher, .none⟩

/-! ### Table 7.8 Speed and torque parameters (chapter 7) -/

def P.axisCmd : Par := ⟨0x1300, 0x1000, 4, 1, 1, 1, false, .iv 0 1, .c 1, .owner, .none⟩
def P.speedLoopFreq : Par := ⟨0x1301, 0x1000, 4, 1, 1, 2, false, .iv 2000 10000, .c 4000, .owner, .d⟩
def P.kpW : Par := ⟨0x1302, 0x1000, 4, 1, 1, 4, false, .iv 0 4294967295, .c 67108864, .owner, .none⟩
def P.kiW : Par := ⟨0x1303, 0x1000, 4, 1, 1, 4, false, .iv 0 4294967295, .c 1310720, .owner, .none⟩
def P.inertiaTm : Par := ⟨0x1304, 0x1000, 4, 1, 1, 4, false, .iv 1000 100000000, .c 1000000, .owner, .none⟩
def P.obsBw : Par := ⟨0x1305, 0x1000, 4, 1, 1, 2, false, .iv 1 1000, .c 20, .owner, .none⟩
def P.loadFf : Par := ⟨0x1306, 0x1000, 4, 1, 1, 2, false, .iv 0 1000, .c 1000, .owner, .none⟩
def P.accRamp : Par := ⟨0x1307, 0x1000, 4, 1, 1, 4, false, .iv 1 100000, .c 500, .owner, .none⟩
def P.decRamp : Par := ⟨0x1308, 0x1000, 4, 1, 1, 4, false, .iv 1 100000, .c 500, .owner, .none⟩
def P.qstopRamp : Par := ⟨0x1309, 0x1000, 4, 1, 1, 4, false, .iv 1 100000, .c 2000, .owner, .none⟩
def P.qstopTqRamp : Par := ⟨0x130A, 0x1000, 4, 1, 1, 4, false, .iv 100 1000000, .c 10000, .owner, .none⟩
def P.speedMax : Par := ⟨0x130B, 0x1000, 4, 1, 1, 4, true, .iv 0 1073741824, .c 295279002, .owner, .none⟩
def P.zeroSpeed : Par := ⟨0x130C, 0x1000, 4, 1, 1, 4, true, .iv 0 16777216, .c 1342177, .owner, .none⟩
def P.zeroTime : Par := ⟨0x130D, 0x1000, 4, 1, 1, 2, false, .iv 10 1000, .c 50, .owner, .none⟩
def P.ratedCurrent : Par := ⟨0x130E, 0x1000, 4, 1, 1, 4, true, .iv 0 2147483647, .c 1073741824, .owner, .d⟩
def P.ratedTorque : Par := ⟨0x130F, 0x1000, 4, 1, 1, 4, true, .iv 0 2147483647, .c 1073741824, .owner, .d⟩
def P.tqQ1 : Par := ⟨0x1310, 0x1000, 4, 1, 1, 4, true, .iv 0 2147483647, .c 1073741824, .owner, .none⟩
def P.tqQ2 : Par := ⟨0x1311, 0x1000, 4, 1, 1, 4, true, .iv 0 2147483647, .c 1073741824, .owner, .none⟩
def P.tqQ3 : Par := ⟨0x1312, 0x1000, 4, 1, 1, 4, true, .iv 0 2147483647, .c 1073741824, .owner, .none⟩
def P.tqQ4 : Par := ⟨0x1313, 0x1000, 4, 1, 1, 4, true, .iv 0 2147483647, .c 1073741824, .owner, .none⟩
def P.pMot : Par := ⟨0x1314, 0x1000, 4, 1, 1, 4, true, .iv 0 2147483647, .c 1073741824, .owner, .none⟩
def P.pGen : Par := ⟨0x1315, 0x1000, 4, 1, 1, 4, true, .iv 0 2147483647, .c 1073741824, .owner, .none⟩
def P.fwModTarget : Par := ⟨0x1316, 0x1000, 4, 1, 1, 2, false, .iv 8000 11547, .c 11000, .owner, .none⟩
def P.fwKi : Par := ⟨0x1317, 0x1000, 4, 1, 1, 4, false, .iv 0 1000000, .c 50000, .owner, .none⟩
def P.fwIdMax : Par := ⟨0x1318, 0x1000, 4, 1, 1, 4, true, .iv 0 1073741824, .c 751619277, .owner, .none⟩
def P.mtpaEn : Par := ⟨0x1319, 0x1000, 4, 1, 1, 1, false, .iv 0 1, .c 0, .owner, .none⟩
def P.fluxRef : Par := ⟨0x131A, 0x1000, 4, 1, 1, 4, false, .iv 0 4294967295, .c 1073741824, .owner, .none⟩
def P.icMot : Par := ⟨0x1320, 0x1000, 4, 1, 1, 4, true, .iv 0 2147483647, .c 1073741824, .owner, .none⟩
def P.ipkMot : Par := ⟨0x1321, 0x1000, 4, 1, 1, 4, true, .iv 0 2147483647, .c 1610612736, .owner, .none⟩
def P.tpkMot : Par := ⟨0x1322, 0x1000, 4, 1, 1, 4, false, .iv 100 600000, .c 60000, .owner, .none⟩
def P.icSw : Par := ⟨0x1323, 0x1000, 4, 1, 1, 4, true, .iv 0 2147483647, .c 1073741824, .owner, .none⟩
def P.ipkSw : Par := ⟨0x1324, 0x1000, 4, 1, 1, 4, true, .iv 0 2147483647, .c 1610612736, .owner, .none⟩
def P.tpkSw : Par := ⟨0x1325, 0x1000, 4, 1, 1, 4, false, .iv 10 60000, .c 3000, .owner, .none⟩
def P.i2tMotLvl : Par := ⟨0x1326, 0x1000, 4, 1, 1, 2, false, .iv 0 1250, .c 500, .watcher, .none⟩
def P.i2tSwLvl : Par := ⟨0x1327, 0x1000, 4, 1, 1, 2, false, .iv 0 1250, .c 500, .watcher, .none⟩
def P.snatchEn : Par := ⟨0x1330, 0x1000, 4, 1, 1, 1, false, .iv 0 1, .c 0, .owner, .none⟩
def P.snatchDir : Par := ⟨0x1331, 0x1000, 4, 1, 1, 1, false, .iv 0 1, .c 0, .owner, .d⟩
def P.snatchLevel : Par := ⟨0x1332, 0x1000, 4, 1, 1, 4, true, .iv 0 2147483647, .c 1288490189, .owner, .none⟩
def P.snatchHyst : Par := ⟨0x1333, 0x1000, 4, 1, 1, 4, true, .iv 0 1073741824, .c 214748365, .owner, .none⟩
def P.snatchHold : Par := ⟨0x1334, 0x1000, 4, 1, 1, 4, true, .iv 0 2147483647, .c 966367642, .owner, .none⟩
def P.snatchDwell : Par := ⟨0x1335, 0x1000, 4, 1, 1, 2, false, .iv 50 10000, .c 500, .owner, .none⟩
def P.snatchVmax : Par := ⟨0x1336, 0x1000, 4, 1, 1, 4, true, .iv 0 268435456, .c 80530637, .owner, .none⟩
def P.snatchCount : Par := ⟨0x1337, 0x1000, 4, 1, 1, 4, false, .iv 0 4294967295, .c 0, .watcher, .none⟩
def P.ventEn : Par := ⟨0x1340, 0x1000, 4, 1, 1, 1, false, .iv 0 1, .c 0, .owner, .none⟩
def P.propK : Par := ⟨0x1341, 0x1000, 4, 1, 1, 4, true, .iv 0 2147483647, .c 1073741824, .owner, .none⟩
def P.ventMinSpeed : Par := ⟨0x1342, 0x1000, 4, 1, 1, 4, true, .iv 0 268435456, .c 53687091, .owner, .none⟩
def P.ventDrop : Par := ⟨0x1343, 0x1000, 4, 1, 1, 2, false, .iv 100 900, .c 500, .owner, .none⟩
def P.ventReturn : Par := ⟨0x1344, 0x1000, 4, 1, 1, 2, false, .iv 100 1000, .c 800, .owner, .none⟩
def P.ventDetect : Par := ⟨0x1345, 0x1000, 4, 1, 1, 2, false, .iv 5 1000, .c 30, .owner, .none⟩
def P.ventHold : Par := ⟨0x1346, 0x1000, 4, 1, 1, 2, false, .iv 100 1000, .c 600, .owner, .none⟩
def P.ventRate : Par := ⟨0x1347, 0x1000, 4, 1, 1, 4, false, .iv 100 100000, .c 2000, .owner, .none⟩
def P.ventOverspeed : Par := ⟨0x1348, 0x1000, 4, 1, 1, 2, false, .iv 0 500, .c 100, .owner, .none⟩
def P.ventCount : Par := ⟨0x1349, 0x1000, 4, 1, 1, 4, false, .iv 0 4294967295, .c 0, .watcher, .none⟩
def P.speedStatus : Par := ⟨0x1350, 0x1000, 4, 1, 1, 2, false, .bits 0xFFF, .c 0, .watcher, .none⟩
def P.wRef : Par := ⟨0x1351, 0x1000, 4, 1, 1, 4, true, .iv (-2147483648) 2147483647, .c 0, .watcher, .none⟩
def P.tlHat : Par := ⟨0x1352, 0x1000, 4, 1, 1, 4, true, .iv (-2147483648) 2147483647, .c 0, .watcher, .none⟩
def P.tauMotEff : Par := ⟨0x1353, 0x1000, 4, 1, 1, 4, true, .iv 0 2147483647, .c 0, .watcher, .none⟩
def P.tauGenEff : Par := ⟨0x1354, 0x1000, 4, 1, 1, 4, true, .iv 0 2147483647, .c 0, .watcher, .none⟩
def P.ecMode : Par := ⟨0x1380, 0x1000, 4, 1, 1, 1, false, .bits 0xF, .c 0, .prot, .none⟩
def P.ecFull : Par := ⟨0x1381, 0x1000, 4, 1, 1, 4, true, .iv 0 536870912, .c 134217728, .owner, .d⟩
def P.ecDeadband : Par := ⟨0x1382, 0x1000, 4, 1, 1, 2, false, .iv 0 200, .c 20, .owner, .none⟩
def P.ecStart : Par := ⟨0x1383, 0x1000, 4, 1, 1, 2, false, .iv 10 500, .c 50, .owner, .none⟩
def P.ecFiltTau : Par := ⟨0x1384, 0x1000, 4, 1, 1, 2, false, .iv 1 1000, .c 20, .owner, .none⟩
def P.ecLossTime : Par := ⟨0x1385, 0x1000, 4, 1, 1, 2, false, .iv 10 1000, .c 100, .owner, .none⟩
def P.ecRamp : Par := ⟨0x1386, 0x1000, 4, 1, 1, 4, false, .iv 1 100000, .c 200, .owner, .none⟩
def P.ecTauLim : Par := ⟨0x1387, 0x1000, 4, 1, 1, 4, true, .iv 0 2147483647, .c 1073741824, .owner, .none⟩
def P.ecValue : Par := ⟨0x1388, 0x1000, 4, 1, 1, 4, true, .iv (-1073741824) 1073741824, .c 0, .watcher, .none⟩
def P.ecRaw : Par := ⟨0x1389, 0x1000, 4, 1, 1, 4, true, .iv (-2147483648) 2147483647, .c 0, .watcher, .none⟩

/-! ### Table 7.9 Link parameters (chapter 7) -/

def P.chopEn : Par := ⟨0x5080, 0x10, 2, 1, 1, 1, false, .iv 0 1, .c 0, .owner, .d⟩
def P.chopOff : Par := ⟨0x5081, 0x10, 2, 1, 1, 4, false, .iv 1000 300000, .c 78000, .owner, .none⟩
def P.chopOn : Par := ⟨0x5082, 0x10, 2, 1, 1, 4, false, .iv 1000 300000, .c 80000, .owner, .none⟩
def P.chopMinOn : Par := ⟨0x5083, 0x10, 2, 1, 1, 2, false, .iv 10 10000, .c 100, .owner, .none⟩
def P.chopRise : Par := ⟨0x5084, 0x10, 2, 1, 1, 2, false, .iv 10 10000, .c 100, .owner, .none⟩
def P.chopR : Par := ⟨0x5085, 0x10, 2, 1, 1, 4, false, .iv 100 1000000, .c 10000, .owner, .d⟩
def P.chopPCont : Par := ⟨0x5086, 0x10, 2, 1, 1, 4, false, .iv 100 2000000, .c 10000, .owner, .none⟩
def P.chopEMax : Par := ⟨0x5087, 0x10, 2, 1, 1, 4, false, .iv 1000 100000000, .c 500000, .owner, .none⟩
def P.ovLimStart : Par := ⟨0x5088, 0x10, 2, 1, 1, 4, false, .iv 1000 300000, .c 82000, .owner, .none⟩
def P.ovLimEnd : Par := ⟨0x5089, 0x10, 2, 1, 1, 4, false, .iv 1000 300000, .c 86000, .owner, .none⟩
def P.linkOvTrip : Par := ⟨0x508A, 0x10, 2, 1, 1, 4, false, .iv 1000 300000, .c 90000, .owner, .d⟩
def P.uvLimStart : Par := ⟨0x508B, 0x10, 2, 1, 1, 4, false, .iv 1000 300000, .c 45000, .owner, .none⟩
def P.uvLimEnd : Par := ⟨0x508C, 0x10, 2, 1, 1, 4, false, .iv 1000 300000, .c 40000, .owner, .none⟩
def P.linkUvTrip : Par := ⟨0x508D, 0x10, 2, 1, 1, 4, false, .iv 1000 300000, .c 35000, .owner, .d⟩
def P.chopE : Par := ⟨0x508E, 0x10, 2, 1, 1, 4, false, .iv 0 4294967295, .c 0, .watcher, .none⟩
def P.linkStatus : Par := ⟨0x508F, 0x10, 2, 1, 1, 1, false, .bits 0x3F, .c 0, .watcher, .none⟩

/-! ### Table 8.14 Share ring parameters (chapter 8) -/

def P.hiveEn : Par := ⟨0x9000, 0x1, 1, 1, 1, 1, false, .iv 0 1, .c 0, .owner, .d⟩
def P.hiveId : Par := ⟨0x9001, 0x1, 1, 1, 1, 2, false, .iv 0 65535, .c 0, .prot, .none⟩
def P.hiveMember : Par := ⟨0x9002, 0x1, 1, 1, 1, 1, false, .iv 0 15, .c 0, .prot, .none⟩
def P.hiveSize : Par := ⟨0x9003, 0x1, 1, 1, 1, 1, false, .iv 2 16, .c 2, .owner, .d⟩
def P.hiveAxis : Par := ⟨0x9004, 0x1, 1, 1, 1, 1, false, .iv 0 3, .c 0, .owner, .d⟩
def P.shareMode : Par := ⟨0x9005, 0x1, 1, 1, 1, 1, false, .iv 0 3, .c 0, .owner, .d⟩
def P.hiveRank : Par := ⟨0x9006, 0x1, 1, 1, 1, 1, false, .iv 0 15, .c 0, .owner, .none⟩
def P.hiveWeight : Par := ⟨0x9007, 0x1, 1, 1, 1, 2, false, .iv 1 65535, .c 32768, .owner, .none⟩
def P.hiveScale : Par := ⟨0x9008, 0x1, 1, 1, 1, 4, false, .iv 0 4294967295, .c 268435456, .owner, .d⟩
def P.hiveIscale : Par := ⟨0x9009, 0x1, 1, 1, 1, 4, false, .iv 0 4294967295, .c 268435456, .owner, .d⟩
def P.hiveSpdScale : Par := ⟨0x900A, 0x1, 1, 1, 1, 4, false, .iv 0 4294967295, .c 268435456, .owner, .d⟩
def P.droop : Par := ⟨0x900B, 0x1, 1, 1, 1, 2, false, .iv 0 13107, .c 2621, .owner, .none⟩
def P.ringFallback : Par := ⟨0x900C, 0x1, 1, 1, 1, 1, false, .iv 0 1, .c 0, .owner, .none⟩
def P.handoverTime : Par := ⟨0x900D, 0x1, 1, 1, 1, 2, false, .iv 50 10000, .c 500, .owner, .none⟩
def P.staleMax : Par := ⟨0x900E, 0x1, 1, 1, 1, 1, false, .iv 1 4, .c 2, .owner, .none⟩
def P.hivePwmLock : Par := ⟨0x900F, 0x1, 1, 1, 1, 1, false, .iv 0 1, .c 0, .owner, .d⟩
def P.hivePwmPhase : Par := ⟨0x9010, 0x1, 1, 1, 1, 2, false, .iv 0 65535, .c 0, .owner, .none⟩
def P.hiveState : Par := ⟨0x9020, 0x1, 1, 1, 1, 1, false, .iv 0 8, .c 0, .watcher, .none⟩
def P.ringStatus : Par := ⟨0x9021, 0x1, 1, 1, 1, 2, false, .bits 0xFFF, .c 0, .watcher, .none⟩
def P.hiveTime : Par := ⟨0x9022, 0x1, 1, 1, 1, 8, false, .iv 0 18446744073709551615, .c 0, .watcher, .none⟩
def P.syncErr : Par := ⟨0x9023, 0x1, 1, 1, 1, 4, true, .iv (-2147483648) 2147483647, .c 0, .watcher, .none⟩
def P.cycleMaster : Par := ⟨0x9024, 0x1, 1, 1, 1, 1, false, .orVal 0 15 255, .c 255, .watcher, .none⟩
def P.torqueMaster : Par := ⟨0x9025, 0x1, 1, 1, 1, 1, false, .orVal 0 15 255, .c 255, .watcher, .none⟩
def P.liveMask : Par := ⟨0x9026, 0x1, 1, 1, 1, 2, false, .bits 0xFFFF, .c 0, .watcher, .none⟩
def P.contribMask : Par := ⟨0x9027, 0x1, 1, 1, 1, 2, false, .bits 0xFFFF, .c 0, .watcher, .none⟩
def P.hiveDemand : Par := ⟨0x9028, 0x1, 1, 1, 1, 4, true, .iv (-2147483648) 2147483647, .c 0, .watcher, .none⟩
def P.hiveShare : Par := ⟨0x9029, 0x1, 1, 1, 1, 4, true, .iv (-2147483648) 2147483647, .c 0, .watcher, .none⟩
def P.linkDelayL : Par := ⟨0x902A, 0x1, 1, 1, 1, 4, false, .iv 0 4294967295, .c 0, .watcher, .none⟩
def P.linkDelayR : Par := ⟨0x902B, 0x1, 1, 1, 1, 4, false, .iv 0 4294967295, .c 0, .watcher, .none⟩
def P.foldCount : Par := ⟨0x902C, 0x1, 1, 1, 1, 4, false, .iv 0 4294967295, .c 0, .watcher, .none⟩
def P.pairSwitches : Par := ⟨0x902D, 0x1, 1, 1, 1, 4, false, .iv 0 4294967295, .c 0, .watcher, .none⟩
def P.crcErrors : Par := ⟨0x902E, 0x1, 1, 1, 1, 4, false, .iv 0 4294967295, .c 0, .watcher, .none⟩
def P.memberLosses : Par := ⟨0x902F, 0x1, 1, 1, 1, 4, false, .iv 0 4294967295, .c 0, .watcher, .none⟩

/-! ### Table 9.12 Bridge gate parameters (chapter 9) -/

def P.deadTime : Par := ⟨0x5003, 0x10, 4, 1, 1, 2, false, .iv 100 10000, .c 1000, .owner, .d⟩
def P.ilkWait : Par := ⟨0x5004, 0x10, 4, 1, 1, 2, false, .iv 0 5000, .c 500, .owner, .d⟩
def P.tOn : Par := ⟨0x5005, 0x10, 4, 1, 1, 2, false, .iv 100 15000, .c 1500, .watcher, .none⟩
def P.bootMode : Par := ⟨0x5006, 0x10, 4, 1, 1, 1, false, .iv 0 1, .c 0, .owner, .d⟩
def P.bootWarn : Par := ⟨0x5007, 0x10, 4, 1, 1, 2, false, .iv 1000 1800, .c 1250, .owner, .d⟩
def P.bootUv : Par := ⟨0x5008, 0x10, 4, 1, 1, 2, false, .iv 900 1600, .c 1100, .owner, .d⟩
def P.precheckResult : Par := ⟨0x5009, 0x10, 4, 1, 1, 2, false, .bits 0xFF, .c 0, .watcher, .none⟩
def P.crossCount : Par := ⟨0x500A, 0x10, 4, 1, 1, 4, false, .iv 0 4294967295, .c 0, .watcher, .none⟩
def P.ilkLateCount : Par := ⟨0x500B, 0x10, 4, 1, 1, 4, false, .iv 0 4294967295, .c 0, .watcher, .none⟩
def P.dgConflict : Par := ⟨0x500C, 0x10, 4, 1, 1, 4, false, .iv 0 4294967295, .c 0, .watcher, .none⟩

/-! ### Table 9.13 Cell parameters (chapter 9) -/

def P.shapeH : Par := ⟨0x5100, 0x10, 13, 1, 1, 4, false, .bits 0xFFFFFF, .c 3355443, .owner, .d⟩
def P.shapeL : Par := ⟨0x5101, 0x10, 13, 1, 1, 4, false, .bits 0xFFFFFF, .c 3355443, .owner, .d⟩
def P.stageTmax : Par := ⟨0x5102, 0x10, 13, 1, 1, 2, false, .iv 50 2000, .c 500, .owner, .d⟩
def P.desatLevel : Par := ⟨0x5103, 0x10, 13, 1, 1, 1, false, .step 40 95 5, .c 70, .owner, .d⟩
def P.desatBlank : Par := ⟨0x5104, 0x10, 13, 1, 1, 2, false, .iv 200 5000, .c 1500, .owner, .d⟩
def P.softLevel : Par := ⟨0x5105, 0x10, 13, 1, 1, 1, false, .step 80 110 5, .c 95, .owner, .d⟩
def P.softTime : Par := ⟨0x5106, 0x10, 13, 1, 1, 1, false, .iv 10 40, .c 20, .owner, .d⟩
def P.softSink : Par := ⟨0x5107, 0x10, 13, 1, 1, 1, false, .iv 1 4, .c 2, .owner, .d⟩
def P.offThresh : Par := ⟨0x5108, 0x10, 13, 1, 1, 1, false, .iv 0 60, .c 20, .owner, .d⟩
def P.cellStatus : Par := ⟨0x5109, 0x10, 13, 1, 1, 4, false, .bits 0x1FFFFF, .c 0, .watcher, .none⟩
def P.bootV : Par := ⟨0x510A, 0x10, 13, 1, 1, 2, false, .iv 0 2500, .c 0, .watcher, .none⟩
def P.platOnH : Par := ⟨0x510B, 0x10, 13, 1, 1, 2, false, .iv 0 16000, .c 0, .watcher, .none⟩
def P.platOffH : Par := ⟨0x510C, 0x10, 13, 1, 1, 2, false, .iv 0 16000, .c 0, .watcher, .none⟩
def P.platOnL : Par := ⟨0x510D, 0x10, 13, 1, 1, 2, false, .iv 0 16000, .c 0, .watcher, .none⟩
def P.platOffL : Par := ⟨0x510E, 0x10, 13, 1, 1, 2, false, .iv 0 16000, .c 0, .watcher, .none⟩
def P.desatCount : Par := ⟨0x510F, 0x10, 13, 1, 1, 4, false, .iv 0 4294967295, .c 0, .watcher, .none⟩

/-! ### Table 9.14 Chopper and Cellar parameters (chapter 9) -/

def P.chopOcC0 : Par := ⟨0x51D0, 0x1, 1, 1, 1, 2, false, .iv 50 2500, .c 1000, .owner, .d⟩
def P.chopOcC1 : Par := ⟨0x51D1, 0x1, 1, 1, 1, 2, false, .iv 50 2500, .c 1000, .owner, .d⟩
def P.stoStatus : Par := ⟨0x5300, 0x1, 1, 1, 1, 1, false, .bits 0x1F, .c 0, .watcher, .none⟩
def P.stoFilt : Par := ⟨0x5301, 0x1, 1, 1, 1, 2, false, .iv 200 3000, .c 1500, .prot, .none⟩
def P.stoDiscTime : Par := ⟨0x5302, 0x1, 1, 1, 1, 2, false, .iv 10 500, .c 50, .prot, .none⟩
def P.ss1En : Par := ⟨0x5303, 0x1, 1, 1, 1, 1, false, .iv 0 1, .c 0, .prot, .none⟩
def P.ss1Time : Par := ⟨0x5304, 0x1, 1, 1, 1, 4, false, .iv 100 60000, .c 5000, .prot, .none⟩
def P.holdoffMask : Par := ⟨0x5305, 0x1, 1, 1, 1, 2, false, .bits 0x1FFF, .c 8191, .watcher, .none⟩
def P.holdoffCause : Par := ⟨0x5306, 0x1, 1, 1, 1, 2, false, .bits 0x7F, .c 1, .watcher, .none⟩
def P.dgEnable : Par := ⟨0x5307, 0x1, 1, 1, 1, 1, false, .bits 0x1F, .c 0, .prot, .none⟩
def P.stoCount : Par := ⟨0x5308, 0x1, 1, 1, 1, 4, false, .iv 0 4294967295, .c 0, .watcher, .none⟩
def P.dgConflictChop : Par := ⟨0x5309, 0x1, 1, 1, 1, 4, false, .iv 0 4294967295, .c 0, .watcher, .none⟩

/-! ### Table 9.15 Axis fault parameters (chapter 9) -/

def P.faultWait : Par := ⟨0x1400, 0x1000, 4, 1, 1, 4, false, .iv 10 10000, .c 100, .owner, .none⟩
def P.faultTries : Par := ⟨0x1401, 0x1000, 4, 1, 1, 1, false, .iv 1 7, .c 3, .owner, .none⟩
def P.latchAll : Par := ⟨0x1402, 0x1000, 4, 1, 1, 1, false, .iv 0 1, .c 0, .owner, .none⟩
def P.ascRelease : Par := ⟨0x1403, 0x1000, 4, 1, 1, 4, true, .iv 5368709 536870912, .c 107374182, .owner, .none⟩
def P.safeStateLast : Par := ⟨0x1404, 0x1000, 4, 1, 1, 1, false, .iv 0 5, .c 0, .watcher, .none⟩

/-! ### Table 10.7 Sensor parameters (chapter 10) -/

def P.tsValue : Par := ⟨0x7000, 0x1, 29, 1, 1, 2, true, .iv (-240) 800, .c 0, .watcher, .none⟩
def P.tsRaw : Par := ⟨0x7020, 0x1, 29, 1, 1, 2, false, .iv 0 65535, .c 0, .watcher, .none⟩
def P.tsN25 : Par := ⟨0x7040, 0x1, 29, 1, 1, 2, false, .iv 0 65535, .factory 3, .watcher, .none⟩
def P.tsN125 : Par := ⟨0x7060, 0x1, 29, 1, 1, 2, false, .iv 0 65535, .factory 4, .watcher, .none⟩
def P.tsDiff : Par := ⟨0x7080, 0x1, 29, 1, 1, 2, true, .iv (-120) 40, .tsDiff, .watcher, .none⟩

/-! ### Table 10.8 Thermal state parameters (chapter 10) -/

def P.thState : Par := ⟨0x7100, 0x1, 1, 1, 1, 1, false, .iv 0 4, .c 0, .watcher, .none⟩
def P.thCold : Par := ⟨0x7101, 0x1, 1, 1, 1, 1, false, .iv 0 2, .c 0, .watcher, .none⟩
def P.thStatus : Par := ⟨0x7102, 0x1, 1, 1, 1, 2, false, .bits 0x3FF, .c 0, .watcher, .none⟩
def P.thLevel : Par := ⟨0x7103, 0x1, 1, 1, 1, 2, false, .iv 0 700, .c 0, .watcher, .none⟩
def P.thGrace : Par := ⟨0x7104, 0x1, 1, 1, 1, 2, false, .iv 500 60000, .c 5000, .owner, .none⟩
def P.thFloor : Par := ⟨0x7105, 0x1, 1, 1, 1, 2, false, .iv 300 900, .c 600, .owner, .none⟩
def P.thAck : Par := ⟨0x7106, 0x1, 1, 1, 1, 1, false, .iv 0 1, .c 0, .owner, .none⟩
def P.tsHot : Par := ⟨0x7107, 0x1, 1, 1, 1, 2, true, .iv (-240) 800, .c 0, .watcher, .none⟩
def P.tsHotId : Par := ⟨0x7108, 0x1, 1, 1, 1, 1, false, .iv 0 28, .c 0, .watcher, .none⟩
def P.tsCold : Par := ⟨0x7109, 0x1, 1, 1, 1, 2, true, .iv (-240) 800, .c 0, .watcher, .none⟩
def P.tsBrokenMask : Par := ⟨0x710A, 0x1, 1, 1, 1, 4, false, .bits 0x1FFFFFFF, .c 0, .watcher, .none⟩
def P.thSdCount : Par := ⟨0x710B, 0x1, 1, 1, 1, 1, false, .iv 0 4, .c 0, .watcher, .none⟩
def P.lifeUsed : Par := ⟨0x710C, 0x1, 1, 1, 1, 4, false, .iv 0 4294967295, .c 0, .watcher, .none⟩
def P.lifeFrac : Par := ⟨0x710D, 0x1, 1, 1, 1, 2, false, .iv 0 65535, .c 0, .watcher, .none⟩
def P.cellCycles : Par := ⟨0x7110, 0x1, 13, 1, 1, 4, false, .iv 0 4294967295, .c 0, .watcher, .none⟩

/-! ### Table 10.9 NTC parameters (chapter 10) -/

def P.ntcR25 : Par := ⟨0x7140, 0x4, 8, 1, 1, 4, false, .orVal 1000 100000 0, .c 0, .owner, .none⟩
def P.ntcBeta : Par := ⟨0x7141, 0x4, 8, 1, 1, 2, false, .iv 2000 5000, .c 3435, .owner, .none⟩
def P.ntcTemp : Par := ⟨0x7142, 0x4, 8, 1, 1, 2, true, .iv (-240) 800, .c 0, .watcher, .none⟩
def P.ntcState : Par := ⟨0x7143, 0x4, 8, 1, 1, 1, false, .iv 0 3, .c 3, .watcher, .none⟩

/-! ### Table 10.10 Junction parameters (chapter 10) -/

def P.brNtc : Par := ⟨0x7180, 0x10, 4, 1, 1, 1, false, .orVal 0 7 255, .c 255, .owner, .none⟩
def P.jtVce : Par := ⟨0x7181, 0x10, 4, 1, 1, 2, false, .iv 0 5000, .c 1500, .owner, .none⟩
def P.jtEsw : Par := ⟨0x7182, 0x10, 4, 1, 1, 2, false, .iv 0 65535, .c 500, .owner, .none⟩
def P.jtRth : Par := ⟨0x7183, 0x10, 4, 1, 1, 2, false, .iv 1 10000, .c 200, .owner, .none⟩
def P.jtTau : Par := ⟨0x7184, 0x10, 4, 1, 1, 4, false, .iv 100 600000, .c 30000, .owner, .none⟩
def P.jtCorrTau : Par := ⟨0x7185, 0x10, 4, 1, 1, 2, false, .iv 100 60000, .c 2000, .owner, .none⟩
def P.jtLimit : Par := ⟨0x7186, 0x10, 4, 1, 1, 2, true, .iv 240 800, .c 600, .owner, .none⟩
def P.jtCalCmd : Par := ⟨0x7187, 0x10, 4, 1, 1, 1, false, .iv 0 2, .c 0, .owner, .none⟩
def P.jtStatus : Par := ⟨0x7188, 0x10, 4, 1, 1, 1, false, .bits 0x7, .c 0, .watcher, .none⟩
def P.jtI1 : Par := ⟨0x7200, 0x10, 24, 1, 1, 2, false, .iv 10 20000, .c 1000, .owner, .d⟩
def P.jtP1 : Par := ⟨0x7201, 0x10, 24, 1, 1, 4, false, .iv 0 5000000, .c 0, .watcher, .none⟩
def P.jtT1 : Par := ⟨0x7202, 0x10, 24, 1, 1, 2, true, .iv (-240) 800, .c 0, .watcher, .none⟩
def P.jtT2 : Par := ⟨0x7203, 0x10, 24, 1, 1, 2, true, .iv (-240) 800, .c 0, .watcher, .none⟩
def P.jtSlope : Par := ⟨0x7204, 0x10, 24, 1, 1, 4, true, .iv (-2147483648) 2147483647, .c 0, .owner, .none⟩
def P.jtKi : Par := ⟨0x7205, 0x10, 24, 1, 1, 4, true, .iv (-2147483648) 2147483647, .c 0, .owner, .none⟩
def P.jtCal : Par := ⟨0x7206, 0x10, 24, 1, 1, 1, false, .iv 0 2, .c 0, .watcher, .none⟩
def P.jtRef : Par := ⟨0x7207, 0x10, 24, 1, 1, 2, false, .bits 0xFFFF, .c 0, .watcher, .none⟩
def P.jtEst : Par := ⟨0x7208, 0x10, 24, 1, 1, 2, true, .iv (-240) 800, .c 0, .watcher, .none⟩
def P.jtTp : Par := ⟨0x7209, 0x10, 24, 1, 1, 2, true, .iv (-240) 800, .c 0, .watcher, .none⟩

/-! ### Table 10.11 Axis thermal parameters (chapter 10) -/

def P.jtLevel : Par := ⟨0x1500, 0x1000, 4, 1, 1, 2, false, .iv 0 700, .c 0, .watcher, .none⟩
def P.thTauTerm : Par := ⟨0x1501, 0x1000, 4, 1, 1, 4, true, .iv 0 2147483647, .c 0, .watcher, .none⟩

/-! ### Table 11.15 Identity and session parameters (chapter 11) -/

def P.deviceUid : Par := ⟨0x0000, 0x1, 1, 1, 1, 8, false, .iv 0 18446744073709551615, .factory 0, .watcher, .none⟩
def P.partCode : Par := ⟨0x0001, 0x1, 1, 1, 1, 4, false, .iv 33120 33120, .c 33120, .watcher, .none⟩
def P.orderVariant : Par := ⟨0x0002, 0x1, 1, 1, 1, 1, false, .iv 0 1, .factory 1, .watcher, .none⟩
def P.hwRev : Par := ⟨0x0003, 0x1, 1, 1, 1, 2, false, .iv 0 65535, .factory 2, .watcher, .none⟩
def P.fwVersion : Par := ⟨0x0004, 0x1, 1, 1, 1, 4, false, .iv 0 4294967295, .c 0, .watcher, .none⟩
def P.protoVersion : Par := ⟨0x0005, 0x1, 1, 1, 1, 2, false, .iv 256 256, .c 256, .watcher, .none⟩
def P.uptime : Par := ⟨0x0006, 0x1, 1, 1, 1, 8, false, .iv 0 18446744073709551615, .c 0, .watcher, .none⟩
def P.sessTimeout : Par := ⟨0xC000, 0x1, 1, 1, 1, 4, false, .iv 1000 600000, .c 10000, .owner, .none⟩
def P.sessCount : Par := ⟨0xC001, 0x1, 1, 1, 1, 2, false, .iv 0 256, .c 0, .watcher, .none⟩
def P.sessSelf : Par := ⟨0xC002, 0x1, 1, 1, 1, 2, false, .iv 1 256, .c 0, .watcher, .none⟩
def P.rxBadCheck : Par := ⟨0xC003, 0x1, 1, 1, 1, 4, false, .iv 0 4294967295, .c 0, .watcher, .none⟩
def P.rxBadLength : Par := ⟨0xC004, 0x1, 1, 1, 1, 4, false, .iv 0 4294967295, .c 0, .watcher, .none⟩
def P.rxBadSeq : Par := ⟨0xC005, 0x1, 1, 1, 1, 4, false, .iv 0 4294967295, .c 0, .watcher, .none⟩
def P.reasmDrops : Par := ⟨0xC006, 0x1, 1, 1, 1, 4, false, .iv 0 4294967295, .c 0, .watcher, .none⟩
def P.notifDrops : Par := ⟨0xC007, 0x1, 1, 1, 1, 4, false, .iv 0 4294967295, .c 0, .watcher, .none⟩
def P.sessOpenMask : Par := ⟨0xC010, 0x1, 4, 1, 1, 8, false, .iv 0 18446744073709551615, .c 0, .watcher, .none⟩

/-! ### Table 12.10 Ownership parameters (chapter 12) -/

def P.ownerSession : Par := ⟨0xC100, 0x1, 1, 1, 1, 2, false, .iv 0 256, .c 0, .watcher, .none⟩
def P.ownerRank : Par := ⟨0xC101, 0x1, 1, 1, 1, 1, false, .iv 0 15, .c 0, .watcher, .none⟩
def P.ownerClient : Par := ⟨0xC102, 0x1, 1, 1, 1, 8, false, .iv 0 18446744073709551615, .c 0, .watcher, .none⟩
def P.ownerCause : Par := ⟨0xC103, 0x1, 1, 1, 1, 1, false, .iv 0 6, .c 0, .watcher, .none⟩
def P.ownerlessMs : Par := ⟨0xC104, 0x1, 1, 1, 1, 4, false, .iv 0 4294967295, .c 0, .watcher, .none⟩
def P.heartbeatAge : Par := ⟨0xC105, 0x1, 1, 1, 1, 4, false, .iv 0 4294967295, .c 0, .watcher, .none⟩
def P.heartbeatTo : Par := ⟨0xC106, 0x1, 1, 1, 1, 2, false, .iv 50 5000, .c 500, .prot, .none⟩
def P.emergDelay : Par := ⟨0xC107, 0x1, 1, 1, 1, 4, false, .iv 500 60000, .c 2000, .prot, .none⟩
def P.ownConfig : Par := ⟨0xC108, 0x1, 1, 1, 1, 1, false, .bits 0x7, .c 0, .prot, .none⟩
def P.loaderMinRank : Par := ⟨0xC109, 0x1, 1, 1, 1, 1, false, .iv 1 15, .c 1, .prot, .none⟩
def P.ownerChanges : Par := ⟨0xC10A, 0x1, 1, 1, 1, 4, false, .iv 0 4294967295, .c 0, .watcher, .none⟩
def P.violTotal : Par := ⟨0xC10B, 0x1, 1, 1, 1, 4, false, .iv 0 4294967295, .c 0, .prot, .none⟩
def P.atticPending : Par := ⟨0xC10C, 0x1, 1, 1, 1, 8, false, .iv 0 18446744073709551615, .c 0, .watcher, .none⟩
def P.keyProv : Par := ⟨0xC10D, 0x1, 1, 1, 1, 1, false, .bits 0xF, .c 0, .watcher, .none⟩
def P.atticFails : Par := ⟨0xC10E, 0x1, 1, 1, 1, 4, false, .iv 0 4294967295, .c 0, .watcher, .none⟩
def P.violCount : Par := ⟨0xC200, 0x1, 256, 1, 1, 4, false, .iv 0 4294967295, .c 0, .prot, .none⟩
def P.sessRank : Par := ⟨0xC300, 0x1, 256, 1, 1, 1, false, .iv 0 15, .c 0, .watcher, .none⟩

/-! ### Table 12.11 Attic mirror (chapter 12) -/

def P.atticValue : Par := ⟨0xD000, 0x1, 64, 1, 1, 8, false, .iv 0 18446744073709551615, .c 0, .watcher, .none⟩
def P.atticGenUsed : Par := ⟨0xD040, 0x1, 64, 1, 1, 1, false, .iv 0 8, .c 0, .watcher, .none⟩
def P.atticGenFailed : Par := ⟨0xD080, 0x1, 64, 1, 1, 1, false, .bits 0xFF, .c 0, .watcher, .none⟩

/-! ### Table 13.10 Port parameters (chapter 13) -/

def P.sbEn : Par := ⟨0x8000, 0x40, 4, 1, 1, 1, false, .iv 0 1, .c 0, .owner, .none⟩
def P.sbSegment : Par := ⟨0x8001, 0x40, 4, 1, 1, 1, false, .iv 0 127, .c 0, .owner, .p⟩
def P.nbrp : Par := ⟨0x8002, 0x40, 4, 1, 1, 1, false, .iv 1 32, .c 1, .owner, .p⟩
def P.ntseg1 : Par := ⟨0x8003, 0x40, 4, 1, 1, 2, false, .iv 2 256, .c 127, .owner, .p⟩
def P.ntseg2 : Par := ⟨0x8004, 0x40, 4, 1, 1, 1, false, .iv 2 128, .c 32, .owner, .p⟩
def P.nsjw : Par := ⟨0x8005, 0x40, 4, 1, 1, 1, false, .iv 1 128, .c 32, .owner, .p⟩
def P.dbrp : Par := ⟨0x8006, 0x40, 4, 1, 1, 1, false, .iv 1 32, .c 1, .owner, .p⟩
def P.dtseg1 : Par := ⟨0x8007, 0x40, 4, 1, 1, 1, false, .iv 1 32, .c 29, .owner, .p⟩
def P.dtseg2 : Par := ⟨0x8008, 0x40, 4, 1, 1, 1, false, .iv 1 16, .c 10, .owner, .p⟩
def P.dsjw : Par := ⟨0x8009, 0x40, 4, 1, 1, 1, false, .iv 1 16, .c 10, .owner, .p⟩
def P.brsEn : Par := ⟨0x800A, 0x40, 4, 1, 1, 1, false, .iv 0 1, .c 1, .owner, .none⟩
def P.tdcEn : Par := ⟨0x800B, 0x40, 4, 1, 1, 1, false, .iv 0 1, .c 1, .owner, .p⟩
def P.tdco : Par := ⟨0x800C, 0x40, 4, 1, 1, 1, false, .iv 0 127, .c 30, .owner, .p⟩
def P.fwdMask : Par := ⟨0x800D, 0x40, 4, 1, 1, 4, false, .bits 0xFFFFFFFF, .c 0, .owner, .none⟩
def P.sbState : Par := ⟨0x8020, 0x40, 4, 1, 1, 1, false, .iv 0 5, .c 0, .watcher, .none⟩
def P.tec : Par := ⟨0x8021, 0x40, 4, 1, 1, 2, false, .iv 0 256, .c 0, .watcher, .none⟩
def P.rec : Par := ⟨0x8022, 0x40, 4, 1, 1, 1, false, .iv 0 255, .c 0, .watcher, .none⟩
def P.tdcValue : Par := ⟨0x8023, 0x40, 4, 1, 1, 1, false, .iv 0 127, .c 0, .watcher, .none⟩
def P.sbStatus : Par := ⟨0x8024, 0x40, 4, 1, 1, 2, false, .bits 0x1FF, .c 0, .watcher, .none⟩
def P.busLoad : Par := ⟨0x8025, 0x40, 4, 1, 1, 2, false, .iv 0 1000, .c 0, .watcher, .none⟩
def P.busoffCount : Par := ⟨0x8026, 0x40, 4, 1, 1, 4, false, .iv 0 4294967295, .c 0, .watcher, .none⟩
def P.lifeDrops : Par := ⟨0x8027, 0x40, 4, 1, 1, 4, false, .iv 0 4294967295, .c 0, .watcher, .none⟩
def P.txFrames : Par := ⟨0x8028, 0x40, 4, 1, 1, 4, false, .iv 0 4294967295, .c 0, .watcher, .none⟩
def P.rxFrames : Par := ⟨0x8029, 0x40, 4, 1, 1, 4, false, .iv 0 4294967295, .c 0, .watcher, .none⟩
def P.ignored : Par := ⟨0x802A, 0x40, 4, 1, 1, 4, false, .iv 0 4294967295, .c 0, .watcher, .none⟩
def P.fwdFrames : Par := ⟨0x802B, 0x40, 4, 1, 1, 4, false, .iv 0 4294967295, .c 0, .watcher, .none⟩
def P.fwdDrops : Par := ⟨0x802C, 0x40, 4, 1, 1, 4, false, .iv 0 4294967295, .c 0, .watcher, .none⟩
def P.twinDrops : Par := ⟨0x802D, 0x40, 4, 1, 1, 4, false, .iv 0 4294967295, .c 0, .watcher, .none⟩

/-! ### Table 13.11 Filter parameters (chapter 13) -/

def P.filtMatch : Par := ⟨0x8100, 0x80, 4, 2, 64, 4, false, .bits 0xFFFFFFFF, .c 0, .owner, .none⟩
def P.filtMask : Par := ⟨0x8101, 0x80, 4, 2, 64, 4, false, .bits 0x1FFFFFFF, .c 0, .owner, .none⟩

/-! ### Table 13.12 Swarm bus parameters of the module (chapter 13) -/

def P.nodeAddr : Par := ⟨0x8300, 0x1, 1, 1, 1, 2, false, .bits 0x7FFF, .c 0, .prot, .none⟩
def P.addrPool : Par := ⟨0x8301, 0x1, 1, 1, 1, 2, false, .bits 0x7FFF, .c 0, .prot, .none⟩
def P.swarmNodes : Par := ⟨0x8302, 0x1, 1, 1, 1, 2, false, .iv 1 16384, .c 127, .prot, .none⟩
def P.addrState : Par := ⟨0x8303, 0x1, 1, 1, 1, 1, false, .iv 0 3, .c 0, .watcher, .none⟩
def P.addrHeld : Par := ⟨0x8304, 0x1, 1, 1, 1, 2, false, .orVal 0 16383 65535, .c 65535, .watcher, .none⟩
def P.pairEn : Par := ⟨0x8305, 0x1, 1, 1, 1, 1, false, .bits 0x3, .c 0, .owner, .none⟩
def P.replyPrio : Par := ⟨0x8306, 0x1, 1, 1, 1, 1, false, .iv 1 7, .c 4, .owner, .none⟩
def P.statusPrio : Par := ⟨0x8307, 0x1, 1, 1, 1, 1, false, .iv 1 7, .c 5, .owner, .none⟩
def P.statusPeriod : Par := ⟨0x8308, 0x1, 1, 1, 1, 2, false, .orVal 10 10000 0, .c 1000, .owner, .none⟩
def P.lifeEmerg : Par := ⟨0x8309, 0x1, 1, 1, 1, 2, false, .iv 10 1000, .c 100, .owner, .none⟩
def P.lifePacket : Par := ⟨0x830A, 0x1, 1, 1, 1, 2, false, .iv 10 10000, .c 500, .owner, .none⟩
def P.lifeFwd : Par := ⟨0x830B, 0x1, 1, 1, 1, 2, false, .iv 1 1000, .c 50, .owner, .none⟩
def P.busoffReqDelay : Par := ⟨0x830C, 0x1, 1, 1, 1, 4, false, .orVal 100 600000 0, .c 1000, .owner, .none⟩
def P.sbRecover : Par := ⟨0x830D, 0x1, 1, 1, 1, 1, false, .bits 0xF, .c 0, .owner, .none⟩
def P.claimWait : Par := ⟨0x830E, 0x1, 1, 1, 1, 2, false, .iv 50 2000, .c 250, .owner, .none⟩
def P.emergCopies : Par := ⟨0x830F, 0x1, 1, 1, 1, 4, false, .iv 0 4294967295, .c 0, .watcher, .none⟩
def P.route : Par := ⟨0x8380, 0x1, 128, 1, 1, 1, false, .orVal 0 3 255, .c 255, .owner, .none⟩

/-! ### Table 14.8 Time and Comb parameters of the module (chapter 14) -/

def P.tmRank : Par := ⟨0x8400, 0x1, 1, 1, 1, 1, false, .iv 0 8, .c 0, .prot, .none⟩
def P.cycleLen : Par := ⟨0x8401, 0x1, 1, 1, 1, 2, false, .iv 1000 65000, .c 10000, .owner, .c⟩
def P.combCycles : Par := ⟨0x8402, 0x1, 1, 1, 1, 1, false, .oneOf [1,2,4,8,16], .c 1, .owner, .c⟩
def P.combWindows : Par := ⟨0x8403, 0x1, 1, 1, 1, 1, false, .iv 1 32, .c 1, .owner, .c⟩
def P.combEn : Par := ⟨0x8404, 0x1, 1, 1, 1, 1, false, .bits 0xF, .c 0, .owner, .none⟩
def P.combId : Par := ⟨0x8405, 0x1, 1, 1, 1, 4, false, .iv 0 4294967295, .c 0, .owner, .none⟩
def P.relayMask : Par := ⟨0x8406, 0x1, 1, 1, 1, 1, false, .bits 0xF, .c 0, .owner, .none⟩
def P.slewLimit : Par := ⟨0x8407, 0x1, 1, 1, 1, 4, false, .iv 0 10000, .c 100, .owner, .none⟩
def P.holdoverMax : Par := ⟨0x8408, 0x1, 1, 1, 1, 4, false, .iv 100 600000, .c 10000, .owner, .none⟩
def P.delayInterval : Par := ⟨0x8409, 0x1, 1, 1, 1, 2, false, .iv 100 60000, .c 1000, .owner, .none⟩
def P.timeSet : Par := ⟨0x840A, 0x1, 1, 1, 1, 8, false, .iv 0 18446744073709551615, .c 0, .owner, .none⟩
def P.swarmTime : Par := ⟨0x8410, 0x1, 1, 1, 1, 8, false, .iv 0 18446744073709551615, .c 0, .watcher, .none⟩
def P.timeState : Par := ⟨0x8411, 0x1, 1, 1, 1, 1, false, .iv 0 4, .c 0, .watcher, .none⟩
def P.timeStatus : Par := ⟨0x8412, 0x1, 1, 1, 1, 2, false, .bits 0x3F, .c 0, .watcher, .none⟩
def P.timeMaster : Par := ⟨0x8413, 0x1, 1, 1, 1, 2, false, .orVal 0 16383 65535, .c 65535, .watcher, .none⟩
def P.timeSource : Par := ⟨0x8414, 0x1, 1, 1, 1, 2, false, .orVal 0 16383 65535, .c 65535, .watcher, .none⟩
def P.timeHops : Par := ⟨0x8415, 0x1, 1, 1, 1, 1, false, .iv 0 127, .c 0, .watcher, .none⟩
def P.timeOffset : Par := ⟨0x8416, 0x1, 1, 1, 1, 4, true, .iv (-2147483648) 2147483647, .c 0, .watcher, .none⟩
def P.timeRate : Par := ⟨0x8417, 0x1, 1, 1, 1, 4, true, .iv (-500000) 500000, .c 0, .watcher, .none⟩
def P.timeSteps : Par := ⟨0x8418, 0x1, 1, 1, 1, 4, false, .iv 0 4294967295, .c 0, .watcher, .none⟩
def P.refMissed : Par := ⟨0x8419, 0x1, 1, 1, 1, 4, false, .iv 0 4294967295, .c 0, .watcher, .none⟩
def P.hiveAtSecond : Par := ⟨0x841A, 0x1, 1, 1, 1, 8, false, .iv 0 18446744073709551615, .c 0, .watcher, .none⟩
def P.exclMissed : Par := ⟨0x841B, 0x1, 1, 1, 1, 4, false, .iv 0 4294967295, .c 0, .watcher, .none⟩
def P.exclFails : Par := ⟨0x841C, 0x1, 1, 1, 1, 4, false, .iv 0 4294967295, .c 0, .watcher, .none⟩

/-! ### Table 14.9 Per-port (chapter 14) -/

def P.propDelay : Par := ⟨0x8440, 0x1, 4, 1, 1, 2, false, .iv 0 65535, .c 0, .watcher, .none⟩
def P.combPortState : Par := ⟨0x8444, 0x1, 4, 1, 1, 1, false, .iv 0 4, .c 0, .watcher, .none⟩
def P.exclId : Par := ⟨0x8480, 0x1, 16, 1, 1, 4, false, .bits 0x9FFFFFFF, .c 0, .owner, .c⟩
def P.winStart : Par := ⟨0x84C0, 0x1, 32, 1, 1, 2, false, .iv 0 64999, .c 0, .owner, .c⟩
def P.winCell : Par := ⟨0x8800, 0x20, 16, 1, 32, 1, false, .winCell, .winCell, .owner, .c⟩

/-! ### Table 15.11 Channel parameters (chapter 15) -/

def P.fgPrio : Par := ⟨0xA000, 0x10, 16, 1, 1, 1, false, .fgPrio, .fgPrio, .owner, .none⟩
def P.fgRetry : Par := ⟨0xA001, 0x10, 16, 1, 1, 1, false, .iv 0 7, .c 2, .owner, .none⟩
def P.fgDisable : Par := ⟨0xA002, 0x10, 16, 1, 1, 1, false, .iv 0 1, .c 0, .owner, .none⟩
def P.fgState : Par := ⟨0xA003, 0x10, 16, 1, 1, 1, false, .iv 0 4, .c 0, .watcher, .none⟩
def P.fgStatus : Par := ⟨0xA004, 0x10, 16, 1, 1, 1, false, .iv 0 255, .c 0, .watcher, .none⟩
def P.fgPc : Par := ⟨0xA005, 0x10, 16, 1, 1, 2, false, .iv 0 4092, .c 0, .watcher, .none⟩
def P.fgCount : Par := ⟨0xA006, 0x10, 16, 1, 1, 2, false, .iv 0 65520, .c 0, .watcher, .none⟩
def P.fgCrc : Par := ⟨0xA007, 0x10, 16, 1, 1, 4, false, .iv 0 4294967295, .c 4294967295, .watcher, .none⟩
def P.fgX : Par := ⟨0xA008, 0x10, 16, 1, 8, 4, false, .iv 0 4294967295, .c 0, .watcher, .none⟩

/-! ### Table 15.12 Channel counters (chapter 15) -/

def P.fgBeats : Par := ⟨0xA100, 0x4, 16, 1, 1, 4, false, .iv 0 4294967295, .c 0, .watcher, .none⟩
def P.fgRetried : Par := ⟨0xA101, 0x4, 16, 1, 1, 4, false, .iv 0 4294967295, .c 0, .watcher, .none⟩
def P.fgHalts : Par := ⟨0xA102, 0x4, 16, 1, 1, 4, false, .iv 0 4294967295, .c 0, .watcher, .none⟩

/-! ### Table 15.13 Publish sets (chapter 15) -/

def P.pubPeriod : Par := ⟨0xA200, 0x20, 8, 1, 1, 2, false, .orVal 100 60000 0, .c 0, .owner, .none⟩
def P.pubAddr : Par := ⟨0xA201, 0x20, 8, 1, 1, 4, false, .step 0x207B0000 0x207BFF70 16, .c 544931840, .owner, .none⟩
def P.pubN : Par := ⟨0xA202, 0x20, 8, 1, 1, 1, false, .iv 0 16, .c 0, .owner, .none⟩
def P.pubSeq : Par := ⟨0xA203, 0x20, 8, 1, 1, 4, false, .iv 0 4294967295, .c 0, .watcher, .none⟩
def P.pubPn : Par := ⟨0xA210, 0x20, 8, 1, 16, 2, false, .definedPn, .c 0, .owner, .none⟩

/-! ### Table 15.14 Queue parameters (chapter 15) -/

def P.qEntries : Par := ⟨0xA400, 0x4, 32, 1, 1, 2, false, .iv 0 512, .c 0, .watcher, .none⟩
def P.qFree : Par := ⟨0xA401, 0x4, 32, 1, 1, 2, false, .iv 0 8192, .c 8192, .watcher, .none⟩
def P.qOverflow : Par := ⟨0xA402, 0x4, 32, 1, 1, 4, false, .iv 0 4294967295, .c 0, .watcher, .none⟩

/-! ### Table 16.7 Channel parameters (chapter 16) -/

def P.panSrc : Par := ⟨0xB000, 0x4, 32, 1, 1, 4, false, .panSrc, .c 0, .owner, .a⟩
def P.panPace : Par := ⟨0xB001, 0x4, 32, 1, 1, 4, false, .panPace, .c 0, .owner, .a⟩
def P.panFmt : Par := ⟨0xB002, 0x4, 32, 1, 1, 1, false, .panFmt, .c 64, .owner, .a⟩

/-! ### Table 16.8 Recorder parameters (chapter 16) -/

def P.panMode : Par := ⟨0xB100, 0x1, 1, 1, 1, 1, false, .iv 0 2, .c 0, .owner, .a⟩
def P.panK : Par := ⟨0xB101, 0x1, 1, 1, 1, 1, false, .oneOf [0,1,2,4], .c 0, .owner, .a⟩
def P.panPre : Par := ⟨0xB102, 0x1, 1, 1, 1, 2, false, .iv 0 4079, .c 1020, .owner, .a⟩
def P.panTrig : Par := ⟨0xB103, 0x1, 1, 1, 1, 1, false, .bits 0x1F, .c 1, .owner, .a⟩
def P.panTrigCh : Par := ⟨0xB104, 0x1, 1, 1, 1, 1, false, .iv 0 31, .c 0, .owner, .a⟩
def P.panTrigLevel : Par := ⟨0xB105, 0x1, 1, 1, 1, 4, true, .iv (-2147483648) 2147483647, .c 0, .owner, .a⟩
def P.panTrigLine : Par := ⟨0xB106, 0x1, 1, 1, 1, 1, false, .iv 0 63, .c 15, .owner, .a⟩
def P.panStream : Par := ⟨0xB107, 0x1, 1, 1, 1, 1, false, .iv 0 1, .c 0, .owner, .a⟩
def P.panState : Par := ⟨0xB110, 0x1, 1, 1, 1, 1, false, .iv 0 3, .c 0, .watcher, .none⟩
def P.panFrames : Par := ⟨0xB111, 0x1, 1, 1, 1, 2, false, .iv 0 4080, .c 0, .watcher, .none⟩
def P.panTrigCount : Par := ⟨0xB112, 0x1, 1, 1, 1, 4, false, .iv 0 4294967295, .c 0, .watcher, .none⟩
def P.panRate : Par := ⟨0xB113, 0x1, 1, 1, 1, 4, false, .iv 0 4294967295, .c 0, .watcher, .none⟩
def P.panDed : Par := ⟨0xB114, 0x1, 1, 1, 1, 4, false, .iv 0 4294967295, .c 0, .watcher, .none⟩
def P.frNext : Par := ⟨0xB120, 0x1, 1, 1, 1, 1, false, .iv 0 255, .c 0, .watcher, .none⟩
def P.frCount : Par := ⟨0xB121, 0x1, 1, 1, 1, 2, false, .iv 0 256, .c 0, .watcher, .none⟩
def P.frSeq : Par := ⟨0xB122, 0x1, 1, 1, 1, 4, false, .iv 0 4294967295, .c 0, .watcher, .none⟩

/-! ### Table 17.5 Service parameters (chapter 17) -/

def P.svcBusy : Par := ⟨0xE000, 0x1, 1, 1, 1, 1, false, .bits 0xF, .c 0, .watcher, .none⟩
def P.activePair : Par := ⟨0xE001, 0x1, 1, 1, 1, 1, false, .iv 0 1, .c 0, .watcher, .none⟩
def P.standbyWing : Par := ⟨0xE002, 0x1, 1, 1, 1, 1, false, .orVal 0 1 255, .c 255, .watcher, .none⟩
def P.trial : Par := ⟨0xE003, 0x1, 1, 1, 1, 1, false, .iv 0 1, .c 0, .watcher, .none⟩
def P.wingPointer : Par := ⟨0xE004, 0x1, 1, 1, 1, 1, false, .iv 0 1, .c 0, .watcher, .none⟩
def P.switchGap : Par := ⟨0xE005, 0x1, 1, 1, 1, 4, false, .iv 0 4294967295, .c 0, .watcher, .none⟩
def P.runCkpt : Par := ⟨0xE006, 0x1, 1, 1, 1, 2, false, .iv 0 65535, .c 0, .watcher, .none⟩
def P.wingState : Par := ⟨0xE010, 0x1, 2, 1, 1, 1, false, .iv 0 4, .c 0, .watcher, .none⟩
def P.wingVersion : Par := ⟨0xE012, 0x1, 2, 1, 1, 4, false, .iv 0 4294967295, .c 0, .watcher, .none⟩
def P.wingErases : Par := ⟨0xE014, 0x1, 2, 1, 1, 2, false, .iv 0 10000, .c 0, .watcher, .none⟩
def P.wingCkpt : Par := ⟨0xE016, 0x1, 2, 1, 1, 2, false, .iv 0 65535, .c 0, .watcher, .none⟩
def P.lifeStatus : Par := ⟨0xE020, 0x1, 1, 1, 1, 1, false, .bits 0xF, .c 0, .watcher, .none⟩

/-! ### Table 18.7 Porch parameters (chapter 18) -/

def P.porchState : Par := ⟨0xE100, 0x1, 1, 1, 1, 1, false, .iv 0 2, .c 0, .watcher, .none⟩
def P.porchHalt : Par := ⟨0xE101, 0x1, 1, 1, 1, 1, false, .iv 0 2, .c 0, .watcher, .none⟩
def P.porchUnlocks : Par := ⟨0xE102, 0x1, 1, 1, 1, 4, false, .iv 0 4294967295, .c 0, .watcher, .none⟩
def P.porchFails : Par := ⟨0xE103, 0x1, 1, 1, 1, 1, false, .iv 0 8, .c 0, .watcher, .none⟩
def P.porchSnaps : Par := ⟨0xE104, 0x1, 1, 1, 1, 4, false, .iv 0 4294967295, .c 0, .watcher, .none⟩

/-! ### Table 19.7 Supply parameters (chapter 19) -/

def P.supplyStatus : Par := ⟨0x0020, 0x1, 1, 1, 1, 2, false, .bits 0x1FF, .c 0, .watcher, .none⟩
def P.vinAV : Par := ⟨0x0021, 0x1, 1, 1, 1, 2, true, .iv (-4000) 4500, .c 0, .watcher, .none⟩
def P.vinBV : Par := ⟨0x0022, 0x1, 1, 1, 1, 2, true, .iv (-4000) 4500, .c 0, .watcher, .none⟩
def P.vsupV : Par := ⟨0x0023, 0x1, 1, 1, 1, 2, false, .iv 0 4500, .c 0, .watcher, .none⟩
def P.supplyPower : Par := ⟨0x0024, 0x1, 1, 1, 1, 2, false, .iv 0 4000, .c 0, .watcher, .none⟩
def P.vsupDips : Par := ⟨0x0025, 0x1, 1, 1, 1, 4, false, .iv 0 4294967295, .c 0, .watcher, .none⟩
def P.vglpV : Par := ⟨0x0028, 0x2, 4, 1, 1, 2, false, .iv 0 2500, .c 0, .watcher, .none⟩
def P.vglnV : Par := ⟨0x0029, 0x2, 4, 1, 1, 2, true, .iv (-1500) 0, .c 0, .watcher, .none⟩

/-- Parameters of chapter 2, in the order of its tables. -/
def pars02a : List Par :=
  [P.devState, P.bootCause, P.bootWing, P.clkStatus, P.recoveryCause, P.coreRestarts, P.bootTime, P.bootFlags, P.cellAbsent, P.axisState, P.axisPrevState, P.axisFault, P.retryUsed, P.coldFlags]

/-- Parameters of chapter 3, in the order of its tables. -/
def pars03a : List Par :=
  [P.ctrlMode, P.grouping, P.bridgeMask, P.lane, P.machine, P.polePairs, P.baseCurrent, P.baseVoltage, P.baseFreq, P.rs, P.ld, P.lq, P.psi, P.lm, P.lr, P.tauR, P.kpD, P.kiD, P.kpQ, P.kiQ, P.decouple, P.angleAdv, P.vmaxFrac, P.imax, P.dtComp, P.carrierFreq, P.update, P.minPulse, P.mpcHorizon, P.mpcWD, P.mpcWQ, P.mpcLambdaSw, P.mpcShuntSet, P.mpcHoldMax, P.sysShift1, P.sysShift2, P.sysShift3, P.balKi, P.balLimit, P.balTrip]

/-- Parameters of chapter 3, in the order of its tables. -/
def pars03b : List Par :=
  [P.ctrlStatus, P.carrierEff, P.carrierCycles, P.idMeas, P.iqMeas, P.vdOut, P.vqOut, P.modIndex, P.satCount, P.overrunCount, P.fallbackCount, P.balDev, P.setpointAge, P.brLink, P.brOffset, P.brOffEff, P.laneRole, P.spareFor, P.laneFaults, P.carrierCap, P.takeoverTime]

/-- Parameters of chapter 4, in the order of its tables. -/
def pars04a : List Par :=
  [P.csMode, P.csScale, P.sdScale, P.phvScale, P.minWindow, P.shiftMode, P.senseHoldMax, P.calOnline, P.ocLevel, P.ofs, P.gain, P.ofsCorr, P.gainCorr, P.vcal, P.senseStatus, P.shiftCount, P.reconCount, P.holdCount, P.guardCount, P.vdcScale, P.vdcAvgTau, P.linkV, P.linkVAvg, P.vdcDisagree, P.sdClkDiv, P.sdOsr, P.sdDelay, P.sdFastOsr, P.sdFaults, P.calOfsShift, P.calOfsLimit, P.calGainMu, P.sumTrip, P.ofsTrip]

/-- Parameters of chapter 5, in the order of its tables. -/
def pars05a : List Par :=
  [P.posSources, P.sensorSel, P.sensorPp, P.sensorDir, P.sensorOffset, P.sensorW, P.waggleW, P.fluxW, P.vmW, P.posGate, P.fuseBw, P.fluxLo, P.fluxHi, P.waggleOff, P.fluxWc, P.vmMin, P.waggleAmp, P.waggleHalf, P.waggleKs, P.accMax, P.catchTries, P.catchRamp, P.catchZero, P.xoverMargin, P.posSafe, P.limpEn, P.sixMin, P.scoutTries, P.scoutBack, P.polV, P.polTime, P.polMargin, P.posStatus, P.posAngle, P.posSpeed, P.posWeights, P.srcState, P.losCause, P.catchUsed, P.catchCount]

/-- Parameters of chapter 5, in the order of its tables. -/
def pars05b : List Par :=
  [P.scoutCount, P.xoverSpeed, P.waggleKsMeas, P.sensorOfsLearned, P.fluxMag, P.dropCount]

/-- Parameters of chapter 6, in the order of its tables. -/
def pars06a : List Par :=
  [P.encMode, P.encLines, P.encMinEdge, P.encIndexEn, P.encIndexRef, P.encIdxTol, P.encStillTime, P.encInterp, P.encFiltN, P.encCount, P.encAngle, P.encSpeed, P.encStatus, P.encEdgeFaults, P.encSlipCount, P.encMissedIndex, P.resEn, P.resExcFreq, P.resExcAmp, P.resPhase, P.resAmpNom, P.resAmpLo, P.resAmpHi, P.resTrackBw, P.resTrkTrip, P.resFiltN, P.resExcEff, P.resAmp, P.resAngle, P.resSpeed, P.resStatus, P.ssiEn, P.ssiClkDiv, P.ssiMtBits, P.ssiStBits, P.ssiStatBits, P.ssiCode, P.ssiRecovery, P.ssiErrMax, P.ssiStatMask]

/-- Parameters of chapter 6, in the order of its tables. -/
def pars06b : List Par :=
  [P.ssiFiltN, P.ssiEvery, P.ssiDelayMeas, P.ssiAngle, P.ssiSpeed, P.ssiMt, P.ssiBadFrames, P.ssiStatus]

/-- Parameters of chapter 7, in the order of its tables. -/
def pars07a : List Par :=
  [P.axisCmd, P.speedLoopFreq, P.kpW, P.kiW, P.inertiaTm, P.obsBw, P.loadFf, P.accRamp, P.decRamp, P.qstopRamp, P.qstopTqRamp, P.speedMax, P.zeroSpeed, P.zeroTime, P.ratedCurrent, P.ratedTorque, P.tqQ1, P.tqQ2, P.tqQ3, P.tqQ4, P.pMot, P.pGen, P.fwModTarget, P.fwKi, P.fwIdMax, P.mtpaEn, P.fluxRef, P.icMot, P.ipkMot, P.tpkMot, P.icSw, P.ipkSw, P.tpkSw, P.i2tMotLvl, P.i2tSwLvl, P.snatchEn, P.snatchDir, P.snatchLevel, P.snatchHyst, P.snatchHold]

/-- Parameters of chapter 7, in the order of its tables. -/
def pars07b : List Par :=
  [P.snatchDwell, P.snatchVmax, P.snatchCount, P.ventEn, P.propK, P.ventMinSpeed, P.ventDrop, P.ventReturn, P.ventDetect, P.ventHold, P.ventRate, P.ventOverspeed, P.ventCount, P.speedStatus, P.wRef, P.tlHat, P.tauMotEff, P.tauGenEff, P.ecMode, P.ecFull, P.ecDeadband, P.ecStart, P.ecFiltTau, P.ecLossTime, P.ecRamp, P.ecTauLim, P.ecValue, P.ecRaw, P.chopEn, P.chopOff, P.chopOn, P.chopMinOn, P.chopRise, P.chopR, P.chopPCont, P.chopEMax, P.ovLimStart, P.ovLimEnd, P.linkOvTrip, P.uvLimStart]

/-- Parameters of chapter 7, in the order of its tables. -/
def pars07c : List Par :=
  [P.uvLimEnd, P.linkUvTrip, P.chopE, P.linkStatus]

/-- Parameters of chapter 8, in the order of its tables. -/
def pars08a : List Par :=
  [P.hiveEn, P.hiveId, P.hiveMember, P.hiveSize, P.hiveAxis, P.shareMode, P.hiveRank, P.hiveWeight, P.hiveScale, P.hiveIscale, P.hiveSpdScale, P.droop, P.ringFallback, P.handoverTime, P.staleMax, P.hivePwmLock, P.hivePwmPhase, P.hiveState, P.ringStatus, P.hiveTime, P.syncErr, P.cycleMaster, P.torqueMaster, P.liveMask, P.contribMask, P.hiveDemand, P.hiveShare, P.linkDelayL, P.linkDelayR, P.foldCount, P.pairSwitches, P.crcErrors, P.memberLosses]

/-- Parameters of chapter 9, in the order of its tables. -/
def pars09a : List Par :=
  [P.deadTime, P.ilkWait, P.tOn, P.bootMode, P.bootWarn, P.bootUv, P.precheckResult, P.crossCount, P.ilkLateCount, P.dgConflict, P.shapeH, P.shapeL, P.stageTmax, P.desatLevel, P.desatBlank, P.softLevel, P.softTime, P.softSink, P.offThresh, P.cellStatus, P.bootV, P.platOnH, P.platOffH, P.platOnL, P.platOffL, P.desatCount, P.chopOcC0, P.chopOcC1, P.stoStatus, P.stoFilt, P.stoDiscTime, P.ss1En, P.ss1Time, P.holdoffMask, P.holdoffCause, P.dgEnable, P.stoCount, P.dgConflictChop, P.faultWait, P.faultTries]

/-- Parameters of chapter 9, in the order of its tables. -/
def pars09b : List Par :=
  [P.latchAll, P.ascRelease, P.safeStateLast]

/-- Parameters of chapter 10, in the order of its tables. -/
def pars10a : List Par :=
  [P.tsValue, P.tsRaw, P.tsN25, P.tsN125, P.tsDiff, P.thState, P.thCold, P.thStatus, P.thLevel, P.thGrace, P.thFloor, P.thAck, P.tsHot, P.tsHotId, P.tsCold, P.tsBrokenMask, P.thSdCount, P.lifeUsed, P.lifeFrac, P.cellCycles, P.ntcR25, P.ntcBeta, P.ntcTemp, P.ntcState, P.brNtc, P.jtVce, P.jtEsw, P.jtRth, P.jtTau, P.jtCorrTau, P.jtLimit, P.jtCalCmd, P.jtStatus, P.jtI1, P.jtP1, P.jtT1, P.jtT2, P.jtSlope, P.jtKi, P.jtCal]

/-- Parameters of chapter 10, in the order of its tables. -/
def pars10b : List Par :=
  [P.jtRef, P.jtEst, P.jtTp, P.jtLevel, P.thTauTerm]

/-- Parameters of chapter 11, in the order of its tables. -/
def pars11a : List Par :=
  [P.deviceUid, P.partCode, P.orderVariant, P.hwRev, P.fwVersion, P.protoVersion, P.uptime, P.sessTimeout, P.sessCount, P.sessSelf, P.rxBadCheck, P.rxBadLength, P.rxBadSeq, P.reasmDrops, P.notifDrops, P.sessOpenMask]

/-- Parameters of chapter 12, in the order of its tables. -/
def pars12a : List Par :=
  [P.ownerSession, P.ownerRank, P.ownerClient, P.ownerCause, P.ownerlessMs, P.heartbeatAge, P.heartbeatTo, P.emergDelay, P.ownConfig, P.loaderMinRank, P.ownerChanges, P.violTotal, P.atticPending, P.keyProv, P.atticFails, P.violCount, P.sessRank, P.atticValue, P.atticGenUsed, P.atticGenFailed]

/-- Parameters of chapter 13, in the order of its tables. -/
def pars13a : List Par :=
  [P.sbEn, P.sbSegment, P.nbrp, P.ntseg1, P.ntseg2, P.nsjw, P.dbrp, P.dtseg1, P.dtseg2, P.dsjw, P.brsEn, P.tdcEn, P.tdco, P.fwdMask, P.sbState, P.tec, P.rec, P.tdcValue, P.sbStatus, P.busLoad, P.busoffCount, P.lifeDrops, P.txFrames, P.rxFrames, P.ignored, P.fwdFrames, P.fwdDrops, P.twinDrops, P.filtMatch, P.filtMask, P.nodeAddr, P.addrPool, P.swarmNodes, P.addrState, P.addrHeld, P.pairEn, P.replyPrio, P.statusPrio, P.statusPeriod, P.lifeEmerg]

/-- Parameters of chapter 13, in the order of its tables. -/
def pars13b : List Par :=
  [P.lifePacket, P.lifeFwd, P.busoffReqDelay, P.sbRecover, P.claimWait, P.emergCopies, P.route]

/-- Parameters of chapter 14, in the order of its tables. -/
def pars14a : List Par :=
  [P.tmRank, P.cycleLen, P.combCycles, P.combWindows, P.combEn, P.combId, P.relayMask, P.slewLimit, P.holdoverMax, P.delayInterval, P.timeSet, P.swarmTime, P.timeState, P.timeStatus, P.timeMaster, P.timeSource, P.timeHops, P.timeOffset, P.timeRate, P.timeSteps, P.refMissed, P.hiveAtSecond, P.exclMissed, P.exclFails, P.propDelay, P.combPortState, P.exclId, P.winStart, P.winCell]

/-- Parameters of chapter 15, in the order of its tables. -/
def pars15a : List Par :=
  [P.fgPrio, P.fgRetry, P.fgDisable, P.fgState, P.fgStatus, P.fgPc, P.fgCount, P.fgCrc, P.fgX, P.fgBeats, P.fgRetried, P.fgHalts, P.pubPeriod, P.pubAddr, P.pubN, P.pubSeq, P.pubPn, P.qEntries, P.qFree, P.qOverflow]

/-- Parameters of chapter 16, in the order of its tables. -/
def pars16a : List Par :=
  [P.panSrc, P.panPace, P.panFmt, P.panMode, P.panK, P.panPre, P.panTrig, P.panTrigCh, P.panTrigLevel, P.panTrigLine, P.panStream, P.panState, P.panFrames, P.panTrigCount, P.panRate, P.panDed, P.frNext, P.frCount, P.frSeq]

/-- Parameters of chapter 17, in the order of its tables. -/
def pars17a : List Par :=
  [P.svcBusy, P.activePair, P.standbyWing, P.trial, P.wingPointer, P.switchGap, P.runCkpt, P.wingState, P.wingVersion, P.wingErases, P.wingCkpt, P.lifeStatus]

/-- Parameters of chapter 18, in the order of its tables. -/
def pars18a : List Par :=
  [P.porchState, P.porchHalt, P.porchUnlocks, P.porchFails, P.porchSnaps]

/-- Parameters of chapter 19, in the order of its tables. -/
def pars19a : List Par :=
  [P.supplyStatus, P.vinAV, P.vinBV, P.vsupV, P.supplyPower, P.vsupDips, P.vglpV, P.vglnV]

/-- Every parameter the module defines (R489). -/
def allPars : List Par :=
  pars02a ++ pars03a ++ pars03b ++ pars04a ++ pars05a ++ pars05b ++ pars06a ++ pars06b ++ pars07a ++ pars07b ++ pars07c ++ pars08a ++ pars09a ++ pars09b ++ pars10a ++ pars10b ++ pars11a ++ pars12a ++ pars13a ++ pars13b ++ pars14a ++ pars15a ++ pars16a ++ pars17a ++ pars18a ++ pars19a

/-- The row and instance a parameter number names; none where no chapter defines it (R489). -/
def findPar (pn : Nat) : Option (Par × Nat × Nat) :=
  allPars.findSome? fun p => (p.index pn).map fun ij => (p, ij.1, ij.2)

end Sys2Proof.Machine
end

