-- ==== Sys2Proof/Machine/State.lean ====
section
/-!
DEFINITION. The state of the FZ8160 as plain data: what the chapters name, group by group, with every group's
cold value as the fields' defaults (R79, Table 2.8). The parameters of the manual stand in one table by parameter
number; a register with a parameter number stands there and nowhere else.
-/
namespace Sys2Proof.Machine

/-! ### Device, boot and house cores (chapters 1, 2, 17) -/

/-- The device states of Table 2.1, OFF included. -/
inductive DevState where
  | off | boot | idle | test | recovery | service
  deriving DecidableEq, Repr

/-- The axis states of Table 2.11. -/
inductive AxState where
  | disabled | precheck | ready | running | stopping | limp | emergency | faultRetry | faultLatched | sto
  deriving DecidableEq, Repr

/-- The step of Table 2.6 that runs now: the boot event the device waits for. `held` is the held reset of
Table 2.7, `loader` the boot loader of R77, `done` a device that has left BOOT. -/
inductive BootStep where
  | crystal | pll | selfTest | attic | larder | wings | imageCrc | lockstep | retryWait | config | training
  | loader | held | done
  deriving DecidableEq, Repr

/-- One house-core pair: live, synchronised as standby, stopped after a failed self-test, and the wing it runs. -/
structure Pair where
  live : Bool := false
  synced : Bool := false
  stopped : Bool := false
  wing : Nat := 0
  deriving DecidableEq, Repr

/-- A BOOT that waits for its reply or completion to leave its queue (R756). -/
structure PendingBoot where
  queue : Nat
  tag : Nat
  since : Nat
  deriving DecidableEq, Repr

/-- Device state, boot sequence and house cores. -/
structure Dev where
  st : DevState := .off
  step : BootStep := .crystal
  /-- Start of this BOOT, the base of Table 2.6 and BOOT_TIME (R71, R73). -/
  bootAt : Nat := 0
  /-- Start of the boot step that runs. -/
  stepAt : Nat := 0
  /-- Last release of the power-on reset, the base of UPTIME. -/
  porAt : Nat := 0
  /-- Wing under check, and whether it is the second of R74. -/
  wing : Nat := 0
  second : Bool := false
  pairA : Pair := {}
  pairB : Pair := {}
  /-- Retries made after both pairs failed self-test (Table 2.7). -/
  bootRetries : Nat := 0
  /-- Times of the Cellar restarts of the last 60 min (R69). -/
  restarts : List Nat := []
  /-- The house cores stay stopped after a fourth silence (R69). -/
  housesStopped : Bool := false
  /-- Since when no pair has been live (R50, R68). -/
  silentSince : Option Nat := none
  /-- Entry to RECOVERY, for the 50 ms of R66. -/
  recoveryAt : Nat := 0
  /-- Larder working data limited to the first 1 MiB (Table 2.7). -/
  larderLimited : Bool := false
  pendingBoot : Option PendingBoot := none
  /-- Events of Table 2.2 that started this BOOT from OFF. -/
  fromOff : Bool := true
  /-- The scan chain holds the control die in power-on reset (R706). -/
  scanReset : Bool := false
  /-- The power-on reset is released: the feeds hold (Table 2.2); the last OFF was a brown-out. -/
  supplyOk : Bool := false
  /-- Last measurement of the feeds (R734). -/
  supplyAt : Option Nat := none
  brown : Bool := false
  /-- The boot loader has completed an IMAGE_VERIFY with DONE (R77). -/
  verified : Bool := false
  deriving DecidableEq, Repr

/-! ### Queues and Larder (chapter 1) -/

/-- One queue entry: its bytes, and what its transport needs to send it on (destination node or member, port,
and a tag that tells this entry from every other). -/
structure Entry where
  data : Bytes
  dest : Nat := 0
  port : Nat := 0
  tag : Nat := 0
  /-- Entry header of a receive queue (Table 13.5). -/
  head : Bytes := []
  /-- When it was written. -/
  at_ : Nat := 0
  deriving DecidableEq, Repr

/-! ### Hearth: lanes and current control (chapters 3, 4) -/

/-- FORCE of an edge word (Table 3.3). -/
inductive Force where
  | modulate | lowOn | highOn | bothOff
  deriving DecidableEq, Repr

/-- One edge word: FORCE and COMPARE (Table 3.3). -/
structure Edge where
  force : Force := .bothOff
  compare : Nat := 0
  deriving DecidableEq, Repr

/-- The edge words of one bridge for the two halves of a carrier period: phases U, V, W. -/
structure Words where
  rise : List Edge := [{}, {}, {}]
  fall : List Edge := [{}, {}, {}]
  deriving DecidableEq, Repr

/-- Alpha-beta or d-q pair. -/
structure Vec2 where
  x : Int := 0
  y : Int := 0
  deriving DecidableEq, Repr

/-- One half of a carrier period as the PWM generator runs it: start and end in units of 1/32 ns, whether the carrier rises,
its nominal length H in CLK_HEARTH cycles, and the edge words of the lane's bridges for it (R93, R98 to R100). -/
structure Half where
  startX : Nat := 0
  endX : Nat := 0
  rising : Bool := true
  half : Nat := 0
  words : Tab (List Edge) := []
  deriving DecidableEq, Repr

/-- What a control period still needs of its SE at 1.00 and 2.00 µs (Table 1.7): the axis, the SE, whether the computation ends
before the deadline and the spare's check agrees, the currents of the SE before, bridges with a current over range, and whether
the words of the period before were dispatched. -/
structure PeriodJob where
  axis : Nat := 0
  se : Nat := 0
  computed : Bool := true
  spareOk : Bool := true
  prevI : List (Nat × Vec2) := []
  above : List Nat := []
  moved : Bool := false
  /-- Fusion of the period is done: what is left after a takeover is the computation. -/
  fused : Bool := false
  /-- The computation of the period has ended: its state record is complete (R139). -/
  saved : Bool := false
  deriving DecidableEq, Repr

/-- The step of Table 1.7 that a lane's period waits for: its current samples, its SSI sample, its sample record, or fusion's end and the
computation. -/
inductive Stage where
  | idle | current | frame | record | fuse
  deriving DecidableEq, Repr

/-- A lane L0 to L4: its carrier, its shadow registers and the words in force (R92 to R101, R41). -/
structure Lane where
  /-- The lane's carrier runs and gives sample events; its first SE is still to come. -/
  running : Bool := false
  first : Bool := true
  startedAt : Nat := 0
  /-- Control periods since the carrier started. -/
  periodNo : Nat := 0
  seAt : Nat := 0
  /-- The last SE and the next one, in units of 1/32 ns: a CLK_HEARTH cycle is 80, a step of 156.25 ps is 5. -/
  seX : Nat := 0
  nextX : Nat := 0
  /-- The halves of the carrier that bridges still run, newest first: the lead's and those of offset carriers (R97). -/
  halves : List Half := []
  /-- What the period still needs, and the step it waits for, with the time in ns. -/
  job : PeriodJob := {}
  stage : Stage := .idle
  dueAt : Nat := 0
  /-- The last SE was a carrier peak (double update). -/
  peak : Bool := false
  /-- Half period H in CLK_HEARTH cycles in force. -/
  half : Nat := 50000
  /-- Shadow registers, by bridge, and whether they were filled in this period. -/
  shadow : Tab Words := []
  filled : Bool := false
  /-- Words dispatched over the cell links, by bridge. -/
  inForce : Tab Words := []
  dispatched : Bool := false
  /-- Consecutive overruns (R42). -/
  overruns : Nat := 0
  /-- Shadow registers and dispatch frozen by a lane fault (Table 3.6). -/
  frozen : Bool := false
  /-- The self-test of R144 is due. -/
  testDue : Bool := false
  /-- CLK_HEARTH cycles by which the carrier lock lengthens the carrier period in progress (R339). -/
  adjust : Int := 0
  deriving DecidableEq, Repr

/-- A setpoint set (Table 3.4), with the axis parameters its commit carries (R149). -/
structure SetSet where
  tauRef : Int := 0
  idRef : Int := 0
  iqRef : Int := 0
  imaxDyn : Int := 0
  tauMot : Int := 0
  tauGen : Int := 0
  kind : Bool := false
  shareEn : Bool := false
  deriving DecidableEq, Repr

/-- Current control of an axis on its lane: integrators, machine model and balancing (R107 to R128). -/
structure AxHearth where
  /-- The buffer of R43 with its commit bit, and the set the Hearth has taken. -/
  buffer : SetSet := {}
  commit : Bool := false
  taken : SetSet := {}
  takenAt : Nat := 0
  /-- Parameter values the Hearth uses, by PN: those the last commit taken carried (R149). -/
  cfg : Tab Int := []
  bufCfg : Tab Int := []
  /-- PI integrators by system (Q1.30). -/
  xd : Tab Int := []
  xq : Tab Int := []
  psiR : Int := 0
  thSlip : Int := 0
  balD : Tab Int := []
  balQ : Tab Int := []
  vz : Tab Int := []
  /-- Switching state in force by system (0 to 7). -/
  swState : Tab Nat := []
  /-- Consecutive periods with a held phase under R121, by system. -/
  mpcHold : Tab Nat := []
  /-- The next period is computed in vector mode (R124, Table 2.8). -/
  mpcCold : Bool := true
  /-- Current reference of the period (R107). -/
  idRef : Int := 0
  iqRef : Int := 0
  imax : Int := 0
  /-- Its divisor, once a period has been computed (R341, R343). -/
  den : Option Int := none
  /-- Applied d-q and alpha-beta voltage of system 0 (R109, R203). -/
  vdq : Vec2 := {}
  vab : Vec2 := {}
  /-- Since when BAL_DEV has been above BAL_TRIP (R128). -/
  balSince : Option Nat := none
  /-- Torque of the HOUSE_SILENT ramp, when the Hearth carries it out (R50). -/
  silentTau : Option Int := none
  /-- Torque and d current the Hearth last applied, the start of the ramp of R220. -/
  lastTau : Int := 0
  rampTau : Option Int := none
  rampId : Int := 0
  deriving DecidableEq, Repr

/-- Where a phase value of an SE came from (Table 4.4). -/
inductive Src where
  | measured | reconstructed | held | predicted
  deriving DecidableEq, Repr

/-- Sensing of one bridge (chapter 4). -/
structure Bridge where
  /-- Last current codes, voltage codes and the values formed of them. -/
  rawI : List Int := [0, 0, 0]
  rawV : List Nat := [0, 0, 0, 0]
  i : List Int := [0, 0, 0]
  v : List Int := [0, 0, 0]
  vdc : Int := 0
  src : List Src := [.measured, .measured, .measured]
  /-- Predicted phase currents for the next SE (R175). -/
  pred : List Int := [0, 0, 0]
  /-- The words of the period gave at least two measurable phases; the phases (R166). -/
  measurable : List Bool := [true, true, true]
  /-- Consecutive valley SEs with a held value (R176). -/
  holds : Nat := 0
  guard : Bool := false
  shifted : Bool := false
  /-- The same of the words in force, and of the words in the shadow registers. -/
  guardF : Bool := false
  shiftF : Bool := false
  guardS : Bool := false
  shiftS : Bool := false
  /-- Shift still to be added to the next rising word, in 156.25 ps (R170). -/
  carry : List Int := [0, 0, 0]
  /-- Zero-sequence current of the last valley with three phases measured (R172). -/
  i0 : Int := 0
  /-- Last SE or self-triggered conversion (R159). -/
  convAt : Nat := 0
  /-- Largest phase current magnitude since the last tick (R287). -/
  peakI : Int := 0
  /-- Consecutive detections of Table 4.6: sum, offset by phase. -/
  sumRun : Nat := 0
  ofsRun : List Nat := [0, 0, 0]
  /-- Phases whose deviation has raised the SENSE_OFFSET that stands (Table 4.6). -/
  ofsTrip : List Bool := [false, false, false]
  /-- Failed reference checks in a row of the current converters U, V, W and the voltage converter. -/
  refRun : List Nat := [0, 0, 0, 0]
  /-- PHASE_OC detector above OC_LEVEL, and since when (R188, R396). -/
  oc : Bool := false
  ocAt : Nat := 0
  /-- Consecutive measured SEs with a current residual (Table 5.5 bit 2). -/
  residRun : Nat := 0
  /-- Current in the injection frame at the last two measured SEs (R209). -/
  wagI : Vec2 := {}
  wagD : Vec2 := {}
  /-- Alpha-beta voltage of the words in force, and of the words computed for the next period (R175, R203). -/
  vNow : Vec2 := {}
  vNext : Vec2 := {}
  /-- Phase voltages of six-step words computed for the next period, and the phase they leave floating. -/
  phNext : List Int := []
  floatNext : Option Nat := none
  /-- A refresh pulse is being inserted (R375). -/
  refresh : Bool := false
  /-- The period of the last reference check, plus 1. -/
  refPeriods : Nat := 0
  /-- Values that parameters of chapter 4 keep for this bridge until its next SE, by PN (R190). -/
  held : Tab Int := []
  deriving DecidableEq, Repr

/-! ### Rotor position (chapter 5) -/

/-- One of the four position sources of an axis (Table 5.1). -/
structure PosSrc where
  theta : Nat := 0
  valid : Bool := false
  settling : Bool := false
  dropped : Bool := false
  /-- Outside the majority set since (R199), within POS_GATE since while dropped. -/
  outSince : Option Nat := none
  inSince : Option Nat := none
  /-- Last period in which the source contributed. -/
  contribAt : Option Nat := none
  /-- Contributing without a break since (R224 return). -/
  contribSince : Option Nat := none
  deriving DecidableEq, Repr

/-- The position procedure that runs: a scout start by step, or the catch (R212 to R222). -/
inductive Proc where
  | none
  | scoutSettle | scoutPlus | scoutDecay | scoutMinus | scoutRetryDecay | scoutBack
  | scoutMagnetise
  | catchDecay | catchVoltage | catchShort | catchRamp
  deriving DecidableEq, Repr

/-- Rotor position of an axis. -/
structure AxPos where
  /-- The encoder has run on SENSOR_OFFSET since BOOT, and has then moved to a learned offset (R196). -/
  usedOffset : Bool := false
  offMoved : Bool := false
  /-- SENSOR_OFS_LEARNED belongs to the encoder's present count (R195): a return without a reference ends that. -/
  learned : Bool := false
  theta : Nat := 0
  dtheta : Int := 0
  /-- Fused electrical speed, Q3.28. -/
  we : Int := 0
  /-- Speed integrator, angle counts per period in 2^-16. -/
  wi : Int := 0
  valid : Bool := false
  sensor : PosSrc := {}
  waggle : PosSrc := {}
  flux : PosSrc := {}
  vm : PosSrc := {}
  /-- Last innovation e of R198, for Table 5.5 bit 0. -/
  lastE : Int := 0
  noMajSince : Option Nat := none
  lastContrib : Option Nat := none
  /-- Since when no source has contributed. -/
  lostSince : Option Nat := none
  /-- Last fusion on a self-timed sample (R757). -/
  fusedAt : Option Nat := none
  /-- (time, we) of the last 5 ms, newest first (R218, R224). -/
  weHist : List (Nat × Int) := []
  /-- (time, speed) that the catch loop measured in the last 5 ms (R222). -/
  lockHist : List (Nat × Int) := []
  /-- Flux observer state and settling (R203, R204). -/
  ps : Vec2 := {}
  fluxInSince : Option Nat := none
  fluxSettled : Bool := false
  /-- Waggle injection (R207 to R210). -/
  wagSign : Bool := false
  wagCount : Nat := 0
  wagSettle : Nat := 0
  wagInjAngle : Nat := 0
  wagKs : List Int := []
  wagBroken : Bool := false
  /-- The last half-period was not free of VSAT or held phases; the sign the last computation applied. -/
  wagBadLast : Bool := true
  wagApplied : Bool := false
  wagNext : Bool := false
  /-- Injection stopped at WAGGLE_OFF and waits for FLUX_HI (R207). -/
  wagHigh : Bool := false
  /-- Voltage model: last back-EMF (R205). -/
  emf : Vec2 := {}
  emfDir : Int := 0
  emfLowSince : Option Nat := none
  /-- The procedure that runs, since when, and its counters. -/
  proc : Proc := .none
  procAt : Nat := 0
  /-- Detection of the catch attempt (R221). -/
  detectAt : Nat := 0
  catchLoop : Vec2 := {}
  lockRun : Nat := 0
  catchI : Vec2 := {}
  /-- Catch counted as neither catch nor scout try (Table 5.3). -/
  flying : Bool := false
  rampEndAt : Option Nat := none
  /-- Scout start (R212 to R216). -/
  polV : Int := 0
  /-- The words of a polarity pulse are written; when they came to act (Table 5.4). -/
  pulseNext : Bool := false
  pulseAt : Option Nat := none
  peakPlus : Int := 0
  peakMinus : Int := 0
  releaseAngle : Nat := 0
  releaseAt : Nat := 0
  /-- Travel of the fused angle from the angle at release (R214). -/
  travel : Int := 0
  /-- Six-step commutation (R224 to R226), which SIXSTEP shows. -/
  six : Bool := false
  sector : Nat := 0
  crossAt : Nat := 0
  interval : Nat := 0
  commAt : Option Nat := none
  lastFloat : Int := 0
  lastFloatAt : Nat := 0
  /-- Current integrators of R227, by system. -/
  sixX : Tab Int := []
  deriving DecidableEq, Repr

/-- The state record of a lane in L4's mirror bank (R139): the period it ends, the axis's control and position state with its
commit time, and the lane's words and counters. -/
structure HearthRec where
  periodNo : Nat := 0
  hearth : AxHearth := {}
  pos : AxPos := {}
  inForce : Tab Words := []
  overruns : Nat := 0
  deriving DecidableEq, Repr

/-! ### Speed loop and axis state (chapters 2, 7) -/

/-- What began a stop (R283); a fault stop carries whether it retries and whether the try counts. -/
inductive StopKind where
  | disable | quickstop | enable | pinLoss | ss1 | houseSilent | ring
  | fault (retry counted : Bool)
  deriving DecidableEq, Repr

/-- The end state of a stop: for a stop by DISABLE, QUICKSTOP and the rest, R283. -/
inductive StopEnd where
  | ready | disabled | sto | fault (retry counted : Bool)
  deriving DecidableEq, Repr

/-- Speed loop of an axis (R276 to R294). -/
structure AxSpeed where
  /-- Value that SETPOINT stored (R278). -/
  setpoint : Int := 0
  wHat : Int := 0
  tlHat : Int := 0
  xi : Int := 0
  wRef : Int := 0
  tauPrev : Int := 0
  idfw : Int := 0
  /-- I²t accumulators in pu²·µs, as fractions of 2^-60 pu² and ns; `none` before the first update (50 %). -/
  xm : Option Int := none
  xs : Option Int := none
  tickAt : Nat := 0
  /-- The next tick is the first after entry to RUNNING, LIMP or EMERGENCY (R281). -/
  fresh : Bool := true
  cmd : Int := 1
  zeroSince : Option Nat := none
  render : Bool := false
  payHold : Bool := false
  renderAt : Nat := 0
  calmSince : Option Nat := none
  vented : Bool := false
  ventV : Int := 0
  ventLowSince : Option Nat := none
  ventHighSince : Option Nat := none
  /-- Ventilation cap that rises after VENTED clears (R294). -/
  ventCap : Option Int := none
  /-- The loop's values are in hive pu (R343, R344). -/
  inHive : Bool := false
  /-- LINK_UV has been raised: switching stops at the next tick (Table 9.9). -/
  uvStop : Bool := false
  /-- Values that parameters of Tables 7.8, 9.15 and 10.10 keep until the next tick, by PN (R317, R408, R450). -/
  held : Tab Int := []
  deriving DecidableEq, Repr

/-- Emergency pin of an axis (R303 to R309). -/
structure EcPin where
  sampleAt : Option Nat := none
  lossSince : Option Nat := none
  freeSince : Option Nat := none
  lost : Bool := false
  deriving DecidableEq, Repr

/-- The progress of an axis's off-state diagnostics (Table 9.8). -/
inductive PreStep where
  | pump | gateLoop | desat | phase | sensing | chopper | finish
  deriving DecidableEq, Repr

/-- Off-state diagnostics that run: by command of a session, or without one on entry to EMERGENCY (R307). -/
structure Precheck where
  bridge : Nat := 0
  rest : List Nat := []
  step : PreStep := .pump
  /-- Next channel or phase to test. -/
  item : Nat := 0
  startedAt : Nat := 0
  bits : Nat := 0
  /-- Links whose chopper steps this precheck has run, and those that one beside it has run (Table 9.10). -/
  linksDone : List Nat := []
  linksSkip : List Nat := []
  emergency : Bool := false
  deriving DecidableEq, Repr

/-- What an axis was before its first transition in a control period, the rank of the trigger taken (Table 2.5), and the end of that
period (R60). -/
structure Turn where
  till : Nat
  rank : Nat
  st : AxState
  prev : AxState
  stop : StopKind
  stopEnd : StopEnd
  retryFrom : AxState
  resumeKind : StopKind
  resumeEnd : StopEnd
  emgDiag : Bool
  emgSwitching : Bool
  tries : List Nat
  started : Bool
  deriving DecidableEq, Repr

/-- An axis A0 to A3. -/
structure Axis where
  st : AxState := .disabled
  prev : AxState := .disabled
  stop : StopKind := .disable
  /-- HOUSE_SILENT joined a stop that keeps its own end (R50). -/
  stopEnd : StopEnd := .disabled
  /-- State a retry returns to, and the stop it resumes (R63). -/
  retryFrom : AxState := .ready
  resumeKind : StopKind := .disable
  resumeEnd : StopEnd := .disabled
  /-- Off-state diagnostics of an EMERGENCY axis that still wait (Table 7.4). -/
  emgDiag : Bool := false
  retryAt : Nat := 0
  /-- The retry waits for the Cellar's thermal release (R405). -/
  retrySd : Bool := false
  /-- The axis was switching in EMERGENCY when the fault was raised (R64). -/
  emgSwitching : Bool := false
  /-- Start times of the tries that count (R401). -/
  tries : List Nat := []
  /-- Switching in EMERGENCY has started (R307, R308). -/
  started : Bool := false
  /-- Active short held by the fault sequencer, and since when the currents are below ASC_RELEASE (R382). -/
  asc : Bool := false
  ascSince : Option Nat := none
  /-- The axis's switches are off by a safe state of Table 9.5 although its state switches. -/
  forcedOff : Bool := false
  turn : Option Turn := none
  precheck : Option Precheck := none
  hearth : AxHearth := {}
  pos : AxPos := {}
  speed : AxSpeed := {}
  ec : EcPin := {}
  deriving DecidableEq, Repr

/-- A DC link D0 or D1 (R295 to R302). -/
structure Link where
  chopOn : Bool := false
  chopAt : Nat := 0
  /-- Commanded-on time of the running millisecond, in ns, and since when (R296). -/
  onNs : Nat := 0
  countAt : Nat := 0
  energyMj : Int := 0
  /-- Last update of the energy model. -/
  energyAt : Nat := 0
  /-- Values that parameters of Table 7.9 keep until the next sample of the link, by PN (R317). -/
  held : Tab Int := []
  chopHot : Bool := false
  regenBlock : Bool := false
  chopFault : Bool := false
  /-- Sample at the end of the last link period, rising run, on throughout (R299). -/
  lastPeriodV : Option Int := none
  riseRun : Nat := 0
  onThrough : Bool := false
  sampleAt : Option Nat := none
  sampleV : Int := 0
  sampleBridge : Nat := 0
  disagreeRun : Nat := 0
  agreeRun : Nat := 0
  uvSince : Option Nat := none
  deriving DecidableEq, Repr

/-! ### Feedback interfaces (chapter 6) -/

/-- What every feedback interface keeps: its speed filter, its report and its fault (R238, R249, R269). -/
structure FbCommon where
  /-- Raw speed samples, newest first (R249), the length they were kept for, and how many were taken since the reset. -/
  filt : List Int := []
  filtN : Nat := 0
  taken : Nat := 0
  /-- N samples have been taken since the reset (the filter is valid). -/
  warm : Bool := false
  faulty : Bool := false
  /-- Free of the declaring conditions since (R270). -/
  clearSince : Nat := 0
  suspect : Bool := false
  /-- Angle, speed (Q15.16 turns/s) and report of the last sample. -/
  angle : Nat := 0
  speed : Int := 0
  report : Nat := 2
  sampleAt : Nat := 0
  status : Nat := 2
  /-- Fields of Table 6.6 from FB_REPORT on, as the last sample left them. -/
  area : Bytes := []
  /-- Parameters as the last sample took them (R275); `none` before the first. -/
  cfg : Option (Tab Int) := none
  deriving DecidableEq, Repr

/-- An encoder or Hall interface ENC0 to ENC3. -/
structure Enc where
  fb : FbCommon := { status := 3, report := 1 }
  /-- Levels of A, B and Z as accepted. -/
  a : Bool := false
  b : Bool := false
  z : Bool := false
  /-- Motion count without the index corrections (R252), and the sum of the corrections. -/
  motion : Int := 0
  corr : Int := 0
  /-- The direction run: direction, and (time, motion count) of its transitions, newest first (R248). -/
  dir : Int := 0
  run : List (Nat × Int) := []
  lastT : Nat := 0
  lastDir : Int := 0
  still : Bool := true
  /-- Motion transitions seen since standstill began (R247). -/
  sinceStill : Nat := 0
  reversed : Bool := false
  /-- Times of the edge faults of the last 1 ms (R242). -/
  faults : List Nat := []
  referenced : Bool := false
  /-- The first index after BOOT or return is accepted without a check (R254). -/
  needRef : Bool := true
  candidate : Option Int := none
  /-- An index has been accepted since BOOT (COLD_FLAGS bit 4); counts of the index events that wait for the next sample. -/
  everRef : Bool := false
  idx : List Int := []
  /-- Travel in one direction since the last index event (R256). -/
  travel : Int := 0
  idxMissed : Bool := false
  idxMoved : Bool := false
  idxCorr : Bool := false
  /-- Pairs with the condition of R243 (bit 0 A, 1 B, 2 Z). -/
  lineLoss : Nat := 0
  sector : Nat := 0
  /-- Last code H, and whether a valid one has been accepted. -/
  hall : Nat := 0
  hallSeen : Bool := false
  /-- Accepted edge of the sector, for interpolation: the boundary is the sector's start (forward) or end. -/
  sectorDir : Int := 0
  deriving DecidableEq, Repr

/-- A resolver interface RES0, RES1 (R257 to R261). -/
structure Res where
  fb : FbCommon := {}
  started : Bool := false
  aT : Int := 0
  turns : Int := 0
  /-- Tracking speed in counts/s. -/
  wT : Int := 0
  pairAt : Nat := 0
  sinCode : Int := 0
  cosCode : Int := 0
  badRun : Nat := 0
  goodRun : Nat := 0
  ampRun : Nat := 0
  excOn : Bool := true
  excAt : Nat := 0
  /-- What the excitation output drives: mV rms (0 while it stands still) and the period in 10 ns (R257); the time in 1/1,024 ns of a
  positive excitation peak. -/
  driveMv : Nat := 0
  driveN : Nat := 0
  base : Option Int := none
  deriving DecidableEq, Repr

/-- An SSI interface SSI0 to SSI3 (R262 to R268). -/
structure Ssi where
  fb : FbCommon := {}
  /-- Frame being clocked out, started at; clock line idle since (R265). -/
  busy : Bool := false
  startAt : Nat := 0
  idleAt : Nat := 0
  life : Option Nat := none
  /-- Last good frame: single-turn angle, capture time; raw speed sample in counts/s. -/
  good : Option (Nat × Nat) := none
  raw : Int := 0
  fresh : Bool := false
  badRun : Nat := 0
  frame : Nat := 0
  firstFrame : Bool := true
  /-- No frame has ended since the enable: the start bit's delay is taken as 2 µs (R262). -/
  firstDelay : Bool := true
  /-- SEs from the one that the last frame was for, which counts 1 (R265); the end of the frame in progress. -/
  seCount : Int := 255
  endAt : Nat := 0
  /-- Data line high at the first clock edge of the frame. -/
  startHigh : Bool := false
  deriving DecidableEq, Repr

/-! ### Gate cells and Cellar (chapter 9) -/

/-- Gate stage of R367; `rail` holds the gate at its rail. -/
inductive GStage where
  | rail | s1 | s2 | s3
  deriving DecidableEq, Repr

/-- Two-step soft-off of R380. -/
inductive SoftPhase where
  | none | level | sink
  deriving DecidableEq, Repr

/-- What a channel drives its gate with (R366, R373, R380): the Miller clamp, a source or sink current by its code of Table 9.4, the
supply rail, the level of a soft-off in 0.1 V, or its sink current in 0.5 A. -/
inductive Drive where
  | clamp | rail
  | source (code : Nat)
  | sink (code : Nat)
  | level (dv : Nat)
  | soft (n : Nat)
  deriving DecidableEq, Repr

/-- One gate channel: 2g the high channel of cell Gg (C0 for G12), 2g + 1 its low channel (C1). -/
structure Chan where
  /-- Commanded on, and gate above OFF_THRESH (R369). -/
  cmd : Bool := false
  on : Bool := false
  /-- When the gate was last seen off (R370); when it was commanded off (R371). -/
  offAt : Nat := 0
  offCmdAt : Nat := 0
  /-- A turn-on that waits for the opposite gate, since (R370). -/
  wait : Option Nat := none
  stage : GStage := .rail
  stageAt : Nat := 0
  /-- The last command, and the last turn-on among them (R367, R379). -/
  cmdAt : Nat := 0
  onAt : Nat := 0
  platMiss : Bool := false
  /-- Plateau durations measured since the last status frame, in 312.5 ps (R368). -/
  platOn : Option Nat := none
  platOff : Option Nat := none
  desat : Bool := false
  drive : Drive := .clamp
  /-- The trickle charge pump of a high channel runs (R374). -/
  pump : Bool := false
  soft : SoftPhase := .none
  softAt : Nat := 0
  /-- Soft-off since the last clear (Table 9.11), and one by a fault that has not been cleared: the channel ignores turn-on commands
  (R380). -/
  softSeen : Bool := false
  softLatch : Bool := false
  /-- The current-sense input of a chopper has tripped, and its switch is still on (R386, R403). -/
  ocTrip : Bool := false
  clamp : Bool := true
  warn : Bool := false
  uv : Bool := false
  /-- Direct gate pin level (R387). -/
  dg : Bool := false
  deriving DecidableEq, Repr

/-- A gate-cell die G0 to G12. -/
structure Cell where
  linkUp : Bool := false
  /-- Link trained and frames valid since, for the 10 ms of Table 9.9. -/
  linkAt : Nat := 0
  testing : Bool := false
  /-- CROSS_CMD reports of the last 1 ms (R372). -/
  cross : List Nat := []
  /-- TH_LEVEL of the gate current cap in force (R433). -/
  cap : Nat := 0
  /-- Direct mode at the last status frame (R388). -/
  dgMode : Bool := false
  /-- Values that parameters of Tables 9.12 to 9.14 keep until the next status frame, by PN (R408). -/
  held : Tab Int := []
  deriving DecidableEq, Repr

/-- The Cellar: STO inputs, demand, hold-off causes and the thermal release (R391 to R396, R427). -/
structure Cellar where
  stoA : Bool := false
  stoB : Bool := false
  /-- Times of the last change of each input. -/
  stoAAt : Nat := 0
  stoBAt : Nat := 0
  demand : Bool := false
  demandAt : Nat := 0
  /-- The demand whose SS1 ramps the Cellar times: it outlives a release of the demand while one runs (R393). -/
  ss1 : Option Nat := none
  /-- Since when the inputs differ (R394). -/
  diffSince : Option Nat := none
  disc : Bool := false
  /-- Both inputs have been low together for STO_FILT since the discrepancy (R394). -/
  discLow : Bool := false
  /-- Hold-off causes of Table 9.7 by bit, with the mask of the cells each holds. -/
  causes : Tab Nat := [(0, 0x1FFF)]
  /-- THERMAL_SD: all sensors at or below 105 °C since; times of the automatic releases of the last 60 min. -/
  coolSince : Option Nat := none
  releases : List Nat := []
  shutdowns : List Nat := []
  /-- Bridges with OC_BACKSTOP standing. -/
  backstop : List Nat := []
  deriving DecidableEq, Repr

/-- A fault that stands: code of Table 9.9, axis it stands on (255 the module), location path, whether an
off-state diagnostic raised it (R397), and the instance (bridge, cell, channel, interface) its clear condition
reads. -/
structure Standing where
  code : Nat
  axis : Nat
  path : String
  pre : Bool := false
  inst : Nat := 0
  at_ : Nat := 0
  /-- Since when its clear condition holds, for a condition with a dwell. -/
  okSince : Option Nat := none
  /-- The safe-state code it was raised with (Table 9.9). -/
  safe : Nat := 0
  deriving DecidableEq, Repr

/-! ### Sessions, ownership and Attic (chapters 11, 12) -/

/-- A reply kept for repetition (R455): its sequence, the packets of its run, and where they lie in working data (Table 11.5). -/
structure Retained where
  seq : Nat
  packets : List Bytes
  ptr : Nat
  deriving DecidableEq, Repr

/-- A SET_BLOCK transfer in progress (R481). -/
structure BlockRun where
  next : Nat
  total : Nat
  items : List (Nat × Nat) := []
  deriving DecidableEq, Repr

/-- A session (Tables 11.5 and 12.6). -/
structure Session where
  isOpen : Bool := false
  transport : Transport := .spi
  source : Nat := 0
  port : Nat := 0
  auth : Bool := false
  nextSeq : Nat := 0
  clientId : Nat := 0
  opened : Nat := 0
  openedAt : Nat := 0
  /-- Last command that passed step 5: base of the idle timer (R463). -/
  idleAt : Nat := 0
  timeoutMs : Nat := 0
  eventMask : Nat := 0
  notifSeq : Nat := 0
  lost : Nat := 0
  telPeriod : Nat := 0
  telPns : List Nat := []
  telAt : Nat := 0
  /-- Session key, 0xFF where there is none; the key store is its only reader. -/
  keyIndex : Nat := 0xFF
  key : Bytes := []
  retained : List Retained := []
  /-- When a command of it last passed step 5 of Table 11.3 (R501). -/
  liveAt : Option Nat := none
  violations : Nat := 0
  rank : Nat := 0
  entry : Nat := 0xFF
  authReq : Bool := false
  proven : Bool := false
  offered : Bool := false
  ownedSince : Nat := 0
  block : Option BlockRun := none
  deriving DecidableEq, Repr

/-- An open handover offer (R498). -/
structure Offer where
  target : Nat
  at_ : Nat
  sess : Nat
  seq : Nat
  deriving DecidableEq, Repr

/-- An election window (R496): when it opened, and its claimants (session, sequence). -/
structure Election where
  at_ : Nat
  claims : List (Nat × Nat) := []
  deriving DecidableEq, Repr

/-- Ownership (R493 to R502). -/
structure Owner where
  session : Nat := 0
  /-- Restart of the owner's heartbeat timer. -/
  hbAt : Nat := 0
  /-- Start of the ownerless timer, and whether EMERGENCY_DELAY was raised for it. -/
  ownerlessAt : Option Nat := none
  delayed : Bool := false
  election : Option Election := none
  offer : Option Offer := none
  deriving DecidableEq, Repr

/-- An operation answered ACCEPTED whose completion is still to come (R484): opcode, target, session, sequence. -/
structure Op where
  opcode : Nat
  target : Nat
  sess : Nat
  seq : Nat
  at_ : Nat := 0
  deriving DecidableEq, Repr

/-- A packet that waits until it fits its reply queue: a completion notification (R486), or a packet of a long reply run
(R469, R482). -/
structure Waiting where
  sess : Nat
  packet : Bytes
  boot : Bool := false
  run : Bool := false
  deriving DecidableEq, Repr

/-- A SNAPSHOT that waits for the next SE of its axis (R483). -/
structure SnapWait where
  axis : Nat
  sess : Nat
  seq : Nat
  pns : List Nat
  deriving DecidableEq, Repr

/-- One generation of an Attic slot with its journal entry (R507): state 0 erased, 1 valid, 2 failed check. -/
structure Gen where
  state : Nat := 0
  value : Nat := 0
  /-- The 8 check bits over the value and the generation number. -/
  check : Nat := 0
  sess : Nat := 0
  client : Nat := 0
  time : Nat := 0
  deriving DecidableEq, Repr

/-- An ATTIC_WRITE that programs (R511). -/
structure AtticJob where
  slot : Nat
  gen : Nat
  value : Nat
  sess : Nat
  seq : Nat
  retried : Bool := false
  client : Nat := 0
  /-- The session that began it is still open. -/
  told : Bool := true
  at_ : Nat := 0
  deriving DecidableEq, Repr

/-- The Attic: generations by slot × 8 + generation − 1, and the values in force since the last BOOT (R509). -/
structure Attic where
  gens : Tab Gen := []
  mirror : Tab Nat := []
  /-- Slots whose value in force comes from a valid generation. -/
  inForce : List Nat := []
  /-- Generation in force of each slot (0 none), for ATTIC_PENDING. -/
  genIn : Tab Nat := []
  /-- Every generation as the last BOOT found it, for the mirror (R509, R514). -/
  bootGens : Tab Gen := []
  job : Option AtticJob := none
  deriving DecidableEq, Repr

/-! ### Fault records (chapter 16) and Forager channels (chapter 15) -/

/-- An entry of the fault record ring (Table 16.6). -/
structure FRec where
  seq : Nat := 0
  code : Nat := 0
  subject : Nat := 0xFF
  safe : Nat := 0
  time : Nat := 0
  uptime : Nat := 0
  node : Nat := 0
  restored : Bool := false
  cleared : Bool := false
  secondary : Bool := false
  latched : Bool := false
  degraded : Bool := false
  devState : Nat := 0
  axState : Nat := 0
  path : String := ""
  rep : Nat := 0
  /-- PERIOD_NO, POS_SPEED, LINK_V, TS_HOT, IU, IV, IW of CONTEXT. -/
  context : List Int := []
  clearedTime : Nat := 0
  frameRef : Nat := 0xFFFFFFFF
  /-- When it was written, for the repeat rule of R656. -/
  at_ : Nat := 0
  /-- A change still to be copied into the configuration area (R658). -/
  dirty : Bool := true
  deriving DecidableEq, Repr

/-- What a WAITING channel waits for (R622, R616). -/
inductive FgWait where
  | none | line (k : Nat) | queue (q : Nat)
  deriving DecidableEq, Repr

/-- A write beat issued whose response is still to come: address (of an entry's own bytes for a queue), data, and
reissues made (R627, R628). -/
structure FgBeat where
  addr : Nat
  data : Bytes
  tries : Nat := 0
  deriving DecidableEq, Repr

/-- The MOVE, SHUF or CRC in progress: its words, bytes or elements in all and already read, and the data of a queue
source (R626, R631). -/
structure FgRun where
  shuf : Bool
  crc : Bool := false
  w1 : Nat
  w2 : Nat
  total : Nat
  done : Nat := 0
  data : Option Bytes := none
  /-- Destination of a MOVE as XD held it when the instruction began. -/
  dst : Nat := 0
  deriving DecidableEq, Repr

/-- A Forager channel beyond its parameters (R604 to R628). -/
structure FgChan where
  /-- Event latches by line. -/
  latches : Nat := 0
  wait : FgWait := .none
  /-- Timeout of the WAIT in progress, and what is left of it while paused. -/
  timeoutAt : Option Nat := none
  timeoutLeft : Option Nat := none
  /-- State to return to when FG_DISABLE clears. -/
  resume : Nat := 1
  /-- FORAGER_STOP waits for the write responses. -/
  stopping : Bool := false
  /-- A beat failed after its last reissue (R628). -/
  failing : Bool := false
  run : Option FgRun := none
  /-- The staging buffer: the chunk read last. -/
  staging : Bytes := []
  /-- Write beats whose response is still to come, oldest first. -/
  outstanding : List FgBeat := []
  /-- END_IRQ and ERR_IRQ to the house cores, raised since the last start (R613, R628). -/
  endIrq : Bool := false
  errIrq : Bool := false
  deriving DecidableEq, Repr

/-! ### Fanner and junction model (chapter 10) -/

/-- One temperature sensor TS0 to TS28 (R416 to R420); temperatures in 0.25 °C. -/
structure Sensor where
  bad : Nat := 0
  /-- d of R416 less its factory value D0, in 2^-32 of 0.25 °C. -/
  dd : Int := 0
  /-- Last valid reading and its time, the T_last of R418. -/
  last : Int := 0
  lastAt : Nat := 0
  /-- Consecutive plausible readings while broken (R420). -/
  good : Nat := 0
  /-- This sensor gave the hottest reading of all at its last valid reading (R419). -/
  hottest : Bool := false
  /-- Lowest reading since the last count, and the highest after a rise of 40 °C (R446). -/
  low : Option Int := none
  high : Option Int := none
  deriving DecidableEq, Repr

/-- A thermal level with its handshake: the module's, or an axis's junction level (R422, R429, R430, R443). -/
structure Level where
  /-- Hot state as the level sees it: 0 normal, 1 warning, 2 throttle. -/
  hot : Nat := 0
  want : Nat := 0
  since : Option Nat := none
  graceAt : Option Nat := none
  reqAt : Option Nat := none
  enforcing : Bool := false
  /-- L in hundredths of 0.1 %, so that 100 µs are one step of 100 per second. -/
  fine : Nat := 0
  deriving DecidableEq, Repr

/-- A switch position of the junction model (R435 to R440); temperatures in 2^-48 °C. -/
structure Junction where
  started : Bool := false
  dT : Int := 0
  c : Int := 0
  m : Int := 0
  /-- Valid plateaus of the running millisecond: sum and count, in 312.5 ps, and the sum of |i| in 0.01 A. -/
  plats : Nat := 0
  platN : Nat := 0
  platI : Nat := 0
  /-- Plateaus of the pulse test. -/
  testSum : Nat := 0
  testN : Nat := 0
  deriving DecidableEq, Repr

/-- The pulse test of a bridge (R439). -/
structure PulseTest where
  point : Nat
  /-- Pulses applied, position by position. -/
  done : Nat := 0
  at_ : Nat := 0
  failed : Bool := false
  /-- The position whose pulse runs, and its latest end. -/
  pulse : Option (Nat × Nat) := none
  deriving DecidableEq, Repr

/-- The Fanner. -/
structure Fanner where
  first : Bool := true
  windowAt : Nat := 0
  sensors : Tab Sensor := []
  level : Level := {}
  coldWant : Nat := 0
  coldSince : Option Nat := none
  hold60 : Option Nat := none
  /-- Junction levels and τ0 of R431 by axis. -/
  jt : Tab Level := []
  tau0 : Tab Int := []
  /-- NTC readings of the last 10 min where they changed, newest first (R439). -/
  ntc : Tab (List (Nat × Int)) := []
  ntcAt : Tab Nat := []
  junctions : Tab Junction := []
  jtAt : Nat := 0
  pulse : Tab PulseTest := []
  /-- Last time a bridge switched (R439). -/
  switchedAt : Tab Nat := []
  /-- Fraction of LIFE_USED below 0.001 h, in µs, and the times of the last update and save. -/
  lifeRest : Nat := 0
  lifeAt : Nat := 0
  wearAt : Nat := 0
  /-- Values that TH_GRACE and TH_FLOOR keep until the next reading, and NTC_R25 until the next of its input, by PN (R450). -/
  held : Tab Int := []
  ntcHeld : Tab Int := []
  deriving DecidableEq, Repr

/-! ### Share ring (chapter 8) -/

/-- A ring port SR-L (0) or SR-R (1). -/
structure RingPort where
  pair0 : Bool := false
  pair1 : Bool := false
  /-- When each pair went down last, or its reception began: 50 µs of good characters bring it up (R321). -/
  down0 : Nat := 0
  down1 : Nat := 0
  /-- The pair in use, true for pair 1, and whether one has been in use yet (R320). -/
  onPair1 : Bool := false
  used : Bool := false
  up : Bool := false
  upAt : Nat := 0
  fold : Bool := true
  /-- When the member folded there last (R349). -/
  foldAt : Nat := 0
  ready : Bool := false
  /-- A foreign tray holds the port down (R329), last seen at. -/
  foreign : Option Nat := none
  /-- Link delays of the last 16 responses, in ps (R337), and the number the neighbour gave. -/
  delays : List Nat := []
  neighbour : Option Nat := none
  /-- Delay request outstanding: its sequence, and whether one is. -/
  reqSeq : Nat := 0
  reqOut : Bool := false
  /-- The last tray sent out of the port (its 367 bytes), and the data bytes of its last delay request and response (Table 8.1). -/
  out : Bytes := []
  req : Bytes := []
  resp : Bytes := []
  deriving DecidableEq, Repr

/-- A member's slot as a view holds it: 18 bytes, SOURCE of Table 8.6, and closes it has been held. -/
structure RingSlot where
  data : Bytes := []
  source : Nat := 0
  held : Nat := 0
  deriving DecidableEq, Repr

/-- An open view of a cycle (R332): when the cycle started, the trays that have passed and when the last ended, the fresh
copies, the header used with its DELAY_SUM and SYNC_ERR in ps (R336), and the good message block. -/
structure RingView where
  cycle : Nat
  startAt : Nat
  passes : Nat := 0
  endAt : Nat := 0
  copies : Tab RingSlot := []
  header : Bytes := []
  best : Option (Nat × Int) := none
  /-- The first header since the start has set HIVE_TIME in this cycle. -/
  jumped : Bool := false
  msg : Bytes := []
  folded : Bool := false
  /-- A tray of the cycle has shown the own slot other than empty or as this member wrote it (Table 8.13). -/
  ownBad : Bool := false
  deriving DecidableEq, Repr

/-- The share record of a cycle (Table 8.7). -/
structure ShareRec where
  cycle : Nat := 0
  complete : Bool := false
  mode : Nat := 0
  flags : Nat := 0
  share : Int := 0
  demand : Int := 0
  live : Nat := 0
  contrib : Nat := 0
  capPos : Nat := 0
  capNeg : Nat := 0
  deriving DecidableEq, Repr

/-- The share ring block. -/
structure Ring where
  /-- HIVE_EN in effect, and the parameters as the last cycle start took them (R359). -/
  on : Bool := false
  cfg : Tab Int := []
  left : RingPort := {}
  right : RingPort := {}
  /-- HIVE_TIME in ps is the model's time in ps plus this. -/
  ofs : Int := 0
  /-- A tray header has set HIVE_TIME, or this member is cycle master. -/
  timeSet : Bool := false
  syncGood : Nat := 0
  syncBad : Nat := 0
  /-- Last multiple of 20 µs that HIVE_TIME has reached. -/
  boundary : Nat := 0
  /-- Cycle of the last header accepted or tray started. -/
  cycle : Nat := 0
  views : List RingView := []
  /-- The message block of this member's cycle, taken from Q18 (R335). -/
  ownMsg : Option (Nat × Bytes) := none
  folded : Bool := false
  /-- The last tray had FOLDED set (Table 8.12). -/
  trayFolded : Bool := false
  /-- The trays started last left by both ports; ports at which trays have come since (R331, R349). -/
  both : Bool := false
  back : List Nat := []
  /-- A tray of this cycle master has come back by the port it left by: the ring is broken somewhere (R331, R349). -/
  foldSeen : Bool := false
  headerAt : Nat := 0
  heardAt : Tab Nat := []
  /-- Slots of the view closed last. -/
  slots : Tab RingSlot := []
  /-- The share record that is complete. -/
  record : ShareRec := {}
  /-- Record latched by the Hearth for its period (R45). -/
  latched : ShareRec := {}
  stateAt : Nat := 0
  hasLeft : Bool := false
  leaveAt : Option Nat := none
  dup : Bool := false
  /-- Own slot as last written into a tray, and the cycle it was written in. -/
  own : Bytes := []
  ownCycle : Option Nat := none
  bothDownAt : Option Nat := none
  fallback : Bool := false
  /-- The fallback is that of R342, for want of a torque master. -/
  fallbackTm : Bool := false
  minority : Bool := false
  held : Bool := false
  short : Bool := false
  lost : Bool := false
  /-- Consecutive closed views with members in C and no torque master. -/
  noMaster : Nat := 0
  /-- Hive demand the own speed loop formed, and the speed target taken over (R343, R344). -/
  demand : Int := 0
  wTaken : Option Int := none
  /-- Transfer tags by destination member (Table 11.7). -/
  tags : Tab Nat := []
  deriving DecidableEq, Repr

/-! ### Swarm bus, swarm time and the Comb (chapters 13, 14) -/

/-- A frame of a transmit queue, beside its queue entry of the same tag: identifier, entry time, end of its lifetime, own or
forwarded, the packet transfer it belongs to (R542, R545), and for an EMERGENCY copy the port and tag of its original (R553). -/
structure TxFrame where
  tag : Nat
  id : Nat
  at_ : Nat
  endAt : Option Nat
  own : Bool
  xfer : Option Nat
  last : Bool
  copyOf : Option (Nat × Nat)
  deriving DecidableEq, Repr

/-- The Comb window a port is in (R591 to R593). -/
structure CombWin where
  cycle : Nat
  window : Nat
  /-- The window's exclusive frame has started. -/
  used : Bool
  deriving DecidableEq, Repr

/-- A frame as it was on the bus: an FD frame with a 29-bit identifier (R528), its BRS and ESI bits (R526, R547) and its data. -/
structure SentFrame where
  id : Nat
  brs : Bool
  esi : Bool
  data : Bytes
  deriving DecidableEq, Repr

/-- A swarm bus port. -/
structure SbPort where
  frames : List TxFrame := []
  /-- The last frame sent. -/
  sent : Option SentFrame := none
  /-- Frames of others that the port has acknowledged since it was enabled (R524, R526). -/
  acks : Nat := 0
  /-- Where the port checks its own data-phase bits after a transmitted bit edge, in mtq: the delay last measured plus TDCO (R532). -/
  ssp : Option Nat := none
  enabledAt : Nat := 0
  busOffAt : Nat := 0
  /-- Counting recessive bits since (R549), and whether a request stands. -/
  countAt : Nat := 0
  request : Bool := false
  tdcSat : Bool := false
  claiming : Bool := false
  /-- Consecutive data-field bit errors by identifier (R558). -/
  twins : Tab Nat := []
  /-- Frames removed at the end of their lifetime: times, and the last LIFETIME event (R565). -/
  drops : List Nat := []
  lifeEventAt : Option Nat := none
  /-- Phase corrections of the last frame received, summed, in CLK_BUS cycles (R531). -/
  phase : Int := 0
  /-- CLK_BUS cycles of frames on the bus, by the end of the frame. -/
  load : List (Nat × Nat) := []
  win : Option CombWin := none
  /-- Frames started in an EXCL or SILENT window cannot be retried in it (R544): identifier tried. -/
  tried : List Nat := []
  mismatch : Bool := false
  suspended : Bool := false
  /-- Delay measurement (R576): sequence, stamp of the request sent, last 16 results in 2^-16 µs. -/
  delaySeq : Nat := 0
  reqStamp : Option Int := none
  delays : List Int := []
  /-- References sent on the port. -/
  refSeq : Nat := 0
  /-- A better reference accepted on a relay port: last at, and relaying stopped (R590). -/
  betterAt : Option Nat := none
  stopped : Bool := false
  deriving DecidableEq, Repr

/-- A transfer in reassembly (R475, R476): the ring or a port, source, tag, next index, bytes so far. -/
structure Xfer where
  ring : Bool
  port : Nat
  source : Nat
  tag : Nat
  next : Nat
  bytes : Bytes
  lastAt : Nat
  deriving DecidableEq, Repr

/-- A reference accepted: its key (rank, hops, source), the master, its port and time (R578). -/
structure TimeRef where
  rank : Nat
  hops : Nat
  source : Nat
  master : Nat
  port : Nat
  at_ : Nat
  deriving DecidableEq, Repr

/-- The swarm bus block. -/
structure Swarm where
  ports : Tab SbPort := []
  xfers : List Xfer := []
  /-- Reply entries of Q17 whose frames are queued: transfer number, tag of the entry. -/
  feeds : List (Nat × Nat) := []
  nextXfer : Nat := 1
  tags : Tab Nat := []
  emergCount : Nat := 0
  statusAt : Nat := 0
  /-- Address being claimed, since when; the next one to claim; pool numbers lost; time of the loss (R554 to R557). -/
  claimAddr : Nat := 0
  claimAt : Option Nat := none
  nextAddr : Option Nat := none
  poolTried : List Nat := []
  lostAt : Nat := 0
  heldAt : Nat := 0
  /-- Identifiers the module has stopped sending (R558). -/
  barred : List Nat := []
  /-- Source addresses heard, with the time (R557). -/
  heard : Tab Nat := []
  /-- Swarm time: value in 2^-16 µs at a model time in ns, rate correction in 0.001 ppm (R568, R579). -/
  base : Int := 0
  baseAt : Nat := 0
  rate : Int := 0
  everValid : Bool := false
  refs : List TimeRef := []
  upstream : Nat := 0
  lastRefAt : Nat := 0
  /-- Last accepted reference with a better key than the module's own (R584). -/
  betterAt : Nat := 0
  good : Nat := 0
  bad : Nat := 0
  /-- Consecutive SYNCED basic cycles behind a source with a worse key (R585). -/
  worse : Nat := 0
  holdoverAt : Nat := 0
  delayAt : Nat := 0
  /-- References still to be sent with STEPPED. -/
  stepped : Nat := 0
  /-- A step of swarm time by TIME_SET is due, and own frames wait for a basic cycle start (R588, R596). -/
  pendingSet : Option Nat := none
  stepWait : Bool := false
  /-- Basic cycles since swarm time 0 at the last start taken, and the last one references were sent in. -/
  cycleNo : Nat := 0
  refCycle : Option Nat := none
  second : Nat := 0
  relayBarred : Bool := false
  /-- Entry to the degraded clock mode: frames begun earlier keep their BRS bit (Table 13.6). -/
  degradedAt : Nat := 0
  /-- COMB_ID in effect (Table 14.6). -/
  combId : Option Nat := none
  deriving DecidableEq, Repr

/-! ### Pantry (chapter 16) -/

/-- A recording channel (R640 to R649): its words at the arm, the PERIOD_NO of sample 0, samples due, the index of the
next sample, the stored values of the block in progress oldest first, the last two reconstructed values in the frame
newest first, and the last stored value. -/
structure PanChan where
  src : Nat := 0
  pace : Nat := 0
  fmt : Nat := 0
  armPeriod : Option Nat := none
  /-- Period records of its lane since the arm. -/
  seen : Nat := 0
  due : Nat := 0
  index : Nat := 0
  block : List Int := []
  hist : List Int := []
  last : Option Int := none
  deriving DecidableEq, Repr

/-- The open frame (Table 16.5): its sequence, opening times, TRIG, and its blocks bit by bit. -/
structure PanFrame where
  seq : Nat := 0
  time : Nat := 0
  uptime : Nat := 0
  trig : Bool := false
  bits : List Bool := []
  deriving DecidableEq, Repr

/-- A closed frame: its sequence and its 4,096 bytes. -/
structure PanClosed where
  seq : Nat
  bytes : Bytes
  deriving DecidableEq, Repr

/-- The recorder beyond its parameters: the recording header of Table 16.4 field by field, the frames oldest first, and
the latest period record of each lane (R643). -/
structure Pantry where
  /-- A recording has been made since the Pantry was last powered. -/
  made : Bool := false
  mode : Nat := 0
  k : Nat := 0
  armAt : Nat := 0
  armTime : Nat := 0
  armUptime : Nat := 0
  trigTime : Nat := 0
  trigUptime : Nat := 0
  trigSeq : Option Nat := none
  trigCause : Nat := 0
  stop : Nat := 0
  trigCh : Nat := 0xFF
  trigSidx : Nat := 0
  faultCode : Nat := 0
  trigAt : Nat := 0
  /-- Frames still to fill after the trigger in mode 0 (R646). -/
  left : Option Nat := none
  chans : Tab PanChan := []
  frames : List PanClosed := []
  nextSeq : Nat := 0
  cur : Option PanFrame := none
  records : Tab Bytes := []
  /-- Block bits written, with the time, in the last 1 s (PAN_RATE). -/
  rate : List (Nat × Nat) := []
  deriving DecidableEq, Repr

/-! ### Flash and service (chapter 17) -/

/-- A wing: as the factory left it, or its bytes that are not 0xFF by offset, the ranges programmed since the last erase,
and its 64-byte header with the header bytes programmed; WING_STATE and WING_ERASES. -/
structure Wing where
  factory : Bool := true
  cells : List Host.Cell := []
  ranges : List (Nat × Nat) := []
  header : List Host.Cell := []
  st : Nat := 2
  erases : Nat := 0
  deriving DecidableEq, Repr

/-- An IMAGE_LOAD that programs: wing, session and sequence of its command (R662). -/
structure LoadJob where
  wing : Nat
  sess : Nat
  seq : Nat
  at_ : Nat
  deriving DecidableEq, Repr

/-- The phases of a wing switch (Table 17.2). -/
inductive SwitchPhase where
  | checks | sync | commit | former
  deriving DecidableEq, Repr

/-- A wing switch in progress: target wing and lasting or trial; `standbyOnly` where the active pair already runs the
target (R670); largest setpoint age seen since H. -/
structure Switch where
  wing : Nat
  trial : Bool
  phase : SwitchPhase
  standbyOnly : Bool := false
  hAt : Nat := 0
  deriving DecidableEq, Repr

/-- A lane swap of a switching axis: the lane it leaves, the lane it goes to, and the periods since (R673). -/
structure LaneSwap where
  axis : Nat
  src : Nat
  dst : Nat
  at_ : Nat
  deriving DecidableEq, Repr

/-- The FLASH die and the service operations. The configuration area holds the wing pointer, the fault ring copies and what
`config` and `wear` of State hold. -/
structure Service where
  wings : Tab Wing := []
  pointer : Nat := 0
  /-- The fault record ring of the configuration area (R658), with FR_NEXT, FR_COUNT and FR_SEQ as last copied. -/
  faultCopy : Tab FRec := []
  copyNext : Nat := 0
  copyCount : Nat := 0
  copySeq : Nat := 0
  load : Option LoadJob := none
  verify : Option Nat := none
  switch : Option Switch := none
  recal : Option Nat := none
  /-- The RECAL that runs has folded its bridge's corrections (R676). -/
  recalFolded : Bool := false
  swaps : List LaneSwap := []
  /-- The axis that runs on L4 under a swap (R674), and the values written to the configuration of its freed lane (R675). -/
  onSwap : Option Nat := none
  held : Tab Int := []
  deriving DecidableEq, Repr

/-! ### Porch (chapter 18) and supply (chapter 19) -/

/-- A halt of the house cores (R696, R699). -/
inductive Halt where
  | none | full | live
  deriving DecidableEq, Repr

/-- What the house cores owe at the end of a full halt, because the Cellar has acted in it (R708): an STO demand, its release, a
discrepancy of the inputs, a THERMAL_SD that latches or not. -/
inductive Late where
  | sto | release | disc | timeout
  | thermal (latched : Bool)
  deriving DecidableEq, Repr

/-- A core register set as the Porch reads it: registers 0 to 33 (R700, R703). -/
structure CoreRegs where
  regs : Tab Nat := []
  deriving DecidableEq, Repr

/-- The debug port. -/
structure Porch where
  stat : Nat := 0
  challenge : Bytes := []
  response : Tab Nat := []
  /-- The challenge has not been spent or discarded (R692). -/
  current : Bool := false
  verifying : Bool := false
  /-- The key of the response under verification is the verifier's (R692). -/
  keyOk : Bool := false
  blockedTill : Option Nat := none
  lockout : Bool := false
  unlocked : Bool := false
  halt : Halt := .none
  haltAt : Nat := 0
  haltCause : Nat := 0
  bps : Tab Nat := []
  wpAddr : Tab Nat := []
  wpCtrl : Tab Nat := []
  snapPc : Nat := 0
  snapCause : Nat := 0
  snapTime : Nat := 0
  snapCount : Nat := 0
  snapRegs : CoreRegs := {}
  haltRegs : CoreRegs := {}
  memAddr : Nat := 0
  regSel : Nat := 0
  txLen : Nat := 0
  txBuf : Bytes := []
  rxPos : Nat := 0
  /-- The live halt has ended and the standby pair resynchronises (R699). -/
  resync : Bool := false
  later : List Late := []
  /-- A memory access is in progress (HOLD, R686, R687). -/
  busy : Bool := false
  /-- Addresses the Porch wrote in the full halt (R698). -/
  wrote : List Nat := []
  /-- The answer of the last transaction: STATUS and data (Table 18.1). -/
  status : Nat := 0
  rdata : Nat := 0
  /-- Instruction of the boundary-scan TAP (Table 18.5). -/
  ir : Nat := 0xFE
  /-- Update latches of the 212 boundary cells, and the bits that the last scan of the selected data register gave at TDO (R705). -/
  cells : List Bool := []
  tdo : List Bool := []
  deriving DecidableEq, Repr

/-- The 24 V feeds A (0) and B (1): the MOSFET gate driven (R717), below 16.8 V and above since, and the drop above 0.30 V since. -/
structure Feed where
  on : Bool := false
  lowSince : Option Nat := none
  dropSince : Option Nat := none
  deriving DecidableEq, Repr

/-! ### Stops -/

/-- The reasons a step can stop with a fault. The manual answers every command it describes with an effect, so
the list is short; each constructor says who raises it. -/
inductive Fault where
  /-- Nobody: every meaning of this model ends in a next state or a refusal. Safe. -/
  | none
  deriving DecidableEq, Repr

/-- The reasons a step can be refused. -/
inductive Refusal where
  /-- Raised by a dispatch arm whose instruction has no meaning yet. Safe: the step stops. -/
  | notModelled (mnemonic : String)
  deriving DecidableEq, Repr

/-! ### The whole state -/

/-- The FZ8160. -/
structure State where
  /-- Time since the model's start in ns: the latest time a command has carried. -/
  now : Nat := 0
  dev : Dev := {}
  /-- The parameters by number (R489): the values that differ from the tables' defaults. -/
  params : Tab Int := []
  /-- The Larder, by Hallway address: the bytes that are not 0 (R27, log entry 7). -/
  larder : List Host.Cell := []
  /-- Larder words with a single-bit or double-bit error that is still there, by address and path bits (R30). -/
  eccErrs : List (Nat × List Nat) := []
  /-- Queues Q0 to Q31, oldest entry first (R34 to R36). -/
  queues : Tab (List Entry) := []
  /-- Next tag of a queue entry. -/
  nextTag : Nat := 0
  axes : Tab Axis := []
  lanes : Tab Lane := []
  /-- L4's mirror bank: state record of each lane (R139), and L4's configuration copies (R138). -/
  records : Tab HearthRec := []
  copies : Tab (Tab Int) := []
  bridges : Tab Bridge := []
  links : Tab Link := []
  encs : Tab Enc := []
  ress : Tab Res := []
  ssis : Tab Ssi := []
  chans : Tab Chan := []
  cells : Tab Cell := []
  cellar : Cellar := {}
  standing : List Standing := []
  sessions : Tab Session := []
  owner : Owner := {}
  ops : List Op := []
  waiting : List Waiting := []
  /-- Transport whose input queue the interpreter served last, by its code in the session table (R468). -/
  servedLast : Nat := 3
  /-- The channel of each priority level whose beats were issued last (R624). -/
  fgLast : Tab Nat := []
  /-- MODULE_NONCE values drawn in this power cycle (R517). -/
  nonces : List Nat := []
  snaps : List SnapWait := []
  attic : Attic := {}
  /-- The fault record ring by slot (R656). -/
  faultRing : Tab FRec := []
  forager : Tab FgChan := []
  /-- Address of the newest complete sample record of each plane (Table 15.6). -/
  planeAt : Tab Nat := []
  /-- Time of the last raise of each publish set (R633). -/
  pubAt : Tab Nat := []
  fanner : Fanner := {}
  ring : Ring := {}
  swarm : Swarm := {}
  pantry : Pantry := {}
  service : Service := {}
  porch : Porch := {}
  feeds : Tab Feed := []
  /-- Data that the last read through the Hallway returned (R29). -/
  hallData : Bytes := []
  /-- Last bytes the host SPI port sent after its status byte (Table 11.6), status byte first. -/
  spiOut : Bytes := []
  /-- The configuration area: stored parameter values by number, and the ring of wear counters, newest first (R447). -/
  config : Tab Int := []
  wear : List (Nat × List Nat) := []
  /-- Draws of free values so far (the model's own counter, log entry 5). -/
  free : Nat := 0
  /-- Commands that wait, first in, first out. -/
  pending : List Instr := []
  deriving DecidableEq, Repr

/-- The machine held in power-on reset: OFF of Table 2.1, every register at its default or cold value. -/
def State.reset : State := {}

end Sys2Proof.Machine
end

