-- ==== Sys2Proof/Machine/Ops.lean ====
section
/-!
DEFINITION. The named operations over the tables, the parameters, memory and the number formats. Every meaning
goes through them.
-/
namespace Sys2Proof.Machine

/-- The outcome of a meaning. -/
abbrev Out := Host.Outcome State Fault Refusal

/-! ### Tables -/

/-- The entry of an index, or its cold value. -/
def tget {α : Type} (t : Tab α) (d : α) (k : Nat) : α :=
  match t with
  | [] => d
  | (k', v) :: r => if k' = k then v else tget r d k

/-- A table with one entry replaced, or added at its end. -/
def tset {α : Type} (t : Tab α) (k : Nat) (v : α) : Tab α :=
  match t with
  | [] => [(k, v)]
  | (k', v') :: r => if k' = k then (k, v) :: r else (k', v') :: tset r k v

/-- The numbers from 0 to n − 1. -/
def upto (n : Nat) : List Nat := List.range n

/-- Whether bit k of a stored value is set. -/
def bit (v : Int) (k : Nat) : Bool := v.toNat / 2 ^ k % 2 = 1

/-- A stored value with bit k set or cleared. -/
def withBit (v : Int) (k : Nat) (b : Bool) : Int :=
  let base := v - (if bit v k then (2 ^ k : Nat) else 0 : Nat)
  if b then base + (2 ^ k : Nat) else base

/-- The word whose bits are the given flags, bit 0 first. -/
def ofBits (bs : List Bool) : Nat :=
  match bs with
  | [] => 0
  | b :: r => (if b then 1 else 0) + 2 * ofBits r

/-- A mask from the list of its bit numbers. -/
def maskOf (ks : List Nat) : Nat := ks.foldl (fun m k => if m / 2 ^ k % 2 = 1 then m else m + 2 ^ k) 0

/-- The bit numbers below n that a mask has set. -/
def bitsOf (n m : Nat) : List Nat := (upto n).filter fun k => m / 2 ^ k % 2 = 1

/-! ### Free values -/

/-- A fresh free value of w bits: the n-th draw of the source the manual leaves open, and the state after it. -/
def State.draw (s : State) (w : Nat) : Nat × State :=
  ((Config.freeWord s.free).toNat % 2 ^ w, { s with free := s.free + 1 })

/-! ### Time -/

/-- The module answers on its host port and its Porch: it has power, and no reset is held (Table 2.7). -/
def State.answers (s : State) : Bool :=
  decide (s.dev.st ≠ .off) && !(decide (s.dev.st = .boot) && (decide (s.dev.step = .held) || decide (s.dev.step = .retryWait)))

/-- The times of a list that lie less than w before now. -/
def recent (now w : Nat) (ts : List Nat) : List Nat := ts.filter fun t => now < t + w

/-! ### Parameters -/

/-- The stored integer of a parameter's instance. -/
def State.par (s : State) (p : Par) (i : Nat := 0) (j : Nat := 0) : Int :=
  tget s.params (p.dflt.value i j) (p.pn i j)

/-- The stored integer of a parameter that is never negative. -/
def State.parN (s : State) (p : Par) (i : Nat := 0) (j : Nat := 0) : Nat := (s.par p i j).toNat

/-- The state with one parameter's stored integer replaced. -/
def State.setPar (s : State) (p : Par) (v : Int) (i : Nat := 0) (j : Nat := 0) : State :=
  { s with params := tset s.params (p.pn i j) v }

/-- One step of a 32-bit counter. The manual states no value past 2³² − 1 for a counter it does not call
saturating: that value is a free value (log entry 6). -/
def State.incPar (s : State) (p : Par) (i : Nat := 0) (j : Nat := 0) (n : Nat := 1) : State :=
  let v := s.par p i j + n
  if v < 4294967296 then s.setPar p v i j
  else
    let d := s.draw 32
    d.2.setPar p d.1 i j

/-- A counter that saturates at a value. -/
def State.incSat (s : State) (p : Par) (top : Int) (i : Nat := 0) (j : Nat := 0) (n : Nat := 1) : State :=
  s.setPar p (min top (s.par p i j + n)) i j

/-- One bit of a status parameter. -/
def State.setBit (s : State) (p : Par) (k : Nat) (b : Bool) (i : Nat := 0) (j : Nat := 0) : State :=
  s.setPar p (withBit (s.par p i j) k b) i j

/-! ### Indexed groups -/

def State.ax (s : State) (k : Nat) : Axis := tget s.axes {} k
def State.setAx (s : State) (k : Nat) (a : Axis) : State := { s with axes := tset s.axes k a }
def State.modAx (s : State) (k : Nat) (f : Axis → Axis) : State := s.setAx k (f (s.ax k))
def State.lane (s : State) (n : Nat) : Lane := tget s.lanes {} n
def State.setLane (s : State) (n : Nat) (l : Lane) : State := { s with lanes := tset s.lanes n l }
def State.bridge (s : State) (b : Nat) : Bridge := tget s.bridges {} b
def State.setBridge (s : State) (b : Nat) (x : Bridge) : State := { s with bridges := tset s.bridges b x }
def State.link (s : State) (k : Nat) : Link := tget s.links {} k
def State.setLink (s : State) (k : Nat) (x : Link) : State := { s with links := tset s.links k x }
def State.chan (s : State) (c : Nat) : Chan := tget s.chans {} c
def State.setChan (s : State) (c : Nat) (x : Chan) : State := { s with chans := tset s.chans c x }
def State.cell (s : State) (g : Nat) : Cell := tget s.cells {} g
def State.setCell (s : State) (g : Nat) (x : Cell) : State := { s with cells := tset s.cells g x }
def State.enc (s : State) (k : Nat) : Enc := tget s.encs {} k
def State.setEnc (s : State) (k : Nat) (x : Enc) : State := { s with encs := tset s.encs k x }
def State.res (s : State) (k : Nat) : Res := tget s.ress {} k
def State.setRes (s : State) (k : Nat) (x : Res) : State := { s with ress := tset s.ress k x }
def State.ssi (s : State) (k : Nat) : Ssi := tget s.ssis {} k
def State.setSsi (s : State) (k : Nat) (x : Ssi) : State := { s with ssis := tset s.ssis k x }
def State.queue (s : State) (q : Nat) : List Entry := tget s.queues [] q
def State.setQueue (s : State) (q : Nat) (es : List Entry) : State := { s with queues := tset s.queues q es }
def State.sess (s : State) (n : Nat) : Session := tget s.sessions {} n
def State.setSess (s : State) (n : Nat) (x : Session) : State := { s with sessions := tset s.sessions n x }

/-- A fold over indexes, the shape of "for each" in the manual. -/
def each (ks : List Nat) (s : State) (f : Nat → State → State) : State := ks.foldl (fun s k => f k s) s

/-- A parameter as the Hearth uses it: the value of the last commit that the Hearth took, or of the start of the lane or of the
module (R149). -/
def State.hp (s : State) (k : Nat) (p : Par) : Int := tget (s.ax k).hearth.cfg (p.dflt.value k 0) (p.pn k 0)

/-- HIVE_AXIS as the last cycle start took it, or as written while the ring is not in use (R318, R359). -/
def State.hiveAx (s : State) : Nat :=
  if s.ring.on then (tget s.ring.cfg (P.hiveAxis.dflt.value 0 0) (P.hiveAxis.pn 0 0)).toNat else s.parN P.hiveAxis

/-- A parameter of a cell, and one of its bridge, as the last status frame of the cell took it (R408). -/
def State.cp (s : State) (g : Nat) (p : Par) : Int := tget (s.cell g).held (s.par p g) (p.pn g 0)
def State.cpN (s : State) (g : Nat) (p : Par) : Nat := (s.cp g p).toNat
def State.gp (s : State) (g : Nat) (p : Par) : Int := tget (s.cell g).held (s.par p (g / 3)) (p.pn (g / 3) 0)
def State.gpN (s : State) (g : Nat) (p : Par) : Nat := (s.gp g p).toNat

/-- TH_GRACE or TH_FLOOR as the last reading took it (R450). -/
def State.tp (s : State) (p : Par) : Int := tget s.fanner.held (s.par p) (p.pn 0 0)
def State.tpN (s : State) (p : Par) : Nat := (s.tp p).toNat

/-- A parameter of Table 7.8 or 9.15 as the last tick of the axis took it (R317, R408), and one of Table 7.9 as the last sample of the link
took it. -/
def State.sp (s : State) (k : Nat) (p : Par) : Int := tget (s.ax k).speed.held (s.par p k) (p.pn k 0)
def State.spN (s : State) (k : Nat) (p : Par) : Nat := (s.sp k p).toNat
def State.lp (s : State) (l : Nat) (p : Par) : Int := tget (s.link l).held (s.par p l) (p.pn l 0)
def State.lpN (s : State) (l : Nat) (p : Par) : Nat := (s.lp l p).toNat

/-! ### Who serves what (R87, R89, Table 9.1) -/

/-- Bridges of an axis, in ascending bridge number. -/
def State.bridgesOf (s : State) (k : Nat) : List Nat := bitsOf 4 (s.parN P.bridgeMask k)

/-- The latest time a command has carried (log entry 3). -/
def State.clock (s : State) (t : Nat) : State := { s with now := max s.now t }

/-- The axis switches: a moving state, and for EMERGENCY one whose switching has started (R308). -/
def State.switching (s : State) (k : Nat) : Bool :=
  match (s.ax k).st with
  | .running | .limp | .stopping => true
  | .emergency => (s.ax k).started
  | _ => false

/-- Of the axes that name a lane or a bridge the one that switches, else the lowest: a second axis may name the same while it is
DISABLED, until its PRECHECK refuses it (R87, Table 3.2). -/
def State.serving4 (s : State) (f : Nat → Bool) : Option Nat :=
  match (upto 4).find? fun k => f k && s.switching k with
  | some k => some k
  | none => (upto 4).find? f

/-- The firmware runs: a pair is live, no full halt stands, and the device has left BOOT. -/
def State.firmware (s : State) : Bool :=
  (s.dev.pairA.live || s.dev.pairB.live) && decide (s.porch.halt ≠ .full) && decide (s.dev.st ≠ .off) && decide (s.dev.st ≠ .boot)

/-- The axis whose BRIDGE_MASK holds a bridge. -/
def State.axisOfBridge (s : State) (b : Nat) : Option Nat := s.serving4 fun k => bit (s.par P.bridgeMask k) b

/-- A junction parameter of a bridge or of one of its switches, as the last tick of its axis took it (R450). -/
def State.jp (s : State) (b : Nat) (p : Par) (i : Nat) : Int :=
  match s.axisOfBridge b with
  | some k => tget (s.ax k).speed.held (s.par p i) (p.pn i 0)
  | none => s.par p i

/-- The lead bridge of an axis (R89). -/
def State.leadBridge (s : State) (k : Nat) : Nat := (s.bridgesOf k).headD 0

/-- The DC link of an axis's lead bridge. -/
def State.linkOf (s : State) (k : Nat) : Nat := s.parN P.brLink (s.leadBridge k)

/-- Axes with a bridge on a link. -/
def State.axesOnLink (s : State) (l : Nat) : List Nat :=
  (upto 4).filter fun k => (s.bridgesOf k).any fun b => s.parN P.brLink b = l

/-- Axes whose lead bridge is on a link (R300). -/
def State.leadAxesOnLink (s : State) (l : Nat) : List Nat :=
  (upto 4).filter fun k => (s.bridgesOf k).length > 0 ∧ s.linkOf k = l

/-- The lane that runs an axis: its LANE, or L4 while L4 replaces that lane (R87, Table 3.6). -/
def State.laneOf (s : State) (k : Nat) : Nat :=
  let n := s.parN P.lane k
  if s.par P.spareFor = n then 4 else n

/-- The axis a lane serves. -/
def State.axisOfLane (s : State) (n : Nat) : Option Nat := s.serving4 fun k => decide (s.laneOf k = n)

/-- The cells of a bridge, and the cells of an axis. -/
def cellsOfBridge (b : Nat) : List Nat := [3 * b, 3 * b + 1, 3 * b + 2]
def State.cellsOf (s : State) (k : Nat) : List Nat := (s.bridgesOf k).flatMap cellsOfBridge

/-- The axes with a bridge on a cell: one for G0 to G11; for G12 every axis with a bridge on either link. -/
def State.axesOfCell (s : State) (g : Nat) : List Nat :=
  if g < 12 then (s.axisOfBridge (g / 3)).toList else (upto 4).filter fun k => (s.bridgesOf k).length > 0

/-- The states in which an axis switches or may switch (R49). -/
def AxState.moving : AxState → Bool
  | .running | .limp | .stopping | .emergency => true
  | _ => false

/-- Code of Table 2.11. -/
def AxState.code : AxState → Nat
  | .disabled => 0 | .precheck => 1 | .ready => 2 | .running => 3 | .stopping => 4
  | .limp => 5 | .emergency => 6 | .faultRetry => 7 | .faultLatched => 8 | .sto => 9

/-- Code of Table 2.1; OFF has none and reads as BOOT. -/
def DevState.code : DevState → Nat
  | .off => 1 | .boot => 1 | .idle => 2 | .test => 3 | .recovery => 4 | .service => 5

/-! ### Bytes -/

/-- The k bytes of a value, least significant first (R10). -/
def leBytes : Nat → Nat → Bytes
  | 0, _ => []
  | k + 1, v => BitVec.ofNat 8 v :: leBytes k (v / 256)

/-- The value of a byte string, least significant byte first (R10). -/
def leNat : Bytes → Nat
  | [] => 0
  | b :: r => b.toNat + 256 * leNat r

/-- The value of k bytes at an offset of a byte string. -/
def field (bs : Bytes) (off k : Nat) : Nat := leNat ((bs.drop off).take k)

/-- Two's-complement value of w bits. -/
def signed (w v : Nat) : Int := if 2 ^ (w - 1) ≤ v % 2 ^ w then (v % 2 ^ w : Nat) - (2 ^ w : Nat) else (v % 2 ^ w : Nat)

/-- The w-bit word of an integer. -/
def unsigned (w : Nat) (v : Int) : Nat := (v % (2 ^ w : Nat)).toNat

/-- The bytes of a character string, one a character. -/
def pathBytes (p : String) : Bytes := p.toList.map fun c => BitVec.ofNat 8 c.toNat

/-- Decimal digits of a number, for location paths. -/
def dec (n : Nat) : String := toString n

/-- A location path field in hexadecimal with 0x (Table 0.3). -/
def hexDigits (n : Nat) : String := "0x" ++ String.ofList ((Nat.toDigits 16 n).map Char.toUpper)

/-! ### Larder memory (R27, R30) -/

/-- The Larder spans 8 MiB from 0x2000_0000. -/
def larderBase : Nat := 0x20000000
def larderSize : Nat := 0x800000
def inLarder (a : Nat) : Bool := decide (larderBase ≤ a) && decide (a < larderBase + larderSize)

/-- What a memory reads at an address, with the value of an unlisted address. -/
def memGet (d : Byte) (m : List Host.Cell) (a : Nat) : Byte :=
  match m with
  | [] => d
  | (a', v) :: r => if a' = a then v else memGet d r a

/-- A memory with one byte written, in canonical form: addresses rise, and no entry holds the value of an
unlisted address. -/
def memSet (d : Byte) (m : List Host.Cell) (a : Nat) (v : Byte) : List Host.Cell :=
  match m with
  | [] => if v = d then [] else [(a, v)]
  | (a', v') :: r =>
    if a' = a then (if v = d then r else (a, v) :: r)
    else if a < a' then (if v = d then (a', v') :: r else (a, v) :: (a', v') :: r)
    else (a', v') :: memSet d r a v

/-- The canonical form of a memory. -/
def memWf (d : Byte) : List Host.Cell → Bool
  | [] => true
  | [(_, v)] => decide (v ≠ d)
  | (a, v) :: (a', v') :: r => decide (a < a') && decide (v ≠ d) && memWf d ((a', v') :: r)

/-- n bytes of a memory from an address. -/
def memRead (d : Byte) (m : List Host.Cell) (a : Nat) : Nat → Bytes
  | 0 => []
  | n + 1 => memGet d m a :: memRead d m (a + 1) n

/-- A byte string written to a memory. -/
def memWrite (d : Byte) (m : List Host.Cell) (a : Nat) : Bytes → List Host.Cell
  | [] => m
  | b :: r => memWrite d (memSet d m a b) (a + 1) r

def State.lread (s : State) (a n : Nat) : Bytes := memRead 0#8 s.larder a n
def State.lwrite (s : State) (a : Nat) (bs : Bytes) : State := { s with larder := memWrite 0#8 s.larder a bs }

/-! ### Number formats (R13, R129 to R133)

A stored number is an Int; the calculations that count saturations run in `Calc`, whose state is the number of
saturations so far. -/

/-- A calculation that counts its saturations (R130). -/
abbrev Calc := StateM Nat

/-- Clamp to an interval. -/
def clamp (x lo hi : Int) : Int := if x < lo then lo else if hi < x then hi else x

/-- Quotient rounded to the nearest integer, ties away from zero. -/
def rdiv (a b : Int) : Int :=
  let q := (2 * a.natAbs + b.natAbs) / (2 * b.natAbs)
  if (a < 0) = (b < 0) then (q : Int) else -(q : Int)

/-- Quotient truncated towards zero. -/
def tdiv (a b : Int) : Int := Int.tdiv a b

/-- Limits of the 32-bit signed and unsigned formats. -/
def s32lo : Int := -2147483648
def s32hi : Int := 2147483647
def u32hi : Int := 4294967295
def one30 : Int := 1073741824
def one28 : Int := 268435456

/-- Saturation at limits, counted. -/
def satTo (lo hi x : Int) : Calc Int := do
  if x < lo then modify (· + 1); return lo
  else if hi < x then modify (· + 1); return hi
  else return x

/-- Addition and subtraction of 32-bit signed formats: saturating, counted (R130). -/
def addC (a b : Int) : Calc Int := satTo s32lo s32hi (a + b)
def subC (a b : Int) : Calc Int := satTo s32lo s32hi (a - b)

/-- Product of two stored numbers with n fraction bits to drop, rounded to nearest; the nearest value of the
32-bit signed result format where the product lies outside it (R130). -/
def mul (n : Nat) (a b : Int) : Int := clamp (rdiv (a * b) (2 ^ n : Nat)) s32lo s32hi

/-- Limits of a flux in 2^-30 pu: the range of UQ2.30 with a sign, for the sums in which a flux is a term (Table 3.5). -/
def fluxLo : Int := -4294967296
def fluxHi : Int := 4294967295

/-- Product that is a flux. -/
def mulF (n : Nat) (a b : Int) : Int := clamp (rdiv (a * b) (2 ^ n : Nat)) fluxLo fluxHi

/-- Flux sum, counted where it saturates. -/
def addF (a b : Int) : Calc Int := satTo fluxLo fluxHi (a + b)

/-- Truncated quotient of two stored numbers with n fraction bits to add, saturated to the signed format; a
divisor of 0 takes the smallest divisor (R133 replaces those the manual names). -/
def divq (n : Nat) (a b : Int) : Int :=
  clamp (tdiv (a * (2 ^ n : Nat)) (if b = 0 then 1 else b)) s32lo s32hi

/-- Integer square root by bisection over n bits: the largest r with r² ≤ v. -/
def isqrtGo (v : Nat) : Nat → Nat → Nat
  | 0, r => r
  | n + 1, r => let c := r + 2 ^ n; if c * c ≤ v then isqrtGo v n c else isqrtGo v n r

/-- Truncated square root (R133). -/
def isqrt (v : Nat) : Nat := isqrtGo v (v.log2 / 2 + 1) 0

/-- sqrt(a² + b²) of two numbers of one format, truncated. -/
def hypot (a b : Int) : Int := isqrt ((a * a + b * b).toNat)

/-- Sign as −1, 0 or 1. -/
def sgn (x : Int) : Int := if x < 0 then -1 else if 0 < x then 1 else 0

/-- Magnitude. -/
def iabs (x : Int) : Int := x.natAbs

/-- 2π and 1/√3, in 2^-60. -/
def twoPi60 : Int := 7244019458077122842
def invSqrt3_60 : Int := 665639541039271463
def sqrt3_60 : Int := 1996918623117814388
def halfPi60 : Int := 1811004864519280711

/-- Angle arithmetic: a u32 that wraps, and the s32 difference of two (R14, R202). -/
def angAdd (a : Nat) (d : Int) : Nat := unsigned 32 (a + d)
def angSub (a b : Nat) : Int := signed 32 (unsigned 32 ((a : Int) - b))

/-- Taylor terms of sine or cosine at x in 2^-60, from term k: t x²/((k+1)(k+2)). -/
def trigTaylor (x2 : Int) : Nat → Int → Int → Int → Int
  | 0, _, _, acc => acc
  | f + 1, k, t, acc =>
    let t' := -(rdiv (rdiv (t * x2) (2 ^ 60 : Nat)) ((k + 1) * (k + 2)))
    trigTaylor x2 f (k + 2) t' (acc + t')

/-- Sine of an angle within 2^-55, in 2^-60. -/
def sin60 (a : Nat) : Int :=
  let q := a / 0x40000000 % 4
  let x := rdiv ((a % 0x40000000 : Nat) * halfPi60) (2 ^ 30 : Nat)
  let x2 := rdiv (x * x) (2 ^ 60 : Nat)
  let s := trigTaylor x2 13 1 x x
  let c := trigTaylor x2 13 0 (2 ^ 60 : Nat) (2 ^ 60 : Nat)
  match q with
  | 0 => s | 1 => c | 2 => -s | _ => -c

/-- A value the manual bounds but does not fix: any stored value within `bound` (both in 2^-60) of the exact one,
in a format of n fraction bits; which one is a free value of the argument (log entry 4). -/
def within (kind : Nat) (arg exact bound : Int) (n : Nat) : Int :=
  let u : Int := (2 ^ (60 - n) : Nat)
  let lo := -((-(exact - bound)) / u)
  let hi := (exact + bound) / u
  clamp (rdiv exact u + Config.residue kind arg) lo hi

/-- Sine and cosine in Q1.30 with an absolute error of at most 6·10⁻⁸ (R131). -/
def sinQ (a : Nat) : Int := clamp (within 0 a (sin60 a) 69175290276 30) (-one30) one30
def cosQ (a : Nat) : Int := clamp (within 1 a (sin60 (unsigned 32 (a + 0x40000000))) 69175290276 30) (-one30) one30

/-- atan of y/x for 0 ≤ y ≤ x in angle counts by bisection on the exact comparison y·cos ≤ x·sin. -/
def atanGo (x y : Int) : Nat → Nat → Nat
  | 0, r => r
  | n + 1, r =>
    let c := r + 2 ^ n
    if x * sin60 c ≤ y * sin60 (c + 0x40000000) then atanGo x y n c else atanGo x y n r

/-- atan2 with the exact quadrant; the first-octant value to one count. -/
def atan2Exact (y x : Int) : Nat :=
  let ay := iabs y; let ax := iabs x
  let r : Nat := if ay ≤ ax then (if ax = 0 then 0 else atanGo ax ay 30 0) else 0x40000000 - atanGo ay ax 30 0
  if 0 ≤ x then (if 0 ≤ y then r else unsigned 32 (-(r : Int)))
  else (if 0 ≤ y then 0x80000000 - r else unsigned 32 (0x80000000 + (r : Int)))

/-- atan2 with an absolute error of at most 1,024 counts (R202). -/
def atan2 (y x : Int) : Nat :=
  unsigned 32 ((atan2Exact y x : Int) + clamp (Config.residue 2 (y * 8589934592 + x)) (-1023) 1023)

/-- Arcsine of a Q1.30 value in angle counts (s32), error at most 1,024 counts (R202). -/
def asinQ (v : Int) : Int :=
  let c := clamp v (-one30) one30
  signed 32 (atan2Exact c (isqrt ((one30 * one30 - c * c).toNat))) + clamp (Config.residue 3 v) (-1023) 1023

end Sys2Proof.Machine
end

