-- ==== Sys2Proof/Machine/SwarmTx.lean ====
section
/-!
DEFINITION. Queues (R34 to R36), swarm time as the module keeps it (R568), the identifiers and ports of the swarm bus, and the
transmit queues with the frames of replies (R475, R528, R533, R543, R545, R552).
-/
namespace Sys2Proof.Machine

/-! ### Queues -/

/-- Bytes an entry takes in a ring: its 16-byte header and its data, on a 16-byte boundary (R35). -/
def entrySize (n : Nat) : Nat := 16 + (n + 15) / 16 * 16

/-- Bytes in use in a queue. -/
def usedBytes (es : List Entry) : Nat := es.foldl (fun a e => a + entrySize e.data.length) 0

/-- Free bytes of a queue (R35). -/
def State.freeBytes (s : State) (q : Nat) : Nat := 8192 - usedBytes (s.queue q)

/-- HOST_ATTN follows Q16 (R473): asserted while it holds an entry. -/
def State.hostAttn (s : State) : Bool := decide ((s.queue 16).length > 0)

/-- One entry written to a queue if it fits, else the overflow counted (R36). -/
def State.push (s : State) (q : Nat) (data : Bytes) (dest port : Nat := 0) : State :=
  if entrySize data.length ≤ s.freeBytes q then
    let e : Entry := ⟨data, dest, port, s.nextTag, [], s.now⟩
    { s.setQueue q (s.queue q ++ [e]) with nextTag := s.nextTag + 1 }
  else s.incPar P.qOverflow q

/-- The oldest entry of a queue removed. -/
def State.pop (s : State) (q : Nat) : State := s.setQueue q ((s.queue q).drop 1)

/-! ### Swarm time (R568, R571) -/

/-- Swarm time in 2^-16 µs at a time in half nanoseconds. -/
def State.swarmAt (s : State) (h : Int) : Int :=
  s.swarm.base + (h - 2 * (s.swarm.baseAt : Int)) * 65536 * (1000000000 + s.swarm.rate) / 2000000000000

/-- Swarm time is valid. -/
def State.timeValid (s : State) : Bool := decide (s.par P.timeState ≠ 0)

/-- Swarm time in 2^-16 µs now, and in µs: 0 while it is not valid. -/
def State.swarmNow (s : State) : Int := s.swarmAt (2 * s.now)
def State.swarmMicros (s : State) : Nat := if s.timeValid then unsigned 64 (s.swarmNow / 65536) else 0

/-- The 10-byte time stamp of a swarm time (R569). -/
def stampBytes (v : Int) : Bytes := leBytes 8 (unsigned 64 (v / 65536)) ++ leBytes 2 (unsigned 16 v)

/-- Start of a basic cycle and of the time in it, in 2^-16 µs (R591). -/
def State.cycleUnits (s : State) : Int := max 1 (s.par P.cycleLen * 65536)
def State.cycleAt (s : State) (v : Int) : Nat := (v / s.cycleUnits).toNat

/-- ns of a span of swarm time in 2^-16 µs, rounded up. -/
def nsOfUnits (u : Int) : Nat := ((u * 1000 + 65535) / 65536).toNat

/-! ### Ports and identifiers (R525, R528, R533, R552) -/

def State.sb (s : State) (p : Nat) : SbPort := tget s.swarm.ports {} p
def State.setSb (s : State) (p : Nat) (x : SbPort) : State := { s with swarm := { s.swarm with ports := tset s.swarm.ports p x } }

/-- A port is enabled (R524), or bus-off (Table 13.10). -/
def State.sbOn (s : State) (p : Nat) : Bool := decide (s.par P.sbState p ≠ 0)
def State.sbOff (s : State) (p : Nat) : Bool := decide (s.par P.sbState p = 4) || decide (s.par P.sbState p = 5)

/-- The other port of a pair, and whether the pair acts (R551). -/
def sbTwin (p : Nat) : Nat := if p % 2 = 0 then p + 1 else p - 1
def State.acting (s : State) (p : Nat) : Bool :=
  bit (s.par P.pairEn) (p / 2) && s.sbOn p && s.sbOn (sbTwin p) && decide (s.par P.sbSegment p = s.par P.sbSegment (sbTwin p))

/-- Address the module sends with: the one held, or being claimed; none otherwise (R554, R557). -/
def State.sourceAddr (s : State) : Option Nat :=
  match s.par P.addrState with
  | 1 => some s.swarm.claimAddr
  | 2 => some (s.parN P.addrHeld)
  | _ => none

/-- A home port (R554), by the address being claimed or held. -/
def State.homePort (s : State) (p : Nat) : Bool :=
  match s.sourceAddr with
  | some a => s.sbOn p && decide (s.parN P.sbSegment p = a / 128)
  | none => false

/-- The port of an acting pair that serves now: its lead, or the partner while the lead is bus-off (R552). -/
def State.pairServes (s : State) (p : Nat) : Bool :=
  if s.acting p then (if p % 2 = 0 then !s.sbOff p else s.sbOff (sbTwin p)) else true

/-- The ports the module's own broadcasts leave on (R552). -/
def State.bcastPorts (s : State) : List Nat := (upto 4).filter fun p => s.homePort p && s.pairServes p

/-- An identifier (Table 13.2). -/
def swarmId (prio cls source detail : Nat) : Nat := prio * 0x4000000 + cls % 32 * 0x200000 + source % 0x4000 * 0x80 + detail % 128
def idClass (id : Nat) : Nat := id / 0x200000 % 32
def idSource (id : Nat) : Nat := id / 0x80 % 0x4000
def idDetail (id : Nat) : Nat := id % 128
def idPrio (id : Nat) : Nat := id / 0x4000000 % 8

/-- The smallest data length of CAN FD for a content, and the content padded with 0x00 to it (R474, R528). -/
def fdLength (n : Nat) : Nat :=
  if n ≤ 8 then n else if n ≤ 12 then 12 else if n ≤ 16 then 16 else if n ≤ 20 then 20 else if n ≤ 24 then 24
  else if n ≤ 32 then 32 else if n ≤ 48 then 48 else 64
def fdPad (bs : Bytes) : Bytes := bs ++ List.replicate (fdLength bs.length - bs.length) 0#8

/-! ### Transmit queues -/

/-- COMB_SUSPENDED of a port (R595): its wait has passed, or swarm time was valid and is no longer. -/
def State.combSuspended (s : State) (p : Nat) : Bool := (s.sb p).suspended || (!s.timeValid && s.swarm.everValid)

/-- COMB_PORT_STATE (R594 to R597). -/
def State.combState (s : State) (p : Nat) : Nat :=
  if ¬ s.sbOn p ∨ ¬ bit (s.par P.combEn) p then 0
  else if (s.sb p).mismatch then 3
  else if s.combSuspended p then 2
  else if ¬ s.timeValid then 4
  else if s.swarm.pendingSet.isSome ∨ s.swarm.stepWait then 2
  else 1

/-- End of the lifetime of a frame that enters a port's queue, by its class (R545, R574, R575); an ADDR_CLAIM frame has none. -/
def State.lifeEnd (s : State) (p id : Nat) : Option Nat :=
  let ms (n : Nat) : Option Nat := some (s.now + n * 1000000)
  match idClass id with
  | 0 => ms (s.parN P.lifeEmerg)
  | 1 =>
    let into := s.swarmNow % s.cycleUnits
    let w0 := if s.combState p = 1 then (if 1 < s.par P.combWindows then s.par P.winStart 1 else s.par P.cycleLen) * 65536
      else s.cycleUnits / 4
    some (s.now + nsOfUnits (max 0 (w0 - into)))
  | 2 => ms 10
  | 3 => none
  | 4 => ms (s.parN P.lifePacket)
  | 5 => ms (s.parN P.lifePacket)
  | 6 => ms (s.parN P.statusPeriod)
  | _ => ms (s.parN P.lifeFwd)

/-- One frame written to a transmit queue if it fits (R36). -/
def State.txPut (s : State) (p id : Nat) (data : Bytes) (own : Bool) (xfer : Option Nat := none) (last : Bool := false)
    (copyOf : Option (Nat × Nat) := none) : State :=
  let data := fdPad data
  let tag := s.nextTag
  let fits := decide (entrySize data.length ≤ s.freeBytes (8 + p))
  let s' := s.push (8 + p) data id p
  if fits then
    let f : TxFrame := ⟨tag, id, s.now, s.lifeEnd p id, own, xfer, last, copyOf⟩
    s'.setSb p { s'.sb p with frames := (s'.sb p).frames ++ [f] }
  else s'

/-- A frame leaves a transmit queue. -/
def State.txDrop (s : State) (p tag : Nat) : State :=
  let s := s.setQueue (8 + p) ((s.queue (8 + p)).filter fun e => decide (e.tag ≠ tag))
  s.setSb p { s.sb p with frames := (s.sb p).frames.filter fun f => decide (f.tag ≠ tag) }

/-- The frames of a reply, and the room they take: segment header of Table 11.7 and up to 60 packet bytes each (R474). -/
def segments (dest tag : Nat) (p : Bytes) : List Bytes :=
  let n := (p.length + 59) / 60
  (upto n).map fun i => leBytes 2 dest ++ leBytes 1 tag ++ leBytes 1 (i + (if i + 1 = n then 0x80 else 0)) ++ (p.drop (60 * i)).take 60

/-- One entry of Q17 cut into frames of its port's transmit queue, if they all fit; an entry whose port is not enabled is lost. -/
def State.feedOne (s : State) (e : Entry) : State :=
  match s.sourceAddr with
  | none => s
  | some a =>
    if s.swarm.feeds.any fun f => decide (f.2 = e.tag) then s
    else if ¬ s.sbOn e.port then s.setQueue 17 ((s.queue 17).filter fun x => decide (x.tag ≠ e.tag))
    else
      let tag := (tget s.swarm.tags 0 e.dest + 1) % 256
      let fs := segments e.dest tag e.data
      let room := (fs.map fun f => entrySize (fdLength f.length)).foldl (· + ·) 0
      if room ≤ s.freeBytes (8 + e.port) then
        let x := s.swarm.nextXfer
        let id := swarmId (s.parN P.replyPrio) 5 a e.dest
        let s := { s with swarm := { s.swarm with nextXfer := x + 1, tags := tset s.swarm.tags e.dest tag, feeds := s.swarm.feeds ++ [(x, e.tag)] } }
        (fs.zipIdx).foldl (fun s f => s.txPut e.port id f.1 true (some x) (decide (f.2 + 1 = fs.length))) s
      else s

/-- Entries of Q17 cut into frames as far as they fit (R475). -/
def State.swarmFeed (s : State) : State := (s.queue 17).foldl (fun s e => s.feedOne e) s

/-- A frame evicted from a transmit queue: with the last frame of a reply goes the reply's entry of Q17. -/
def State.feedGone (s : State) (f : TxFrame) : State :=
  match f.xfer, f.last with
  | some x, true =>
    let gone := s.swarm.feeds.filter fun g => decide (g.1 = x)
    { s with swarm := { s.swarm with feeds := s.swarm.feeds.filter fun g => decide (g.1 ≠ x) } }.setQueue 17
      ((s.queue 17).filter fun e => !(gone.any fun g => decide (g.2 = e.tag)))
  | _, _ => s

/-- A reply whose last frame has been sent, or whose frames were removed, leaves Q17. -/
def State.feedDone (s : State) (x : Nat) : State :=
  match s.swarm.feeds.find? fun f => decide (f.1 = x) with
  | some f =>
    ({ s with swarm := { s.swarm with feeds := s.swarm.feeds.filter fun g => decide (g.1 ≠ x) } }.setQueue 17
      ((s.queue 17).filter fun e => decide (e.tag ≠ f.2))).swarmFeed
  | none => s

end Sys2Proof.Machine
end

