-- ==== Sys2Proof/Machine/Queues.lean ====
section
/-!
DEFINITION. Queues (R34 to R36), packets (R451 to R456), and the three kinds of packet the module sends: replies,
completion notifications and event notifications (R484 to R486).
-/
namespace Sys2Proof.Machine

/-! ### Transports -/

/-- Code of a transport in the session table (Table 11.5). -/
def transportCode : Transport → Nat
  | .spi => 0 | .swarm => 1 | .ring => 2 | .porch => 3

/-- Command input queue and reply queue of a transport (Table 1.6). -/
def inQ : Transport → Nat
  | .spi => 12 | .swarm => 13 | .ring => 14 | .porch => 15
def outQ : Transport → Nat
  | .spi => 16 | .swarm => 17 | .ring => 18 | .porch => 19

/-! ### Packets -/

/-- Header of a packet (Table 11.1). -/
def header (opcode flags sess seq len : Nat) : Bytes :=
  leBytes 1 opcode ++ leBytes 1 flags ++ leBytes 2 sess ++ leBytes 2 seq ++ leBytes 2 len

/-- A packet with its tag, where a key is given, and its CRC trailer (R451, R453, R454). -/
def packet (opcode flags sess seq : Nat) (payload : Bytes) (key : Option Bytes) : Bytes :=
  let fl := flags + (if key.isSome then 0x10 else 0)
  let body := header opcode fl sess seq payload.length ++ payload
  let body := match key with
    | some k => body ++ packetTag k body
    | none => body
  body ++ leBytes 4 (crc32c body)

/-- The key an open session's packets are tagged with (R454). -/
def Session.tagKey (x : Session) : Option Bytes := if x.auth then some x.key else none

/-- Bytes of the largest reply with its entry header (R469). -/
def replyRoom : Nat := 1072

/-- The blocks of a packet on the share ring: SEG, TAG and up to 28 packet bytes each (R476). -/
def ringBlocks (tag : Nat) (p : Bytes) : List Bytes :=
  let n := (p.length + 27) / 28
  (upto n).map fun i => leBytes 1 (i + (if i + 1 = n then 0x80 else 0)) ++ leBytes 1 tag ++ (p.drop (28 * i)).take 28

/-- Room a packet takes in its reply queue. -/
def sendSize (x : Session) (p : Bytes) : Nat :=
  match x.transport with
  | .ring => ((ringBlocks 0 p).map fun b => entrySize b.length).foldl (· + ·) 0
  | _ => entrySize p.length

/-- A packet of a session written to its reply queue: in blocks for the ring (R476), and cut into frames as far as they fit for
the swarm bus (R475). -/
def State.send (s : State) (x : Session) (p : Bytes) : State :=
  match x.transport with
  | .ring =>
    let tag := (tget s.ring.tags 0 x.source + 1) % 256
    let s := { s with ring := { s.ring with tags := tset s.ring.tags x.source tag } }
    (ringBlocks tag p).foldl (fun s b => s.push 18 b x.source) s
  | .swarm => (s.push 17 p x.source x.port).swarmFeed
  | _ => s.push (outQ x.transport) p x.source x.port

/-! ### Event notifications -/

/-- Payload of an event notification (Table 11.12). -/
def eventPayload (cls subj ev lost time : Nat) (data : Bytes) : Bytes :=
  leBytes 1 cls ++ leBytes 1 subj ++ leBytes 2 ev ++ leBytes 2 lost ++ leBytes 2 0 ++ leBytes 8 time ++ data

/-- One event or telemetry notification to a session, under the drop rule of R486. -/
def State.notifyTo (s : State) (n cls subj ev : Nat) (data : Bytes) : State :=
  let x := s.sess n
  let p := packet 0x30 0x40 n x.notifSeq (eventPayload cls subj ev x.lost s.swarmMicros data) x.tagKey
  if sendSize x p + 2 * replyRoom ≤ s.freeBytes (outQ x.transport) then
    (s.setSess n { x with notifSeq := (x.notifSeq + 1) % 65536, lost := 0 }).send x p
  else
    (s.setSess n { x with lost := min 65535 (x.lost + 1) }).incPar P.notifDrops

/-- The numbers of the open sessions, lowest first. -/
def State.openSessions (s : State) : List Nat := (upto 256).filterMap fun k => if (s.sess (k + 1)).isOpen then some (k + 1) else none

/-- An event of a class sent to every open session that asks for the class (R485, Table 11.13). -/
def State.notify (s : State) (cls pos subj : Nat) (data : Bytes) : State :=
  s.openSessions.foldl
    (fun s n => if (s.sess n).eventMask / 2 ^ cls % 2 = 1 then s.notifyTo n cls subj (cls * 256 + pos) data else s) s

/-! ### Packets that must not be lost (R469, R486) -/

/-- A packet of a session written to its reply queue; `boot` marks the one whose end starts BOOT (R756). -/
def State.sendMark (s : State) (x : Session) (p : Bytes) (boot : Bool) : State :=
  let last := s.nextTag + (match x.transport with | .ring => (p.length + 27) / 28 - 1 | _ => 0)
  let s' := s.send x p
  if boot then { s' with dev := { s'.dev with pendingBoot := some ⟨outQ x.transport, last, s.now⟩ } } else s'

/-- BOOT is due with no packet to wait for (R756). -/
def State.bootNow (s : State) : State := { s with dev := { s.dev with pendingBoot := some ⟨16, s.nextTag, s.now⟩ } }

/-- A packet waits for a reply queue. -/
def State.waits (s : State) (q : Nat) : Bool := s.waiting.any fun w => decide (outQ (s.sess w.sess).transport = q)

/-- A packet written to its session's reply queue, or kept in order until it fits. -/
def State.sendOrWait (s : State) (n : Nat) (p : Bytes) (boot run : Bool) : State :=
  let x := s.sess n
  if ¬ s.waits (outQ x.transport) ∧ sendSize x p ≤ s.freeBytes (outQ x.transport) then s.sendMark x p boot
  else { s with waiting := s.waiting ++ [⟨n, p, boot, run⟩] }

/-- The waiting packets that now fit are written, in order: the packets of reply runs, or the completions. -/
def State.flush (s : State) (run : Bool) : State :=
  let r := s.waiting.foldl (fun (a : State × List Nat × List Waiting) w =>
    let x := a.1.sess w.sess
    let q := outQ x.transport
    if w.run = run ∧ a.2.1.contains q = false ∧ sendSize x w.packet ≤ a.1.freeBytes q then (a.1.sendMark x w.packet w.boot, a.2)
    else (a.1, q :: a.2.1, a.2.2 ++ [w])) (s, [], [])
  { r.1 with waiting := r.2.2 }

/-! ### Completions -/

/-- A completion notification: written at once if it fits, else it waits (R484, R486). -/
def State.complete (s : State) (opcode sess seq status : Nat) (extra : Bytes := []) (boot : Bool := false) : State :=
  let x := s.sess sess
  if x.isOpen then s.sendOrWait sess (packet opcode 0xC0 sess seq (leBytes 1 status ++ extra) x.tagKey) boot false else s

/-- The operation of an opcode on a target that runs, if any. -/
def State.findOp (s : State) (opcode target : Nat) : Option Op :=
  s.ops.find? fun o => decide (o.opcode = opcode) && decide (o.target = target)

/-- An operation answered ACCEPTED. -/
def State.startOp (s : State) (o : Op) : State := { s with ops := s.ops ++ [o] }

/-- The end of an operation: its completion is sent to the session that began it (R484). -/
def State.endOp (s : State) (opcode target status : Nat) (extra : Bytes := []) : State :=
  match s.findOp opcode target with
  | none => s
  | some o =>
    let s := { s with ops := s.ops.filter fun p => !(decide (p.opcode = opcode) && decide (p.target = target)) }
    s.complete opcode o.sess o.seq status extra

/-! ### Status codes (Table 11.4) -/

def stDone : Nat := 0x00
def stAccepted : Nat := 0x01
def stBusy : Nat := 0x02
def stBadOpcode : Nat := 0x10
def stBadLength : Nat := 0x11
def stBadCheck : Nat := 0x12
def stBadSequence : Nat := 0x13
def stNoSession : Nat := 0x14
def stSessionFull : Nat := 0x15
def stRange : Nat := 0x20
def stState : Nat := 0x21
def stLocked : Nat := 0x22
def stNotReady : Nat := 0x23
def stFaultActive : Nat := 0x30
def stStoActive : Nat := 0x31

end Sys2Proof.Machine
end

