-- ==== Sys2Proof/Machine/Events.lean ====
section
/-!
DEFINITION. Event lines (R38, R620, R621), the Pantry trigger, fault records (R656) and EMERGENCY frames (R536):
what every fault and every block raises.
-/
namespace Sys2Proof.Machine

def State.fg (s : State) (c : Nat) : FgChan := tget s.forager {} c
def State.setFg (s : State) (c : Nat) (x : FgChan) : State := { s with forager := tset s.forager c x }

/-- A channel halts with a status of Table 15.8; its PC stays (R613, R628, R629). -/
def State.fgHalt (s : State) (c status : Nat) : State :=
  let s := s.setFg c { s.fg c with wait := .none, timeoutAt := none, timeoutLeft := none, run := none, staging := [], outstanding := [], failing := false, stopping := false }
  ((s.setPar P.fgState 4 c).setPar P.fgStatus status c).incPar P.fgHalts c

/-- PC moves past an instruction of n words, or halts the channel at the end of its area (R619). -/
def State.fgAdvance (s : State) (c n : Nat) : State :=
  let pc := s.parN P.fgPc c + 4 * n
  if 4096 ≤ pc then s.fgHalt c 0x18 else s.setPar P.fgPc pc c

/-- A raised line at one channel: it completes a WAIT on it, else sets its latch, except in IDLE and HALTED
(R621, R622). -/
def State.lineAt (s : State) (k c : Nat) : State :=
  let x := s.fg c
  match s.parN P.fgState c with
  | 0 => s
  | 4 => s
  | st =>
    if st = 2 ∧ x.wait = .line k then
      ((s.setFg c { x with wait := .none, timeoutAt := none }).setPar P.fgState 1 c).fgAdvance c 1
    else s.setFg c { x with latches := if x.latches / 2 ^ k % 2 = 1 then x.latches else x.latches + 2 ^ k }

/-- A line raised at all 16 channels. -/
def State.latchLine (s : State) (k : Nat) : State := each (upto 16) s fun c s => s.lineAt k c

/-! ### Pantry trigger (R645) -/

/-- Uptime in µs. -/
def State.uptime (s : State) : Nat := (s.now - s.dev.porAt) / 1000

/-- The lowest channel that the recording holds. -/
def State.panLowest (s : State) : Option Nat := (upto 32).find? fun c => decide ((tget s.pantry.chans {} c).src ≠ 0)

/-- A trigger of the Pantry: the first while ARMED marks the recording and raises E14, later ones are counted. -/
def State.panTrigger (s : State) (cause : Nat) (code : Nat := 0) (at_ : Option (Nat × Nat) := none) : State :=
  let s := s.incPar P.panTrigCount
  if s.par P.panState ≠ 1 then s
  else
    let p := s.pantry
    let sidx : Nat := match at_ with
      | some c => c.2
      | none => match s.panLowest with
        | some c => (tget p.chans {} c).index
        | none => 0
    let ch : Nat := match at_ with
      | some c => c.1
      | none => 0xFF
    let p := { p with trigTime := s.swarmMicros, trigUptime := s.uptime, trigSeq := p.cur.map (·.seq), trigCause := cause,
                      trigCh := ch, trigSidx := sidx, faultCode := code, trigAt := s.now,
                      left := if p.mode = 0 then some (4080 - s.parN P.panPre) else none,
                      cur := p.cur.map fun f => { f with trig := true } }
    let s : State := { s with pantry := p }
    let s := (s.setPar P.panState 2).latchLine 14
    if bit (s.par P.panTrig) 4 ∧ s.par P.panTrigLine = 14 then s.incPar P.panTrigCount else s

/-- The Pantry records: ARMED or TRIGGERED. -/
def State.panOn (s : State) : Bool := decide (s.par P.panState = 1) || decide (s.par P.panState = 2)

/-- An event line raised (R38, R620): latches, waits, and the Pantry's line trigger. -/
def State.raiseLine (s : State) (k : Nat) : State :=
  let s := s.latchLine k
  if s.panOn ∧ bit (s.par P.panTrig) 4 ∧ s.par P.panTrigLine = k then s.panTrigger 4 else s

/-- An entry written into a queue: its event line (Table 15.8a), and the channels that wait for it (R616, R617). -/
def State.arrived (s : State) (q : Nat) : State :=
  let s := each (upto 16) s fun c s =>
    if (s.fg c).wait = .queue q then
      match s.parN P.fgState c with
      | 2 => (s.setFg c { s.fg c with wait := .none }).setPar P.fgState 1 c
      | 3 => s.setFg c { s.fg c with wait := .none, resume := 1 }
      | _ => s
    else s
  if 20 ≤ q ∧ q < 28 then s.raiseLine (q + 4)
  else if q < 8 ∧ q % 2 = 0 then s.raiseLine (32 + q / 2)
  else s

/-- An entry written to a queue, with what its arrival brings; an entry that does not fit brings nothing (R36, R636). -/
def State.enter (s : State) (q : Nat) (data head : Bytes) : State :=
  if entrySize data.length ≤ s.freeBytes q then
    let e : Entry := ⟨data, 0, 0, s.nextTag, head, s.now⟩
    ({ s.setQueue q (s.queue q ++ [e]) with nextTag := s.nextTag + 1 }).arrived q
  else s.incPar P.qOverflow q

/-! ### Own broadcasts on the swarm bus (R536, R552, R553, R560) -/

/-- A BUS event notification (Tables 13.8, 14.7). -/
def State.busEvent (s : State) (pos subj : Nat) (data : Bytes) : State := s.notify 9 pos subj data

/-- Frames of a port other than EMERGENCY frames, highest identifier first, evicted until n bytes fit (R553). -/
def State.evict (s : State) (p n : Nat) : Nat → State
  | 0 => s
  | f + 1 =>
    if n ≤ s.freeBytes (8 + p) then s
    else
      let fs := (s.sb p).frames.filter fun f => decide (idClass f.id ≠ 0)
      match fs with
      | [] => s
      | g :: gs =>
        let top := gs.foldl (fun (m : TxFrame) x => if m.id ≤ x.id then x else m) g
        (((s.txDrop p top.tag).feedGone top).incPar P.lifeDrops p).evict p n f

/-- EMERGENCY frames of a bus-off port copied into its partner's queue (R553). -/
def State.copyEmerg (s : State) (p : Nat) (fs : List TxFrame) : State :=
  let q := sbTwin p
  if s.acting p ∧ s.sbOff p ∧ ¬ s.sbOff q ∧ fs ≠ [] then
    let s := fs.foldl (fun s f =>
      match (s.queue (8 + p)).find? fun e => decide (e.tag = f.tag) with
      | some e =>
        let s := s.evict q (entrySize e.data.length) 512
        (s.txPut q f.id e.data f.own none false (some (p, f.tag))).incPar P.emergCopies
      | none => s) s
    s.busEvent 1 p (leBytes 1 p ++ leBytes 1 q ++ leBytes 2 fs.length)
  else s

/-- A frame queued at a port, with the copy of an EMERGENCY frame that reaches a bus-off port of an acting pair. -/
def State.queueFrame (s : State) (p id : Nat) (data : Bytes) (own : Bool) : State :=
  let tag := s.nextTag
  let s := s.txPut p id data own
  if idClass id = 0 then s.copyEmerg p ((s.sb p).frames.filter fun f => decide (f.tag = tag)) else s

/-- A frame forwarded out of a port, counted where it has entered the transmit queue (R561, R36). -/
def State.forwardOut (s : State) (q id : Nat) (data : Bytes) (own : Bool) : State :=
  let t := s.queueFrame q id data own
  if t.nextTag = s.nextTag then t else t.incPar P.fwdFrames q

/-- The message classes that cross segments as a broadcast (Table 13.3). -/
def bcastClass (c : Nat) : Bool := decide (c ≤ 2) || decide (c = 6) || decide (16 ≤ c)

/-- A broadcast of source segment `src` received on port p is forwarded out the other ports (R560, R561). -/
def State.forwardBcast (s : State) (p src id : Nat) (data : Bytes) (own : Bool) : State :=
  let seg := s.parN P.sbSegment p
  if bcastClass (idClass id) ∧ (seg = src ∨ s.parN P.route src = p) then
    each (upto 4) s fun q s =>
      if s.sbOn q ∧ bit (s.par P.fwdMask q) (idClass id) ∧ s.parN P.sbSegment q ≠ seg ∧ s.parN P.sbSegment q ≠ src then
        s.forwardOut q id data own
      else s
  else s

/-- An own broadcast on every port that sends them, and forwarded as if received on a home port. -/
def State.ownBcast (s : State) (prio cls detail : Nat) (data : Bytes) : State :=
  match s.sourceAddr with
  | none => s
  | some a =>
    let id := swarmId prio cls a detail
    if s.swarm.barred.contains id then s
    else
      let s := s.bcastPorts.foldl (fun s p => s.queueFrame p id data true) s
      match s.bcastPorts with
      | p :: _ => s.forwardBcast p (a / 128) id data true
      | [] => s

/-- An EMERGENCY frame queued (R536): code, axis or 0xFF, safe-state code. Its DETAIL counts the EMERGENCY frames that entered a transmit
queue (R534). -/
def State.emergency (s : State) (code subj safe : Nat) : State :=
  let n := s.swarm.emergCount
  let t := s.ownBcast 0 0 n (leBytes 2 code ++ leBytes 1 subj ++ leBytes 1 safe ++ leBytes 4 s.swarmMicros)
  if t.nextTag = s.nextTag then t else { t with swarm := { t.swarm with emergCount := (n + 1) % 128 } }

/-- CONTEXT of a fault record (Table 16.6). -/
def State.faultContext (s : State) (subj : Nat) : List Int :=
  if subj = 0xFF then [0, 0, 0, 0, 0, 0, 0]
  else
    let b := s.leadBridge subj
    [((s.lane (s.laneOf subj)).periodNo : Int), s.par P.posSpeed subj, s.par P.linkV (s.linkOf subj), s.par P.tsHot] ++
      (s.bridge b).i

/-- The newest entry of the ring, if any (R656). -/
def State.newestRec (s : State) : Option (Nat × FRec) :=
  if s.par P.frCount = 0 then none
  else
    let k := (s.parN P.frNext + 255) % 256
    some (k, tget s.faultRing {} k)

/-- One entry written for a raise, or the repeat of the newest counted (R656). -/
def State.recordFault (s : State) (code subj safe : Nat) (path : String) (secondary : Bool := false) : State :=
  let fresh (s : State) : State :=
    let k := s.parN P.frNext
    let s := s.incPar P.frSeq
    let e : FRec :=
      { seq := s.parN P.frSeq, code := code, subject := subj, safe := safe, time := s.swarmMicros,
        uptime := s.uptime, node := s.parN P.addrHeld, secondary := secondary,
        degraded := bit (s.par P.clkStatus) 0, devState := s.dev.st.code,
        axState := if subj < 4 then (s.ax subj).st.code else 0, path := path, context := s.faultContext subj,
        at_ := s.now }
    let s := { s with faultRing := tset s.faultRing k e }
    (s.setPar P.frNext ((k + 1) % 256 : Nat)).incSat P.frCount 256
  match s.newestRec with
  | none => fresh s
  | some (k, e) =>
    if e.code = code ∧ e.subject = subj ∧ e.path = path ∧ s.now < e.at_ + 1000000000 then
      { s with faultRing := tset s.faultRing k { e with rep := min 65535 (e.rep + 1), dirty := true } }
    else fresh s

/-- LATCHED of the newest entry, from the state the raise left (R656). -/
def State.markLatched (s : State) (b : Bool) : State :=
  match s.newestRec with
  | none => s
  | some (k, e) => { s with faultRing := tset s.faultRing k { e with latched := e.latched || b, dirty := true } }

/-- Slots of the ring from the newest to the oldest. -/
def State.ringSlots (s : State) : List Nat :=
  (upto (s.parN P.frCount)).map fun i => (s.parN P.frNext + 255 - i + 256) % 256

/-- The clear of a fault written into the entry of its raise (R656). -/
def State.recordClear (s : State) (code subj : Nat) (path : String) : State :=
  match s.ringSlots.find? (fun k => let e := tget s.faultRing {} k
      decide (e.code = code) && decide (e.subject = subj) && decide (e.path = path) && !e.cleared) with
  | none => s
  | some k =>
    let e := tget s.faultRing {} k
    { s with faultRing := tset s.faultRing k { e with cleared := true, clearedTime := s.swarmMicros, dirty := true } }

/-- FRAME_REF of the newest entry: the frame open at the trigger its raise caused, or at the trigger that another raise
caused in the same control period (R656, R659). -/
def State.frameRef (s : State) (before : Bool) (subj : Nat) : State :=
  let p := s.pantry
  let se : Nat := if subj < 4 then (s.lane (s.laneOf subj)).seAt else s.now
  match s.newestRec, p.trigSeq with
  | some (k, e), some q =>
    if (before ∧ s.par P.panState = 2) ∨ (p.trigCause = 2 ∧ s.par P.panState = 2 ∧ se ≤ p.trigAt) then
      { s with faultRing := tset s.faultRing k { e with frameRef := q, dirty := true } }
    else s
  | _, _ => s

/-- A fault reported: record, FAULT_RAISED, EMERGENCY frame and Pantry trigger (R656, Table 11.13, R536, R645). -/
def State.report (s : State) (code subj safe : Nat) (path : String) (secondary : Bool := false) : State :=
  let s := s.recordFault code subj safe path secondary
  let s := s.notify 2 0 subj (leBytes 2 code ++ leBytes 1 safe ++ leBytes 1 path.length ++ pathBytes path)
  let s := if 3 ≤ safe then s.emergency code subj safe else s
  let hit := bit (s.par P.panTrig) 1 || (bit (s.par P.panTrig) 0 && decide (3 ≤ safe))
  if s.panOn ∧ hit then
    let armed := decide (s.par P.panState = 1)
    (s.panTrigger 2 code).frameRef armed subj
  else s

end Sys2Proof.Machine
end

