-- ==== Sys2Proof/Machine/Power.lean ====
section
/-!
DEFINITION. The power stage as every chapter acts on it: gate channels, two-step soft-off, the Cellar's hold-off,
lane carriers, axis transitions (Table 2.4), the safe states of Table 9.5 and the master fault reaction table
(Table 9.9).
-/
namespace Sys2Proof.Machine

/-! ### Channels (R366 to R384) -/

/-- Channel number of a cell's high (C0) and low (C1) channel. -/
def hiCh (g : Nat) : Nat := 2 * g
def loCh (g : Nat) : Nat := 2 * g + 1

/-- The channels of a bridge and of an axis. -/
def chansOfBridge (b : Nat) : List Nat := (cellsOfBridge b).flatMap fun g => [hiCh g, loCh g]
def State.chansOf (s : State) (k : Nat) : List Nat := (s.bridgesOf k).flatMap chansOfBridge

/-- Location path of a channel (R657). -/
def chanPath (c : Nat) : String := "G" ++ dec (c / 2) ++ (if c % 2 = 0 then "/HIGH" else "/LOW")

/-- The code that a cell drives a stage of code k at while the cap is L in 0.1 % (R433). -/
def cappedCode (l k : Nat) : Nat := (1000 - l) * (k + 1) / 1000 - 1

/-- The code of a channel's stage in force: its field of the shaping word (Table 9.3), capped. -/
def State.stageCode (s : State) (c : Nat) (on : Bool) (g : GStage) : Nat :=
  let w := s.cpN (c / 2) (if c % 2 = 0 then P.shapeH else P.shapeL)
  let n := match g with
    | .s1 => 2 | .s2 => 1 | .s3 => 0 | .rail => 0
  cappedCode (s.cell (c / 2)).cap (w / 16 ^ (n + if on then 3 else 0) % 16)

/-- What a channel drives its gate with (R366, R367, R373, R380). -/
def State.driveOf (s : State) (c : Nat) (x : Chan) : Drive :=
  match x.soft with
  | .level => .level (s.cpN (c / 2) P.softLevel)
  | .sink => .soft (s.cpN (c / 2) P.softSink)
  | .none =>
    if x.wait.isSome ∨ ¬ x.on then .clamp
    else if x.stage = .rail then (if x.cmd then .rail else .clamp)
    else if x.cmd then .source (s.stageCode c true x.stage) else .sink (s.stageCode c false x.stage)

/-- A channel with the drive that its step gives. -/
def State.putChan (s : State) (c : Nat) (x : Chan) : State := s.setChan c { x with drive := s.driveOf c x }

/-- A channel whose waiting turn-on is dropped: its gate stays off, and the Miller clamp holds it again (R373). -/
def Chan.drop (x : Chan) : Chan := { x with cmd := false, wait := none, clamp := x.clamp || !x.on }

/-- Two-step soft-off started on a channel that is on; a channel already off does nothing, one already in soft-off continues (R380, R406).
`latch` is true for the soft-off of a fault, which has to be cleared before the channel turns on again; a hold-off and an undervoltage
without a fault refuse turn-on as long as they last (R376, R384). -/
def State.softOff (s : State) (c : Nat) (latch : Bool := true) : State :=
  let x := s.chan c
  if x.soft ≠ .none then s.setChan c { x with softLatch := x.softLatch || latch }
  else if x.on then
    s.putChan c { x with cmd := false, wait := none, soft := .level, softAt := s.now, softSeen := true, softLatch := x.softLatch || latch,
                         offCmdAt := s.now, stage := .s1 }
  else s.setChan c x.drop

/-- A normal turn-off command to a channel (R366, R371). -/
def State.turnOff (s : State) (c : Nat) : State :=
  let x := s.chan c
  if x.cmd ∧ x.on then s.putChan c { x with cmd := false, wait := none, offCmdAt := s.now, cmdAt := s.now, stage := .s1, stageAt := s.now, clamp := false }
  else s.setChan c x.drop

/-- Whether a Cellar hold-off applies to a cell (R395). -/
def State.heldOff (s : State) (g : Nat) : Bool := s.cellar.causes.any fun e => e.2 / 2 ^ g % 2 = 1

/-- The hold-off line of a cell acts on its two channels at every moment (R21, R384): one commanded on ends by two-step
soft-off, and its command with it. -/
def State.interlock (s : State) : State :=
  each (upto 26) s fun c s =>
    if s.heldOff (c / 2) && (s.chan c).cmd then
      let s := s.softOff c false
      s.setChan c (s.chan c).drop
    else s

/-- The end of every meaning: the next state, with the hold-off lines in effect and the waiting commands as they were. -/
def answer (s x : State) : Out := .next { x.interlock with pending := s.pending }

/-- HOLDOFF_MASK and HOLDOFF_CAUSE (R395): the cells held by any cause, and the causes that hold any cell. -/
def State.holdMask (s : State) : Nat := maskOf ((upto 13).filter fun g => s.heldOff g)
def State.holdCauses (s : State) : Nat := maskOf ((s.cellar.causes.filter fun e => e.2 ≠ 0).map (·.1))

/-- The bridge, or the chopper of a link, is in direct mode (R388). -/
def AxState.leavesDirect (st : AxState) : Bool := decide (st = .disabled) || decide (st = .ready) || decide (st = .faultLatched)
def State.directBridge (s : State) (b : Nat) : Bool :=
  bit (s.par P.dgEnable) b && decide (s.dev.st ≠ .off) && decide (s.dev.st ≠ .boot) && !s.cellar.demand &&
    (match s.axisOfBridge b with
     | some k => (s.ax k).st.leavesDirect
     | none => true)
def State.directChop (s : State) (l : Nat) : Bool :=
  bit (s.par P.dgEnable) 4 && decide (s.dev.st ≠ .off) && decide (s.dev.st ≠ .boot) && !s.cellar.demand &&
    (s.axesOnLink l).all fun k => (s.ax k).st.leavesDirect
def State.directCh (s : State) (c : Nat) : Bool := if c < 24 then s.directBridge (c / 6) else s.directChop (c - 24)

/-- Bits 20:16 of CELL_STATUS as they stand now: the channel fields alone wait for a status frame (Table 9.11, R407). -/
def State.cellBits (s : State) (g : Nat) : Nat :=
  ofBits [!(recent s.now 1000000 (s.cell g).cross).isEmpty, (s.cell g).testing,
    s.directCh (hiCh g) || s.directCh (loCh g), s.heldOff g, (s.cell g).linkUp]

/-- Whether a channel refuses turn-on: hold-off, a fault's soft-off not cleared, supply fault, no cell link (R364, R376, R378,
R380, R384); the direct path does not use the link (R389). -/
def State.refusesOn (s : State) (c : Nat) : Bool :=
  s.heldOff (c / 2) || (s.chan c).softLatch || (s.chan c).uv || (!(s.cell (c / 2)).linkUp && !s.directCh c)

/-- A turn-on command to a channel (R370, R372, R385): refused, dropped as a cross-command by the caller, waiting for
the opposite gate's dead time, or taken. -/
def State.turnOn (s : State) (c : Nat) : State :=
  let x := s.chan c
  if s.refusesOn c then s
  else if x.cmd then s
  else if c / 2 = 12 then
    s.putChan c { x with cmd := true, on := true, clamp := false, stage := .s1, stageAt := s.now, cmdAt := s.now, onAt := s.now }
  else
    let o := s.chan (if c % 2 = 0 then c + 1 else c - 1)
    let dead := s.gpN (c / 2) P.deadTime
    if !o.on ∧ o.offAt + dead ≤ s.now then
      s.putChan c { x with cmd := true, on := true, wait := none, clamp := false, stage := .s1, stageAt := s.now, cmdAt := s.now,
                           onAt := s.now }
    else s.setChan c { x with cmd := true, wait := some s.now, clamp := false }

/-! ### Lanes (R22, R88) -/

/-- L_a of an axis (R431): the larger of TH_LEVEL and its JT_LEVEL. -/
def State.throttleLevel (s : State) (k : Nat) : Int := max (s.par P.thLevel) (s.par P.jtLevel k)

/-- Highest level in hundredths of 0.1 %. -/
def State.levelMax (s : State) : Nat := (1000 - s.tpN P.thFloor) * 100

/-- TH_STATUS (Table 10.6). -/
def State.thStatus (s : State) : Nat :=
  let l := s.fanner.level
  ofBits [l.graceAt.isSome, l.enforcing, decide (0 < l.fine) && decide (l.fine = s.levelMax), s.fanner.hold60.isSome,
    decide (s.par P.tsBrokenMask ≠ 0), decide (s.par P.thAck = 1), bit (s.par P.clkStatus) 0, l.since.isSome || s.fanner.coldSince.isSome,
    (upto 4).any (fun k => decide (0 < s.par P.jtLevel k)),
    (upto 8).any fun k => decide (s.par P.ntcState k = 1) || decide (s.par P.ntcState k = 2)]

/-- The carrier limit of an axis while it is throttled (R432). -/
def State.thermCarrier (s : State) (k : Nat) : Option Nat :=
  let l := s.throttleLevel k
  if l ≤ 0 then none else some (max 1000 (tdiv ((1000 - l) * min (s.par P.carrierFreq k) (s.par P.carrierCap)) 1000)).toNat

/-- f_eff of an axis (R92): the smallest of CARRIER_FREQ, CARRIER_CAP and the Fanner's limit. -/
def State.fEff (s : State) (k : Nat) : Nat :=
  let f := min (s.parN P.carrierFreq k) (s.parN P.carrierCap)
  match s.thermCarrier k with
  | some c => min f c
  | none => f

/-- Half carrier period H in CLK_HEARTH cycles (R93). -/
def halfOf (f : Nat) : Nat := (2 * 200000000 + f) / (2 * (if f = 0 then 1 else f))

/-- CARRIER_EFF, CARRIER_CYCLES and BR_OFF_EFF of an axis (R93, Table 3.1). -/
def State.reportCarrier (s : State) (k half : Nat) : State :=
  (s.setPar P.carrierCycles (2 * half : Nat) k).setPar P.carrierEff (400000000 / (2 * half) : Nat) k

/-- The effective carrier offset of the i-th of n bridges (Table 3.1). -/
def State.effOffset (s : State) (k i n b : Nat) : Nat :=
  match s.par P.grouping k with
  | 2 => (2 * i * 65536 + n) / (2 * n)
  | 3 => s.parN P.brOffset b
  | 4 => s.parN P.brOffset b
  | _ => 0

def State.setOffsets (s : State) (k : Nat) : State :=
  let bs := s.bridgesOf k
  (bs.zipIdx).foldl (fun s p => s.setPar P.brOffEff (s.effOffset k p.2 bs.length p.1 : Nat) p.1) s

/-- The axis parameters a commit carries to the Hearth (R149): chapters 3 and 5, with f_eff of that moment (R94) at
the number of CARRIER_EFF. -/
def State.hearthCfg (s : State) (k : Nat) : Tab Int :=
  let lo := 0x1000 * (k + 1) + 0x100
  tset (s.params.filter fun e => decide (lo ≤ e.1) && decide (e.1 < lo + 0x200)) (P.carrierEff.pn k 0) (s.fEff k)

/-- The configuration of an axis that the Hearth takes with a commit, in the same commit copied into L4 (R138, R149). -/
def State.takeCfg (s : State) (k : Nat) (cfg : Tab Int) : State :=
  let s : State := { s with copies := tset s.copies (s.parN P.lane k) cfg }
  s.modAx k fun a => { a with hearth := { a.hearth with cfg := cfg } }

/-- L4's copies follow the axes to other lanes: each holds the configuration of the axis that its lane serves now (R138). -/
def State.copyLanes (s : State) : State :=
  { s with copies := (upto 4).filterMap fun n => (s.axisOfLane n).map fun k => (n, (s.ax k).hearth.cfg) }

/-- A lane's carrier starts with its Forager channel (R22): cold shadow registers, first SE a valley, and the
axis's parameters taken: a commit that still waits carries no older ones (R149). No state record of an earlier run is left, and no
deviation of one counts towards R128. -/
def State.startLane (s : State) (k : Nat) : State :=
  let n := s.laneOf k
  let l := s.lane n
  if l.running then s
  else
    let h := halfOf (s.fEff k)
    let s := s.setLane n { l with running := true, first := true, startedAt := s.now, periodNo := 0, peak := true, half := h,
                                  shadow := [], filled := false, inForce := [], dispatched := false, overruns := 0, adjust := 0,
                                  halves := [], job := {}, stage := .idle }
    let s := if n < 4 then s.setPar P.fgState 1 n else s
    let s := s.modAx k fun a => { a with hearth := { a.hearth with takenAt := s.now, bufCfg := s.hearthCfg k, balSince := none } }
    let s := { s with records := s.records.filter fun e => decide (e.1 ≠ n) }
    ((s.takeCfg k (s.hearthCfg k)).reportCarrier k h).setOffsets k

/-- A lane's carrier stops: no edges, no SEs (R88); its axis's switches are turned off by the caller. -/
def State.stopLane (s : State) (k : Nat) : State :=
  let n := s.laneOf k
  let l := s.lane n
  let s := s.setLane n { l with running := false, filled := false, shadow := [], inForce := [], overruns := 0, halves := [], job := {}, stage := .idle }
  let s := (s.setBit P.posStatus 6 false k).setBit P.posStatus 7 false k
  let s := s.modAx k fun a => { a with hearth := { a.hearth with balSince := none } }
  let s := (s.bridgesOf k).foldl (fun s b => s.setBridge b { s.bridge b with convAt := s.now, pred := [0, 0, 0] }) s
  if n < 4 then s.setPar P.fgState 0 n else s

/-- All switches of an axis turned off normally. -/
def State.axisOff (s : State) (k : Nat) : State := each (s.chansOf k) s fun c s => s.turnOff c

/-- All switches of an axis that are on turn off by two-step soft-off (Table 9.5). -/
def State.axisSoft (s : State) (k : Nat) : State := each (s.chansOf k) s fun c s => s.softOff c

/-- What a half commands the high side of phase x of a bridge to at a moment in units of 1/32 ns: on, off with the low side on, or none
where both are off (Table 3.3, R99). The pulse is centred on the carrier's peak. -/
def Half.high (h : Half) (b x at_ : Nat) : Option Bool :=
  match (tget h.words [] b)[x]? with
  | none => none
  | some e => match e.force with
    | .bothOff => none
    | .lowOn => some false
    | .highOn => some true
    | .modulate =>
      let p := (at_ - h.startX) / 5
      some (if h.rising then decide (16 * h.half < p + e.compare + 1) else decide (p < e.compare))

/-- The same for a bridge of lane n, whose carrier runs its effective offset behind the lane's (R97). A lead bridge with an offset of its
own, under grouping 3 or 4, lies behind it too: the manual has the lane's carrier follow the lead, and yet gives the lead an offset
(DESIGN CHOICE, log entry 224). -/
def State.pwmHigh (s : State) (n b x at_ : Nat) : Option Bool :=
  let l := s.lane n
  let d := 80 * ((s.parN P.brOffEff b * (2 * l.half) * 2 + 65536) / 131072)
  if at_ < d then none
  else match l.halves.find? fun h => decide (h.startX ≤ at_ - d) && decide (at_ - d < h.endX) with
    | some h => h.high b x (at_ - d)
    | none => none

/-- A placed edge of a gate channel to a level lies in this nanosecond (R39, R99, R104). -/
def State.edgePlaced (s : State) (n c : Nat) (on : Bool) : Bool :=
  let lev (x : Nat) : Bool := decide (s.pwmHigh n (c / 6) (c % 6 / 2) x = some (decide (c % 2 = 0)))
  decide (lev (32 * s.now + 31) = on) && decide (lev (32 * s.now - 1) ≠ on)

/-! ### Axis transitions (Table 2.4) -/

/-- Cold values on leaving RUNNING, LIMP or EMERGENCY (Table 2.8). -/
def Axis.leaveRun (a : Axis) : Axis :=
  { a with hearth := { a.hearth with xd := [], xq := [], vz := [], balD := [], balQ := [] },
           speed := { a.speed with xi := 0, tlHat := 0, idfw := 0 } }

/-- Cold values on entry to RUNNING (Table 2.8, R111). -/
def Axis.enterRun (a : Axis) : Axis :=
  { a with hearth := { a.hearth with mpcCold := true, psiR := 0, thSlip := 0 },
           pos := { a.pos with ps := {}, fluxInSince := none, fluxSettled := false, wagSettle := 0, wagCount := 0, wagKs := [] } }

/-- The end of a scout start or catch (R229). -/
def Axis.endProc (a : Axis) : Axis := { a with pos := { a.pos with proc := .none, flying := false, six := false } }

/-- An axis that ends switching: its procedure ends, and the catch episode in which a loss of synchronism was met (Table 5.8 bit 12). -/
def State.endEpisode (s : State) (k : Nat) (f : Axis → Axis) : State :=
  (s.modAx k fun a => f a.endProc).setBit P.posStatus 12 false k

/-- HIVE_STATE follows the hive axis: HOLDING, OWN_CMD and FAULTED take precedence over the sharing states, and end in
LISTENING, or in LEFT after HIVE_LEAVE (Table 8.5, R334, R356). LISTENING and LEFT give way to HIVE_DUP, STO, a fault state and EMERGENCY
(Table 8.11), LISTENING to fallback too. -/
def State.hiveSync (s : State) (k : Nat) : State :=
  if ¬ s.ring.on ∨ s.hiveAx ≠ k then s
  else
    let st := s.par P.hiveState
    let busy := bit (s.par P.posStatus k) 2 || bit (s.par P.posStatus k) 3
    let above : Option Int :=
      if s.ring.dup then some 8
      else match (s.ax k).st with
        | .running | .limp => if busy then some 4 else if s.ring.fallback ∨ s.ring.lost then some 7 else none
        | .stopping => some 4
        | .emergency => some 7
        | _ => some 8
    let event : Bool := s.ring.dup || (match (s.ax k).st with
      | .sto | .faultRetry | .faultLatched | .emergency => true
      | _ => false)
    let new : Int := match above with
      | some v => if st = 0 ∨ ((st = 6 ∨ (st = 1 ∧ v ≠ 7)) ∧ ¬ event) then st else v
      | none => if st = 4 ∨ st = 7 ∨ st = 8 then (if s.ring.hasLeft then 6 else 1) else st
    if new = st then s else { s.setPar P.hiveState new with ring := { s.ring with stateAt := s.now } }

/-! ### Triggers of one control period (R60, Table 2.5) -/

/-- End of the control period in progress of an axis, in ns; none while its lane gives no SEs. -/
def State.periodEnd (s : State) (k : Nat) : Option Nat :=
  let l := s.lane (s.laneOf k)
  if l.running ∧ ¬ l.first then some (l.nextX / 32) else none

/-- The axis as it was before the transition that a higher trigger of the same period replaces. -/
def Axis.undo (a : Axis) (t : Turn) : Axis :=
  { a with st := t.st, prev := t.prev, stop := t.stop, stopEnd := t.stopEnd, retryFrom := t.retryFrom, resumeKind := t.resumeKind,
           resumeEnd := t.resumeEnd, emgDiag := t.emgDiag, emgSwitching := t.emgSwitching, tries := t.tries, started := t.started }

/-- What an axis is before the first trigger of a period. -/
def Axis.mark (a : Axis) (till rank : Nat) : Turn :=
  { till := till, rank := rank, st := a.st, prev := a.prev, stop := a.stop, stopEnd := a.stopEnd, retryFrom := a.retryFrom,
    resumeKind := a.resumeKind, resumeEnd := a.resumeEnd, emgDiag := a.emgDiag, emgSwitching := a.emgSwitching, tries := a.tries,
    started := a.started }

/-- A trigger of a rank of Table 2.5 in its control period: discarded (false) where a higher one was taken in the period, else taken, in
place of a lower one taken before it. An axis whose lane gives no SEs has no control period: its triggers act in order (log entry
192). -/
def State.arb (s : State) (k rank : Nat) : State × Bool :=
  let a := s.ax k
  let fresh : State × Bool := (s.setAx k { a with turn := (s.periodEnd k).map fun till => a.mark till rank }, true)
  match a.turn with
  | some t =>
    if t.till ≤ s.now then fresh
    else if t.rank < rank then (s, false)
    else if rank < t.rank then (s.setAx k { a.undo t with turn := some { t with rank := rank } }, true)
    else (s, true)
  | none => fresh

/-- A transition outside Table 2.5 ends what may be replaced. -/
def State.settle (s : State) (k : Nat) : State := s.modAx k fun a => { a with turn := none }

/-- The steps of a scout start. -/
def Proc.scouts : Proc → Bool
  | .scoutSettle | .scoutPlus | .scoutDecay | .scoutMinus | .scoutRetryDecay | .scoutBack | .scoutMagnetise => true
  | _ => false

/-- POS_STATUS bits 5:2 follow the procedure that runs (Table 5.8). -/
def State.syncProc (s : State) (k : Nat) : State :=
  let p := (s.ax k).pos
  let scout : Bool := p.flying || p.proc.scouts
  let catching : Bool := !p.flying && (match p.proc with
    | .catchDecay | .catchVoltage | .catchShort | .catchRamp => true
    | _ => false)
  ((((s.setBit P.posStatus 2 scout k).setBit P.posStatus 3 catching k).setBit P.posStatus 4 (decide (p.proc = .catchShort)) k).setBit
    P.posStatus 5 p.six k).hiveSync k

def AxState.runs : AxState → Bool
  | .running | .limp | .emergency => true
  | _ => false

/-! ### Faults that stand (Table 9.9) -/

/-- The reaction of an axis to a fault (Table 9.9, Axis state column): a QSTOP one reacts at standstill. -/
inductive React where
  | unchanged | latch | retry | retryFree | qLatch | qRetry | qRetryFree
  deriving DecidableEq, Repr

/-- Safe state and reaction of a fault code (Table 9.9). SD_STREAM and the lane faults have two rows each: `hard`
chooses the one with a safe state. -/
def faultRow (code : Nat) (hard : Bool := true) : Nat × React :=
  match code with
  | 0x0101 => (3, .latch) | 0x0102 => (3, .retry) | 0x0103 => (3, .latch) | 0x0104 => (3, .latch)
  | 0x0105 => (3, .retry) | 0x0106 => (3, .retry)
  | 0x0107 => (0, .latch) | 0x0108 => (0, .latch) | 0x0109 => (0, .latch) | 0x010A => (0, .latch) | 0x010B => (0, .latch)
  | 0x0201 => if hard then (4, .latch) else (0, .unchanged)
  | 0x0202 => if hard then (4, .latch) else (0, .unchanged)
  | 0x0203 => (0, .unchanged) | 0x0204 => (2, .qRetry) | 0x0205 => (0, .latch) | 0x0206 => (2, .unchanged)
  | 0x0301 => (3, .retry)
  | 0x0302 => if hard then (4, .latch) else (0, .unchanged)
  | 0x0303 => (2, .qLatch) | 0x0304 => (0, .unchanged) | 0x0305 => (2, .qLatch) | 0x0306 => (0, .unchanged)
  | 0x0401 => (4, .retry) | 0x0402 => (3, .retry)
  | 0x0403 => (0, .latch) | 0x0501 => (0, .latch) | 0x0601 => (0, .latch) | 0x0701 => (0, .latch)
  | 0x0602 => (2, .qRetry) | 0x0603 => (2, .qRetry) | 0x0604 => (1, .unchanged)
  | 0x0605 => (4, .retry) | 0x0606 => (3, .retry)
  | 0x0703 => (2, .qLatch)
  | 0x0801 => (5, .retryFree) | 0x0802 => (2, .qRetryFree)
  | 0x0901 => (5, .unchanged) | 0x0902 => (5, .latch) | 0x0A01 => (5, .latch)
  | _ => (0, .unchanged)

/-- A fault that stands, added once; the safe state last raised is its, and one that an off-state diagnostic raises now counts as cleared
on the owner's command, whatever raised it before (R402). -/
def State.stand (s : State) (f : Standing) : State :=
  let same (g : Standing) : Bool := decide (g.code = f.code) && decide (g.axis = f.axis) && decide (g.inst = f.inst) && decide (g.path = f.path)
  if s.standing.any same then { s with standing := s.standing.map fun g => if same g then { g with pre := g.pre || f.pre, safe := f.safe } else g }
  else { s with standing := s.standing ++ [f] }

/-- A standing fault ends: its record and notification (R656, Table 11.13). -/
def State.unstand (s : State) (f : Standing) : State :=
  let s := { s with standing := s.standing.filter fun g => decide (g ≠ f) }
  let subj := if f.axis < 4 then f.axis else 0xFF
  let s := s.recordClear f.code subj f.path
  s.notify 2 1 subj (leBytes 2 f.code ++ leBytes 1 f.safe ++ leBytes 1 f.path.length ++ pathBytes f.path)

/-- The standing faults of a code and instance end. -/
def State.unstandCode (s : State) (code inst : Nat) : State :=
  (s.standing.filter fun f => decide (f.code = code) && decide (f.inst = inst)).foldl (fun s f => s.unstand f) s

/-- A fault of a code stands on an instance. -/
def State.stands (s : State) (code inst : Nat) : Bool := s.standing.any fun f => decide (f.code = code) && decide (f.inst = inst)

/-- No house-core pair is live. -/
def State.noPair (s : State) : Bool := !s.dev.pairA.live && !s.dev.pairB.live

/-- HOUSE_SILENT clears by itself as soon as its conditions no longer hold: the axis has stopped switching, a pair is live, or a commit has
been taken (R50, Table 9.9; log entry 238). -/
def State.silentEnds (s : State) (k : Nat) : State :=
  if s.switching k && s.noPair && decide ((s.ax k).hearth.takenAt + 5000000 < s.now) then s else s.unstandCode 0x0206 k

/-! ### Moves of an axis (Table 2.4) -/

/-- One transition of an axis: previous state, cold values, AXIS_STATE notification. -/
def State.moveAxis (s : State) (k : Nat) (st : AxState) : State :=
  let a := s.ax k
  let a' := if a.st.runs then a.leaveRun else a
  let a' := if st = .running then a'.enterRun else a'
  let a' := if st.runs then { a' with speed := { a'.speed with fresh := true } } else a'
  let a' := if st = .stopping then a' else { a' with hearth := { a'.hearth with silentTau := none } }
  let a' := if st = .emergency ∨ st = .faultRetry then a' else { a' with emgDiag := false }
  let s := s.setAx k { a' with st := st, prev := a.st }
  let s := (if st = .running then s.setBit P.coldFlags 3 true k else s).syncProc k
  (s.notify 1 0 k (leBytes 1 a.st.code ++ leBytes 1 st.code ++ leBytes 2 (s.parN P.axisFault k))).silentEnds k

/-- The cell in whose channel the test current of a step acts: one channel at a time (R397, R400, Table 9.11). -/
def Precheck.testCell (p : Precheck) : Option Nat :=
  match p.step with
  | .gateLoop | .desat => some (3 * p.bridge + p.item / 2)
  | .phase => some (3 * p.bridge + p.item)
  | .chopper => some 12
  | _ => none

/-- The test current of a precheck's step begins or ends. -/
def State.testCurrent (s : State) (p : Precheck) (on : Bool) : State :=
  match p.testCell with
  | some g => s.setCell g { s.cell g with testing := on }
  | none => s

/-- A hold-off request of a precheck withdrawn, and its test currents ended (Table 9.8). -/
def State.endPrecheckCells (s : State) (k : Nat) : State :=
  match (s.ax k).precheck with
  | none => s
  | some p =>
    let cs := cellsOfBridge p.bridge
    let m := tget s.cellar.causes 0 6
    let m' := maskOf ((bitsOf 13 m).filter fun g => !(cs.contains g))
    let s := { s with cellar := { s.cellar with causes := tset s.cellar.causes 6 m' } }
    (s.testCurrent p false).modAx k fun a => { a with precheck := none }

/-- The end of a PRECHECK with the status of its completion (Table 11.10). -/
def State.endPrecheck (s : State) (k status : Nat) : State :=
  (s.endPrecheckCells k).endOp 0x24 k status

/-- An axis that leaves switching with its switches turned off normally. -/
def State.toIdle (s : State) (k : Nat) (st : AxState) : State :=
  let s := if s.switching k then (s.axisOff k).stopLane k else s
  (s.endEpisode k fun a => { a with started := false, asc := false }).moveAxis k st

/-! ### Hold-off (R384, R392 to R396) -/

/-- Table 2.4 entry to STO: PRECHECK ends with STO_ACTIVE, one that waits in FAULT_RETRY too (R484), and switching ends. -/
def State.enterSto (s : State) (k : Nat) : State :=
  let st := (s.ax k).st
  if st = .sto then s
  else
    let s := s.endPrecheck k stStoActive
    let s := if s.switching k then s.stopLane k else s
    (s.endEpisode k fun a => { a with started := false, asc := false, forcedOff := false }).moveAxis k .sto

/-- Hold-off applied to cells for a cause, without its consequence for SS1 stops: the cells turn off by two-step
soft-off and E15 is raised (R384, Table 1.8). -/
def State.holdCells (s : State) (cause : Nat) (cells : List Nat) : State :=
  let fresh := cells.filter fun g => !s.heldOff g
  let m := maskOf (bitsOf 13 (tget s.cellar.causes 0 cause) ++ cells)
  let s := { s with cellar := { s.cellar with causes := tset s.cellar.causes cause m } }
  let s := each fresh s fun g s => (s.softOff (hiCh g) false).softOff (loCh g) false
  if fresh.isEmpty then s else s.raiseLine 15

/-- An axis whose cells a hold-off has reached: an SS1 ramp ends in STO, an active short ends (R383, R393). -/
def State.heldAxis (s : State) (k : Nat) : State :=
  if (s.cellsOf k).any fun g => s.heldOff g then
    let a := s.ax k
    if a.st = .stopping ∧ a.stopEnd = .sto then (s.holdCells 1 (s.cellsOf k)).enterSto k
    else if a.asc then s.modAx k fun a => { a with asc := false }
    else s
  else s

/-- An axis runs an SS1 ramp. -/
def State.ss1Runs (s : State) : Bool := (upto 4).any fun k => decide ((s.ax k).st = .stopping) && decide ((s.ax k).stopEnd = .sto)

/-- G12 is held off once no axis still runs an SS1 ramp (R393). -/
def State.ss1Chopper (s : State) : State := if s.cellar.ss1.isSome ∧ ¬ s.ss1Runs then s.holdCells 1 [12] else s

/-- A Cellar hold-off (R384, R395). -/
def State.holdOff (s : State) (cause : Nat) (cells : List Nat) : State :=
  (each (upto 4) (s.holdCells cause cells) fun k s => s.heldAxis k).ss1Chopper

/-- What the house cores do at the end of a full halt (R708). -/
def State.owe (s : State) (l : Late) : State := { s with porch := { s.porch with later := s.porch.later ++ [l] } }

/-- The part of the house cores: at once, or at the end of a full halt (R708). -/
def State.orOwe (s : State) (l : Late) (f : State → State) : State := if s.porch.halt = .full then s.owe l else f s

/-- A cause of hold-off ends for all its cells (R395). -/
def State.dropCause (s : State) (cause : Nat) : State :=
  { s with cellar := { s.cellar with causes := tset s.cellar.causes cause 0 } }

/-! ### Faults (Tables 9.5 and 9.9, R60, R61, R401) -/

/-- RETRY_USED (R401): the tries that started less than 60 s ago. -/
def State.triesUsed (s : State) (k : Nat) : List Nat := recent s.now 60000000000 (s.ax k).tries

/-- Largest |we| of the last 5 ms (R218, R222). -/
def State.wmax (s : State) (k : Nat) : Int :=
  (s.ax k).pos.weHist.foldl (fun m e => if s.now < e.1 + 5000000 then max m (iabs e.2) else m) 0

/-- The choice of SHORT_OR_OFF between active short and two-step soft-off (Table 9.5; R222 for POS_LOST, by the largest |we| of the last
5 ms of estimates or of the catch's measurements). -/
def State.chooseShort (s : State) (k code : Nat) : Bool :=
  let lock := (s.ax k).pos.lockHist.foldl (fun m e => if s.now < e.1 + 5000000 then max m (iabs e.2) else m) 0
  decide (s.hp k P.machine = 0) &&
    (if code = 0x0401 then decide (s.par P.xoverSpeed k ≤ max lock (s.wmax k)) || decide (s.hp k P.posSafe = 1)
     else bit (s.par P.posStatus k) 10)

/-- The switches of an axis follow the safe state of a fault (Table 9.5, R382, R383). An active short begins only
where no SOFT_OFF or HOLD_OFF stands on the axis. -/
def State.applySafe (s : State) (k safe code : Nat) : State :=
  let a := s.ax k
  let s := if safe = 0 then s else s.setPar P.safeStateLast safe k
  if safe = 3 ∨ (safe = 4 ∧ ¬ s.chooseShort k code) then
    (s.axisSoft k).modAx k fun a => { a with asc := false, ascSince := none, forcedOff := true }
  else if safe = 4 then
    if a.forcedOff ∨ (s.cellsOf k).any (fun g => s.heldOff g) then s
    else
      let s := each ((s.cellsOf k).map hiCh) s fun c s => s.turnOff c
      let s := each ((s.cellsOf k).map loCh) s fun c s => s.turnOn c
      s.modAx k fun a => { a with asc := true, ascSince := none }
  else s

/-- An axis ends switching for a fault state; the switches were left as the safe state put them. -/
def State.faultState (s : State) (k : Nat) (st : AxState) : State :=
  let wasPre := (s.ax k).st = .precheck ∨ (s.ax k).precheck.isSome
  let s := if s.switching k then s.stopLane k else s
  let s := if !(s.ax k).asc then s.axisOff k else s
  let s := if wasPre then s.endPrecheckCells k else s
  let s := (s.endEpisode k fun a => { a with started := false }).moveAxis k st
  let s := if st = .faultLatched then s.endOp 0x24 k stFaultActive else s
  if s.cellar.demand then ((s.holdCells 1 (s.cellsOf k)).enterSto k).ss1Chopper else s

/-- The axis is in a stop that a fault began, whose origin is already kept. -/
def Axis.faultStop (a : Axis) : Bool :=
  decide (a.st = .stopping) && (match a.stop with
    | .fault _ _ => true
    | _ => false)

/-- What a retry returns to: the state in which the fault was raised, and the stop it resumes (R63, R64). -/
def Axis.origin (a : Axis) (switching : Bool) : Axis :=
  { a with retryFrom := a.st, resumeKind := a.stop, resumeEnd := a.stopEnd, emgSwitching := switching,
           emgDiag := a.emgDiag || (decide (a.st = .emergency) && a.precheck.isSome) }

/-- An axis enters FAULT_RETRY or FAULT_LATCHED for a fault (Table 2.4, R61, R401). `counted` is false for the
faults that use no try, `pre` true for a fault of an off-state diagnostic, which latches (R397), as does one that meets the stop of a
latching fault. -/
def State.enterFault (s : State) (k : Nat) (retry counted pre : Bool) : State :=
  let a := s.ax k
  let joins : Bool := decide (a.st = .stopping) && (match a.stop with
    | .fault r _ => !r
    | _ => false)
  let latch : Bool := pre || !retry || joins || (counted && (decide (s.sp k P.latchAll = 1) || decide (s.sp k P.faultTries ≤ (s.triesUsed k).length)))
  match a.st with
  | .disabled | .sto | .faultLatched => s
  | .faultRetry => if retry then s else s.faultState k .faultLatched
  | _ =>
    if latch then s.faultState k .faultLatched
    else
      let s := s.modAx k fun a =>
        let b := if a.faultStop then a else a.origin (s.switching k)
        { b with retryAt := s.now, retrySd := false, tries := if counted then s.now :: s.triesUsed k else a.tries }
      s.faultState k .faultRetry

/-- A scout start, one by the catch's paths among them (Table 5.3). -/
def AxPos.scouting (p : AxPos) : Bool := p.proc.scouts || (p.flying && decide (p.proc ≠ .none))

/-- A scout start or catch ends with its switches off, and the lane gives no SEs until the axis starts again (Table 5.7; for a latching
fault DEDUCED, log entry 237). -/
def State.dropProc (s : State) (k : Nat) : State := (((s.axisOff k).stopLane k).endEpisode k id).syncProc k

/-- A fault whose safe state is QSTOP (R283, R381, R401): a moving axis stops first; a latching one ends a scout start or catch; a stop under SS1 or
HOUSE_SILENT keeps its end state; a latching fault joins the end of a fault stop, and a try counts where one of the faults does. -/
def State.quickFault (s : State) (k : Nat) (retry counted : Bool) : State :=
  let s := if !retry && s.switching k && decide ((s.ax k).pos.proc ≠ .none) then s.dropProc k else s
  let a := s.ax k
  if ¬ s.switching k then s.enterFault k retry counted false
  else if a.st = .stopping then
    match a.stop with
    | .ss1 => s
    | .houseSilent => s
    | .fault r c =>
      if r ∧ ¬ retry then s.modAx k fun a => { a with stop := .fault false false, stopEnd := .fault false false }
      else s.modAx k fun a => { a with stop := .fault r (c || (r && counted)), stopEnd := .fault r (c || (r && counted)) }
    | _ => s.modAx k fun a => { a.origin true with stop := .fault retry counted, stopEnd := .fault retry counted }
  else
    (s.modAx k fun a => { a.origin (s.switching k) with stop := .fault retry counted, stopEnd := .fault retry counted, speed := { a.speed with zeroSince := none } }).moveAxis k .stopping

/-- The transition of Table 9.9's Axis state column. -/
def State.react (s : State) (k : Nat) (r : React) (pre : Bool) : State :=
  if pre then s.enterFault k false false true
  else match r with
  | .unchanged => s
  | .latch => s.enterFault k false false false
  | .retry => s.enterFault k true true false
  | .retryFree => s.enterFault k true false false
  | .qLatch => s.quickFault k false false
  | .qRetry => s.quickFault k true true
  | .qRetryFree => s.quickFault k true false

/-- The rank of a reaction in Table 2.5; 0 for one that moves no axis. -/
def React.rank : React → Nat
  | .unchanged => 0
  | .latch | .qLatch => 2
  | .retry | .retryFree | .qRetry | .qRetryFree => 3

/-- The trigger of a reaction in its period: none for a reaction that moves no axis. -/
def State.arbReact (s : State) (k : Nat) (r : React) (pre : Bool) : State × Bool :=
  let q := if pre then 2 else r.rank
  if q = 0 then (s, true) else s.arb k q

/-- A fault of one axis recorded and reported: AXIS_FAULT takes its code, and it stands (R404). -/
def State.enterRecord (s : State) (code k inst safe : Nat) (path : String) (pre : Bool) : State :=
  let s := s.report code k safe path
  let s := s.setPar P.axisFault code k
  s.stand ⟨code, k, path, pre, inst, s.now, none, safe⟩

/-- A fault raised on one axis: record and report, AXIS_FAULT, safe state, transition (R404). A fault that a higher trigger of the
same period discards moves no axis; it is recorded where it latches, and where it meets a latching one (R60, Table 9.10). -/
def State.raiseOn (s : State) (code k inst : Nat) (path : String) (hard : Bool := true) (pre : Bool := false) : State :=
  let (safe, r) := faultRow code hard
  let t := s.arbReact k r pre
  let s := t.1
  let meets : Bool := ((s.ax k).turn.map Turn.rank) == some 2
  let s := if t.2 || pre || decide (r.rank = 2) || meets then s.enterRecord code k inst safe path pre else s
  let before := (s.ax k).st
  let s := s.applySafe k safe code
  let s := if t.2 then s.react k r pre else s
  s.markLatched ((s.ax k).st = .faultLatched && before ≠ .faultLatched)

/-- A fault raised on several axes; recorded with a module subject where there is none. -/
def State.raiseAll (s : State) (code : Nat) (ks : List Nat) (inst : Nat) (path : String) (hard : Bool := true) : State :=
  match ks with
  | [] => (s.report code 0xFF (faultRow code hard).1 path).stand ⟨code, 255, path, false, inst, s.now, none, (faultRow code hard).1⟩
  | ks => ks.foldl (fun s k => s.raiseOn code k inst path hard) s

/-- A fault of the whole module with no axis reaction of its own. -/
def State.raiseModule (s : State) (code inst : Nat) (path : String) : State :=
  (s.report code 0xFF (faultRow code true).1 path).stand ⟨code, 255, path, false, inst, s.now, none, (faultRow code true).1⟩

/-- The clear condition of a standing fault (Table 9.9); `true` where the condition has no dwell and holds now. A fault
whose condition needs a dwell clears only by its own event. -/
def State.clearNow (s : State) (f : Standing) : Bool :=
  let ocFree : Bool :=
    if f.axis < 4 then (upto 4).all fun b => !(decide (s.axisOfBridge b = some f.axis)) || !(s.bridge b).oc else !(s.bridge f.inst).oc
  if f.pre then true
  else match f.code with
  | 0x0101 => !(s.chan f.inst).on
  | 0x0102 => (cellsOfBridge f.inst).all fun g => decide (s.gp g P.bootWarn ≤ s.par P.bootV g)
  | 0x0103 => true
  | 0x0104 => !(s.chan f.inst).on
  | 0x0201 => decide (s.par P.laneRole (s.laneOf f.axis) ≠ 3)
  | 0x0202 => decide (s.par P.laneRole (s.laneOf f.axis) ≠ 3)
  | 0x0204 => decide (s.par P.balDev f.axis < s.hp f.axis P.balTrip)
  | 0x0206 => true
  | 0x0301 => ocFree
  | 0x0302 => (s.bridgesOf f.axis).all fun b => (upto 3).all fun x => !(bit (s.par P.sdFaults) (3 * b + x))
  | 0x0303 => true
  | 0x0305 => (s.bridge f.inst).refRun.all fun n => decide (n = 0)
  | 0x0401 => true | 0x0402 => true
  | 0x0703 => !s.ring.dup
  | 0x0602 => decide (s.par P.i2tMotLvl f.axis < 800)
  | 0x0603 => decide (s.par P.i2tSwLvl f.axis < 800)
  | 0x0605 => decide (s.par P.linkV f.inst < s.lp f.inst P.ovLimStart)
  | 0x0606 => decide (s.lp f.inst P.uvLimStart ≤ s.par P.linkV f.inst)
  | 0x0801 => decide (tget s.cellar.causes 0 3 = 0)
  | 0x0802 => decide (s.par P.thCold ≠ 2)
  | 0x0902 => ocFree
  | 0x0205 => true | 0x0403 => true | 0x0501 => true | 0x0601 => true | 0x0701 => true
  | 0x0107 => true | 0x0108 => true | 0x0109 => true | 0x010A => true | 0x010B => true
  | _ => false

/-- The dwell of a standing fault's clear condition starts, or is broken. -/
def State.clearing (s : State) (code inst : Nat) (ok : Bool) : State :=
  { s with standing := s.standing.map fun f => if f.code = code ∧ f.inst = inst then { f with okSince := if ok then some (f.okSince.getD s.now) else none } else f }

/-- Faults that stand on an axis and keep it from returning (R61, R402): those whose reaction moved the axis. -/
def State.blocking (s : State) (k : Nat) : List Standing :=
  s.standing.filter fun f => decide (f.axis = k) && (f.pre || decide ((faultRow f.code true).2 ≠ .unchanged))

/-- The causes of every fault standing on an axis have cleared (R61). -/
def State.causesClear (s : State) (k : Nat) : Bool := (s.blocking k).all fun f => s.clearNow f

/-- Channels that no fault keeps in soft-off any more (R380). -/
def State.freeChans (s : State) (cs : List Nat) : State :=
  each cs s fun c s => s.setChan c { s.chan c with softSeen := false, softLatch := false, desat := false }

/-- The standing faults of an axis end, and its channels' soft-off latches and desaturation marks with them. -/
def State.clearAxis (s : State) (k : Nat) : State :=
  let s := (s.blocking k).foldl (fun s f => s.unstand f) s
  (s.freeChans (s.chansOf k)).modAx k fun a => { a with forcedOff := false }

/-- The channels that a fault without an axis has turned off (Table 9.9): on a bridge that no axis owns, or of the choppers. -/
def Standing.chans (f : Standing) : List Nat :=
  match f.code with
  | 0x0101 | 0x0104 | 0x0105 => [f.inst]
  | 0x0106 => [hiCh f.inst, loCh f.inst]
  | 0x0102 | 0x0103 | 0x0301 | 0x0302 | 0x0902 => chansOfBridge f.inst
  | _ => []

/-- What is left of a fault that has ended: nothing keeps the switches off where no other fault stands on its axis, or it has none. -/
def State.freed (s : State) (f : Standing) : State :=
  if f.axis < 4 then
    if (s.blocking f.axis).isEmpty ∧ (s.ax f.axis).st ≠ .faultRetry ∧ (s.ax f.axis).st ≠ .faultLatched then s.clearAxis f.axis else s
  else s.freeChans f.chans

/-- A fault of a code and instance that stands on an axis which it has not moved, or on none, ends as soon as its clear condition holds
(Table 9.9; DEDUCED, log entry 215). -/
def State.idleClear (s : State) (code inst : Nat) : State :=
  let moved (k : Nat) : Bool := decide (k < 4) && (decide ((s.ax k).st = .faultRetry) || decide ((s.ax k).st = .faultLatched) || (s.ax k).faultStop)
  (s.standing.filter fun f => decide (f.code = code) && decide (f.inst = inst) && s.clearNow f && !moved f.axis).foldl (fun s f =>
    (s.unstand f).freed f) s

/-- A fault of a code can be raised on an axis: it does not stand there, or it stands since the axis was in a state that it could not
move. -/
def State.raisable (s : State) (code k : Nat) : Bool :=
  !(s.standing.any fun f => decide (f.code = code) && decide (f.axis = k)) ||
    (match (s.ax k).st with
     | .disabled | .sto | .faultRetry | .faultLatched => false
     | _ => true)

/-- The STO end of Table 2.4 with hold-off of the axis's cells (R393). -/
def State.stoEnd (s : State) (k : Nat) : State :=
  ((s.holdCells 1 (s.cellsOf k)).enterSto k).ss1Chopper

/-- A stop ends at standstill (R284): the end state its cause gives (R283). -/
def State.endStop (s : State) (k : Nat) : State :=
  let s := s.settle k
  match (s.ax k).stopEnd with
  | .ready => s.toIdle k .ready
  | .disabled => s.toIdle k .disabled
  | .sto => s.stoEnd k
  | .fault r c => (s.axisOff k).enterFault k r c false

/-- A stop begins or takes over (R283): ramp by its kind, end state as given. -/
def State.beginStop (s : State) (k : Nat) (kind : StopKind) (fin : StopEnd) : State :=
  let s := s.modAx k fun a => { a with stop := kind, stopEnd := fin,
                                       speed := { a.speed with zeroSince := if a.st = .stopping then a.speed.zeroSince else none } }
  if (s.ax k).st = .stopping then s else s.moveAxis k .stopping

/-- The time below ZERO_SPEED or in standstill without a break, in STOPPING (R284). -/
def State.zeroTrack (s : State) (k : Nat) : State :=
  let still := bit (s.par P.posStatus k) 1 || decide (iabs (s.par P.posSpeed k) < s.sp k P.zeroSpeed)
  s.modAx k fun a =>
    { a with speed := { a.speed with zeroSince := if decide (a.st = .stopping) && still then some (a.speed.zeroSince.getD s.now) else none } }

end Sys2Proof.Machine
end

