-- ==== Sys2Proof/Machine/Stores.lean ====
section
/-!
DEFINITION. How the two stores read: the generations of the Attic (R507 to R515, Table 12.7), and the wings of the FLASH die
with their headers (R661 to R665, Table 17.1).
-/
namespace Sys2Proof.Machine

/-! ### Attic -/

/-- Generation g + 1 of a slot as the last BOOT found it (R514). -/
def State.bootGen (s : State) (slot g : Nat) : Gen := tget s.attic.bootGens {} (8 * slot + g)

/-- Generation g (1 to 8) of a slot. -/
def State.gen (s : State) (slot g : Nat) : Gen := tget s.attic.gens {} (8 * slot + g - 1)
def State.setGen (s : State) (slot g : Nat) (x : Gen) : State :=
  { s with attic := { s.attic with gens := tset s.attic.gens (8 * slot + g - 1) x } }

/-- The generations of a slot in a state, in ascending order. -/
def State.gensIn (s : State) (slot st : Nat) : List Nat :=
  ((upto 8).map (· + 1)).filter fun g => decide ((s.gen slot g).state = st)

/-- The newest valid generation of a slot, 0 where there is none. -/
def State.newestGen (s : State) (slot : Nat) : Nat := (s.gensIn slot 1).foldl (fun m g => max m g) 0

/-- The lowest erased generation, if any is left (R511, R512). -/
def State.erasedGen (s : State) (slot : Nat) : Option Nat := (s.gensIn slot 0).head?

/-- Value of a slot in force since the last BOOT; a slot with no valid generation reads its erased value (R509, Table 2.7). -/
def State.slot (s : State) (k : Nat) : Nat := tget s.attic.mirror 0 k

/-- Bits hi:lo of a value. -/
def bitField (v hi lo : Nat) : Nat := v / 2 ^ lo % 2 ^ (hi - lo + 1)

/-- The bytes of key Kk (Table 12.7), and whether it is provisioned (R515). -/
def State.keyBytes (s : State) (k : Nat) : Bytes := (upto 4).flatMap fun m => leBytes 8 (s.slot (48 + 4 * k + m))
def State.keyProv (s : State) (k : Nat) : Bool :=
  ((upto 4).all fun m => s.attic.inForce.contains (48 + 4 * k + m)) && (upto 4).any fun m => decide (s.slot (48 + 4 * k + m) ≠ 0)

/-! ### Wings -/

/-- Bytes of a wing, and the offset of its header in IMAGE_LOAD (R661). -/
def wingSize : Nat := 0x600000

def State.wing (s : State) (w : Nat) : Wing := tget s.service.wings {} w
def State.setWing (s : State) (w : Nat) (x : Wing) : State := { s with service := { s.service with wings := tset s.service.wings w x } }

/-- A byte of a wing, and of its header: what was programmed, 0xFF where erased, the factory's before the first erase. -/
def State.wingByte (s : State) (w off : Nat) : Byte :=
  let x := s.wing w
  if x.factory then Config.wingByte w off else memGet 0xFF#8 x.cells off
def State.wingHeader (s : State) (w : Nat) : Bytes :=
  let x := s.wing w
  (upto 64).map fun i => if x.factory then Config.wingHeader w i else memGet 0xFF#8 x.header i

/-- CRC-32C register fed with the n bytes of a wing from an offset. -/
def State.wingCrcGo (s : State) (w : Nat) : Nat → Nat → Nat → Nat
  | 0, _, c => c
  | n + 1, off, c => s.wingCrcGo w n (off + 1) (crcByte c (s.wingByte w off))

/-- CRC-32C over the first n bytes of a wing. -/
def State.wingCrc (s : State) (w n : Nat) : Nat := Nat.xor (s.wingCrcGo w n 0 0xFFFFFFFF) 0xFFFFFFFF

/-- Fields of a wing header (Table 17.1). -/
def State.wingVersion (s : State) (w : Nat) : Nat := field (s.wingHeader w) 8 4
def State.wingCkpt (s : State) (w : Nat) : Nat := field (s.wingHeader w) 6 2
def State.wingLen (s : State) (w : Nat) : Nat := field (s.wingHeader w) 12 4

/-- A header is valid (R665). -/
def State.headerValid (s : State) (w : Nat) : Bool :=
  let h := s.wingHeader w
  let n := field h 12 4
  decide (field h 0 4 = 0x474E4957) && decide (field h 4 2 = 0x0100) && decide (field h 0x3C 4 = crc32c (h.take 0x3C)) &&
    decide (16 ≤ n ∧ n ≤ wingSize ∧ n % 16 = 0) && decide (field h 0x18 2 ≤ Config.hwRev.toNat) &&
    ((h.drop 0x1A).take 0x22).all fun b => decide (b = 0#8)

/-- The minimum image version of Attic slot 4 (R74). -/
def State.versionOk (s : State) (w : Nat) : Bool := decide (bitField (s.slot 4) 31 0 ≤ s.wingVersion w)

/-- The image CRC matches; WING_CRC over the whole wing matches (R74, R666). -/
def State.imageOk (s : State) (w : Nat) : Bool := decide (s.wingCrc w (s.wingLen w) = field (s.wingHeader w) 0x10 4)
def State.wholeOk (s : State) (w : Nat) : Bool := decide (s.wingCrc w wingSize = field (s.wingHeader w) 0x14 4)

/-! ### House-core pairs -/

def State.pair (s : State) (p : Nat) : Pair := if p = 0 then s.dev.pairA else s.dev.pairB
def State.setPair (s : State) (p : Nat) (x : Pair) : State :=
  if p = 0 then { s with dev := { s.dev with pairA := x } } else { s with dev := { s.dev with pairB := x } }

/-- The active pair and the standby pair. -/
def State.active (s : State) : Nat := s.parN P.activePair
def State.standby (s : State) : Nat := 1 - s.active

/-- The standby pair is live and synchronised. -/
def State.standbyOk (s : State) : Bool := (s.pair s.standby).live && (s.pair s.standby).synced

/-- The boot loader runs (R77). -/
def State.loader (s : State) : Bool := decide (s.dev.st = .boot) && decide (s.dev.step = .loader)

/-- Commands are served: by the firmware or by the boot loader. -/
def State.serving (s : State) : Bool := s.firmware || (s.loader && decide (s.porch.halt ≠ .full))

/-- The time the house-core timers see: it stands still in a full halt (R696). -/
def State.houseNow (s : State) : Nat := if s.porch.halt = .full then s.porch.haltAt else s.now

end Sys2Proof.Machine
end

