-- ==== Sys2Proof/Machine/Comb.lean ====
section
/-!
DEFINITION. Frame times, Comb windows, and which frame of a port's queue may start (R529, R542, R544, R545, R554, R591 to R597).
-/
namespace Sys2Proof.Machine

/-! ### Bit and frame times (R529) -/

/-- CLK_BUS cycles of a nominal and of a data bit. -/
def State.nomBit (s : State) (p : Nat) : Nat := s.parN P.nbrp p * (1 + s.parN P.ntseg1 p + s.parN P.ntseg2 p)
def State.dataBit (s : State) (p : Nat) : Nat := s.parN P.dbrp p * (1 + s.parN P.dtseg1 p + s.parN P.dtseg2 p)

/-- The module is in degraded clock mode (Table 2.9). -/
def State.degraded (s : State) : Bool := bit (s.par P.clkStatus) 0

/-- Frames are sent with bit-rate switching (R528). -/
def State.brs (s : State) (p : Nat) : Bool := decide (s.par P.brsEn p = 1) && !s.degraded

/-- The same of a frame whose transmission began at a time in half nanoseconds (Table 13.6). -/
def State.brsFrom (s : State) (p : Nat) (h : Int) : Bool :=
  decide (s.par P.brsEn p = 1) && !(s.degraded && decide (2 * (s.swarm.degradedAt : Int) ≤ h))

/-- CLK_BUS cycles of an FD frame with a 29-bit identifier under worst-case stuffing (ISO 11898-1, PRESUMED): 35 bits up to the
BRS bit and 10 after the CRC in the nominal phase, the rest in the data phase. -/
def State.frameCycles (s : State) (p n : Nat) : Nat :=
  let head := 35 + 8
  let body := 5 + 8 * n
  let crc := if n ≤ 16 then 21 + 6 else 25 + 7
  let fast := if s.brs p then s.dataBit p else s.nomBit p
  (head + 10) * s.nomBit p + (body + (body + 3) / 4 + crc) * fast

/-- 2^-16 µs of a number of CLK_BUS cycles, rounded up. -/
def unitsOfCycles (c : Nat) : Int := (c * 65536 + 79) / 80

/-! ### Windows (R591, R592) -/

/-- Basic cycle since time 0, and window, of a swarm time in 2^-16 µs. -/
def State.windowAt (s : State) (v : Int) : Nat × Nat :=
  let into := v % s.cycleUnits
  let ws := (upto (s.parN P.combWindows)).filter fun w => decide (s.par P.winStart w * 65536 ≤ into)
  (s.cycleAt v, ws.getLastD 0)

/-- End of a window within its basic cycle, in 2^-16 µs. -/
def State.windowEnd (s : State) (w : Nat) : Int :=
  if w + 1 < s.parN P.combWindows then s.par P.winStart (w + 1) * 65536 else s.cycleUnits

/-- A frame was in its port's queue at the start of a window (Table 14.5, Table 14.6). -/
def State.atStart (s : State) (f : TxFrame) (c w : Nat) : Bool :=
  decide (s.swarmAt (2 * f.at_) ≤ c * s.cycleUnits + s.par P.winStart w * 65536)

/-- WIN_CELL of a basic cycle and window: TYPE, OWN and SLOT (Table 14.4). -/
def State.cellOf (s : State) (c w : Nat) : Nat := s.parN P.winCell (c % (max 1 (s.parN P.combCycles))) w
def cellType (v : Nat) : Nat := v / 64
def cellOwn (v : Nat) : Bool := v / 16 % 2 = 1
def cellSlot (v : Nat) : Nat := v % 16

/-- Identifier of an enabled EXCL_ID entry. -/
def State.exclOf (s : State) (k : Nat) : Option Nat :=
  let v := s.parN P.exclId k
  if 0x80000000 ≤ v then some (v % 0x20000000) else none

/-! ### What may start -/

/-- A frame of a port's queue may start at a time in half nanoseconds, by the Comb of the port. The rules of the Comb bear on every
frame of the queue. -/
def State.combAllows (s : State) (p : Nat) (f : TxFrame) (len : Nat) (h : Int) : Bool :=
  let emerg := decide (idClass f.id = 0)
  match s.combState p with
  | 0 => true
  | 4 => emerg || decide (idClass f.id = 3)
  | 1 =>
    let v := s.swarmAt h
    let (c, w) := s.windowAt v
    let cell := s.cellOf c w
    let fits := decide (v % s.cycleUnits + unitsOfCycles (s.frameCycles p len) ≤ s.windowEnd w)
    let here := match (s.sb p).win with
      | some x => decide (x.cycle = c) && decide (x.window = w)
      | none => false
    let used := here && (match (s.sb p).win with | some x => x.used | none => false)
    let once := !(here && (s.sb p).tried.contains f.id)
    match cellType cell with
    | 0 => fits && !((upto 16).any fun k => decide (s.exclOf k = some f.id))
    | 2 => f.own && decide (idClass f.id = 1) && once
    | 1 => once && (emerg || (cellOwn cell && decide (s.exclOf (cellSlot cell) = some f.id) && s.atStart f c w && !used && fits))
    | _ => once && emerg
  | 2 => !(s.swarm.pendingSet.isSome || s.swarm.stepWait) || emerg
  | _ => emerg

/-- A frame of a port's queue may start at a time in half nanoseconds. -/
def State.mayStart (s : State) (p : Nat) (f : TxFrame) (len : Nat) (h : Int) : Bool :=
  (decide (s.par P.sbState p = 2) || decide (s.par P.sbState p = 3)) &&
  decide (2 * (f.at_ : Int) ≤ h) &&
  (match f.endAt with | some e => decide (h < 2 * (e : Int)) | none => true) &&
  (!f.own || decide (idClass f.id = 3) || decide (s.par P.addrState = 2)) &&
  !(s.swarm.barred.contains f.id) &&
  s.combAllows p f len h

/-- Data of a queued frame. -/
def State.frameData (s : State) (p tag : Nat) : Bytes :=
  match (s.queue (8 + p)).find? fun e => decide (e.tag = tag) with
  | some e => e.data
  | none => []

/-- The frame a port offers at a time: the lowest identifier, the oldest among equals (R542). -/
def State.offered (s : State) (p : Nat) (h : Int) : Option TxFrame :=
  ((s.sb p).frames.filter fun f => s.mayStart p f (s.frameData p f.tag).length h).foldl
    (fun m f => match m with
      | none => some f
      | some g => if f.id < g.id then some f else m) none

/-- An exclusive frame of the window, queued at its start, waits at a port. -/
def State.exclWaits (s : State) (p c w : Nat) : Bool :=
  let cell := s.cellOf c w
  cellType cell = 1 && cellOwn cell &&
    ((s.sb p).frames.any fun f => decide (s.exclOf (cellSlot cell) = some f.id) && s.atStart f c w)

/-- The exclusive frame of the window that ends was queued and not started (R593). -/
def State.closeWindow (s : State) (p : Nat) : State :=
  match (s.sb p).win with
  | some x => if ¬ x.used ∧ s.exclWaits p x.cycle x.window then s.incPar P.exclMissed else s
  | none => s

/-- The window of a start noted at a port: whether its exclusive frame was started, and a frame not to be tried in it again. An
EMERGENCY frame that was queued at the window's start with it makes the exclusive frame miss the window (Table 14.6). -/
def State.noteStart (s : State) (p : Nat) (f : TxFrame) (h : Int) : State :=
  if s.combState p ≠ 1 then s
  else
    let (c, w) := s.windowAt (s.swarmAt h)
    let cell := s.cellOf c w
    let x := s.sb p
    let same := match x.win with
      | some y => decide (y.cycle = c) && decide (y.window = w)
      | none => false
    let older : Bool := match x.win with
      | some y => decide (c < y.cycle) || (decide (c = y.cycle) && decide (w < y.window))
      | none => false
    if cellType cell = 0 ∨ older then s
    else
      let s := if same then s else s.closeWindow p
      let was := same && (match x.win with | some y => y.used | none => false)
      let excl := cellType cell = 1 && cellOwn cell && decide (s.exclOf (cellSlot cell) = some f.id)
      let misses := !was && !excl && decide (idClass f.id = 0) && s.atStart f c w && s.exclWaits p c w
      let s := s.setSb p { x with win := some ⟨c, w, was || excl || misses⟩, tried := f.id :: (if same then x.tried else []) }
      if misses then s.incPar P.exclMissed else s

/-- COMB_WINDOW_START (R592). -/
def combWindowStart (p : Nat) (s : State) : State :=
  if 4 ≤ p ∨ s.combState p ≠ 1 then s
  else
    let (c, w) := s.windowAt s.swarmNow
    let same := match (s.sb p).win with
      | some x => decide (x.cycle = c) && decide (x.window = w)
      | none => false
    if same then s
    else
      let s := s.closeWindow p
      s.setSb p { s.sb p with win := some ⟨c, w, false⟩, tried := [] }

/-- COMB_WAIT_END (R595). -/
def combWaitEnd (p : Nat) (s : State) : State :=
  if p < 4 ∧ s.combState p = 4 ∧ (s.sb p).enabledAt + s.parN P.holdoverMax * 1000000 ≤ s.now then
    s.setSb p { s.sb p with suspended := true }
  else s

/-- A matrix that an owner write of COMB_EN with bit p may start (R598). -/
def State.combValid (s : State) (p : Nat) : Bool :=
  let n := s.parN P.combWindows
  let ncyc := s.parN P.combCycles
  decide (s.par P.winStart 0 = 0) &&
  ((upto (n - 1)).all fun w => decide (s.par P.winStart w < s.par P.winStart (w + 1))) &&
  decide (s.par P.winStart (n - 1) < s.par P.cycleLen) &&
  ((upto ncyc).all fun c => (upto n).all fun w => decide (cellType (s.cellOf c w) = 2) == decide (w = 0)) &&
  decide (unitsOfCycles (s.frameCycles p 20) ≤ s.windowEnd 0) &&
  [1, 2, 4, 8, 16].contains ncyc &&
  ((upto ncyc).all fun c => (upto n).all fun w =>
    let v := s.cellOf c w
    !(decide (cellType v = 1) && cellOwn v) || (s.exclOf (cellSlot v)).isSome)

end Sys2Proof.Machine
end

