-- ==== Sys2Proof/Machine/RingPort.lean ====
section
/-!
DEFINITION. The ports, the parameters in effect and the time of the share ring (R319 to R322, R329, R336, R349, R353, R357).
-/
namespace Sys2Proof.Machine

/-! ### Parameters in effect (R359) -/

/-- A ring parameter as the last cycle start took it. -/
def State.rp (s : State) (p : Par) : Int := tget s.ring.cfg (p.dflt.value 0 0) (p.pn 0 0)
def State.rpN (s : State) (p : Par) : Nat := (s.rp p).toNat

/-- The ring parameters are taken (R359). -/
def State.ringTake (s : State) : State :=
  { s with ring := { s.ring with cfg := s.params.filter fun e => decide (0x9000 ≤ e.1) && decide (e.1 < 0x9020) } }

/-- Own member number. -/
def State.member (s : State) : Nat := s.parN P.hiveMember

/-- This member is cycle master. -/
def State.isCycleMaster (s : State) : Bool := decide (s.parN P.cycleMaster = s.member)

/-- Torque is shared over the ring: modes 1 and 3 (Table 8.8). -/
def State.shares (s : State) : Bool := decide (s.rp P.shareMode = 1) || decide (s.rp P.shareMode = 3)

/-! ### Ports -/

def State.rport (s : State) (p : Nat) : RingPort := if p = 0 then s.ring.left else s.ring.right
def State.setRport (s : State) (p : Nat) (x : RingPort) : State :=
  if p = 0 then { s with ring := { s.ring with left := x } } else { s with ring := { s.ring with right := x } }

/-- Location path of a port (R657). -/
def ringPath (p : Nat) : String := "CTL/RING/" ++ dec p

/-- A HIVE event notification (Table 11.13). -/
def State.hiveEvent (s : State) (pos subj : Nat) : State :=
  s.notify 6 pos subj (leBytes 4 s.ring.cycle ++ leBytes 2 (s.parN P.liveMask) ++ leBytes 1 (s.parN P.torqueMaster))

/-- The ports have both been down since now, or not (R352). -/
def State.portsTrack (s : State) : State :=
  let down := s.ring.on && !s.ring.left.up && !s.ring.right.up
  { s with ring := { s.ring with bothDownAt := if down then some (s.ring.bothDownAt.getD s.now) else none } }

/-- The pair in use: pair 0 while it is up, else pair 1. Each change counts, whether or not the port is up (R320). -/
def State.choosePair (s : State) (p : Nat) : State :=
  let x := s.rport p
  let want := !x.pair0
  if ¬ (x.pair0 || x.pair1) then s
  else
    let s := s.setRport p { x with onPair1 := want, used := true }
    if x.used ∧ x.onPair1 ≠ want then (s.incPar P.pairSwitches).hiveEvent 4 p else s

/-- A port goes down: it stops transmitting and its member folds there (R322, R349). -/
def State.portDown (s : State) (p : Nat) : State :=
  let x := s.rport p
  if x.up then
    let s := s.setRport p { x with up := false, ready := false, fold := true, foldAt := if x.fold then x.foldAt else s.now, delays := [],
                                   neighbour := none, reqOut := false }
    let s := if x.fold then s else (s.incPar P.foldCount).hiveEvent 2 p
    s.portsTrack
  else s

/-- A port comes up (R321, R322), but not in degraded mode (Table 2.9); RING_LOST ends. -/
def State.portUp (s : State) (p : Nat) : State :=
  let x := s.rport p
  if x.up ∨ x.foreign.isSome ∨ ¬ (x.pair0 || x.pair1) ∨ bit (s.par P.clkStatus) 0 then s
  else
    let s := (s.setRport p { x with up := true, upAt := s.now }).portsTrack
    let s := if s.ring.lost then s.unstandCode 0x0705 0 else s
    { s with ring := { s.ring with lost := false } }.hiveSync s.hiveAx

/-- Both receive pairs of a port as the silence of its neighbour, or of this module's own loss of clock, leaves them. -/
def State.ringSilence (s : State) : State :=
  each [0, 1] s fun p s => (s.setRport p { s.rport p with pair0 := false, pair1 := false, down0 := s.now, down1 := s.now }).portDown p

/-! ### HIVE_TIME (R336) -/

/-- HIVE_TIME in ps, and as the parameter reports it. -/
def State.hivePs (s : State) : Int := if s.ring.on then (s.now : Int) * 1000 + s.ring.ofs else 0
def State.hiveTime (s : State) : Nat := unsigned 64 (s.hivePs / 1000)

/-- The carrier lock acts (R339). -/
def State.pwmLocked (s : State) : Bool :=
  s.ring.on && decide (s.rp P.hivePwmLock = 1) && bit (s.par P.ringStatus) 7 && (s.lane (s.laneOf s.hiveAx)).running

/-- RING_STATUS (Table 8.12). -/
def State.ringStatus (s : State) : Nat :=
  let r := s.ring
  if ¬ r.on then 0
  else ofBits [r.left.up, r.right.up, r.left.up && r.left.onPair1, r.right.up && r.right.onPair1, r.left.fold, r.right.fold, r.trayFolded,
    bit (s.par P.ringStatus) 7, r.minority, r.held, r.fallback, s.pwmLocked]

/-- HIVE_EN takes effect with 1 (R353): cold ring, idle on both ports, HIVE_TIME from 0. That the member has left since BOOT stays known
(R354). -/
def State.hiveStart (s : State) : State :=
  let p : RingPort := { down0 := s.now, down1 := s.now }
  let s := { s with ring := { on := true, left := p, right := p, ofs := -((s.now : Int) * 1000), headerAt := s.now, stateAt := s.now, bothDownAt := some s.now,
                                  hasLeft := s.ring.hasLeft } }
  ((((s.setPar P.hiveState 0).setPar P.ringStatus 0).setPar P.cycleMaster 0xFF).setPar P.torqueMaster 0xFF).ringTake

/-- HIVE_EN takes effect with 0: the ports are open ("Lands, pins and supply"), and the member is absent. -/
def State.hiveStop (s : State) : State :=
  let s := (s.unstandCode 0x0705 0).unstandCode 0x0704 0
  let s := { s with ring := { hasLeft := s.ring.hasLeft } }
  ((((s.setPar P.hiveState 0).setPar P.ringStatus 0).setPar P.cycleMaster 0xFF).setPar P.torqueMaster 0xFF).setPar P.liveMask 0 |>.setPar P.contribMask 0

/-- HIVE_EN in effect follows the parameter. -/
def State.hiveEffect (s : State) : State :=
  let want := decide (s.par P.hiveEn = 1)
  if want = s.ring.on then s else if want then s.hiveStart else s.hiveStop

end Sys2Proof.Machine
end

