-- ==== Sys2Proof/Machine/Time.lean ====
section
/-!
DEFINITION. Swarm time: references, delay messages, following, election, relays (R568 to R590, R600, R601).
-/
namespace Sys2Proof.Machine

/-! ### The clock (R568, R579) -/

/-- The clock continued from now with a step in 2^-16 µs and a rate correction. -/
def State.clockSet (s : State) (value rate : Int) : State :=
  let s := { s with swarm := { s.swarm with base := value, baseAt := s.now, rate := rate } }
  s.setPar P.timeRate rate

/-- After a set or step: no cycle start, second or window of the old time is left (R596). -/
def State.clockJump (s : State) : State :=
  let v := s.swarmNow
  let s := { s with swarm := { s.swarm with cycleNo := s.cycleAt v, second := (v / 65536000000).toNat } }
  each (upto 4) s fun p s => s.setSb p { s.sb p with win := none, tried := [] }

/-- Time becomes valid: the Comb of every port may run (R594, R595). -/
def State.timeBegins (s : State) : State :=
  let s := { s with swarm := { s.swarm with everValid := true } }
  let s := each (upto 4) s fun k s => s.setBit P.coldFlags 5 false k
  each (upto 4) s fun p s => s.setSb p { s.sb p with suspended := false }

/-- TIME_STATE set. -/
def State.setTimeState (s : State) (v : Nat) : State := s.setPar P.timeState v

/-- TIME_MASTER set, with its event on a change (R586, Table 14.7). -/
def State.setMaster (s : State) (m rank : Nat) : State :=
  let old := s.parN P.timeMaster
  if old = m then s
  else (s.setPar P.timeMaster m).busEvent 7 0xFF (leBytes 2 old ++ leBytes 2 m ++ leBytes 1 rank ++ leBytes 1 (s.parN P.timeState))

/-! ### Keys (R578, R583) -/

/-- Order of keys: rank, hops, source. -/
def keyLt (a b : Nat × Nat × Nat) : Bool :=
  decide (a.1 < b.1) || (decide (a.1 = b.1) && (decide (a.2.1 < b.2.1) || (decide (a.2.1 = b.2.1) && decide (a.2.2 < b.2.2))))

def TimeRef.key (r : TimeRef) : Nat × Nat × Nat := (r.rank, r.hops, r.source)

/-- The address held, and the own key as a master. -/
def State.held (s : State) : Bool := decide (s.par P.addrState = 2)
def State.ownKey (s : State) : Nat × Nat × Nat := (s.parN P.tmRank, 0, s.parN P.addrHeld)

/-- A potential master (R583). -/
def State.potential (s : State) : Bool :=
  decide (1 ≤ s.par P.tmRank) && decide (s.par P.tmRank ≤ 8) && s.held && !s.degraded

/-- ns of a number of basic cycles. -/
def State.cyclesNs (s : State) (n : Nat) : Nat := n * s.parN P.cycleLen * 1000

/-- The reference followed: the best key of the last 3 basic cycles. -/
def State.followed (s : State) : Option TimeRef :=
  (s.swarm.refs.filter fun r => decide (s.now < r.at_ + s.cyclesNs 3 + 1)).foldl
    (fun m r => match m with
      | none => some r
      | some g => if keyLt r.key g.key then some r else m) none

/-! ### References sent (R573, R574, R589, R590) -/

/-- COMB_ID in effect. -/
def State.combIdNow (s : State) : Nat := s.swarm.combId.getD (s.parN P.combId)

/-- The key a relay sends: rank of the master and hops one above its source's (R589). -/
def State.relayKey (s : State) : Nat × Nat × Nat :=
  if s.par P.timeState = 4 then (s.parN P.tmRank, 1, s.parN P.addrHeld)
  else match s.followed with
    | some r => (r.rank, r.hops + 1, s.parN P.addrHeld)
    | none => (s.swarm.refs.foldl (fun a r => min a r.rank) 8, s.parN P.timeHops + 1, s.parN P.addrHeld)

/-- The segment time comes from. -/
def State.upSegment (s : State) : Nat :=
  if s.par P.timeState = 4 then s.parN P.addrHeld / 128 else s.parN P.sbSegment s.swarm.upstream

/-- The module relays time on a port (R552, R587, R589). -/
def State.relaysOn (s : State) (q : Nat) : Bool :=
  let st := s.par P.timeState
  bit (s.par P.relayMask) q && s.sbOn q && decide (s.parN P.sbSegment q ≠ s.upSegment) && s.held &&
    (decide (st = 2) || decide (st = 3) || decide (st = 4)) && !s.swarm.relayBarred && s.pairServes q

/-- One reference queued on a port. -/
def State.sendRef (s : State) (p : Nat) (relay : Bool) (key : Nat × Nat × Nat) : State :=
  if s.sbOff p then s.incPar P.refMissed
  else
    let x := s.sb p
    let id := swarmId 1 1 (s.parN P.addrHeld) (key.1 - 1 + (if relay then 8 else 0))
    let flags := 2 * ofBits [relay && decide (s.par P.timeState = 3), decide (s.combState p = 1), decide (0 < s.swarm.stepped)]
    let data := leBytes 1 x.refSeq ++ leBytes 1 flags ++ leBytes 2 (s.parN P.timeMaster) ++ leBytes 10 0 ++
      leBytes 1 (s.swarm.cycleNo % max 1 (s.parN P.combCycles)) ++ leBytes 1 key.2.1 ++ leBytes 4 s.combIdNow
    if s.swarm.barred.contains id then s
    else
      let s := (s.setSb p { x with refSeq := (x.refSeq + 1) % 256 }).queueFrame p id data true
      s.forwardBcast p (s.parN P.addrHeld / 128) id data true

/-- References not yet sent leave the queues, not counted: those of a master, or with them those of a relay (R586, R587). -/
def State.dropRefs (s : State) (relay : Bool) : State :=
  each (upto 4) s fun q s =>
    ((s.sb q).frames.filter fun f => f.own && decide (idClass f.id = 1) && (relay || decide (idDetail f.id < 8))).foldl
      (fun s f => s.txDrop q f.tag) s

/-- The references of a basic cycle, once (R574). -/
def State.sendRefs (s : State) : State :=
  let c := s.swarm.cycleNo
  if s.swarm.refCycle = some c then s
  else
    let s := { s with swarm := { s.swarm with refCycle := some c } }
    let master := decide (s.par P.timeState = 4)
    let own := if master then s.bcastPorts else []
    let rel := (upto 4).filter fun q => s.relaysOn q && !(s.sb q).stopped && !(own.contains q)
    let s := own.foldl (fun s p => s.sendRef p false s.ownKey) s
    let s := rel.foldl (fun s q => s.sendRef q true s.relayKey) s
    if own.isEmpty && rel.isEmpty then s else { s with swarm := { s.swarm with stepped := s.swarm.stepped - 1 } }

/-! ### Election (R584 to R587) -/

/-- The module becomes MASTER at a basic cycle start, continuing its time, or from 0 where it never had one. -/
def State.becomeMaster (s : State) : State :=
  let fresh := !s.timeValid
  let s := if fresh ∧ ¬ s.swarm.everValid then s.clockSet 0 0 else s
  let s := s.setTimeState 4
  let s := if fresh then s.timeBegins.clockJump else s
  let a := s.parN P.addrHeld
  let s := { s with swarm := { s.swarm with worse := 0, refCycle := none } }
  (((s.setPar P.timeSource a).setPar P.timeHops 0).setMaster a (s.parN P.tmRank)).sendRefs

/-- The last basic cycle start, as a model time in ns. -/
def State.cycleStartNs (s : State) : Nat := s.now - nsOfUnits (s.swarmNow % s.cycleUnits)

/-- BECOME_MASTER (R584). -/
def becomeMasterEv (s : State) : State :=
  let since := max s.swarm.betterAt s.swarm.heldAt + s.cyclesNs (2 + s.parN P.tmRank)
  if s.potential ∧ s.par P.timeState ≠ 4 ∧ since ≤ (if s.timeValid then s.cycleStartNs else s.now) then s.becomeMaster else s

/-- MASTER_BY_RANK (R585). -/
def masterByRank (s : State) : State :=
  let worse : Bool := match s.followed with
    | some r => keyLt s.ownKey r.key
    | none => false
  if s.potential ∧ s.par P.timeState = 2 ∧ worse ∧ 16 ≤ s.swarm.worse then s.becomeMaster else s

/-- The part as master or relay ends (R587): the time runs on in HOLDOVER until a reference is accepted. -/
def State.endTimePart (s : State) : State :=
  let s := { s with swarm := { s.swarm with relayBarred := true, pendingSet := none } }.dropRefs true
  if s.par P.timeState = 4 then { s with swarm := { s.swarm with holdoverAt := s.now } }.setTimeState 3 else s

/-! ### References received (R577 to R580, R586, R590, R597) -/

/-- A stamp field (R569), in 2^-16 µs. -/
def stampAt (data : Bytes) (off : Nat) : Int := field data off 8 * 65536 + field data (off + 8) 2

/-- COMB_MISMATCH of a port from an accepted reference (R597). -/
def State.combMatch (s : State) (p : Nat) (running : Bool) (cid src : Nat) : State :=
  let x := s.sb p
  let own := s.combIdNow
  if cid = own then s.setSb p { x with mismatch := false }
  else if bit (s.par P.combEn) p ∧ running ∧ ¬ x.mismatch then
    (s.setSb p { x with mismatch := true }).busEvent 9 p (leBytes 4 own ++ leBytes 4 cid ++ leBytes 2 src)
  else s

/-- Swarm time corrected by an offset in 2^-16 µs (R579, R580). -/
def State.correct (s : State) (theta : Int) : State :=
  let st := s.par P.timeState
  let s : State := s.setPar P.timeOffset (clamp (theta * 1000 / 65536) s32lo s32hi)
  let a := iabs theta
  let w := s.swarm
  let s := { s with swarm := { w with good := if a ≤ 65536 then w.good + 1 else 0, bad := if 131072 < a then w.bad + 1 else 0 } }
  if st = 0 then
    let s := (s.clockSet (s.swarmNow - theta) 0).setTimeState 1
    { s with swarm := { s.swarm with good := 0, bad := 0 } }.timeBegins.clockJump
  else
    let s : State :=
      if s.par P.slewLimit * 65536 < a then
        let s := ((s.clockSet (s.swarmNow - theta) s.swarm.rate).incPar P.timeSteps).clockJump
        { s with swarm := { s.swarm with stepWait := true } }.busEvent 8 0xFF (leBytes 8 (unsigned 64 (tdiv (-theta) 65536)))
      else s.clockSet s.swarmNow (clamp (-(rdiv (theta * 1000000000) (8 * s.cycleUnits))) (-500000) 500000)
    if st = 2 then (if 4 ≤ s.swarm.bad then s.setTimeState 1 else s)
    else if 8 ≤ s.swarm.good then s.setTimeState 2
    else s.setTimeState 1

/-- An accepted reference (R578, R579, R586, R590, R597), its start of frame at a time in half nanoseconds. -/
def State.reference (s : State) (p id : Nat) (data : Bytes) (h : Int) : State :=
  let src := idSource id
  let r : TimeRef := ⟨idDetail id % 8 + 1, field data 15 1, src, field data 2 2, p, s.now⟩
  if idClass id ≠ 1 ∨ data.length < 20 ∨ src / 128 ≠ s.parN P.sbSegment p ∨ s.sourceAddr = some src then s
  else
    let s := s.combMatch p (field data 1 1 / 4 % 2 = 1) (field data 16 4) src
    let keep := s.swarm.refs.filter fun x => !(decide (x.source = src) && decide (x.port = p)) && decide (s.now < x.at_ + s.cyclesNs 3 + 1)
    let better := keyLt r.key s.ownKey
    let s := { s with swarm := { s.swarm with refs := keep ++ [r], lastRefAt := s.now, betterAt := if better then s.now else s.swarm.betterAt } }
    let s := if bit (s.par P.relayMask) p ∧ keyLt r.key s.relayKey then s.setSb p { s.sb p with betterAt := some s.now } else s
    if s.par P.timeState = 4 ∧ ¬ better then s
    else
      let s := if s.par P.timeState = 4 then (State.dropRefs { s with swarm := { s.swarm with pendingSet := none, good := 0, bad := 0 } } false).setTimeState 1 else s
      match s.followed with
      | some f =>
        if f.source = src ∧ f.port = p then
          let s := { s with swarm := { s.swarm with upstream := p } }
          let theta := s.swarmAt h - stampAt data 4 - rdiv (s.par P.propDelay p * 65536) 1000
          let s := s.correct theta
          ((s.setPar P.timeSource src).setPar P.timeHops (min 127 r.hops)).setMaster r.master r.rank
        else s
      | none => s

/-! ### Delay messages (R575, R576) -/

/-- DELAY_REQUEST_SEND. -/
def delayRequestSend (s : State) : State :=
  let st := s.par P.timeState
  let p := s.swarm.upstream
  if s.held ∧ (st = 1 ∨ st = 2) ∧ s.sbOn p ∧ s.swarm.delayAt + s.parN P.delayInterval * 1000000 ≤ s.now then
    let x := s.sb p
    let q := (x.delaySeq + 1) % 256
    let id := swarmId 6 2 (s.parN P.addrHeld) 0
    let data := leBytes 2 (s.parN P.timeSource) ++ leBytes 1 q ++ leBytes 1 0 ++ leBytes 10 0 ++ leBytes 2 0
    let s := { s with swarm := { s.swarm with delayAt := s.now } }
    ((s.setSb p { x with delaySeq := q, reqStamp := none }).queueFrame p id data true).forwardBcast p (s.parN P.addrHeld / 128) id data true
  else s

/-- A delay request to this time source is answered. -/
def State.delayRequest (s : State) (p id : Nat) (data : Bytes) (h : Int) : State :=
  let serves := (decide (s.par P.timeState = 4) && s.bcastPorts.contains p) || (s.relaysOn p && !(s.sb p).stopped)
  if idClass id = 2 ∧ idDetail id = 0 ∧ 16 ≤ data.length ∧ s.held ∧ field data 0 2 = s.parN P.addrHeld ∧ serves ∧ s.timeValid then
    let out := leBytes 2 (idSource id) ++ leBytes 1 (field data 2 1) ++ leBytes 1 0 ++ stampBytes (s.swarmAt h) ++ leBytes 10 0
    let id := swarmId 6 2 (s.parN P.addrHeld) 1
    (s.queueFrame p id out true).forwardBcast p (s.parN P.addrHeld / 128) id out true
  else s

/-- A delay response to this module: PROP_DELAY is the mean of the last 16. -/
def State.delayResponse (s : State) (p id : Nat) (data : Bytes) (h : Int) : State :=
  let x := s.sb p
  match x.reqStamp with
  | some tx =>
    if idClass id = 2 ∧ idDetail id = 1 ∧ 24 ≤ data.length ∧ s.held ∧ field data 0 2 = s.parN P.addrHeld ∧ field data 2 1 = x.delaySeq ∧
        idSource id = s.parN P.timeSource ∧ p = s.swarm.upstream then
      let d := tdiv ((stampAt data 4 - tx) + (s.swarmAt h - stampAt data 14)) 2
      let ds := (d :: x.delays).take 16
      let s := s.setSb p { x with reqStamp := none, delays := ds }
      if ds.length = 16 then s.setPar P.propDelay (clamp (tdiv (ds.foldl (· + ·) 0 * 1000) (16 * 65536)) 0 65535) p else s
    else s
  | none => s

/-! ### Cycle starts, holdover, seconds -/

/-- BASIC_CYCLE_START (R574, R585, R588, R590, R596). -/
def basicCycleStart (s : State) : State :=
  let c := s.cycleAt s.swarmNow
  if ¬ s.timeValid ∨ c ≤ s.swarm.cycleNo then s
  else
    let matrix := decide (c % max 1 (s.parN P.combCycles) = 0)
    let worse : Bool := match s.followed with
      | some r => s.potential && decide (s.par P.timeState = 2) && keyLt s.ownKey r.key
      | none => false
    let s := { s with swarm := { s.swarm with cycleNo := c, stepWait := false, worse := if worse then s.swarm.worse + 1 else 0,
                                               combId := if matrix then none else s.swarm.combId } }
    let s := s.raiseLine 36
    let s := each (upto 4) s fun q s =>
      match (s.sb q).betterAt with
      | some t0 => if s.now < t0 + s.cyclesNs 3 then s.setSb q { s.sb q with stopped := true } else s
      | none => s
    match s.swarm.pendingSet with
    | some v =>
      let s := (s.clockSet ((v : Int) * 65536) s.swarm.rate).clockJump
      { s with swarm := { s.swarm with pendingSet := none, stepWait := true, stepped := 16 } }
    | none => s.sendRefs

/-- RELAY_RESUME (R590). -/
def relayResume (q : Nat) (s : State) : State :=
  let x := s.sb q
  match x.betterAt with
  | some t0 => if q < 4 ∧ x.stopped ∧ t0 + s.cyclesNs 3 ≤ s.now then s.setSb q { x with stopped := false, betterAt := none } else s
  | none => s

/-- TIME_HOLDOVER (R581). -/
def timeHoldover (s : State) : State :=
  let st := s.par P.timeState
  if (st = 1 ∨ st = 2) ∧ s.swarm.lastRefAt + s.cyclesNs 3 ≤ s.now then
    { s with swarm := { s.swarm with holdoverAt := s.swarm.lastRefAt + s.cyclesNs 3 } }.setTimeState 3
  else s

/-- TIME_LOST (R581, R595). -/
def timeLost (s : State) : State :=
  if s.par P.timeState = 3 ∧ s.swarm.holdoverAt + s.parN P.holdoverMax * 1000000 ≤ s.now then
    let src := s.parN P.timeSource
    let s := (s.setTimeState 0).busEvent 10 0xFF (leBytes 2 src)
    let s := each (upto 4) s fun p s => s.setSb p { s.sb p with suspended := bit (s.par P.combEn) p }
    let s := { s with swarm := { s.swarm with refs := [], good := 0, bad := 0 } }
    ((s.setPar P.timeSource 0xFFFF).setPar P.timeHops 0).setMaster 0xFFFF 0
  else s

/-- TIME_SET as the owner writes it (R588). -/
def timeSet (v : Nat) (s : State) : State :=
  if s.par P.timeState = 4 then { s with swarm := { s.swarm with pendingSet := some (v % 2 ^ 64) } } else s

/-- SWARM_SECOND (R572). -/
def swarmSecond (s : State) : State :=
  let n := (s.swarmNow / 65536000000).toNat
  if s.timeValid ∧ s.swarm.second < n then
    let s := { s with swarm := { s.swarm with second := n } }.raiseLine 13
    s.setPar P.hiveAtSecond (if s.par P.hiveEn = 1 then s.hiveTime else 0)
  else s

/-! ### TIME_STATUS (Table 14.8) -/

def State.timeStatus (s : State) : Nat :=
  ofBits [(upto 4).any fun q => s.relaysOn q && !(s.sb q).stopped, s.degraded, decide ((s.sb s.swarm.upstream).delays.length = 16),
    (upto 4).any fun p => decide (s.combState p = 1), (upto 4).any fun p => s.combSuspended p && s.sbOn p && bit (s.par P.combEn) p, (upto 4).any fun p => (s.sb p).mismatch]

end Sys2Proof.Machine
end

