-- ==== Sys2Proof/Machine/Swarm.lean ====
section
/-!
DEFINITION. The swarm bus ports (chapter 13): reception, filters, reassembly, forwarding, transmission and lifetimes, error
states, bus-off, paired ports and the address claim.
-/
namespace Sys2Proof.Machine

/-- Location path of a port (R525). -/
def sbPath (p : Nat) : String := "CTL/SWARM/" ++ dec p

/-! ### Status views (Table 13.7, Table 13.10) -/

/-- SB_STATUS. -/
def State.sbStatus (s : State) (p : Nat) : Nat :=
  let x := s.sb p
  let st := s.par P.sbState p
  ofBits [!x.frames.isEmpty, decide (96 ≤ s.par P.tec p) || decide (96 ≤ s.par P.rec p), decide (st = 3), s.sbOff p, x.request, s.degraded,
    s.held && s.bcastPorts.contains p, x.claiming, x.tdcSat]

/-- BUS_LOAD: the share of the last second's bit times that lay in frames. -/
def State.busLoad (s : State) (p : Nat) : Nat :=
  min 1000 (((s.sb p).load.filter fun e => decide (s.now < e.1 + 1000000000)).foldl (fun a e => a + e.2) 0 / 80000)

/-- Time on the bus noted. -/
def State.noteLoad (s : State) (p cycles : Nat) : State :=
  let x := s.sb p
  s.setSb p { x with load := (x.load.filter fun e => decide (s.now < e.1 + 1000000000)) ++ [(s.now, cycles)] }

/-! ### Address claim (R554 to R557) -/

/-- DEVICE_UID most significant byte first (R555), and as a number. -/
def uidBytes : Bytes := (leBytes 8 Config.deviceUid.toNat).reverse
def uidOf (data : Bytes) : Nat := leNat (data.take 8).reverse

/-- A frame's removal, and the end of the reply it belongs to. -/
def State.dropFrames (s : State) (p : Nat) (fs : List TxFrame) : State :=
  fs.foldl (fun s f =>
    let s := s.txDrop p f.tag
    match f.xfer with
    | some x => s.feedDone x
    | none => s) s

/-- A claim begins on every home port, where there is one (R554). -/
def State.startClaim (s : State) (a : Nat) : State :=
  let ports := (upto 4).filter fun p => s.sbOn p && decide (s.parN P.sbSegment p = a / 128)
  if ports.isEmpty then s
  else
    let wait := ports.all fun p => s.sbOff p
    let s := { s with swarm := { s.swarm with claimAddr := a, claimAt := if wait then none else some s.now, nextAddr := none } }
    let s := (s.setPar P.addrState 1).setPar P.addrHeld 0xFFFF
    ports.foldl (fun s p => (s.setSb p { s.sb p with claiming := true }).queueFrame p (swarmId 1 3 a 0) uidBytes true) s

/-- The claim of the address in use, or of NODE_ADDR when ADDR_VALID is set (R554, R558). -/
def State.claimNow (s : State) : State :=
  match s.sourceAddr with
  | some a => s.startClaim a
  | none => if bit (s.par P.nodeAddr) 14 then s.startClaim (s.parN P.nodeAddr % 16384) else s

/-- Node numbers of the pool in the order of R557 after one that was lost. -/
def State.poolAfter (s : State) (node : Nat) : List Nat :=
  let v := s.parN P.addrPool
  let first := v % 128
  let last := v / 128 % 128
  let all := (upto 128).filter fun n => decide (first ≤ n) && decide (n ≤ last)
  (all.filter fun n => decide (node < n)) ++ (all.filter fun n => decide (n ≤ node))

/-- The address is lost (R555, R557). -/
def State.addrLost (s : State) (p uid : Nat) : State :=
  match s.sourceAddr with
  | none => s
  | some a =>
    let s := s.endTimePart.setPar P.addrState 3
    let s := each (upto 4) s fun q s =>
      let fs := (s.sb q).frames.filter fun f => f.own
      (s.dropFrames q fs).incPar P.twinDrops q 0 fs.length
    let s := each (upto 4) s fun q s => s.setSb q { s.sb q with claiming := false }
    let s := (s.setPar P.addrHeld 0xFFFF).busEvent 3 p (leBytes 2 a ++ leBytes 2 0 ++ leBytes 8 uid)
    let tried := a % 128 :: s.swarm.poolTried
    let heard (n : Nat) : Bool := s.swarm.heard.any fun e => decide (e.1 = a / 128 * 128 + n) && decide (s.now < e.2 + 10000000000)
    let cand := if bit (s.par P.addrPool) 14 then (s.poolAfter (a % 128)).find? fun n => !(tried.contains n) && !heard n else none
    match cand with
    | some n =>
      let b := a / 128 * 128 + n
      { s with swarm := { s.swarm with poolTried := tried, nextAddr := some b, claimAddr := b, claimAt := none } }.setPar P.addrState 1
    | none => { s with swarm := { s.swarm with poolTried := [], nextAddr := none, claimAt := none, lostAt := s.now } }.setPar P.addrState 3

/-- ADDR_CLAIMED (R554, R558). -/
def addrClaimed (s : State) : State :=
  match s.swarm.claimAt with
  | some t0 =>
    if s.par P.addrState = 1 ∧ t0 + s.parN P.claimWait * 1000000 ≤ s.now then
      let a := s.swarm.claimAddr
      let s := { s with swarm := { s.swarm with claimAt := none, poolTried := [], barred := [], heldAt := s.now,
                                                 relayBarred := s.swarm.relayBarred && s.degraded } }
      let s := (s.setPar P.addrState 2).setPar P.addrHeld a
      let s := each (upto 4) s fun p s => (s.setSb p { s.sb p with claiming := false }).unstandCode 0x0A05 p
      (s.busEvent 2 0xFF (leBytes 2 a)).swarmFeed
    else s
  | none => s

/-- ADDR_RECLAIM (R557). -/
def addrReclaim (s : State) : State :=
  match s.swarm.nextAddr with
  | some a => s.startClaim a
  | none =>
    if s.par P.addrState = 3 ∧ s.swarm.lostAt + 10000000000 ≤ s.now then
      { s with swarm := { s.swarm with lostAt := s.now } }.startClaim (s.parN P.nodeAddr % 16384)
    else s

/-- The claim logic at an ADDR_CLAIM frame (R555, R556). -/
def State.claimFrame (s : State) (p id : Nat) (data : Bytes) : State :=
  match s.sourceAddr with
  | some a =>
    if idSource id = a then
      let uid := uidOf data
      if uid < Config.deviceUid.toNat then s.addrLost p uid
      else if Config.deviceUid.toNat < uid ∧ s.held ∧ idDetail id = 0 then s.queueFrame p (swarmId 1 3 a 1) uidBytes true
      else s
    else s
  | none => s

/-! ### Reassembly (R475, R476) -/

/-- Mark of a transfer that has been discarded and whose remaining frames are still to come. -/
def deadXfer : Nat := 1000

/-- The longest gap between two parts of a transfer. -/
def xferGap (ring : Bool) : Nat := if ring then 5000000 else 50000000

/-- One segment of a transfer that has come at a time: the packet when it completes one. -/
def State.segment (s : State) (ring : Bool) (p src tag seg now : Nat) (bs : Bytes) : State × Option Bytes :=
  let same (x : Xfer) : Bool := decide (x.ring = ring) && decide (x.port = p) && decide (x.source = src)
  let others := s.swarm.xfers.filter fun x => !(same x)
  let put (s : State) (x : Xfer) : State := { s with swarm := { s.swarm with xfers := others ++ [x] } }
  let idx := seg % 128
  let last := decide (128 ≤ seg)
  let dead : Xfer := ⟨ring, p, src, tag, deadXfer, [], now⟩
  let room := decide ((others.filter fun x => decide (x.ring = ring) && decide (x.port = p) && decide (x.next ≠ deadXfer)).length < 32)
  let gone (s : State) : State := { s with swarm := { s.swarm with xfers := others } }
  let kill (s : State) : State := (if last then gone s else put s dead).incPar P.reasmDrops
  let start (s : State) : State × Option Bytes :=
    if idx ≠ 0 ∨ ¬ room then (kill s, none)
    else if last then (gone s, some bs)
    else (put s ⟨ring, p, src, tag, 1, bs, now⟩, none)
  match s.swarm.xfers.find? same with
  | none => start s
  | some x =>
    if x.tag ≠ tag then start (if x.next = deadXfer then s else s.incPar P.reasmDrops)
    else if x.next = deadXfer then (if idx = 0 then start s else (if last then gone s else s, none))
    else if x.lastAt + xferGap ring < now ∨ idx ≠ x.next then (kill s, none)
    else if last then (gone s, some (x.bytes ++ bs))
    else (put s { x with next := idx + 1, bytes := x.bytes ++ bs, lastAt := now }, none)

/-- REASSEMBLY_TIMEOUT: transfers without a part for their gap are discarded; a part that came in time may still lie in Q14 (R476). -/
def reassemblyTimeout (s : State) : State :=
  let timely (x : Xfer) : Bool := x.ring && (s.queue 14).any fun e => decide (e.dest = x.source) && decide (e.at_ ≤ x.lastAt + xferGap true)
  let old (x : Xfer) : Bool := decide (x.lastAt + xferGap x.ring < s.now) && !(timely x)
  let n := (s.swarm.xfers.filter fun x => old x && decide (x.next ≠ deadXfer)).length
  { s with swarm := { s.swarm with xfers := s.swarm.xfers.filter fun x => !(old x) } }.incPar P.reasmDrops 0 0 n

/-- A packet without the padding of its last frame (R474), by its own length. -/
def trimPacket (bs : Bytes) : Bytes :=
  let n := 12 + field bs 6 2 + (if field bs 1 1 / 16 % 2 = 1 then 8 else 0)
  if n ≤ bs.length ∧ bs.length < n + 16 then bs.take n else bs

/-- A COMMAND or REPLY frame for the module's address (R475). -/
def State.commandFrame (s : State) (p id : Nat) (data : Bytes) : State :=
  let (s, done) := s.segment false p (idSource id) (field data 2 1) (field data 3 1) s.now (data.drop 4)
  match done with
  | some pkt => s.push 13 (trimPacket pkt) (idSource id) p
  | none => s

/-! ### Filters (R538 to R540) -/

/-- TIME of a receive entry: swarm time at its start of frame, 0 while it is not valid. -/
def State.entryTime (s : State) (h : Int) : Nat := if s.timeValid then unsigned 64 (s.swarmAt h / 65536) else 0

/-- A received frame offered to the filters of its port, with TIME of its entry. -/
def State.filterFrame (s : State) (p id flags : Nat) (data : Bytes) (time : Nat) : State :=
  let hit := (upto 64).find? fun f =>
    let m := s.parN P.filtMatch p f
    decide (0x80000000 ≤ m) && decide ((bitsOf 29 (s.parN P.filtMask p f)).all fun b => decide (id / 2 ^ b % 2 = m / 2 ^ b % 2))
  match hit with
  | none => s
  | some f =>
    let m := s.parN P.filtMatch p f
    let head := leBytes 4 (id + flags) ++ leBytes 1 data.length ++ leBytes 1 p ++ leBytes 1 f ++ leBytes 1 0 ++ leBytes 8 time
    let q := 2 * p + m / 0x40000000 % 2
    let s :=
      if entrySize data.length ≤ s.freeBytes q then
        let e : Entry := ⟨data ++ List.replicate ((16 - data.length % 16) % 16) 0#8, id, p, s.nextTag, head, s.now⟩
        ({ s.setQueue q (s.queue q ++ [e]) with nextTag := s.nextTag + 1 }).arrived q
      else s.incPar P.qOverflow q
    if m / 0x20000000 % 2 = 1 then s.busEvent 6 p (head ++ data.take 32) else s

/-! ### Forwarding (R559 to R561) -/

/-- A COMMAND or REPLY frame that is not for this module. -/
def State.forwardByDest (s : State) (p dest id : Nat) (data : Bytes) : State :=
  let seg := s.parN P.sbSegment p
  let ds := dest / 128
  if ds = seg then s
  else
    let q := s.parN P.route ds
    if q < 4 ∧ s.sbOn q ∧ s.parN P.sbSegment q ≠ seg then
      let q := if s.acting q ∧ q % 2 = 0 ∧ s.sbOff q then q + 1 else q
      s.forwardOut q id data false
    else s.incPar P.fwdDrops p

/-! ### Error states (R546 to R550), as ISO 11898-1 gives (PRESUMED) -/

/-- ERR_STATE (Table 13.8). -/
def State.errEvent (s : State) (p old : Nat) : State :=
  s.busEvent 0 p (leBytes 1 old ++ leBytes 1 (s.parN P.sbState p) ++ leBytes 2 (s.parN P.tec p) ++ leBytes 1 (s.parN P.rec p) ++ leBytes 3 0)

/-- A port starts counting recessive bits. -/
def State.countBits (s : State) (p : Nat) (request : Bool) : State :=
  (s.setSb p { s.sb p with countAt := s.now, request := request }).setPar P.sbState 5 p

/-- A port enters bus-off (R548, R549, R553, R563). -/
def State.busOff (s : State) (p : Nat) : State :=
  let old := s.parN P.sbState p
  let s := ((s.setPar P.tec 256 p).setPar P.sbState 4 p).incPar P.busoffCount p
  let s := s.setSb p { s.sb p with busOffAt := s.now, request := false }
  let s := if s.par P.addrState = 1 ∧ s.homePort p then { s with swarm := { s.swarm with claimAt := none } } else s
  let s := (s.raiseModule 0x0A06 p (sbPath p)).errEvent p old
  let s := s.copyEmerg p ((s.sb p).frames.filter fun f => decide (idClass f.id = 0))
  if 128 ≤ s.par P.swarmNodes then s.countBits p false else s

/-- The counters of a port changed, and its error state with them. -/
def State.setCounters (s : State) (p tec rx : Nat) : State :=
  if 255 < tec then s.busOff p
  else
    let old := s.parN P.sbState p
    let new := if 127 < tec ∨ 127 < rx then 3 else 2
    let s := ((s.setPar P.tec tec p).setPar P.rec (min 255 rx) p)
    if old = new ∨ ¬ (old = 2 ∨ old = 3) then s else (s.setPar P.sbState new p).errEvent p old

/-- The receive error counter after a frame received well: from above 127 it takes a value from 119 to 127, which ISO 11898-1
leaves open. -/
def State.recvGood (s : State) (p : Nat) : State :=
  let r := s.parN P.rec p
  if 127 < r then
    let d := s.draw 8
    d.2.setCounters p (s.parN P.tec p) (119 + d.1 % 9)
  else s.setCounters p (s.parN P.tec p) (r - 1)

/-- The port takes part in traffic. -/
def State.sbActive (s : State) (p : Nat) : Bool := decide (p < 4) && (decide (s.par P.sbState p = 2) || decide (s.par P.sbState p = 3))

/-! ### Bit timing of a frame received (R529, R531; the phase segments as ISO 11898-1 has them, PRESUMED, log entry 209) -/

/-- Quantum in CLK_BUS cycles, quanta before and after the sample point, and jump width, of the nominal phase or the data phase. -/
def State.bitTiming (s : State) (p : Nat) (fast : Bool) : Nat × Nat × Nat × Nat :=
  if fast then (s.parN P.dbrp p, 1 + s.parN P.dtseg1 p, s.parN P.dtseg2 p, s.parN P.dsjw p)
  else (s.parN P.nbrp p, 1 + s.parN P.ntseg1 p, s.parN P.ntseg2 p, s.parN P.nsjw p)

/-- End of a bit that begins at t, its part before and its part after the sample point each in one of the two phases: an edge late by some
quanta moves the sample point back by them, an early edge brings the next bit forward, by at most the jump width. -/
def State.rxBit (s : State) (p : Nat) (b : Bool × Bool) (t : Nat) (edge : Option Nat) : Nat :=
  let x := s.bitTiming p b.1
  let y := s.bitTiming p b.2
  let smp := t + x.1 * x.2.1
  let fin := smp + y.1 * y.2.2.1
  match edge with
  | none => fin
  | some e =>
    if e < smp then fin + x.1 * min ((e - t) / max 1 x.1) x.2.2.2
    else fin - y.1 * min ((fin - e + y.1 - 1) / max 1 y.1) y.2.2.2

/-- End of a run of bits, with the edges still to come: one resynchronisation in each bit. -/
def State.rxWalk (s : State) (p : Nat) : List (Bool × Bool) → Nat → List Nat → Nat
  | [], t, _ => t
  | b :: bs, t, es =>
    match es.dropWhile fun e => decide (e < t) with
    | [] => s.rxWalk p bs (s.rxBit p b t none) []
    | e :: r => if e < s.rxBit p b t none then s.rxWalk p bs (s.rxBit p b t (some e)) r else s.rxWalk p bs (s.rxBit p b t none) (e :: r)

/-- The phases of a frame's bits: the rate changes at the sample points of the BRS bit and of the CRC delimiter. -/
def rxPhases (r : RxBits) (brs : Bool) : List (Bool × Bool) :=
  List.replicate r.head (false, false) ++
    (if brs then (false, true) :: List.replicate r.fast (true, true) ++ [(true, false)] else List.replicate r.fast (false, false)) ++
    List.replicate r.tail (false, false)

/-- CLK_BUS cycles of a frame by the port's bit clock, which its start of frame has set anew (R531). -/
def State.rxCycles (s : State) (p : Nat) (brs : Bool) (r : RxBits) : Nat := s.rxWalk p (rxPhases r brs) 0 r.edges

/-! ### Reception (R526, R527, R538) -/

/-- A frame with a 29-bit identifier received: reassembly, claim, time, filters and forwarding. `h` is the start of frame; TIME is taken
before the frame itself can set the clock. -/
def State.dataFrame (s : State) (p id flags : Nat) (data : Bytes) (h : Int) : State :=
  let cls := idClass id
  let src := idSource id
  let time := s.entryTime h
  let s := { s with swarm := { s.swarm with heard := tset s.swarm.heard src s.now } }
  if cls = 4 ∨ cls = 5 then
    let dest := field data 0 2 % 16384
    if s.held ∧ dest = s.parN P.addrHeld then
      let s := s.commandFrame p id data
      if cls = 5 then s.filterFrame p id flags data time else s
    else
      let s := s.filterFrame p id flags data time
      if s.par P.addrState = 1 ∧ dest = s.swarm.claimAddr then s else s.forwardByDest p dest id data
  else
    let s := if cls = 3 then s.claimFrame p id data else s
    let s := if cls = 1 then s.reference p id data h else s
    let s := if cls = 2 then (s.delayRequest p id data h).delayResponse p id data h else s
    let s := if 7 ≤ cls ∧ cls ≤ 15 then s.incPar P.ignored p else s
    (s.filterFrame p id flags data time).forwardBcast p (src / 128) id data false

/-- SWARM_FRAME_RECEIVED: a valid frame ends now by the port's bit clock. `kind`: 0 FD data frame with a
29-bit identifier, 1 classical one, 2 frame with an 11-bit identifier, 3 remote frame, 4 protocol exception. Its CRC and stuffing are right, and
the port has acknowledged it; one that fails them is a SWARM_RX_ERROR (R526; DESIGN CHOICE, log entry 242). -/
def frameReceived (p kind id : Nat) (brs esi : Bool) (data : Bytes) (rx : RxBits) (s : State) : State :=
  let dur := s.rxCycles p brs rx
  let h : Int := 2 * s.now - 25 * dur
  if ¬ s.sbActive p then s
  else if kind = 4 then s.setPar P.sbState 1 p
  else
    let s := s.setSb p { s.sb p with phase := (dur : Int) - s.rxCycles p brs { rx with edges := [] }, acks := (s.sb p).acks + 1 }
    let s := ((s.noteLoad p dur).incPar P.rxFrames p).recvGood p
    if 2 ≤ kind then s.incPar P.ignored p
    else
      let flags := (if kind = 0 then 0x80000000 else 0) + (if brs then 0x40000000 else 0) + (if esi then 0x20000000 else 0)
      s.dataFrame p (id % 0x20000000) flags (data.take 64) h

/-- The frames of the time logic: receptions of their class (R573, R575). -/
def classReceived (cls : Nat) (detail : Option Nat) (p id : Nat) (data : Bytes) (rx : RxBits) (s : State) : State :=
  let fits : Bool := match detail with
    | some d => decide (idDetail id = d)
    | none => true
  if idClass id = cls ∧ fits then frameReceived p 0 id (decide (0 < rx.fast)) false data rx s else s

/-- RECEIVE_ENTRY_TAKE (R541). -/
def receiveEntryTake (q : Nat) (s : State) : State := if q < 8 then s.pop q else s

/-! ### Transmission (R542 to R545, R553, R558, R570) -/

/-- The data of an own time frame with its start-of-frame stamp written (R570). -/
def stamped (id : Nat) (data : Bytes) (v : Int) : Bytes :=
  let put (off : Nat) : Bytes := data.take off ++ stampBytes v ++ data.drop (off + 10)
  match idClass id with
  | 1 => put 4
  | 2 => if idDetail id = 1 then put 14 else put 4
  | _ => data

/-- The other queue's frame of an EMERGENCY copy is removed when one of the two is sent (R553, R563). -/
def State.dropTwinCopy (s : State) (p : Nat) (f : TxFrame) : State :=
  let s := match f.copyOf with
    | some (q, tag) => s.txDrop q tag
    | none => s
  let q := sbTwin p
  ((s.sb q).frames.filter fun g => decide (g.copyOf = some (p, f.tag))).foldl (fun s g => s.txDrop q g.tag) s

/-- Transmitter delay measured in an FD frame with BRS that began at a time in half nanoseconds, and the secondary sample point with it
(R532), which stands until the next measurement (DESIGN CHOICE, log entry 243). -/
def State.measureTdc (s : State) (p : Nat) (h : Int) (tdc : Nat) : State :=
  if s.brsFrom p h ∧ s.par P.tdcEn p = 1 then
    let x := s.sb p
    (s.setSb p { x with tdcSat := x.tdcSat || decide (127 < tdc), ssp := some (min 127 tdc + s.parN P.tdco p) }).setPar
      P.tdcValue (min 127 tdc : Nat) p
  else s

/-- SWARM_FRAME_SENT: the frame offered at its start, `dur` CLK_BUS cycles ago, has been sent; `tdc` the transmitter delay measured in mtq. -/
def frameSent (p dur tdc : Nat) (s : State) : State :=
  let h : Int := 2 * s.now - 25 * dur
  match (if p < 4 then s.offered p h else none) with
  | none => s
  | some f =>
    let v := s.swarmAt h
    let d0 := s.frameData p f.tag
    let data := if f.own then stamped f.id d0 v else d0
    let s := s.noteStart p f h
    let s := (s.noteLoad p dur).incPar P.txFrames p
    let x := s.sb p
    let req := f.own && decide (idClass f.id = 2) && decide (idDetail f.id = 0)
    let s := s.setSb p { x with sent := some ⟨f.id, s.brsFrom p h, decide (s.par P.sbState p = 3), data⟩, twins := x.twins.filter fun e => decide (e.1 ≠ f.id),
                                 reqStamp := if req then some v else x.reqStamp }
    let s := s.measureTdc p h tdc
    let s := (s.dropTwinCopy p f).txDrop p f.tag
    let s := s.setCounters p (s.parN P.tec p - 1) (s.parN P.rec p)
    match f.xfer with
    | some n => if f.last then s.feedDone n else s.swarmFeed
    | none => s.swarmFeed

/-- IDENT_TWIN (R558, R587). -/
def State.identTwin (s : State) (p id : Nat) : State :=
  let s := (s.raiseModule 0x0A05 p (sbPath p)).busEvent 4 p (leBytes 4 id)
  let s := each (upto 4) s fun q s =>
    let fs := (s.sb q).frames.filter fun f => decide (f.id = id)
    (s.dropFrames q fs).incPar P.twinDrops q 0 fs.length
  let s := { s with swarm := { s.swarm with barred := id :: s.swarm.barred } }
  s.endTimePart.claimNow

/-- SWARM_TX_ERROR: the frame offered at its start, `dur` CLK_BUS cycles ago. -/
def txError (p : Nat) (err : TxErr) (dur : Nat) (s : State) : State :=
  let kind := err.kind
  let h : Int := 2 * s.now - 25 * dur
  match (if p < 4 then s.offered p h else none) with
  | none => s
  | some f =>
    let (c, w) := s.windowAt (s.swarmAt h)
    let cell := s.cellOf c w
    let excl := decide (s.combState p = 1) && decide (cellType cell = 1) && cellOwn cell && decide (s.exclOf (cellSlot cell) = some f.id)
    let s := (s.noteStart p f h).noteLoad p dur
    let s := match err.tdc with
      | some d => s.measureTdc p h d
      | none => s
    let s := if excl then s.incPar P.exclFails else s
    let x := s.sb p
    let n := tget x.twins 0 f.id + 1
    let s := s.setSb p { x with twins := match kind with
      | 0 => x.twins
      | 1 => if idClass f.id ≠ 3 then tset x.twins f.id n else x.twins
      | _ => x.twins.filter fun e => decide (e.1 ≠ f.id) }
    let s := if kind = 1 ∨ kind = 2 then s.setCounters p (s.parN P.tec p + 8) (s.parN P.rec p) else s
    if kind = 1 ∧ f.own then
      if idClass f.id = 3 then s.addrLost p 0
      else if n = 16 then (s.setSb p { s.sb p with twins := (s.sb p).twins.filter fun e => decide (e.1 ≠ f.id) }).identTwin p f.id
      else s
    else s

/-- SWARM_RX_ERROR: an error while receiving; `by8` where ISO 11898-1 adds 8 to the receive counter. -/
def rxError (p : Nat) (by8 : Bool) (s : State) : State :=
  if s.sbActive p then s.setCounters p (s.parN P.tec p) (s.parN P.rec p + (if by8 then 8 else 1)) else s

/-- The packet transfer a frame belongs to: the reply's number of an own one, identifier, DEST and TAG of a forwarded one (R475). -/
def State.transferOf (s : State) (p : Nat) (f : TxFrame) : Option (List Nat) :=
  match f.xfer with
  | some n => some [n]
  | none =>
    if idClass f.id = 4 ∨ idClass f.id = 5 then
      let d := s.frameData p f.tag
      some [f.id, field d 0 2, field d 2 1]
    else none

/-- The frames of a queue that leave it at the end of their lifetimes: with a frame of a transfer go its later ones, up to a first segment,
which begins another transfer (R545). -/
def State.lateFrames (s : State) (p : Nat) (late : TxFrame → Bool) : List TxFrame :=
  ((s.sb p).frames.foldl (fun (acc : List (List Nat) × List TxFrame) f =>
    let k := s.transferOf p f
    let cut := match k with
      | some x => acc.1.contains x && (f.xfer.isSome || decide (field (s.frameData p f.tag) 3 1 % 128 ≠ 0))
      | none => false
    if late f || cut then (acc.1 ++ k.toList, acc.2 ++ [f]) else (acc.1.filter fun x => decide (some x ≠ k), acc.2)) ([], [])).2

/-- Frames removed at the end of their lifetimes, with the later frames of their transfers, and LIFETIME (R545, R565). -/
def State.expire (s : State) (p : Nat) : State :=
  let late (f : TxFrame) : Bool := match f.endAt with
    | some e => decide (e ≤ s.now)
    | none => false
  let all := s.lateFrames p late
  match all.getLast? with
  | none => s
  | some l =>
    let s := (s.dropFrames p all).incPar P.lifeDrops p 0 all.length
    let x := s.sb p
    let drops := (x.drops.filter fun t => decide (s.now < t + 1000000000)) ++ all.map fun _ => s.now
    let due := match x.lifeEventAt with
      | some t => decide (t + 1000000000 ≤ s.now)
      | none => true
    let s := s.setSb p { x with drops := drops, lifeEventAt := if due then some s.now else x.lifeEventAt }
    if due then s.busEvent 5 p (leBytes 2 (min 65535 drops.length) ++ leBytes 1 (idClass l.id) ++ leBytes 1 0) else s

/-- FRAME_LIFETIME_END (R545). -/
def frameLifetimeEnd (p : Nat) (s : State) : State := if p < 4 then s.expire p else s

/-! ### Bus-off and recovery (R549, R550, R563) -/

/-- BUSOFF_REQ_DELAY. -/
def busoffReqDelay (p : Nat) (s : State) : State :=
  let d := s.parN P.busoffReqDelay
  if p < 4 ∧ s.firmware ∧ s.par P.sbState p = 4 ∧ d ≠ 0 ∧ (s.sb p).busOffAt + d * 1000000 ≤ s.now then s.countBits p true else s

/-- SB_RECOVER as the owner writes it. -/
def sbRecover (mask : Nat) (s : State) : State :=
  (bitsOf 4 mask).foldl (fun s p => if s.par P.sbState p = 4 then s.countBits p true else s) s

/-- BUS_OFF_RECOVERED. -/
def busOffRecovered (p : Nat) (s : State) : State :=
  if p < 4 ∧ s.par P.sbState p = 5 ∧ (s.sb p).countAt + 1408 * s.nomBit p * 25 / 2 ≤ s.now then
    let s := ((s.setPar P.tec 0 p).setPar P.rec 0 p).setPar P.sbState 2 p
    let s := (s.setSb p { s.sb p with request := false }).unstandCode 0x0A06 p
    let s := (s.expire p).errEvent p 5
    let q := sbTwin p
    let sole (f : TxFrame) : Bool := !((s.sb p).frames.any fun g => decide (g.copyOf = some (q, f.tag)) || decide (f.copyOf = some (p, g.tag)))
    let s := s.copyEmerg q ((s.sb q).frames.filter fun f => decide (idClass f.id = 0) && sole f)
    if s.par P.addrState = 1 ∧ s.swarm.claimAt = none ∧ s.swarm.nextAddr = none ∧ s.homePort p then s.startClaim s.swarm.claimAddr else s
  else s

/-- PORT_INTEGRATED (R526). -/
def portIntegrated (p : Nat) (s : State) : State :=
  if p < 4 ∧ s.par P.sbState p = 1 then
    s.setPar P.sbState (if 127 < s.par P.tec p ∨ 127 < s.par P.rec p then 3 else 2) p
  else s

/-! ### Enabling (R524, R530, R563) -/

/-- The bit timing of a port is one that SB_EN accepts (R530). -/
def State.timingOk (s : State) (p : Nat) : Bool :=
  decide (80 ≤ s.nomBit p) && decide (10 ≤ s.dataBit p) && decide (s.dataBit p ≤ s.nomBit p) && decide (s.par P.nsjw p ≤ s.par P.ntseg2 p) &&
    decide (s.par P.dsjw p ≤ s.par P.dtseg2 p)

/-- A port starts to integrate, without its claim. -/
def State.sbStart (s : State) (p : Nat) : State :=
  (((s.setSb p { enabledAt := s.now }).setPar P.sbState 1 p).setPar P.tec 0 p).setPar P.rec 0 p

/-- A port falls silent: its transmit queue is discarded without counting. -/
def State.sbStop (s : State) (p : Nat) : State :=
  let xs := (s.sb p).frames.filterMap fun f => f.xfer
  let s := (s.setQueue (8 + p) []).setSb p {}
  let s := (((s.setPar P.sbState 0 p).setPar P.tec 0 p).setPar P.rec 0 p).unstandCode 0x0A06 p
  let s := { s with swarm := { s.swarm with xfers := s.swarm.xfers.filter fun x => x.ring || decide (x.port ≠ p) } }
  xs.foldl (fun s x => s.feedDone x) s

/-- A port is a home port of NODE_ADDR or of the address in use. -/
def State.homeOf (s : State) (p : Nat) : Bool :=
  let a := match s.sourceAddr with
    | some a => some a
    | none => if bit (s.par P.nodeAddr) 14 then some (s.parN P.nodeAddr % 16384) else none
  match a with
  | some a => decide (s.parN P.sbSegment p = a / 128)
  | none => false

/-- SB_EN as the owner writes it. -/
def sbEnWrite (p v : Nat) (s : State) : State :=
  if 4 ≤ p ∨ 1 < v then s
  else if v = 0 then (if s.sbOn p then (s.setPar P.sbEn 0 p).sbStop p else s.setPar P.sbEn 0 p)
  else if ¬ s.timingOk p then s
  else if s.sbOn p then s
  else
    let s := (s.setPar P.sbEn 1 p).sbStart p
    if s.homeOf p then s.claimNow else s

/-! ### STATUS frames (R537) -/

/-- STATUS_FRAME. -/
def statusFrame (s : State) : State :=
  let per := s.parN P.statusPeriod
  if per = 0 ∨ s.now < s.swarm.statusAt + per * 1000000 ∨ s.dev.st = .off ∨ s.dev.st = .boot then s
  else
    let s := { s with swarm := { s.swarm with statusAt := s.now } }
    let flags := ofBits [decide (s.owner.session ≠ 0), s.degraded, decide (s.dev.st = .recovery)]
    s.ownBcast (s.parN P.statusPrio) 6 0
      (leBytes 1 s.dev.st.code ++ (upto 4).flatMap (fun k => leBytes 1 (s.ax k).st.code) ++ leBytes 1 (s.parN P.thState) ++ leBytes 1 flags ++ leBytes 1 0)

end Sys2Proof.Machine
end

