-- ==== Sys2Proof/Machine/View.lean ====
section
/-!
DEFINITION. What a parameter reads (R479, R489, R490): the stored value, or the state that the parameter shows.
-/
namespace Sys2Proof.Machine

/-- ms from a time to the present of the house-core timers, in 32 bits. -/
def State.msSince (s : State) (t : Nat) : Nat := min 4294967295 ((s.houseNow - t) / 1000000)

/-- STO_STATUS (Table 9.14). -/
def State.stoStatus (s : State) : Nat :=
  let c := s.cellar
  ofBits [c.stoA, c.stoB, c.demand, c.disc, (upto 4).any fun k => decide ((s.ax k).st = .stopping) && decide ((s.ax k).stopEnd = .sto)]

/-- SETPOINT_AGE in µs, counted under R49. -/
def State.setpointAge (s : State) (k : Nat) : Nat := min 4294967295 ((s.now - (s.ax k).hearth.takenAt) / 1000)

/-- ATTIC_PENDING: the slots with a newer valid generation than the one in force (R509). -/
def State.atticPending (s : State) : Nat := maskOf ((upto 64).filter fun k => decide (tget s.attic.genIn 0 k < s.newestGen k))

/-- SVC_BUSY (Table 17.5). -/
def State.svcBusy (s : State) : Nat :=
  let v := s.service
  ofBits [v.load.isSome || v.verify.isSome || v.switch.isSome, !v.swaps.isEmpty, v.recal.isSome,
    s.ops.any fun o => decide (o.opcode = 0x75) || decide (o.opcode = 0x76)]

/-- LIFE_STATUS (R682): fault records beyond 100 an hour over 25 years, wing erases, CELL_CYCLES, LIFE_FRAC. -/
def State.lifeStatus (s : State) : Nat :=
  ofBits [decide (10000 < s.par P.lifeFrac), (upto 13).any fun g => decide (200000 < s.par P.cellCycles g),
    (upto 2).any fun w => decide (10000 < (s.wing w).erases), decide (21900000 < s.par P.frSeq)]

/-- PAN_RATE: block bytes of the last second. -/
def State.panRate (s : State) : Nat :=
  ((s.pantry.rate.filter fun e => decide (s.now < e.1 + 1000000000)).foldl (fun a e => a + e.2) 0 + 7) / 8

/-- The image the active pair runs; none in the boot loader. -/
def State.runWing (s : State) : Option Nat := if (s.pair s.active).live then some (s.pair s.active).wing else none

/-- What a parameter of an instance reads in a session (R489, R490), its access class apart. -/
def State.view (s : State) (sess : Nat) (p : Par) (i j : Nat) : Int :=
  let o := s.owner.session
  match p.base with
  | 0x0006 => (s.uptime : Nat)
  | 0x0004 => match s.runWing with
    | some w => (s.wingVersion w : Nat)
    | none => 0
  | 0x0010 => (s.dev.st.code : Nat)
  | 0x0015 => ((recent s.now 3600000000000 s.dev.restarts).length : Nat)
  | 0x1000 => ((s.ax i).st.code : Nat)
  | 0x1001 => ((s.ax i).prev.code : Nat)
  | 0x1003 => ((s.triesUsed i).length : Nat)
  | 0x114C => (s.setpointAge i : Nat)
  | 0x5005 => s.gp (3 * i) P.deadTime + s.gp (3 * i) P.ilkWait
  | 0x5109 => (s.parN P.cellStatus i % 65536 + 65536 * s.cellBits i : Nat)
  | 0x5040 =>
    if s.par P.laneRole i = 3 then 3
    else if (upto 4).any fun k => decide (s.laneOf k = i) && decide ((s.bridgesOf k).length > 0) then 0
    else if i = 4 then s.par P.laneRole 4 else 1
  | 0x5300 => (s.stoStatus : Nat)
  | 0x5305 => (s.holdMask : Nat)
  | 0x5306 => (s.holdCauses : Nat)
  | 0x7102 => (s.thStatus : Nat)
  | 0x1501 => if s.throttleLevel i ≤ 0 then 0 else s.par p i
  | 0x8024 => (s.sbStatus i : Nat)
  | 0x8025 => (s.busLoad i : Nat)
  | 0x8410 => (s.swarmMicros : Nat)
  | 0x8412 => (s.timeStatus : Nat)
  | 0x8444 => (s.combState i : Nat)
  | 0x9021 => (s.ringStatus : Nat)
  | 0x9022 => (s.hiveTime : Nat)
  | 0xA400 => ((s.queue i).length : Nat)
  | 0xA401 => (s.freeBytes i : Nat)
  | 0xB111 => (s.pantry.frames.length : Nat)
  | 0xB113 => (s.panRate : Nat)
  | 0xC001 => (s.openSessions.length : Nat)
  | 0xC002 => (sess : Nat)
  | 0xC010 => (maskOf ((upto 64).filter fun k => (s.sess (64 * i + k + 1)).isOpen) : Nat)
  | 0xC100 => (o : Nat)
  | 0xC101 => if o = 0 then 0 else ((s.sess o).rank : Nat)
  | 0xC102 => if o = 0 then 0 else ((s.sess o).clientId : Nat)
  | 0xC104 => match s.owner.ownerlessAt with
    | some t => (s.msSince t : Nat)
    | none => 0
  | 0xC105 => if o = 0 then 0 else (s.msSince s.owner.hbAt : Nat)
  | 0xC10C => (s.atticPending : Nat)
  | 0xC10D => (maskOf ((upto 4).filter fun k => s.keyProv k) : Nat)
  | 0xC200 => ((s.sess (i + 1)).violations : Nat)
  | 0xC300 => ((s.sess (i + 1)).rank : Nat)
  | 0xD000 => if 48 ≤ i then 0 else (s.slot i : Nat)
  | 0xD040 => (((upto 8).filter fun g => decide ((s.bootGen i g).state ≠ 0)).length : Nat)
  | 0xD080 => (maskOf ((upto 8).filter fun g => decide ((s.bootGen i g).state = 2)) : Nat)
  | 0xE000 => (s.svcBusy : Nat)
  | 0xE002 => if s.standbyOk then ((s.pair s.standby).wing : Nat) else 0xFF
  | 0xE004 => (s.service.pointer : Nat)
  | 0xE006 => match s.runWing with
    | some w => (s.wingCkpt w : Nat)
    | none => 0
  | 0xE010 => ((s.wing i).st : Nat)
  | 0xE012 => if s.headerValid i then (s.wingVersion i : Nat) else 0
  | 0xE014 => ((s.wing i).erases : Nat)
  | 0xE016 => (s.wingCkpt i : Nat)
  | 0xE020 => (s.lifeStatus : Nat)
  | 0xE100 => if s.porch.lockout then 2 else if s.porch.unlocked then 1 else 0
  | 0xE101 => match s.porch.halt with
    | .none => 0 | .full => 1 | .live => 2
  | _ => s.par p i j

/-- What a PN reads: none where it is undefined; a protected parameter reads 0 for a session that is not the owner (R459). -/
def State.readPn (s : State) (sess : Nat) (owner : Bool) (pn : Nat) : Option (Par × Int) :=
  (findPar pn).map fun q => (q.1, if q.1.acc = .prot ∧ ¬ owner then 0 else s.view sess q.1 q.2.1 q.2.2)

/-- The 64-bit VALUE of an item (Table 11.8): signed types sign-extended, all others zero-extended. -/
def valueBytes (v : Int) : Bytes := leBytes 8 (unsigned 64 v)

/-- The items of a list of PNs as a reply or telemetry carries them (Table 11.8, R490). -/
def State.items (s : State) (sess : Nat) (owner : Bool) (pns : List Nat) : Bytes :=
  pns.flatMap fun pn => match s.readPn sess owner pn with
    | some (p, v) => leBytes 2 pn ++ leBytes 1 0 ++ leBytes 1 p.size ++ valueBytes v
    | none => leBytes 2 pn ++ leBytes 1 0x20 ++ leBytes 1 0 ++ leBytes 8 0

end Sys2Proof.Machine
end

