-- ==== Sys2Proof/Machine/Reply.lean ====
section
/-!
DEFINITION. Replies (R456, R458, R482) and the ends of operations that a recovery cuts short (R58), and the stop of a Forager
channel (R611).
-/
namespace Sys2Proof.Machine

/-- Where a packet came from, and where its reply goes (R461). -/
structure Origin where
  tp : Transport
  source : Nat := 0
  port : Nat := 0
  deriving DecidableEq, Repr

/-- A packet sent to an origin without a session. -/
def State.sendTo (s : State) (o : Origin) (p : Bytes) : State :=
  s.send { transport := o.tp, source := o.source, port := o.port } p

/-- The packets of a reply: MORE in every one but the last (R482). -/
def replyPackets (op sess seq : Nat) (key : Option Bytes) (payloads : List Bytes) : List Bytes :=
  (payloads.zipIdx).map fun x =>
    packet op (0x80 + (if x.2 + 1 < payloads.length then 0x20 else 0)) sess seq x.1 key

/-- Where a reply to be retained is put in working data: a free value (log entry 115). -/
def State.replyPtr (s : State) : Nat × State := let d := s.draw 32; (0x200C0000 + d.1 % 0x6F0000, d.2)

/-- The reply of a session's command, sent and retained: a session retains those of the four sequences below NEXT_SEQ (R455, R456). -/
def State.replyRun (s : State) (sess op seq : Nat) (payloads : List Bytes) (boot : Bool := false) : State :=
  let x := s.sess sess
  let ps := replyPackets op sess seq x.tagKey payloads
  let (ptr, s) := s.replyPtr
  let rs := (⟨seq, ps, ptr⟩ :: x.retained.filter fun r => decide (r.seq ≠ seq)).filter fun (r : Retained) =>
    let back := (x.nextSeq + 65536 - r.seq) % 65536
    decide (1 ≤ back) && decide (back ≤ 4)
  let s := s.setSess sess { x with retained := rs }
  ps.foldl (fun s p => s.sendOrWait sess p boot true) s

def State.reply (s : State) (sess op seq : Nat) (payload : Bytes) : State := s.replyRun sess op seq [payload]
def State.replyStatus (s : State) (sess op seq status : Nat) : State := s.reply sess op seq (leBytes 1 status)

/-- The reply of SNAPSHOT, taken from the present state of the parameter image (R483). -/
def State.snapReply (s : State) (n period : Nat) (pns : List Nat) : Bytes :=
  leBytes 1 stDone ++ leBytes 1 0 ++ leBytes 2 pns.length ++ leBytes 4 period ++ leBytes 8 s.swarmMicros ++ s.items n (s.owner.session = n) pns

/-- The SNAPSHOT commands that wait for an SE of axis `k`, answered at it (R483). -/
def State.answerSnaps (s : State) (k period : Nat) : State :=
  let due := s.snaps.filter fun w => decide (w.axis = k)
  let s := { s with snaps := s.snaps.filter fun w => decide (w.axis ≠ k) }
  due.foldl (fun s w => s.reply w.sess 0x14 w.seq (s.snapReply w.sess period w.pns)) s

/-- The end of an IMAGE_LOAD with its reply (R662). -/
def State.endLoad (s : State) (status : Nat) (wingState : Nat) : State :=
  match s.service.load with
  | none => s
  | some j =>
    let s := s.setWing j.wing { s.wing j.wing with st := wingState }
    let s := { s with service := { s.service with load := none } }
    if (s.sess j.sess).isOpen then s.replyStatus j.sess 0x70 j.seq status else s

/-- The firmware-driven service operations end with FAULT_ACTIVE on entry to RECOVERY; a wing being written is invalid (R58). -/
def State.endService (s : State) : State :=
  let s := s.endLoad stFaultActive 4
  let s := match s.service.verify with
    | some w => s.endOp 0x71 w stFaultActive
    | none => s
  let s := match s.service.switch with
    | some x => s.endOp 0x72 x.wing stFaultActive
    | none => s
  let s := match s.service.recal with
    | some b => s.endOp 0x73 b stFaultActive
    | none => s
  { s with service := { s.service with verify := none, switch := none, recal := none } }

/-- A stopped channel is IDLE with STOPPED, its staging buffer discarded (R611). -/
def State.fgIdle (s : State) (c : Nat) : State :=
  let s := s.setFg c { s.fg c with wait := .none, timeoutAt := none, timeoutLeft := none, run := none, staging := [], outstanding := [], failing := false, stopping := false }
  (s.setPar P.fgState 0 c).setPar P.fgStatus 2 c

/-- FORAGER_STOP of one channel (R611, Table 15.1, Table 15.10): a HALTED one keeps its status. -/
def State.fgStop (s : State) (c : Nat) : State :=
  match s.parN P.fgState c with
  | 0 => s
  | 4 => s.setPar P.fgState 0 c
  | _ =>
    if (s.fg c).outstanding.isEmpty then s.fgIdle c
    else s.setFg c { s.fg c with stopping := true, wait := .none, timeoutAt := none, timeoutLeft := none }

end Sys2Proof.Machine
end

