-- ==== Sys2Proof/Machine/House.lean ====
section
/-!
DEFINITION. The device state (Table 2.2), the house-core pairs and their restarts (R51, R58, R66 to R69).
-/
namespace Sys2Proof.Machine

/-- A change of the device state with its event (Table 11.13). -/
def State.moveDev (s : State) (st : DevState) : State :=
  let old := s.dev.st
  let s := { s with dev := { s.dev with st := st } }
  s.notify 0 1 0xFF (leBytes 1 old.code ++ leBytes 1 st.code ++ leBytes 1 (s.parN P.recoveryCause))

/-- Entry to RECOVERY with a cause of Table 2.10; a device already in RECOVERY takes the new cause. -/
def State.enterRecovery (s : State) (cause : Nat) : State :=
  let s := (s.endService).setPar P.recoveryCause cause
  let s := { s with dev := { s.dev with recoveryAt := s.now } }
  if s.dev.st = .recovery then s else s.moveDev .recovery

/-- Largest age of a commit taken among the axes that switch, in µs (SWITCH_GAP). -/
def State.maxAge (s : State) : Nat := (upto 4).foldl (fun m k => if s.switching k then max m (s.setpointAge k) else m) 0

/-- A pair becomes active and commits the setpoint set of each switching axis (R51, R669). -/
def State.activate (s : State) (p : Nat) : State :=
  let s := (s.setPar P.switchGap s.maxAge).setPar P.activePair p
  each (upto 4) s fun k s => if s.switching k then s.modAx k fun a => { a with hearth := { a.hearth with commit := true } } else s

/-- Path of a pair (R657). -/
def housePath (p : Nat) : String := "CTL/HOUSE/" ++ dec p

/-- The fault of the active pair: takeover by a synchronised standby, and RECOVERY (R51, R58, R699, R670). A pair that fails with no
standby ready gives no trigger of Table 2.2: the device stays as it is until the Cellar restarts the pairs (R68). `raise` is false where
the module only acts as for FIRMWARE_FAULT (Table 9.9, LARDER_DED). -/
def State.coreFault (s : State) (fw : Bool) (raise : Bool := true) : State :=
  if s.dev.st = .off ∨ s.dev.st = .boot ∨ s.porch.halt = .full ∨ ¬ (s.pair s.active).live then s
  else
    let p := s.active
    let q := s.standby
    let ready := (s.pair q).live && ((s.pair q).synced || decide (s.porch.halt = .live))
    let s := if raise then s.raiseModule 0x0A03 p (housePath p) else s
    let s := s.setPair p { s.pair p with live := false, synced := false }
    let s : State := { s with porch := { s.porch with halt := .none, resync := false } }
    let s := s.setPar P.trial 0
    let s := if ready then (s.setPair q { s.pair q with synced := false }).activate q else s.setPair q { s.pair q with live := false, synced := false }
    let s : State := { s with dev := { s.dev with silentSince := if ready then none else some s.now } }
    if ready ∨ fw then s.enterRecovery (if fw then 2 else 1) else s

/-- A pair restarted from the boot wing and synchronised as standby (R66). -/
def State.startStandby (s : State) (p : Nat) : State :=
  s.setPair p { live := true, synced := true, stopped := false, wing := s.parN P.bootWing % 2 }

/-- PAIR_RESTART (R66, R67, Table 17.4): the pair that is not live restarts; `ok` its self-test. -/
def pairRestart (ok : Bool) (s : State) : State :=
  let q := s.standby
  if (s.dev.st = .recovery ∨ s.dev.st = .service) ∧ s.service.switch = none ∧ (s.pair s.active).live ∧ ¬ (s.pair q).live ∧ ¬ (s.pair q).stopped then
    if ok then s.startStandby q
    else
      let s := s.setPair q { s.pair q with stopped := true }
      if s.dev.st = .recovery then s.setPar P.recoveryCause 4 else s
  else s

/-- CELLAR_CORE_RESTART (R68, R69, R637). Both pairs restart, one that R67 left stopped among them (the manual does not say which of
the two rules yields: DESIGN CHOICE, log entry 191). -/
def cellarRestart (s : State) : State :=
  match s.dev.silentSince with
  | none => s
  | some t0 =>
    if s.now < t0 + 5000000 ∨ s.dev.housesStopped ∨ s.dev.st = .off ∨ s.dev.st = .boot then s
    else
      let rs := recent s.now 3600000000000 s.dev.restarts
      if 3 ≤ rs.length then { s with dev := { s.dev with housesStopped := true } }
      else
        let w := s.parN P.bootWing % 2
        let s : State := { s with dev := { s.dev with restarts := s.now :: rs, silentSince := none } }
        let s := s.setPair s.active { live := true, synced := false, wing := w }
        let s := s.setPair s.standby { live := true, synced := true, wing := w }
        let s := each ((upto 12).map (· + 4)) s fun c s => s.fgStop c
        (each (upto 4) s fun k s => s.unstandCode 0x0206 k).enterRecovery 3

end Sys2Proof.Machine
end

