-- ==== Sys2Proof/Machine/Larder.lean ====
section
/-!
DEFINITION. The Larder as its masters reach it: Table 1.4, the access check of Table 1.5, and its ECC (R27 to R32).
-/
namespace Sys2Proof.Machine

/-! ### Regions and access (Tables 1.4 and 1.5) -/

/-- The regions of the Larder. -/
inductive Region where
  | queue (q : Nat) | sessions | plane (n : Nat) | program (n : Nat) | image | exchange | working | checkpoint
  deriving DecidableEq, Repr

/-- The region of a Larder address (Table 1.4). -/
def regionOf (a : Nat) : Region :=
  let o := a - larderBase
  if o < 0x40000 then .queue (o / 0x2000)
  else if o < 0x50000 then .sessions
  else if o < 0x90000 then .plane ((o - 0x50000) / 0x10000)
  else if o < 0xA0000 then .program ((o - 0x90000) / 0x1000)
  else if o < 0xB0000 then .image
  else if o < 0xC0000 then .exchange
  else if o < 0x7C0000 then .working
  else .checkpoint

/-- A Hallway master reads or writes a region under Table 1.5. Masters: 0 house cores, 1 Hearth, 2 Forager F0 to F3,
3 Forager F4 to F15, 4 swarm bus ports, 5 share ring, 6 host SPI port, 7 Pantry, 8 Porch. -/
def mayAccess (m : Nat) (r : Region) (wr : Bool) : Bool :=
  match m, r with
  | 0, .plane _ => !wr
  | 0, _ => true
  | 1, .plane _ => !wr
  | 1, .program n => wr && decide (n < 4)
  | 1, .image => !wr
  | 1, .exchange => !wr
  | 2, .plane _ => wr
  | 2, .program _ => !wr
  | 3, .queue q => decide (20 ≤ q) || (decide (q < 8) && !wr)
  | 3, .plane _ => !wr
  | 3, .program _ => !wr
  | 3, .image => !wr
  | 3, .exchange => !wr
  | 3, .working => true
  | 4, .queue q => decide (q < 12) || decide (q = 13) || decide (q = 17)
  | 5, .queue q => decide (q = 14) || decide (q = 18)
  | 5, .exchange => true
  | 6, .queue q => decide (q = 12) || decide (q = 16)
  | 7, .queue q => decide (28 ≤ q)
  | 7, .plane _ => !wr
  | 7, .image => !wr
  | 7, .exchange => !wr
  | 7, .working => !wr
  | 8, .queue q => decide (q = 15) || decide (q = 19) || !wr
  | 8, .working => true
  | 8, _ => !wr
  | _, _ => false

/-- Every byte of an access lies in the Larder, in regions that the master may reach. An access that runs from a region the
master may reach into one it may not is refused whole (the manual is silent; DESIGN CHOICE, log entry 186). -/
def mayReach (m a n : Nat) (wr : Bool) : Bool := (upto n).all fun i => inLarder (a + i) && mayAccess m (regionOf (a + i)) wr

/-- What Table 1.5 ties to the moment: the Porch beside Q15 and Q19 while it is unlocked, the Hearth's program areas while their
lane starts (R22, which names the start and no span of it: DESIGN CHOICE, log entry 219), and the house cores in a boot with a Larder row beyond repair, whose working data end after 1 MiB (Table 2.7,
log entry 187). -/
def State.mayNow (s : State) (m a n : Nat) (wr : Bool) : Bool :=
  (upto n).all fun i =>
    match m, regionOf (a + i) with
    | 8, .queue q => s.porch.unlocked || decide (q = 15) || decide (q = 19)
    | 8, _ => s.porch.unlocked
    | 1, .program k => !wr || ((s.lane k).running && decide ((s.lane k).startedAt = s.now))
    | 0, .working => !s.dev.larderLimited || decide (a + i < larderBase + 0x1C0000)
    | _, _ => true

/-- HALLWAY_ACCESS raised by an access that Table 1.5 does not allow (R29). -/
def State.hallwayFault (s : State) : State := s.report 0x0A04 0xFF 0 "CTL/HALLWAY"

/-! ### ECC (R30, R32, Table 9.9) -/

/-- The address of the 64-bit word that holds a byte. -/
def wordOf (a : Nat) : Nat := a / 8 * 8

/-- Location path of a Larder word (R32). -/
def wordPath (w : Nat) : String :=
  let o := w - larderBase
  "CTL/LARDER/" ++ dec (o / 0x100000) ++ "/" ++ dec (o / 0x20000 % 8) ++ "/" ++ hexDigits (o / 8 % 0x4000)

/-- The path down to the bit cell, where the bits found wrong are known (R32): the first of them (DESIGN CHOICE, log entry 220). -/
def bitPath (w : Nat) (bits : List Nat) : String :=
  match bits with
  | b :: _ => wordPath w ++ "/" ++ dec (b % 72)
  | [] => wordPath w

/-- Words with a double-bit error that is still there, within an access. -/
def State.badWord (s : State) (more : List Nat) (a n : Nat) : Option Nat :=
  ((s.eccErrs.map (·.1)) ++ more.map wordOf).find? fun w => decide (w < a + n) && decide (a < w + 8)

/-- A word rewritten is free of error, and its LARDER_DED clears. -/
def State.wordRewritten (s : State) (w : Nat) : State :=
  if s.eccErrs.any fun e => decide (e.1 = w) then
    ({ s with eccErrs := s.eccErrs.filter fun e => decide (e.1 ≠ w) }).unstandCode 0x0A02 w
  else s

/-- Bytes written to the Larder; the words they cover whole are rewritten. -/
def State.lstore (s : State) (a : Nat) (bs : Bytes) : State :=
  (s.eccErrs.map (·.1)).foldl (fun s w => if a ≤ w ∧ w + 8 ≤ a + bs.length then s.wordRewritten w else s) (s.lwrite a bs)

/-- A lane's period that the Hearth treats as an overrun: its shadow registers stay unfilled (R41). -/
def State.spoilLane (s : State) (n : Nat) : State := s.setLane n { s.lane n with filled := false, shadow := [], job := { (s.lane n).job with computed := false } }

/-- LARDER_DED of a word (R30), with the reaction of its region (Table 9.9). -/
def State.larderDed (s : State) (w : Nat) (bits : List Nat) : State :=
  let s := s.raiseModule 0x0A02 w (bitPath w bits)
  let s : State := { s with eccErrs := (w, bits) :: s.eccErrs.filter fun e => decide (e.1 ≠ w) }
  match regionOf w with
  | .working => s.coreFault true false
  | .sessions => s.coreFault true false
  | .checkpoint => s.coreFault true false
  | .plane n => if s.par P.spareFor = n then s.spoilLane 4 else s.spoilLane n
  | .exchange => s.spoilLane (s.laneOf s.hiveAx)
  | _ => s.wordRewritten w

/-! ### Reading through the Hallway -/

/-- A session's entry of the session table (Tables 11.5 and 12.6). -/
def State.sessionEntry (s : State) (n : Nat) : Bytes :=
  let x := s.sess n
  if ¬ x.isOpen then List.replicate 0x64 0#8 ++ leBytes 4 x.violations ++ leBytes 1 x.rank ++ leBytes 1 x.entry ++ List.replicate 0x96 0#8
  else
    let ptrs := (x.retained.map (·.ptr)) ++ List.replicate 4 0
    let rs := (x.retained.map (·.seq)) ++ List.replicate 4 0
    let own := decide (s.owner.session = n)
    let claims := match s.owner.election with
      | some e => e.claims.any fun c => decide (c.1 = n)
      | none => false
    leBytes 1 1 ++ leBytes 1 (transportCode x.transport) ++ leBytes 2 x.source ++ leBytes 1 x.port ++
      leBytes 1 (ofBits [x.auth, own, decide (x.telPns ≠ []) && decide (0 < x.telPeriod)]) ++ leBytes 2 x.nextSeq ++ leBytes 8 x.clientId ++
      leBytes 8 x.opened ++ leBytes 4 (s.msSince x.idleAt) ++ leBytes 4 x.timeoutMs ++ leBytes 4 x.eventMask ++ leBytes 2 x.notifSeq ++
      leBytes 2 x.lost ++ leBytes 2 x.telPeriod ++ leBytes 1 x.telPns.length ++ leBytes 1 x.keyIndex ++
      ((x.telPns ++ List.replicate 16 0).take 16).flatMap (leBytes 2) ++ (rs.take 4).flatMap (leBytes 2) ++ (ptrs.take 4).flatMap (leBytes 4) ++
      leBytes 4 x.violations ++ leBytes 1 x.rank ++ leBytes 1 x.entry ++
      leBytes 1 (ofBits [x.authReq, x.proven, claims, x.offered]) ++ leBytes 1 0 ++ leBytes 8 x.ownedSince ++ List.replicate 0x8C 0#8

/-- A byte of a retained reply, where one lies at an address of working data (R467). -/
def State.retainedByte (s : State) (a : Nat) : Option Byte :=
  s.openSessions.findSome? fun n => (s.sess n).retained.findSome? fun r =>
    let bs := r.packets.flatMap id
    if r.ptr ≤ a then bs[a - r.ptr]? else none

/-- One byte of the Larder as a master reads it. The queue rings and the parameter image have no byte layout in the manual; a
byte of theirs is a free value. -/
def State.hbyte (s : State) (a : Nat) : Byte × State :=
  match regionOf a with
  | .queue _ => let d := s.draw 8; (BitVec.ofNat 8 d.1, d.2)
  | .image => let d := s.draw 8; (BitVec.ofNat 8 d.1, d.2)
  | .sessions =>
    ((s.sessionEntry ((a - 0x20040000) / 0x100 + 1)).getD (a % 0x100) 0#8, s)
  | .working => ((s.retainedByte a).getD (memGet 0#8 s.larder a), s)
  | _ => (memGet 0#8 s.larder a, s)

/-- n bytes of the Larder as a master reads them. -/
def State.hread (s : State) (a : Nat) : Nat → Bytes × State
  | 0 => ([], s)
  | n + 1 =>
    let b := s.hbyte a
    let r := b.2.hread (a + 1) n
    (b.1 :: r.1, r.2)

/-- The transport of a code of Table 11.5. -/
def transportOf : Nat → Transport
  | 0 => .spi
  | 1 => .swarm
  | 2 => .ring
  | _ => .porch

/-- A session as its 256-byte entry gives it (Tables 11.5 and 12.6); the key, the packets of retained replies and a transfer in
progress have no field there and stay. -/
def State.sessionFrom (s : State) (x : Session) (e : Bytes) : Session :=
  let flags := field e 5 1
  let own := field e 0x6A 1
  { x with
    isOpen := decide (field e 0 1 = 1), transport := transportOf (field e 1 1), source := field e 2 2, port := field e 4 1,
    auth := decide (flags % 2 = 1), nextSeq := field e 6 2, clientId := field e 8 8, opened := field e 0x10 8,
    idleAt := s.houseNow - 1000000 * field e 0x18 4, timeoutMs := field e 0x1C 4, eventMask := field e 0x20 4 % 1024,
    notifSeq := field e 0x24 2, lost := field e 0x26 2, telPeriod := field e 0x28 2,
    telPns := (upto (min 16 (field e 0x2A 1))).map fun i => field e (0x2C + 2 * i) 2, keyIndex := field e 0x2B 1,
    violations := field e 0x64 4, rank := field e 0x68 1, entry := field e 0x69 1,
    authReq := decide (own % 2 = 1), proven := decide (own / 2 % 2 = 1), offered := decide (own / 8 % 2 = 1), ownedSince := field e 0x6C 8 }

/-- Bytes written into one entry of the session table by the house cores; the owner flag moves ownership with it (DEDUCED, log entry
218). -/
def State.writeEntry (s : State) (n off : Nat) (bs : Bytes) : State :=
  let e := s.sessionEntry n
  let e := (e.take off ++ bs ++ e.drop (off + bs.length)).take 0x100
  let s := s.setSess n (s.sessionFrom (s.sess n) e)
  let own := decide (field e 5 1 / 2 % 2 = 1)
  let was := s.owner.session
  if own then { s with owner := { s.owner with session := n } }
  else if was = n then { s with owner := { s.owner with session := 0 } }
  else s

/-- Bytes that a master writes to the session table, entry by entry. -/
def State.writeTable (s : State) (a : Nat) (bs : Bytes) : Nat → State
  | 0 => s
  | f + 1 =>
    match bs with
    | [] => s
    | _ =>
      let off := a % 0x100
      let s := s.writeEntry ((a - 0x20040000) / 0x100 + 1) off (bs.take (0x100 - off))
      s.writeTable (a + (0x100 - off)) (bs.drop (0x100 - off)) f

/-- Bytes that a master writes. The queue rings and the parameter image have no byte layout in the manual: they are held by the
state's own fields, which only the steps that own them change (log entry 188). -/
def State.hwrite (s : State) (a : Nat) (bs : Bytes) : State :=
  match regionOf a with
  | .queue _ => s
  | .image => s
  | .sessions => s.writeTable a bs (bs.length + 1)
  | _ => s.lstore a bs

/-- Data that the Hallway returns for a read. -/
def State.returns (s : State) (bs : Bytes) : State := { s with hallData := bs }

/-! ### Meanings -/

/-- HALLWAY_ACCESS (R28 to R30): master, address, length, write data, and the bits found wrong in the first word read. A read
that is not allowed returns zeros; the data of a word with a double-bit error are a free value (log entry 189). -/
def hallwayAccess (m a n : Nat) (wr : Bool) (bs : Bytes) (bad : List Nat) (s : State) : State :=
  let len := if wr then bs.length else n
  let spoilt (s : State) : State := let d := s.draw (8 * len); d.2.returns (leBytes len d.1)
  if s.dev.st = .off ∨ len = 0 ∨ ¬ (inLarder a ∧ inLarder (a + len - 1)) then s
  else if ¬ (mayReach m a len wr ∧ s.mayNow m a len wr) then
    (if wr then s else s.returns (List.replicate len 0#8)).hallwayFault
  else if wr then s.hwrite a bs
  else if 2 ≤ bad.length then spoilt (s.larderDed (wordOf a) bad)
  else match s.badWord [] a len with
    | some w => spoilt (s.larderDed w ((s.eccErrs.find? fun e => decide (e.1 = w)).map (·.2) |>.getD []))
    | none => let r := s.hread a len; r.2.returns r.1

/-- LARDER_SCRUB (R30, R31): the scrubber reads a word and finds the given bits wrong; a single one is corrected. -/
def larderScrub (w : Nat) (bad : List Nat) (s : State) : State :=
  if s.dev.st ≠ .off ∧ inLarder w ∧ 2 ≤ bad.length then s.larderDed (wordOf w) bad else s

end Sys2Proof.Machine
end

