-- ==== Sys2Proof/Machine/Forager.lean ====
section
/-!
DEFINITION. The Forager (chapter 15): instructions of F4 to F15, write beats, event lines, start, stop and pause.
-/
namespace Sys2Proof.Machine

/-- The program area of a channel (Table 1.4). -/
def programBase (c : Nat) : Nat := 0x20090000 + c * 0x1000

/-- A channel's register, and the channel with one written. -/
def State.xreg (s : State) (c k : Nat) : Nat := s.parN P.fgX c k
def State.setXreg (s : State) (c k v : Nat) : State := s.setPar P.fgX (v % 4294967296 : Nat) c k

/-- Bits hi:lo of an instruction word. -/
def fbits (w hi lo : Nat) : Nat := w / 2 ^ lo % 2 ^ (hi - lo + 1)

/-! ### Priorities (R623, R624) -/

/-- A channel has a beat ready: it runs, and waits for no response (R627). -/
def State.fgReady (s : State) (c : Nat) : Bool :=
  decide (4 ≤ c) && decide (c < 16) && decide (s.parN P.fgState c = 1) && !(s.fg c).stopping && (s.fg c).outstanding.isEmpty

/-- Turns to wait for a channel after the one of its level that was served last. -/
def State.fgTurns (s : State) (c : Nat) : Nat := (c + 15 - tget s.fgLast 15 (s.parN P.fgPrio c)) % 16

/-- The Forager issues a channel's beats next, one instruction or chunk at a turn (DESIGN CHOICE, log entry 210): no other channel of a higher level, or of its level and earlier in turn, has one ready. -/
def State.fgGranted (s : State) (c : Nat) : Bool :=
  s.fgReady c && (upto 16).all fun d =>
    decide (d = c) || !s.fgReady d || decide (s.par P.fgPrio c < s.par P.fgPrio d) ||
      (decide (s.par P.fgPrio c = s.par P.fgPrio d) && decide (s.fgTurns c < s.fgTurns d))

/-- The turn of a channel noted. -/
def State.fgServe (s : State) (c : Nat) : State := { s with fgLast := tset s.fgLast (s.parN P.fgPrio c) c }

/-! ### Fetch (R609, R613, R619, Table 15.10) -/

/-- The channel executes the instruction at its PC if it is of the wanted kind. A reserved opcode, a second word beyond the
area, and a double-bit error in a program word halt it whatever the kind. -/
def State.fgRunInstr (s : State) (c : Nat) (ded : List Nat) (want : Nat → Bool) (f : Nat → Nat → State → State) : State :=
  let x := s.fg c
  if x.run.isSome ∨ ¬ s.fgGranted c then s
  else
    let s := s.fgServe c
    let a := programBase c + s.parN P.fgPc c
    let w1 := leNat (s.lread a 4)
    let op := w1 / 0x10000000 % 16
    let two := decide (op = 6) || (decide (op = 5) && decide (fbits w1 24 22 ≠ 3))
    match s.badWord ded a 4 with
    | some w => (s.larderDed w []).fgHalt c 0x13
    | none =>
      if 8 ≤ op ∨ (op = 5 ∧ 6 ≤ fbits w1 24 22) then s.fgHalt c 0x10
      else if two ∧ 4096 ≤ s.parN P.fgPc c + 4 then s.fgHalt c 0x18
      else if ¬ want w1 then s
      else match (if two then s.badWord ded (a + 4) 4 else none) with
        | some w => (s.larderDed w []).fgHalt c 0x13
        | none => f w1 (if two then leNat (s.lread (a + 4) 4) else 0) s

/-! ### Beats (R624 to R628) -/

/-- Data cut into beats of at most 16 bytes, each within one 16-byte-aligned block. -/
def beatsOf (a : Nat) : Nat → Bytes → List FgBeat
  | 0, _ => []
  | _, [] => []
  | f + 1, bs =>
    let n := 16 - a % 16
    ⟨a, bs.take n, 0⟩ :: beatsOf (a + n) f (bs.drop n)

/-- Write beats issued. -/
def State.issue (s : State) (c : Nat) (bs : List FgBeat) : State :=
  (s.setFg c { s.fg c with outstanding := (s.fg c).outstanding ++ bs }).incPar P.fgBeats c 0 bs.length

/-- A halt on an access that Table 1.5 does not allow (R29, R629). -/
def State.fgAccess (s : State) (c : Nat) : State := s.hallwayFault.fgHalt c 0x12

/-- A beat's data reaches the Larder. A beat of a queue entry is held back until the entry is whole. -/
def State.beatLands (s : State) (b : FgBeat) : State := if b.addr < larderBase then s else s.hwrite b.addr b.data

/-- Beats issued to memory; one to a forbidden address halts the channel, and those before it land. -/
def State.issueTo (s : State) (c : Nat) (bs : List FgBeat) : State :=
  match bs.find? fun b => !mayReach 3 b.addr b.data.length true with
  | none => s.issue c bs
  | some bad =>
    let before := bs.takeWhile fun b => decide (b ≠ bad)
    let s := s.incPar P.fgBeats c 0 (before.length + 1)
    let s := ((s.fg c).outstanding ++ before).foldl (fun s b => s.beatLands b) s
    s.fgAccess c

/-- The fields of a MOVE (Table 15.3) and of a SHUF (Table 15.7). -/
def mvXs (w : Nat) : Nat := fbits w 27 25
def mvXd (w : Nat) : Nat := fbits w 24 22
def mvLen (w : Nat) : Nat := fbits w 12 0
def shSize (w : Nat) : Nat := 2 ^ (fbits w 21 20 + 1)

/-- Header of an entry that the Forager writes (Table 15.4). -/
def State.fgHeader (s : State) (c len : Nat) : Bytes :=
  leBytes 2 len ++ leBytes 1 (0x10 + c) ++ List.replicate 5 0#8 ++ leBytes 8 s.swarmMicros

/-- The end of a MOVE or SHUF: its queue entry is written, its registers advance, and the next instruction starts (R627). -/
def State.fgFinish (s : State) (c : Nat) (r : FgRun) : State :=
  let s := s.setFg c { s.fg c with run := none, staging := [] }
  let xs := mvXs r.w1
  let xd := mvXd r.w1
  if r.shuf then
    let n := fbits r.w1 11 0
    let s := if fbits r.w1 19 19 = 1 then s.setXreg c xs (s.xreg c xs + n * fbits r.w2 31 16) else s
    let s := if fbits r.w1 18 18 = 1 then s.setXreg c xd (s.xreg c xd + n * fbits r.w2 15 0) else s
    s.fgAdvance c 2
  else
    let s := if fbits r.w1 21 21 = 1 ∧ fbits r.w1 19 18 = 0 then s.setXreg c xs (s.xreg c xs + mvLen r.w1) else s
    let s := if fbits r.w1 20 20 = 1 ∧ fbits r.w1 17 16 = 0 then s.setXreg c xd (s.xreg c xd + mvLen r.w1) else s
    s.fgAdvance c 1

/-- Source bytes read, or the halt that the read brings (R629). -/
inductive FgRead where
  | ok (bs : Bytes) (s : State)
  | halt (s : State)

/-- Beats of n bytes from an address: 16-byte-aligned blocks (R624). -/
def beatCount (a n : Nat) : Nat := if n = 0 then 0 else (a + n - 1) / 16 - a / 16 + 1

/-- A read of the Larder by a channel. -/
def State.fgRead (s : State) (c : Nat) (ded : List Nat) (a n : Nat) : FgRead :=
  let s := s.incPar P.fgBeats c 0 (beatCount a n)
  if ¬ mayReach 3 a n false then .halt (s.fgAccess c)
  else match s.badWord ded a n with
    | some w => .halt ((s.larderDed w []).fgHalt c 0x13)
    | none => let r := s.hread a n; .ok r.1 r.2

/-- Elements of a SHUF read one by one. -/
def State.fgGather (s : State) (c : Nat) (ded : List Nat) (size stride a : Nat) : Nat → FgRead
  | 0 => .ok [] s
  | n + 1 => match s.fgRead c ded a size with
    | .halt s => .halt s
    | .ok b s => match s.fgGather c ded size stride ((a + stride) % 4294967296) n with
      | .halt s => .halt s
      | .ok r s => .ok (b ++ r) s

/-- The next chunk of a MOVE or SHUF, at most 256 bytes: read, and issued as write beats (R626). -/
def State.fgChunk (s : State) (c : Nat) (ded : List Nat) : State :=
  match (s.fg c).run with
  | none => s
  | some r =>
    let xs := s.xreg c (mvXs r.w1)
    let xd := s.xreg c (mvXd r.w1)
    if r.crc then s
    else if r.shuf then
      let size := shSize r.w1
      let n := min (256 / size) (r.total - r.done)
      if n = 0 then s.fgFinish c r
      else
        let ss := fbits r.w2 31 16
        let ds := fbits r.w2 15 0
        match s.fgGather c ded size ss ((xs + r.done * ss) % 4294967296) n with
        | .halt s => s
        | .ok bs s =>
          let beats := (upto n).flatMap fun i => beatsOf ((xd + (r.done + i) * ds) % 4294967296) 3 ((bs.drop (i * size)).take size)
          let r' := { r with done := r.done + n }
          let s := (s.setFg c { s.fg c with run := some r', staging := bs }).setPar P.fgCount ((r.total - r'.done) * size : Nat) c
          s.issueTo c beats
    else
      let n := min 256 (r.total - r.done)
      if n = 0 then
        let s := if fbits r.w1 17 16 = 1 then s.enter r.dst (r.data.getD []) (s.fgHeader c r.total) else s
        s.fgFinish c r
      else
        let got : FgRead := match r.data with
          | some d => if fbits r.w1 19 18 = 0 then s.fgRead c ded (xs + r.done) n else .ok ((d.drop r.done).take n) s
          | none => s.fgRead c ded (xs + r.done) n
        match got with
        | .halt s => s
        | .ok bs s =>
          let toQueue := decide (fbits r.w1 17 16 = 1)
          let data : Option Bytes := if toQueue ∧ fbits r.w1 19 18 = 0 then some (r.data.getD [] ++ bs) else r.data
          let r' := { r with done := r.done + n, data := data }
          let s := (s.setFg c { s.fg c with run := some r', staging := bs }).setPar P.fgCount (r.total - r'.done : Nat) c
          if toQueue then s.issue c (beatsOf r.done 17 bs) else s.issueTo c (beatsOf (r.dst + r.done) 17 bs)

/-! ### Instructions -/

/-- END (R613). -/
def fgEnd (c : Nat) (w1 _w2 : Nat) (s : State) : State :=
  if fbits w1 27 0 ≠ 0 then s.fgHalt c 0x10
  else ((s.setFg c { s.fg c with endIrq := true }).setPar P.fgState 0 c).setPar P.fgStatus 1 c

/-- The header bytes of a queue entry as MOVE copies them; those of an entry whose writer's header the manual does not give
are a free value. -/
def State.entryHeader (s : State) (e : Entry) : Bytes × State :=
  if e.head.isEmpty then let d := s.draw 128; (leBytes 16 d.1, d.2) else ((e.head ++ List.replicate 16 0#8).take 16, s)

/-- MOVE (R614 to R617, R626, R629). -/
def fgMove (c : Nat) (ded : List Nat) (w1 _w2 : Nat) (s : State) : State :=
  let xs := s.xreg c (mvXs w1)
  let xd := s.xreg c (mvXd w1)
  let len := mvLen w1
  let sm := fbits w1 19 18
  let dm := fbits w1 17 16
  if sm = 3 ∨ 2 ≤ dm ∨ fbits w1 15 13 ≠ 0 ∨ len < 4 ∨ 4096 < len ∨ len % 4 ≠ 0 then s.fgHalt c 0x10
  else if (sm = 0 ∧ xs % 4 ≠ 0) ∨ (dm = 0 ∧ xd % 4 ≠ 0) then s.fgHalt c 0x11
  else if (sm = 1 ∧ ¬ (20 ≤ xs ∧ xs < 32)) ∨ (sm = 2 ∧ ¬ (xs < 8 ∨ (20 ≤ xs ∧ xs < 32))) ∨ (dm = 1 ∧ ¬ (20 ≤ xd ∧ xd < 32)) then s.fgAccess c
  else
    let go (s : State) (total : Nat) (data : Option Bytes) : State :=
      let s := (s.setFg c { s.fg c with run := some { shuf := false, w1 := w1, w2 := 0, total := total, data := data, dst := xd } }).setPar P.fgCount total c
      if dm = 1 ∧ s.freeBytes xd < entrySize total then
        ((s.incPar P.qOverflow xd).setPar P.fgCount 0 c).fgFinish c { shuf := false, w1 := w1, w2 := 0, total := total }
      else s.fgChunk c ded
    if sm = 0 then go s len none
    else if sm = 1 then
      match s.queue xs with
      | [] => (s.setFg c { s.fg c with wait := .queue xs }).setPar P.fgState 2 c
      | e :: _ =>
        let s := (s.pop xs).setXreg c 7 e.data.length
        go s (min len e.data.length) (some (e.data.take len))
    else
      match (s.queue xs).getLast? with
      | none => (s.setFg c { s.fg c with wait := .queue xs }).setPar P.fgState 2 c
      | some e =>
        let h := s.entryHeader e
        go (h.2.setXreg c 7 e.data.length) (min len (16 + e.data.length)) (some ((h.1 ++ e.data).take len))

/-- LOOP (R618). -/
def fgLoop (c : Nat) (w1 _w2 : Nat) (s : State) : State :=
  let back := fbits w1 9 0
  let pc := s.parN P.fgPc c
  if fbits w1 23 10 ≠ 0 ∨ back = 0 ∨ pc < 4 * back then s.fgHalt c 0x10
  else if fbits w1 24 24 = 1 then s.setPar P.fgPc (pc - 4 * back : Nat) c
  else
    let k := fbits w1 27 25
    let v := (s.xreg c k + 4294967295) % 4294967296
    let s := s.setXreg c k v
    if v = 0 then s.fgAdvance c 1 else s.setPar P.fgPc (pc - 4 * back : Nat) c

/-- WAIT (R622). -/
def fgWait (c : Nat) (w1 _w2 : Nat) (s : State) : State :=
  let k := fbits w1 5 0
  let tmo := fbits w1 21 8
  if fbits w1 27 22 ≠ 0 ∨ fbits w1 7 6 ≠ 0 ∨ (37 ≤ k ∧ k ≤ 47) then s.fgHalt c 0x10
  else
    let x := s.fg c
    if x.latches / 2 ^ k % 2 = 1 then (s.setFg c { x with latches := x.latches - 2 ^ k }).fgAdvance c 1
    else
      let x := { x with wait := .line k, timeoutAt := if tmo = 0 then none else some (s.now + tmo * 1000) }
      (s.setFg c x).setPar P.fgState 2 c

/-- SIGNAL (R620): the line is raised once the channel has moved on. -/
def fgSignal (c : Nat) (w1 _w2 : Nat) (s : State) : State :=
  let k := fbits w1 5 0
  if fbits w1 27 6 ≠ 0 ∨ k < 48 then s.fgHalt c 0x10 else (s.fgAdvance c 1).raiseLine k

/-- A SETX of one OP is wanted. -/
def isSetx (op w : Nat) : Bool := decide (w / 0x10000000 = 5) && decide (fbits w 24 22 = op)

/-- A SETX that writes a value; reserved bits halt the channel (Table 15.6, R613). -/
def fgSetx (c words v w1 : Nat) (s : State) : State :=
  if fbits w1 18 0 ≠ 0 ∨ (fbits w1 24 22 ≠ 3 ∧ fbits w1 21 19 ≠ 0) then s.fgHalt c 0x10
  else (s.setXreg c (fbits w1 27 25) v).fgAdvance c words

/-- SETX LOADM: the 32-bit word at IMM (R629). -/
def fgLoadm (c : Nat) (ded : List Nat) (w1 w2 : Nat) (s : State) : State :=
  if fbits w1 18 0 ≠ 0 ∨ fbits w1 21 19 ≠ 0 then s.fgHalt c 0x10
  else match s.fgRead c ded w2 4 with
    | .halt s => s
    | .ok bs s => fgSetx c 2 (leNat bs) w1 s

/-- SETX PLANE: the address of the newest complete sample record of a lane; before the first record the manual states none, and
the value is free. -/
def fgPlane (c : Nat) (w1 w2 : Nat) (s : State) : State :=
  let n := w2 % 4
  match s.planeAt.find? fun e => decide (e.1 = n) with
  | some e => fgSetx c 2 e.2 w1 s
  | none => let d := s.draw 32; fgSetx c 2 d.1 w1 d.2

/-- SHUF (R626, R632). -/
def fgShuf (c : Nat) (ded : List Nat) (w1 w2 : Nat) (s : State) : State :=
  let n := fbits w1 11 0
  let al := min (shSize w1) 4
  if fbits w1 17 12 ≠ 0 ∨ n = 0 then s.fgHalt c 0x10
  else if s.xreg c (mvXs w1) % al ≠ 0 ∨ s.xreg c (mvXd w1) % al ≠ 0 ∨ fbits w2 31 16 % al ≠ 0 ∨ fbits w2 15 0 % al ≠ 0 then s.fgHalt c 0x11
  else
    let s := (s.setFg c { s.fg c with run := some { shuf := true, w1 := w1, w2 := w2, total := n } }).setPar P.fgCount (n * shSize w1 : Nat) c
    s.fgChunk c ded

/-! ### CRC mode (R607, R631) -/

/-- A byte of the FLASH die as a CRC instruction reads it. The configuration area has no layout in the manual: its bytes are
free values. -/
def State.flashByte (s : State) (a : Nat) : Byte × State :=
  if a < 0x40600000 then (s.wingByte 0 (a - 0x40000000), s)
  else if a < 0x40C00000 then (s.wingByte 1 (a - 0x40600000), s)
  else let d := s.draw 8; (BitVec.ofNat 8 d.1, d.2)

/-- n bytes of the FLASH die. -/
def State.flashRead (s : State) (a : Nat) : Nat → Bytes × State
  | 0 => ([], s)
  | n + 1 =>
    let b := s.flashByte a
    let r := b.2.flashRead (a + 1) n
    (b.1 :: r.1, r.2)

/-- The data of a CRC, from the Larder or the FLASH die. -/
def State.crcData (s : State) (c : Nat) (ded : List Nat) (a n : Nat) : FgRead :=
  if n = 0 then .ok [] s
  else if 0x40000000 ≤ a ∧ a + n ≤ 0x40E00000 then let r := (s.incPar P.fgBeats c 0 (beatCount a n)).flashRead a n; .ok r.1 r.2
  else s.fgRead c ded a n

/-- The end of a CRC: its registers, and the next instruction. -/
def State.crcFinish (s : State) (c : Nat) (r : FgRun) : State :=
  let s := s.setFg c { s.fg c with run := none }
  let xs := fbits r.w1 27 25
  let s := if fbits r.w1 19 19 = 1 then s.setXreg c xs (s.xreg c xs + r.total) else s
  let s := if fbits r.w1 20 20 = 1 then s.setXreg c (fbits r.w1 24 22) (Nat.xor (s.parN P.fgCrc c) 0xFFFFFFFF) else s
  s.fgAdvance c 1

/-- The next chunk of a CRC, at most 256 bytes (R626); outside BOOT, TEST and RECOVERY the channel halts before it reads (R631). -/
def State.crcChunk (s : State) (c : Nat) (ded : List Nat) (r : FgRun) : State :=
  if ¬ (s.dev.st = .boot ∨ s.dev.st = .test ∨ s.dev.st = .recovery) then s.fgHalt c 0x17
  else
    let n := min 256 (r.total - r.done)
    match s.crcData c ded (s.xreg c (fbits r.w1 27 25) + r.done) n with
    | .halt s => s
    | .ok bs s =>
      let s := s.setPar P.fgCrc (crcRun (s.parN P.fgCrc c) bs) c
      let r := { r with done := r.done + n }
      if r.done < r.total then s.setFg c { s.fg c with run := some r } else s.crcFinish c r

/-- CRC (R631): its first chunk. -/
def fgCrc (c : Nat) (ded : List Nat) (w1 _w2 : Nat) (s : State) : State :=
  let n := fbits w1 12 0
  if fbits w1 18 13 ≠ 0 ∨ 4096 < n ∨ n % 4 ≠ 0 then s.fgHalt c 0x10
  else if ¬ (s.dev.st = .boot ∨ s.dev.st = .test ∨ s.dev.st = .recovery) then s.fgHalt c 0x17
  else
    let s := if fbits w1 21 21 = 1 then s.setPar P.fgCrc 0xFFFFFFFF c else s
    s.crcChunk c ded { shuf := false, crc := true, w1 := w1, w2 := 0, total := n }

/-- CRC of a channel: the next chunk of the one that runs, or a new one. -/
def crcStep (c : Nat) (ded : List Nat) (s : State) : State :=
  match (s.fg c).run with
  | some r => if r.crc ∧ s.fgGranted c then (s.fgServe c).crcChunk c ded r else s
  | none => s.fgRunInstr c ded (fun w => decide (w / 0x10000000 = 7)) (fgCrc c ded)

/-! ### Responses (R611, R627, R628, R636) -/

/-- The chunk's responses are in: the channel goes on, unless it is paused, or halts when a beat has failed. -/
def State.fgDrained (s : State) (c : Nat) : State :=
  if (s.fg c).failing then (s.setFg c { s.fg c with errIrq := true }).fgHalt c (if s.par P.fgCount c = 0 then 0x15 else 0x14)
  else if s.parN P.fgState c = 1 then s.fgChunk c [] else s

/-- An error of one of F0 to F3 makes the period of its lane, or of the spare in that lane's place, an overrun (R630, R41). -/
def State.carrierError (s : State) (c : Nat) : State := if s.par P.spareFor = c then s.spoilLane 4 else s.spoilLane c

/-- WRITE_BEAT_RESPONSE (R628): the response of a channel's oldest write beat; of F0 to F3, whose beats the built-in programs issue, an
error (R630). -/
def writeBeatResponse (c : Nat) (ok : Bool) (s : State) : State :=
  let x := s.fg c
  match x.outstanding with
  | [] => if c < 4 ∧ ¬ ok then s.carrierError c else s
  | b :: rest =>
    let s1 := s.setFg c { x with outstanding := rest }
    if ok then
      let s1 := s1.beatLands b
      if rest.isEmpty ∧ ¬ x.stopping then s1.fgDrained c else s1
    else if x.stopping then s1.incPar P.fgRetried c
    else if ¬ x.failing ∧ b.tries < s.parN P.fgRetry c then
      ((s.setFg c { x with outstanding := rest ++ [{ b with tries := b.tries + 1 }] }).incPar P.fgRetried c).incPar P.fgBeats c
    else
      let s1 := s1.setFg c { s1.fg c with failing := true }
      if rest.isEmpty then s1.fgDrained c else s1

/-- STOP_DRAINED (R611). -/
def stopDrained (c : Nat) (s : State) : State := if (s.fg c).stopping ∧ (s.fg c).outstanding.isEmpty then s.fgIdle c else s

/-! ### Start, pause, lines -/

/-- A channel started from a clean state (R610); one that is disabled pauses at its first beat (R612). -/
def State.fgStart (s : State) (c : Nat) : State :=
  let st := s.parN P.fgState c
  if st = 0 ∨ st = 4 then
    let s := (s.setFg c {}).setPar P.fgPc 0 c
    let s := (each (upto 8) s fun k s => s.setXreg c k 0).setPar P.fgCrc 0xFFFFFFFF c
    (s.setPar P.fgCount 0 c).setPar P.fgState (if s.par P.fgDisable c = 1 then 3 else 1) c
  else s

/-- FG_DISABLE written (R612). -/
def fgDisableWrite (c v : Nat) (s : State) : State :=
  if c < 4 ∨ 16 ≤ c then s
  else
    let was := s.parN P.fgDisable c
    let s := s.setPar P.fgDisable v c
    let x := s.fg c
    let st := s.parN P.fgState c
    if v = 1 ∧ was = 0 ∧ (st = 1 ∨ st = 2) then
      (s.setFg c { x with resume := st, timeoutLeft := x.timeoutAt.map (· - s.now), timeoutAt := none }).setPar P.fgState 3 c
    else if v = 0 ∧ st = 3 ∧ ¬ x.stopping then
      let s := (s.setFg c { x with timeoutAt := x.timeoutLeft.map (s.now + ·), timeoutLeft := none }).setPar P.fgState x.resume c
      match x.resume, x.wait with
      | 2, .line k => if x.latches / 2 ^ k % 2 = 1 then (s.setFg c { s.fg c with latches := x.latches - 2 ^ k }).lineAt k c else s
      | _, _ => if x.run.isSome ∧ x.outstanding.isEmpty then s.fgDrained c else s
    else s

/-- EVENT_LINE_RAISE (R38, R620, R621); a reserved line is never raised. -/
def eventLineRaise (k : Nat) (s : State) : State := if 64 ≤ k ∨ (37 ≤ k ∧ k ≤ 47) then s else s.raiseLine k

/-- WAIT_TIMEOUT (R622). -/
def waitTimeout (c : Nat) (s : State) : State :=
  match (s.fg c).timeoutAt with
  | some t => if s.parN P.fgState c = 2 ∧ t ≤ s.now then s.fgHalt c 0x16 else s
  | none => s

/-! ### Publishing (R633) -/

/-- PUB_PERIOD has passed since the set's last raise. -/
def pubDue (k : Nat) (s : State) : Bool :=
  match s.pubAt.find? fun e => decide (e.1 = k) with
  | some e => decide (e.2 + s.parN P.pubPeriod k * 1000 ≤ s.now)
  | none => true

/-- PUBLISH_RECORD of set k: the record of Table 15.9 written and cleaned, then E16 + k raised. -/
def publishRecord (k : Nat) (s : State) : State :=
  let n := s.parN P.pubN k
  if 8 ≤ k ∨ s.parN P.pubPeriod k = 0 ∨ n = 0 ∨ s.firmware = false ∨ pubDue k s = false then s
  else
    let vals : Bytes := (upto n).flatMap fun i => valueBytes (match s.readPn 0 true (s.parN P.pubPn k i) with
      | some q => q.2
      | none => 0)
    let s : State := s.incPar P.pubSeq k
    let s : State := s.lstore (s.parN P.pubAddr k) (leBytes 4 (s.parN P.pubSeq k) ++ leBytes 4 0 ++ leBytes 8 s.swarmMicros ++ vals)
    let s : State := { s with pubAt := tset s.pubAt k s.now }
    s.raiseLine (16 + k)

end Sys2Proof.Machine
end

