-- ==== Sys2Proof/Machine/Sensing.lean ====
section
/-!
DEFINITION. Current and voltage sensing (chapter 4): codes to values, sampling windows, reconstruction and held
values, calibration, link samples and the sample record.
-/
namespace Sys2Proof.Machine

/-- The list with element i replaced. -/
def setAt {α : Type} (l : List α) (i : Nat) (v : α) : List α := l.set i v

/-- Full scale of a bridge's current channel, in 0.01 A (R154). -/
def State.fullScale (s : State) (b : Nat) : Int := if s.par P.csMode b = 1 then s.par P.sdScale b else s.par P.csScale b

/-- A parameter of chapter 4 as bridge b uses it: an owner write takes effect at the next SE of the bridge's lane (R190). -/
def State.bp (s : State) (b : Nat) (p : Par) (i : Nat := 0) (j : Nat := 0) : Int := tget (s.bridge b).held (s.par p i j) (p.pn i j)

/-- The level of SDk that the front end captures j modulator clocks before now (R155): the clock runs at CLK_PERI / SD_CLK_DIV, and
the capture lies SD_DELAY steps of 2.5 ns after its rising edge. A waveform is a number whose bit i is the level of SDk in the
2.5 ns step that lies i − 15 steps before the one that holds now. The manual states no phase of the divider: its edges lie on the
multiples of its period since the model's start (DESIGN CHOICE, log entry 198). -/
def State.sdBit (s : State) (wave j : Nat) : Bool :=
  let per := 4 * s.parN P.sdClkDiv
  wave.testBit (15 + (2 * s.now + 1) / 5 % per + per * j - s.parN P.sdDelay)

/-- Sum of the captures of SDk with the weights of a filter that spans n modulator clocks. -/
def State.sdSum (s : State) (wave n : Nat) (weight : Nat → Nat) : Nat :=
  (upto n).foldl (fun a j => if s.sdBit wave j then a + weight j else a) 0

/-- Ways to choose two of n. -/
def choose2 (n : Nat) : Nat := n * (n - 1) / 2

/-- Weight of the capture j clocks back in a sinc3 output of ratio r: 3(r − 1) + 1 clocks, weights that sum to r³ (R156, R157). -/
def sinc3 (r j : Nat) : Nat := choose2 (j + 2) + 3 * choose2 (j + 2 - 2 * r) - 3 * choose2 (j + 2 - r)

/-- Weight in a sinc2 output of ratio r: 2r − 1 clocks, weights that sum to r² (Table 4.6). -/
def sinc2 (r j : Nat) : Nat := min (j + 1) (2 * r - 1 - j)

/-- sinc3 output S of SDk at the last modulator clock at or before now (R156, R157). -/
def State.sdOut (s : State) (wave : Int) : Int :=
  let r := s.parN P.sdOsr
  s.sdSum wave.toNat (3 * (r - 1) + 1) (sinc3 r)

/-- OSR³. -/
def State.osr3 (s : State) : Int := s.par P.sdOsr * s.par P.sdOsr * s.par P.sdOsr

/-- The current code of a phase (R154, R156): a converter code for shunts, the sinc3 output of the waveform at SDk for sigma-delta
sensing. -/
def State.curCode (s : State) (b : Nat) (raw : Int) : Int :=
  if s.par P.csMode b = 1 then clamp (rdiv ((2 * s.sdOut raw - s.osr3) * 32767) s.osr3) (-32767) 32767 else clamp raw (-32768) 32767

/-- OVERRANGE of one phase (Table 4.4). -/
def State.overRange (s : State) (b : Nat) (raw : Int) : Bool :=
  if s.par P.csMode b = 1 then decide (9 * s.osr3 < 10 * iabs (2 * s.sdOut raw - s.osr3))
  else decide (32767 ≤ raw) || decide (raw ≤ -32768)

/-- The PHASE_OC detector of a bridge (Table 4.6): a phase above OC_LEVEL of full scale, by the comparator at the shunt's input (in
units of 250 mV / 32,768) or by the sinc2 output of the waveform at SDk. -/
def State.ocDetect (s : State) (b : Nat) (raw : List Int) : Bool :=
  let lvl := s.bp b P.ocLevel b
  raw.any fun v =>
    if s.par P.csMode b = 1 then
      let m := (s.bp b P.sdFastOsr).toNat
      decide (lvl * (m * m : Nat) < 1000 * iabs (2 * (s.sdSum v.toNat (2 * m - 1) (sinc2 m) : Int) - (m * m : Nat)))
    else decide (lvl * 32768 < 1000 * iabs v)

/-- SDk shows a transition within its last 32 modulator clocks (Table 4.6). -/
def State.sdAlive (s : State) (wave : Nat) : Bool := (upto 32).any fun j => s.sdBit wave j != s.sdBit wave (j + 1)

/-- Base current and voltage of the axis that owns a bridge, in 0.01 units (those of axis An for an unowned Bn). -/
def State.baseI (s : State) (b : Nat) : Int := s.hp ((s.axisOfBridge b).getD b) P.baseCurrent
def State.baseV (s : State) (b : Nat) : Int := s.hp ((s.axisOfBridge b).getD b) P.baseVoltage

/-- Code to Q1.30 per unit of BASE_CURRENT (R154). -/
def State.curPu (s : State) (b x : Nat) (code : Int) : Int :=
  let num := (code * 256 - s.par P.ofs b x * 256 - s.par P.ofsCorr b x) * s.par P.gain b x *
    (65536 + s.par P.gainCorr b x) * s.fullScale b * one30
  clamp (rdiv num (256 * 32768 * 65536 * 32768 * s.baseI b)) s32lo s32hi

/-- Offset half and gain half of VCAL_x (Table 4.8). -/
def State.vcalOfs (s : State) (b x : Nat) : Int := signed 16 (s.parN P.vcal b x % 65536)
def State.vcalGain (s : State) (b x : Nat) : Int := signed 16 (s.parN P.vcal b x / 65536)

/-- Phase voltage code to UQ4.28 per unit (R160). -/
def State.phvPu (s : State) (b x : Nat) (code : Nat) : Int :=
  clamp (rdiv (((code : Int) - s.vcalOfs b x) * (65536 + s.vcalGain b x) * s.par P.phvScale b * one28)
    (65536 * 65535 * s.baseV b)) 0 u32hi

/-- DC link code to UQ4.28 per unit, and to 0.01 V (R160, R181). -/
def State.vdcPu (s : State) (b : Nat) (code : Nat) : Int :=
  clamp (rdiv ((code : Int) * s.par P.vdcScale (s.parN P.brLink b) * one28) (65535 * s.baseV b)) 0 u32hi
def State.linkVolts (s : State) (b : Nat) (code : Nat) : Int :=
  rdiv ((code : Int) * s.par P.vdcScale (s.parN P.brLink b)) 65535

/-! ### Sampling windows (R164 to R166) -/

/-- Nanoseconds in steps of 156.25 ps. -/
def steps (ns : Int) : Int := rdiv (ns * 32) 5

/-- Low-side time without a break up to the SE that ends a falling half, in 156.25 ps steps: the high side of a
rising half is on at its end, that of a falling half at its start (R99). -/
def lowTime (half : Nat) (r f : Edge) : Int :=
  let h16 : Int := 16 * half
  let on (e : Edge) : Int := match e.force with
    | .modulate => e.compare
    | .lowOn => 0
    | _ => h16
  if on f = 0 ∧ on r = 0 then 2 * h16 else h16 - on f

/-- T_ON of a bridge (R371), the longest turn-on delay. -/
def State.tOn (s : State) (b : Nat) : Int := s.gp (3 * b) P.deadTime + s.gp (3 * b) P.ilkWait

/-- Window w_x of a phase at a valley SE in steps (R164), from the words in force. -/
def State.window (s : State) (b : Nat) (half : Nat) (w : Words) (x : Nat) : Int :=
  lowTime half (w.rise.getD x {}) (w.fall.getD x {}) - steps (s.tOn b)

/-- MIN_WINDOW of a bridge in steps. -/
def State.minWin (s : State) (b : Nat) : Int := steps (s.bp b P.minWindow b)

/-! ### Formed values (R163, R172 to R176) -/

/-- The phases measured at an SE: shunt phases whose window suffices, sigma-delta phases whose stream lives. -/
def State.measuredAt (s : State) (b half : Nat) (peak : Bool) (w : Words) : List Bool :=
  (upto 3).map fun x =>
    if s.par P.csMode b = 1 then !(bit (s.par P.sdFaults) (3 * b + x))
    else !peak && decide (s.minWin b ≤ s.window b half w x)

/-- Values and sources of the three phases (R165, R172 to R174). -/
def formPhases (meas : List Bool) (i pred : List Int) (win : List Int) (peakShunt : Bool) (i0 : Int) : List Int × List Src :=
  let g := fun (l : List Int) x => l.getD x 0
  if peakShunt then (pred, [.predicted, .predicted, .predicted])
  else
    let m := (upto 3).filter fun x => meas.getD x false
    match m with
    | [] => (pred, [.held, .held, .held])
    | [a] =>
      let us := (upto 3).filter fun x => x ≠ a
      let h := match us with
        | [p, q] => if g win q < g win p then q else p
        | _ => 0
      let r := 3 - a - h
      let vals := setAt (setAt (setAt [0, 0, 0] a (g i a)) h (g pred h)) r (clamp (i0 - g i a - g pred h) s32lo s32hi)
      (vals, setAt (setAt (setAt [.measured, .measured, .measured] a .measured) h .held) r .reconstructed)
    | [a, c] =>
      let r := 3 - a - c
      (setAt i r (clamp (i0 - g i a - g i c) s32lo s32hi), setAt [.measured, .measured, .measured] r .reconstructed)
    | _ => (i, [.measured, .measured, .measured])

/-! ### Calibration (R182 to R187) -/

/-- The corrections of a bridge stand still (R187). -/
def State.calFrozen (s : State) (b : Nat) : Bool := s.stands 0x0304 b || s.stands 0x0305 b

/-- Offset calibration of one phase (R184), counting deviations beyond OFS_TRIP (Table 4.6): samples are taken only while
CAL_ONLINE enables the correction (R183). A standing SENSE_OFFSET ends when no phase that raised it deviates any more. -/
def State.calOffset (s : State) (b x : Nat) (code : Int) : State :=
  if ¬ bit (s.bp b P.calOnline b) 0 then s
  else
    let br := s.bridge b
    let dev := iabs (code - s.par P.ofs b x)
    let run := if s.bp b P.ofsTrip < dev then br.ofsRun.getD x 0 + 1 else 0
    let trip := if run = 0 then setAt br.ofsTrip x false else br.ofsTrip
    let s := s.setBridge b { br with ofsRun := setAt br.ofsRun x run, ofsTrip := trip }
    let s := if run = 0 ∧ !trip.any id ∧ s.stands 0x0304 b then s.unstandCode 0x0304 b else s
    if s.calFrozen b then s
    else
      let e := code * 256 - (s.par P.ofs b x * 256 + s.par P.ofsCorr b x)
      let lim := 256 * s.bp b P.calOfsLimit
      s.setPar P.ofsCorr (clamp (s.par P.ofsCorr b x + e / (2 ^ (s.bp b P.calOfsShift).toNat : Nat)) (-lim) lim) b x

/-- Gain calibration of a bridge at a valley SE (R183, R184); currents in Q1.30 fractions of full scale. Every step starts from the
register GAIN_CORR_x and is rounded to its unit, so that steps below half of it are lost (the manual gives gc_x no resolution of its own:
DESIGN CHOICE, log entry 230). -/
def State.calGain (s : State) (b : Nat) (f : List Int) : State :=
  let r := f.foldl (· + ·) 0
  let mag := f.foldl (fun a v => a + iabs v) 0
  if s.calFrozen b ∨ ¬ bit (s.bp b P.calOnline b) 1 ∨ 5 * mag < one30 then s
  else
    let mu := s.bp b P.calGainMu
    let gc := (upto 3).map fun x => s.par P.gainCorr b x - rdiv (mu * r * f.getD x 0) (one30 * one30)
    let m := rdiv (gc.foldl (· + ·) 0) 3
    each (upto 3) s fun x s => s.setPar P.gainCorr (clamp (gc.getD x 0 - m) (-1311) 1311) b x

/-- The word of VCAL_x from its two halves. -/
def vcalWord (gain ofs : Int) : Int := (unsigned 16 gain * 65536 + unsigned 16 ofs : Nat)

/-- Voltage offset calibration: target 0 (Table 4.5), in the whole codes of VCAL_x (the manual gives it no finer resolution: DESIGN CHOICE,
log entry 231). -/
def State.calVofs (s : State) (b x : Nat) (code : Nat) : State :=
  if s.calFrozen b ∨ ¬ bit (s.bp b P.calOnline b) 2 then s
  else
    let lim := s.bp b P.calOfsLimit
    let vo := s.vcalOfs b x
    let vo' := clamp (vo + ((code : Int) - vo) / (2 ^ (s.bp b P.calOfsShift).toNat : Nat)) (-lim) lim
    s.setPar P.vcal (vcalWord (s.vcalGain b x) vo') b x

/-- Voltage gain calibration: target the link sample of the same sequence (Table 4.5), as fractions of full scale. -/
def State.calVgain (s : State) (b x : Nat) (v vdc : Int) : State :=
  if s.calFrozen b ∨ ¬ bit (s.bp b P.calOnline b) 3 then s
  else
    let fs := rdiv (s.par P.phvScale b * one28) (s.baseV b)
    let r := v - vdc
    let vg' := clamp (s.vcalGain b x - rdiv (s.bp b P.calGainMu * r * v) (if fs = 0 then 1 else fs * fs)) (-1311) 1311
    s.setPar P.vcal (vcalWord vg' (s.vcalOfs b x)) b x

/-- CAL_LIMIT_I and CAL_LIMIT_V (R186). -/
def State.calLimits (s : State) (b : Nat) : Bool × Bool :=
  let ol := 256 * s.bp b P.calOfsLimit
  ((upto 3).any fun x => decide (ol ≤ iabs (s.par P.ofsCorr b x)) || decide (1311 ≤ iabs (s.par P.gainCorr b x)),
   (upto 3).any fun x => decide (s.bp b P.calOfsLimit ≤ iabs (s.vcalOfs b x)) || decide (1311 ≤ iabs (s.vcalGain b x)))

/-- All six switches of a bridge are off. -/
def State.bridgeOff (s : State) (b : Nat) : Bool := (chansOfBridge b).all fun c => !(s.chan c).on

/-- No diode of a bridge conducts: every phase voltage from 2 % to 98 % of vdc (Table 4.5, Table 5.1). -/
def noDiode (v : List Int) (vdc : Int) : Bool := v.all fun x => decide (2 * vdc ≤ 100 * x) && decide (100 * x ≤ 98 * vdc)

/-! ### Link samples (R159, R181, R295, R299, R301) -/

/-- A link sample taken by a bridge: LINK_V, LINK_V_AVG, the VDC_DISAGREE count (Table 4.6). The average is kept in the unit of
LINK_V_AVG (the manual gives it no finer resolution: DESIGN CHOICE, log entry 229). -/
def State.linkSample (s : State) (b : Nat) (code : Nat) : State :=
  let k := s.parN P.brLink b
  let v := s.linkVolts b code
  let l := { s.link k with held := [] }
  let avg := s.par P.linkVAvg k
  let tau := s.bp b P.vdcAvgTau k * 1000
  let avg' : Int := match l.sampleAt with
    | none => v
    | some t0 => avg + rdiv (min ((s.now - t0 : Nat) : Int) tau * (v - avg)) tau
  let (run, agree) := match l.sampleAt with
    | some t0 =>
      if l.sampleBridge ≠ b ∧ s.now ≤ t0 + 10000 then
        if s.bp b P.vdcDisagree k * max v l.sampleV < 1000 * iabs (v - l.sampleV) then (l.disagreeRun + 1, 0) else (0, l.agreeRun + 1)
      else (l.disagreeRun, l.agreeRun)
    | none => (0, 0)
  let below := decide (v < s.par P.linkUvTrip k)
  let l := { l with sampleAt := some s.now, sampleV := v, sampleBridge := b, disagreeRun := run, agreeRun := agree,
                    uvSince := if below then some (l.uvSince.getD s.now) else none }
  let s := ((s.setLink k l).setPar P.linkV v k).setPar P.linkVAvg avg' k
  if 4 ≤ agree ∧ s.stands 0x0306 k then s.unstandCode 0x0306 k else s

/-- Commanded-on time of a chopper up to now (R296). -/
def Link.count (l : Link) (now : Nat) : Link :=
  if l.chopOn then { l with onNs := l.onNs + (now - l.countAt), countAt := now } else { l with countAt := now }

/-- Chopper channel of a link: C0 high, C1 low channel of G12. -/
def chopCh (k : Nat) : Nat := 24 + k

/-- The chopper commanded on or off (R295, R385): a turn-on that the cell has refused or cut off is commanded again by the next sample
that asks for it. In direct mode the cell obeys its pin alone (R388). -/
def State.chopCmd (s : State) (k : Nat) (on : Bool) : State :=
  let l := (s.link k).count s.now
  let cell (s : State) : State := if s.directChop k then s else if on then s.turnOn (chopCh k) else s.turnOff (chopCh k)
  if on ∧ ¬ l.chopOn then (cell (s.setLink k { l with chopOn := true, chopAt := s.now })).setBit P.linkStatus 3 true k
  else if on then cell s
  else if l.chopOn then (cell (s.setLink k { l with chopOn := false, onThrough := false })).setBit P.linkStatus 3 false k
  else s

/-- Chopper control at a link sample (R295). -/
def State.chopControl (s : State) (k : Nat) : State :=
  if s.par P.chopEn k ≠ 1 then s.chopCmd k false
  else
    let v := s.par P.linkV k
    let l := s.link k
    if s.par P.chopOn k ≤ v then s.chopCmd k true
    else if v ≤ s.par P.chopOff k ∧ l.chopOn ∧ l.chopAt + s.parN P.chopMinOn k * 1000 ≤ s.now then s.chopCmd k false
    else s

/-- CHOP_FAULT on a link: REGEN_BLOCK, fault on the axes of the link (R299, R300). -/
def State.chopFault (s : State) (k : Nat) (path : String) : State :=
  let l := s.link k
  let s := s.setLink k { l with chopFault := true, regenBlock := true }
  let s := (s.setBit P.linkStatus 0 true k).setBit P.linkStatus 4 true k
  s.raiseAll 0x0604 (s.axesOnLink k) k path

/-- The lane whose control period is the link period (R299). -/
def State.linkLane (s : State) (k : Nat) : Option Nat :=
  (upto 4).find? fun n => match s.axisOfLane n with
    | some a => s.switching a && (s.bridgesOf a).any fun b => decide (s.parN P.brLink b = k)
    | none => (s.par P.spareFor = n) && (match s.axisOfLane 4 with
        | some a => s.switching a && (s.bridgesOf a).any fun b => decide (s.parN P.brLink b = k)
        | none => false)

/-- The sample at the end of a link period (R299): three rising ones with the chopper on throughout are a fault. -/
def State.linkPeriod (s : State) (k : Nat) : State :=
  let l := s.link k
  let v := s.par P.linkV k
  let rising := match l.lastPeriodV with
    | some v0 => l.onThrough && decide (s.par P.chopRise k ≤ v - v0)
    | none => false
  let run := if rising then l.riseRun + 1 else 0
  let s := s.setLink k { l with lastPeriodV := some v, riseRun := run, onThrough := l.chopOn }
  if 3 ≤ run ∧ ¬ l.chopFault then s.chopFault k ("CTL/HEARTH/5/" ++ dec k) else s

/-- LINK_OV (R301): every axis on the link goes to its safe state. -/
def State.linkOv (s : State) (k : Nat) : State :=
  if s.par P.linkOvTrip k ≤ s.par P.linkV k then
    let ks := (s.axesOnLink k).filter fun a => s.raisable 0x0605 a
    if ks.isEmpty then s else s.raiseAll 0x0605 ks k ("CTL/HEARTH/5/" ++ dec k)
  else s

/-- Everything the link stage does at a link sample; `ends` where the sample ends the link's period. -/
def State.linkStage (s : State) (b : Nat) (code : Nat) (ends : Bool) : State :=
  let k := s.parN P.brLink b
  let s := s.linkSample b code
  let s := if ends then s.linkPeriod k else s
  (((s.chopControl k).linkOv k).idleClear 0x0605 k).idleClear 0x0606 k

/-- |i| of a phase in 0.01 A. -/
def State.phaseAmps (s : State) (b x : Nat) : Int := rdiv (iabs ((s.bridge b).i.getD x 0) * s.baseI b) one30

/-! ### Pulses of the pulse test (R439) -/

/-- The channels that a pulse of a switch position turns on: its own, and the opposite switch of the next phase. -/
def pulseChans (b n : Nat) : List Nat := [6 * b + n, 6 * b + 2 * ((n / 2 + 1) % 3) + (1 - n % 2)]

/-- The pulse test of a bridge. -/
def State.pulseTest (s : State) (b : Nat) : Option PulseTest := (s.fanner.pulse.find? fun e => decide (e.1 = b)).map (·.2)

/-- A pulse begins: 200 µs at most, and the bridge switches (R439). -/
def State.pulseOn (s : State) (b n : Nat) : State :=
  let s := each (pulseChans b n) s fun c s => s.turnOn c
  { s with fanner := { s.fanner with switchedAt := tset s.fanner.switchedAt b s.now,
                                     pulse := s.fanner.pulse.map fun e => if e.1 = b then (b, { e.2 with pulse := some (n, s.now + 200000) }) else e } }

/-- The pulse of a bridge ends. -/
def State.pulseOff (s : State) (b : Nat) : State :=
  match (s.pulseTest b).bind (·.pulse) with
  | none => s
  | some (n, _) =>
    let s := each (pulseChans b n) s fun c s => s.turnOff c
    { s with fanner := { s.fanner with pulse := s.fanner.pulse.map fun e => if e.1 = b then (b, { e.2 with pulse := none }) else e } }

/-- The channel is one that a running pulse of the pulse test has turned on. -/
def State.pulsing (s : State) (c : Nat) : Bool :=
  match (s.pulseTest (c / 6)).bind (·.pulse) with
  | some (n, _) => (pulseChans (c / 6) n).contains c
  | none => false

/-- A pulse ends where a conversion shows that |i| has reached JT_I1 (R439; log entry 240). -/
def State.pulseReach (s : State) (b : Nat) : State :=
  match (s.pulseTest b).bind (·.pulse) with
  | none => s
  | some (n, _) => if 10 * s.jp b P.jtI1 (6 * b + n) ≤ s.phaseAmps b (n / 2) then s.pulseOff b else s

/-! ### SENSE_STATUS (Table 4.7) -/

/-- SENSE_STATUS of a bridge for its last SE. Bit 0 follows the detector at once, between SEs too (the manual's "for the last SE" leaves
that open: DESIGN CHOICE, log entry 199). -/
def State.senseStatus (s : State) (b : Nat) (above : Bool) : State :=
  let br := s.bridge b
  let (li, lv) := s.calLimits b
  s.setPar P.senseStatus (ofBits [br.oc, above, br.shifted, br.src.contains .reconstructed, br.src.contains .held, br.guard, li, lv] : Nat) b

/-- MEAS_FLAGS of a bridge block (Table 4.4). -/
def State.measFlags (s : State) (b : Nat) (above : Bool) : Nat :=
  let br := s.bridge b
  let c : Src → Nat := fun x => match x with | .measured => 0 | .reconstructed => 1 | .held => 2 | .predicted => 3
  let g := fun x => c (br.src.getD x .measured)
  g 0 + 4 * g 1 + 16 * g 2 + 64 * (if br.shifted then 1 else 0) + 128 * (if br.guard then 1 else 0) +
    256 * (if above then 1 else 0) + 512 * s.parN P.csMode b

/-- The current codes of a bridge block with MEAS_FLAGS, and its current values (Table 4.3); a formed value reads 0. -/
def State.codeBytes (s : State) (b : Nat) (above : Bool) : Bytes :=
  ((s.bridge b).rawI.flatMap fun v => leBytes 2 (unsigned 16 v)) ++ leBytes 2 (s.measFlags b above)
def State.currentBytes (s : State) (b : Nat) : Bytes :=
  let br := s.bridge b
  (upto 3).flatMap fun x => leBytes 4 (unsigned 32 (if br.src.getD x .measured = .measured then br.i.getD x 0 else 0))

/-- A bridge block of the sample record (Table 4.3), 64 bytes. -/
def State.bridgeBlock (s : State) (b : Nat) (above : Bool) : Bytes :=
  let br := s.bridge b
  s.codeBytes b above ++ (br.rawV.flatMap fun v => leBytes 2 v) ++ s.currentBytes b ++
    leBytes 4 br.vdc.toNat ++ (br.v.flatMap fun v => leBytes 4 v.toNat) ++ leBytes 1 b ++ List.replicate 19 0#8

/-- Address of a sample record in its plane. -/
def recordAddr (plane periodNo : Nat) : Nat := 0x20050000 + plane * 0x10000 + periodNo % 128 * 0x200

/-- The sample plane of a lane: that of the lane it replaces for L4. -/
def State.planeFor (s : State) (n k : Nat) : Nat := if n < 4 then n else s.parN P.lane k

/-- The current samples of a period moved into the record of its plane, bridge block by bridge block (Table 1.7). -/
def State.writeCurrents (s : State) (n k : Nat) (above : Nat → Bool) : State :=
  let base := recordAddr (s.planeFor n k) (s.lane n).periodNo + 32
  ((s.bridgesOf k).zipIdx).foldl (fun s x =>
    (s.lwrite (base + 64 * x.2) (s.codeBytes x.1 (above x.1))).lwrite (base + 64 * x.2 + 16) (s.currentBytes x.1)) s

/-- The sample record of a lane's period written into its plane (R162, Tables 4.2 and 6.6). -/
def State.writeRecord (s : State) (n k : Nat) (kind : Nat) (above : Nat → Bool) (fb : Bytes) : State :=
  let l := s.lane n
  let plane := s.planeFor n k
  let bs := s.bridgesOf k
  let blocks := bs.flatMap fun b => s.bridgeBlock b (above b)
  let rec0 := leBytes 4 l.periodNo ++ leBytes 4 (unsigned 32 ((if kind = 2 then s.now * 2 / 5 else l.seX / 80 : Nat))) ++ leBytes 1 bs.length ++ leBytes 1 kind ++
    List.replicate 22 0#8 ++ blocks ++ List.replicate (256 - blocks.length) 0#8 ++ fb ++ List.replicate (224 - fb.length) 0#8
  s.lwrite (recordAddr plane l.periodNo) rec0

end Sys2Proof.Machine
end

