-- ==== Sys2Proof/Machine/PanRecord.lean ====
section
/-!
DEFINITION. The period record that the Pantry takes when a lane's computation completes (R643, Tables 4.2 to 4.4, 16.3).
-/
namespace Sys2Proof.Machine

/-- An edge word (Table 3.3). -/
def Edge.word (e : Edge) : Nat :=
  (match e.force with
    | .modulate => 0 | .lowOn => 1 | .highOn => 2 | .bothOff => 3) * 0x40000000 + e.compare % 0x400000

/-- A byte string with the bytes from an offset replaced. -/
def splice (bs : Bytes) (off : Nat) (new : Bytes) : Bytes := bs.take off ++ new ++ bs.drop (off + new.length)

/-- The period record of a lane that serves axis k: its sample record with the formed phase values, and Table 16.3. -/
def State.periodRecord (s : State) (k n plane : Nat) : Bytes :=
  let l := s.lane n
  let bs := s.bridgesOf k
  let base := s.lread (recordAddr plane l.periodNo) 0x200
  let base := (bs.zipIdx).foldl (fun r x =>
    splice r (0x30 + 0x40 * x.2) ((upto 3).flatMap fun p => leBytes 4 (unsigned 32 ((s.bridge x.1).i.getD p 0)))) base
  let a := s.ax k
  let edges := (upto 4).flatMap fun i =>
    match bs[i]? with
    | some b =>
      let w := tget l.shadow {} b
      let es := if l.peak && decide (s.par P.update k = 1) then w.fall else w.rise
      (upto 3).flatMap fun p => leBytes 4 ((es.getD p {}).word)
    | none => List.replicate 12 0#8
  base ++ leBytes 4 a.pos.theta ++ leBytes 4 (unsigned 32 a.pos.we) ++ leBytes 4 (unsigned 32 (s.par P.idMeas k)) ++
    leBytes 4 (unsigned 32 (s.par P.iqMeas k)) ++ leBytes 4 (unsigned 32 (s.par P.vdOut k)) ++ leBytes 4 (unsigned 32 (s.par P.vqOut k)) ++
    leBytes 4 (unsigned 32 a.hearth.taken.tauRef) ++ leBytes 2 (s.parN P.ctrlStatus k) ++ leBytes 2 (s.parN P.posStatus k) ++
    leBytes 4 (unsigned 32 (if s.hiveAx = k then s.ring.latched.share else 0)) ++ edges ++ List.replicate 44 0#8

/-- A lane-paced channel takes one sample at every D-th period record of its lane, the first after the arm among them
(R641, R652). -/
def PanChan.pacedBy (x : PanChan) (plane periodNo : Nat) : PanChan :=
  if x.src / 0x10000000 = 0 ∨ 0x80000000 ≤ x.pace ∨ x.pace / 0x1000000 % 4 ≠ plane then x
  else
    let d := x.pace % 256 + 1
    { x with seen := x.seen + 1, armPeriod := some (x.armPeriod.getD periodNo), due := if x.seen % d = 0 then x.due + 1 else x.due }

/-- The Pantry takes the period record of a lane (R643). -/
def State.panPeriod (s : State) (k n plane : Nat) : State :=
  let p := s.pantry
  let p := { p with records := tset p.records plane (s.periodRecord k n plane) }
  let p := if s.panOn then { p with chans := p.chans.map fun c => (c.1, c.2.pacedBy plane (s.lane n).periodNo) } else p
  { s with pantry := p }

end Sys2Proof.Machine
end

