-- ==== Sys2Proof/Machine/Feedback.lean ====
section
/-!
DEFINITION. Feedback interfaces (chapter 6): encoders, Hall switches, resolvers and SSI. Interface i is ENCi for
0 to 3, RES(i − 4) for 4 and 5, SSI(i − 6) for 6 to 9 (R657). Encoder speeds are held in counts/s in 2^-16,
resolver and SSI speeds in angle counts/s.
-/
namespace Sys2Proof.Machine

/-! ### Interfaces -/

/-- The interface a SENSOR_SEL code names (Table 6.1). -/
def selIface (sel : Nat) : Option Nat :=
  match sel / 16 with
  | 1 => some (sel % 16) | 2 => some (sel % 16) | 3 => some (4 + sel % 16) | 4 => some (6 + sel % 16)
  | _ => none

/-- The feedback interface that serves an axis (SENSOR_SEL). -/
def State.sel (s : State) (k : Nat) : Option Nat := selIface (s.hp k P.sensorSel).toNat

/-- The axis that selects an interface. -/
def State.axisOfIface (s : State) (i : Nat) : Option Nat := (upto 4).find? fun k => s.sel k = some i

def State.fb (s : State) (i : Nat) : FbCommon :=
  if i < 4 then (s.enc i).fb else if i < 6 then (s.res (i - 4)).fb else (s.ssi (i - 6)).fb

def State.setFb (s : State) (i : Nat) (f : FbCommon) : State :=
  if i < 4 then s.setEnc i { s.enc i with fb := f }
  else if i < 6 then s.setRes (i - 4) { s.res (i - 4) with fb := f }
  else s.setSsi (i - 6) { s.ssi (i - 6) with fb := f }

/-- Parameters of chapter 6 in force: those the last sample took (R275). -/
def State.fp (s : State) (i : Nat) (p : Par) (k : Nat) : Int :=
  match (s.fb i).cfg with
  | none => s.par p k
  | some c => tget c (p.dflt.value k 0) (p.pn k 0)
def State.fpN (s : State) (i : Nat) (p : Par) (k : Nat) : Nat := (s.fp i p k).toNat

/-- An interface is enabled, by the parameters in force; the owner has it enabled from its next sample on. -/
def State.ifaceOn (s : State) (i : Nat) : Bool :=
  if i < 4 then decide (s.fp i P.encMode i ≠ 0)
  else if i < 6 then decide (s.fp i P.resEn (i - 4) = 1)
  else decide (i < 10) && decide (s.fp i P.ssiEn (i - 6) ≠ 0)
def State.ifaceSet (s : State) (i : Nat) : Bool :=
  if i < 4 then decide (s.par P.encMode i ≠ 0)
  else if i < 6 then decide (s.par P.resEn (i - 4) = 1)
  else decide (i < 10) && decide (s.par P.ssiEn (i - 6) ≠ 0)

/-- Divisor n of 10⁸ that gives the excitation frequency (R257). -/
def State.excDiv (s : State) (k : Nat) : Nat :=
  let f := s.fpN (4 + k) P.resExcFreq k
  (2 * 100000000 + f) / (2 * max f 1)

/-- The excitation output of a resolver interface follows its parameters and its stops (R257, R261): another frequency or a new start
leaves the place of its peaks open until the first pair shows it (DESIGN CHOICE, log entry 208). -/
def State.drive (s : State) (k : Nat) : State :=
  let r := s.res k
  let on := s.ifaceOn (4 + k) && r.excOn
  let n := s.excDiv k
  let s := s.setRes k { r with driveMv := if on then s.fpN (4 + k) P.resExcAmp k else 0, driveN := n,
                               base := if on && decide (r.driveMv ≠ 0) && decide (n = r.driveN) then r.base else none }
  if s.ifaceOn (4 + k) then s.setPar P.resExcEff (rdiv 10000000000 (max n 1 : Nat)) k else s

/-- Hall sector of a code H (Table 6.3). -/
def hallSector (h : Nat) : Option Nat :=
  match h with
  | 1 => some 0 | 3 => some 1 | 2 => some 2 | 6 => some 3 | 4 => some 4 | 5 => some 5 | _ => none

/-- Hall switches that come on: the code of the lines' levels, and its sector where it is a valid one. -/
def Enc.hallStart (e : Enc) : Enc :=
  let h := ofBits [e.a, e.b, e.z]
  { e with hall := h, sector := (hallSector h).getD e.sector, hallSeen := (hallSector h).isSome }

/-- The parameters of chapter 6 taken at a sample (R275). A resolver that comes on starts its tracking loop anew (R258), an SSI interface
accepts any life counter and takes the delay as 2 µs once (R262, R267); any life counter too where its frames become capped ones. Hall
switches that come on begin in the sector of the levels their lines have then (R241, R245). -/
def State.takeFbCfg (s : State) (i : Nat) : State :=
  let was := s.ifaceOn i
  let wasCapped := decide (6 ≤ i) && decide (s.fp i P.ssiEn (i - 6) = 2)
  let s := s.setFb i { s.fb i with cfg := some (s.params.filter fun e => decide (0x6100 ≤ e.1) && decide (e.1 < 0x6260)) }
  let comes := s.ifaceOn i && !was
  if i < 4 then (if comes then s.setEnc i (s.enc i).hallStart else s)
  else if i < 6 then
    let r := s.res (i - 4)
    (s.setRes (i - 4) (if comes then { r with started := false, wT := 0 } else r)).drive (i - 4)
  else
    let x := s.ssi (i - 6)
    let capped := decide (s.fp i P.ssiEn (i - 6) = 2) && !wasCapped
    s.setSsi (i - 6) { x with firstFrame := x.firstFrame || comes || capped, firstDelay := x.firstDelay || comes }

/-- FILT_N of an interface. -/
def State.filtN (s : State) (i : Nat) : Nat :=
  max 1 (if i < 4 then s.fp i P.encFiltN i else if i < 6 then s.fp i P.resFiltN (i - 4) else s.fp i P.ssiFiltN (i - 6)).toNat

def fbPath (i : Nat) : String := "CTL/FEEDBACK/" ++ dec i

/-- An interface declared faulty: filter cold, source dropped by the next fusion, fault raised (R269, Table 6.8). A condition of a fault
that stands already restarts the second of R270; one of another fault declares that fault too. -/
def State.declareFaulty (s : State) (i code : Nat) : State :=
  let f := s.fb i
  if f.faulty ∧ s.stands code i then s.setFb i { f with clearSince := s.now }
  else
    let s := s.setFb i { f with faulty := true, filt := [], filtN := 0, taken := 0, warm := false, clearSince := s.now }
    let ks := (s.axisOfIface i).toList
    let s := ks.foldl (fun s k => s.setBit P.coldFlags 0 true k) s
    s.raiseAll code ks i (fbPath i)

/-- Mean of the filter's samples. -/
def FbCommon.mean (f : FbCommon) : Int := rdiv (f.filt.foldl (· + ·) 0) (max f.filt.length 1 : Nat)

/-- The filter output: 0 while cold. -/
def FbCommon.out (f : FbCommon) : Int := if f.warm then f.mean else 0

/-- The filter after a raw sample, `fill` where R250 fills it, at length n (R249, R250); a new n fills it with its output (Table 6.5). -/
def FbCommon.filter (f : FbCommon) (n : Nat) (raw : Int) (fill : Bool) : FbCommon :=
  let base := if f.filtN = n then f.filt else List.replicate n f.out
  { f with filt := if fill then List.replicate n raw else (raw :: base).take n, filtN := n, taken := f.taken + 1,
           warm := f.warm || decide (n ≤ f.taken + 1) }

/-- The report of R238. -/
def FbCommon.code (f : FbCommon) (still suspect : Bool) : Nat :=
  if f.faulty then 4 else if suspect then 3 else if still then 1 else if f.warm then 0 else 2

/-- COLD_FLAGS bit 0 of the axis an interface serves. -/
def State.coldSpeed (s : State) (i : Nat) : State :=
  match s.axisOfIface i with
  | none => s
  | some k => s.setBit P.coldFlags 0 (!(s.fb i).warm) k

/-! ### Encoders and Hall switches -/

/-- Counts per turn (R240, R245). -/
def State.cpt (s : State) (k : Nat) : Nat := if s.fp k P.encMode k = 2 then 6 else 4 * (s.fp k P.encLines k).toNat

/-- An edge fault (R242). -/
def State.edgeFault (s : State) (k : Nat) : State :=
  let s := s.incPar P.encEdgeFaults k
  let e := s.enc k
  let fs := s.now :: recent s.now 1000000 e.faults
  let s := s.setEnc k { e with faults := fs.take 8 }
  if 8 ≤ fs.length then s.declareFaulty k 0x0502 else s

/-- A motion transition in a direction: count, run and travel (R240, R247, R248, R256). -/
def State.encMotion (s : State) (k : Nat) (d : Int) (stamp : Nat) : State :=
  let e := s.enc k
  let m := e.motion + d
  let fresh := e.run.isEmpty || decide (d ≠ e.dir)
  let e := { e with motion := m, dir := d, run := if fresh then [(stamp, m)] else (stamp, m) :: e.run,
                    reversed := e.reversed || (!e.run.isEmpty && decide (d ≠ e.dir)), lastT := stamp, lastDir := d,
                    sinceStill := e.sinceStill + 1, travel := if d = e.lastDir then e.travel + 1 else 1 }
  (s.setEnc k e).setPar P.encCount (signed 32 (unsigned 32 (s.par P.encCount k + d))) k

/-- ENC_TRANSITION (R241, R242, R240, R245): the levels of A, B and Z after a change, its timestamp, and for how
long the new level held. The lines of an interface that is off are followed too: it comes on with the levels they have then. -/
def encTransition (k : Nat) (a b z : Bool) (stamp hold : Nat) (s : State) : State :=
  if 4 ≤ k then s
  else if s.fp k P.encMode k = 0 then s.setEnc k { s.enc k with a := a, b := b, z := z }
  else
    let e := s.enc k
    if (hold : Int) < s.fp k P.encMinEdge k then s.edgeFault k
    else if s.fp k P.encMode k = 1 then
      let s' := s.setEnc k { e with a := a, b := b, z := z }
      if a ≠ e.a ∧ b ≠ e.b then s'.edgeFault k
      else if a ≠ e.a then s'.encMotion k (if a ≠ b then 1 else -1) stamp
      else if b ≠ e.b then s'.encMotion k (if a = b then 1 else -1) stamp
      else s'
    else
      let s' := s.setEnc k { e with a := a, b := b, z := z, hall := ofBits [a, b, z] }
      match hallSector (ofBits [a, b, z]) with
      | none => s'.edgeFault k
      | some sec =>
        if ¬ e.hallSeen then s'.setEnc k { s'.enc k with sector := sec, hallSeen := true }
        else if sec = e.sector then s'
        else if sec = (e.sector + 1) % 6 then
          (s'.setEnc k { s'.enc k with sector := sec, sectorDir := 1 }).encMotion k 1 stamp
        else if e.sector = (sec + 1) % 6 then
          (s'.setEnc k { s'.enc k with sector := sec, sectorDir := -1 }).encMotion k (-1) stamp
        else s'.edgeFault k

/-- The condition of R243 stands on a pair that the interface uses: A and B in encoder mode, and Z with index checking. -/
def State.lineLow (s : State) (k : Nat) : Bool :=
  decide (s.fp k P.encMode k = 1) && (bitsOf 3 (s.enc k).lineLoss).any fun p => decide (p < 2) || decide (s.fp k P.encIndexEn k = 1)

/-- FB_LINE (R243): a pair (0 A, 1 B, 2 Z) below 200 mV for 1 µs, or back above it. -/
def fbLine (k pair : Nat) (low : Bool) (s : State) : State :=
  if 4 ≤ k ∨ 2 < pair then s
  else
    let e := s.enc k
    let m := maskOf ((bitsOf 3 e.lineLoss).filter (· ≠ pair) ++ if low then [pair] else [])
    let was := s.lineLow k
    let s := s.setEnc k { e with lineLoss := m }
    if s.lineLow k then (if low then s.declareFaulty k 0x0503 else s)
    else if was then s.setFb k { s.fb k with clearSince := s.now } else s

/-- d of R253: a count wrapped into −cpt/2 to cpt/2 − 1. -/
def wrapCount (cpt : Nat) (d : Int) : Int :=
  let c : Int := (max cpt 1 : Nat)
  (d + c / 2) % c - c / 2

/-- The voter's side of a new reference (R196): the source returns to SENSOR_OFFSET, or, once it has moved from it
to a learned offset, the learned offset takes the opposite of the jump. -/
def State.newReference (s : State) (k : Nat) (corr : Int) : State :=
  match s.axisOfIface k with
  | none => s
  | some x =>
    let s := s.setBit P.coldFlags 4 false x
    let p := (s.ax x).pos
    if bit (s.par P.posStatus x) 9 ∧ p.offMoved then
      let da := rdiv (corr * 4294967296 * s.hp x P.polePairs) (max (s.cpt k) 1 * max (s.hp x P.sensorPp).toNat 1 : Nat)
      let jump := if s.hp x P.sensorDir = 1 then -da else da
      s.setPar P.sensorOfsLearned (angAdd (s.parN P.sensorOfsLearned x) (-jump)) x
    else
      (s.setBit P.posStatus 9 false x).modAx x fun a => { a with pos := { a.pos with usedOffset := true, learned := false } }

/-- An index event of a count decided (R253 to R255, Table 6.4). -/
def State.decideIndex (s : State) (k : Nat) (count : Int) : State :=
  let e := s.enc k
  let d := wrapCount (s.cpt k) (count - s.fp k P.encIndexRef k)
  let tol := s.fp k P.encIdxTol k
  let correct (s : State) : State := s.setPar P.encCount (signed 32 (unsigned 32 (s.par P.encCount k - d))) k
  let sure (b : Bool) (e : Enc) : Enc := { e with fb := { e.fb with suspect := b } }
  if e.needRef then
    ((correct s).setEnc k (sure false { e with needRef := false, referenced := true, everRef := true, candidate := none })).newReference k (-d)
  else if iabs d ≤ tol then
    let s := (correct s).setEnc k (sure false { e with candidate := none, idxCorr := e.idxCorr || decide (d ≠ 0) })
    if d ≠ 0 then s.incPar P.encSlipCount k else s
  else if e.candidate.any fun c => decide (iabs (d - c) ≤ tol) then
    ((correct s).setEnc k (sure false { e with candidate := none, idxMoved := true, idxCorr := true, everRef := true })).newReference k (-d)
  else s.setEnc k (sure true { e with candidate := some d })

/-- INDEX_EVENT (R253). The event is decided at the sample that follows, so that a fault declared before that sample goes first
(Table 6.5; log entry 207). -/
def indexEvent (k : Nat) (rising : Bool) (s : State) : State :=
  let e := s.enc k
  if 4 ≤ k ∨ s.fp k P.encMode k ≠ 1 ∨ s.fp k P.encIndexEn k ≠ 1 then s
  else
    let e := { e with z := rising }
    if e.fb.faulty ∨ ¬ ((rising ∧ e.lastDir = 1) ∨ (¬ rising ∧ e.lastDir = -1)) then s.setEnc k e
    else s.setEnc k { e with travel := 0, idx := e.idx ++ [s.par P.encCount k] }

/-- The index events since the last sample decided, in their order; each correction moves the counts of those after it. A faulty
interface ignores them. -/
def State.applyIndex (s : State) (k : Nat) : State :=
  let e := s.enc k
  let s := s.setEnc k { e with idx := [] }
  if e.fb.faulty then s
  else
    (e.idx.foldl (fun (acc : State × Int) c =>
      let t := acc.1.decideIndex k (c + acc.2)
      (t, acc.2 + (t.par P.encCount k - acc.1.par P.encCount k))) (s, 0)).1

/-- INDEX_MISSED (R256). -/
def indexMissed (k : Nat) (s : State) : State :=
  let e := s.enc k
  if k < 4 ∧ s.fp k P.encMode k = 1 ∧ s.fp k P.encIndexEn k = 1 ∧ e.referenced ∧
      (s.cpt k : Int) + s.fp k P.encIdxTol k < e.travel then
    (s.setEnc k { e with travel := 0, idxMissed := true }).incPar P.encMissedIndex k
  else s

/-- ENC_STANDSTILL (R247): a transition at the moment the time expires still counts (Table 6.5). -/
def encStandstill (k : Nat) (s : State) : State :=
  let e := s.enc k
  if k < 4 ∧ s.fp k P.encMode k ≠ 0 ∧ ¬ e.still ∧ (e.lastT : Int) + 1000 * s.fp k P.encStillTime k < s.now then
    s.setEnc k { e with still := true, sinceStill := 0, run := [] }
  else s

/-- Raw speed sample in counts/s in 2^-16 (R248). -/
def Enc.raw (e : Enc) (tSE prev : Nat) : Int :=
  let q (n : Int) (dt : Nat) : Int := rdiv (n * 65536 * 1000000000) (max dt 1 : Nat)
  match e.run with
  | [] => 0
  | [_] => e.dir * q 1 (tSE - prev)
  | j :: r =>
    let i := match r.find? (fun p => p.1 ≤ prev) with
      | some p => p
      | none => r.getLastD j
    let i := if j.1 ≤ prev then r.headD j else i
    q (j.2 - i.2) (j.1 - i.1)

/-- Encoder angle at SE (R244). -/
def encAngle (cpt : Nat) (count f : Int) : Nat :=
  let m : Int := (256 * max cpt 1 : Nat)
  ((((count % (max cpt 1 : Nat)) * 256 + f) % m) * 4294967296 / m).toNat

/-- Hall angle at SE (R246), every bound truncated from its exact value; v in counts/s in 2^-16. -/
def hallAngle (sector : Nat) (dir v : Int) (dt : Nat) (interp : Bool) : Nat :=
  let bound (n : Nat) : Int := (n * 4294967296 / 6 : Nat)
  if interp then
    let x := rdiv (v * 4294967296 * dt) (65536 * 6 * 1000000000)
    unsigned 32 (clamp ((if 0 ≤ dir then bound sector else bound (sector + 1)) + x) (bound sector) (bound (sector + 1)))
  else (2 * sector + 1) * 4294967296 / 12

/-- STATUS bits of Table 6.7. -/
def Enc.statusBits (e : Enc) (low : Bool) : Nat :=
  ofBits [e.still, !e.fb.warm, e.fb.suspect, e.fb.faulty, e.reversed, low, false, e.referenced,
    e.idxCorr, e.idxMoved, e.idxMissed]

/-- One sample of an encoder or Hall interface at tSE, the one before it at prev (R244 to R251). -/
def State.encSample (s : State) (k tSE prev : Nat) : State :=
  let s := (s.takeFbCfg k).applyIndex k
  let s := if s.lineLow k ∧ ¬ (s.enc k).fb.faulty then s.declareFaulty k 0x0503 else s
  let e := s.enc k
  let ends := e.still && decide (2 ≤ e.sinceStill)
  let still := e.still && !ends
  let raw := if still then 0 else e.raw tSE prev
  let f := e.fb.filter (s.filtN k) raw (ends || (e.reversed && !still))
  let cap : Int := if e.lastT < tSE then rdiv (65536 * 1000000000) (tSE - e.lastT : Nat) else s32hi * 65536
  let v := if still then 0 else clamp f.out (-cap) cap
  let rep := f.code still f.suspect
  let interp := decide (rep = 0) && decide (s.fp k P.encInterp k = 1)
  let cpt := s.cpt k
  let a : Nat :=
    if s.fp k P.encMode k = 2 then hallAngle e.sector e.sectorDir v (tSE - e.lastT) interp
    else
      let fr := if interp then sgn v * min 255 (rdiv (256 * iabs v * (tSE - e.lastT : Nat)) (65536 * 1000000000)) else 0
      encAngle cpt (s.par P.encCount k) fr
  let sp := clamp (rdiv v (max cpt 1 : Nat)) s32lo s32hi
  let e := { e with still := still, fb := { f with angle := a, speed := sp, report := rep, sampleAt := tSE } }
  let st : Nat := e.statusBits (s.lineLow k)
  let e := { e with fb := { e.fb with status := st }, reversed := false, idxCorr := false, idxMoved := false, idxMissed := false,
                    run := e.run.take 2 }
  ((((s.setEnc k e).setPar P.encAngle a k).setPar P.encSpeed sp k).setPar P.encStatus st k).coldSpeed k

/-! ### Resolvers -/

/-- How far a sampling instant lies behind a positive excitation peak, in 1/1,024 ns: by RES_PHASE, and half a period more for a negative
peak (R257). -/
def State.pairOffset (s : State) (k : Nat) (pos : Bool) : Int :=
  10 * s.excDiv k * s.fp (4 + k) P.resPhase k + (if pos then 0 else 5120 * s.excDiv k)

/-- A sample pair is due (R257): at the peaks, each delayed by RES_PHASE, in the nanosecond of that moment. -/
def State.pairDue (s : State) (k : Nat) (pos : Bool) : Bool :=
  match (s.res k).base with
  | none => true
  | some b =>
    let p : Int := (10240 * max (s.excDiv k) 1 : Nat)
    let x := (1024 * (s.now : Int) - b - s.pairOffset k pos) % p
    decide (x < 1024) || decide (p - 1024 < x)

/-- RESOLVER_SAMPLE_PAIR (R257, R258, R260, R261): the 16-bit codes of sine and cosine, and whether the peak is positive. -/
def resolverPair (k : Nat) (sinC cosC : Int) (pos : Bool) (s : State) : State :=
  if 2 ≤ k ∨ ¬ s.ifaceOn (4 + k) ∨ ¬ (s.res k).excOn ∨ ¬ s.pairDue k pos then s
  else
    let i := 4 + k
    let r := s.res k
    let r := { r with base := some (r.base.getD (1024 * (s.now : Int) - s.pairOffset k pos)) }
    let sinC := clamp sinC (-32768) 32767
    let cosC := clamp cosC (-32768) 32767
    let g : Int := if pos then 1 else -1
    let sn := g * sinC
    let cs := g * cosC
    let m := hypot sn cs
    let am := atan2 sn cs
    let n := s.excDiv k
    let (bwN, bwD) : Int × Int := if s.fp i P.resTrackBw k * n ≤ 10000000 then (s.fp i P.resTrackBw k, 1) else (10000000, n)
    let at0 := if r.started then r.aT else am
    let wt0 := if r.started then r.wT else 0
    let err := if r.started then angSub am (unsigned 32 at0) else 0
    let at1 := if r.started then
        at0 + rdiv (wt0 * (5 * n : Nat)) 1000000000 + rdiv (2 * twoPi60 * bwN * (5 * n : Nat) * err) (2 ^ 60 * bwD * 1000000000)
      else at0
    let wt1 := if r.started then wt0 + rdiv (twoPi60 * twoPi60 * bwN * bwN * (5 * n : Nat) * err) (2 ^ 120 * bwD * bwD * 1000000000) else 0
    let trip := s.fp i P.resTrkTrip k * 4294967296
    let badRun := if trip < 3600 * iabs err then r.badRun + 1 else 0
    let goodRun := if 3600 * iabs err < trip then r.goodRun + 1 else 0
    let suspect := if 4 ≤ badRun then true else if 16 ≤ goodRun then false else r.fb.suspect
    let nom := s.fp i P.resAmpNom k
    let out := 100 * m < s.fp i P.resAmpLo k * nom ∨ s.fp i P.resAmpHi k * nom < 100 * m
    let ampRun := if out then r.ampRun + 1 else 0
    let r := { r with started := true, aT := at1 % 4294967296, turns := r.turns + at1 / 4294967296, wT := wt1, pairAt := s.now,
                      sinCode := sinC, cosCode := cosC, badRun := badRun, goodRun := goodRun, ampRun := ampRun,
                      fb := { r.fb with suspect := suspect } }
    let s := (s.setRes k r).setPar P.resAmp (min m 46341) k
    if 2 ≤ ampRun then s.declareFaulty i 0x0504 else s

/-- RES_EXC (R261). -/
def resExc (k : Nat) (s : State) : State :=
  if k < 2 ∧ s.ifaceOn (4 + k) ∧ (s.res k).excOn then
    ((s.setRes k { s.res k with excOn := false, excAt := s.now }).drive k).declareFaulty (4 + k) 0x0505
  else s

/-- RES_EXC_RESTART (R261): once per second while faulty. -/
def resExcRestart (k : Nat) (s : State) : State :=
  let r := s.res k
  if k < 2 ∧ s.ifaceOn (4 + k) ∧ r.fb.faulty ∧ ¬ r.excOn ∧ r.excAt + 1000000000 ≤ s.now then
    (s.setRes k { r with excOn := true, excAt := s.now, fb := { r.fb with clearSince := s.now } }).drive k
  else s

/-- One sample of a resolver interface (R258, R249). -/
def State.resSample (s : State) (k tSE : Nat) : State :=
  let i := 4 + k
  let s := s.takeFbCfg i
  let r := s.res k
  let f := r.fb.filter (s.filtN i) r.wT false
  let a : Nat := angAdd (unsigned 32 r.aT) (rdiv (r.wT * (tSE - r.pairAt : Nat)) 1000000000)
  let sp := clamp (rdiv f.out 65536) s32lo s32hi
  let rep := f.code false f.suspect
  let st : Nat := ofBits [false, !f.warm, f.suspect, f.faulty]
  let r := { r with fb := { f with angle := a, speed := sp, report := rep, sampleAt := tSE, status := st } }
  ((((s.setRes k r).setPar P.resAngle a k).setPar P.resSpeed sp k).setPar P.resStatus st k).coldSpeed i

/-! ### SSI -/

/-- Bits of a frame after the start bit (R262). -/
def State.ssiLen (s : State) (k : Nat) : Nat :=
  let f (p : Par) : Nat := s.fpN (6 + k) p k
  f P.ssiMtBits + f P.ssiStBits + f P.ssiStatBits + (if s.fp (6 + k) P.ssiEn k = 2 then 10 else 0)

/-- t_clk in ns (R262). -/
def State.ssiClk (s : State) (k : Nat) : Nat := s.fpN (6 + k) P.ssiClkDiv k * 10

/-- t_f in ns (R262). -/
def State.ssiTime (s : State) (k : Nat) : Nat :=
  (s.ssiLen k + 2) * s.ssiClk k + (if (s.ssi k).firstDelay then 2000 else s.parN P.ssiDelayMeas k) + 100

/-- SEs, beyond the next one, that lie before the one for which a frame started now ends in time (Table 6.2): it ends at that SE + 0.90 µs.
None where it would end at no such moment. -/
def State.ssiAhead (s : State) (k : Nat) : Option Nat :=
  match s.axisOfIface (6 + k) with
  | none => some 0
  | some a =>
    let l := s.lane (s.laneOf a)
    if ¬ l.running ∨ l.first then some 0
    else
      let p := 80 * (if s.hp a P.update = 1 then l.half else 2 * l.half)
      let tg := 32 * (s.now + s.ssiTime k - 900)
      let m := (tg + p / 2 - l.nextX) / max p 1
      let x := l.nextX + m * p
      if tg < x + 32 ∧ x < tg + 32 then some m else none

/-- SSI_FRAME_START (R265): before every k-th SE, after the recovery time; `high` the data line at the first edge. Self-timed samples have
no SE to end before: there a frame starts at any time (log entry 206). -/
def ssiFrameStart (k : Nat) (high : Bool) (s : State) : State :=
  let x := s.ssi k
  if 4 ≤ k ∨ ¬ s.ifaceOn (6 + k) ∨ x.busy ∨ s.now < x.idleAt + s.fpN (6 + k) P.ssiRecovery k * 1000 then s
  else
    match s.ssiAhead k with
    | none => s
    | some m =>
      if x.seCount + m < s.par P.ssiEvery k then s
      else s.setSsi k { x with busy := true, startAt := s.now, endAt := s.now + s.ssiTime k, seCount := -(m : Int), startHigh := high }

/-- A bad frame (R268). -/
def State.ssiBad (s : State) (k : Nat) : State :=
  let x := s.ssi k
  let s := (s.setSsi k { x with busy := false, idleAt := s.now, badRun := x.badRun + 1, firstFrame := false, firstDelay := false }).incPar P.ssiBadFrames k
  if s.fp (6 + k) P.ssiErrMax k ≤ (x.badRun + 1 : Nat) then s.declareFaulty (6 + k) 0x0506 else s

/-- SSI_START_TIMEOUT (R263): 2 µs after the first rising clock edge, half a clock period after the first falling one. -/
def ssiTimeout (k : Nat) (s : State) : State :=
  if k < 4 ∧ (s.ssi k).busy ∧ (s.ssi k).startAt + s.ssiClk k / 2 + 2000 ≤ s.now then s.ssiBad k else s

/-- CRC-8 of R267 over the top n bits of a word, most significant first. -/
def ssiCrc (w : Nat) : Nat → Nat → Nat
  | 0, c => c
  | n + 1, c =>
    let fb := (c / 128 + w / 2 ^ n) % 2
    let c' := (2 * c) % 256
    ssiCrc w n (if fb = 1 then c' ^^^ 0x2F else c')

/-- Gray to binary of n bits: every bit is the parity of the bits from it up. -/
def grayDecode (w : Nat) : Nat → Nat → Nat → Nat
  | 0, _, acc => acc
  | n + 1, p, acc =>
    let b := (w / 2 ^ n + p) % 2
    grayDecode w n b (2 * acc + b)

/-- The word of a frame (R262, R263): every bit after the start bit is the level of the data line at its rising clock edge plus the
delay plus t_clk / 4, most significant first. Bit i of a waveform is the level in the half nanosecond that begins i halves after the
first rising edge. -/
def State.ssiWord (s : State) (k wave delay : Nat) : Nat :=
  let clk := s.ssiClk k
  (upto (s.ssiLen k)).foldl (fun w j => 2 * w + (if wave.testBit (2 * (j + 1) * clk + 2 * delay + clk / 2) then 1 else 0)) 0

/-- SSI_FRAME_CHECK (R263, R264, R266 to R268) at the frame's end: the waveform of the data line, and the delay of the start bit, a
timeout above 2 µs. The life counter is a capped frame's (R267). -/
def ssiFrameCheck (k wave delay : Nat) (s : State) : State :=
  let x := s.ssi k
  if 4 ≤ k ∨ ¬ x.busy ∨ s.now ≠ x.endAt then s
  else if 2000 < delay then s.ssiBad k
  else
    let i := 6 + k
    let s := s.setPar P.ssiDelayMeas (delay : Nat) k
    let capped := decide (s.fp i P.ssiEn k = 2)
    let n := s.ssiLen k
    let w := s.ssiWord k wave delay
    let crcOk := !capped || decide (ssiCrc (w / 256) (n - 8) 0xFF = w % 256)
    let life := w / 256 % 4
    let lifeOk := !capped || x.firstFrame || (match x.life with
      | none => true
      | some l => decide (life = (l + 1) % 4))
    let s := s.setSsi k { x with frame := w }
    if x.startHigh ∨ ¬ crcOk ∨ ¬ lifeOk then s.ssiBad k
    else
      let body := if capped then w / 1024 else w
      let sb := s.fpN i P.ssiStatBits k
      let stb := s.fpN i P.ssiStBits k
      let pos := body / 2 ^ sb
      let dec := if s.fp i P.ssiCode k = 1 then grayDecode pos (s.fpN i P.ssiMtBits k + stb) 0 0 else pos
      let ang := dec % 2 ^ stb * 2 ^ (32 - stb)
      let mt := dec / 2 ^ stb
      let sus := decide ((body % 2 ^ sb) &&& s.fpN i P.ssiStatMask k ≠ 0)
      let raw := match x.good with
        | none => x.raw
        | some (a0, t0) => if t0 < x.startAt then rdiv (angSub ang a0 * 1000000000) (x.startAt - t0 : Nat) else x.raw
      let x := { s.ssi k with busy := false, idleAt := s.now, life := if capped then some life else x.life, firstFrame := false, firstDelay := false,
                              badRun := 0, fresh := true, good := some (ang, x.startAt), raw := raw, fb := { (s.ssi k).fb with suspect := sus } }
      (s.setSsi k x).setPar P.ssiMt mt k

/-- One sample of an SSI interface with control period T in ns (R265, R266), by the parameters that the SE took (R275). -/
def State.ssiSample (s : State) (k tSE period : Nat) : State :=
  let i := 6 + k
  let every := max 1 ((s.ssiTime k + s.fpN i P.ssiRecovery k * 1000 + period - 1) / max period 1)
  let x := s.ssi k
  let f := x.fb.filter (s.filtN i) x.raw false
  let v := f.out
  let a : Nat := match x.good with
    | none => 0
    | some (a0, t0) => angAdd a0 (rdiv (v * (tSE - t0 : Nat)) 1000000000)
  let sp := clamp (rdiv v 65536) s32lo s32hi
  let rep := f.code false f.suspect
  let st : Nat := ofBits [false, !f.warm, f.suspect, f.faulty, false, false, !x.fresh]
  let x := { x with fresh := false, seCount := x.seCount + 1,
                    fb := { f with angle := a, speed := sp, report := rep, sampleAt := tSE, status := st } }
  (((((s.setSsi k x).setPar P.ssiEvery (min every 255 : Nat) k).setPar P.ssiAngle a k).setPar P.ssiSpeed sp k).setPar P.ssiStatus st k).coldSpeed i

/-! ### Samples, return and record -/

/-- The fields of Table 6.6 from FB_REPORT on, of the sample of an interface at tSE. -/
def State.fbFields (s : State) (i : Nat) : Bytes :=
  let f := s.fb i
  let (cnt, ref, r0, r1) : Int × Nat × Nat × Nat :=
    if i < 4 then (s.par P.encCount i, (s.enc i).lastT, if s.fp i P.encMode i = 2 then (s.enc i).hall else 0, 0)
    else if i < 6 then
      let r := s.res (i - 4)
      (r.turns, r.pairAt, unsigned 16 r.sinCode + 65536 * unsigned 16 r.cosCode, 0)
    else
      let x := s.ssi (i - 6)
      (s.par P.ssiMt (i - 6), (x.good.map (·.2)).getD 0, 0, x.frame)
  leBytes 1 f.report ++ leBytes 2 f.status ++ leBytes 4 f.angle ++ leBytes 4 (unsigned 32 f.speed) ++ leBytes 4 (unsigned 32 cnt) ++
    leBytes 4 (min 4294967295 (f.sampleAt - ref)) ++ leBytes 4 r0 ++ leBytes 8 r1

/-- An SSI interface: at an SE it takes its parameters, and its sample is formed 0.90 µs after it, from the frame checked by then (Table
6.2). -/
def lateIface (i : Nat) : Bool := decide (6 ≤ i)

/-- A sample of interface i at an SE (R236 to R239), and what the sample record shows of it. -/
def State.fbSample (s : State) (i tSE period : Nat) : State :=
  let prev := (s.fb i).sampleAt
  let s := if i < 4 then s.encSample i tSE prev else if i < 6 then s.resSample (i - 4) tSE else s.ssiSample (i - 6) tSE period
  s.setFb i { s.fb i with area := s.fbFields i }

/-- FEEDBACK_SELF_SAMPLE (R236, R237): every 50 µs, an enabled interface whose lane gives no SEs; one that comes on takes its parameters
with the sample, one that goes off takes none. -/
def feedbackSelfSample (i : Nat) (s : State) : State :=
  let laneRuns : Bool := match s.axisOfIface i with
    | none => false
    | some k => (s.lane (s.laneOf k)).running && !(s.lane (s.laneOf k)).first
  if 10 ≤ i ∨ laneRuns ∨ s.now < (s.fb i).sampleAt + 50000 then s
  else if s.ifaceSet i then (if lateIface i then s.takeFbCfg i else s).fbSample i s.now 50000
  else if s.ifaceOn i then s.takeFbCfg i
  else s

/-- FB_RETURN (R270): one second free of the declaring conditions. The speed filter goes on with the samples taken meanwhile (R269,
R80). -/
def fbReturn (i : Nat) (s : State) : State :=
  let f := s.fb i
  let free : Bool :=
    if i < 4 then !(s.lineLow i) && decide ((recent s.now 1000000 (s.enc i).faults).length < 8)
    else if i < 6 then (s.res (i - 4)).excOn && decide ((s.res (i - 4)).ampRun < 2)
    else decide (((s.ssi (i - 6)).badRun : Int) < s.fp i P.ssiErrMax (i - 6))
  if i < 10 ∧ s.ifaceOn i ∧ f.faulty ∧ free ∧ f.clearSince + 1000000000 ≤ s.now then
    let s := s.setFb i { f with faulty := false }
    let s :=
      if i < 4 then
        let e := s.enc i
        let e := { e with still := true, sinceStill := 0, run := [], reversed := false, idx := [] }
        if s.fp i P.encMode i = 1 then
          if s.fp i P.encIndexEn i = 1 ∧ e.referenced then s.setEnc i { e with fb := { e.fb with suspect := true } }
          else
            let s := s.setEnc i { e with referenced := false, needRef := true }
            match s.axisOfIface i with
            | none => s
            | some k => s.modAx k fun a => { a with pos := { a.pos with offMoved := a.pos.usedOffset, learned := false } }
        else s.setEnc i e
      else if i < 6 then s.setRes (i - 4) { s.res (i - 4) with started := false, wT := 0, badRun := 0, goodRun := 0, ampRun := 0 }
      else s.setSsi (i - 6) { s.ssi (i - 6) with firstFrame := true }
    (s.standing.filter fun g => decide (0x0502 ≤ g.code) && decide (g.code ≤ 0x0506) && decide (g.inst = i)).foldl
      (fun s g => s.unstand g) s
  else s

/-- Feedback area of the sample record (Table 6.6), for an axis whose sources include the sensor; before the first sample the report and
status of a speed not yet valid (R249). -/
def State.fbArea (s : State) (k : Nat) : Bytes :=
  if ¬ bit (s.hp k P.posSources) 0 then []
  else
    match s.sel k with
    | none => []
    | some i => leBytes 1 (s.hp k P.sensorSel).toNat ++ (if (s.fb i).area.isEmpty then s.fbFields i else (s.fb i).area)

end Sys2Proof.Machine
end

