-- ==== Sys2Proof/Machine/Position.lean ====
section
/-!
DEFINITION. Rotor position (chapter 5): the four sources, the voter, the scout start, the catch and the entry to
six-step operation. A period is `cyc` CLK_HEARTH cycles of 2.5 ns; self-timed fusion uses 20,000 (R757).
-/
namespace Sys2Proof.Machine

/-! ### Vectors (R109, R129 to R133) -/

/-- Clarke transform (R105): every sum saturates and counts (R130). -/
def clarkeC (l : List Int) : Calc Vec2 := do
  let u := l.getD 0 0
  let v := l.getD 1 0
  let w := l.getD 2 0
  let x ← satTo s32lo s32hi (rdiv (2 * u - v - w) 3)
  let y ← satTo s32lo s32hi (rdiv ((v - w) * invSqrt3_60) (2 ^ 60 : Nat))
  return ⟨x, y⟩

/-- Park transform into the frame at an angle, and back. -/
def parkC (v : Vec2) (th : Nat) : Calc Vec2 := do
  let c := cosQ th
  let n := sinQ th
  let x ← addC (mul 30 v.x c) (mul 30 v.y n)
  let y ← subC (mul 30 v.y c) (mul 30 v.x n)
  return ⟨x, y⟩
def invParkC (v : Vec2) (th : Nat) : Calc Vec2 := do
  let c := cosQ th
  let n := sinQ th
  let x ← subC (mul 30 v.x c) (mul 30 v.y n)
  let y ← addC (mul 30 v.x n) (mul 30 v.y c)
  return ⟨x, y⟩

/-- Phase values of an alpha-beta vector. -/
def invClarkeC (v : Vec2) : Calc (List Int) := do
  let h := rdiv (v.y * sqrt3_60) (2 ^ 61 : Nat)
  let b ← addC (rdiv (-v.x) 2) h
  let c ← subC (rdiv (-v.x) 2) h
  return [v.x, b, c]

/-- A transform whose saturations are counted elsewhere, or not at all. -/
def Calc.value {α : Type} (c : Calc α) : α := (c.run 0).1

def clarke (l : List Int) : Vec2 := (clarkeC l).value
def park (v : Vec2) (th : Nat) : Vec2 := (parkC v th).value
def invPark (v : Vec2) (th : Nat) : Vec2 := (invParkC v th).value
def invClarke (v : Vec2) : List Int := (invClarkeC v).value

/-- Sums and differences of vectors, counted where they saturate (R130). -/
def Vec2.diffC (a b : Vec2) : Calc Vec2 := do
  let x ← subC a.x b.x
  let y ← subC a.y b.y
  return ⟨x, y⟩
def Vec2.sumC (a b : Vec2) : Calc Vec2 := do
  let x ← addC a.x b.x
  let y ← addC a.y b.y
  return ⟨x, y⟩

/-- Saturations of a calculation, counted in SAT_COUNT (R130). -/
def State.addSats (s : State) (k n : Nat) : State := if n = 0 then s else s.incPar P.satCount k 0 n

/-- What a calculation for an axis gives, with its saturations counted. -/
def State.calc {α : Type} (s : State) (k : Nat) (c : Calc α) : α × State :=
  let r := c.run 0
  (r.1, s.addSats k r.2)

def Vec2.scale (n : Nat) (a : Vec2) (f : Int) : Vec2 := ⟨mul n a.x f, mul n a.y f⟩
def Vec2.mag (a : Vec2) : Int := hypot a.x a.y

/-! ### Constants of a period -/

/-- Angle step of a speed in Q3.28 over cyc cycles (R110). -/
def State.angleStep (s : State) (k : Nat) (we : Int) (cyc : Nat) : Int :=
  signed 32 (unsigned 32 (rdiv (we * 16 * s.hp k P.baseFreq * (cyc * 25 : Nat)) 10000000000000))

/-- ωb·T in Q.30. -/
def State.wbT (s : State) (k cyc : Nat) : Int := rdiv (twoPi60 * s.hp k P.baseFreq * (cyc * 25 : Nat)) (10000000000000 * 2 ^ 30)

/-- Control period of an axis in CLK_HEARTH cycles (R95). -/
def State.cycOf (s : State) (k : Nat) : Nat :=
  let h := (s.lane (s.laneOf k)).half
  if s.hp k P.update = 1 then h else 2 * h

/-- Division floor of R133, 0.05 pu, in n fraction bits. -/
def floorPu (n : Nat) (v : Int) : Int :=
  let f : Int := rdiv (2 ^ n : Nat) 20
  if v < f then f else v

/-- q inductance of the active flux: LQ, or LD − LM²/LR for MACHINE 1 (R203). -/
def State.lqFlux (s : State) (k : Nat) : Int :=
  if s.hp k P.machine = 1 then s.hp k P.ld - tdiv (s.hp k P.lm * s.hp k P.lm) (floorPu 28 (s.hp k P.lr))
  else s.hp k P.lq

/-- psi_eff of R107: PSI, or (LM / LR)·psi_r, in UQ2.30. -/
def State.psiEff (s : State) (k : Nat) : Int :=
  if s.hp k P.machine = 1 then tdiv (s.hp k P.lm * (s.ax k).hearth.psiR) (floorPu 28 (s.hp k P.lr)) else s.hp k P.psi

/-- XOVER_SPEED (R223) in Q3.28. -/
def State.xover (s : State) (k : Nat) : Int :=
  let psi := floorPu 30 (s.hp k P.psi)
  clamp (tdiv (s.par P.linkVAvg (s.linkOf k) * 2 ^ 58 * (1000 - s.hp k P.xoverMargin) * invSqrt3_60)
    (s.hp k P.baseVoltage * psi * 1000 * 2 ^ 60)) 0 s32hi

/-- All switches of an axis's bridges are off. -/
def State.axisAllOff (s : State) (k : Nat) : Bool := (s.bridgesOf k).all fun b => s.bridgeOff b

/-- Every phase current of an axis is below a level. -/
def State.currentsBelow (s : State) (k : Nat) (lvl : Int) : Bool :=
  (s.bridgesOf k).all fun b => (s.bridge b).i.all fun v => decide (iabs v < lvl)

/-! ### Voltage model (R205, R206) -/

/-- Back-EMF of the lead bridge's phase voltages, in Q1.30. -/
def State.emfOf (s : State) (k : Nat) : Calc Vec2 := do
  let v := (s.bridge (s.leadBridge k)).v
  let u := v.getD 0 0; let w := v.getD 1 0; let x := v.getD 2 0
  let a ← satTo s32lo s32hi (rdiv (4 * ((u - w) - (x - u))) 3)
  let b ← satTo s32lo s32hi (rdiv (4 * (w - x) * invSqrt3_60) (2 ^ 60 : Nat))
  return ⟨a, b⟩

/-- The voltage model's source from the present sample (Table 5.1). -/
def State.vmUpdate (s : State) (k : Nat) : State :=
  let p := (s.ax k).pos
  let (e, s) := s.calc k (s.emfOf k)
  let still := s.axisAllOff k && s.currentsBelow k (s.hp k P.catchZero)
  let free := still && (s.bridgesOf k).all fun b => noDiode (s.bridge b).v (s.bridge b).vdc
  let big := decide (s.hp k P.vmMin ≤ e.mag)
  let had := decide (s.hp k P.vmMin ≤ p.emf.mag)
  let dir := if big && had then sgn (angSub (atan2 e.y e.x) (atan2 p.emf.y p.emf.x)) else 0
  let dir := if dir = 0 then p.emfDir else dir
  let ok := free && big && had && decide (dir ≠ 0)
  let th := angAdd (atan2 e.y e.x) (-(1073741824 * dir))
  let low := if still && !big then some (p.emfLowSince.getD s.now) else none
  s.modAx k fun a => { a with pos := { p with emf := if free then e else {}, emfDir := if big then dir else 0, emfLowSince := low,
                                              vm := { p.vm with theta := th, valid := ok } } }

/-! ### Flux observer (R203, R204) -/

/-- The flux observer after a period, with the voltage applied in it. -/
def State.fluxStep (s : State) (k cyc : Nat) : State :=
  let a := s.ax k
  let p := a.pos
  let b := s.bridge (s.leadBridge k)
  let g := s.wbT k cyc
  let wc := s.hp k P.fluxWc
  let rs := s.hp k P.rs
  let step (ps v i : Int) : Calc Int := do
    let d ← satTo s32lo s32hi (v - mul 30 rs i - mul 28 wc ps)
    addC ps (mul 30 g d)
  let ((ps, pa), s) := s.calc k (do
    let i ← clarkeC b.i
    let x ← step p.ps.x a.hearth.vab.x i.x
    let y ← step p.ps.y a.hearth.vab.y i.y
    let ps : Vec2 := ⟨x, y⟩
    let pc ← if iabs p.we < s.hp k P.fluxLo then pure ps
      else (do
        let r := divq 30 wc p.we
        let x ← addC ps.x (mul 30 r ps.y)
        let y ← subC ps.y (mul 30 r ps.x)
        pure ⟨x, y⟩)
    let pa ← pc.diffC (i.scale 28 (s.lqFlux k))
    pure (ps, pa))
  let m := pa.mag
  let th := atan2 pa.y pa.x
  let th := if s.hp k P.machine = 1 then angAdd th (-a.hearth.thSlip) else th
  let ref := s.psiEff k
  let inside := decide (9 * ref ≤ 10 * m) && decide (10 * m ≤ 11 * ref)
  let since := if inside then some (p.fluxInSince.getD s.now) else none
  let settled := match since with
    | none => false
    | some t0 => p.fluxSettled || decide (t0 + 20000000 ≤ s.now)
  let s := s.modAx k fun a => { a with pos := { p with ps := ps, fluxInSince := since, fluxSettled := settled,
                                                       flux := { p.flux with theta := th, settling := !settled,
                                                                             valid := settled && decide (1048576 ≤ m) } } }
  s.setPar P.fluxMag (min m u32hi) k

/-! ### Waggle demodulator (R207 to R210) -/

/-- The control of an axis in which its lane injects (R207): not while a catch looks for the rotor, a pulse or a decay of a scout start
runs, or the axis commutates six-step. -/
def AxPos.injects (p : AxPos) : Bool :=
  !p.six && match p.proc with
    | .none | .scoutSettle | .scoutBack | .catchRamp => true
    | _ => false

/-- Whether the lane injects (R207): on below WAGGLE_OFF, off from it, on again below FLUX_HI. The demodulator settles anew when
injection resumes (R210). -/
def State.waggleGate (s : State) (k : Nat) : State :=
  let p := (s.ax k).pos
  let high := decide ((if p.wagHigh then s.hp k P.fluxHi else s.hp k P.waggleOff) ≤ iabs p.we)
  let on := bit (s.hp k P.posSources) 1 && p.injects && !high && (s.lane (s.laneOf k)).running
  let p' := { p with wagHigh := high }
  let p' := if on then p' else { p' with wagSettle := 0, wagCount := 0, waggle := { p.waggle with valid := false, settling := false } }
  (s.modAx k fun a => { a with pos := p' }).setBit P.posStatus 6 on k

/-- The demodulator at a measured SE (R209, R210); `tm` cycles since the measured SE before it. At an SE that is not measured the source
votes on with the angle of the last measured one (the manual does not say which angle it has there: DESIGN CHOICE, log entry 233). -/
def State.waggleDemod (s : State) (k tm : Nat) (held : Bool) : State :=
  let p := (s.ax k).pos
  let lead := s.leadBridge k
  let b := s.bridge lead
  let s := (s.bridgesOf k).foldl (fun s c =>
    let x := s.bridge c
    let ((j, d), s) := s.calc k (do
      let j ← clarkeC x.i
      let d ← j.diffC x.wagI
      pure (j, d))
    s.setBridge c { x with wagI := j, wagD := d }) s
  if ¬ bit (s.par P.posStatus k) 6 then s
  else
    let sg : Int := if p.wagApplied then 1 else -1
    let (q, s) := s.calc k (do
      let d ← (s.bridge lead).wagD.diffC b.wagD
      parkC d p.wagInjAngle)
    let h : Vec2 := ⟨rdiv (sg * q.x) 2, rdiv (sg * q.y) 2⟩
    let base := mul 30 (s.hp k P.waggleAmp) (s.wbT k (tm * (s.hp k P.waggleHalf).toNat))
    let g := mul 28 base (s.hp k P.waggleKs)
    let dth := asinQ (clamp (divq 30 h.y (if g = 0 then 1 else g)) (-one30) one30) / 2
    let near := decide (72 * iabs dth < 4294967296)
    let run := if near then p.wagSettle + 1 else 0
    let ks := if 16 ≤ run then (divq 28 (iabs h.x) (if base = 0 then 1 else base)) :: p.wagKs.take 63 else p.wagKs
    let s := s.modAx k fun a => { a with pos := { p with
      wagSettle := run, wagCount := p.wagCount + 1, wagKs := ks, wagBroken := p.wagBroken || held,
      waggle := { p.waggle with theta := angAdd p.wagInjAngle dth, settling := decide (run < 16),
                                valid := decide (16 ≤ run) && !p.wagBadLast && decide (1048576 ≤ h.mag) } } }
    if ks.isEmpty then s else s.setPar P.waggleKsMeas (rdiv (ks.foldl (· + ·) 0) ks.length) k

/-! ### Mechanical sensor (R192 to R196) -/

/-- An encoder that is not referenced. -/
def State.unreferenced (s : State) (i : Nat) : Bool := decide (i < 4) && decide (s.fp i P.encMode i = 1) && !(s.enc i).referenced

/-- The sensor gives an absolute angle: resolver, SSI, Hall, or encoder with SENSOR_OFFSET in force (Table 5.3). -/
def State.sensorAbsolute (s : State) (k : Nat) : Bool :=
  bit (s.par P.posSources k) 0 &&
    match selIface (s.parN P.sensorSel k) with
    | none => false
    | some i => s.ifaceOn i && decide ((s.fb i).report < 3) && !(s.unreferenced i) && !(bit (s.par P.posStatus k) 9)

/-- Rotation of the sensor angle into electrical counts (R192). -/
def State.sensorTurn (s : State) (k a : Nat) : Int :=
  let v : Int := s.hp k P.polePairs * a / (max (s.hp k P.sensorPp).toNat 1 : Nat)
  if s.hp k P.sensorDir = 1 then -v else v

/-- The sensor's electrical speed in Q3.28 (R193). -/
def State.sensorSpeed (s : State) (k i : Nat) : Int :=
  let v := clamp (rdiv ((s.fb i).speed * 1000 * 4096 * s.hp k P.polePairs) (s.hp k P.baseFreq * max (s.hp k P.sensorPp) 1)) s32lo s32hi
  if s.hp k P.sensorDir = 1 then -v else v

/-- The sensor source of a period (R192 to R196): an encoder without a reference votes only with an offset learned for its present
count, and a faulty interface drops the source (Table 5.2). -/
def State.sensorSource (s : State) (k : Nat) : PosSrc :=
  let p := (s.ax k).pos
  let x := p.sensor
  match s.sel k with
  | none => { x with valid := false }
  | some i =>
    let f := s.fb i
    let rel := bit (s.par P.posStatus k) 9 && p.learned
    let ofs := if rel then s.parN P.sensorOfsLearned k else (s.hp k P.sensorOffset).toNat
    { x with theta := angAdd ofs (s.sensorTurn k f.angle), valid := s.ifaceOn i && decide (f.report < 3) && (rel || !(s.unreferenced i)),
             dropped := x.dropped || (f.faulty && bit (s.hp k P.posSources) 0) }

/-! ### The voter (R197 to R201) -/

/-- What the voter sees of one source. -/
structure Vote where
  src : Nat
  theta : Nat
  weight : Int
  gate : Int
  deriving DecidableEq, Repr

/-- Two angles lie within a number of tenths of a degree. -/
def near (a b : Nat) (tenths : Int) : Bool := decide (3600 * iabs (angSub a b) ≤ tenths * 4294967296)

/-- The sublists of a list. -/
def sublistsOf {α : Type} : List α → List (List α)
  | [] => [[]]
  | a :: r => sublistsOf r ++ (sublistsOf r).map (a :: ·)

/-- The largest set of sources that agree pairwise within 20° (R199), as a list of sources; ties by weight and then
by the lowest source bit. -/
def majority (vs : List Vote) : List Vote :=
  let sets : List (List Vote) := (sublistsOf vs).filter fun l => l.all fun a => l.all fun b => near a.theta b.theta 200
  let wt : List Vote → Int := fun l => l.foldl (fun a v => a + v.weight) 0
  let key : List Vote → Nat := fun l => (l.map (·.src)).foldl (fun m x => min m x) 9
  sets.foldl (fun best l =>
    if best.length < l.length then l
    else if l.length < best.length then best
    else if wt best < wt l then l
    else if wt l < wt best then best
    else if key l < key best then l else best) []

/-- Gate of a source in tenths of a degree: 30° wider for a sensor in Hall mode (R194). -/
def State.gateOf (s : State) (k n : Nat) : Int :=
  let hall := match s.sel k with
    | some i => decide (n = 0) && decide (i < 4) && decide (s.fp i P.encMode i = 2)
    | none => false
  s.hp k P.posGate + (if hall then 300 else 0)

/-- The voting sources of a period by the speed of the one before (Table 5.1, R197). -/
def State.votes (s : State) (k : Nat) : List Vote :=
  let p := (s.ax k).pos
  let w := iabs p.we
  let lo := s.hp k P.fluxLo
  let hi := s.hp k P.fluxHi
  let b : Int := if w < lo then one30 else if hi ≤ w then 0 else divq 30 (hi - w) (hi - lo)
  let on (n : Nat) : Bool := bit (s.hp k P.posSources) n
  let v (n : Nat) (x : PosSrc) (ok : Bool) (wt : Int) : List Vote :=
    if on n && x.valid && !x.dropped && ok then [⟨n, x.theta, wt, s.gateOf k n⟩] else []
  v 0 p.sensor true (s.hp k P.sensorW) ++
    v 1 p.waggle (decide (w < hi)) (mul 30 (s.hp k P.waggleW) b) ++
    v 2 p.flux (decide (lo ≤ w)) (mul 30 (s.hp k P.fluxW) (one30 - b)) ++
    v 3 p.vm true (s.hp k P.vmW)

def AxPos.srcs (p : AxPos) : List PosSrc := [p.sensor, p.waggle, p.flux, p.vm]
def AxPos.withSrcs (p : AxPos) (l : List PosSrc) : AxPos :=
  { p with sensor := l.getD 0 {}, waggle := l.getD 1 {}, flux := l.getD 2 {}, vm := l.getD 3 {} }

/-- DATA of a POSITION event (Table 11.13). -/
def State.posEvent (s : State) (k pos what : Nat) : State :=
  s.notify 3 pos k (leBytes 1 what ++ leBytes 1 (s.parN P.catchUsed k) ++ leBytes 2 0 ++ leBytes 4 (s.parN P.posAngle k))

/-- One run of the fusion stage (R198 to R201, R231). `hold` lets no source contribute (a scout start before its release, a
catch before its lock); `rest` holds the speed at 0. Where T changes between 50 µs and the control period, the speed integrator and
dtheta, which are counts per period, go on as they are until the next run forms them anew (the manual is silent: DESIGN CHOICE, log
entry 204). -/
def State.fuse (s : State) (k cyc : Nat) (hold rest : Bool) : State :=
  let was := (s.ax k).pos.sensor.dropped
  let s := s.modAx k fun a => { a with pos := { a.pos with sensor := s.sensorSource k } }
  let s := if (s.ax k).pos.sensor.dropped ∧ ¬ was then s.posEvent k 0 0 else s
  let s := if (s.sel k).any fun i => decide (i < 4) && (s.enc i).everRef then s.setBit P.coldFlags 4 false k else s
  let p := (s.ax k).pos
  let wasCold := bit (s.par P.coldFlags k) 1
  let vs := if hold then [] else s.votes k
  let thp0 := angAdd p.theta p.dtheta
  let thp := if wasCold then (match vs.find? (fun v => v.src = 0) with
      | some v => v.theta
      | none => thp0) else thp0
  let nu (v : Vote) : Int := angSub v.theta thp
  let inGate (v : Vote) : Bool := near v.theta thp v.gate
  let gated := if vs.any inGate then vs.filter fun v => !inGate v else []
  let c := vs.filter fun v => !(gated.contains v) && decide (0 < v.weight)
  let sw := c.foldl (fun a v => a + v.weight) 0
  let e := if c.isEmpty then 0 else tdiv (c.foldl (fun a v => a + v.weight * nu v) 0) sw
  let wn0 := rdiv (twoPi60 * s.hp k P.fuseBw * (cyc * 25 : Nat)) 10000000000
  let clampBw := decide (2 ^ 58 < wn0)
  let wn : Int := min wn0 (2 ^ 58 : Nat)
  let theta := if hold then thp else angAdd thp (rdiv (2 * wn * e) (2 ^ 60 : Nat))
  let wi := p.wi + rdiv (wn * wn * e * 65536) (2 ^ 120 : Nat)
  let den : Int := 65536 * 16 * s.hp k P.baseFreq * (cyc * 25 : Nat)
  let (we, s) := s.calc k (satTo s32lo s32hi (rdiv (wi * 10000000000000) den))
  let iface := s.sel k
  let sensorIn := c.any fun v => v.src = 0
  let rep := match iface with
    | some i => (s.fb i).report
    | none => 2
  let imposed : Option Int :=
    if rest then some 0
    else if sensorIn && decide (rep = 1) then some 0
    else if sensorIn && decide (rep = 0) then iface.map fun i => s.sensorSpeed k i
    else none
  let (we, wi) := match imposed with
    | some v => (v, rdiv (v * den) 10000000000000)
    | none => (we, wi)
  let maj := majority vs
  let split := decide (2 * maj.length ≤ vs.length) && decide (0 < vs.length)
  let upd := fun (n : Nat) (x : PosSrc) =>
    let inC := c.any fun v => v.src = n
    let vote := vs.find? fun v => v.src = n
    let out := match vote with
      | some v => !split && !(maj.contains v)
      | none => false
    let back := x.dropped && x.valid && near x.theta theta (s.gateOf k n) && !(decide (n = 0) && decide (rep = 4))
    { x with outSince := if out then some (x.outSince.getD s.now) else none,
             inSince := if back then some (x.inSince.getD s.now) else none,
             contribAt := if inC then some s.now else x.contribAt,
             contribSince := if inC then some (x.contribSince.getD s.now) else none }
  let srcs := (p.srcs.zipIdx).map fun x => upd x.2 x.1
  let dth := s.angleStep k we cyc
  let lost := if c.isEmpty then some (p.lostSince.getD s.now) else none
  let last := if c.isEmpty then p.lastContrib else some s.now
  let cold := wasCold && !(sensorIn && s.sensorAbsolute k)
  let valid := !cold && (match last with
    | some t0 => decide (s.now ≤ t0 + 10000000)
    | none => false)
  let hist := (s.now, we) :: p.weHist.filter fun h => decide (s.now < h.1 + 5000000)
  let xo := s.xover k
  let code := fun (n : Nat) (x : PosSrc) =>
    if ¬ bit (s.hp k P.posSources) n then 0
    else if x.dropped then 6
    else match vs.find? (fun v => v.src = n) with
      | some v => if gated.contains v then 5 else if v.weight ≤ 0 then 4 else 3
      | none => if x.settling then 2 else 1
  let st := (p.srcs.zipIdx).foldl (fun a x => a + code x.2 x.1 * 16 ^ x.2) 0
  let wts := c.foldl (fun a v => a + (tdiv (v.weight * 256) (if sw = 0 then 1 else sw)).toNat.min 255 * 256 ^ v.src) 0
  let s := s.modAx k fun a => { a with pos := { p.withSrcs srcs with
      theta := theta, dtheta := dth, we := we, wi := wi, valid := valid, lastE := e, lastContrib := last, lostSince := lost,
      noMajSince := if split then some (p.noMajSince.getD s.now) else none, weHist := hist,
      rampEndAt := if valid then p.rampEndAt else p.rampEndAt.map fun _ => s.now } }
  let learn : Bool := !sensorIn && !c.isEmpty && bit (s.hp k P.posSources) 0 && !(bit (s.par P.posStatus k) 9 && p.learned) && (match iface with
    | some i => s.ifaceOn i && s.unreferenced i && decide ((s.fb i).report < 3)
    | none => false)
  let s := if learn then
      match iface with
      | some i =>
        ((s.setPar P.sensorOfsLearned (angAdd theta (-(s.sensorTurn k (s.fb i).angle))) k).setBit P.posStatus 9 true k).modAx k fun a =>
          { a with pos := { a.pos with learned := true } }
      | none => s
    else s
  let s := (s.setBit P.coldFlags 1 cold k).setPar P.posAngle theta k
  let s := ((s.setPar P.posSpeed we k).setPar P.srcState st k).setPar P.posWeights wts k
  let s := (s.setPar P.xoverSpeed xo k).setBit P.posStatus 10 (decide (xo ≤ iabs we)) k
  let w := iabs we
  let s := (s.setBit P.posStatus 0 valid k).setBit P.posStatus 1 (sensorIn && decide (rep = 1)) k
  (s.setBit P.posStatus 11 (decide (s.hp k P.fluxLo ≤ w) && decide (w ≤ s.hp k P.fluxHi)) k).setBit P.posStatus 13 clampBw k

/-! ### Events of the voter -/

/-- SOURCE_DROPPED (R199): outside the majority for 5 ms. -/
def sourceDropped (k src : Nat) (s : State) : State :=
  let p := (s.ax k).pos
  let x := p.srcs.getD src {}
  match x.outSince with
  | some t0 =>
    if k < 4 ∧ src < 4 ∧ ¬ x.dropped ∧ t0 + 5000000 ≤ s.now then
      let s := s.modAx k fun a => { a with pos := a.pos.withSrcs (a.pos.srcs.set src { x with dropped := true, outSince := none, inSince := none }) }
      (s.incPar P.dropCount k).posEvent k 0 src
    else s
  | none => s

/-- SOURCE_READMITTED (R199): within the gate of the fused angle for 1 s. -/
def sourceReadmitted (k src : Nat) (s : State) : State :=
  let x := (s.ax k).pos.srcs.getD src {}
  match x.inSince with
  | some t0 =>
    if k < 4 ∧ src < 4 ∧ x.dropped ∧ t0 + 1000000000 ≤ s.now then
      let s := s.modAx k fun a => { a with pos := a.pos.withSrcs (a.pos.srcs.set src { x with dropped := false, outSince := none, inSince := none }) }
      s.posEvent k 1 src
    else s
  | none => s

/-- WAGGLE_REVERSAL (R207). -/
def waggleReversal (k : Nat) (s : State) : State :=
  let p := (s.ax k).pos
  if k < 4 ∧ bit (s.par P.posStatus k) 6 ∧ s.hp k P.waggleHalf ≤ (p.wagCount : Int) then
    s.modAx k fun a => { a with pos := { p with wagSign := !p.wagSign, wagCount := 0, wagBadLast := p.wagBroken, wagBroken := false } }
  else s

/-- The state record of lane n for its axis written into L4's mirror bank (R139). A period whose computation has ended is no overrun, so
that the count of consecutive ones is 0 (R42). -/
def State.saveRecord (s : State) (n k : Nat) : State :=
  let l := s.lane n
  if n < 4 then
    { s with records := tset s.records n ⟨l.periodNo, (s.ax k).hearth, (s.ax k).pos, l.inForce, if l.filled then 0 else l.overruns⟩ }
  else s

/-- A self-timed fusion is due (R757): at a self-timed sample of the selected interface, or on the 50 µs grid of the Hearth time base. -/
def State.fusionDue (s : State) (k : Nat) : Bool :=
  decide ((s.ax k).pos.fusedAt ≠ some s.now) &&
    match s.sel k with
    | some i => if s.ifaceOn i then decide ((s.fb i).sampleAt = s.now) else decide (s.now % 50000 = 0)
    | none => decide (s.now % 50000 = 0)

/-- FUSION_SELF_TIMED (R757): the lane of the axis gives no SEs. The criteria of Table 5.5 belong to periods of SEs and are not tested
here, though VALID may be set (DESIGN CHOICE, log entry 197). -/
def fusionSelfTimed (k : Nat) (s : State) : State :=
  if k < 4 ∧ ¬ (s.lane (s.laneOf k)).running ∧ 0 < (s.bridgesOf k).length ∧ s.fusionDue k then
    let now := s.now
    let s := s.modAx k fun a => { a with pos := { a.pos with
      fusedAt := some now, flux := { a.pos.flux with valid := false, settling := false },
      waggle := { a.pos.waggle with valid := false, settling := false } } }
    (((s.vmUpdate k).fuse k 20000 false false).saveRecord (s.laneOf k) k)
  else s

/-! ### Starting (R211 to R216) -/

/-- The start method of Table 5.3 that applies, by row; none where no row does. -/
def State.startMethod (s : State) (k : Nat) : Option Nat :=
  let p := (s.ax k).pos
  let cz := s.par P.catchZero k
  let recentC : Bool := match p.lastContrib with
    | some t0 => decide (s.now ≤ t0 + 10000000)
    | none => false
  let wag := bit (s.par P.posSources k) 1
  if recentC ∧ ¬ bit (s.par P.coldFlags k) 1 then some 1
  else if s.sensorAbsolute k ∧ ¬ p.sensor.dropped then some 2
  else if p.vm.valid ∧ bit (s.par P.posSources k) 3 then some 3
  else if s.hp k P.machine = 0 ∧ ¬ s.currentsBelow k cz ∧
      ((s.bridgesOf k).any fun b => !(noDiode (s.bridge b).v (s.bridge b).vdc)) then some 4
  else if s.hp k P.machine = 0 ∧ wag then some 5
  else if s.hp k P.machine = 1 then some 6
  else none

/-- A procedure set, with the status bits that show it. -/
def State.setProc (s : State) (k : Nat) (f : AxPos → AxPos) : State := (s.modAx k fun a => { a with pos := f a.pos }).syncProc k

/-- The next try of a scout start from rest begins (Table 5.4). -/
def State.scoutTry (s : State) (k : Nat) (volt : Int) : State :=
  let s := s.setProc k fun p => { p with proc := .scoutSettle, procAt := s.now, polV := volt, wagSettle := 0, wagCount := 0, wagKs := [],
                                         we := 0, wi := 0, dtheta := 0, peakPlus := 0, peakMinus := 0 }
  s.incPar P.scoutCount k

/-- Switching starts by a row of Table 5.3. The lane has been started. A start by magnetising begins at field angle 0 without flux
(R216). -/
def State.startBy (s : State) (k row : Nat) : State :=
  let high := decide (s.hp k P.waggleOff ≤ iabs (s.ax k).pos.we)
  let s := s.modAx k fun a => { a with pos := { a.pos with wagHigh := high } }
  let s := s.setBit P.posStatus 6 (bit (s.par P.posSources k) 1 && !high && decide (row ≠ 3) && decide (row ≠ 4)) k
  match row with
  | 1 => s
  | 2 => s.setBit P.coldFlags 1 false k
  | 3 => s.setProc k fun p => { p with proc := .catchVoltage, flying := true, detectAt := s.now, catchLoop := ⟨p.vm.theta, p.dtheta * 65536⟩,
                                       lockRun := 0, emfLowSince := none }
  | 4 => s.setProc k fun p => { p with proc := .catchShort, flying := true, detectAt := s.now, lockRun := 0, catchLoop := {} }
  | 5 => (s.setPar P.scoutCount 0 k).scoutTry k (s.hp k P.polV)
  | _ =>
    let s := s.modAx k fun a => { a with hearth := { a.hearth with psiR := 0, thSlip := 0 } }
    s.setProc k fun p => { p with proc := .scoutMagnetise, procAt := s.now, theta := 0, dtheta := 0, we := 0, wi := 0 }

/-! ### Losing the rotor (R217 to R223) -/

/-- POS_LOST (R222). -/
def State.posLost (s : State) (k : Nat) : State :=
  (s.raiseOn 0x0401 k k ("CTL/HEARTH/" ++ dec (s.laneOf k))).setBit P.coldFlags 1 true k

/-- A catch attempt begins (R218): from the fused angle, or, for an attempt after a failed one, from the state reached (R221). -/
def State.catchStart (s : State) (k : Nat) (again : Bool := false) : State :=
  let short := decide (s.hp k P.machine = 0) && decide (s.xover k ≤ s.wmax k)
  let s := (s.setPar P.catchUsed (s.par P.catchUsed k + 1) k).incPar P.catchCount k
  let s := s.setProc k fun p =>
    let p := if again then p else { p with catchLoop := ⟨p.theta, p.dtheta * 65536⟩, lockRun := 0, lockHist := [] }
    let q := if short then .catchShort else if again ∧ p.proc = .catchVoltage then .catchVoltage else .catchDecay
    { p with proc := q, flying := false, six := false, detectAt := s.now, lockRun := if q = p.proc then p.lockRun else 0, emfLowSince := none,
             rampEndAt := none }
  s.posEvent k 2 (if short then 1 else 0)

/-- The next attempt, or the loss of position where no try is left (R221, R222). -/
def State.catchNext (s : State) (k : Nat) (again : Bool := false) : State :=
  if s.par P.catchUsed k < s.hp k P.catchTries then s.catchStart k again else s.posLost k

/-- Loss of synchronism by the criteria of a mask (R217, R218, R222). -/
def State.lossOfSync (s : State) (k cause : Nat) : State :=
  (((s.setPar P.losCause cause k).setBit P.posStatus 12 true k)).catchNext k

/-- The catch loop goes on by one control period at its speed, counted in 2^-16 angle counts per control period (R218). -/
def State.catchCoast (s : State) (k : Nat) : State :=
  s.modAx k fun a => { a with pos := { a.pos with
    catchLoop := { a.pos.catchLoop with x := angAdd (unsigned 32 a.pos.catchLoop.x) (rdiv a.pos.catchLoop.y 65536) } } }

/-- Speed of the catch loop in Q3.28. -/
def State.catchSpeed (s : State) (k cyc : Nat) : Calc Int :=
  satTo s32lo s32hi (rdiv ((s.ax k).pos.catchLoop.y * 10000000000000) (65536 * 16 * s.hp k P.baseFreq * (cyc * 25 : Nat)))

/-- The catch loop, at its prediction for this SE, takes a measured angle (R218): second order at FUSE_BW over the `tm` cycles since the
measurement before, lock after 16 innovations below 2°. -/
def State.catchAngle (s : State) (k th tm cyc : Nat) : State :=
  let p := (s.ax k).pos
  let nu := angSub th (unsigned 32 p.catchLoop.x)
  let wn : Int := min (rdiv (twoPi60 * s.hp k P.fuseBw * (tm * 25 : Nat)) 10000000000) (2 ^ 58 : Nat)
  let x := angAdd (unsigned 32 p.catchLoop.x) (rdiv (2 * wn * nu) (2 ^ 60 : Nat))
  let y := p.catchLoop.y + rdiv (wn * wn * nu * 65536 * cyc) (2 ^ 120 * max tm 1 : Nat)
  let ok := decide (180 * iabs nu < 4294967296)
  let s := s.modAx k fun a => { a with pos := { p with catchLoop := ⟨x, y⟩, lockRun := if ok then p.lockRun + 1 else 0 } }
  let (w, s) := s.calc k (s.catchSpeed k cyc)
  s.modAx k fun a => { a with pos := { a.pos with lockHist := (s.now, w) :: a.pos.lockHist.filter fun h => decide (s.now < h.1 + 5000000) } }

/-- The short-circuit path's angle at a measured SE (R218). -/
def State.shortAngle (s : State) (k tm : Nat) (i0 i1 : Vec2) : Calc Nat := do
  let p := (s.ax k).pos
  let g := s.wbT k tm
  let rs := s.hp k P.rs
  let ld := s.hp k P.ld
  let lq := s.hp k P.lq
  let comp (l a b : Int) : Calc Int := do
    let d ← subC a b
    let m ← addC a b
    subC (-(divq 30 (mul 28 l d) (if g = 0 then 1 else g))) (rdiv (mul 30 rs m) 2)
  let sg := sgn p.we
  let lm := (ld + lq) / 2
  let x0 ← comp lm i1.x i0.x
  let y0 ← comp lm i1.y i0.y
  let th0 := angAdd (atan2 y0 x0) (-(1073741824 * sg))
  let a ← parkC i1 th0
  let b ← parkC i0 th0
  let x1 ← comp ld a.x b.x
  let y1 ← comp lq a.y b.y
  let e1 ← invParkC ⟨x1, y1⟩ th0
  return angAdd (atan2 e1.y e1.x) (-(1073741824 * sg))

/-- Measured d and q currents of the lead bridge at an angle. -/
def State.measDq (s : State) (k th : Nat) : Vec2 := park (clarke (s.bridge (s.leadBridge k)).i) th

/-- CATCH_LOCK (R219, R220): the sources are judged with the flux observer as step 2 has loaded it. The lock stands for a source: it sets VALID and ends the cold angle by itself (DESIGN CHOICE, log entry
205). The integrators of the voltage path are those that give the back-EMF at zero references, less the gains' and the feed-forward's
parts (R112, R220). -/
def catchLock (k : Nat) (s : State) : State :=
  let a := s.ax k
  let p := a.pos
  if 4 ≤ k ∨ ¬ (p.proc = .catchVoltage ∨ p.proc = .catchShort) ∨ p.lockRun < 16 then s
  else
    let cyc := s.cycOf k
    let th := unsigned 32 p.catchLoop.x
    let psi := s.psiEff k
    let ((we, pc, v, dq), s) := s.calc k (do
      let we ← s.catchSpeed k cyc
      let i ← clarkeC (s.bridge (s.leadBridge k)).i
      let pc ← (Vec2.mk (mul 30 psi (cosQ th)) (mul 30 psi (sinQ th))).sumC (i.scale 28 (s.lqFlux k))
      let v ← parkC p.emf th
      let dq ← parkC i th
      pure (we, pc, v, dq))
    let r := if iabs we < s.hp k P.fluxLo then 0 else divq 30 (s.hp k P.fluxWc) we
    let m := floorPu 30 (one30 + mul 30 r r)
    let ps : Vec2 := ⟨divq 30 (pc.x - mul 30 r pc.y) m, divq 30 (pc.y + mul 30 r pc.x) m⟩
    let short := decide (p.proc = .catchShort)
    let flux := { p.flux with settling := false, theta := th, valid := decide (1048576 ≤ psi) }
    let votes := (s.modAx k fun a => { a with pos := { a.pos with we := we, flux := flux } }).votes k
    let far (n : Nat) : Bool := votes.any fun v => decide (v.src = n) && !(near v.theta th v.gate)
    let drop := (upto 4).filter far
    let srcs := (({ p with flux := flux } : AxPos).srcs.zipIdx).map fun x => { x.1 with dropped := x.1.dropped || far x.2, outSince := none, inSince := none }
    let p' := { p.withSrcs srcs with
      theta := th, we := we, wi := p.catchLoop.y, dtheta := s.angleStep k we cyc, ps := ps, fluxSettled := true, fluxInSince := some s.now,
      proc := .catchRamp, catchI := dq, valid := true, lastContrib := some s.now, lostSince := none, noMajSince := none, weHist := [(s.now, we)] }
    let iq := if short then dq.y else 0
    let id := if short then dq.x else 0
    let wp := if bit (s.hp k P.decouple) 1 then we else 0
    let n := (s.bridgesOf k).length
    let fill (z : Int) : Tab Int := (upto n).map fun j => (j, z)
    let ((tau, xd, xq), s) := s.calc k (do
      let f ← addF psi (mulF 28 (s.hp k P.ld - s.hp k P.lq) id)
      let xd ← if short then pure 0 else addC v.x (mul 24 (s.hp k P.kpD) dq.x)
      let xq ← if short then pure 0 else satTo s32lo s32hi (v.y + mul 24 (s.hp k P.kpQ) dq.y - mul 28 wp psi)
      pure (mul 30 iq f, xd, xq))
    let h := { a.hearth with xd := fill xd, xq := fill xq, rampTau := some tau, rampId := id, mpcCold := true }
    let s := (s.setAx k { a with pos := p', hearth := h }).syncProc k
    let s := (((s.setPar P.posAngle th k).setPar P.posSpeed we k).setPar P.fluxMag (clamp psi 0 u32hi) k).setBit P.coldFlags 1 false k
    let s := (s.setBit P.posStatus 0 true k).posEvent k 3 (if short then 1 else 0)
    drop.foldl (fun s n => s.posEvent k 0 n) s

/-- CATCH_NO_EMF (R218, R221): the rotor is near rest. -/
def catchNoEmf (k : Nat) (s : State) : State :=
  let p := (s.ax k).pos
  match p.emfLowSince with
  | some t0 =>
    if k < 4 ∧ p.proc = .catchVoltage ∧ t0 + 2000000 ≤ s.now then
      if bit (s.hp k P.posSources) 1 ∧ s.hp k P.machine = 0 then
        let s := ((s.setPar P.catchUsed 0 k).setBit P.posStatus 12 false k).modAx k fun a => { a with pos := { a.pos with flying := false } }
        (s.setPar P.scoutCount 0 k).scoutTry k (s.hp k P.polV)
      else s.catchNext k true
    else s
  | none => s

/-- CATCH_ATTEMPT_TIMEOUT (R221): 10 ms after the detection without lock. -/
def catchTimeout (k : Nat) (s : State) : State :=
  let p := (s.ax k).pos
  if k < 4 ∧ (p.proc = .catchDecay ∨ p.proc = .catchVoltage ∨ p.proc = .catchShort) ∧ p.detectAt + 10000000 ≤ s.now then s.catchNext k true
  else s

/-- CATCH_USED_RESET (R221). -/
def catchUsedReset (k : Nat) (s : State) : State :=
  match (s.ax k).pos.rampEndAt with
  | some t0 =>
    if k < 4 ∧ (s.par P.catchUsed k ≠ 0 ∨ bit (s.par P.posStatus k) 12) ∧ bit (s.par P.posStatus k) 0 ∧ t0 + 1000000000 ≤ s.now then
      ((s.setPar P.catchUsed 0 k).setBit P.posStatus 12 false k).modAx k fun a => { a with pos := { a.pos with rampEndAt := none } }
    else s
  | none => s

/-! ### Scout start (R212 to R215) -/

/-- SCOUT_FAIL (R215). -/
def State.scoutFail (s : State) (k : Nat) : State := s.raiseOn 0x0402 k k ("CTL/HEARTH/" ++ dec (s.laneOf k))

/-- All switches of an axis off at once (Table 5.4): the edge words in force, and those already written for the next period, place no edge
any more. -/
def State.switchesOff (s : State) (k : Nat) : State :=
  let n := s.laneOf k
  let bs := s.bridgesOf k
  let l := s.lane n
  let cut (t : Tab Words) : Tab Words := t.map fun e => if bs.contains e.1 then (e.1, {}) else e
  let s := s.setLane n { l with halves := l.halves.map fun h => { h with words := h.words.filter fun e => !(bs.contains e.1) },
                                inForce := cut l.inForce, shadow := cut l.shadow }
  each bs (s.axisOff k) fun b s => s.setBridge b { s.bridge b with vNext := {}, phNext := [], floatNext := none }

/-- A try has failed; the last one raises SCOUT_FAIL, else the currents decay first. -/
def State.scoutTryFailed (s : State) (k : Nat) : State :=
  if s.hp k P.scoutTries ≤ s.par P.scoutCount k then s.scoutFail k
  else (s.switchesOff k).setProc k fun p => { p with proc := .scoutRetryDecay, procAt := s.now }

/-- SCOUT_SETTLE_TIMEOUT (Table 5.4): no settling within 50 ms of the first SE. -/
def scoutSettleTimeout (k : Nat) (s : State) : State :=
  let p := (s.ax k).pos
  if k < 4 ∧ p.proc = .scoutSettle ∧ ¬ (s.lane (s.laneOf k)).first ∧ p.procAt + 50000000 ≤ s.now then s.scoutTryFailed k else s

/-- The largest change of the d current from the pulse's start so far, with the phase currents of one more sample (Table 5.4). -/
def State.pulsePeak (s : State) (k : Nat) (i : List Int) (soFar : Int) : Int :=
  let d := park (clarke i) (s.ax k).pos.theta
  max soFar (iabs (d.x - (s.ax k).pos.catchI.x))

/-- POLARITY_PULSE_END (Table 5.4, R213): POL_TIME after the pulse came to act, or at IMAX; the lead bridge's phase codes at the end. -/
def polarityPulseEnd (k : Nat) (raw : List Int) (s : State) : State :=
  let p := (s.ax k).pos
  let b := s.leadBridge k
  let i := (upto 3).map fun x => s.curPu b x (s.curCode b (raw.getD x 0))
  let due : Bool := match p.pulseAt with
    | some t0 => decide (t0 + (s.hp k P.polTime).toNat * 1000 ≤ s.now) || decide (s.hp k P.imax ≤ (clarke i).mag)
    | none => false
  if 4 ≤ k ∨ ¬ due then s
  else match p.proc with
    | .scoutPlus =>
      let pk := s.pulsePeak k i p.peakPlus
      (s.switchesOff k).setProc k fun p => { p with peakPlus := pk, proc := .scoutDecay, procAt := s.now }
    | .scoutMinus =>
      let pk := s.pulsePeak k i p.peakMinus
      let m := 1000 + s.hp k P.polMargin
      let plus := decide (m * pk ≤ 1000 * p.peakPlus)
      let minus := decide (m * p.peakPlus ≤ 1000 * pk)
      if plus ∨ minus then
        let th := if plus then p.theta else angAdd p.theta 2147483648
        let s := s.setProc k fun p => { p with peakMinus := pk, theta := th, proc := .scoutBack, releaseAngle := th, releaseAt := s.now,
                                               travel := 0, valid := true, lastContrib := some s.now }
        let s := ((s.setBit P.posStatus 8 true k).setBit P.coldFlags 1 false k).setBit P.posStatus 0 true k
        s.setPar P.posAngle th k
      else (s.switchesOff k).setProc k fun p => { p with peakMinus := pk, proc := .scoutRetryDecay, procAt := s.now }
    | _ => s

/-- Current codes taken for bridges outside the control period. -/
def State.takeCodes (s : State) (bs : List Nat) (codes : List (List Int)) : State :=
  (bs.zipIdx).foldl (fun s x =>
    let raw := codes.getD x.2 []
    let br := s.bridge x.1
    s.setBridge x.1 { br with rawI := raw, i := (upto 3).map fun y => s.curPu x.1 y (s.curCode x.1 (raw.getD y 0)) }) s

/-- CURRENT_DECAYED (Table 5.4, R215, R218): every |i| is below CATCH_ZERO, by codes of the axis's bridges. -/
def currentDecayed (k : Nat) (codes : List (List Int)) (s : State) : State :=
  let p := (s.ax k).pos
  let bs := s.bridgesOf k
  let s := s.takeCodes bs codes
  if 4 ≤ k ∨ ¬ s.currentsBelow k (s.hp k P.catchZero) then s
  else match p.proc with
    | .scoutDecay => s.setProc k fun p => { p with proc := .scoutMinus, procAt := s.now, peakMinus := 0, pulseNext := false, pulseAt := none }
    | .scoutRetryDecay =>
      if s.hp k P.scoutTries ≤ s.par P.scoutCount k then s.scoutFail k
      else s.scoutTry k (min one30 (rdiv (3 * p.polV) 2))
    | .catchDecay => s.setProc k fun p => { p with proc := .catchVoltage, emfLowSince := none, lockRun := 0 }
    | _ => s

/-- SCOUT_BACK_CHECK_END (R214), on the travel from the angle at release: 90° with the torque or 2 s end it; travel beyond SCOUT_BACK against it fails. -/
def scoutBackEnd (k : Nat) (s : State) : State :=
  let p := (s.ax k).pos
  let along := sgn (s.ax k).hearth.lastTau * p.travel
  if 4 ≤ k ∨ p.proc ≠ .scoutBack then s
  else if 3600 * along < -(s.hp k P.scoutBack * 4294967296) then s.scoutTryFailed k
  else if 1073741824 ≤ along ∨ p.releaseAt + 2000000000 ≤ s.now then
    (s.setProc k fun p => { p with proc := .none }).posEvent k 4 0
  else s

/-! ### Six-step (R224) -/

/-- LIMP_CROSSING_TIMEOUT (R224): no crossing within 1.5 times the last interval meets criterion 4. -/
def limpCrossingTimeout (k : Nat) (s : State) : State :=
  let p := (s.ax k).pos
  if k < 4 ∧ p.six ∧ p.proc = .none ∧ 0 < p.interval ∧ 2 * p.crossAt + 3 * p.interval ≤ 2 * s.now then s.lossOfSync k 16 else s

/-- A source has contributed for 100 ms without a break (R224, R228). -/
def State.backFor100 (s : State) (k : Nat) : Bool :=
  (s.ax k).pos.srcs.any fun x => match x.contribSince with
    | some t0 => decide (t0 + 100000000 ≤ s.now)
    | none => false

/-- LIMP_RETURN (Table 2.4). -/
def limpReturn (k : Nat) (s : State) : State :=
  if k < 4 ∧ ((s.ax k).pos.six ∨ (s.ax k).st = .limp) ∧ s.backFor100 k then
    let s := (s.setProc k fun p => { p with six := false }).settle k
    if (s.ax k).st = .limp then s.moveAxis k .running else s
  else s

end Sys2Proof.Machine
end

