-- ==== Sys2Proof/Machine/Hearth.lean ====
section
/-!
DEFINITION. The Hearth (chapters 3 and 4): current reference, vector and predictive control, six-step, edge words
with their shifts, guard and refresh, and the control period that SAMPLE_EVENT opens.
-/
namespace Sys2Proof.Machine

/-- The divisor of R107 for a d reference: psi_eff + (ld − lq)·id, at least 0.05. -/
def State.denC (s : State) (k : Nat) (idr : Int) : Calc Int := do
  let d ← addF (s.psiEff k) (mulF 28 (s.hp k P.ld - s.hp k P.lq) idr)
  return floorPu 30 d
def State.denOf (s : State) (k : Nat) (idr : Int) : Int := (s.denC k idr).value

/-- den of the last period (R341, R343), or as it stands before the first. -/
def State.lastDen (s : State) (k : Nat) : Int := (s.ax k).hearth.den.getD (s.denOf k (s.ax k).hearth.taken.idRef)

/-- Hive share that the Hearth adds to TAU_REF (R45, R346). -/
def State.hiveShareTau (s : State) (k : Nat) : Int :=
  let r := s.ring.latched
  if s.hiveAx = k ∧ r.complete then
    match r.mode with
    | 1 => r.share
    | 3 => mul 30 r.share (s.denOf k (s.ax k).hearth.taken.idRef)
    | _ => 0
  else 0

/-! ### Current reference (R107) -/

/-- The references of a period. -/
structure Refs where
  tau : Int
  id : Int
  iq : Int
  imax : Int
  isat : Bool
  den : Int
  deriving DecidableEq, Repr

/-- R107, from a torque that overrides TAU_REF where one is given (R50, R220). -/
def State.currentRefC (s : State) (k : Nat) (above : Option Int) (idOver : Option Int) : Calc Refs := do
  let h := (s.ax k).hearth
  let c := h.taken
  let we := (s.ax k).pos.we
  let t0 ← match above with
    | some t => pure t
    | none => addC c.tauRef (if c.shareEn then s.hiveShareTau k else 0)
  let lim := if 0 ≤ t0 * we then c.tauMot else c.tauGen
  let t1 := clamp t0 (-lim) lim
  let t2 := if (s.link (s.linkOf k)).regenBlock ∧ t1 * we < 0 then 0 else t1
  let idr := idOver.getD c.idRef
  let den ← s.denC k idr
  let iq := if c.kind && above.isNone then c.iqRef else divq 30 t2 den
  let im := min (s.hp k P.imax) c.imaxDyn
  let id := clamp idr (-im) im
  if im * im < id * id + iq * iq then return ⟨t2, id, sgn iq * isqrt ((im * im - id * id).toNat), im, true, den⟩
  else return ⟨t2, id, iq, im, false, den⟩
def State.currentRef (s : State) (k : Nat) (above : Option Int) (idOver : Option Int) : Refs := (s.currentRefC k above idOver).value

/-! ### Vector mode (R109) -/

/-- SYS_SHIFT of system j (R125), for six-phase and twelve-phase axes. -/
def State.sysShift (s : State) (k j : Nat) : Int :=
  if s.hp k P.grouping < 3 then 0
  else match j with
    | 1 => s.hp k P.sysShift1 | 2 => s.hp k P.sysShift2 | 3 => s.hp k P.sysShift3 | _ => 0

/-- What one system's vector computation gives. -/
structure VecOut where
  v : Vec2
  ab : Vec2
  vsat : Bool
  xd : Int
  xq : Int
  duty : List Int
  headroom : Int
  ed : Int
  eq : Int
  fd : Int
  fq : Int
  vmax : Int
  deriving DecidableEq, Repr

/-- vdc of a bridge in Q.30 with the floor of R133, and its reciprocal in UQ4.28 (R180). -/
def vdc30 (vdc : Int) : Int := 4 * vdc
def recip (vdc : Int) : Int := clamp (tdiv (2 ^ 56) (floorPu 28 vdc)) 0 u32hi

/-- On time shares of three phase voltages (R109): 0.5 + (v + voff) / vdc, 0 to 1 in UQ1.30. -/
def dutiesC (ab : Vec2) (vz vdc : Int) : Calc (List Int × Int) := do
  let v ← invClarkeC ab
  let mx := v.foldl (fun a x => max a x) (v.getD 0 0)
  let mn := v.foldl (fun a x => min a x) (v.getD 0 0)
  let voff ← addC (-(rdiv (mx + mn) 2)) vz
  let r := recip vdc
  let d ← v.mapM fun x => do
    let y ← addC x voff
    pure (clamp (one30 / 2 + mul 28 y r) 0 one30)
  return (d, clamp (rdiv (vdc30 vdc - (mx - mn)) 2) 0 s32hi)
def duties (ab : Vec2) (vz vdc : Int) : List Int × Int := (dutiesC ab vz vdc).value

/-- R109 for one system; `inj` the injected d voltage, saturations counted. -/
def State.vectorStep (s : State) (k j b : Nat) (i : Vec2) (r : Refs) (balD balQ vz inj : Int) : Calc VecOut := do
  let h := (s.ax k).hearth
  let p := (s.ax k).pos
  let we := p.we
  let dec := s.hp k P.decouple
  let rs := if bit dec 2 then s.hp k P.rs else 0
  let w0 := if bit dec 0 then we else 0
  let wp := if bit dec 1 then we else 0
  let idR ← addC r.id balD
  let iqR ← addC r.iq balQ
  let ed ← subC idR i.x
  let eq ← subC iqR i.y
  let fd ← satTo s32lo s32hi (mul 30 rs r.id - mul 28 w0 (mulF 28 (s.hp k P.lq) r.iq))
  let fq ← satTo s32lo s32hi (mul 30 rs r.iq + mul 28 w0 (mulF 28 (s.hp k P.ld) r.id) + mul 28 wp (s.psiEff k))
  let xd := tget h.xd 0 j
  let xq := tget h.xq 0 j
  let vdc := (s.bridge b).vdc
  let vmax := clamp (rdiv (s.hp k P.vmaxFrac * vdc30 vdc * invSqrt3_60) (10000 * 2 ^ 60)) 0 s32hi
  let vd0 ← satTo s32lo s32hi (mul 24 (s.hp k P.kpD) ed + xd + fd + inj)
  let vq0 ← satTo s32lo s32hi (mul 24 (s.hp k P.kpQ) eq + xq + fq)
  let vd := clamp vd0 (-vmax) vmax
  let above := decide (vmax * vmax < vd * vd + vq0 * vq0)
  let vq := if above then sgn vq0 * isqrt ((vmax * vmax - vd * vd).toNat) else vq0
  let xd' ← if above && decide (sgn ed = sgn vd) then pure xd else (do let y ← addC xd (mul 30 (s.hp k P.kiD) ed); pure (clamp y (-vmax) vmax))
  let xq' ← if above && decide (sgn eq = sgn vq) then pure xq else (do let y ← addC xq (mul 30 (s.hp k P.kiQ) eq); pure (clamp y (-vmax) vmax))
  let thk := angAdd p.theta (if s.hp k P.machine = 1 then h.thSlip else 0)
  let thk := angAdd thk (-(s.sysShift k j))
  let tho := angAdd thk (rdiv (p.dtheta * s.hp k P.angleAdv) 256)
  let ab ← invParkC ⟨vd, vq⟩ tho
  let (d, room) ← dutiesC ab vz vdc
  return { v := ⟨vd, vq⟩, ab := ab, vsat := above, xd := xd', xq := xq', duty := d, headroom := room, ed := ed, eq := eq, fd := fd, fq := fq, vmax := vmax }

/-- Frame angle of a system at SE: theta, or the field angle for MACHINE 1 (R111), less its shift. -/
def State.frame (s : State) (k j : Nat) : Nat :=
  let th := angAdd (s.ax k).pos.theta (if s.hp k P.machine = 1 then (s.ax k).hearth.thSlip else 0)
  angAdd th (-(s.sysShift k j))

/-! ### Predictive mode (R113 to R123) -/

/-- Alpha-beta voltage of a switching state, bits U V W with U most significant (R114). -/
def stateVolt (st : Nat) (vdc : Int) : Vec2 :=
  clarke ([4, 2, 1].map fun m => if st / m % 2 = 1 then vdc30 vdc else 0)

/-- Number of switches that change between two states (R117). -/
def transitions (a b : Nat) : Nat := ([4, 2, 1].filter fun m => a / m % 2 ≠ b / m % 2).length

/-- One forward-Euler step (R115); its fluxes have the range of UQ2.30. -/
def State.eulerC (s : State) (k : Nat) (cd cq : Int) (i v : Vec2) : Calc Vec2 := do
  let we := (s.ax k).pos.we
  let rs := s.hp k P.rs
  let ud ← satTo s32lo s32hi (v.x - mul 30 rs i.x + mul 28 we (mulF 28 (s.hp k P.lq) i.y))
  let fd ← addF (mulF 28 (s.hp k P.ld) i.x) (s.psiEff k)
  let uq ← satTo s32lo s32hi (v.y - mul 30 rs i.y - mul 28 we fd)
  let x ← addC i.x (mul 28 cd ud)
  let y ← addC i.y (mul 28 cq uq)
  return ⟨x, y⟩
def State.euler (s : State) (k : Nat) (cd cq : Int) (i v : Vec2) : Vec2 := (s.eulerC k cd cq i v).value

/-- cd and cq of R115 in UQ4.28. -/
def State.coefs (s : State) (k cyc : Nat) : Int × Int :=
  let g := s.wbT k cyc
  let c := fun l => clamp (tdiv (g * 67108864) (if l = 0 then 1 else l)) 0 u32hi
  (c (s.hp k P.ld), c (s.hp k P.lq))

/-- What the predictive search knows of a system. -/
structure Mpc where
  k : Nat
  j : Nat
  b : Nat
  cd : Int
  cq : Int
  vdc : Int
  th : Nat
  dth : Int
  idR : Int
  iqR : Int
  imax : Int
  shunt : Bool
  double : Bool
  peak : Bool
  fits : Bool
  ext : Bool
  holdMax : Nat
  senseMax : Nat
  deriving DecidableEq, Repr

/-- Cost of one step in UQ10.38 (R117, R134). -/
def State.stepCost (s : State) (m : Mpc) (i : Vec2) (n : Nat) : Calc Int := do
  let sq (e : Int) : Int := e * e / 4194304
  let ed ← subC m.idR i.x
  let eq ← subC m.iqR i.y
  let c ← satTo 0 (2 ^ 48 - 1) (rdiv (s.hp m.k P.mpcWD * sq ed) 4096 + rdiv (s.hp m.k P.mpcWQ * sq eq) 4096)
  satTo 0 (2 ^ 48 - 1) (c + s.hp m.k P.mpcLambdaSw * 67108864 * n)

/-- Window of a held state at the SE that ends step n (R121): whether it is valid, and the hold counts after. The condition on T − t_on,
which the manual states for the states with two low sides, is asked of 110, 101 and 011 too (DESIGN CHOICE, log entry 226). -/
def Mpc.window (m : Mpc) (n st hc sh : Nat) : Option (Nat × Nat) :=
  let endsPeak := m.double && (if n % 2 = 1 then m.peak else !m.peak)
  if ¬ m.shunt ∨ endsPeak then some (hc, sh)
  else
    let high := ([4, 2, 1].filter fun b => st / b % 2 = 1).length
    if high ≤ 1 then (if m.fits then some (0, 0) else none)
    else if high = 2 ∧ m.ext ∧ m.fits ∧ hc < m.holdMax ∧ sh < m.senseMax then some (hc + 1, sh + 1)
    else none

/-- Best valid cost of the steps from n on, after a state and a current; none where no sequence is valid. -/
def State.search (s : State) (m : Mpc) : Nat → Nat → Nat → Nat → Nat → Vec2 → Calc (Option Int)
  | 0, _, _, _, _, _ => pure (some 0)
  | h + 1, n, prev, hc, sh, i =>
    let endsPeak := m.double && (if n % 2 = 1 then m.peak else !m.peak)
    let st0 := if m.shunt ∧ ¬ endsPeak then 0 else if transitions prev 7 < transitions prev 0 then 7 else 0
    [st0, 1, 2, 3, 4, 5, 6].foldlM (fun best st =>
      match m.window n st hc sh with
      | none => pure best
      | some (hc', sh') => do
        let v ← parkC (stateVolt st m.vdc) (angAdd m.th (rdiv (m.dth * (2 * n + 1 : Nat)) 2))
        let i' ← s.eulerC m.k m.cd m.cq i v
        if m.imax * m.imax < i'.x * i'.x + i'.y * i'.y then pure best
        else do
          let r ← State.search s m h (n + 1) st hc' sh' i'
          match r with
          | none => pure best
          | some j => do
            let c ← s.stepCost m i' (transitions prev st)
            let t ← satTo 0 (2 ^ 48 - 1) (j + c)
            match best with
            | none => pure (some t)
            | some u => pure (if t < u then some t else best)) none

/-- The state applied by R118: lowest cost, then fewest transitions, then lowest code. -/
def State.mpcChoose (s : State) (m : Mpc) (h s0 hc sh : Nat) (i : Vec2) : Calc (Option Nat) := do
  let endsPeak := m.double && m.peak
  let st0 := if m.shunt ∧ ¬ endsPeak then 0 else if transitions s0 7 < transitions s0 0 then 7 else 0
  let cands ← [st0, 1, 2, 3, 4, 5, 6].filterMapM fun st =>
    match m.window 1 st hc sh with
    | none => pure none
    | some (hc', sh') => do
      let v ← parkC (stateVolt st m.vdc) (angAdd m.th (rdiv (m.dth * 3) 2))
      let i' ← s.eulerC m.k m.cd m.cq i v
      if m.imax * m.imax < i'.x * i'.x + i'.y * i'.y then pure none
      else do
        let r ← State.search s m (h - 1) 2 st hc' sh' i'
        match r with
        | none => pure none
        | some j => do
          let c ← s.stepCost m i' (transitions s0 st)
          let t ← satTo 0 (2 ^ 48 - 1) (j + c)
          pure (some (t, transitions s0 st, st))
  let better := fun (a b : Int × Nat × Nat) =>
    decide (a.1 < b.1) || (decide (a.1 = b.1) && (decide (a.2.1 < b.2.1) || (decide (a.2.1 = b.2.1) && decide (a.2.2 < b.2.2))))
  return (cands.foldl (fun best c => match best with
    | none => some c
    | some b => if better c b then some c else best) none).map (·.2.2)

/-! ### Edge words (R98 to R103, R164 to R179, R375) -/

/-- What the word stage gives for one bridge. -/
structure WordOut where
  rise : List Edge
  fall : List Edge
  carry : List Int
  shifted : Bool
  guarded : Bool
  vsat : Bool
  /-- Applied on times of the phases without the dead-time correction, in steps (R203). -/
  eff : List Int
  deriving DecidableEq, Repr

/-- Dead-time correction of a phase in steps (R102). -/
def State.deadComp (s : State) (k b : Nat) (i : Int) : Int :=
  if s.hp k P.dtComp ≠ 1 then 0
  else
    let t := steps (s.gp (3 * b) P.deadTime)
    let lim := rdiv one30 50
    if iabs i < lim then rdiv (i * t) (2 * lim) else sgn i * rdiv t 2

/-- The loop of R171 with SHIFT_MODE 0: while two phases are short, the one with the smallest shift is shifted. -/
def shiftGo (t : Nat → Int) (ok : Nat → Bool) : Nat → List Nat → List Nat → List Nat
  | 0, _, acc => acc
  | f + 1, sh, acc =>
    if sh.length < 2 then acc
    else
      match (sh.filter ok).foldl (fun (best : Option Nat) x => match best with
          | none => some x
          | some y => if t x < t y then some x else best) none with
      | none => acc
      | some x => shiftGo t ok f (sh.filter (· ≠ x)) (acc ++ [x])

/-- The phases of a bridge to shift, by SHIFT_MODE (R171); on times in steps. -/
def shiftChoice (mode h16 need : Int) (tc : List Int) : List Nat :=
  let t := fun x => tc.getD x 0
  let short := (upto 3).filter fun x => h16 - t x < need
  let ok := fun x => decide (need ≤ 2 * (h16 - t x))
  if mode = 1 then short.filter ok
  else
    shiftGo t ok 3 short []

/-- The window guard on three on times (R178): offset, and scaling where the offset does not suffice. -/
def guardTimes (h16 need : Int) (tc : List Int) : List Int × Bool :=
  let t := fun x => tc.getD x 0
  let mn := min (t 0) (min (t 1) (t 2))
  let mx := max (t 0) (max (t 1) (t 2))
  let mid := t 0 + t 1 + t 2 - mn - mx
  let lim := max 0 (h16 - (need + 1) / 2)
  if mid - mn ≤ lim then
    let d := max 0 (mid - lim)
    (tc.map fun x => x - d, false)
  else
    let f := fun x => h16 / 2 + tdiv ((x - h16 / 2) * lim) (mid - mn)
    let d := max 0 (f mid - lim)
    (tc.map fun x => max 0 (f x - d), true)

/-- Minimum-pulse rule (R103). -/
def minPulse (h16 mp t : Int) : Int := if t < mp then 0 else if h16 - mp < t then h16 else t

/-- Cap on COMPARE by a refresh pulse (R375): half of max(2.0 µs, 2 % of the carrier period) low each half. -/
def refreshCap (half : Nat) : Int :=
  let h16 : Int := 16 * half
  h16 - (max (12800 : Int) (rdiv (2 * h16) 50) + 1) / 2

/-- Words of a bridge from the on times of vector mode; `endsValley` where the period ends at a valley SE. -/
def State.vectorWords (s : State) (k b : Nat) (half : Nat) (duty : List Int) (i : List Int) (endsValley rising : Bool) (cNext : Nat) : WordOut :=
  let h16 : Int := 16 * half
  let double := decide (s.hp k P.update = 1)
  let shunt := decide (s.par P.csMode b = 0)
  let br := s.bridge b
  let tc0 := (upto 3).map fun x => clamp (rdiv (duty.getD x 0 * h16) one30) 0 h16
  let comp := (upto 3).map fun x => s.deadComp k b (i.getD x 0)
  let tc := (upto 3).map fun x => clamp (tc0.getD x 0 + comp.getD x 0) 0 h16
  let need := s.minWin b + steps (s.tOn b)
  let act := shunt && endsValley
  let pass := fun (l : List Int) => ((upto 3).filter fun x => decide (need ≤ h16 - l.getD x 0) || decide (need ≤ 2 * (h16 - l.getD x 0))).length
  let guardOn := act && decide (pass tc < 2) && decide ((s.bp b P.senseHoldMax b).toNat < cNext + 1)
  let (tc, vs) := if guardOn then guardTimes h16 need tc else (tc, false)
  let sh := if act then shiftChoice (s.bp b P.shiftMode b) h16 need tc else []
  let mp := steps (s.hp k P.minPulse)
  -- a half of a shifted phase on which R169 acts is exempt from R103
  let word (raw : Bool) (t : Int) : Int :=
    let t := if raw then t else minPulse h16 mp t
    clamp (if br.refresh then min t (refreshCap half) else t) 0 h16
  let pair : List (Int × Int × Int × Bool) := (upto 3).map fun x =>
    let t := tc.getD x 0
    if sh.contains x then
      let d := need - (h16 - t)
      let tr := t + d
      let tf := t - d
      if h16 - mp < tr ∧ tr < h16 then (h16, 2 * t - h16, h16 - t, true) else (tr, tf, d, false)
    else (t, t, 0, false)
  let e (t : Int) : Edge := ⟨.modulate, t.toNat⟩
  -- the on time that acts on the motor: none of the dead-time correction, which a word without an edge has none of
  let net (x : Nat) (w : Int) : Int := if w ≤ 0 then 0 else if h16 ≤ w then h16 else clamp (w - comp.getD x 0) 0 h16
  if double then
    let w := (upto 3).map fun x =>
      let p := pair.getD x (0, 0, 0, false)
      word p.2.2.2 (clamp (p.2.1 + (if rising then br.carry.getD x 0 else 0)) 0 h16)
    { rise := if rising then w.map e else [], fall := if rising then [] else w.map e,
      carry := if rising then [0, 0, 0] else pair.map (·.2.2.1), shifted := !sh.isEmpty, guarded := guardOn, vsat := vs,
      eff := (upto 3).map fun x => net x (w.getD x 0) }
  else
    let r := pair.map fun p => word p.2.2.2 p.1
    let f := pair.map fun p => word p.2.2.2 p.2.1
    { rise := r.map e, fall := f.map e, carry := [0, 0, 0], shifted := !sh.isEmpty, guarded := guardOn, vsat := vs,
      eff := (upto 3).map fun x => rdiv (net x (r.getD x 0) + net x (f.getD x 0)) 2 }

/-- Words of a held switching state (R119), a high phase capped where a refresh pulse is due (R375). -/
def stateWords (st half : Nat) (refresh : Bool) : List Edge :=
  [4, 2, 1].map fun m =>
    if st / m % 2 = 1 then (if refresh then ⟨.modulate, (refreshCap half).toNat⟩ else ⟨.highOn, 0⟩) else ⟨.lowOn, 0⟩

/-- Alpha-beta voltage of those words over their period: a phase capped by a refresh pulse is high for its share of it (R203). -/
def stateWordVolt (st half : Nat) (refresh : Bool) (vdc : Int) : Vec2 :=
  let high := if refresh then rdiv (vdc30 vdc * refreshCap half) (16 * max half 1 : Nat) else vdc30 vdc
  clarke ([4, 2, 1].map fun m => if st / m % 2 = 1 then high else 0)

/-- New shadow words from those of one half or of both. -/
def Words.update (w : Words) (rise fall : List Edge) : Words :=
  { rise := if rise.isEmpty then w.rise else rise, fall := if fall.isEmpty then w.fall else fall }

/-- A refresh pulse is due (R375, R377): from a BOOT_V below BOOT_WARN until all are 0.3 V above it. -/
def State.refreshDue (s : State) (b : Nat) : Bool :=
  let v := (cellsOfBridge b).map fun g => s.par P.bootV g
  decide (s.gp (3 * b) P.bootMode = 0) &&
    (v.any (fun x => decide (x < s.gp (3 * b) P.bootWarn)) || ((s.bridge b).refresh && v.any fun x => decide (x < s.gp (3 * b) P.bootWarn + 30)))

/-! ### Six-step (R225 to R227) -/

/-- Positive, negative and floating phase of a sector for positive torque (Table 5.6). -/
def sixPhases (sector : Nat) : Nat × Nat × Nat :=
  match sector % 6 with
  | 0 => (1, 2, 0) | 1 => (1, 0, 2) | 2 => (2, 0, 1) | 3 => (2, 1, 0) | 4 => (0, 1, 2) | _ => (0, 2, 1)

/-- Sector of an electrical angle: sector 0 is centred on 0°. -/
def sectorOf (th : Nat) : Nat := (unsigned 32 (th + 357913941) * 6 / 4294967296) % 6

/-- The axis commutates six-step from its fused angle, advanced by we to the boundary from which the first six-step words act (R226).
The first interval is counted from the crossing that this prediction places: the last one before that boundary (DESIGN CHOICE, log
entry 203). -/
def State.enterSix (s : State) (k : Nat) : State :=
  let p := (s.ax k).pos
  let from_ := s.now + s.cycOf k * 5 / 2
  let th := angAdd p.theta p.dtheta
  let f : Int := s.hp k P.baseFreq
  let w := max 1 (iabs p.we)
  let iv := (tdiv (268435456 * 1000000000000) (6 * w * f)).toNat
  let into : Int := (unsigned 32 (th + 357913941) * 6 % 4294967296 : Nat)
  let left := if 0 ≤ p.we then 4294967296 - into else into
  let comm := from_ + (tdiv (left * iv) 4294967296).toNat
  let mid := comm - iv / 2
  s.setProc k fun p => { p with six := true, procAt := s.now, sector := sectorOf th, interval := iv,
                                crossAt := if from_ ≤ mid then mid - iv else mid,
                                commAt := some comm, lastFloat := 0, lastFloatAt := 0, sixX := [] }

/-- LIMP entry of R224, R312, where its conditions hold. -/
def State.limpPossible (s : State) (k : Nat) : Bool :=
  let w := s.wmax k
  decide (s.hp k P.machine = 0) && decide (s.hp k P.limpEn = 1) && decide (s.hp k P.sixMin ≤ w) && decide (w < s.xover k)

/-- Zero crossing and commutation at a valley SE (R226). -/
def State.sixSense (s : State) (k : Nat) : State :=
  let p := (s.ax k).pos
  if s.now ≤ p.procAt then s
  else
  let b := s.bridge (s.leadBridge k)
  let (_, _, fl) := sixPhases p.sector
  let v := b.v.getD fl 0
  let lim := rdiv b.vdc 100
  let was := p.lastFloat
  let p1 := { p with lastFloat := v, lastFloatAt := s.now }
  let cross := decide (0 < p.lastFloatAt) && ((decide (was ≤ lim) && decide (lim < v)) || (decide (lim < was) && decide (v ≤ lim)))
  if cross then
    let dt : Int := (s.now - p.lastFloatAt : Nat)
    let tc := p.lastFloatAt + (tdiv (dt * iabs (lim - was)) (max 1 (iabs (v - was)))).toNat
    let iv := max 1 (tc - p.crossAt)
    let f := s.hp k P.baseFreq
    let we := clamp (sgn p.we * tdiv (268435456 * 1000000000000) (6 * iv * f)) s32lo s32hi
    let den : Int := 65536 * 16 * f * (s.cycOf k * 25 : Nat)
    s.modAx k fun a => { a with pos := { p1 with crossAt := tc, interval := iv, commAt := some (tc + iv / 2), we := we,
                                                 wi := rdiv (we * den) 10000000000000, dtheta := s.angleStep k we (s.cycOf k) } }
  else s.modAx k fun a => { a with pos := p1 }

/-- Commutation to the next sector (R226): the words of this period act from the next period boundary on, so a crossing
due by then commutates. The sample at that boundary still belongs to the sector left. -/
def State.sixCommutate (s : State) (k : Nat) : State :=
  let p := (s.ax k).pos
  let next := s.now + s.cycOf k * 5 / 2
  match p.commAt with
  | some t0 =>
    if t0 ≤ next then
      s.modAx k fun a => { a with pos := { p with sector := (p.sector + (if 0 ≤ p.we then 1 else 5)) % 6, commAt := none, lastFloatAt := 0,
                                                  procAt := next } }
    else s
  | none => s

/-- The six-step output of system j's bridge: torque-producing current by the q gains (R227); words, phase voltages, and the floating phase,
whose voltage is the one measured in the period in which the words act (R203). Where a refresh is due the floating phase too has its low
side on, through the period: an edge word has no form for a low-side pulse between two times with both sides off (R375, Table 3.3; DESIGN
CHOICE, log entry 239). -/
def State.sixWords (s : State) (k j b half : Nat) (tau imax : Int) : List Edge × List Int × Nat × Int :=
  let p := (s.ax k).pos
  let (a, n, f) := sixPhases p.sector
  let (pos, neg) := if 0 ≤ tau then (a, n) else (n, a)
  let br := s.bridge b
  let t := min (iabs tau) (s.sp k P.ratedTorque / 2)
  let ref := min imax (divq 30 t (floorPu 30 (rdiv (s.hp k P.psi * 11027) 10000)))
  let e := ref - br.i.getD pos 0
  let vd := vdc30 br.vdc
  let x := clamp (tget p.sixX 0 j + mul 30 (s.hp k P.kiQ) e) 0 vd
  let v := clamp (mul 24 (s.hp k P.kpQ) e + x) 0 vd
  let h16 : Int := 16 * half
  let cap := h16 - (s.minWin b + steps (s.tOn b) + 1) / 2
  let cap := if br.refresh then min cap (refreshCap half) else cap
  let cmp := clamp (min (rdiv (mul 28 v (recip br.vdc) * h16) one30) cap) 0 h16
  let w := (upto 3).map fun y => if y = pos then (⟨.modulate, cmp.toNat⟩ : Edge) else if y = neg then ⟨.lowOn, 0⟩
    else if br.refresh then ⟨.lowOn, 0⟩ else ⟨.bothOff, 0⟩
  let vp := rdiv (vd * cmp) (max 1 h16)
  (w, (upto 3).map fun y => if y = pos then vp else 0, f, x)

end Sys2Proof.Machine
end

