-- ==== Sys2Proof/Machine/Period.lean ====
section
/-!
DEFINITION. The control period: what SAMPLE_EVENT, the deadline and the dispatch of a lane do (Table 1.7), lane
faults and the takeover by L4 (Table 3.6), HOUSE_SILENT, and the events of the sensing front end (Table 4.6).
-/
namespace Sys2Proof.Machine

/-! ### The opening of a period -/

/-- Lane number under which an axis's sample plane and event lines stand: that of a replaced lane while L4 runs it. -/
def State.planeOf (s : State) (n : Nat) : Nat := if n = 4 then s.parN P.spareFor else n

/-- Half period of the carrier from the next valley on (R94). -/
def State.nextHalf (s : State) (k : Nat) : Nat := halfOf (s.hp k P.carrierEff).toNat

/-- CLK_HEARTH cycles by which the carrier lock lengthens the carrier period that a valley begins (R339). -/
def State.lockAdjust (s : State) (k half : Nat) : Int :=
  if s.pwmLocked ∧ s.hiveAx = k then
    let p : Int := 5000 * half
    let x := (s.hivePs - rdiv (s.rp P.hivePwmPhase * p) 65536) % p
    let e := if p < 2 * x then x - p else x
    let lim := rdiv (2 * half : Nat) 4096
    clamp (-(rdiv e 2500)) (-lim) lim
  else 0

/-- The SE of a lane comes at its carrier's valley, at double update also at its peak: in the nanosecond of that moment; the first SE of a
started lane sets the carrier's phase (R95, log entry 193). -/
def Lane.seDue (l : Lane) (now : Nat) : Bool := l.first || decide (now = l.nextX / 32) || decide (now = (l.nextX + 31) / 32)

/-- The halves of the carrier that a period runs, newest first (R93, R95, R339): the carrier lock lengthens or shortens the falling
half, between the peak and the valley it places. -/
def halvesOf (double peak : Bool) (x half : Nat) (adj : Int) (w : Tab Words) : List Half :=
  let mid := x + 80 * half
  let fall (a : Nat) : Half := ⟨a, a + ((2 * half : Nat) + adj - (half : Int)).toNat * 80, false, half, w.map fun e => (e.1, e.2.fall)⟩
  let rise : Half := ⟨x, mid, true, half, w.map fun e => (e.1, e.2.rise)⟩
  if double then (if peak then [fall x] else [rise]) else [fall mid, rise]

/-- An SE opens a period of lane n (R94, R95, R166): period number, SE kind, the words dispatched come into force, a new
carrier starts at a valley; the marks of the words move on with them, and owner writes of chapter 4 take effect (R190). The marks that
the SE's record shows are those of the words that have acted up to it ("the words of this period": DESIGN CHOICE, log entry 227). The
lane's first SE is the anchor of a scout start's 50 ms (Table 5.4). -/
def State.seOpen (s : State) (n k : Nat) : State :=
  let l := s.lane n
  let double := decide (s.hp k P.update = 1)
  let peak := double && !l.peak
  let half := if peak then l.half else s.nextHalf k
  let s := (s.bridgesOf k).foldl (fun s b =>
    let x := s.bridge b
    s.setBridge b { x with held := [], guard := x.guardF, shifted := x.shiftF,
                           guardF := if l.dispatched then x.guardS else x.guardF, shiftF := if l.dispatched then x.shiftS else x.shiftF }) s
  let adj := if peak then l.adjust else s.lockAdjust k half
  let words := if l.dispatched then l.shadow else l.inForce
  let x := if l.first then 32 * s.now else l.nextX
  let hs := halvesOf double peak x half adj words
  let s := s.setLane n { l with first := false, periodNo := if l.first then 0 else l.periodNo + 1, seAt := s.now, peak := peak, half := half,
                                inForce := words, dispatched := false, filled := false, adjust := adj, seX := x,
                                nextX := (hs.headD {}).endX, halves := hs ++ l.halves.take 4 }
  let s := if l.first ∧ (s.ax k).pos.proc = .scoutSettle then s.modAx k fun a => { a with pos := { a.pos with procAt := s.now } } else s
  if half = l.half then s else s.reportCarrier k half

/-! ### Sensing at an SE (R161 to R184) -/

/-- The full scale of a bridge per unit of BASE_CURRENT, Q1.30. -/
def State.fsPu (s : State) (b : Nat) : Int := rdiv (s.fullScale b * one30) (s.baseI b)

/-- Phases whose high side was commanded on without a break for MIN_WINDOW + t_on before a peak (Table 4.5). -/
def State.highBefore (s : State) (b : Nat) (half : Nat) (w : Words) : List Bool :=
  w.rise.map fun e =>
    let on : Int := match e.force with
      | .modulate => e.compare
      | .highOn => 16 * half
      | _ => 0
    decide (s.minWin b + steps (s.tOn b) ≤ on)

/-- Calibration at a carrier peak (R182, Table 4.5): offsets of shunt bridges, voltage gain. -/
def State.calPeak (s : State) (b half : Nat) (w : Words) (codes : List Int) (rawV : List Nat) : State :=
  let high := s.highBefore b half w
  (upto 3).foldl (fun s x =>
    if high.getD x false then
      let s := if s.par P.csMode b = 0 then s.calOffset b x (codes.getD x 0) else s
      s.calVgain b x (s.phvPu b x (rawV.getD (x + 1) 0)) (s.vdcPu b (rawV.getD 0 0))
    else s) s

/-- Offset calibration of either mode at a sample while no switch is on and no diode conducts (Table 4.5): its current codes, phase
voltages and link voltage. -/
def State.calIdle (s : State) (b : Nat) (codes v : List Int) (vdc : Int) : State :=
  if s.bridgeOff b ∧ noDiode v vdc then (upto 3).foldl (fun s x => s.calOffset b x (codes.getD x 0)) s else s

/-- The axis's bridges share one winding: parallel or interleaved (R127, R172). -/
def State.shared (s : State) (k : Nat) : Bool := decide (s.hp k P.grouping = 1) || decide (s.hp k P.grouping = 2)

/-- One bridge at an SE of kind `peak`, with the words and half period that end there (Tables 4.3 to 4.7). A valley SE without three
measured phases leaves the run of SENSE_SUM as it is: the run counts consecutive ones among those it names. A phase of a sigma-delta
bridge is measurable for the voltage offset by the window of its low side, as on a shunt bridge. (Both open in the manual: DESIGN
CHOICE, log entries 200 and 201.) The hold count goes on rising past SENSE_HOLD_MAX while a decay holds all switches off, where no phase
can be measured (DESIGN CHOICE, log entry 228). -/
def State.senseBridge (s : State) (k b : Nat) (peak : Bool) (half : Nat) (w : Words) (raw : List Int) (rawV : List Nat) : State :=
  let br := s.bridge b
  let shunt := decide (s.par P.csMode b = 0)
  let codes := (upto 3).map fun x => s.curCode b (raw.getD x 0)
  let i0 := (upto 3).map fun x => s.curPu b x (codes.getD x 0)
  let meas := s.measuredAt b half peak w
  let win := (upto 3).map fun x => s.window b half w x
  let zs := if s.shared k then br.i0 else 0
  let (i, src) := formPhases meas i0 br.pred win (peak && shunt) zs
  let v := (upto 3).map fun x => s.phvPu b x (rawV.getD (x + 1) 0)
  let vdc := s.vdcPu b (rawV.getD 0 0)
  let all3 := meas.all id && !peak
  let sum := i.foldl (· + ·) 0
  let held := src.contains .held
  let count := (meas.filter id).length
  let (resid, s) := s.calc k (do
    let a ← clarkeC i
    let p ← clarkeC br.pred
    a.diffC p)
  let sumRun := if all3 then (if s.bp b P.sumTrip * s.fsPu b < 1000 * iabs (sum - zs) then br.sumRun + 1 else 0) else br.sumRun
  let br := { br with
    rawI := codes, rawV := rawV, i := i, v := v, vdc := vdc, src := src, measurable := meas, convAt := s.now,
    holds := if peak then br.holds else if held then br.holds + 1 else 0,
    i0 := if all3 && s.shared k then sum else br.i0, sumRun := sumRun,
    residRun := if 2 ≤ count then (if s.sp k P.ratedCurrent < 4 * resid.mag then br.residRun + 1 else 0) else br.residRun,
    peakI := i.foldl (fun m y => max m (iabs y)) br.peakI }
  let s := s.setBridge b br
  let s := if held then s.incPar P.holdCount b else s
  let s := if src.contains .reconstructed then s.incPar P.reconCount b else s
  let s := if br.shifted then s.incPar P.shiftCount b else s
  let s := if peak then s.calPeak b half w codes rawV else s
  let fs := s.fsPu b
  let s := if all3 ∧ ¬ s.shared k then s.calGain b (i.map fun y => rdiv (y * one30) (if fs = 0 then 1 else fs)) else s
  let s := if peak then s
    else (upto 3).foldl (fun s x => if s.minWin b ≤ win.getD x 0 then s.calVofs b x (rawV.getD (x + 1) 0) else s) s
  (s.calIdle b codes v vdc).senseStatus b ((upto 3).any fun x => s.overRange b (raw.getD x 0))

/-- The link stage for the sample of one bridge; the first bridge of the link's own lane ends its period (R299). -/
def State.linkAtSe (s : State) (n k b code : Nat) : State :=
  let l := s.parN P.brLink b
  let firstOn := (s.bridgesOf k).find? fun c => s.parN P.brLink c = l
  s.linkStage b code (decide (s.linkLane l = some (s.planeOf n)) && decide (firstOn = some b))

/-! ### Supervision in a period (R212 to R226) -/

/-- Table 5.5 in one period: the mask of the criteria met. -/
def State.lossMask (s : State) (k cyc : Nat) : Nat :=
  let p := (s.ax k).pos
  let m : Nat := max 1 ((2 * 400000 + cyc) / (2 * cyc))
  let past := p.weHist.getD m (s.now, p.we)
  let acc := decide (s.hp k P.accMax * one28 * (m * cyc : Nat) < iabs (p.we - past.2) * 100 * 400000000)
  let noSrc (d : Nat) : Bool := match p.lostSince with
    | some t0 => decide (t0 + d ≤ s.now)
    | none => false
  let noMaj : Bool := match p.noMajSince with
    | some t0 => decide (t0 + 5000000 ≤ s.now)
    | none => false
  if p.six then (if iabs p.we < s.hp k P.sixMin then 16 else 0)
  else if (s.ax k).st = .limp then (if noSrc 1000000 ∧ ¬ s.limpPossible k then 16 else 0)
  else
    ofBits [decide (4294967296 < 12 * iabs p.lastE), acc, (s.bridgesOf k).any (fun b => decide (3 ≤ (s.bridge b).residRun)), noMaj,
      noSrc 1000000 && !((decide ((s.ax k).st = .running) || decide ((s.ax k).st = .emergency)) && s.limpPossible k)]

/-- Loss of synchronism and the entry to six-step in one period (R217, R224, R312). -/
def State.superviseLoss (s : State) (k cyc : Nat) : State :=
  let p := (s.ax k).pos
  let st := (s.ax k).st
  let lost : Bool := match p.lostSince with
    | some t0 => decide (t0 + 1000000 ≤ s.now)
    | none => false
  if p.proc ≠ .none then s
  else if ¬ p.six ∧ lost ∧ (st = .running ∨ st = .limp ∨ st = .emergency) ∧ s.limpPossible k then
    let t := if st = .running then s.arb k 5 else (s, true)
    if ¬ t.2 then t.1
    else
      let s := t.1.enterSix k
      if st = .running then s.moveAxis k .limp else s
  else if p.six ∨ p.valid ∨ st = .limp then
    let m := s.lossMask k cyc
    if m = 0 then s else s.lossOfSync k m
  else s

/-- The steps of a scout start and the end of a catch that an SE brings about (Table 5.4, R216, R220). -/
def State.superviseProc (s : State) (k : Nat) : State :=
  let a := s.ax k
  let p := a.pos
  match p.proc with
  | .scoutSettle =>
    if 16 ≤ p.wagSettle then
      s.setProc k fun p => { p with proc := .scoutPlus, procAt := s.now, peakPlus := 0, pulseNext := false, pulseAt := none }
    else s
  | .scoutPlus =>
    if p.pulseAt.isNone then s
    else s.modAx k fun a => { a with pos := { p with peakPlus := s.pulsePeak k (s.bridge (s.leadBridge k)).i p.peakPlus } }
  | .scoutMinus =>
    if p.pulseAt.isNone then s
    else s.modAx k fun a => { a with pos := { p with peakMinus := s.pulsePeak k (s.bridge (s.leadBridge k)).i p.peakMinus } }
  | .scoutMagnetise =>
    let ref := mul 28 (s.hp k P.lm) (currentRefId s k)
    if 0 < ref ∧ 9 * ref ≤ 10 * a.hearth.psiR then
      (((s.setProc k fun p => { p with proc := .none, valid := true, lastContrib := some s.now }).setBit P.coldFlags 1 false k).setBit
        P.posStatus 0 true k).posEvent k 4 0
    else s
  | .scoutBack =>
    s.modAx k fun a => { a with pos := { p with travel := p.travel + angSub p.theta (angAdd p.releaseAngle p.travel) } }
  | _ => s
where
  currentRefId (s : State) (k : Nat) : Int := (s.ax k).hearth.taken.idRef

/-- The rotor-flux current model of a period (R111): the ratio T / TAU_R, for which the manual states no format, stays below 2, and a
TAU_R of 0 counts as 1 µs (DESIGN CHOICE, log entry 225). It is fed with the current of system 0 (the manual does not say which bridge feeds it on
an axis with several: DESIGN CHOICE, log entry 194). The field angle it leaves is that of the next period: a period uses one field
angle throughout. -/
def State.fluxModel (s : State) (k cyc : Nat) (i : Vec2) : State :=
  if s.hp k P.machine = 0 then s
  else
    let h := (s.ax k).hearth
    let tr : Int := max 1 (s.hp k P.tauR)
    let lm := s.hp k P.lm
    let part := clamp (tdiv ((cyc : Int) * one30) (400 * tr)) 0 s32hi
    let (psi, n) := (do
      let d ← addF (mulF 28 lm i.x) (-h.psiR)
      let p ← satTo 0 u32hi (h.psiR + mulF 30 part d)
      pure p : Calc Int).run 0
    let den := floorPu 30 psi * twoPi60 * s.hp k P.baseFreq * tr
    let ws := clamp (tdiv (lm * i.y * 1000000000 * 2 ^ 60) den) s32lo s32hi
    let slip := (s.ax k).hearth.thSlip + s.angleStep k ws cyc
    (s.modAx k fun a => { a with hearth := { h with psiR := psi, thSlip := signed 32 (unsigned 32 slip) } }).addSats k n

/-! ### Computation (R107 to R134, R101) -/

/-- A value moved towards a target by at most a step. -/
def towardC (x target d : Int) : Calc Int :=
  if x < target then (do let y ← addC x d; return min target y) else (do let y ← subC x d; return max target y)

/-- The setpoint set and shares are latched at 2.00 µs (R43, R45, R149). -/
def State.latch (s : State) (k : Nat) : State :=
  let s := if s.hiveAx = k ∧ s.ring.record.complete then { s with ring := { s.ring with latched := s.ring.record } } else s
  let s := if (s.ax k).hearth.commit then s.takeCfg k (s.ax k).hearth.bufCfg else s
  let s := s.modAx k fun a =>
    let h := a.hearth
    if h.commit then { a with hearth := { h with taken := h.buffer, commit := false, takenAt := s.now } } else a
  s.silentEnds k

/-- Torque and d reference that a ramp imposes on the period (R50, R220), and the ramps' new values. -/
def State.rampRefs (s : State) (k cyc : Nat) : State × Option Int × Option Int :=
  let a := s.ax k
  let h := a.hearth
  let d (rate : Int) : Int := rdiv (rate * one30 * cyc) 400000000000
  match h.silentTau with
  | some t =>
    let (t', s) := s.calc k (towardC t 0 (d (s.sp k P.qstopTqRamp)))
    ((s.modAx k fun a => { a with hearth := { h with silentTau := some t' } }).zeroTrack k, some t', none)
  | none =>
    match a.pos.proc, h.rampTau with
    | .catchRamp, some t =>
      let step := d (s.hp k P.catchRamp)
      let ((full, t', i'), s) := s.calc k (do
        let full ← s.currentRefC k none none
        let t' ← towardC t full.tau step
        let i' ← towardC h.rampId h.taken.idRef step
        pure (full, t', i'))
      let done := decide (t' = full.tau) && decide (i' = h.taken.idRef)
      let s := s.modAx k fun a => { a with hearth := { h with rampTau := if done then none else some t', rampId := i' } }
      let s := if done then
          s.setProc k fun p => { p with proc := .none, flying := false, rampEndAt := if p.flying then p.rampEndAt else some s.now }
        else s
      (s, some t', some i')
    | _, _ => (s, none, none)

/-- The mean of the values of an axis's systems. -/
def mean (l : List Int) : Int := rdiv (l.foldl (· + ·) 0) (max l.length 1 : Nat)

/-- One correction of the balancing loop for every system (R126), and whether the limit acted. -/
def balanceC (t : Tab Int) (ki lim : Int) (vs : List Int) (m : Int) : Calc (List Int × Bool) := do
  let raw ← (vs.zipIdx).mapM fun x => do
    let e ← subC m x.1
    addC (tget t 0 x.2) (rdiv (ki * e) 65536)
  let c := raw.map fun y => clamp y (-lim) lim
  let out ← c.mapM fun y => subC y (mean c)
  return (out, raw.any fun y => decide (lim ≤ iabs y))

/-- The balancing loop (R126, R128): corrections, BAL_DEV, and whether a limit acted. An axis of one bridge has nothing to balance: no
deviation and no correction. -/
def State.balance (s : State) (k : Nat) (dq : List Vec2) : State × Bool :=
  if dq.length < 2 then
    ((s.setPar P.balDev 0 k).modAx k fun a => { a with hearth := { a.hearth with balD := [], balQ := [], balSince := none } }, false)
  else
    let h := (s.ax k).hearth
    let lim := s.hp k P.balLimit
    let ki := s.hp k P.balKi
    let md := mean (dq.map (·.x))
    let mq := mean (dq.map (·.y))
    let ((d, q), n) := (do
      let d ← balanceC h.balD ki lim (dq.map (·.x)) md
      let q ← balanceC h.balQ ki lim (dq.map (·.y)) mq
      pure (d, q) : Calc ((List Int × Bool) × (List Int × Bool))).run 0
    let tab (l : List Int) : Tab Int := (l.zipIdx).map fun x => (x.2, x.1)
    let dev := min s32hi (dq.foldl (fun a v => max a (hypot (v.x - md) (v.y - mq))) 0)
    let s := (s.setPar P.balDev dev k).addSats k n
    let above := decide (s.hp k P.balTrip < dev)
    (s.modAx k fun a => { a with hearth := { h with balD := tab d.1, balQ := tab q.1,
                                                    balSince := if above then some (h.balSince.getD s.now) else none } }, d.2 || q.2)

/-- What one bridge's computation leaves. -/
structure BridgeOut where
  rise : List Edge
  fall : List Edge
  ab : Vec2
  carry : List Int
  shifted : Bool
  guarded : Bool
  vsat : Bool
  fallback : Bool
  hold : Bool
  lim : Bool
  vd : Vec2
  sats : Nat
  /-- A refresh pulse was inserted (R375); six-step words: their phase voltages and floating phase. -/
  refreshed : Bool := false
  ph : List Int := []
  floating : Option Nat := none
  deriving DecidableEq, Repr

/-- The halves of a period's words that one list of words fills (R100). -/
def putHalf (double rising : Bool) (w : List Edge) : List Edge × List Edge :=
  if double then (if rising then (w, []) else ([], w)) else (w, w)

/-- A bridge under a held FORCE on every phase. -/
def forced (double rising : Bool) (f : Force) : BridgeOut :=
  let (r, l) := putHalf double rising [⟨f, 0⟩, ⟨f, 0⟩, ⟨f, 0⟩]
  { rise := r, fall := l, ab := {}, carry := [0, 0, 0], shifted := false, guarded := false, vsat := false, fallback := false, hold := false,
    lim := false, vd := {}, sats := 0 }

/-- Everything a bridge's computation needs of its period. -/
structure Job where
  k : Nat
  j : Nat
  b : Nat
  half : Nat
  cyc : Nat
  double : Bool
  rising : Bool
  endsValley : Bool
  cNext : Nat
  /-- d-q current for the PI loops, and as measured, from which the prediction starts (R209, R116). -/
  i : Vec2
  im : Vec2
  phases : List Int
  mpc : Bool
  inj : Int
  deriving DecidableEq, Repr

/-- Phase on times of an alpha-beta voltage turned into a bridge's words (R101 to R103, R164 to R179). -/
def State.fromDuty (s : State) (w : Job) (duty : List Int) : WordOut :=
  s.vectorWords w.k w.b w.half duty w.phases w.endsValley w.rising w.cNext

/-- What the search of a bridge in predictive mode starts from (R113 to R121). -/
def State.mpcOf (s : State) (w : Job) (r : Refs) (idR iqR : Int) : Mpc :=
  let (cd, cq) := s.coefs w.k w.cyc
  { k := w.k, j := w.j, b := w.b, cd := cd, cq := cq, vdc := (s.bridge w.b).vdc, th := s.frame w.k w.j, dth := (s.ax w.k).pos.dtheta,
    idR := idR, iqR := iqR, imax := r.imax, shunt := decide (s.par P.csMode w.b = 0), double := w.double,
    peak := w.double && !w.endsValley, fits := decide (s.minWin w.b + steps (s.tOn w.b) ≤ 16 * w.cyc),
    ext := decide (s.hp w.k P.mpcShuntSet = 1), holdMax := (s.hp w.k P.mpcHoldMax).toNat, senseMax := (s.bp w.b P.senseHoldMax w.b).toNat }

/-- The state that predictive mode applies to a bridge; none where the vector path applies (R118, R122). -/
def State.mpcState (s : State) (w : Job) (r : Refs) (bd bq : Int) : Calc (Option Nat) := do
  let h := (s.ax w.k).hearth
  let idR ← addC r.id bd
  let iqR ← addC r.iq bq
  let m := s.mpcOf w r idR iqR
  let v ← parkC (s.bridge w.b).vNow (angAdd m.th (rdiv m.dth 2))
  let i1 ← s.eulerC w.k m.cd m.cq w.im v
  s.mpcChoose m (s.hp w.k P.mpcHorizon).toNat (tget h.swState 0 w.j) (tget h.mpcHold 0 w.j) w.cNext i1

/-- Alpha-beta voltage of a bridge's words, by the on times that act (R203). -/
def State.wordVolt (s : State) (w : Job) (e : WordOut) : Calc Vec2 :=
  clarkeC (e.eff.map fun t => rdiv (vdc30 (s.bridge w.b).vdc * t) (16 * max w.half 1 : Nat))

/-- The vector output of a bridge as words (R109, R127, R101). -/
def State.vecOut (s : State) (w : Job) (o : VecOut) (vz : Int) (lim fb used : Bool) : Calc BridgeOut := do
  let br := s.bridge w.b
  let duty ← if s.shared w.k then (do let d ← dutiesC o.ab vz br.vdc; pure d.1) else pure o.duty
  let e := s.fromDuty w duty
  let ab ← s.wordVolt w e
  return { rise := e.rise, fall := e.fall, ab := ab, carry := e.carry, shifted := e.shifted, guarded := e.guarded, vsat := o.vsat || e.vsat,
           fallback := fb, hold := used, lim := lim, vd := o.v, sats := 0, refreshed := br.refresh }

/-- A switching state held through the period as words, with integrators that would give its voltage (R112, R119). -/
def State.heldOut (s : State) (w : Job) (o : VecOut) (st : Nat) (used : Bool) : Calc (Int × Int × BridgeOut) := do
  let k := w.k
  let br := s.bridge w.b
  let v ← parkC (stateVolt st br.vdc) (angAdd (s.frame k w.j) (rdiv (3 * (s.ax k).pos.dtheta) 2))
  let xd ← satTo s32lo s32hi (v.x - mul 24 (s.hp k P.kpD) o.ed - o.fd)
  let xq ← satTo s32lo s32hi (v.y - mul 24 (s.hp k P.kpQ) o.eq - o.fq)
  let (rw, fw) := putHalf w.double w.rising (stateWords st w.half br.refresh)
  return (clamp xd (-o.vmax) o.vmax, clamp xq (-o.vmax) o.vmax,
    { rise := rw, fall := fw, ab := stateWordVolt st w.half br.refresh br.vdc, carry := [0, 0, 0], shifted := false, guarded := false, vsat := false,
      fallback := false, hold := used, lim := false, vd := v, sats := 0, refreshed := br.refresh && decide (st ≠ 0) })

/-- One bridge in vector or predictive mode (R109 to R127): the control state of its axis after it, and what it gives. -/
def State.bridgeC (s : State) (w : Job) (r : Refs) : Calc (AxHearth × BridgeOut) := do
  let k := w.k
  let h := (s.ax k).hearth
  let br := s.bridge w.b
  let bd := tget h.balD 0 w.j
  let bq := tget h.balQ 0 w.j
  let o ← s.vectorStep k w.j w.b w.i r bd bq 0 w.inj
  let sum ← w.phases.foldlM (fun a v => addC a v) 0
  let vz0 ← subC (tget h.vz 0 w.j) (rdiv (s.hp k P.balKi * rdiv sum 3) 65536)
  let vz := if s.shared k then clamp vz0 (-o.headroom) o.headroom else 0
  let lim := s.shared k && decide (o.headroom ≤ iabs vz0)
  let hc := tget h.mpcHold 0 w.j
  let used := decide (s.par P.csMode w.b = 0) && decide (0 < hc) && br.src.contains .held
  let vec (fb : Bool) : Calc (AxHearth × BridgeOut) := do
    let out ← s.vecOut w o vz lim fb used
    return ({ h with xd := tset h.xd w.j o.xd, xq := tset h.xq w.j o.xq, vz := tset h.vz w.j vz, swState := tset h.swState w.j 0,
                     mpcHold := tset h.mpcHold w.j 0 }, out)
  if ¬ w.mpc then vec false
  else
    let choice ← s.mpcState w r bd bq
    match choice with
    | none => vec true
    | some st =>
      let (xd, xq, out) ← s.heldOut w o st used
      let held := decide (([4, 2, 1].filter fun b => st / b % 2 = 1).length = 2)
      let hc' := if ¬ (decide (s.par P.csMode w.b = 0) ∧ w.endsValley) then hc else if held then hc + 1 else 0
      return ({ h with xd := tset h.xd w.j xd, xq := tset h.xq w.j xq, swState := tset h.swState w.j st, mpcHold := tset h.mpcHold w.j hc' }, out)

/-- One bridge in vector or predictive mode; the integrators it leaves go into the axis. -/
def State.computeBridge (s : State) (w : Job) (r : Refs) : State × BridgeOut :=
  let ((h, o), n) := (s.bridgeC w r).run 0
  (s.modAx w.k fun a => { a with hearth := h }, { o with sats := n })

/-- The polarity pulse of a scout start (Table 5.4): the pulse voltage on the d axis of each system's frame. -/
def State.pulseBridge (s : State) (w : Job) (volt : Int) : BridgeOut :=
  let br := s.bridge w.b
  let ((ab, e), n) := (do
    let v ← invParkC ⟨volt, 0⟩ (angAdd (s.ax w.k).pos.theta (-(s.sysShift w.k w.j)))
    let d ← dutiesC v 0 br.vdc
    let e := s.fromDuty w d.1
    let ab ← s.wordVolt w e
    pure (ab, e) : Calc (Vec2 × WordOut)).run 0
  { rise := e.rise, fall := e.fall, ab := ab, carry := e.carry, shifted := e.shifted, guarded := e.guarded, vsat := e.vsat, fallback := false,
    hold := false, lim := false, vd := ⟨volt, 0⟩, sats := n, refreshed := br.refresh }

/-- The pulse's words are written: it begins when they come to act. -/
def State.pulseSet (s : State) (k : Nat) : State := s.modAx k fun a => { a with pos := { a.pos with pulseNext := true } }

/-- One bridge of the axis in a period, by the procedure that runs. -/
def State.bridgeStep (s : State) (w : Job) (r : Refs) : State × BridgeOut :=
  let p := (s.ax w.k).pos
  match p.proc with
  | .catchDecay | .catchVoltage | .scoutDecay | .scoutRetryDecay => (s, forced w.double w.rising .bothOff)
  | .catchShort => (s, forced w.double w.rising .lowOn)
  | .scoutPlus => (s.pulseSet w.k, s.pulseBridge w p.polV)
  | .scoutMinus => (s.pulseSet w.k, s.pulseBridge w (-p.polV))
  | .scoutSettle => s.computeBridge w { r with id := 0, iq := 0 }
  | .scoutMagnetise => s.computeBridge w { r with iq := 0 }
  | _ =>
    if p.six then
      let (e, ph, fl, x) := s.sixWords w.k w.j w.b w.half r.tau r.imax
      let (rw, fw) := putHalf w.double w.rising e
      let low := (s.bridge w.b).refresh
      let ab := clarke (if low then ph else setAt ph fl (4 * (s.bridge w.b).v.getD fl 0))
      let s := s.modAx w.k fun a => { a with pos := { a.pos with sixX := tset a.pos.sixX w.j x } }
      (s, { rise := rw, fall := fw, ab := ab, carry := [0, 0, 0], shifted := false, guarded := false, vsat := false, fallback := false,
            hold := false, lim := false, vd := {}, sats := 0, refreshed := (s.bridge w.b).refresh, ph := ph, floating := if low then none else some fl })
    else s.computeBridge w r

/-- What the words written for a bridge leave in it and in the shadow registers (R98 to R100, R175). -/
def State.putBridge (s : State) (n : Nat) (w : Job) (o : BridgeOut) : State :=
  let br := s.bridge w.b
  let th := s.frame w.k w.j
  let p := (s.ax w.k).pos
  let (cd, cq) := s.coefs w.k w.cyc
  let (next, sats) := (do
    let v ← parkC br.vNow (angAdd th (rdiv p.dtheta 2))
    let i1 ← s.eulerC w.k cd cq w.im v
    let ab ← invParkC i1 (angAdd th p.dtheta)
    invClarkeC ab : Calc (List Int)).run 0
  let off := match p.proc with
    | .catchDecay | .catchVoltage | .scoutDecay | .scoutRetryDecay => true
    | _ => false
  let pred := if off then [0, 0, 0] else next
  let s := s.setBridge w.b { br with carry := o.carry, shiftS := o.shifted, guardS := o.guarded, vNext := o.ab, pred := pred,
                                     phNext := o.ph, floatNext := o.floating }
  let s := if off then s else s.addSats w.k sats
  let s := if o.guarded then s.incPar P.guardCount w.b else s
  let l := s.lane n
  s.setLane n { l with shadow := tset l.shadow w.b ((tget l.inForce {} w.b).update o.rise o.fall) }

/-- CTRL_STATUS (Table 3.7). -/
def State.ctrlStatus (s : State) (n k : Nat) (os : List BridgeOut) (isat cold ballim refresh : Bool) : State :=
  let age := decide ((s.ax k).hearth.takenAt + 1000000 < s.now)
  s.setPar P.ctrlStatus (ofBits [os.any (·.vsat), isat, os.any (·.fallback), cold, ballim || os.any (·.lim), os.any (·.hold), false,
    decide (n = 4), age, refresh] : Nat) k

/-- The computation of a period (Table 1.7 from 2.00 µs on): references, balancing, each system, words, reports and
the state record. `fresh` is false for the period L4 recomputes after a takeover (Table 3.6). -/
def State.compute (s : State) (n k : Nat) (prevI : List (Nat × Vec2)) : State :=
  let l := s.lane n
  let cyc := s.cycOf k
  let double := decide (s.hp k P.update = 1)
  let rising := double && l.peak
  let endsValley := !double || !l.peak
  let half := if double && !l.peak then l.half else s.nextHalf k
  let bs := s.bridgesOf k
  let (s, above, idOver) := s.rampRefs k cyc
  let (r, n0) := (s.currentRefC k above idOver).run 0
  let wag := bit (s.par P.posStatus k) 6
  let cold := (s.ax k).hearth.mpcCold
  let mode := decide (s.hp k P.ctrlMode = 1)
  let noProc := decide ((s.ax k).pos.proc = .none) || decide ((s.ax k).pos.proc = .scoutBack)
  let mpc := mode && !wag && !cold && noProc && !(s.ax k).pos.six
  let s := s.setBit P.posStatus 7 (wag && mode) k
  let (cur, n1) := ((bs.zipIdx).mapM fun x => do
    let th := s.frame k x.2
    let i ← clarkeC (s.bridge x.1).i
    let m ← parkC i th
    match wag, prevI.find? (fun e => e.1 = x.1) with
    | true, some (_, q) => (do
        let x ← addC i.x q.x
        let y ← addC i.y q.y
        let d ← parkC ⟨rdiv x 2, rdiv y 2⟩ th
        pure (d, m))
    | _, _ => pure (m, m) : Calc (List (Vec2 × Vec2))).run 0
  let dq := cur.map (·.1)
  let (s, bl) := (s.addSats k (n0 + n1)).balance k dq
  let inj := if wag then (if (s.ax k).pos.wagSign then s.hp k P.waggleAmp else -(s.hp k P.waggleAmp)) else 0
  let s := bs.foldl (fun s b => s.setBridge b { s.bridge b with refresh := s.refreshDue b }) s
  let (s, os) := (bs.zipIdx).foldl (fun acc x =>
    let s : State := acc.1
    let b := x.1
    let br := s.bridge b
    let willHold := decide (s.par P.csMode b = 0) &&
      decide (((s.measuredAt b l.half false (tget l.inForce {} b)).filter id).length < 2)
    let job : Job :=
      { k := k, j := x.2, b := b, half := half, cyc := cyc, double := double, rising := rising, endsValley := endsValley,
        cNext := if double && !l.peak then br.holds else if willHold then br.holds + 1 else 0, i := dq.getD x.2 {},
        im := (cur.getD x.2 ({}, {})).2, phases := br.i, mpc := mpc, inj := inj }
    let (s, o) := s.bridgeStep job r
    (s.putBridge n job o, acc.2 ++ [o])) (s, ([] : List BridgeOut))
  let s := (s.addSats k (os.foldl (fun a o => a + o.sats) 0)).fluxModel k cyc (dq.headD {})
  let fbs := (os.filter (·.fallback)).length
  let s := if fbs = 0 then s else s.incPar P.fallbackCount k 0 fbs
  let refresh := os.any (·.refreshed)
  let s := s.ctrlStatus n k os r.isat cold bl refresh
  let md := rdiv (dq.foldl (fun a v => a + v.x) 0) (max dq.length 1 : Nat)
  let mq := rdiv (dq.foldl (fun a v => a + v.y) 0) (max dq.length 1 : Nat)
  let s := (s.setPar P.idMeas md k).setPar P.iqMeas mq k
  let v0 : Vec2 := match os with
    | o :: _ => o.vd
    | [] => {}
  let vdc := vdc30 (s.bridge (s.leadBridge k)).vdc
  let s := (s.setPar P.vdOut v0.x k).setPar P.vqOut v0.y k
  let s := s.setPar P.modIndex (clamp (tdiv (v0.mag * 20000) (floorPu 30 vdc)) 0 11547) k
  let s := s.modAx k fun a => { a with
    hearth := { a.hearth with idRef := r.id, iqRef := r.iq, imax := r.imax, den := some r.den, lastTau := r.tau, mpcCold := false, vdq := v0 },
    pos := { a.pos with wagNext := a.pos.wagSign, wagBroken := a.pos.wagBroken || os.any (·.vsat) } }
  let s := s.setBit P.coldFlags 3 false k
  let l := s.lane n
  let s := s.setLane n { l with filled := true, job := { l.job with saved := true } }
  let s := s.saveRecord n k
  (s.raiseLine (8 + s.planeOf n)).panPeriod k n (s.planeOf n)

/-- SPARE_LOST (R140): L4 fails until BOOT. -/
def State.spareLost (s : State) : State := (s.setPar P.laneRole 3 4).raiseModule 0x0203 4 "CTL/HEARTH/4"

/-- The axis a running lane serves. -/
def State.seAxis (s : State) (n : Nat) : Option Nat :=
  if n < 5 ∧ (s.lane n).running ∧ ¬ (s.lane n).frozen then s.axisOfLane n else none

/-- Procedures in which no source contributes to the fused angle: a scout start before its release, a catch before its lock. -/
def Proc.holds : Proc → Bool
  | .none | .scoutBack | .catchRamp => false
  | _ => true

/-- Procedures that hold the fused speed at 0. -/
def Proc.rests : Proc → Bool
  | .scoutSettle | .scoutPlus | .scoutDecay | .scoutMinus | .scoutRetryDecay | .scoutMagnetise => true
  | _ => false

/-- The angle a procedure takes in a period: the catch loop, or the demodulator while a scout start settles, in which no source votes
before the release (how the angle moves then is open in the manual: DESIGN CHOICE, log entry 234). On the voltage path every SE with a
valid voltage model counts among the 16 measured ones, though a shunt bridge with all switches off measures no phase (DESIGN CHOICE, log
entry 235). -/
def State.procAngle (s : State) (k cyc tm : Nat) (meas : Bool) (i0 : Vec2) : Proc → State
  | .catchDecay => s.catchCoast k
  | .catchVoltage =>
    let s := s.catchCoast k
    if (s.ax k).pos.vm.valid then s.catchAngle k (s.ax k).pos.vm.theta cyc cyc
    else s.modAx k fun a => { a with pos := { a.pos with lockRun := 0 } }
  | .catchShort =>
    let s := s.catchCoast k
    if meas then
      let (th, s) := s.calc k (do
        let i1 ← clarkeC (s.bridge (s.leadBridge k)).i
        s.shortAngle k tm i0 i1)
      s.catchAngle k th tm cyc
    else s
  | .scoutSettle =>
    s.modAx k fun a => { a with pos := { a.pos with theta := if meas then a.pos.waggle.theta else a.pos.theta, dtheta := 0 } }
  | _ => s

/-- The fusion stage of a period with what precedes it (1.00 to 2.00 µs): demodulator, observers, voter, catch loop, and the
supervision that follows. -/
def State.position (s : State) (n k cyc : Nat) : State :=
  let l := s.lane n
  let lead := s.leadBridge k
  let br := s.bridge lead
  let meas := decide (2 ≤ (br.measurable.filter id).length)
  let double := decide (s.hp k P.update = 1)
  let tm := if double && decide (s.par P.csMode lead = 0) then 2 * cyc else cyc
  let i0 := br.wagI
  let held := (s.bridgesOf k).any fun b => (s.bridge b).src.contains .held
  let s := s.modAx k fun a => { a with pos := { a.pos with wagInjAngle := angAdd a.pos.theta a.pos.dtheta },
                                               hearth := { a.hearth with vab := br.vNow } }
  let s := if meas then s.waggleDemod k tm held
    else if held then s.modAx k fun a => { a with pos := { a.pos with wagBroken := true } } else s
  let s := s.modAx k fun a => { a with pos := { a.pos with wagApplied := a.pos.wagNext } }
  let s := s.fluxStep k cyc
  let s := s.vmUpdate k
  let proc := (s.ax k).pos.proc
  let s := s.procAngle k cyc tm meas i0 proc
  let s := s.fuse k cyc proc.holds proc.rests
  let s := s.waggleGate k
  let s := if (s.ax k).pos.six ∧ (s.ax k).pos.proc = .none then (if l.peak then s else s.sixSense k).sixCommutate k else s
  (s.superviseProc k).superviseLoss k cyc

/-- The words of the period before come to act on the machine, from the SE at `at_` on: the voltages that the next period's fusion and
prediction see, and a polarity pulse. The floating phase of six-step words has the voltage measured at the SE that opens their period
(R203). -/
def State.wordsMove (s : State) (k at_ : Nat) : State :=
  let p := (s.ax k).pos
  let s := if p.pulseNext ∧ p.pulseAt.isNone then
      s.modAx k fun a => { a with pos := { p with pulseAt := some at_, catchI := s.measDq k p.theta } }
    else s
  (s.bridgesOf k).foldl (fun s b =>
    let x := s.bridge b
    s.setBridge b { x with vNow := match x.floatNext with
      | some f => clarke (setAt x.phNext f (4 * x.v.getD f 0))
      | none => x.vNext }) s

/-- The interface that serves an axis, where it is enabled. -/
def State.servingIface (s : State) (k : Nat) : Option Nat := (s.sel k).filter fun i => s.ifaceSet i

/-! ### Recalibration (R676 to R678) -/

/-- The folded OFS and GAIN of a bridge, phase by phase (R676). -/
def State.folded (s : State) (b x : Nat) : Int × Int :=
  (rdiv (s.par P.ofs b x * 256 + s.par P.ofsCorr b x) 256, rdiv (s.par P.gain b x * (65536 + s.par P.gainCorr b x)) 65536)

/-- The status with which RECAL completes at once, if it does (R678). -/
def State.recalRefused (s : State) (b : Nat) : Option Nat :=
  if s.standing.any fun f => decide (f.inst = b ∧ (f.code = 0x0304 ∨ f.code = 0x0305)) then some stFaultActive
  else if (upto 3).all fun x => decide (-4096 ≤ (s.folded b x).1 ∧ (s.folded b x).1 ≤ 4095 ∧ 29491 ≤ (s.folded b x).2 ∧ (s.folded b x).2 ≤ 36045) then none
  else some stRange

/-- RECAL folds in one SE of its bridge (R676), or ends without a fold (R678, Table 17.4). -/
def State.foldRecal (s : State) (b : Nat) : State :=
  if s.service.recal ≠ some b ∨ s.service.recalFolded then s
  else match s.recalRefused b with
    | some r => ({ s with service := { s.service with recal := none } } : State).endOp 0x73 b r
    | none =>
      let fold (x : Nat) (s : State) : State :=
        let v := s.folded b x
        (((s.setPar P.ofs v.1 b x).setPar P.gain v.2 b x).setPar P.ofsCorr 0 b x).setPar P.gainCorr 0 b x
      let s := each (upto 3) s fold
      { s with service := { s.service with recalFolded := true } }

/-- 0.60 µs after the SE (Table 1.7): the current samples are in the lane's sample plane; the manual bounds the moment from 0.20 µs on
(DEDUCED, log entry 236). What comes next is the sample of an SSI interface, after a frame that ends in the nanosecond of SE + 0.90 µs. -/
def State.currentStage (s : State) (n : Nat) : State :=
  let l := s.lane n
  let s := ({ s with now := max s.now l.dueAt } : State).writeCurrents n l.job.axis fun b => l.job.above.contains b
  let end_ : Nat := match s.servingIface l.job.axis with
    | some i => if lateIface i && (s.ssi (i - 6)).busy && decide ((s.ssi (i - 6)).endAt ≤ l.job.se + 901) then (s.ssi (i - 6)).endAt else 0
    | none => 0
  s.setLane n { s.lane n with stage := .frame, dueAt := max (l.job.se + 900) end_ }

/-- 0.90 µs after the SE (Table 6.2): the angle, the raw speed sample and the report of an SSI interface. -/
def State.frameStage (s : State) (n : Nat) : State :=
  let l := s.lane n
  let k := l.job.axis
  let s := { s with now := max s.now l.dueAt }
  let s := match s.servingIface k with
    | some i => if lateIface i then s.fbSample i l.job.se (s.cycOf k * 5 / 2) else s
    | none => s
  s.setLane n { s.lane n with stage := .record, dueAt := l.job.se + 1000 }

/-- 1.00 µs after the SE (Table 1.7): the fold of a RECAL, the sample record, which channel Fn has written in 32 beats of 16
bytes (R605, R624), and event line E4 + n. -/
def State.recordStage (s : State) (n : Nat) : State :=
  let l := s.lane n
  let k := l.job.axis
  let s := { s with now := max s.now l.dueAt }
  let s := s.writeRecord n k (if l.peak then 1 else 0) (fun b => l.job.above.contains b) (s.fbArea k)
  let s : State := (s.bridgesOf k).foldl State.foldRecal s
  let s := if s.planeOf n < 4 then
      let s := (s.incPar P.fgBeats (s.planeOf n) 0 32).setPar P.fgStatus 1 (s.planeOf n)
      { s with planeAt := tset s.planeAt (s.planeOf n) (recordAddr (s.planeOf n) l.periodNo) }.raiseLine (4 + s.planeOf n)
    else s
  s.setLane n { s.lane n with stage := .fuse, dueAt := l.job.se + 2000 }

/-- 2.00 µs after the SE (Table 1.7): the end of position fusion, on the samples of the SE and at its time; setpoints and shares are
latched; the computation, which the manual bounds from above only, ends here where it ends before the deadline (log entry 195). -/
def State.computeStage (s : State) (n : Nat) : State :=
  let l := s.lane n
  let j := l.job
  let k := j.axis
  let t := max s.now l.dueAt
  let s := s.setLane n { l with stage := .idle }
  let s := if j.fused then s else { s with now := j.se }.position n k (s.cycOf k)
  let s := { s with now := t }
  let s := if j.moved ∧ ¬ j.fused then s.wordsMove k j.se else s
  let s := if (s.lane n).running then s.latch k else s
  let s := if (s.lane n).running ∧ j.computed then s.compute n k j.prevI else s
  if ¬ j.spareOk ∧ s.par P.laneRole 4 = 2 then s.spareLost else s

/-- SAMPLE_EVENT (R37, Table 1.7): the SE of lane n; the samples of each bridge of the axis in ascending order (current codes
or modulator bits, voltage codes), whether the computation ends before the deadline, and whether the spare's check agrees. The steps
of Table 1.7 that follow come in their time (`State.at`). -/
def sampleEvent (n : Nat) (samples : List (List Int × List Nat)) (computed spareOk : Bool) (s : State) : State :=
  match s.seAxis n with
  | none => s
  | some k =>
    let l0 := s.lane n
    if ¬ l0.seDue s.now then s
    else
      let bs := s.bridgesOf k
      let prevI := bs.map fun b => (b, (s.bridge b).wagI)
      let s := s.seOpen n k
      let s := s.answerSnaps k (s.lane n).periodNo
      let peak := (s.lane n).peak
      let s := if s.planeOf n < 4 then s.raiseLine (s.planeOf n) else s
      let s := (bs.zipIdx).foldl (fun s x =>
        let d := samples.getD x.2 ([], [])
        s.senseBridge k x.1 peak l0.half (tget l0.inForce {} x.1) d.1 d.2) s
      let s := (bs.zipIdx).foldl (fun s x => s.linkAtSe n k x.1 ((samples.getD x.2 ([], [])).2.getD 0 0)) s
      let s := match s.servingIface k with
        | some i => if lateIface i then s.takeFbCfg i else s.fbSample i s.now (s.cycOf k * 5 / 2)
        | none => s
      let above := bs.filter fun b => (upto 3).any fun x => s.overRange b ((samples.getD (bs.idxOf b) ([], [])).1.getD x 0)
      let l := s.lane n
      if l.running then
        s.setLane n { l with stage := .current, dueAt := s.now + 600,
                             job := { axis := k, se := s.now, computed := computed, spareOk := spareOk, prevI := prevI, above := above,
                                      moved := l0.dispatched } }
      else s

/-! ### Deadline, dispatch, lane faults -/

/-- Nanoseconds of a lane's control period. -/
def State.periodNs (s : State) (k : Nat) : Nat := s.cycOf k * 5 / 2

/-- The takeover of a lane's axis by L4 (Table 3.6): `again` where L4 still runs fusion and computation of the period in progress, from
2.0 µs on. L4 goes on from the last complete state record, with its own configuration copy and the axis's setpoints; of a period
whose record is complete, or whose fusion has ended with no record to go back to, only the computation is run again (DEDUCED, log entry 217). Without that the last compared edges repeat under
R41. -/
def State.takeover (s : State) (n k : Nat) (again : Bool) : State :=
  let l := s.lane n
  let r := tget s.records { periodNo := l.periodNo, hearth := (s.ax k).hearth, pos := (s.ax k).pos } n
  let rerun := again && l.running && !l.dispatched && !l.first
  let late := decide (l.stage = .idle) || decide (l.stage = .fuse)
  let noRecord := (s.records.find? fun e => decide (e.1 = n)).isNone
  let fused := !rerun || l.job.saved || (decide (l.stage = .idle) && noRecord)
  let stage := if !late then l.stage else if rerun then .fuse else .idle
  let s := s.setLane 4 { l with frozen := false, overruns := r.overruns, testDue := false, filled := l.dispatched,
                                shadow := if l.dispatched then l.shadow else [], stage := stage,
                                dueAt := if !late then l.dueAt else max (l.job.se + 2000) (s.now + 2000),
                                job := { l.job with computed := rerun, fused := fused } }
  let s := s.setLane n { l with running := false, frozen := true, testDue := true, stage := .idle }
  let s := s.modAx k fun a => { a with
    hearth := { r.hearth with buffer := a.hearth.buffer, bufCfg := a.hearth.bufCfg, commit := a.hearth.commit, taken := a.hearth.taken,
                              takenAt := a.hearth.takenAt, cfg := tget s.copies a.hearth.cfg n, mpcCold := true, swState := [], mpcHold := [] },
    pos := r.pos }
  let (d, s) := s.draw 11
  let s := ((s.setPar P.laneRole 3 n).setPar P.laneRole 0 4).setPar P.spareFor n
  let s := (s.setPar P.takeoverTime (d % 2001 : Nat)).setBit P.coldFlags 3 true k
  s.notify 7 0 n (leBytes 4 (d % 2001))

/-- A lane fault in the source or target lane of a swap ends the swap with FAULT_ACTIVE (Table 17.4). -/
def State.swapsEnd (s : State) (n : Nat) : State :=
  let hit := s.service.swaps.filter fun x => decide (x.src = n) || decide (x.dst = n)
  let s : State := { s with service := { s.service with swaps := s.service.swaps.filter fun x => !(decide (x.src = n) || decide (x.dst = n)) } }
  hit.foldl (fun s x => s.endOp 0x74 x.axis stFaultActive) s

/-- The codes of a lane fault: LANE_MISMATCH for either cause, after LANE_OVERRUN where that is the cause (Table 3.8). -/
def State.raiseLane (s : State) (overrun : Bool) (k inst : Nat) (path : String) (hard : Bool := true) : State :=
  let s := if overrun then s.raiseOn 0x0202 k inst path hard else s
  s.raiseOn 0x0201 k inst path hard

/-- A lane fault (R137, R141, R145, R146). SPARE_FOR keeps the replaced lane's number where L4 itself fails while it replaces one (the
manual is silent: DESIGN CHOICE, log entry 196). -/
def State.laneFault (s : State) (n : Nat) (overrun again : Bool) : State :=
  let s := s.swapsEnd n
  let s := s.setBit P.laneFaults (3 * n + (if overrun then 1 else 0)) true
  if n = 4 then
    if s.par P.laneRole 4 = 2 then s.spareLost
    else match s.axisOfLane 4 with
      | some k => (s.setPar P.laneRole 3 4).raiseLane overrun k 4 "CTL/HEARTH/4"
      | none => s.setPar P.laneRole 3 4
  else
    match s.axisOfLane n with
    | none => s.setPar P.laneRole 3 n
    | some k =>
      if s.par P.laneRole 4 = 2 then (s.raiseLane overrun k n ("CTL/HEARTH/" ++ dec n) false).takeover n k again
      else (s.setPar P.laneRole 3 n).raiseLane overrun k n ("CTL/HEARTH/" ++ dec n)

/-- A lane is active: an axis names it, or L4 runs one. -/
def State.laneActive (s : State) (n : Nat) : Bool :=
  decide (s.par P.laneRole n ≠ 3) && (s.axisOfLane n).isSome && !(s.lane n).frozen

/-- LANE_MISMATCH (R136). -/
def laneMismatch (n : Nat) (again : Bool) (s : State) : State :=
  if n < 5 ∧ (s.laneActive n ∨ (n = 4 ∧ s.par P.laneRole 4 = 2) ∨ s.service.swaps.any fun x => decide (x.dst = n)) then s.laneFault n false again else s

/-- The moment d ns before the next SE of a lane, in its nanosecond (Table 1.7). -/
def Lane.before (l : Lane) (now d : Nat) : Bool := decide (now = (l.nextX - 32 * d) / 32) || decide (now = (l.nextX - 32 * d + 31) / 32)

/-- SHADOW_DEADLINE (R41, R42), at T − 0.50 µs. -/
def shadowDeadline (n : Nat) (s : State) : State :=
  match s.seAxis n with
  | none => s
  | some k =>
    let l := s.lane n
    if l.first ∨ l.dispatched ∨ ¬ l.before s.now 500 then s
    else if l.filled then s.setLane n { l with overruns := 0 }
    else
      let double := decide (s.hp k P.update = 1)
      let rep := l.inForce.map fun e => (e.1, if double then (if l.peak then { e.2 with rise := e.2.fall } else { e.2 with fall := e.2.rise }) else e.2)
      let s := s.setLane n { l with shadow := rep, filled := true, overruns := l.overruns + 1 }
      let s := (s.incPar P.overrunCount k).setBit P.ctrlStatus 6 true k
      if 2 ≤ l.overruns + 1 then s.laneFault n true false else s

/-- EDGE_DISPATCH (Table 1.7, R39): the words go out at T − 0.40 µs. -/
def edgeDispatch (n : Nat) (s : State) : State :=
  match s.seAxis n with
  | none => s
  | some _ =>
    let l := s.lane n
    if l.filled ∧ ¬ l.first ∧ ¬ l.dispatched ∧ l.before s.now 400 then s.setLane n { l with dispatched := true } else s

/-- LANE_SELF_TEST (R144). -/
def laneSelfTest (n : Nat) (pass : Bool) (s : State) : State :=
  let l := s.lane n
  if n < 5 ∧ l.testDue then
    let s := (s.setLane n { l with testDue := false }).setBit P.laneFaults (3 * n + 2) (!pass)
    if s.par P.laneRole n = 3 then s
    else if ¬ pass then s.setPar P.laneRole 3 n
    else if n = 4 ∧ s.par P.laneRole 4 = 1 then s.setPar P.laneRole 2 4
    else s
  else s

/-- HOUSE_SILENT (R50). -/
def houseSilent (k : Nat) (s : State) : State :=
  let a := s.ax k
  if k < 4 ∧ s.switching k ∧ s.noPair ∧ a.hearth.takenAt + 5000000 < s.now ∧ a.hearth.silentTau = none then
    let s := s.raiseOn 0x0206 k k "CTL/HOUSE"
    let t := s.arb k 4
    if ¬ t.2 then t.1
    else
      let s := t.1
      let s := if (s.ax k).st = .stopping then s else s.beginStop k .houseSilent .ready
      s.modAx k fun a => { a with hearth := { a.hearth with silentTau := some a.hearth.lastTau } }
  else s

/-- BRIDGE_IMBALANCE (R128). -/
def bridgeImbalance (k : Nat) (s : State) : State :=
  match (s.ax k).hearth.balSince with
  | some t0 =>
    if k < 4 ∧ s.switching k ∧ t0 + 10000000 ≤ s.now ∧ ¬ s.stands 0x0204 k then
      s.raiseOn 0x0204 k k ("CTL/HEARTH/" ++ dec (s.laneOf k))
    else s
  | none => s

/-! ### Sensing faults (Table 4.6) -/

def sensePath (b : Nat) : String := "CTL/SENSE/" ++ dec b

/-- A sensing fault of a bridge raised once, on the axis that owns it. -/
def State.senseFault (s : State) (code b : Nat) (hard : Bool := true) : State :=
  if s.stands code b then s else s.raiseAll code (s.axisOfBridge b).toList b (sensePath b) hard

/-- PHASE_OC: what the bridge's detectors see now; above OC_LEVEL it reports to the lane and the Cellar (R188, R396). -/
def phaseOc (b : Nat) (raw : List Int) (s : State) : State :=
  if 4 ≤ b then s
  else
    let br := s.bridge b
    let level := s.ocDetect b raw
    let s := (s.setBridge b { br with oc := level, ocAt := if level ∧ ¬ br.oc then s.now else br.ocAt }).setBit P.senseStatus 0 level b
    if level ∧ ¬ br.oc then s.senseFault 0x0301 b else s

/-- SD_STREAM: what SDi has shown over the last 32 modulator clocks: no transition, or transitions again. -/
def sdStream (i wave : Nat) (s : State) : State :=
  let b := i / 3
  if 12 ≤ i ∨ s.par P.csMode b ≠ 1 then s
  else
    let toggling := s.sdAlive wave
    let s := (s.setBit P.sdFaults i (!toggling)).clearing 0x0302 b toggling
    if toggling then (if (upto 3).any fun x => bit (s.par P.sdFaults) (3 * b + x) then s.clearing 0x0302 b false else s)
    else
      let dead := ((upto 3).filter fun x => bit (s.par P.sdFaults) (3 * b + x)).length
      s.raiseAll 0x0302 (s.axisOfBridge b).toList b (sensePath b) (decide (2 ≤ dead))

/-- SENSE_SUM. -/
def senseSum (b : Nat) (s : State) : State := if b < 4 ∧ 8 ≤ (s.bridge b).sumRun then s.senseFault 0x0303 b else s

/-- SENSE_OFFSET of phase x. -/
def senseOffset (b x : Nat) (s : State) : State :=
  if b < 4 ∧ 16 ≤ (s.bridge b).ofsRun.getD x 0 then
    (s.setBridge b { s.bridge b with ofsTrip := setAt (s.bridge b).ofsTrip x true }).senseFault 0x0304 b
  else s

/-- SENSE_REF_CHECK: at SE + T/4 of every 64th period, the reference results of the current converters and of the voltage converter;
each converter counts its own failed checks (R188). No check runs while the lane does not run, so that a SENSE_REF whose stop has ended
stays uncleared until BOOT (how it meets "reference check passes" is open in the manual: DESIGN CHOICE, log entry 232). -/
def senseRefCheck (b : Nat) (cur : List Int) (volt : Int) (s : State) : State :=
  match s.axisOfBridge b with
  | none => s
  | some k =>
    let l := s.lane (s.laneOf k)
    let br := s.bridge b
    let at_ := l.seX + 20 * s.cycOf k
    if 4 ≤ b ∨ ¬ l.running ∨ l.first ∨ l.periodNo % 64 ≠ 0 ∨ br.refPeriods = l.periodNo + 1 ∨ ¬ (s.now = at_ / 32 ∨ s.now = (at_ + 31) / 32) then s
    else
      let bad := ((upto 3).map fun x => decide (s.par P.csMode b = 0) && decide (33 < iabs (cur.getD x 16384 - 16384))) ++ [decide (33 < iabs (volt - 32768))]
      let run := (bad.zipIdx).map fun x => if x.1 then br.refRun.getD x.2 0 + 1 else 0
      let s := s.setBridge b { br with refRun := run, refPeriods := l.periodNo + 1 }
      if run.any fun n => decide (2 ≤ n) then s.senseFault 0x0305 b else s

/-- VDC_DISAGREE on link k. -/
def vdcDisagree (k : Nat) (s : State) : State :=
  if k < 2 ∧ 4 ≤ (s.link k).disagreeRun ∧ ¬ s.stands 0x0306 k then s.raiseAll 0x0306 (s.axesOnLink k) k ("CTL/SENSE/" ++ dec (s.link k).sampleBridge)
  else s

/-- How long every phase current of an axis in active short has stayed below ASC_RELEASE (R382). -/
def State.ascTrack (s : State) (k : Nat) : State :=
  let low := s.currentsBelow k (s.sp k P.ascRelease)
  s.modAx k fun a => { a with ascSince := if a.asc && low then some (a.ascSince.getD s.now) else none }

/-- SELF_TRIGGER_CONVERSION (R159): a bridge that has seen no SE for 10 µs converts every 10 µs: current codes or waveforms, voltage
codes. The control of a running lane goes on with the values of its SE; while the lane does not run, the conversion gives the axis's
values, and a record of SE_KIND 2 in the lane's sample plane (which record that is the manual leaves open: DESIGN CHOICE, log entry
202). -/
def selfTrigger (b : Nat) (raw : List Int) (rawV : List Nat) (s : State) : State :=
  let br := s.bridge b
  let runs : Bool := match s.axisOfBridge b with
    | some k => (s.lane (s.laneOf k)).running
    | none => false
  if 4 ≤ b ∨ s.now < br.convAt + 10000 then s
  else
    let codes := (upto 3).map fun x => s.curCode b (raw.getD x 0)
    let i := (upto 3).map fun x => s.curPu b x (codes.getD x 0)
    let br := { br with rawI := codes, rawV := rawV, convAt := s.now }
    let s := s.setBridge b (if runs then br else
      { br with i := i, src := [.measured, .measured, .measured], peakI := i.foldl (fun m y => max m (iabs y)) br.peakI,
                v := (upto 3).map fun x => s.phvPu b x (rawV.getD (x + 1) 0), vdc := s.vdcPu b (rawV.getD 0 0), held := [] })
    let s := s.calIdle b codes ((upto 3).map fun x => s.phvPu b x (rawV.getD (x + 1) 0)) (s.vdcPu b (rawV.getD 0 0))
    let s := match s.axisOfBridge b with
      | some k =>
        let s := if runs then s else
          s.writeRecord (s.laneOf k) k 2 (fun c => decide (c = b) && (upto 3).any fun x => s.overRange b (raw.getD x 0)) (s.fbArea k)
        s.ascTrack k
      | none => s
    let l := s.parN P.brLink b
    let lowest := (upto 4).find? fun c => s.parN P.brLink c = l
    let s := if runs then s else (s.foldRecal b).pulseReach b
    s.linkStage b (rawV.getD 0 0) (decide (s.linkLane l = none) && decide (lowest = some b))

/-- CARRIER_PEAK_SAMPLE (R182): the peak sequence of shunt bridges at single update; calibration and LINK_V only. -/
def carrierPeak (n : Nat) (samples : List (List Int × List Nat)) (s : State) : State :=
  match s.seAxis n with
  | none => s
  | some k =>
    let l := s.lane n
    if s.hp k P.update = 1 ∨ l.first ∨ ¬ (s.now = (l.seX + 80 * l.half) / 32 ∨ s.now = (l.seX + 80 * l.half + 31) / 32) then s
    else
      ((s.bridgesOf k).zipIdx).foldl (fun s x =>
        if s.par P.csMode x.1 = 0 then
          let d := samples.getD x.2 ([], [])
          let codes := (upto 3).map fun y => s.curCode x.1 (d.1.getD y 0)
          let v := (upto 3).map fun y => s.phvPu x.1 y (d.2.getD (y + 1) 0)
          ((s.calPeak x.1 l.half (tget l.inForce {} x.1) codes d.2).calIdle x.1 codes v (s.vdcPu x.1 (d.2.getD 0 0))).linkSample x.1 (d.2.getD 0 0)
        else s) s

end Sys2Proof.Machine
end

