-- ==== Sys2Proof/Machine/Thermal.lean ====
section
/-!
DEFINITION. The Fanner (chapter 10): temperature readings, plausibility and substitution, the thermal states, the
Cellar's shutdown, throttling, NTC inputs, the junction model and its calibration, wear.
-/
namespace Sys2Proof.Machine

/-! ### Exponential and logarithm, in 2^-60 -/

/-- Terms of the exponential series: t·x/(k+1). -/
def expTerms (x : Int) : Nat → Int → Int → Int → Int
  | 0, _, _, acc => acc
  | f + 1, k, t, acc => let t' := rdiv (rdiv (t * x) (2 ^ 60 : Nat)) k; expTerms x f (k + 1) t' (acc + t')

/-- exp of a number in 2^-60, within a few 2^-60 for a magnitude up to 1. -/
def exp60 (x : Int) : Int := expTerms x 24 1 (2 ^ 60 : Nat) (2 ^ 60 : Nat)

/-- ln 2 in 2^-60. -/
def ln2_60 : Int := 799144290325165979

/-- 2 to the power n/40, in 2^-60. -/
def exp2q (n : Int) : Int :=
  let k := n / 40
  let r := exp60 (rdiv (ln2_60 * (n - 40 * k)) 40)
  if 0 ≤ k then r * (2 ^ k.toNat : Nat) else r / (2 ^ (-k).toNat : Nat)

/-- Terms of artanh: z^(2k+1)/(2k+1). -/
def atanhTerms (z2 : Int) : Nat → Int → Int → Int → Int
  | 0, _, _, acc => acc
  | f + 1, n, t, acc => let t' := rdiv (t * z2) (2 ^ 60 : Nat); atanhTerms z2 f (n + 2) t' (acc + rdiv t' (n + 2))

/-- ln of a positive fraction a/b in 2^-60: scaled by a power of two near 1, then the artanh series. -/
def ln60 (a b : Nat) : Int :=
  let e : Int := (a.log2 : Int) - b.log2
  let (p, q) : Nat × Nat := if 0 ≤ e then (a, b * 2 ^ e.toNat) else (a * 2 ^ (-e).toNat, b)
  let z := rdiv (((p : Int) - q) * (2 ^ 60 : Nat)) (p + q : Nat)
  e * ln2_60 + 2 * atanhTerms (rdiv (z * z) (2 ^ 60 : Nat)) 30 1 z z

/-! ### Sensors (R410 to R420) -/

def State.sensor (s : State) (n : Nat) : Sensor := tget s.fanner.sensors {} n
def State.setSensor (s : State) (n : Nat) (x : Sensor) : State := { s with fanner := { s.fanner with sensors := tset s.fanner.sensors n x } }

/-- Neighbours of a sensor (Table 10.1). -/
def neighbours (n : Nat) : List Nat :=
  match n with
  | 0 => [1, 9] | 1 => [0, 2] | 2 => [1, 3] | 3 => [2, 4] | 4 => [3, 5] | 5 => [4, 6] | 6 => [5, 7] | 7 => [6, 8] | 8 => [7, 10]
  | 9 => [0, 12] | 10 => [8, 11] | 11 => [10, 13] | 12 => [9, 13] | 13 => [11, 12] | 14 => [15, 7] | 15 => [14, 6]
  | 16 => [17, 18] | 28 => [27, 26]
  | n => [n - 1, n + 1]

/-- Location path of a sensor (Table 10.1). -/
def sensorPath (n : Nat) : String :=
  if n < 14 then "CTL/FANNER/" ++ dec n else if n = 14 then "FLASH/EAST" else if n = 15 then "FLASH/WEST" else "G" ++ dec (n - 16) ++ "/LINK"

/-- A count as a temperature in 0.25 °C (R412). -/
def tempOf (n count : Nat) : Int :=
  let a : Int := (Config.tsN25 n).toNat
  let b : Int := (Config.tsN125 n).toNat
  100 + rdiv (400 * ((count : Int) - a)) (if b = a then 1 else b - a)

/-- A reading that R414 allows. -/
def validTemp (t : Int) : Bool := decide (-240 ≤ t) && decide (t ≤ 800)

def State.broken (s : State) (n : Nat) : Bool := bit (s.par P.tsBrokenMask) n

/-- nb(s) + d[s], or its replacement, in 2^-32 of 0.25 °C (R416, R418); none where not even the group gives a reading. -/
def State.expected (s : State) (t : List Int) (n : Nat) : Option Int :=
  let g := fun k => t.getD k 9999
  let ok := fun k => !s.broken k && validTemp (g k)
  let nb := (neighbours n).filter ok
  let d := (Config.tsD0 n) * 4294967296 + (s.sensor n).dd
  match nb with
  | [] =>
    let grp := (if n < 16 then upto 16 else (upto 13).map (· + 16)).filter fun k => decide (k ≠ n) && validTemp (g k)
    match grp with
    | [] => none
    | a :: r => some (4294967296 * r.foldl (fun m k => max m (g k)) (g a))
  | ks => some (rdiv (4294967296 * (ks.foldl (fun a k => a + g k) 0)) ks.length + d)

/-- dev of R416; none where the reading is invalid or nothing judges it. -/
def State.deviation (s : State) (t : List Int) (n : Nat) : Option Int :=
  let v := t.getD n 9999
  if validTemp v then (s.expected t n).map fun e => 4294967296 * v - e else none

/-- Whether the clock margin of R415 applies. -/
def State.clkMargin (s : State) : Int := if bit (s.par P.clkStatus) 0 then 28 else 0

/-- The value every threshold uses for a sensor (R418); none for an invalid reading of a sensor that is not broken. -/
def State.tempValue (s : State) (t : List Int) (n : Nat) : Option Int :=
  if s.broken n then
    let x := s.sensor n
    let fall := 4294967296 * x.last - rdiv (2 * 4294967296 * (s.now - x.lastAt : Nat)) 1000000000
    let v := match s.expected t n with
      | some e => max (e + 12 * 4294967296) fall
      | none => fall
    some (rdiv v 4294967296)
  else if validTemp (t.getD n 9999) then some (t.getD n 0) else none

/-- The check of R416 and R417 for all sensors at one reading. -/
def State.checkSensors (s : State) (t : List Int) : State :=
  let devs := (upto 29).map fun n => s.deviation t n
  let deviates := fun n => match devs.getD n none with
    | none => !validTemp (t.getD n 9999)
    | some d => decide (8 * 17179869184 < iabs d)
  let bad := (upto 29).map fun n => if s.broken n then (s.sensor n).bad else if deviates n then (s.sensor n).bad + 1 else 0
  let cand := (upto 29).filter fun n => !s.broken n && decide (3 ≤ bad.getD n 0)
  let rank : Nat → Int := fun n => match devs.getD n none with
    | none => (2 ^ 62 : Int)
    | some d => iabs d
  let worst := cand.foldl (fun (m : Option Nat) n => match m with
    | none => some n
    | some k => if rank k < rank n then some n else some k) none
  let hot := ((upto 29).filterMap fun n => s.tempValue t n).foldl max (-241)
  let s := (upto 29).foldl (fun s n =>
    let x := s.sensor n
    let b := bad.getD n 0
    if s.broken n then
      let ok := match devs.getD n none with
        | some d => decide (iabs d ≤ 4 * 17179869184)
        | none => false
      s.setSensor n { x with good := if ok then x.good + 1 else 0 }
    else
      let x := { x with bad := if cand.contains n then 0 else b }
      let x := if b = 0 then { x with last := t.getD n 0, lastAt := s.now, hottest := decide (t.getD n 0 = hot) } else x
      let x := match devs.getD n none with
        | some d => if iabs d ≤ 4 * 17179869184 ∧ worst ≠ some n then { x with dd := clamp (x.dd + rdiv d 600000) (-171798691840) 171798691840 } else x
        | none => x
      s.setSensor n x) s
  match worst with
  | none => s
  | some n =>
    let s := (s.setBit P.tsBrokenMask n true).setSensor n { s.sensor n with good := 0 }
    let hold := (s.sensor n).hottest && (decide (s.par P.thState = 2) || decide (0 < s.par P.thLevel))
    let s := if hold then { s with fanner := { s.fanner with hold60 := some (s.now + 60000000000) } } else s
    s.raiseModule 0x0803 n (sensorPath n)

/-! ### Thermal states (R421 to R424) -/

/-- Wanted state from the present one, with the two functions of R421. -/
def wanted (up down st : Nat) : Nat := if st < up then up else if down < st then down else st

def hotUp (h : Int) : Nat := if 480 ≤ h then 2 else if 440 ≤ h then 1 else 0
def hotDown (h : Int) : Nat := if 468 < h then 2 else if 428 < h then 1 else 0
def coldUp (c : Int) : Nat := if c < -160 then 2 else if c < -100 then 1 else 0
def coldDown (c : Int) : Nat := if c < -152 then 2 else if c < -88 then 1 else 0

/-- A THERMAL event (Table 11.13). -/
def State.thermEvent (s : State) (pos subj grace : Nat) : State :=
  s.notify 5 pos subj (leBytes 2 grace ++ leBytes 1 (s.parN P.tsHotId) ++ leBytes 1 0 ++ leBytes 2 (unsigned 16 (s.par P.tsHot)))

/-- Grace time left of a level in ms (R429). -/
def State.graceLeft (s : State) (l : Level) : Nat :=
  match l.graceAt with
  | some t0 => (t0 + s.tpN P.thGrace * 1000000 - s.now) / 1000000
  | none => 0

def State.setLevel (s : State) (l : Level) : State := { s with fanner := { s.fanner with level := l } }
def State.jtLvl (s : State) (k : Nat) : Level := tget s.fanner.jt {} k
def State.setJtLvl (s : State) (k : Nat) (l : Level) : State := { s with fanner := { s.fanner with jt := tset s.fanner.jt k l } }

/-- One step of R430 by n hundredths: rise, hold or fall; `keep` where R419 forbids a fall. -/
def Level.step (l : Level) (top n : Nat) (keep : Bool) : Level :=
  let f := if top < l.fine then (if keep then l.fine else max top (l.fine - n))
    else if l.enforcing ∧ l.hot = 2 then min top (l.fine + n)
    else if l.hot = 0 then (if keep then l.fine else l.fine - n)
    else l.fine
  { l with fine := f, enforcing := l.enforcing && !(decide (f = 0) && decide (l.hot = 0)) }

/-- A level enters a hot state (R422, R429): entry to THROTTLE starts the grace, leaving it cancels. -/
def Level.enter (l : Level) (st now : Nat) : Level :=
  { l with hot := st, since := none, graceAt := if st = 2 then some now else none, reqAt := if st = 2 then some now else none }

/-- The hot and cold readings of a window, the wanted states and TH_LEVEL (R421, R422, R430). -/
def State.thermalStates (s : State) (t : List Int) : State :=
  let vals := (upto 29).filterMap fun n => (s.tempValue t n).map fun v => (n, v)
  let s := vals.foldl (fun s e => s.setPar P.tsValue (clamp e.2 (-240) 800) e.1) s
  let s := (upto 29).foldl (fun s n => s.setPar P.tsDiff (Config.tsD0 n + rdiv (s.sensor n).dd 4294967296) n) s
  match vals with
  | [] => s
  | v0 :: _ =>
    let hot := vals.foldl (fun m e => if m.2 < e.2 then e else m) v0
    let cold := vals.foldl (fun m e => if e.2 < m.2 then e else m) v0
    let h := hot.2 + s.clkMargin
    let c := cold.2 - s.clkMargin
    let s := ((s.setPar P.tsHot (clamp hot.2 (-240) 800)).setPar P.tsHotId hot.1).setPar P.tsCold (clamp cold.2 (-240) 800)
    let sd := decide (3 ≤ s.par P.thState)
    let l := s.fanner.level
    if s.fanner.first then
      let s := if sd then s else (s.setPar P.thState (hotUp h)).setLevel { l.enter (hotUp h) s.now with fine := 0 }
      let s := s.setPar P.thCold (coldUp c)
      { s with fanner := { s.fanner with first := false, coldWant := coldUp c, coldSince := none } }
    else
      let st := s.parN P.thState
      let want := wanted (hotUp h) (hotDown h) st
      let cst := s.parN P.thCold
      let cw := wanted (coldUp c) (coldDown c) cst
      let l := if sd then { l with since := none } else { l with want := want, since := if want = st then none else some (l.since.getD s.now) }
      let keep := s.fanner.hold60.any fun u => decide (s.now < u)
      let l := if sd then l else l.step s.levelMax 1 keep
      let s := (s.setLevel l).setPar P.thLevel (l.fine / 100 : Nat)
      { s with fanner := { s.fanner with coldWant := cw, coldSince := if cw = cst then none else some (s.fanner.coldSince.getD s.now) } }

/-! ### Hardware shutdown (R425 to R428) -/

/-- A raw count at or beyond the count of 145 °C, 138 °C with the margin of R415. -/
def State.overCount (s : State) (n count : Nat) : Bool :=
  let a : Int := (Config.tsN25 n).toNat
  let b : Int := (Config.tsN125 n).toNat
  let deg : Int := if s.clkMargin = 0 then 120 else 113
  if a < b then decide (deg * (b - a) ≤ 100 * ((count : Int) - a)) else decide (100 * ((count : Int) - a) ≤ deg * (b - a))

/-- States that THERMAL_SD sends to FAULT_RETRY (R405). -/
def AxState.sdMoves : AxState → Bool
  | .precheck | .ready | .running | .limp | .stopping | .emergency => true
  | _ => false

/-- What THERMAL_SD does to the axes (R405). -/
def State.thermalAxes (s : State) (latched : Bool) : State :=
  let ks := (upto 4).filter fun k => (s.ax k).st.sdMoves
  let s := s.raiseAll 0x0801 ks 0 "CTL/CELLAR"
  ks.foldl (fun s k =>
    if latched then s.enterFault k false false false
    else s.modAx k fun a => { a with retrySd := decide (a.st = .faultRetry) }) s

/-- THERMAL_SD (R425, R427, R405); in a full halt the axes follow at its end (R708). -/
def State.thermalSd (s : State) : State :=
  let sd := s.now :: recent s.now 3600000000000 s.cellar.shutdowns
  let latched := decide (4 ≤ sd.length)
  let s := { s with cellar := { s.cellar with shutdowns := sd, coolSince := none } }
  let s := (s.setPar P.thState (if latched then 4 else 3)).setPar P.thSdCount (min 4 sd.length : Nat)
  let l := s.fanner.level
  let s := s.setLevel { l with graceAt := none, reqAt := none, since := none }
  let s := s.holdOff 3 (upto 13)
  s.orOwe (.thermal latched) fun s => s.thermalAxes latched

/-- The Cellar's comparison of a window, and its watch on the release (R425, R427). -/
def State.cellarTemps (s : State) (mask : Int) (counts : List Nat) (t : List Int) : State :=
  let live := (upto 29).filter fun n => !bit mask n
  let above := live.any fun n => s.overCount n (counts.getD n 0)
  let cool := live.all fun n => decide (t.getD n 9999 + s.clkMargin ≤ 420)
  let standing := decide (tget s.cellar.causes 0 3 ≠ 0)
  let s := { s with cellar := { s.cellar with coolSince := if standing && cool then some (s.cellar.coolSince.getD s.now) else none } }
  let s := s.setPar P.thSdCount (min 4 (recent s.now 3600000000000 s.cellar.shutdowns).length : Nat)
  if above ∧ ¬ standing then s.thermalSd else s

/-- CELL_CYCLES (R446). -/
def State.cellCycle (s : State) (t : List Int) (g : Nat) : State :=
  let n := 16 + g
  let v := t.getD n 9999
  let x := s.sensor n
  if ¬ validTemp v ∨ s.broken n then s
  else
    match x.high with
    | some h =>
      if v + 160 ≤ h then (s.incPar P.cellCycles g).setSensor n { x with low := some v, high := none }
      else s.setSensor n { x with high := some (max h v) }
    | none =>
      let low := min v (x.low.getD v)
      s.setSensor n { x with low := some low, high := if low + 160 ≤ v then some v else none }

/-- TEMP_WINDOW (R411 to R433): the 29 counts of a window of 100 µs. -/
def tempWindow (counts : List Nat) (s : State) : State :=
  if s.dev.st = .off ∨ (s.now < s.fanner.windowAt + 100000 ∧ ¬ s.fanner.first) then s
  else
    let s := { s with fanner := { s.fanner with windowAt := s.now, held := [] } }
    let s := (upto 29).foldl (fun s n => s.setPar P.tsRaw (min 65535 (counts.getD n 0) : Nat) n) s
    let t := (upto 29).map fun n => tempOf n (counts.getD n 0)
    let mask := s.par P.tsBrokenMask
    let s := s.checkSensors t
    let s := s.cellarTemps mask counts t
    let s := s.thermalStates t
    (each (upto 13) s fun g s => s.cellCycle t g)

/-- TS_PLAUSIBLE (R420). -/
def tsPlausible (n : Nat) (s : State) : State :=
  if n < 29 ∧ s.broken n ∧ 10000 ≤ (s.sensor n).good then
    ((s.setBit P.tsBrokenMask n false).setSensor n { s.sensor n with bad := 0, good := 0 }).unstandCode 0x0803 n
  else s

/-- THERMAL_STATE_CHANGE of the hot (0) or the cold state (1) (R422, R424, R429). -/
def thermalStateChange (which : Nat) (s : State) : State :=
  let l := s.fanner.level
  if which = 0 then
    match l.since with
    | some t0 =>
      if s.par P.thState < 3 ∧ t0 + 2000000000 ≤ s.now then
        let s := (s.setPar P.thState l.want).setLevel (l.enter l.want s.now)
        let s := if l.want = 1 then s.thermEvent 0 0xFF 0 else s
        if l.want = 2 then ((s.setPar P.thAck 0).thermEvent 1 0xFF (s.tpN P.thGrace)) else s
      else s
    | none => s
  else
    match s.fanner.coldSince with
    | some t0 =>
      if which = 1 ∧ t0 + 2000000000 ≤ s.now then
        let old := s.parN P.thCold
        let w := s.fanner.coldWant
        let s : State := { s.setPar P.thCold w with fanner := { s.fanner with coldSince := none } }
        let coldId : Nat := (upto 29).foldl (fun (m n : Nat) => if s.par P.tsValue n < s.par P.tsValue m then n else m) 0
        let s := if old < w then
            s.notify 5 3 0xFF (leBytes 2 0 ++ leBytes 1 coldId ++ leBytes 1 0 ++ leBytes 2 (unsigned 16 (s.par P.tsCold)))
          else s
        let s := if w = 2 then
            each (upto 4) s fun k s => if s.switching k ∧ ¬ s.stands 0x0802 k then s.raiseOn 0x0802 k k (sensorPath coldId) else s
          else s
        s
      else s
    | none => s

/-- THERMAL_SD_RELEASE (R427, R428). -/
def thermalSdRelease (s : State) : State :=
  match s.cellar.coolSince with
  | some t0 =>
    let rel := recent s.now 3600000000000 s.cellar.releases
    if tget s.cellar.causes 0 3 ≠ 0 ∧ s.par P.thState = 3 ∧ t0 + 10000000000 ≤ s.now ∧ rel.length < 3 then
      let s := { s with cellar := { s.cellar with releases := s.now :: rel, coolSince := none } }
      let s := s.dropCause 3
      let st := hotUp (s.par P.tsHot + s.clkMargin)
      let l := s.fanner.level.enter st s.now
      let l := { l with fine := s.levelMax, enforcing := true, want := st }
      let s := ((s.setPar P.thState st).setLevel l).setPar P.thLevel (l.fine / 100 : Nat)
      let s := if st = 1 then s.thermEvent 0 0xFF 0 else s
      let s := if st = 2 then (s.setPar P.thAck 0).thermEvent 1 0xFF (s.tpN P.thGrace) else s
      let s := (s.standing.filter fun f => decide (f.code = 0x0801) && decide (f.axis = 255)).foldl (fun s f => s.unstand f) s
      s
    else s
  | none => s

/-! ### Throttle handshake (R429) -/

/-- The level a handshake row names: 0 the module's, 1 + k that of axis k. -/
def State.levelOf (s : State) (w : Nat) : Level := if w = 0 then s.fanner.level else s.jtLvl (w - 1)
def State.putLevel (s : State) (w : Nat) (l : Level) : State := if w = 0 then s.setLevel l else s.setJtLvl (w - 1) l

/-- TH_GRACE_EXPIRED. -/
def thGraceExpired (w : Nat) (s : State) : State :=
  let l := s.levelOf w
  match l.graceAt with
  | some t0 =>
    if w < 5 ∧ l.hot = 2 ∧ t0 + s.tpN P.thGrace * 1000000 ≤ s.now then
      let s := s.putLevel w { l with graceAt := none, enforcing := true }
      (if w = 0 then s.thermEvent 2 0xFF 0 else s.thermEvent 5 (w - 1) 0)
    else s
  | none => s

/-- TH_REQUEST_REPEAT. -/
def thRequestRepeat (w : Nat) (s : State) : State :=
  let l := s.levelOf w
  match l.reqAt with
  | some t0 =>
    if w < 5 ∧ l.hot = 2 ∧ s.par P.thAck = 0 ∧ t0 + 1000000000 ≤ s.now then
      let s := s.putLevel w { l with reqAt := some s.now }
      if w = 0 then s.thermEvent 1 0xFF (s.graceLeft l) else s.thermEvent 4 (w - 1) (s.graceLeft l)
    else s
  | none => s

/-- TH_ACK written 1. -/
def thAck (s : State) : State := (s.setPar P.thAck 1)

/-- HOLD60_END (R419). -/
def hold60End (s : State) : State :=
  match s.fanner.hold60 with
  | some u => if u ≤ s.now then { s with fanner := { s.fanner with hold60 := none } } else s
  | none => s

/-! ### NTC inputs (R434) -/

/-- NTC_SAMPLE of input k: the code of its converter. -/
def ntcSample (k code : Nat) (s : State) : State :=
  let r25 := s.parN P.ntcR25 k
  if 8 ≤ k ∨ s.now < tget s.fanner.ntcAt 0 k + 10000000 then s
  else
    let s := { s with fanner := { s.fanner with ntcAt := tset s.fanner.ntcAt k s.now,
                                                ntcHeld := s.fanner.ntcHeld.filter fun e => decide (e.1 ≠ P.ntcR25.pn k 0) } }
    if r25 = 0 then s.setPar P.ntcState 3 k
    else
      let st : Nat := if 4050 < code then 1 else if code < 20 then 2 else 0
      let old := s.parN P.ntcState k
      let s := s.setPar P.ntcState st k
      if st ≠ 0 then (if st ≠ old then s.thermEvent 7 k 0 else s)
      else
        let l := ln60 (10000 * code) ((4095 - code) * r25)
        let d := rdiv (100 * (2 ^ 60 : Nat)) 29815 + rdiv l (s.par P.ntcBeta k)
        let q := clamp (rdiv (80 * (2 ^ 60 : Nat) - 21852 * d) (20 * (if d = 0 then 1 else d))) (-240) 800
        let h := tget s.fanner.ntc [] k
        let h := match h with
          | (_, v) :: _ => if v = q then h else (s.now, q) :: h
          | [] => [(s.now, q)]
        let keep := (h.takeWhile fun e => decide (s.now < e.1 + 600000000000)).length
        let s := { s with fanner := { s.fanner with ntc := tset s.fanner.ntc k (h.take (keep + 1)) } }
        (s.setPar P.ntcTemp q k)

/-- The NTC has moved by more than 0.5 °C in the last 10 min (R439). -/
def State.ntcMoved (s : State) (k : Nat) : Bool :=
  let h := (tget s.fanner.ntc [] k).map (·.2)
  h.any fun a => h.any fun b => decide (2 < a - b)

/-! ### Junction model (R435 to R438, R443) -/

def State.junction (s : State) (j : Nat) : Junction := tget s.fanner.junctions {} j
def State.setJunction (s : State) (j : Nat) (x : Junction) : State := { s with fanner := { s.fanner with junctions := tset s.fanner.junctions j x } }

/-- A bridge has a usable NTC: its number. -/
def State.bridgeNtc (s : State) (b : Nat) : Option Nat :=
  let k := (s.jp b P.brNtc b).toNat
  if k < 8 ∧ tget s.fanner.ntcHeld (s.par P.ntcR25 k) (P.ntcR25.pn k 0) ≠ 0 then some k else none

/-- A bridge switches: its axis's lane runs. -/
def State.bridgeSwitches (s : State) (b : Nat) : Bool :=
  match s.axisOfBridge b with
  | some k => (s.lane (s.laneOf k)).running
  | none => false

/-- High-side on share of a phase by the words in force, in Q1.30; none with both switches off. -/
def State.dutyNow (s : State) (b x : Nat) : Option Int :=
  match s.axisOfBridge b with
  | none => none
  | some k =>
    let l := s.lane (s.laneOf k)
    let w : Words := tget l.inForce {} b
    let one (e : Edge) : Option Int := match e.force with
      | .modulate => some (rdiv (e.compare * one30) (16 * max l.half 1 : Nat))
      | .lowOn => some 0
      | .highOn => some one30
      | .bothOff => none
    match one (w.rise.getD x {}), one (w.fall.getD x {}) with
    | some a, some c => some (rdiv (a + c) 2)
    | _, _ => none

/-- One switch position in one millisecond (R435, R436). -/
def State.junctionStep (s : State) (b k j : Nat) : State :=
  let x := j % 6 / 2
  let high := decide (j % 2 = 0)
  let ntc := s.par P.ntcTemp k
  let jn := s.junction j
  let jn := if !jn.started && s.bridgeSwitches b then { jn with started := true, dT := 0, c := 0, m := 10 * 2 ^ 48 } else jn
  if ¬ jn.started then (s.setJunction j { jn with plats := 0, platN := 0, platI := 0 }).setPar P.jtEst ntc j
  else
    let i := if s.bridgeSwitches b then s.phaseAmps b x else 0
    let dj := match s.dutyNow b x with
      | some d => if high then d else one30 - d
      | none => 0
    let f : Int := match s.axisOfBridge b with
      | some a => s.par P.carrierEff a
      | none => 0
    let p := rdiv (10 * s.jp b P.jtVce b * i * dj) one30 + rdiv (s.jp b P.jtEsw b * i * f) 1000
    let goal := rdiv (s.jp b P.jtRth b * p * 2 ^ 48) 1000000000
    let tau := s.jp b P.jtTau b
    let dT := jn.dT + rdiv (goal - jn.dT) tau
    let tm := ntc * 2 ^ 46 + dT
    let slope := s.jp b P.jtSlope j
    let tp : Option Int :=
      if jn.platN = 0 ∨ s.par P.jtCal j = 0 ∨ slope = 0 then none
      else
        let n : Int := jn.platN
        let pl := rdiv (jn.plats * 625) (2 * n)
        let ia := rdiv jn.platI n
        some (s.par P.jtT1 j * 2 ^ 46 + rdiv ((1000 * (pl - s.par P.jtP1 j) - rdiv (s.jp b P.jtKi j * (ia - 10 * s.jp b P.jtI1 j)) 100) * 2 ^ 48) slope)
    let c := match tp with
      | some t => jn.c + rdiv (t - tm - jn.c) (s.jp b P.jtCorrTau b)
      | none => if s.par P.jtCal j = 0 then 0 else jn.c
    let m := rdiv (jn.m * exp60 (-(rdiv (2 ^ 60 : Nat) tau))) (2 ^ 60 : Nat)
    let q (v : Int) : Int := clamp (rdiv v (2 ^ 46)) (-240) 800
    let s := s.setJunction j { jn with dT := dT, c := c, m := m, plats := 0, platN := 0, platI := 0 }
    let s := match tp with
      | some t => s.setPar P.jtTp (q t) j
      | none => s
    s.setPar P.jtEst (q (tm + c + m)) j

/-- The junction level of an axis in one millisecond (R443). -/
def State.junctionLevel (s : State) (k : Nat) : State :=
  let js := (s.bridgesOf k).flatMap fun b => if (s.bridgeNtc b).isSome then (upto 6).map fun n => (b, 6 * b + n) else []
  let l := s.jtLvl k
  let above (d : Int) (strict : Bool) : Bool := js.any fun e =>
    let lim := s.jp e.1 P.jtLimit e.1 - d
    if strict then decide (lim < s.par P.jtEst e.2) else decide (lim ≤ s.par P.jtEst e.2)
  let w : Nat := if above 0 false then 2 else if above 40 true then 1 else 0
  let l := { l with want := w, since := if w = l.hot then none else some (l.since.getD s.now) }
  let due : Bool := match l.since with
    | some t0 => decide (t0 + 2000000000 ≤ s.now)
    | none => false
  let l' := if due then l.enter w s.now else l
  let l' := l'.step s.levelMax 10 false
  let s := (s.setJtLvl k l').setPar P.jtLevel (l'.fine / 100 : Nat) k
  if due ∧ w = 2 then (s.setPar P.thAck 0).thermEvent 4 k (s.tpN P.thGrace) else s

/-- JUNCTION_UPDATE: every 1 ms. -/
def junctionUpdate (s : State) : State :=
  if s.now < s.fanner.jtAt + 1000000 then s
  else
    let s := { s with fanner := { s.fanner with jtAt := s.now } }
    let s := each (upto 4) s fun b s =>
      let s := if s.bridgeSwitches b then { s with fanner := { s.fanner with switchedAt := tset s.fanner.switchedAt b s.now } } else s
      match s.bridgeNtc b with
      | none => (s.setBit P.jtStatus 0 false b).setBit P.jtStatus 1 false b
      | some k =>
        let was := (s.junction (6 * b)).started
        let s := each (upto 6) s fun n s => s.junctionStep b k (6 * b + n)
        let s := (s.setBit P.jtStatus 0 (s.junction (6 * b)).started b).setBit P.jtStatus 1 (decide (s.par P.ntcState k ≠ 0)) b
        match s.axisOfBridge b with
        | some a => if !was && (s.junction (6 * b)).started then s.setBit P.coldFlags 2 true a else s
        | none => s
    let s := each (upto 4) s fun k s =>
      let warm := (s.bridgesOf k).all fun b => (upto 6).all fun n => decide ((s.junction (6 * b + n)).m < 2 ^ 47)
      if bit (s.par P.coldFlags k) 2 && warm then s.setBit P.coldFlags 2 false k else s
    (each (upto 4) s fun k s => s.junctionLevel k)

/-! ### Calibration (R439, R440) -/

/-- JT_CAL_CMD of a bridge is answered NOT_READY. -/
def State.jtCalRefused (s : State) (b : Nat) : Bool :=
  let ready : Bool := match s.axisOfBridge b with
    | some k => decide ((s.ax k).st = .ready)
    | none => false
  let moved : Bool := match s.bridgeNtc b with
    | some k => s.ntcMoved k || decide (s.par P.ntcState k ≠ 0)
    | none => true
  let used := match s.fanner.switchedAt.find? (fun e => e.1 = b) with
    | some (_, t0) => decide (s.now < t0 + 1800000000000)
    | none => false
  !ready || decide (s.par P.linkV (s.parN P.brLink b) < 5000) || moved || used

/-- JT_CAL_CMD written (R439). -/
def jtCalCmd (b v : Nat) (s : State) : State :=
  if 4 ≤ b ∨ v = 0 ∨ 2 < v ∨ s.jtCalRefused b ∨ (s.fanner.pulse.find? (fun e => e.1 = b)).isSome then s
  else
    let s := s.setPar P.jtCalCmd v b
    let s := each (upto 6) s fun n s => s.setJunction (6 * b + n) { s.junction (6 * b + n) with testSum := 0, testN := 0 }
    { s with fanner := { s.fanner with pulse := tset s.fanner.pulse b { point := v, at_ := s.now } } }.setBit P.jtStatus 2 true b

/-- JT_PULSE: one of 16 pulses of each position, 10 ms apart; the turn-off plateau that it gives, in 312.5 ps. -/
def jtPulse (b plateau : Nat) (s : State) : State :=
  match s.fanner.pulse.find? (fun e => e.1 = b) with
  | none => s
  | some (_, p) =>
    if p.failed ∨ 96 ≤ p.done ∨ (0 < p.done ∧ s.now < p.at_ + 10000000) then s
    else
      let stop := decide (2 ≤ s.par P.thState) || decide (0 < s.par P.thLevel) ||
        !(match s.axisOfBridge b with
          | some k => decide ((s.ax k).st = .ready)
          | none => false)
      let put (q : PulseTest) (s : State) : State := { s with fanner := { s.fanner with pulse := tset s.fanner.pulse b q } }
      let s := s.pulseOff b
      if stop then put { p with failed := true, pulse := none } s
      else
        let j := 6 * b + p.done / 16
        let x := s.junction j
        (put { p with done := p.done + 1, at_ := s.now, pulse := none }
          (s.setJunction j { x with testSum := x.testSum + plateau, testN := x.testN + 1 })).pulseOn b (p.done / 16)

/-- Parameter values written to the configuration area. -/
def State.keep (s : State) (pns : List Nat) : State :=
  { s with config := pns.foldl (fun c pn => match s.params.find? (fun e => e.1 = pn) with
      | some e => tset c pn e.2
      | none => c.filter fun e => e.1 ≠ pn) s.config }

/-- One position's point stored (R439): whether it was accepted. -/
def State.storePoint (s : State) (b j point vgl : Nat) : State × Bool :=
  let x := s.junction j
  let pl : Int := rdiv (x.testSum * 625) (2 * max x.testN 1 : Nat)
  let t := match s.bridgeNtc b with
    | some k => s.par P.ntcTemp k
    | none => 0
  let g := j / 2
  let high := decide (j % 2 = 0)
  let off2 := ((if high then s.parN P.shapeH g else s.parN P.shapeL g) / 16) % 16
  let sup := if high then s.parN P.bootV g else vgl
  let ref : Nat := off2 * 4096 + min sup 4095
  if point = 1 then
    ((((s.setPar P.jtP1 (clamp pl 0 5000000) j).setPar P.jtT1 t j).setPar P.jtRef ref j).setPar P.jtCal 1 j, true)
  else
    let d := t - s.par P.jtT1 j
    if s.par P.jtCal j = 0 ∨ d < 120 then (s, false)
    else
      let slope := clamp (rdiv (4000 * (pl - s.par P.jtP1 j)) d) s32lo s32hi
      ((((s.setPar P.jtT2 t j).setPar P.jtSlope slope j).setPar P.jtRef ref j).setPar P.jtCal 2 j, true)

/-- JT_CAL_DONE: the test of a bridge ends; the calibration of each position that accepts its point is kept (R440). -/
def jtCalDone (b : Nat) (s : State) : State :=
  match s.fanner.pulse.find? (fun e => e.1 = b) with
  | none => s
  | some (_, p) =>
    if ¬ p.failed ∧ p.done < 96 then s
    else
      let s := s.pulseOff b
      let s := { s with fanner := { s.fanner with pulse := s.fanner.pulse.filter fun e => e.1 ≠ b } }
      let s := (s.setBit P.jtStatus 2 false b).setPar P.jtCalCmd 0 b
      let (s, ns) := if p.failed then (s, [])
        else (upto 6).foldl (fun (a : State × List Nat) n => let r := a.1.storePoint b (6 * b + n) p.point (s.parN P.vglpV b); (r.1, if r.2 then n :: a.2 else a.2)) (s, [])
      let ok := decide (ns.length = 6)
      let s := s.keep (ns.flatMap fun n => [P.jtP1, P.jtT1, P.jtT2, P.jtSlope, P.jtCal, P.jtRef].map fun q => q.pn (6 * b + n) 0)
      let (d, s) := if ok then (0, s) else s.draw 8
      s.notify 5 6 b (leBytes 1 p.point ++ leBytes 1 (if ok then 0 else max 1 d))

/-! ### Wear (R445 to R447) -/

/-- LIFE_UPDATE: every second. -/
def lifeUpdate (s : State) : State :=
  if s.now < s.fanner.lifeAt + 1000000000 then s
  else
    let die := (upto 16).foldl (fun m n => max m (s.par P.tsValue n)) (-240)
    let us := (rdiv (exp2q (die - 280) * 1000000) (2 ^ 60 : Nat)).toNat + s.fanner.lifeRest
    let s := { s with fanner := { s.fanner with lifeAt := s.now, lifeRest := us % 3600000 } }
    let s := s.incPar P.lifeUsed 0 0 (us / 3600000)
    s.setPar P.lifeFrac (min 65535 (s.par P.lifeUsed * 10000 / 219000000))

/-- The wear counters saved (R447). -/
def State.saveWear (s : State) : State :=
  let e : Nat × List Nat := (s.parN P.lifeUsed, (upto 13).map fun g => s.parN P.cellCycles g)
  { s with wear := (e :: s.wear).take 64, fanner := { s.fanner with wearAt := s.now } }

/-- WEAR_SAVE: every 24 h of powered time. -/
def wearSave (s : State) : State := if s.fanner.wearAt + 86400000000000 ≤ s.now then s.saveWear else s

end Sys2Proof.Machine
end

