-- ==== Sys2Proof/Machine/Gate.lean ====
section
/-!
DEFINITION. Gate cells and the Cellar (chapter 9): desaturation, two-step soft-off, interlock and stages, cell links,
supplies, the chopper cell, direct gates, hold-off and STO.
-/
namespace Sys2Proof.Machine

/-- Axes a fault of a cell reaches, of those the manual sends to a fault state. -/
def State.cellAxes (s : State) (g : Nat) : List Nat := if g < 12 then s.axesOfCell g else []

/-- A cell fault (Table 9.9): on the axes with a bridge on the cell, and with the module as subject for G12. A fault
raised at PRECHECK latches (R397). -/
def State.cellFault (s : State) (code g inst : Nat) (path : String) : State :=
  match s.cellAxes g with
  | [] => s.raiseModule code inst path
  | ks => ks.foldl (fun s k => s.raiseOn code k inst path true ((s.ax k).precheck.isSome && decide (code = 0x0105 ∨ code = 0x0102))) s

/-! ### Desaturation and soft-off (R379, R380, R386) -/

/-- DESAT on a channel: soft-off at once, and the fault of the half-bridge or of the chopper. -/
def desatTrip (c : Nat) (s : State) : State :=
  let x := s.chan c
  if 26 ≤ c ∨ ¬ x.on ∨ x.desat ∨ s.now < x.onAt + s.cpN (c / 2) P.desatBlank then s
  else
    let s := (s.setChan c { x with desat := true }).softOff c
    let s := s.incPar P.desatCount (c / 2)
    if 24 ≤ c then s.chopFault (c - 24) (chanPath c) else s.cellFault 0x0101 (c / 2) c (chanPath c)

/-- The end of step 1 of a two-step soft-off (R380). -/
def softOffLevelEnd (c : Nat) (s : State) : State :=
  let x := s.chan c
  if c < 26 ∧ x.soft = .level ∧ x.softAt + s.cpN (c / 2) P.softTime * 100 ≤ s.now then s.putChan c { x with soft := .sink } else s

/-- A plateau's report for the next status frame (R368), in 312.5 ps. -/
def Chan.plateau (x : Chan) (p : Nat) : Chan :=
  if x.cmd then { x with platOn := some (min 16000 p) } else { x with platOff := some (min 16000 p) }

/-- A turn-off whose gate is off goes on in stage 3: one without a plateau has missed it, a plateau in progress ends (R367, R368). A
two-step soft-off has no stages left. -/
def Chan.offStage (x : Chan) (now : Nat) : Chan :=
  if x.soft ≠ .none then { x with stage := .rail }
  else match x.stage with
    | .s1 => { x.plateau 0 with stage := .s3, stageAt := now, platMiss := true }
    | .s2 => { x.plateau ((now - x.stageAt) * 16 / 5) with stage := .s3, stageAt := now }
    | _ => x

/-- The gate of a channel that is commanded off reaches OFF_THRESH: the Miller clamp engages (R369, R371, R373). A wait
for the partner longer than ILK_WAIT is counted. -/
def gateOffDetected (c : Nat) (s : State) : State :=
  let x := s.chan c
  if c < 26 ∧ x.on ∧ ¬ x.cmd then
    let o := s.chan (if c % 2 = 0 then c + 1 else c - 1)
    let late := decide (c < 24) && o.wait.isSome && decide (x.offCmdAt + s.gpN (c / 2) P.ilkWait < s.now)
    let s := s.putChan c { x.offStage s.now with on := false, offAt := s.now, clamp := true, soft := .none, ocTrip := false }
    if late then s.incPar P.ilkLateCount (c / 6) else s
  else s

/-- A switching channel changes stage (R367, R368): 0 the plateau begins, 1 it ends by slope, 2 STAGE_TMAX passed without
one, 3 it has lasted 5 µs, 4 the gate is within 0.5 V of its rail. The plateau duration is in 312.5 ps. -/
def gateStageChange (c what plateau : Nat) (s : State) : State :=
  let x := s.chan c
  if 26 ≤ c ∨ x.soft ≠ .none then s
  else
    match x.stage, what with
    | .s1, 0 =>
      if s.now < x.cmdAt + s.cpN (c / 2) P.stageTmax then s.putChan c { x with stage := .s2, stageAt := s.now, platMiss := false } else s
    | .s1, 2 =>
      if x.cmdAt + s.cpN (c / 2) P.stageTmax ≤ s.now then s.putChan c (Chan.plateau { x with stage := .s3, stageAt := s.now, platMiss := true } 0) else s
    | .s2, 1 => s.putChan c (Chan.plateau { x with stage := .s3, stageAt := s.now } plateau)
    | .s2, 3 => if x.stageAt + 5000 ≤ s.now then s.putChan c (Chan.plateau { x with stage := .s3, stageAt := s.now } plateau) else s
    | .s3, 4 => s.putChan c { x with stage := .rail, stageAt := s.now }
    | _, _ => s

/-- The opposite gate has been off for DEAD_TIME: a waiting turn-on proceeds (R370). -/
def deadTimeExpired (c : Nat) (s : State) : State :=
  let x := s.chan c
  let o := s.chan (if c % 2 = 0 then c + 1 else c - 1)
  if c < 24 ∧ x.wait.isSome ∧ ¬ o.on ∧ o.offAt + s.gpN (c / 2) P.deadTime ≤ s.now then
    if s.refusesOn c then s.setChan c x.drop
    else s.putChan c { x with on := true, wait := none, stage := .s1, stageAt := s.now, cmdAt := s.now, onAt := s.now }
  else s

/-- GATE_STUCK (R371): the pending turn-on of a channel is dropped. -/
def gateStuck (c : Nat) (s : State) : State :=
  let x := s.chan c
  let j := if c % 2 = 0 then c + 1 else c - 1
  let o := s.chan j
  if c < 24 ∧ x.wait.isSome ∧ o.on ∧ ¬ o.cmd ∧ o.offCmdAt + 10000 ≤ s.now then
    (s.setChan c x.drop).cellFault 0x0104 (c / 2) j (chanPath j)
  else s

/-- A placed edge at a gate pin (R39, R99, R104): taken in the nanosecond in which the carrier of the bridge and the words in force
place it, unless the fault sequencer holds the axis. -/
def edgeAtGatePin (c : Nat) (on : Bool) (s : State) : State :=
  match s.axisOfBridge (c / 6) with
  | none => s
  | some k =>
    let a := s.ax k
    let n := s.laneOf k
    if 24 ≤ c ∨ ¬ (s.lane n).running ∨ a.asc ∨ a.forcedOff ∨ ¬ s.edgePlaced n c on then s
    else if on then (if (s.chan (if c % 2 = 0 then c + 1 else c - 1)).cmd then s else s.turnOn c)
    else s.turnOff c

/-! ### Cell links and supplies (R364, R372 to R378) -/

/-- CELL_LINK: the cell turns off by soft-off what is on (R364). -/
def cellLinkLoss (g : Nat) (s : State) : State :=
  if 13 ≤ g ∨ ¬ (s.cell g).linkUp then s
  else
    let s := (s.setCell g { s.cell g with linkUp := false }).setBit P.cellAbsent g true
    let s := (s.softOff (hiCh g)).softOff (loCh g)
    let path := "G" ++ dec g ++ "/LINK"
    let s := (s.clearing 0x0106 g false).cellFault 0x0106 g g path
    if g = 12 then each [0, 1] s fun k s => if s.lp k P.chopEn = 1 ∧ ¬ (s.link k).chopFault then s.chopFault k path else s else s

/-- A cell is asked for both of its channels (R372): a channel that is on stays, a waiting turn-on is dropped; three
reports of one bridge within 1 ms are the fault. -/
def crossCmd (g : Nat) (s : State) : State :=
  if 12 ≤ g then s
  else
    let drop (c : Nat) (s : State) : State := let x := s.chan c; if x.wait.isSome then s.setChan c x.drop else s
    let s := drop (loCh g) (drop (hiCh g) s)
    let x := s.cell g
    let s := (s.setCell g { x with cross := s.now :: recent s.now 1000000 x.cross }).incPar P.crossCount (g / 3)
    let n := (cellsOfBridge (g / 3)).foldl (fun n h => n + (recent s.now 1000000 (s.cell h).cross).length) 0
    if 3 ≤ n then s.cellFault 0x0103 g (g / 3) ("G" ++ dec g ++ "/HIGH") else s

/-- The pins of both channels of a half-bridge cell are high: a command to turn both on (R372). -/
def State.dgBoth (s : State) (c : Nat) : Bool := decide (c < 24) && (s.chan (hiCh (c / 2))).dg && (s.chan (loCh (c / 2))).dg

/-- A channel follows its DG pin in direct mode (R387, R388); with both pins high the cell stays as it is (R372). -/
def State.dgFollow (s : State) (c : Nat) : State :=
  if ¬ (s.chan c).dg then s.turnOff c else if s.dgBoth c then s else s.turnOn c

/-- An edge on pin DGp (R388, R389). -/
def dgEdge (p : Nat) (high : Bool) (s : State) : State :=
  if 26 ≤ p then s
  else
    let s := s.setChan p { s.chan p with dg := high }
    if s.directCh p then
      if high ∧ s.dgBoth p then crossCmd (p / 2) s
      else
        let s := s.dgFollow p
        if p < 24 ∧ ¬ high then s.dgFollow (if p % 2 = 0 then p + 1 else p - 1) else s
    else if p < 24 then s.incPar P.dgConflict (p / 6)
    else s.incPar P.dgConflictChop

/-- Channel field of CELL_STATUS (Table 9.11). -/
def State.chanBits (s : State) (c : Nat) : Nat :=
  let x := s.chan c
  ofBits [x.platMiss, x.uv, x.warn, x.softSeen, x.desat, x.clamp, x.cmd, x.on]

/-- CELL_STATUS of a cell (Table 9.11). -/
def State.cellStatusNow (s : State) (g : Nat) : Nat :=
  s.chanBits (loCh g) + 256 * s.chanBits (hiCh g) +
    65536 * s.cellBits g

/-- A plateau of a channel as the status frame reports it, and its share in the junction model (R368, R436). -/
def State.takePlateaus (s : State) (c : Nat) : State :=
  let x := s.chan c
  let g := c / 2
  let put (s : State) (p : Par) (v : Option Nat) : State := match v with
    | some n => s.setPar p n g
    | none => s
  let s := put (put s (if c % 2 = 0 then P.platOnH else P.platOnL) x.platOn) (if c % 2 = 0 then P.platOffH else P.platOffL) x.platOff
  let s := match x.platOff with
    | some n =>
      let b := c / 6
      let i := (s.bridge b).i.getD (c % 6 / 2) 0
      let through := if c % 2 = 0 then decide (0 < i) else decide (i < 0)
      if c < 24 ∧ ¬ x.platMiss ∧ through ∧ one30 ≤ 5 * iabs i ∧ iabs i ≤ one30 ∧ s.par P.thLevel = 0 then
        let jn := s.junction c
        s.setJunction c { jn with plats := jn.plats + n, platN := jn.platN + 1, platI := jn.platI + (s.phaseAmps b (c % 6 / 2)).toNat }
      else s
    | none => s
  s.setChan c { s.chan c with platOn := none, platOff := none }

/-- CELL_STATUS_FRAME (R364, R374, R407): BOOT_V in 0.01 V; the frame trains a lost link again and shows direct mode. A cell that comes
into direct mode with both its pins high has a command for both of its channels (R372). -/
def cellStatusFrame (g bootV vglp : Nat) (vgln : Int) (s : State) : State :=
  if 13 ≤ g ∨ s.dev.st = .off ∨ s.dev.st = .boot then s
  else
    let x := s.cell g
    let s := if x.linkUp then s else (s.setCell g { x with linkUp := true, linkAt := s.now }).setBit P.cellAbsent g false
    let s := s.clearing 0x0106 g true
    let s := s.setCell g { s.cell g with held := [], cap := s.parN P.thLevel }
    let s := s.setPar P.bootV (min 2500 bootV : Nat) g
    let s := if g < 12 ∧ g % 3 = 0 then (s.setPar P.vglpV (min 2500 vglp : Nat) (g / 3)).setPar P.vglnV (clamp vgln (-1500) 0) (g / 3) else s
    let h := s.chan (hiCh g)
    let s := if g < 12 then
        s.setChan (hiCh g) { h with warn := decide (s.par P.bootV g < s.par P.bootWarn (g / 3)),
                                    pump := decide (s.par P.bootV g < s.par P.bootWarn (g / 3) + 100), uv := h.uv && decide (s.par P.bootV g < s.par P.bootUv (g / 3)) }
      else s
    let s := (s.takePlateaus (hiCh g)).takePlateaus (loCh g)
    let direct := decide (g < 12) && s.directCh (hiCh g)
    let s := if direct ∧ ¬ (s.cell g).dgMode ∧ s.dgBoth (hiCh g) ∧ ¬ (s.chan (hiCh g)).on ∧ ¬ (s.chan (loCh g)).on then crossCmd g s else s
    let s := s.setCell g { s.cell g with dgMode := direct }
    let s := each [hiCh g, loCh g] s fun c s =>
      if s.directCh c then s.dgFollow c
      else if s.pulsing c then s
      else if c < 24 then
        match s.axisOfBridge (c / 6) with
        | some k => if s.switching k ∨ (s.ax k).asc then s else s.turnOff c
        | none => s.turnOff c
      else if (s.link (c - 24)).chopOn then s
      else s.turnOff c
    let s := each [hiCh g, loCh g] s fun c s => s.putChan c (s.chan c)
    s.setPar P.cellStatus (s.cellStatusNow g : Nat) g

/-- BOOTSTRAP of a high channel (R376): turn-on refused as long as the undervoltage lasts, and soft-off, in every state; the fault only while its lane
switches the bridge; during an active short it is recorded only (Table 9.10). -/
def bootstrapUv (g v : Nat) (s : State) : State :=
  let b := g / 3
  if 12 ≤ g ∨ s.gp g P.bootUv ≤ v then s
  else
    let x := s.chan (hiCh g)
    let s := (s.setPar P.bootV (v : Nat) g).setChan (hiCh g) { x with uv := true }
    let s := if x.on then s.softOff (hiCh g) false else s
    match s.axisOfBridge b with
    | some k =>
      if (s.ax k).asc then s.report 0x0102 k 3 (chanPath (hiCh g))
      else if s.bridgeSwitches b then s.raiseOn 0x0102 k b (chanPath (hiCh g))
      else s
    | none => s

/-- GATE_SUPPLY of a low channel or of a chopper channel (R378), or its supplies in range again. -/
def gateSupply (c : Nat) (bad : Bool) (s : State) : State :=
  if 26 ≤ c ∨ (c < 24 ∧ c % 2 = 0) then s
  else
    let x := s.chan c
    if ¬ bad then (s.setChan c { x with uv := false }).clearing 0x0105 c true
    else if x.uv then s
    else
      let s := (s.setChan c { x with uv := true }).softOff c
      let s := (s.clearing 0x0105 c false).cellFault 0x0105 (c / 2) c (chanPath c)
      if 24 ≤ c ∧ s.lp (c - 24) P.chopEn = 1 ∧ ¬ (s.link (c - 24)).chopFault then s.chopFault (c - 24) (chanPath c) else s

/-- CHOP_OC (R386): the chopper of a link turns off by soft-off. -/
def chopOc (k : Nat) (s : State) : State :=
  if 2 ≤ k ∨ ¬ (s.chan (chopCh k)).on then s
  else
    let s := s.softOff (chopCh k)
    (s.setChan (chopCh k) { s.chan (chopCh k) with ocTrip := true }).chopFault k (chanPath (chopCh k))

/-! ### Cellar (R391 to R396) -/

/-- OC_BACKSTOP (R396). -/
def ocBackstop (b : Nat) (s : State) : State :=
  let br := s.bridge b
  let stuck := (chansOfBridge b).any fun c =>
    let x := s.chan c
    x.on && (decide (x.soft = .none) || decide (x.softAt + 10000 ≤ s.now))
  if b < 4 ∧ br.oc ∧ br.ocAt + 2000 ≤ s.now ∧ stuck ∧ ¬ s.cellar.backstop.contains b then
    let s := { s with cellar := { s.cellar with backstop := b :: s.cellar.backstop } }
    (s.holdOff 5 (cellsOfBridge b)).raiseAll 0x0902 (s.axisOfBridge b).toList b "CTL/CELLAR"
  else s

/-- A hold-off or its release by the house cores through the mailbox (Table 9.7, bit 6). -/
def holdoffRequest (mask : Nat) (on : Bool) (s : State) : State :=
  if s.noPair then s
  else if on then s.holdOff 6 (bitsOf 13 mask)
  else
    let m := maskOf ((bitsOf 13 (tget s.cellar.causes 0 6)).filter fun g => mask / 2 ^ g % 2 = 0)
    { s with cellar := { s.cellar with causes := tset s.cellar.causes 6 m } }

/-- No cause applies to a cell any more (R395): its status shows the release. -/
def holdoffRelease (g : Nat) (s : State) : State :=
  if g < 13 ∧ ¬ s.heldOff g then s.setBit P.cellStatus 19 false g else s

/-- The end of an active short (R382). -/
def ascEnd (k : Nat) (s : State) : State :=
  match (s.ax k).ascSince with
  | some t0 =>
    if k < 4 ∧ (s.ax k).asc ∧ t0 + 100000000 ≤ s.now then
      (s.axisOff k).modAx k fun a => { a with asc := false, ascSince := none }
    else s
  | none => s

/-- An STO input crosses its threshold (R391, R394). -/
def stoInputChange (which : Nat) (high : Bool) (s : State) : State :=
  let c := s.cellar
  let filt := s.parN P.stoFilt * 1000
  let both := !c.stoA && !c.stoB && decide (max c.stoAAt c.stoBAt + filt ≤ s.now)
  let c := { c with discLow := c.discLow || both }
  let c := if which = 0 then (if c.stoA = high then c else { c with stoA := high, stoAAt := s.now })
    else (if c.stoB = high then c else { c with stoB := high, stoBAt := s.now })
  { s with cellar := { c with diffSince := if c.stoA = c.stoB then none else some (c.diffSince.getD s.now) } }

/-- What an STO demand does to the axes and the choppers (R392, R393). -/
def State.stoAxes (s : State) : State :=
  let s := s.emergency 0xF001 0xFF 5
  if s.par P.ss1En = 1 then
    let s := each (upto 4) s fun k s =>
      let s := (s.arb k 1).1
      match (s.ax k).st with
      | .running | .limp | .stopping | .emergency =>
        (s.endPrecheckCells k).beginStop k .ss1 .sto
      | _ => (s.holdCells 1 (s.cellsOf k)).enterSto k
    s.ss1Chopper
  else
    let s := each (upto 4) s fun k s => (s.arb k 1).1
    each (upto 4) (s.holdOff 1 (upto 13)) fun k s => s.enterSto k

/-- An STO demand: in a full halt no axis switches, the Cellar holds off at once and the axes follow at its end (R708). -/
def State.stoAct (s : State) : State :=
  let ss1 : Option Nat := if s.par P.ss1En = 1 then some (s.cellar.ss1.getD s.now) else s.cellar.ss1
  let s := { s with cellar := { s.cellar with demand := true, demandAt := s.now, ss1 := ss1 } }
  let s := s.incPar P.stoCount
  if s.porch.halt = .full then
    let s := if s.par P.ss1En = 1 then (each (upto 4) s fun k s => s.holdCells 1 (s.cellsOf k)).ss1Chopper else s.holdOff 1 (upto 13)
    s.owe .sto
  else s.stoAxes

/-- STO_DEMAND (R392): an input has read low for STO_FILT. -/
def stoDemand (s : State) : State :=
  let c := s.cellar
  let filt := s.parN P.stoFilt * 1000
  if s.dev.st ≠ .off ∧ ¬ c.demand ∧ ((¬ c.stoA ∧ c.stoAAt + filt ≤ s.now) ∨ (¬ c.stoB ∧ c.stoBAt + filt ≤ s.now)) then s.stoAct else s

/-- The axes in STO go to DISABLED (Table 2.4). -/
def State.stoLeave (s : State) : State := each (upto 4) s fun k s => if (s.ax k).st = .sto then s.moveAxis k .disabled else s

/-- STO_RELEASE (R394, R395, Table 2.4): both inputs high for STO_FILT, with no discrepancy or one whose clear sequence
is complete. An SS1 ramp that runs goes on to its own end, which the Cellar goes on timing (R393); the hold-off of that end is released
in the same way. -/
def stoRelease (s : State) : State :=
  let c := s.cellar
  let filt := s.parN P.stoFilt * 1000
  if (c.demand ∨ tget c.causes 0 1 ≠ 0) ∧ c.stoA ∧ c.stoB ∧ max c.stoAAt c.stoBAt + filt ≤ s.now ∧ (¬ c.disc ∨ c.discLow) then
    let s := if c.disc then (s.dropCause 2).unstandCode 0x0901 0 else s
    let ss1 := if s.ss1Runs then c.ss1 else none
    let s := { s.dropCause 1 with cellar := { (s.dropCause 1).cellar with demand := false, disc := false, discLow := false, ss1 := ss1 } }
    s.orOwe .release State.stoLeave
  else s

/-- The axes and the record of an STO discrepancy (R394). -/
def State.discAxes (s : State) : State :=
  each (upto 4) (s.raiseModule 0x0901 0 "CTL/CELLAR") fun k s =>
    ((s.setPar P.axisFault 0x0901 k).setPar P.safeStateLast 5 k).enterSto k

/-- STO_DISCREPANCY (R394). -/
def stoDiscrepancy (s : State) : State :=
  match s.cellar.diffSince with
  | some t0 =>
    if ¬ s.cellar.disc ∧ t0 + s.parN P.stoDiscTime * 1000000 ≤ s.now then
      let s := { s with cellar := { s.cellar with disc := true, discLow := false } }
      let s := s.holdOff 2 (upto 13)
      s.orOwe .disc State.discAxes
    else s
  | none => s

/-- Every axis in STO after the timeout of a stop (R393). -/
def State.timeoutAxes (s : State) : State := each (upto 4) s fun k s => s.enterSto k

/-- SS1_TIMEOUT (R393): SS1_TIME after the demand the Cellar holds off all 13 cells. -/
def ss1Timeout (s : State) : State :=
  match s.cellar.ss1 with
  | some t0 =>
    if t0 + s.parN P.ss1Time * 1000000 ≤ s.now then
      let s := s.holdOff 1 (upto 13)
      let s := { s with cellar := { s.cellar with ss1 := none } }
      s.orOwe .timeout State.timeoutAxes
    else s
  | none => s

/-- What the house cores owe after a full halt (R708). -/
def State.payLate (s : State) (l : Late) : State :=
  match l with
  | .sto => each (upto 4) (s.emergency 0xF001 0xFF 5) fun k s => s.enterSto k
  | .release => s.stoLeave
  | .timeout => s.timeoutAxes
  | .disc =>
    let s := s.discAxes
    if s.cellar.disc then s else s.unstandCode 0x0901 0
  | .thermal b =>
    let s := s.thermalAxes b
    if tget s.cellar.causes 0 3 = 0 then
      (s.standing.filter fun f => decide (f.code = 0x0801) && decide (f.axis = 255)).foldl (fun s f => s.unstand f) s
    else s

/-! ### Clearing (Table 9.9) -/

/-- Dwell of a clear condition that needs one, in ns. -/
def clearDwell (code : Nat) : Option Nat :=
  match code with
  | 0x0105 | 0x0106 | 0x0302 => some 10000000
  | 0x0702 => some 1000000000
  | _ => none

/-- No foreign tray for 1 s: the port is up again where a pair is (R329). -/
def State.foreignEnd (s : State) (port : Nat) : State :=
  (s.setRport port { s.rport port with foreign := none }).portUp port

/-- FAULT_CLEARED: a standing fault meets a clear condition with a dwell, or one without on an axis that it could not move. -/
def faultCleared (code inst : Nat) (s : State) : State :=
  match clearDwell code, s.standing.find? (fun f => decide (f.code = code) && decide (f.inst = inst)) with
  | some d, some f =>
    match f.okSince with
    | some t0 =>
      if t0 + d ≤ s.now then
        let fs := s.standing.filter fun g => decide (g.code = code) && decide (g.inst = inst)
        let s := fs.foldl (fun s g => s.freed g) (s.unstandCode code inst)
        if code = 0x0702 then s.foreignEnd inst else s
      else s
    | none => s
  | none, some _ => s.idleClear code inst
  | _, _ => s

end Sys2Proof.Machine
end

