-- ==== Sys2Proof/Machine/Precheck.lean ====
section
/-!
DEFINITION. Off-state diagnostics (Tables 3.2 and 9.8, R230, R235, R313, R397 to R400), the start of switching, and the
return from FAULT_RETRY (R61 to R64, R402).
-/
namespace Sys2Proof.Machine

/-! ### Configuration checks -/

/-- HEARTH_CONFIG: a condition of Table 3.2 fails. -/
def State.hearthBad (s : State) (k : Nat) : Bool :=
  let bs := s.bridgesOf k
  let n := bs.length
  let g := s.par P.grouping k
  let others := (upto 4).filter (· ≠ k)
  let count : Bool := match g with
    | 0 => decide (n = 1)
    | 1 | 2 => decide (2 ≤ n) && decide (n ≤ 4)
    | 3 => decide (n = 2)
    | _ => decide (n = 4)
  let shared := decide (g = 1) || decide (g = 2)
  (others.any fun j => bs.any fun b => bit (s.par P.bridgeMask j) b) ||
  (others.any fun j => decide (s.par P.lane j = s.par P.lane k)) ||
  !count ||
  (bs.zipIdx.any fun e => decide (s.effOffset k e.2 n e.1 ≠ 0) && decide (s.par P.csMode e.1 = 0)) ||
  (decide (s.par P.ctrlMode k = 1) && shared) ||
  (shared && bs.any fun b => decide (s.par P.brLink b ≠ s.par P.brLink (s.leadBridge k))) ||
  (decide (g = 3) && decide (s.par P.sysShift1 k = 0)) ||
  (decide (g = 4) && (decide (s.par P.sysShift1 k = 0) || decide (s.par P.sysShift2 k = 0) || decide (s.par P.sysShift3 k = 0))) ||
  decide (s.par P.carrierCap < s.par P.carrierFreq k) ||
  decide (s.par P.ld k = 0) || decide (s.par P.lq k = 0) ||
  (decide (s.par P.machine k = 1) && (decide (s.par P.lm k = 0) || decide (s.par P.lr k = 0) || decide (s.par P.tauR k = 0))) ||
  bs.any fun b => decide (s.par P.bootWarn b ≤ s.par P.bootUv b)

/-- POS_CONFIG: a condition of R230 fails. -/
def State.posBad (s : State) (k : Nat) : Bool :=
  let src := s.par P.posSources k
  let sel := s.parN P.sensorSel k
  let absolute := bit src 0 && (decide (32 ≤ sel) || (decide (16 ≤ sel) && decide (s.par P.encIndexEn (sel - 16) = 1)))
  decide (src = 0) ||
  (bit src 0 && (decide (s.par P.polePairs k % s.par P.sensorPp k ≠ 0) || decide (sel = 0))) ||
  (bit src 1 && (decide (s.par P.machine k = 1) || decide (s.par P.waggleKs k = 0))) ||
  !(decide (s.par P.fluxLo k < s.par P.fluxHi k) && decide (s.par P.fluxHi k < s.par P.waggleOff k)) ||
  (decide (s.par P.machine k = 0) && !(bit src 1) && !absolute) ||
  (decide (s.par P.posSafe k = 1) && decide (s.par P.machine k = 1))

/-- FB_CONFIG: a condition of R235 fails. -/
def State.fbBad (s : State) (k : Nat) : Bool :=
  let sel := s.parN P.sensorSel k
  let i := sel % 16
  bit (s.par P.posSources k) 0 &&
    (((upto 4).any fun j => decide (j ≠ k) && decide (sel ≠ 0) && decide ((s.parN P.sensorSel j) % 16 = i) &&
        (decide (s.parN P.sensorSel j = sel) || (decide (sel / 16 < 3) && decide (0 < s.parN P.sensorSel j / 16) && decide (s.parN P.sensorSel j / 16 < 3) && decide (0 < sel / 16)))) ||
     (match sel / 16 with
      | 1 => decide (s.par P.encMode i ≠ 1)
      | 2 => decide (s.par P.encMode i ≠ 2)
      | 3 => decide (s.par P.resEn i = 0)
      | 4 => decide (s.par P.ssiEn i = 0) || decide (40 < s.par P.ssiMtBits i + s.par P.ssiStBits i)
      | _ => false))

/-- DRIVE_CONFIG: a condition of R313 fails, on the link of the lead bridge. -/
def State.driveBad (s : State) (k : Nat) : Bool :=
  let l := s.linkOf k
  let a := s.par P.ovLimStart l; let b := s.par P.ovLimEnd l; let c := s.par P.linkOvTrip l
  let ladder := decide (a < b) && decide (b < c)
  !(ladder && (decide (s.par P.chopEn l ≠ 1) || (decide (s.par P.chopOff l < s.par P.chopOn l) && decide (s.par P.chopOn l < a)))) ||
  !(decide (s.par P.linkUvTrip l < s.par P.uvLimEnd l) && decide (s.par P.uvLimEnd l < s.par P.uvLimStart l)) ||
  decide (s.par P.speedLoopFreq k < 10 * s.par P.obsBw k) ||
  decide (s.par P.ipkMot k ≤ s.par P.icMot k) || decide (s.par P.ipkSw k ≤ s.par P.icSw k) ||
  decide (s.par P.imax k < s.par P.ratedCurrent k) ||
  (decide (s.par P.snatchEn k = 1) && decide (s.par P.ventEn k = 1))

/-- RING_CONFIG of the hive axis (Table 8.13). -/
def State.ringBad (s : State) (k : Nat) : Bool :=
  decide (s.parN P.hiveAxis = k) &&
    ((decide (s.par P.hiveEn = 1) && decide (s.par P.hiveId = 0)) ||
     ((decide (s.par P.shareMode = 1) || decide (s.par P.shareMode = 3)) &&
      (decide (s.par P.hiveScale = 0) || decide (s.par P.hiveIscale = 0) || decide (s.par P.hiveSpdScale = 0))))

/-- The first configuration fault of an axis with its location path (R397, R657). -/
def State.configFault (s : State) (k : Nat) : Option (Nat × String) :=
  if s.hearthBad k then some (0x0205, "CTL/HEARTH")
  else if s.posBad k then some (0x0403, "CTL/HEARTH")
  else if s.fbBad k then some (0x0501, "CTL/FEEDBACK")
  else if s.driveBad k then some (0x0601, "CTL/HOUSE")
  else if s.ringBad k then some (0x0701, "CTL/RING")
  else none

/-! ### Off-state diagnostics (Table 9.8) -/

/-- A step fails: its bit of PRECHECK_RESULT, and its faults, which latch (R397); `hard` as the row of SD_STREAM asks. -/
def State.preFails (s : State) (k bitNo : Nat) (fs : List (Nat × Nat × String)) (hard : Bool := true) : State :=
  match (s.ax k).precheck with
  | none => s
  | some p =>
    fs.foldl (fun s f => s.raiseOn f.1 k f.2.1 f.2.2 hard true) (s.setPar P.precheckResult (withBit p.bits bitNo true) p.bridge)

/-- A step fails with one fault. -/
def State.preFail (s : State) (k bitNo code inst : Nat) (path : String) : State := s.preFails k bitNo [(code, inst, path)]

/-- The diagnostics of one bridge begin: hold-off request, cell identity and supplies (Table 9.8). -/
def State.startBridge (s : State) (k : Nat) (p : Precheck) : State :=
  let cs := cellsOfBridge p.bridge
  let s := s.modAx k fun a => { a with precheck := some { p with startedAt := s.now } }
  let s := s.holdOff 6 (bitsOf 13 (tget s.cellar.causes 0 6) ++ cs)
  match cs.find? (fun g => !(s.cell g).linkUp), cs.find? (fun g => (s.chan (loCh g)).uv) with
  | some g, _ => s.preFail k 1 0x0106 g ("G" ++ dec g ++ "/LINK")
  | none, some g => s.preFail k 1 0x0105 (loCh g) (chanPath (loCh g))
  | none, none => s

/-- Links whose chopper steps a precheck that still runs has run. -/
def State.linksRun (s : State) : List Nat :=
  (upto 4).flatMap fun j => ((s.ax j).precheck.map Precheck.linksDone).getD []

/-- The off-state diagnostics of an axis, by command or without one (R307, R397). -/
def State.beginDiag (s : State) (k : Nat) (emg : Bool) : State :=
  let s := s.modAx k fun a => { a with emgDiag := false }
  match s.bridgesOf k with
  | [] => s.raiseOn 0x0205 k k "CTL/HEARTH" true true
  | b :: rest =>
    match s.configFault k with
    | some (code, path) =>
      let s := s.modAx k fun a => { a with precheck := some { bridge := b, rest := rest, startedAt := s.now, emergency := emg } }
      s.raiseOn code k k path true true
    | none => s.startBridge k { bridge := b, rest := rest, linksSkip := s.linksRun, emergency := emg }

/-- The next step of a diagnostic, with its test current. -/
def State.preStep (s : State) (k : Nat) (f : Precheck → Precheck) : State :=
  match (s.ax k).precheck with
  | none => s
  | some p =>
    ((s.testCurrent p false).testCurrent (f p) true).modAx k fun a => { a with precheck := some (f p) }

/-- Channel under test: the six channels in the order of R397. -/
def Precheck.channel (p : Precheck) : Nat := 6 * p.bridge + p.item

/-- A step of Table 9.8 has had its time: the anchor plus so many ms. -/
def Precheck.due (p : Precheck) (now ms : Nat) : Bool := decide (p.startedAt + ms * 1000000 ≤ now)

/-- PRECHECK_PUMP_DEADLINE: at 100 ms every BOOT_V has reached BOOT_WARN. -/
def precheckPumpDeadline (k : Nat) (s : State) : State :=
  match (s.ax k).precheck with
  | none => s
  | some p =>
    if p.step ≠ .pump ∨ ¬ p.due s.now 100 then s
    else
      match (cellsOfBridge p.bridge).find? (fun g => decide (s.par P.bootV g < s.gp g P.bootWarn)) with
      | some g => s.preFail k 2 0x0102 p.bridge (chanPath (hiCh g))
      | none => s.preStep k fun p => { p with step := .gateLoop, item := 0 }

/-- Result of a gate loop test (R398): reached OFF_THRESH − 0.5 V, after how many ns, and the rise in mV in 20 µs. -/
def gateLoopCode (reached : Bool) (ns mv : Nat) : Option Nat :=
  if reached && decide (ns ≤ 5000) then some 0x0107 else if mv < 10 then some 0x0108 else none

/-- GATE_LOOP_TEST (R398). -/
def gateLoopTest (k : Nat) (reached : Bool) (ns mv : Nat) (s : State) : State :=
  match (s.ax k).precheck with
  | none => s
  | some p =>
    if p.step ≠ .gateLoop ∨ ¬ p.due s.now (101 + p.item) then s
    else
      match gateLoopCode reached ns mv with
      | some code => s.preFail k 3 code p.channel (chanPath p.channel)
      | none => s.preStep k fun p => if p.item = 5 then { p with step := .desat, item := 0 } else { p with item := p.item + 1 }

/-- LINK_V of a bridge's link is below the 50 V of R399 and R400. -/
def State.linkLow (s : State) (b : Nat) : Bool := decide (s.par P.linkV (s.parN P.brLink b) < 5000)

/-- DESAT_TEST (R399): the comparator trips on the internal level; a high channel's sense pin rises in 50 µs. -/
def desatTest (k : Nat) (trips rises : Bool) (s : State) : State :=
  match (s.ax k).precheck with
  | none => s
  | some p =>
    if p.step ≠ .desat ∨ ¬ p.due s.now (107 + p.item) then s
    else
      let high := decide (p.item % 2 = 0)
      let skip := high && s.linkLow p.bridge
      if ¬ trips ∨ (high ∧ ¬ skip ∧ ¬ rises) then s.preFail k 4 0x0109 p.channel (chanPath p.channel)
      else s.preStep k fun p =>
        let p := if skip then { p with bits := (withBit p.bits 0 true).toNat } else p
        if p.item = 5 then { p with step := .phase, item := 0 } else { p with item := p.item + 1 }

/-- PHASE_TEST (R400) of one phase: node voltages in 0.01 V with all switches off, and after the low channel of the phase
has fed its test current for 5 ms; skipped below 50 V. vdc is the bridge's own sample (R180); every node that fails raises its fault. -/
def phaseTest (k : Nat) (off node : List Nat) (s : State) : State :=
  match (s.ax k).precheck with
  | none => s
  | some p =>
    if p.step ≠ .phase then s
    else if s.linkLow p.bridge then
      s.preStep k fun p => { p with step := .sensing, item := 0, bits := (withBit p.bits 0 true).toNat }
    else if ¬ p.due s.now (117 + 5 * p.item) then s
    else
      let vdc := s.linkVolts p.bridge ((s.bridge p.bridge).rawV.getD 0 0)
      let lo := loCh (3 * p.bridge + p.item)
      let own := node.getD p.item 0
      let high := ((upto 3).filter fun x => decide (p.item = 0) && decide (95 * vdc ≤ 100 * (off.getD x 0 : Int))).map fun x => hiCh (3 * p.bridge + x)
      let apart := (upto 3).any fun x => decide (own + 100 < node.getD x 0) || decide (node.getD x 0 + 100 < own)
      let bad := if high.isEmpty then (if own < 500 then [(0x010B, lo)] else []) ++ (if apart then [(0x010A, lo)] else []) else high.map fun c => (0x010B, c)
      if bad.isEmpty then
        s.preStep k fun p => if p.item = 2 then { p with step := .sensing, item := 0 } else { p with item := p.item + 1 }
      else s.preFails k 5 (bad.map fun f => (f.1, f.2, chanPath f.2))

/-- SENSING_TEST (Table 9.8): 16 zero-current codes by phase, and the deviations of two reference checks (three current
converters, then the voltage converter). -/
def sensingTest (k : Nat) (zero : List (List Int)) (ref0 ref1 : List Int) (s : State) : State :=
  match (s.ax k).precheck with
  | none => s
  | some p =>
    if p.step ≠ .sensing ∨ ¬ p.due s.now 131 then s
    else
      let b := p.bridge
      let ofsBad := (upto 3).any fun x => (zero.getD x []).any fun c => decide (s.par P.ofsTrip < iabs (c - s.par P.ofs b x))
      let sdBad := if s.par P.csMode b = 1 then ((upto 3).filter fun x => bit (s.par P.sdFaults) (3 * b + x)).length else 0
      let refBad := (upto 4).any fun i => decide (33 < iabs (ref0.getD i 0)) && decide (33 < iabs (ref1.getD i 0))
      let path := "CTL/SENSE/" ++ dec b
      if ofsBad then s.preFail k 6 0x0304 b path
      else if 0 < sdBad then s.preFails k 6 [(0x0302, b, path)] (decide (2 ≤ sdBad))
      else if refBad then s.preFail k 6 0x0305 b path
      else
        let l := s.parN P.brLink b
        if s.par P.chopEn l = 1 ∧ l ∉ p.linksDone ∧ l ∉ p.linksSkip then
          let s := each (upto 4) s fun j s => if j = k then s else s.modAx j fun a => { a with precheck := a.precheck.map fun q => { q with linksSkip := l :: q.linksSkip } }
          s.preStep k fun p => { p with step := .chopper, linksDone := l :: p.linksDone }
        else s.preStep k fun p => { p with step := .finish }

/-- CHOPPER_TEST (Table 9.8): gate loop and internal desaturation test of the link's chopper channel. -/
def chopperTest (k : Nat) (reached : Bool) (ns mv : Nat) (trips : Bool) (s : State) : State :=
  match (s.ax k).precheck with
  | none => s
  | some p =>
    if p.step ≠ .chopper ∨ ¬ p.due s.now 139 then s
    else
      let c := chopCh (s.parN P.brLink p.bridge)
      match gateLoopCode reached ns mv with
      | some code => s.preFail k 7 code c (chanPath c)
      | none => if ¬ trips then s.preFail k 7 0x0109 c (chanPath c)
        else s.preStep k fun p => { p with step := .finish }

/-- PRECHECK_BRIDGE_DONE: result written, hold-off withdrawn, next bridge, READY, or an EMERGENCY axis that waits for its
pin (Table 7.4). -/
def precheckBridgeDone (k : Nat) (s : State) : State :=
  match (s.ax k).precheck with
  | none => s
  | some p =>
    if p.step ≠ .finish then s
    else
      let s := s.setPar P.precheckResult p.bits p.bridge
      let s := s.endPrecheckCells k
      match p.rest with
      | b :: rest => s.startBridge k { bridge := b, rest := rest, linksDone := p.linksDone, linksSkip := p.linksSkip, emergency := p.emergency }
      | [] => if p.emergency then s else (s.endOp 0x24 k stDone).moveAxis k .ready

/-! ### Starting to switch, and the return from FAULT_RETRY -/

/-- A lane starts switching for its axis by a row of Table 5.3. -/
def State.startSwitching (s : State) (k row : Nat) : State :=
  ((s.modAx k fun a => { a with started := true, speed := { a.speed with fresh := true } }).startLane k).startBy k row

/-- An EMERGENCY axis starts switching where a row of Table 5.3 applies, else it waits (R307, Table 5.3). -/
def State.emgStart (s : State) (k : Nat) : State :=
  let a := s.ax k
  if a.st = .emergency ∧ ¬ a.started ∧ ¬ a.emgDiag ∧ a.precheck.isNone then
    match s.startMethod k with
    | some row => s.startSwitching k row
    | none => s
  else s

/-- The rotor turns as far as the fused speed shows. -/
def State.turning (s : State) (k : Nat) : Bool :=
  !(bit (s.par P.posStatus k) 1) && decide (s.sp k P.zeroSpeed ≤ iabs (s.par P.posSpeed k))

/-- A retry starts switching again: by the catch with the rotor turning, else by Table 5.3 (R63, R222). -/
def State.restart (s : State) (k : Nat) : State :=
  let s := (s.setPar P.catchUsed 0 k).setBit P.posStatus 12 false k
  let s := (s.modAx k fun a => { a with started := true }).startLane k
  if s.turning k then s.catchStart k
  else match s.startMethod k with
    | some row => s.startBy k row
    | none => s.catchStart k

/-- The return of a retry whose causes have cleared (R63, R64). A return to RUNNING, LIMP or STOPPING is made in TEST too, which Table 2.1
keeps free of those states (the manual does not say which rule yields: DESIGN CHOICE, log entry 213). -/
def State.retryReturn (s : State) (k : Nat) : State :=
  let a := s.ax k
  let s := (s.clearAxis k).settle k
  match a.retryFrom with
  | .running | .limp => (s.moveAxis k a.retryFrom).restart k
  | .stopping =>
    let s := s.modAx k fun b => { b with stop := a.resumeKind, stopEnd := a.resumeEnd,
                                         speed := { b.speed with tauPrev := 0, wRef := s.par P.posSpeed k, zeroSince := none } }
    (s.moveAxis k .stopping).restart k
  | .precheck => (s.moveAxis k .precheck).beginDiag k false
  | .emergency =>
    if s.owner.session ≠ 0 then s.moveAxis k .ready
    else
      let s := (s.modAx k fun b => { b with started := false }).moveAxis k .emergency
      if a.emgSwitching then s.emgStart k else s
  | _ => s.moveAxis k .ready

/-- FAULT_WAIT_EXPIRED (R61, R402, R405): the wait ends, the axis returns if its causes have cleared, or uses a try. A wait
that ends while THERMAL_SD stands goes on until the Cellar's release. -/
def faultWaitExpired (k : Nat) (s : State) : State :=
  let a := s.ax k
  if 4 ≤ k ∨ a.st ≠ .faultRetry ∨ ¬ s.firmware then s
  else if tget s.cellar.causes 0 3 ≠ 0 then
    if a.retrySd ∨ s.now < a.retryAt + s.spN k P.faultWait * 1000000 then s else s.modAx k fun a => { a with retrySd := true }
  else if ¬ a.retrySd ∧ s.now < a.retryAt + s.spN k P.faultWait * 1000000 then s
  else if s.causesClear k then s.retryReturn k
  else if (s.blocking k).all fun f => s.clearNow f || decide (f.code = 0x0801) || decide (f.code = 0x0802) then
    s.modAx k fun a => { a with retryAt := s.now, retrySd := false }
  else
    let used := s.triesUsed k
    if s.sp k P.faultTries ≤ used.length then (s.faultState k .faultLatched).markLatched true
    else s.modAx k fun a => { a with retryAt := s.now, retrySd := false, tries := s.now :: used }

end Sys2Proof.Machine
end

