-- ==== Sys2Proof/Machine/Speed.lean ====
section
/-!
DEFINITION. The speed loop, its torque limits and shock-load guards, the chopper's energy model and the emergency
command pins (chapter 7), with the hive roles of the loop (R343, R344, R346).
-/
namespace Sys2Proof.Machine

/-! ### Hive role of an axis's loop -/

/-- The axis shares load in mode 1 or 3: `some true` as torque master, `some false` as follower (R343, R344). -/
def State.hiveRole (s : State) (k : Nat) : Option Bool :=
  let st := s.par P.hiveState
  if s.ring.on ∧ s.hiveAx = k ∧ (st = 2 ∨ st = 3 ∨ st = 5) ∧ (s.rp P.shareMode = 1 ∨ s.rp P.shareMode = 3) then
    some (decide (s.par P.torqueMaster = s.par P.hiveMember))
  else none

/-- Droop applies to the axis (R346, R352). -/
def State.drooping (s : State) (k : Nat) : Bool :=
  s.ring.on && decide (s.hiveAx = k) &&
    (decide (s.rp P.shareMode = 2) || (s.ring.fallback && decide (s.rp P.ringFallback = 0)))

/-- W_REF of the torque master's slot, in hive pu (Table 8.4); none where no slot of a torque master is live. -/
def State.masterWref (s : State) : Option Int :=
  let x := tget s.ring.slots {} (s.parN P.torqueMaster)
  if s.parN P.torqueMaster < 16 ∧ x.source ≠ 0 then some (signed 16 (field x.data 16 2) * 65536) else none

/-- A speed target taken over from a torque master stands until the owner sends SETPOINT, under the owner's command: for a follower named torque master, and for
a member in droop after it lost its segment (R344, R352; with AXIS_CMD 0 too, DEDUCED, log entry 214). -/
def State.tookOver (s : State) (k : Nat) (role : Option Bool) : Bool :=
  s.ring.wTaken.isSome && decide (s.hiveAx = k) && (decide ((s.ax k).st = .running) || decide ((s.ax k).st = .limp)) &&
    (decide (role = some true) || (s.ring.fallback && decide (s.rp P.ringFallback = 0)))

/-- The fused speed in the units of the axis's loop (R279, R343). -/
def State.loopSpeed (s : State) (k : Nat) (hive : Bool) : Int :=
  let w := if bit (s.par P.posStatus k) 1 then 0 else s.par P.posSpeed k
  if hive then divq 28 w (s.rp P.hiveSpdScale) else w

/-! ### Ramps and limits (R281, R285, Table 7.1) -/

/-- One tick's step of a rate in 0.001 pu/s at a loop frequency, in a format of n fraction bits. -/
def rateStep (n : Nat) (rate freq : Int) : Int := rdiv (rate * (2 ^ n : Nat)) (1000 * max freq 1)

/-- A ramp that starts at or above 0: growing by `up`, shrinking by `down`, in turn through 0 (R281). -/
def rampPos (up down x target : Int) : Int :=
  if x ≤ target then min target (x + up)
  else if 0 ≤ target then max target (x - down)
  else if down ≤ x then x - down
  else max target (-(rdiv (up * (down - x)) (max down 1)))

def ramp (up down x target : Int) : Int := if 0 ≤ x then rampPos up down x target else -(rampPos up down (-x) (-target))

/-- A power over max(|w|, 0.01), in Q1.30. -/
def perSpeed (p w : Int) : Int := if 100 * iabs w < one28 then clamp (100 * p) 0 s32hi else clamp (divq 28 p (iabs w)) 0 s32hi

/-- A limiter factor of R298 in Q1.30: (v − zero) / (one − zero), clamped. -/
def limFactor (v zero one : Int) : Int :=
  if one = zero then (if (v - zero) * (if one < zero then -1 else 1) < 0 then 0 else one30)
  else clamp (rdiv ((v - zero) * one30) (one - zero)) 0 one30

/-- OV and UV factors of a link; 1 where the limiter does not apply (Table 7.1). -/
def State.ovFactor (s : State) (l : Nat) : Int :=
  if s.lp l P.ovLimStart < s.par P.linkV l then limFactor (s.par P.linkV l) (s.lp l P.ovLimEnd) (s.lp l P.ovLimStart) else one30
def State.uvFactor (s : State) (l : Nat) : Int :=
  if s.par P.linkV l < s.lp l P.uvLimStart then limFactor (s.par P.linkV l) (s.lp l P.uvLimEnd) (s.lp l P.uvLimStart) else one30

/-- The limits of a tick, and the power terms. -/
structure Lims where
  mot : Int
  gen : Int
  pMot : Int
  pGen : Int
  deriving DecidableEq, Repr

/-- Hauling direction (R289). -/
def State.haul (s : State) (k : Nat) : Int := if s.par P.snatchDir k = 0 then 1 else -1

/-- Expected load at a speed (R292). -/
def State.tlExp (s : State) (k : Nat) (w : Int) : Int := mul 28 (mul 28 (s.sp k P.propK) w) (iabs w)

/-- CHOP_P_CONT in pu of the axis's base power, shared among the link's switching axes (R297). -/
def State.chopShare (s : State) (k l : Nat) : Int :=
  let n := ((s.axesOnLink l).filter fun j => s.switching j).length
  let base := 3 * ((s.bridgesOf k).length : Int) * s.hp k P.baseVoltage * s.hp k P.baseCurrent
  clamp (tdiv (s.lp l P.chopPCont * 20000 * one30) (max 1 (base * max n 1))) 0 s32hi

/-- The thermal term of R431, where it applies. -/
def State.thermTerm (s : State) (k : Nat) : Option Int :=
  let l := s.throttleLevel k
  if l ≤ 0 then none
  else
    let r := s.par P.ratedTorque k
    let floor := rdiv (s.tp P.thFloor * r) 1000
    some (max floor (tget s.fanner.tau0 floor k - rdiv (l * r) 1000))

/-- Every term of Table 7.1 but the ventilation cap that rises after VENTED. -/
def State.limits (s : State) (k : Nat) (w : Int) (still : Bool) : Lims :=
  let a := s.ax k
  let l := s.linkOf k
  let slow := still || decide (iabs w < s.sp k P.zeroSpeed)
  let q1 := s.par P.tqQ1 k; let q2 := s.par P.tqQ2 k; let q3 := s.par P.tqQ3 k; let q4 := s.par P.tqQ4 k
  let qm := if slow then min q1 q3 else if 0 < w then q1 else q3
  let qg := if slow then min q2 q4 else if 0 < w then q4 else q2
  let pm := perSpeed (s.par P.pMot k) w
  let pg := perSpeed (s.par P.pGen k) w
  let lower (b : Bool) (t x : Int) : Int := if b then min t x else x
  let half := rdiv (s.par P.ratedTorque k) 2
  let limp := decide (a.st = .limp) || (decide (a.st = .emergency) && a.pos.six)
  let cap := a.speed.render && !a.speed.payHold
  let hauls := decide (0 ≤ w * s.haul k)
  let th := s.thermTerm k
  let both (x : Int) : Int :=
    let x := lower th.isSome (th.getD 0) x
    let x := lower limp half x
    lower (decide (a.st = .emergency)) (s.par P.ecTauLim k) x
  let mot := both (min (min qm pm) (mul 30 qm (s.uvFactor l)))
  let mot := lower (cap && hauls) (s.par P.snatchHold k) mot
  let mot := lower a.speed.vented (rdiv (s.par P.ventHold k * iabs (s.tlExp k a.speed.ventV)) 1000) mot
  let gen := both (min (min qg pg) (mul 30 qg (s.ovFactor l)))
  let gen := lower (s.link l).chopHot (perSpeed (s.chopShare k l) w) gen
  let gen := lower (cap && !hauls) (s.par P.snatchHold k) gen
  let gen := lower (s.link l).regenBlock 0 gen
  { mot := max 0 mot, gen := max 0 gen, pMot := pm, pGen := pg }

/-! ### I²t (R286, R287) -/

/-- Trip level of an accumulator in 2^-60 pu² and ns, from peak and continuous currents and TPK in ms. -/
def tripLevel (ipk ic tpk : Int) : Int := max 1 ((ipk * ipk - ic * ic) * tpk * 1000000)

/-- The current limit of an accumulator: IMAX to 80 %, then linear to the continuous value at 100 %. -/
def i2tLimit (x top imax ic : Int) : Int :=
  if 5 * x ≤ 4 * top then imax
  else if top ≤ x then ic
  else imax - rdiv ((imax - ic) * (5 * x - 4 * top)) top

/-- One update of both accumulators of an axis, with their levels and faults. -/
def State.i2tUpdate (s : State) (k : Nat) : State :=
  let bs := s.bridgesOf k
  let f := max 1 (s.par P.speedLoopFreq k)
  let im := if bs.isEmpty then 0 else tdiv (bs.foldl (fun a b => a + (clarke (s.bridge b).i).mag) 0) bs.length
  let is := bs.foldl (fun m b => max m (s.bridge b).peakI) 0
  let a := s.ax k
  let ic := s.par P.icMot k; let ics := s.par P.icSw k
  let tm := tripLevel (s.par P.ipkMot k) ic (s.par P.tpkMot k)
  let ts := tripLevel (s.par P.ipkSw k) ics (s.par P.tpkSw k)
  let step (x : Option Int) (top i c : Int) : Int := max 0 (x.getD (top / 2) + rdiv ((i * i - c * c) * 1000000000) f)
  let xm := step a.speed.xm tm im ic
  let xs := step a.speed.xs ts is ics
  let s := s.setAx k { a with speed := { a.speed with xm := some xm, xs := some xs } }
  let s := bs.foldl (fun s b => s.setBridge b { s.bridge b with peakI := 0 }) s
  let s := (s.setPar P.i2tMotLvl (clamp (xm * 1000 / tm) 0 1250) k).setPar P.i2tSwLvl (clamp (xs * 1000 / ts) 0 1250) k
  let s := if 5 * tm ≤ 4 * xm ∧ ¬ s.stands 0x0602 k then s.raiseOn 0x0602 k k "CTL/HOUSE" else s
  if 5 * ts ≤ 4 * xs ∧ ¬ s.stands 0x0603 k then s.raiseOn 0x0603 k k "CTL/HOUSE" else s

/-- IMAX_DYN (R286). -/
def State.imaxDyn (s : State) (k : Nat) : Int :=
  let sp := (s.ax k).speed
  let imax := s.hp k P.imax
  let ic := s.par P.icMot k; let ics := s.par P.icSw k
  let tm := tripLevel (s.par P.ipkMot k) ic (s.par P.tpkMot k)
  let ts := tripLevel (s.par P.ipkSw k) ics (s.par P.tpkSw k)
  min imax (min (i2tLimit (sp.xm.getD (tm / 2)) tm imax ic) (i2tLimit (sp.xs.getD (ts / 2)) ts imax ics))

/-! ### Reference of d current (R282) -/

/-- ID_REF and the field-weakening integrator after the tick. -/
def State.idRefTick (s : State) (k : Nat) (w f : Int) : Int × Int :=
  let sp := (s.ax k).speed
  if s.hp k P.machine = 0 then
    let ld := s.hp k P.ld; let lq := s.hp k P.lq
    let iq := s.par P.iqMeas k
    let ida :=
      if s.par P.mtpaEn k = 1 ∧ ld < lq then
        let c := divq 28 (s.hp k P.psi) (2 * (lq - ld))
        c - (isqrt ((c * c + iq * iq).toNat) : Int)
      else 0
    let fw := clamp (sp.idfw - rdiv (s.par P.fwKi k * one30 * (s.par P.modIndex k - s.par P.fwModTarget k)) (10000000 * f)) (-(s.par P.fwIdMax k)) 0
    (clamp (ida + fw) s32lo s32hi, fw)
  else
    let flux := if iabs w ≤ one28 then s.par P.fluxRef k else divq 28 (s.par P.fluxRef k) (iabs w)
    (divq 28 flux (floorPu 28 (s.hp k P.lm)), sp.idfw)

/-! ### The tick (R276 to R294) -/

/-- DRIVE event notification (Table 11.13). -/
def State.driveEvent (s : State) (k pos : Nat) : State :=
  s.notify 4 pos k (leBytes 4 (unsigned 32 (s.par P.tlHat k)) ++ leBytes 4 (unsigned 32 (s.par P.posSpeed k)))

/-- The emergency pin's value v (R304) and its reference. -/
def State.ecRef (s : State) (k : Nat) : Int :=
  if bit (s.par P.ecMode k) 2 then mul 28 (s.par P.ecValue k) (s.par P.ecFull k) else mul 30 (s.par P.ecValue k) (s.par P.ecFull k)

/-- A speed command is in force (R278, R283, R303). -/
def State.speedCmd (s : State) (k : Nat) : Bool :=
  match (s.ax k).st with
  | .stopping => true
  | .emergency => !(bit (s.par P.ecMode k) 2)
  | _ => decide (s.par P.axisCmd k = 1)

/-- Values of the loop carried over into hive pu, or back (R343). -/
def State.hiveUnits (s : State) (sp : AxSpeed) (into : Bool) : AxSpeed :=
  let sw := s.rp P.hiveSpdScale
  let st := s.rp P.hiveScale
  let cw (x : Int) := if into then divq 28 x sw else mul 28 x sw
  let ct (x : Int) := if into then divq 28 x st else mul 28 x st
  if sp.inHive = into then sp
  else { sp with inHive := into, wHat := cw sp.wHat, wRef := cw sp.wRef, tlHat := ct sp.tlHat, xi := ct sp.xi, tauPrev := ct sp.tauPrev }

/-- What the tick starts from: cold values on the first tick after an entry (R281), and the change of command. -/
def State.tickStart (s : State) (k : Nat) (w : Int) (speed : Bool) (hive : Bool) : AxSpeed :=
  let a := s.ax k
  let sp := s.hiveUnits a.speed hive
  let cmd : Int := if speed then 1 else 0
  let sp :=
    if sp.fresh then
      let held := if a.prev.moving then sp else { sp with render := false, payHold := false, calmSince := none, vented := false, ventCap := none, tauPrev := 0 }
      { held with wRef := w, wHat := w, tlHat := 0, xi := 0, idfw := 0, fresh := false, cmd := cmd }
    else sp
  if sp.cmd = 0 ∧ speed then
    { sp with cmd := 1, wRef := w, xi := clamp (sp.tauPrev - rdiv (s.par P.loadFf k * sp.tlHat) 1000) s32lo s32hi }
  else { sp with cmd := cmd }

/-- The load observer of R279. -/
def observe (w tauPrev tm bw f : Int) (sp : AxSpeed) : AxSpeed :=
  let eo := w - sp.wHat
  let wo := twoPi60 * bw
  { sp with
    wHat := clamp (sp.wHat + rdiv ((tauPrev - sp.tlHat) * 250000) (f * tm) + rdiv (2 * wo * eo) (f * 2 ^ 60)) s32lo s32hi
    tlHat := clamp (sp.tlHat - rdiv (wo * wo * tm * eo * 4) (f * 1000000 * 2 ^ 120)) s32lo s32hi }

/-- The snatch guard of a tick (R289, R290): the loop's state, and whether RENDER sets now. -/
def State.snatch (s : State) (k : Nat) (w : Int) (speed act : Bool) (sp : AxSpeed) : AxSpeed × Bool :=
  if s.par P.snatchEn k = 1 ∧ speed ∧ act then
    let h := s.haul k
    let load := h * sp.tlHat
    let set := !sp.render && decide (s.par P.snatchLevel k < load)
    let sp := { sp with render := sp.render || set }
    let calm := sp.render && decide (load < s.par P.snatchLevel k - s.par P.snatchHyst k)
    ({ sp with calmSince := if calm then some (sp.calmSince.getD s.now) else none,
               payHold := sp.render && (sp.payHold || decide (s.par P.snatchVmax k ≤ -(h * w))) }, set)
  else ({ sp with render := false, payHold := false, calmSince := none }, false)

/-- The ventilation guard of a tick (R292 to R294): how long r has been low or high; r is a free value where the expected
load is 0. -/
def State.ventilate (s : State) (k : Nat) (w : Int) (act : Bool) (sp : AxSpeed) : AxSpeed × State :=
  if s.par P.ventEn k ≠ 1 ∨ ¬ act then ({ sp with vented := false, ventLowSince := none, ventHighSince := none }, s)
  else if iabs w < s.par P.ventMinSpeed k then ({ sp with ventLowSince := none, ventHighSince := none }, s)
  else
    let e := s.tlExp k w
    let d := if e = 0 then s.draw 32 else (0, s)
    let r1000 : Int := if e = 0 then signed 32 d.1 else tdiv (1000 * sp.tlHat) e
    let low := if e = 0 then decide (r1000 < s.par P.ventDrop k) else decide (1000 * sp.tlHat * sgn e < s.par P.ventDrop k * iabs e)
    let high := if e = 0 then decide (s.par P.ventReturn k ≤ r1000) else decide (s.par P.ventReturn k * iabs e ≤ 1000 * sp.tlHat * sgn e)
    ({ sp with ventLowSince := if low && !sp.vented then some (sp.ventLowSince.getD s.now) else none,
               ventHighSince := if high && sp.vented then some (sp.ventHighSince.getD s.now) else none }, d.2)

/-- τ0 of R431 as the tick finds it, from its TAU_REF; an axis that starts while its level is above 0, or does not move, has the floor. -/
def State.thermBase (s : State) (k : Nat) (tau : Int) (started : Bool) : State :=
  let l := s.throttleLevel k
  let has := s.fanner.tau0.any fun e => e.1 = k
  if l ≤ 0 then { s with fanner := { s.fanner with tau0 := s.fanner.tau0.filter fun e => decide (e.1 ≠ k) } }
  else if has ∧ ¬ started then s
  else
    let floor := rdiv (s.tp P.thFloor * s.par P.ratedTorque k) 1000
    { s with fanner := { s.fanner with tau0 := tset s.fanner.tau0 k (if started then floor else max floor (iabs tau)) } }

/-- Speed target of the tick, in the loop's units (R278, R281, R283, R304, R344, R352). -/
def State.speedTarget (s : State) (k : Nat) (role : Option Bool) (sp : AxSpeed) : Int :=
  let top := s.par P.speedMax k
  match (s.ax k).st with
  | .stopping => 0
  | .emergency => clamp (s.ecRef k) (-top) top
  | _ =>
    let own := match role, s.ring.wTaken with
      | some _, some w => w
      | some _, none => divq 28 sp.setpoint (s.rp P.hiveSpdScale)
      | none, some w => if s.ring.fallback ∧ s.hiveAx = k then mul 28 w (s.rp P.hiveSpdScale) else sp.setpoint
      | none, none => sp.setpoint
    clamp own (-top) top

/-- Ramp rates of the tick, growing and shrinking, in 0.001 pu/s (R281, R283, Table 7.4). -/
def State.rampRates (s : State) (k : Nat) : Int × Int :=
  match (s.ax k).st with
  | .stopping =>
    let r := match (s.ax k).stop with
      | .disable | .enable => s.par P.decRamp k
      | _ => s.par P.qstopRamp k
    (r, r)
  | .emergency => (s.par P.ecRamp k, s.par P.ecRamp k)
  | _ => (s.par P.accRamp k, s.par P.decRamp k)

/-- One tick of a loop that runs: observer, guards, reference, limits, torque and commit. -/
def State.loopTick (s : State) (k : Nat) : State :=
  let f := max 1 (s.par P.speedLoopFreq k)
  let status := s.par P.posStatus k
  let still := bit status 1
  let wAx := if still then 0 else s.par P.posSpeed k
  let frozen := (!(bit status 0) && !(s.ax k).pos.six) || bit status 2 || bit status 3
  let role := s.hiveRole k
  let hive := role.isSome
  let w := s.loopSpeed k hive
  let speed := s.speedCmd k || decide (role = some false) || s.tookOver k role
  let started := (s.ax k).speed.fresh && !(s.ax k).prev.moving
  let sp := s.tickStart k w speed hive
  let demand := s.ring.record.demand
  let tauPrev := if hive then demand else sp.tauPrev
  let sp := if frozen then sp else observe w tauPrev (s.par P.inertiaTm k) (s.par P.obsBw k) f sp
  let act := role ≠ some false
  let (sp, set) := s.snatch k w speed act sp
  let (sp, s) := s.ventilate k w act sp
  let s := s.thermBase k (if hive then 0 else sp.tauPrev) started
  let s := s.modAx k fun a => { a with speed := sp }
  let lim := s.limits k wAx still
  let capRise := match sp.ventCap with
    | some c => let c := c + rateStep 30 (s.par P.ventRate k) f; if lim.mot ≤ c then none else some c
    | none => none
  let mot := match capRise with
    | some c => min lim.mot c
    | none => lim.mot
  let clampTau (x : Int) : Int :=
    if role = some true then clamp x (-(clamp (4 * s.ring.record.capNeg) 0 s32hi)) (clamp (4 * s.ring.record.capPos) 0 s32hi)
    else let l := if 0 ≤ x * w then mot else lim.gen; clamp x (-l) l
  let target := s.speedTarget k role sp
  let (up, down) := s.rampRates k
  let kp := s.par P.kpW k
  let ff := rdiv (s.par P.loadFf k * sp.tlHat) 1000
  let base := if sp.render then w else sp.wRef
  let wRef :=
    if frozen then sp.wRef
    else if role = some false then s.masterWref.getD sp.wRef
    else if sp.payHold then -(s.haul k * s.par P.snatchVmax k)
    else if speed then ramp (rateStep 28 up f) (rateStep 28 down f) base target
    else sp.wRef
  let aTerm := if frozen ∨ sp.payHold then 0 else rdiv ((wRef - base) * f * s.par P.inertiaTm k) 250000
  let drop := if s.drooping k then rdiv (s.rp P.droop * sp.tauPrev) 262144 else 0
  let e := wRef - drop - w
  let prop := rdiv (kp * e) 4194304
  let tauW := prop + sp.xi + aTerm + ff
  let (tau, tauC, xi) :=
    if role = some false then (demand, demand, if frozen then sp.xi else clamp (demand - prop - aTerm - ff) s32lo s32hi)
    else if speed then
      let c := clampTau tauW
      let run := !frozen && !sp.render && !sp.vented && (decide (c = tauW) || decide (sgn e ≠ sgn (tauW - c)))
      (tauW, c, if run then clamp (sp.xi + rdiv (s.par P.kiW k * e) (16384 * f)) s32lo s32hi else sp.xi)
    else
      let cmd := if (s.ax k).st = .emergency then ramp (rateStep 30 up f) (rateStep 30 up f) sp.tauPrev (s.ecRef k)
        else if hive then divq 28 sp.setpoint (s.rp P.hiveScale) else sp.setpoint
      let vv := if hive then divq 28 sp.ventV (s.rp P.hiveSpdScale) else sp.ventV
      let wTop := rdiv (iabs vv * (1000 + s.par P.ventOverspeed k)) 1000
      let held := rdiv (kp * (sgn w * wTop - w)) 4194304 + sp.xi + ff
      let cmd := if sp.vented ∧ wTop < iabs w then (if 0 < w then min cmd held else max cmd held) else cmd
      (cmd, clampTau cmd, sp.xi)
  let tauC := clamp tauC s32lo s32hi
  let (idr, fw) := s.idRefTick k wAx f
  let imax := s.imaxDyn k
  let sp := { sp with wRef := wRef, xi := xi, tauPrev := tauC, idfw := fw, ventCap := capRise }
  let l := s.linkOf k
  let pw := if 0 ≤ tau * w then lim.pMot else lim.pGen
  let st := (s.ax k).st
  let bits := ofBits [speed && decide (wRef ≠ target), decide (tau ≠ tauC), decide (pw < iabs tau), sp.render, sp.vented,
    decide (imax < s.hp k P.imax), (s.link l).chopHot, decide (s.ovFactor l < one30), decide (s.uvFactor l < one30),
    (s.link l).regenBlock, decide (st = .emergency), (s.ax k).ec.lost]
  let set0 : SetSet := { tauRef := if hive then 0 else tauC, idRef := idr, imaxDyn := imax, tauMot := mot, tauGen := lim.gen, shareEn := hive }
  let s := s.modAx k fun a => { a with speed := sp, hearth := { a.hearth with buffer := set0, bufCfg := s.hearthCfg k, commit := true } }
  let s := if role = some true then
      let n := (bitsOf 16 (s.parN P.contribMask)).length
      let d := if s.rp P.shareMode = 3 then
          clamp (tdiv (tauC * s.rp P.hiveScale * one30) (max 1 (max n 1 * s.lastDen k * s.rp P.hiveIscale))) s32lo s32hi
        else tauC
      { s with ring := { s.ring with demand := d } }
    else if role = some false then { s with ring := { s.ring with demand := demand, wTaken := some wRef } }
    else s
  let rep (x scale : Int) : Int := if hive then mul 28 x scale else x
  let s := (((s.setPar P.wRef (rep wRef (s.rp P.hiveSpdScale)) k).setPar P.tlHat (rep sp.tlHat (s.rp P.hiveScale)) k).setPar
    P.tauMotEff mot k).setPar P.tauGenEff lim.gen k
  let s := ((s.setPar P.speedStatus bits k).setPar P.thTauTerm ((s.thermTerm k).getD 0) k).setBit P.linkStatus 2 (decide (s.ovFactor l < one30)) l
  let s := s.setBit P.linkStatus 1 (decide (s.uvFactor l < one30)) l
  let s := if set then (s.incPar P.snatchCount k).driveEvent k 0 else s
  s.zeroTrack k

/-- The house cores run their loops: the firmware runs, and no wing switch stands between H and the first commit of the new pair, where
every axis stays on its last commit (R668, R669). -/
def State.coresRun (s : State) : Bool := s.firmware && decide ((s.service.switch.map (·.phase)) ≠ some .commit)

/-- The end of switching that a LINK_UV asked for, as a fault of its row (Table 9.9). -/
def State.uvTick (s : State) (k : Nat) : State :=
  if (s.ax k).speed.uvStop then
    let (safe, r) := faultRow 0x0606
    let s := s.modAx k fun a => { a with speed := { a.speed with uvStop := false } }
    let t := s.arbReact k r false
    let s := t.1.applySafe k safe 0x0606
    let before := (s.ax k).st
    let s := if t.2 then s.react k r false else s
    s.markLatched ((s.ax k).st = .faultLatched && before ≠ .faultLatched)
  else s

/-- SPEED_LOOP_TICK of an axis: written parameters taken (R317), I²t in every axis state, the loop in RUNNING, LIMP, STOPPING and
EMERGENCY (R276, R287). -/
def speedLoopTick (k : Nat) (s : State) : State :=
  if 4 ≤ k ∨ ¬ s.coresRun ∨ s.now < (s.ax k).speed.tickAt + 1000000000 / max 1 (s.spN k P.speedLoopFreq) then s
  else
    let s := ((s.modAx k fun a => { a with speed := { a.speed with tickAt := s.now, held := [] } }).uvTick k).i2tUpdate k
    let s := if s.par P.thCold = 2 ∧ s.switching k ∧ ¬ s.stands 0x0802 k then
        s.raiseOn 0x0802 k k (sensorPath ((upto 29).foldl (fun m n => if s.par P.tsValue n < s.par P.tsValue m then n else m) 0))
      else s
    if (s.ax k).st.moving then s.loopTick k
    else
      let s := s.thermBase k 0 true
      s.setPar P.thTauTerm ((s.thermTerm k).getD 0) k

/-! ### Guard ends and standstill -/

/-- SNATCH_DWELL_END (R291). -/
def snatchDwellEnd (k : Nat) (s : State) : State :=
  let sp := (s.ax k).speed
  match sp.calmSince with
  | some t0 =>
    if k < 4 ∧ sp.render ∧ t0 + s.spN k P.snatchDwell * 1000000 ≤ s.now then
      (s.modAx k fun a => { a with speed := { sp with render := false, payHold := false, calmSince := none,
                                                      wRef := s.loopSpeed k sp.inHive } }).driveEvent k 1
    else s
  | none => s

/-- VENTED (R293). -/
def ventSet (k : Nat) (s : State) : State :=
  let sp := (s.ax k).speed
  match sp.ventLowSince with
  | some t0 =>
    if k < 4 ∧ ¬ sp.vented ∧ t0 + s.spN k P.ventDetect * 1000000 ≤ s.now then
      let s := s.modAx k fun a => { a with speed := { sp with vented := true, ventV := s.par P.posSpeed k, ventLowSince := none, ventHighSince := none, ventCap := none } }
      (s.incPar P.ventCount k).driveEvent k 2
    else s
  | none => s

/-- VENTED_END (R294): the cap that stood then rises at VENT_RATE. -/
def ventEnd (k : Nat) (s : State) : State :=
  let sp := (s.ax k).speed
  match sp.ventHighSince with
  | some t0 =>
    if k < 4 ∧ sp.vented ∧ t0 + s.spN k P.ventDetect * 1000000 ≤ s.now then
      let cap := rdiv (s.sp k P.ventHold * iabs (s.tlExp k sp.ventV)) 1000
      (s.modAx k fun a => { a with speed := { sp with vented := false, ventHighSince := none, ventCap := some cap } }).driveEvent k 3
    else s
  | none => s

/-- STANDSTILL_REACHED (R284). -/
def standstillReached (k : Nat) (s : State) : State :=
  let a := s.ax k
  match a.speed.zeroSince with
  | some t0 => if k < 4 ∧ a.st = .stopping ∧ t0 + s.spN k P.zeroTime * 1000000 ≤ s.now then s.endStop k else s
  | none => s

/-! ### Links (R295, R296, R302) -/

/-- CHOP_MIN_ON_END (R295). -/
def chopMinOnEnd (k : Nat) (s : State) : State :=
  let l := s.link k
  if k < 2 ∧ l.chopOn ∧ l.chopAt + s.lpN k P.chopMinOn * 1000 ≤ s.now ∧ s.par P.linkV k ≤ s.lp k P.chopOff then s.chopCmd k false else s

/-- CHOP_ENERGY_UPDATE (R296): the energy model of both links advances once per millisecond. -/
def chopEnergyUpdate (s : State) : State :=
  if ¬ s.firmware then s
  else each ([0, 1].filter fun k => decide ((s.link k).energyAt + 1000000 ≤ s.now)) s fun k s =>
    let l := (s.link k).count s.now
    let v := s.par P.linkV k
    let e := max 0 (l.energyMj + rdiv (v * v * (l.onNs : Int)) (max 1 (s.lp k P.chopR) * 10000000) - s.lp k P.chopPCont)
    let top := s.lp k P.chopEMax * 1000
    let hot := decide (top ≤ e) || (l.chopHot && decide (9 * top ≤ 10 * e))
    let s := s.setLink k { l with onNs := 0, energyMj := e, chopHot := hot, energyAt := s.now }
    (s.setPar P.chopE (min u32hi (e / 1000)) k).setBit P.linkStatus 5 hot k

/-- LINK_UV raised on an axis: recorded, TAU_MOT 0 at once; its switching stops at the next tick (Tables 7.7 and 9.9). -/
def State.uvRaise (s : State) (l k : Nat) : State :=
  (s.enterRecord 0x0606 k l (faultRow 0x0606).1 ("CTL/HEARTH/5/" ++ dec l) false).modAx k fun a =>
    { a with speed := { a.speed with uvStop := true },
             hearth := { a.hearth with taken := { a.hearth.taken with tauMot := 0 }, buffer := { a.hearth.buffer with tauMot := 0 } } }

/-- LINK_UV (R302). -/
def linkUv (k : Nat) (s : State) : State :=
  match (s.link k).uvSince with
  | some t0 =>
    if k < 2 ∧ t0 + 1000000 ≤ s.now ∧ ((s.axesOnLink k).any fun a => s.switching a) then
      let ks := (s.axesOnLink k).filter fun a => s.raisable 0x0606 a && !(s.ax a).speed.uvStop
      each ks s fun a s => s.uvRaise k a
    else s
  | none => s

/-! ### Emergency command pins (R303 to R310) -/

/-- A reading of pin ECk: EC_RAW (mV, 0.01 % or 0.1 Hz), the input frequency in 0.1 Hz, and no edge for 20 ms (duty) or
1 s (frequency): the loss condition and the value of Table 7.3. -/
def ecRead (mode raw : Int) (freq : Nat) (quiet : Bool) : Bool × Int :=
  match mode.toNat % 4 with
  | 1 => (decide (raw < -10500) || decide (10500 < raw), rdiv (raw * one30) 10000)
  | 2 => (decide (raw < 500) || decide (9500 < raw) || decide (freq < 800) || decide (120000 < freq) || quiet, rdiv ((raw - 5000) * one30) 4000)
  | 3 =>
    let r := if quiet then 0 else raw
    (decide (110000 < r), rdiv ((if bit mode 3 then -r else r) * one30) 100000)
  | _ => (false, 0)

/-- Diagnostics of an EMERGENCY axis that still wait begin once no cold limit is active (Table 7.4). -/
def State.emgDiagnose (s : State) (k : Nat) : State :=
  if (s.ax k).st = .emergency ∧ (s.ax k).emgDiag ∧ s.par P.thCold ≠ 2 then s.beginDiag k true else s

/-- EC_SAMPLE (R303, R304, Table 7.4). -/
def ecSample (k : Nat) (raw : Int) (freq : Nat) (quiet : Bool) (s : State) : State :=
  let mode := s.par P.ecMode k
  if 4 ≤ k ∨ mode % 4 = 0 ∨ s.dev.st = .off ∨ s.dev.st = .boot then s
  else
    let (lossNow, v) := ecRead mode raw freq quiet
    let ec := (s.ax k).ec
    let v := clamp v (-one30) one30
    let v := if 1000 * iabs v ≤ s.sp k P.ecDeadband * one30 then 0 else v
    let tau := max 1 (s.sp k P.ecFiltTau * 1000000)
    let dt : Int := match ec.sampleAt with
      | some t0 => min (s.now - t0 : Nat) tau
      | none => 0
    let old := s.par P.ecValue k
    let new := if lossNow then old else clamp (old + rdiv (dt * (v - old)) tau) (-one30) one30
    let ec := { ec with sampleAt := some s.now, lossSince := if lossNow then some (ec.lossSince.getD s.now) else none,
                        freeSince := if lossNow then none else some (ec.freeSince.getD s.now) }
    let s := ((s.modAx k fun a => { a with ec := ec }).setPar P.ecValue new k).setPar P.ecRaw (if quiet && decide (mode % 4 = 3) then 0 else raw) k
    let s := s.emgDiagnose k
    if s.sp k P.ecStart * one30 ≤ 1000 * iabs new ∧ ¬ ec.lost then s.emgStart k else s

/-- R306: whether an axis may take the EMERGENCY transition. -/
def State.emgAllowed (s : State) (k : Nat) : Bool :=
  let a := s.ax k
  decide (s.par P.ecMode k % 4 ≠ 0) && !a.ec.lost &&
    (decide (s.dev.st = .idle) || decide (s.dev.st = .service) || decide (s.dev.st = .recovery)) &&
    (match a.st with
     | .disabled | .ready | .running | .limp => true
     | .stopping => (decide (a.stop = .disable) || decide (a.stop = .quickstop)) && a.hearth.silentTau.isNone
     | _ => false)

/-- Entry to EMERGENCY (Table 7.4). -/
def State.enterEmergency (s : State) (k : Nat) : State :=
  if ¬ s.emgAllowed k then s
  else
    let t := s.arb k 6
    if ¬ t.2 then t.1
    else
      let s := t.1
      let st := (s.ax k).st
      let s := (s.modAx k fun a => { a with started := st.moving }).moveAxis k .emergency
      if st = .disabled then (s.modAx k fun a => { a with emgDiag := true }).emgDiagnose k else s

/-- EC_LOST (R305, R309). -/
def ecLost (k : Nat) (s : State) : State :=
  let ec := (s.ax k).ec
  match ec.lossSince with
  | some t0 =>
    if k < 4 ∧ ¬ ec.lost ∧ t0 + s.spN k P.ecLossTime * 1000000 ≤ s.now then
      let s := (s.modAx k fun a => { a with ec := { ec with lost := true } }).driveEvent k 4
      if (s.ax k).st = .emergency then (s.endPrecheckCells k).beginStop k .pinLoss .ready else s
    else s
  | none => s

/-- EC_BACK (R305, R309): the axis enters EMERGENCY again while the emergency delay still stands. -/
def ecBack (k : Nat) (s : State) : State :=
  let ec := (s.ax k).ec
  match ec.freeSince with
  | some t0 =>
    if k < 4 ∧ ec.lost ∧ t0 + 1000000000 ≤ s.now then
      let s := (s.modAx k fun a => { a with ec := { ec with lost := false } }).driveEvent k 5
      match s.owner.ownerlessAt with
      | some t1 => if s.owner.session = 0 ∧ t1 + s.parN P.emergDelay * 1000000 ≤ s.now then s.enterEmergency k else s
      | none => s
    else s
  | none => s

end Sys2Proof.Machine
end

