-- ==== Sys2Proof/Machine/Ring.lean ====
section
/-!
DEFINITION. The share ring (chapter 8): trays and slots, views, hive time, load sharing, lost members, folding, joining
and leaving.
-/
namespace Sys2Proof.Machine

/-! ### Trays (R325 to R328) -/

/-- One bit of the CRC of R326. -/
def crc16Bit (c : Nat) (b : Bool) : Nat :=
  let top := decide (0x8000 ≤ c)
  let c := c * 2 % 0x10000
  if top = b then c else Nat.xor c 0x1021

/-- The CRC of a field (R326). -/
def crc16 (bs : Bytes) : Nat :=
  bs.foldl (fun c b => (upto 8).foldl (fun c i => crc16Bit c (b.toNat / 2 ^ (7 - i) % 2 = 1)) c) 0xFFFF

/-- A field with its CRC. -/
def withCrc (bs : Bytes) : Bytes := bs ++ leBytes 2 (crc16 bs)

/-- Offsets in the 367 bytes between K27.7 and K29.7 (Table 8.2). -/
def slotOff (m : Nat) : Nat := 13 + 20 * m
def msgOff : Nat := 333

/-- k bytes replaced at an offset. -/
def putAt (bs : Bytes) (off : Nat) (new : Bytes) : Bytes := bs.take off ++ new ++ bs.drop (off + new.length)

/-- The empty message block (R335). -/
def emptyMsg : Bytes := leBytes 1 0xFF ++ List.replicate 31 0#8

/-- Fields of a slot (Table 8.4), with DEMAND in Q1.30 and the caps in UQ2.14. -/
def slotState (d : Bytes) : Nat := field d 0 1 % 16
def slotFlag (d : Bytes) (b : Nat) : Bool := field d 1 1 / 2 ^ b % 2 = 1
def slotDemand (d : Bytes) : Int := signed 32 (field d 2 4)
def slotPos (d : Bytes) : Int := field d 8 2
def slotNeg (d : Bytes) : Int := field d 10 2
def slotWeight (d : Bytes) : Int := field d 12 2

/-- A slot copy is fresh (R332), its CRC being good. -/
def slotFresh (d : Bytes) (m cyc : Nat) : Bool := decide (field d 0 1 / 16 = m) && decide (field d 1 1 % 16 = cyc % 16)

/-! ### Own slot (R327, R341) -/

/-- An axis value in hive pu: the quotient by a scale of R340; a free value while the scale is 0, for which the manual states none. -/
def State.toHive (s : State) (x scale : Int) : Int × State :=
  if scale = 0 then
    let d := s.draw 32
    (signed 32 d.1, d.2)
  else (divq 28 x scale, s)

/-- A limit in Q1.30 as an AVAIL field in hive pu: UQ2.14, truncated. -/
def State.toAvail (s : State) (x scale : Int) : Nat × State :=
  if scale = 0 then s.draw 16 else ((clamp (tdiv (x * 4096) scale) 0 65535).toNat, s)

/-- A value truncated to a 16-bit signed field from one with 16 more fraction bits. -/
def trunc16 (x : Int) : Nat := unsigned 16 (clamp (tdiv x 65536) (-32768) 32767)

/-- WEIGHT_EFF. -/
def State.weightEff (s : State) : Nat :=
  let w := s.rp P.hiveWeight
  let t := max 1 (s.rp P.handoverTime * 1000000)
  let e : Int := min t (s.now - s.ring.stateAt : Nat)
  (match s.par P.hiveState with
    | 2 => tdiv (w * e) t
    | 3 => w
    | 5 => tdiv (w * (t - e)) t
    | _ => 0).toNat

/-- AVAIL_POS and AVAIL_NEG of modes 1 and 3; the manual states none in modes 0 and 2, where they are free values. -/
def State.avail (s : State) : (Nat × Nat) × State :=
  let k := s.hiveAx
  let h := (s.ax k).hearth
  let still := bit (s.par P.posStatus k) 1
  let w := s.par P.posSpeed k
  let fwd := still || decide (0 ≤ w)
  let bwd := still || decide (w ≤ 0)
  let pos := if fwd then h.taken.tauMot else h.taken.tauGen
  let neg := if bwd then h.taken.tauMot else h.taken.tauGen
  match s.rp P.shareMode with
  | 1 =>
    let a := s.toAvail pos (s.rp P.hiveScale)
    let b := a.2.toAvail neg (s.rp P.hiveScale)
    ((a.1, b.1), b.2)
  | 3 =>
    let den := s.lastDen k
    let id := h.taken.idRef
    let top : Int := isqrt ((h.imax * h.imax - id * id).toNat)
    let a := s.toAvail (min (divq 30 pos den) top) (s.rp P.hiveIscale)
    let b := a.2.toAvail (min (divq 30 neg den) top) (s.rp P.hiveIscale)
    ((a.1, b.1), b.2)
  | _ =>
    let a := s.draw 16
    let b := a.2.draw 16
    ((a.1, b.1), b.2)

/-- The own slot at this moment, for a cycle. -/
def State.ownSlot (s : State) (cyc : Nat) : Bytes × State :=
  let k := s.hiveAx
  let r := s.ring
  let flags := cyc % 16 + 16 * ofBits [r.left.fold || r.right.fold, bit (s.par P.ringStatus) 7, r.right.ready, r.left.ready]
  let demand : Int := if s.hiveRole k = some true then r.demand else 0
  let sp := (s.ax k).speed
  let (tau, s) := s.toHive (s.ax k).hearth.lastTau (s.rp P.hiveScale)
  let (av, s) := s.avail
  let (w, s) := s.toHive (s.par P.posSpeed k) (s.rp P.hiveSpdScale)
  let (wr, s) := if sp.inHive then (sp.wRef, s) else s.toHive sp.wRef (s.rp P.hiveSpdScale)
  (leBytes 1 (s.member * 16 + s.parN P.hiveState) ++ leBytes 1 flags ++ leBytes 4 (unsigned 32 demand) ++ leBytes 2 (trunc16 tau) ++
    leBytes 2 av.1 ++ leBytes 2 av.2 ++ leBytes 2 s.weightEff ++ leBytes 2 (trunc16 w) ++ leBytes 2 (trunc16 wr), s)

/-! ### Message blocks out (R335, R476) -/

/-- The block of this member's cycle, taken from Q18 once. -/
def State.takeMsg (s : State) (cyc : Nat) : Bytes × State :=
  match s.ring.ownMsg with
  | some (c, b) => if c = cyc then (b, s) else fresh s
  | none => fresh s
where
  fresh (s : State) : Bytes × State :=
    let b := match s.queue 18 with
      | [] => emptyMsg
      | e :: _ => leBytes 1 e.dest ++ leBytes 1 e.data.length ++ (e.data ++ List.replicate 30 0#8).take 30
    (b, { s.pop 18 with ring := { s.ring with ownMsg := some (cyc, b) } })

/-- The own slot, and in its cycle the message block, written into a tray of a cycle. -/
def State.writeTray (s : State) (cyc : Nat) (bs : Bytes) : Bytes × State :=
  let m := s.member
  let (bs, s) :=
    if s.ring.dup then (bs, s)
    else
      let (d, s) := s.ownSlot cyc
      (putAt bs (slotOff m) (withCrc d), { s with ring := { s.ring with own := d, ownCycle := some cyc } })
  if cyc % 16 = m then
    let (b, s) := s.takeMsg cyc
    (putAt bs msgOff (withCrc b), s)
  else (bs, s)

/-! ### Views (R332) -/

/-- The open view of a cycle, opened if it is not. -/
def State.viewOf (s : State) (cyc startAt : Nat) (folded : Bool) : RingView :=
  (s.ring.views.find? fun v => decide (v.cycle = cyc)).getD { cycle := cyc, startAt := startAt, folded := folded }

def State.setView (s : State) (v : RingView) : State :=
  let has := s.ring.views.any fun w => decide (w.cycle = v.cycle)
  { s with ring := { s.ring with views := if has then s.ring.views.map fun w => if w.cycle = v.cycle then v else w else s.ring.views ++ [v] } }

/-- The own slot of a cycle in its view, with the direction of the tray. -/
def State.ownCopy (s : State) (v : RingView) (west : Bool) : RingView :=
  if s.ring.dup then v
  else { v with copies := tset v.copies s.member { data := s.ring.own, source := if west then 2 else 1, held := 0 } }

/-- Trays that a member expects to pass it in a cycle: both, or the second pass, which is the only one at a fold end (R331, R332). -/
def State.expectedPasses (s : State) (v : RingView) : Nat :=
  if v.folded && (s.ring.left.fold || s.ring.right.fold) then 1 else 2

/-! ### Fallback (R352) and torque master (R342) -/

/-- A member enters OWN_CMD and applies RING_FALLBACK; `tm` for want of a torque master (R342), which a loss of the majority outlives. -/
def State.enterFallback (s : State) (tm : Bool) : State :=
  let s : State := { s with ring := { s.ring with fallbackTm := tm && (s.ring.fallbackTm || !s.ring.fallback) } }
  let k := s.hiveAx
  let st : Int := s.par P.hiveState
  let runs := decide ((s.ax k).st = .running) || decide ((s.ax k).st = .limp)
  if s.ring.fallback ∨ ¬ runs ∨ ¬ (st = 1 ∨ st = 2 ∨ st = 3 ∨ st = 5 ∨ st = 7) then s
  else
    let s := { s with ring := { s.ring with fallback := true } }
    let s := (s.hiveSync k).hiveEvent 7 s.member
    if s.rp P.ringFallback = 1 then s.beginStop k .ring .ready else s

/-- A member whose segment has its majority again, or a torque master again, follows its own command no longer (R352). -/
def State.leaveFallback (s : State) : State :=
  if s.ring.fallback then { s with ring := { s.ring with fallback := false, fallbackTm := false } }.hiveSync s.hiveAx else s

/-- TORQUE_MASTER as the header gives it; with none left to name, every member applies R352 at once (R342). Where none has been named yet, a
header says so once its sender has closed a view with members in C: after `n` such views here (log entry 86). -/
def State.setTorqueMaster (s : State) (m n : Nat) : State :=
  let none_ := decide (m = 0xFF) && s.shares && (decide (s.parN P.torqueMaster ≠ m) || decide (n ≤ s.ring.noMaster))
  let s := if s.parN P.torqueMaster = m then s else (s.setPar P.torqueMaster m).hiveEvent 5 m
  if none_ then s.enterFallback true else s

/-- The cycle master's choice, in a segment with its majority (R352): the current one while it shares, else the lowest non-zero rank, then the lowest number. The slots do
not carry HIVE_RANK: a peer's rank is a free value. -/
def State.chooseMaster (s : State) : Nat × State :=
  let ok (m : Nat) : Bool :=
    let st := if m = s.member then s.parN P.hiveState else slotState (tget s.ring.slots {} m).data
    (m = s.member || bit (s.par P.contribMask) m) && (decide (st = 2) || decide (st = 3))
  let cur := s.parN P.torqueMaster
  if s.shares ∧ s.ring.minority then (0xFF, s)
  else if cur < 16 ∧ ok cur then (cur, s)
  else
    let (best, s) := ((upto 16).filter ok).foldl
      (fun (a : Option (Nat × Nat) × State) m =>
        let r := if m = s.member then (s.rpN P.hiveRank, a.2) else a.2.draw 4
        if r.1 = 0 then (a.1, r.2)
        else match a.1 with
          | some b => if r.1 < b.1 then (some (r.1, m), r.2) else (a.1, r.2)
          | none => (some (r.1, m), r.2)) (none, s)
    ((match best with | some b => b.2 | none => 0xFF), s)

/-! ### Cycle start (R330, R350) -/

/-- A port unfolds where both facing ready bits were set in the view closed last. -/
def State.unfoldPort (s : State) (p : Nat) : State :=
  let x := s.rport p
  match x.neighbour with
  | some nb =>
    let own := (tget s.ring.slots {} s.member).data
    let peer := (tget s.ring.slots {} nb).data
    let facing := if p = 0 then slotFlag own 7 && slotFlag peer 6 else slotFlag own 6 && slotFlag peer 7
    if x.fold ∧ x.up ∧ x.ready ∧ facing then (s.setRport p { x with fold := false }).hiveEvent 3 p else s
  | none => s

/-- The view closed last shows no fold that remains after this boundary. -/
def State.noFoldLeft (s : State) (at64 : Bool) : Bool :=
  !s.ring.left.fold && !s.ring.right.fold &&
    (bitsOf 16 (s.parN P.liveMask)).all fun m =>
      let d := (tget s.ring.slots {} m).data
      decide (m = s.member) || !slotFlag d 4 || (at64 && slotFlag d 6 && slotFlag d 7)

/-- The delay request of the gap after a cycle's tray, out of each port that is up (R337): sequence number, own member number, and a
reserved byte (Table 8.1). -/
def State.delayRequests (s : State) : State :=
  each [0, 1] s fun q s =>
    let x := s.rport q
    let n := (x.reqSeq + 1) % 256
    if x.up then s.setRport q { x with reqSeq := n, reqOut := true, req := leBytes 1 n ++ leBytes 1 s.member ++ leBytes 1 0 } else s

/-- A tray sent out of a port that is up. -/
def State.sendTray (s : State) (p : Nat) (bs : Bytes) : State :=
  if (s.rport p).up then s.setRport p { s.rport p with out := bs } else s

/-- The trays the cycle master starts. It runs folded cycles too where a tray of its last cycle has been cut off, so that it has not come round
the ring, or its own unfolded tray has come back by the port it left by: only a break elsewhere makes that of it (R331, R349; DEDUCED, log
entry 216). -/
def State.startTrays (s : State) (cyc : Nat) : State :=
  let at64 := decide (cyc % 64 = 0)
  let folded :=
    if s.ring.folded then !(at64 && s.noFoldLeft true)
    else s.ring.left.fold || s.ring.right.fold || s.ring.foldSeen || (s.ring.both && !(s.ring.back.contains 0 && s.ring.back.contains 1)) ||
      (bitsOf 16 (s.parN P.liveMask)).any fun m => decide (m ≠ s.member) && slotFlag (tget s.ring.slots {} m).data 4
  let (tm, s) := s.chooseMaster
  let s := { s with ring := { s.ring with cycle := cyc, folded := folded, trayFolded := folded, foldSeen := false, both := !folded, back := [],
                                          headerAt := s.now } }
  let s := (s.setTorqueMaster tm 1).delayRequests
  let head (west : Bool) : Bytes :=
    leBytes 1 ((if west then 1 else 0) + (if folded then 2 else 0) + 4 * s.rpN P.shareMode) ++ leBytes 1 s.member ++ leBytes 1 tm ++
      leBytes 2 (s.parN P.hiveId) ++ leBytes 4 cyc ++ leBytes 2 0
  let empty : Bytes := (upto 16).flatMap (fun _ => withCrc (List.replicate 18 0#8)) ++ withCrc emptyMsg
  let east := !folded || s.ring.right.up
  let west := !folded || !s.ring.right.up
  let (bs, s) := s.writeTray cyc (withCrc (head (!east)) ++ empty)
  let s := if east then s.sendTray 1 bs else s
  let s := if west then s.sendTray 0 (putAt bs 0 (withCrc (head true))) else s
  let v := s.ownCopy (s.viewOf cyc s.now folded) (!east)
  s.setView { v with header := head (!east), best := some (0, 0), folded := folded, msg := if cyc % 16 = s.member then (bs.drop msgOff).take 32 else v.msg }

/-- RING_CYCLE_START (R330): HIVE_TIME has reached a multiple of 20,000 ns. -/
def ringCycleStart (s : State) : State :=
  let b := (s.hivePs / 20000000).toNat
  if ¬ s.ring.on ∨ b ≤ s.ring.boundary then s
  else
    let s := { s with ring := { s.ring with boundary := b } }
    let s := (s.raiseLine 12).ringTake
    let cyc := b % 4294967296
    let s := if cyc % 64 = 0 then each [0, 1] s fun p s => s.unfoldPort p else s
    if s.isCycleMaster then s.startTrays cyc
    else if s.ring.timeSet then s.setView (s.viewOf cyc s.now s.ring.folded)
    else s

/-! ### Trays received (R327 to R329, R331, R335, R336) -/

/-- A foreign tray: the port counts as down, and its clear time starts anew (R329, Table 9.9). -/
def State.foreignTray (s : State) (p : Nat) : State :=
  let s := if s.stands 0x0702 p then s else s.raiseModule 0x0702 p (ringPath p)
  let s := s.portDown p
  let s := s.setRport p { s.rport p with foreign := some s.now }
  { s with standing := s.standing.map fun f => if f.code = 0x0702 ∧ f.inst = p then { f with okSince := some s.now } else f }

/-- SYNC_ERR of a header in ps (R336), from an arrival time in ps. -/
def State.syncErr (s : State) (p cyc sum : Nat) (arr : Nat) : Int :=
  let din := s.par (if p = 0 then P.linkDelayL else P.linkDelayR)
  let t0 := rdiv (625 * ((2 * arr / 625 : Nat) - (sum : Int))) 2 - din
  let e := t0 + s.ring.ofs - (cyc : Int) * 20000000
  let w : Int := 4294967296 * 20000000
  let e := e % w
  if w < 2 * e ∨ t0 + s.ring.ofs < e then e - w else e

/-- HIVE_TIME set by an error above 1 µs, with SYNCED cleared (R336). -/
def State.syncSet (s : State) (err : Int) : State :=
  let o := s.ring.ofs - err
  let s := { s with ring := { s.ring with timeSet := true, ofs := o, syncGood := 0, syncBad := 0,
                                          boundary := (((s.now : Int) * 1000 + o) / 20000000).toNat } }
  (s.setPar P.syncErr (clamp err s32lo s32hi)).setBit P.ringStatus 7 false

/-- The own slot of a tray is as this member wrote it in the cycle. -/
def State.ownWriting (s : State) (cyc : Nat) (d : Bytes) : Bool := decide (s.ring.ownCycle = some cyc) && decide (d = s.ring.own)

/-- HIVE_DUP: the own slot read back with content that this member did not write (Table 8.11). -/
def State.dupCheck (s : State) (cyc : Nat) (d : Bytes) (good : Bool) : State :=
  let k := s.hiveAx
  if good && slotFresh d s.member cyc && decide (slotState d ≠ 0) && !s.ownWriting cyc d then
    let s := { s with ring := { s.ring with dup := true } }.hiveSync k
    if s.stands 0x0703 k then s else s.raiseOn 0x0703 k k "CTL/RING"
  else s

/-- HIVE_DUP ends with a view of which every tray has shown the own slot unaltered (Table 9.9): as this member wrote it, or empty, as the cycle
master sent it, while this member does not write it (log entry 87). -/
def State.dupEnd (s : State) (v : RingView) : State :=
  let k := s.hiveAx
  if s.ring.dup ∧ ¬ v.ownBad ∧ 0 < v.passes ∧ s.expectedPasses v ≤ v.passes then
    let s := { s with ring := { s.ring with dup := false } }
    let s := if (s.ax k).st = .faultLatched ∨ (s.ax k).st = .stopping then s else s.unstandCode 0x0703 k
    s.hiveSync k
  else s

/-- The slots of a tray taken into a view: CRC errors, fresh copies, and who was heard. -/
def State.takeSlots (s : State) (bs : Bytes) (v : RingView) (west : Bool) : RingView × State :=
  (upto 16).foldl (fun (a : RingView × State) m =>
    let d := (bs.drop (slotOff m)).take 18
    if field bs (slotOff m + 18) 2 ≠ crc16 d then (a.1, a.2.incPar P.crcErrors)
    else if slotFresh d m v.cycle ∧ slotState d ≠ 0 ∧ (m ≠ a.2.member ∨ a.2.ring.dup) then
      ({ a.1 with copies := tset a.1.copies m { data := d, source := if west then 2 else 1, held := 0 } },
       { a.2 with ring := { a.2.ring with heardAt := tset a.2.ring.heardAt m a.2.now } })
    else a) (v, s)

/-- The message block of a tray: its first good copy, taken into Q14 by the member it names. -/
def State.takeMessage (s : State) (bs : Bytes) (v : RingView) : RingView × State :=
  let b := (bs.drop msgOff).take 32
  if field bs (msgOff + 32) 2 ≠ crc16 b then (v, s.incPar P.crcErrors)
  else if field b 0 1 = 0xFF ∨ v.msg ≠ [] then (v, s)
  else
    let s := if field b 0 1 = s.member ∧ v.cycle % 16 ≠ s.member then s.push 14 ((b.drop 2).take (min 30 (field b 1 1))) (v.cycle % 16) else s
    ({ v with msg := b }, s)

/-- The port a tray leaves by, if it is forwarded: a fold end sends it back, but a tray of a cycle that started before 2 µs after the break is
cut off there (R328, R331, R349). -/
def State.forwardPort (s : State) (p startAt : Nat) (folded own : Bool) (sentOut : Nat) : Option Nat :=
  let o := s.rport (1 - p)
  if own then
    if folded ∧ p = sentOut ∧ ¬ o.fold then some (1 - p) else none
  else if ¬ o.fold then some (1 - p)
  else if folded ∨ o.foldAt + 2000 ≤ startAt then some p
  else none

/-- What a header of the own hive gives a member that is not its sender: cycle, fold, masters, and HIVE_TIME from the first header since
the start (R336, Table 8.10). -/
def State.takeHeader (s : State) (cm tm cyc : Nat) (folded : Bool) (err : Int) : State × Bool :=
  let s := { s with ring := { s.ring with cycle := cyc, folded := folded, both := false } }
  let s := (s.setPar P.cycleMaster cm).setTorqueMaster tm 2
  if s.ring.timeSet then (s, false)
  else if 1000000 < iabs err then (s.syncSet err, true)
  else ({ s with ring := { s.ring with timeSet := true } }, false)

/-- A tray forwarded: the link's delay and 120 ns added to DELAY_SUM, the own slot and in its cycle the message written (R327, R328, R335). -/
def State.forwardTray (s : State) (p q cyc : Nat) (bs : Bytes) : State :=
  let d := s.par (if p = 0 then P.linkDelayL else P.linkDelayR)
  let total := field bs 9 2 + (rdiv (2 * d) 625).toNat
  let h := putAt (bs.take 11) 9 (leBytes 2 ((total + 384) % 65536))
  let (out, s) := s.writeTray cyc (putAt bs 0 (withCrc h))
  s.sendTray q out

/-- A header accepted with its tray. -/
def State.acceptTray (s : State) (p : Nat) (bs : Bytes) (arr : Nat) : State :=
  let flags := field bs 0 1
  let cm := field bs 1 1
  let tm := field bs 2 1
  let cyc := field bs 5 4
  let sum := field bs 9 2
  let west := decide (flags % 2 = 1)
  let sentOut := if west then 0 else 1
  let folded := decide (flags / 2 % 2 = 1)
  let own := decide (cm = s.member) && s.isCycleMaster
  let d := s.par (if p = 0 then P.linkDelayL else P.linkDelayR)
  let err := s.syncErr p cyc sum arr
  let s := { s with ring := { s.ring with headerAt := s.now, trayFolded := folded, heardAt := tset s.ring.heardAt cm s.now } }
  let (s, jumped) := if own then (s, false) else s.takeHeader cm tm cyc folded err
  let s := if own ∧ ¬ folded ∧ p = sentOut then { s with ring := { s.ring with foldSeen := true } } else s
  let err := if own then 0 else err
  let v : RingView := s.viewOf cyc (s.now - (rdiv (625 * sum) 2000 + d / 1000).toNat) folded
  let first : Bool := decide (v.passes = 0)
  let v := { v with folded := folded, passes := v.passes + 1, endAt := s.now + 18450, jumped := v.jumped || jumped,
                    header := if v.header = [] then bs.take 11 else v.header,
                    best := match v.best with
                      | none => some (sum, err)
                      | some b => if ¬ folded ∧ sum < b.1 then some (sum, err) else some b }
  let od := (bs.drop (slotOff s.member)).take 18
  let good := decide (field bs (slotOff s.member + 18) 2 = crc16 od)
  let intact := good && (s.ownWriting cyc od || od.all fun b => b = 0#8)
  let s := s.dupCheck cyc od good
  let v := { v with ownBad := v.ownBad || !intact }
  let (v, s) := s.takeSlots bs v west
  let (v, s) := s.takeMessage bs v
  let s := if s.par P.hiveState = 0 then
      (({ s with ring := { s.ring with stateAt := s.now } }.setPar P.hiveState (if s.ring.hasLeft then 6 else 1)).hiveSync s.hiveAx)
    else s
  let s := if first ∧ ¬ own then s.delayRequests else s
  match s.forwardPort p v.startAt folded own sentOut with
  | none => s.setView v
  | some q =>
    let s := s.forwardTray p q cyc bs
    s.setView (s.ownCopy v west)

/-- A tray of another cycle master with a higher number, at a cycle master: forwarded like every tray of the own hive (R328), but its
header is not followed (log entry 83). -/
def State.passTray (s : State) (p : Nat) (bs : Bytes) : State :=
  let folded := decide (field bs 0 1 / 2 % 2 = 1)
  match s.forwardPort p s.now folded false 0 with
  | some q => { s with ring := { s.ring with trayFolded := folded } }.forwardTray p q (field bs 5 4) bs
  | none => s

/-- TRAY_RECEIVED: the 367 bytes between K27.7 and K29.7 at a port, the tray start at the command's time and `frac` ps. -/
def trayReceived (p : Nat) (bs : Bytes) (frac : Nat) (s : State) : State :=
  let x := s.rport p
  if ¬ s.ring.on ∨ 2 ≤ p ∨ bs.length ≠ 367 ∨ ¬ (x.pair0 || x.pair1) then s
  else
  let s : State := { s with ring := { s.ring with back := p :: s.ring.back.filter fun q => decide (q ≠ p) } }
  if field bs 11 2 ≠ crc16 (bs.take 11) then s.incPar P.crcErrors
  else if field bs 3 2 ≠ s.parN P.hiveId ∨ field bs 0 1 / 4 % 4 ≠ s.rpN P.shareMode then s.foreignTray p
  else if ¬ x.up ∨ 16 ≤ field bs 1 1 then s
  else if s.isCycleMaster ∧ s.member < field bs 1 1 then s.passTray p bs
  else s.acceptTray p bs (s.now * 1000 + frac % 1000)

/-! ### Load sharing (R345) -/

/-- The rounds of mode 1: members left with their weights and caps in Q1.30, what is left of |d|, and the own share. -/
def shareRounds (own : Nat) : Nat → List (Nat × Int × Int) → Int → Int → Int × Int
  | 0, _, r, mine => (r, mine)
  | f + 1, ms, r, mine =>
    let ws := ms.foldl (fun a m => a + m.2.1) (0 : Int)
    if r ≤ 0 ∨ ms.isEmpty ∨ ws ≤ 0 then (r, mine)
    else
      let part (m : Nat × Int × Int) : Int := tdiv (r * m.2.1) ws
      let sat := ms.filter fun m => decide (m.2.2 ≤ part m)
      if sat.isEmpty then (0, match ms.find? fun m => decide (m.1 = own) with | some m => part m | none => mine)
      else
        let mine := match sat.find? fun m => decide (m.1 = own) with | some m => m.2.2 | none => mine
        shareRounds own f (ms.filter fun m => decide (part m < m.2.2)) (r - sat.foldl (fun a m => a + m.2.2) 0) mine

/-- The share record of a closed view. -/
def State.shareRecord (s : State) (cyc live contrib : Nat) (held folded : Bool) (old : Int) : ShareRec :=
  let data (m : Nat) : Bytes := (tget s.ring.slots {} m).data
  let cs := bitsOf 16 contrib
  let tm := s.parN P.torqueMaster
  let d : Int := if tm = 0xFF then 0 else if live / 2 ^ tm % 2 = 1 then slotDemand (data tm) else old
  let sumOf (f : Bytes → Int) : Int := cs.foldl (fun a m => a + f (data m)) 0
  let minOf (f : Bytes → Int) : Int := cs.foldl (fun a m => min a (f (data m) * 65536)) s32hi
  let base : ShareRec :=
    { cycle := cyc, complete := true, mode := s.rpN P.shareMode, demand := d, live := live, contrib := contrib,
      capPos := (clamp (sumOf slotPos * 16384) 0 u32hi).toNat, capNeg := (clamp (sumOf slotNeg * 16384) 0 u32hi).toNat }
  let flags := ofBits [false, folded, held, s.ring.fallback]
  match s.rp P.shareMode with
  | 1 =>
    let ms := cs.map fun m => (m, slotWeight (data m), (if 0 ≤ d then slotPos (data m) else slotNeg (data m)) * 65536)
    let (r, mine) := shareRounds s.member 17 ms (iabs d) 0
    { base with share := mul 28 (sgn d * mine) (s.rp P.hiveScale), flags := flags + (if 0 < r then 1 else 0) }
  | 3 =>
    let q := if cs.isEmpty then 0 else clamp d (-(minOf slotNeg)) (minOf slotPos)
    { base with share := mul 28 q (s.rp P.hiveIscale), flags := flags + (if q = d then 0 else 16) }
  | _ => { base with flags := flags }

/-- The share record as Table 8.7 lays it out. -/
def ShareRec.bytes (r : ShareRec) : Bytes :=
  leBytes 4 r.cycle ++ leBytes 1 (if r.complete then 1 else 0) ++ leBytes 1 r.mode ++ leBytes 2 r.flags ++ leBytes 4 (unsigned 32 r.share) ++
    leBytes 4 (unsigned 32 r.demand) ++ leBytes 2 r.live ++ leBytes 2 r.contrib ++ leBytes 4 (unsigned 32 r.capPos) ++
    leBytes 4 (unsigned 32 r.capNeg) ++ leBytes 4 0

/-! ### Closing a view (R332 to R334, R347, R352) -/

/-- The slots after a close: fresh, held, or lost. -/
def State.closeSlots (s : State) (v : RingView) : State :=
  (upto 16).foldl (fun s m =>
    let old := tget s.ring.slots {} m
    let put (x : RingSlot) : State := { s with ring := { s.ring with slots := tset s.ring.slots m x } }
    match v.copies.find? fun e => decide (e.1 = m) with
    | some e =>
      let s' := put e.2
      if slotState e.2.data = 2 ∧ ¬ (old.source ≠ 0 ∧ slotState old.data = 2) ∧ m ≠ s.member then s'.hiveEvent 0 m else s'
    | none =>
      if old.source = 0 then s
      else if old.held < s.rpN P.staleMax then put { old with source := 3, held := old.held + 1 }
      else ((put {}).incPar P.memberLosses).hiveEvent 1 m) s

/-- SYNC_ERR of the header used, taken at a close: HIVE_TIME set above 1 µs, else slewing by up to 10 ns a cycle, SYNCED and SYNC_LOST
(R336). -/
def State.closeSync (s : State) (err : Int) : State :=
  if 1000000 < iabs err then s.syncSet err
  else
  let a := iabs err
  let good := if a ≤ 20000 then s.ring.syncGood + 1 else 0
  let bad := if 50000 < a then s.ring.syncBad + 1 else 0
  let s := { s with ring := { s.ring with ofs := s.ring.ofs - clamp (tdiv err 16) (-10000) 10000, syncGood := good, syncBad := bad } }
  let s := s.setPar P.syncErr (clamp err s32lo s32hi)
  let on := bit (s.par P.ringStatus) 7
  if ¬ on ∧ 64 ≤ good then (s.setBit P.ringStatus 7 true).unstandCode 0x0704 0
  else if on ∧ 8 ≤ bad then (s.setBit P.ringStatus 7 false).raiseModule 0x0704 0 "CTL/RING"
  else s

/-- The tray image of a cycle (Table 8.6). -/
def State.trayImage (s : State) (v : RingView) : Bytes :=
  let slot (m : Nat) : Bytes :=
    let x := tget s.ring.slots {} m
    (x.data ++ List.replicate 18 0#8).take 18 ++ leBytes 1 x.source ++ leBytes 1 0
  (v.header ++ List.replicate 16 0#8).take 16 ++ (upto 16).flatMap slot ++ List.replicate 16 0#8 ++ (if v.msg = [] then emptyMsg else v.msg)

/-- One view closed. -/
def State.closeView (s : State) (v : RingView) : State :=
  let s := { s with ring := { s.ring with views := s.ring.views.filter fun w => decide (w.cycle ≠ v.cycle) } }
  let s : State := match v.best with
    | some b => if v.jumped then s else s.closeSync b.2
    | none => s
  let s : State := s.closeSlots v
  let data (m : Nat) : Bytes := (tget s.ring.slots {} m).data
  let live : Nat := maskOf ((upto 16).filter fun m => decide ((tget s.ring.slots {} m).source ≠ 0))
  let contrib := maskOf ((bitsOf 16 live).filter fun m => decide (slotState (data m) = 2) || decide (slotState (data m) = 3) || decide (slotState (data m) = 5))
  let held := (upto 16).any fun m => decide ((tget s.ring.slots {} m).source = 3)
  let s : State := (s.setPar P.liveMask live).setPar P.contribMask contrib
  let minority := decide ((bitsOf 16 live).length * 2 ≤ s.rpN P.hiveSize)
  let noTm : Bool := decide (s.parN P.torqueMaster = 0xFF)
  let count := if noTm ∧ contrib ≠ 0 then s.ring.noMaster + 1 else 0
  let s : State := { s with ring := { s.ring with minority := minority, held := held, noMaster := count } }
  let s :=
    if s.shares ∧ minority then s.enterFallback false
    else if s.shares ∧ (s.ring.lost ∨ (noTm ∧ s.ring.fallbackTm)) then s else s.leaveFallback
  let s := s.dupEnd v
  let r := s.shareRecord v.cycle live contrib held v.folded s.ring.record.demand
  let s := { s with ring := { s.ring with record := r, short := decide (r.flags % 2 = 1) } }
  let s := (s.setPar P.hiveDemand r.demand).setPar P.hiveShare r.share
  (s.lwrite (0x200B0000 + v.cycle % 64 * 0x200) (s.trayImage v)).lwrite (0x200B8000 + v.cycle % 2 * 0x20) r.bytes

/-- VIEW_CLOSE: the oldest open view, when its last tray has passed or its closing time is reached (R332). -/
def viewClose (s : State) : State :=
  match s.ring.views with
  | [] => s
  | v :: _ =>
    let limit := if v.folded then 23550 else 21000
    if (s.expectedPasses v ≤ v.passes ∧ v.endAt ≤ s.now) ∨ v.startAt + limit ≤ s.now then
      let short := s.ring.short
      let s := s.closeView v
      if s.ring.short ∧ ¬ short then s.hiveEvent 6 s.member else s
    else s

/-! ### Link delays (R337) -/

/-- RING_DELAY_REQUEST: the request of a neighbour is answered with the turnaround time. -/
def ringDelayRequest (p seq member turn : Nat) (s : State) : State :=
  let x := s.rport p
  if ¬ s.ring.on ∨ 2 ≤ p ∨ ¬ x.up then s
  else
    let s := { s with ring := { s.ring with heardAt := tset s.ring.heardAt member s.now } }
    s.setRport p { x with resp := leBytes 1 seq ++ leBytes 1 s.member ++ leBytes 2 turn }

/-- RING_DELAY_RESPONSE: (round trip − turnaround) / 2, averaged over the last 16 responses. -/
def ringDelayResponse (p seq member turn rtt : Nat) (s : State) : State :=
  let x := s.rport p
  if ¬ s.ring.on ∨ 2 ≤ p ∨ ¬ x.up ∨ ¬ x.reqOut ∨ seq ≠ x.reqSeq then s
  else
    let d := (2 * rtt - 625 * turn) / 4
    let ds := (d :: x.delays).take 16
    let s := { s with ring := { s.ring with heardAt := tset s.ring.heardAt member s.now } }
    let s := s.setRport p { x with reqOut := false, delays := ds, neighbour := some member }
    s.setPar (if p = 0 then P.linkDelayL else P.linkDelayR) (clamp (ds.foldl (· + ·) 0 / ds.length : Nat) 0 u32hi)

/-! ### Pairs and ports (R320 to R322, R350) -/

/-- PAIR_DOWN. -/
def pairDown (p pair : Nat) (s : State) : State :=
  if ¬ s.ring.on ∨ 2 ≤ p ∨ 2 ≤ pair then s
  else
    let x := s.rport p
    let x := if pair = 0 then { x with pair0 := false, down0 := s.now } else { x with pair1 := false, down1 := s.now }
    let s := s.setRport p x
    if x.pair0 || x.pair1 then s.choosePair p else s.portDown p

/-- PAIR_UP, after 50 µs of good characters (R321). -/
def pairUp (p pair : Nat) (s : State) : State :=
  let x := s.rport p
  if ¬ s.ring.on ∨ 2 ≤ p ∨ 2 ≤ pair ∨ s.now < (if pair = 0 then x.down0 else x.down1) + 50000 then s
  else
    let s := (s.setRport p (if pair = 0 then { x with pair0 := true } else { x with pair1 := true })).choosePair p
    if x.up then s else s.portUp p

/-- PORT_READY (R350). -/
def portReady (p : Nat) (s : State) : State :=
  let x := s.rport p
  let named : Bool := match x.neighbour with
    | some m => decide (m < 16) && decide (m ≠ s.member)
    | none => false
  if s.ring.on ∧ p < 2 ∧ x.up ∧ x.upAt + 100000000 ≤ s.now ∧ named then s.setRport p { x with ready := true } else s

/-! ### Takeover, loss, joining and leaving (R351 to R355) -/

/-- CYCLE_MASTER_TAKEOVER. -/
def cycleMasterTakeover (s : State) : State :=
  let heard (m : Nat) : Bool := decide (s.now < tget s.ring.heardAt 0 m + 30000) && s.ring.heardAt.any (fun e => decide (e.1 = m))
  let lower := (bitsOf 16 (s.parN P.liveMask)).any fun m => decide (m < s.member) && heard m
  if ¬ s.ring.on ∨ s.isCycleMaster ∨ s.now < s.ring.headerAt + 30000 ∨ lower then s
  else
    let s := { s with ring := { s.ring with folded := s.ring.left.fold || s.ring.right.fold, timeSet := true } }
    let s := if s.par P.hiveState = 0 then
        { s.setPar P.hiveState (if s.ring.hasLeft then 6 else 1) with ring := { s.ring with stateAt := s.now } }.hiveSync s.hiveAx
      else s
    s.setPar P.cycleMaster s.member

/-- RING_LOST (R352, Table 8.13). -/
def ringLost (s : State) : State :=
  match s.ring.bothDownAt with
  | some t0 =>
    if s.ring.on ∧ ¬ s.ring.lost ∧ t0 + 60000 ≤ s.now then
      let s := { s with ring := { s.ring with lost := true } }.raiseModule 0x0705 0 "CTL/RING"
      let s := if s.shares then s.enterFallback false else s
      s.hiveSync s.hiveAx
    else s
  | none => s

/-- MEMBER_JOINING (R354). -/
def memberJoining (s : State) : State :=
  let k := s.hiveAx
  let busy := bit (s.par P.posStatus k) 2 || bit (s.par P.posStatus k) 3
  if s.ring.on ∧ s.par P.hiveState = 1 ∧ (s.ax k).st = .running ∧ ¬ busy ∧ ¬ s.ring.hasLeft ∧ ¬ (s.shares ∧ s.ring.minority) then
    { s.setPar P.hiveState 2 with ring := { s.ring with stateAt := s.now } }.hiveEvent 0 s.member
  else s

/-- JOIN_RAMP_END (R341, Table 8.10). -/
def joinRampEnd (s : State) : State :=
  if s.ring.on ∧ s.par P.hiveState = 2 ∧ s.ring.stateAt + s.rpN P.handoverTime * 1000000 ≤ s.now then
    { s.setPar P.hiveState 3 with ring := { s.ring with stateAt := s.now } }.endOp 0x76 0 stDone
  else s

/-- LEAVE_RAMP_END (R355). -/
def leaveRampEnd (s : State) : State :=
  match s.ring.leaveAt with
  | some t0 =>
    if t0 + s.rpN P.handoverTime * 1000000 ≤ s.now then
      let s : State := { s with ring := { s.ring with leaveAt := none, wTaken := none, stateAt := s.now } }
      let s := if s.par P.hiveState = 5 then s.setPar P.hiveState 6 else s
      s.endOp 0x75 0 stDone
    else s
  | none => s

/-- HIVE_LEAVE as accepted: a sharing member leaves over HANDOVER_TIME, a listening one at once (R355). -/
def State.hiveLeave (s : State) : State :=
  let st : Int := s.par P.hiveState
  let s := { s with ring := { s.ring with hasLeft := true } }
  if st = 2 ∨ st = 3 then { s.setPar P.hiveState 5 with ring := { s.ring with stateAt := s.now, leaveAt := some s.now } }
  else if st = 4 ∨ st = 7 ∨ st = 8 ∨ st = 5 then { s with ring := { s.ring with leaveAt := some (s.ring.leaveAt.getD s.now) } }
  else (if st = 1 then s.setPar P.hiveState 6 else s).endOp 0x75 0 stDone

/-- HIVE_JOIN as accepted: joining is allowed again (R354). -/
def State.hiveJoin (s : State) : State :=
  let st : Int := s.par P.hiveState
  let s := { s with ring := { s.ring with hasLeft := false } }
  let s := if st = 6 then { s.setPar P.hiveState 1 with ring := { s.ring with stateAt := s.now } } else s
  if st = 3 then s.endOp 0x76 0 stDone else s

/-- HIVE_EN written, and in effect at once (R353). -/
def State.hiveEnSet (s : State) (v : Nat) : State := (s.setPar P.hiveEn v).hiveEffect

/-- HIVE_EN as the owner writes it (R353, R150): 0 or 1, with the hive axis DISABLED. -/
def hiveEnWrite (v : Nat) (s : State) : State :=
  if v ≤ 1 ∧ (s.ax s.hiveAx).st = .disabled then s.hiveEnSet v else s

end Sys2Proof.Machine
end

