-- ==== Sys2Proof/Machine/Service.lean ====
section
/-!
DEFINITION. Service in place (chapter 17): image loading and checks, wing switches, lane swaps and recalibration.
-/
namespace Sys2Proof.Machine

/-- COLD_CAUTION or COLD_LIMIT stands: writes to flash and Attic are not ready (Tables 11.11, 17.4). -/
def State.tooCold (s : State) : Bool := decide (0 < s.parN P.thCold)

/-! ### Image loading (R661 to R664) -/

/-- A pair that runs has this wing (R664). -/
def State.wingRuns (s : State) (w : Nat) : Bool :=
  (s.dev.pairA.live && decide (s.dev.pairA.wing = w)) || (s.dev.pairB.live && decide (s.dev.pairB.wing = w))

/-- Two byte ranges overlap. -/
def overlaps (a n b m : Nat) : Bool := decide (a < b + m) && decide (b < a + n)

/-- Bytes programmed into a wing and its header. -/
def Wing.program (x : Wing) (off : Nat) (bs : Bytes) : Wing :=
  let inWing := bs.take (wingSize - off)
  let inHead := bs.drop (wingSize - off)
  { x with cells := memWrite 0xFF#8 x.cells off inWing, header := memWrite 0xFF#8 x.header (off - wingSize) inHead,
           ranges := (off, bs.length) :: x.ranges }

/-- IMAGE_LOAD after its length check: a status for the reply, or none where the reply follows the programming. -/
def State.loadImage (s : State) (sess seq w off : Nat) (bs : Bytes) : Option Nat × State :=
  if 2 ≤ w ∨ off % 16 ≠ 0 ∨ wingSize + 64 < off + bs.length then (some stRange, s)
  else if s.wingRuns w then (some stLocked, s)
  else if s.service.load.isSome ∨ s.service.verify = some w ∨ (s.service.switch.map (·.wing)) = some w then (some stBusy, s)
  else if s.tooCold then (some stNotReady, s)
  else
    let x := s.wing w
    let job : LoadJob := ⟨w, sess, seq, s.now⟩
    let start (x : Wing) : Option Nat × State :=
      let s := s.setWing w { x.program off bs with st := 1 }
      (none, { s with service := { s.service with load := some job } })
    if off = 0 then
      if 10000 ≤ x.erases then (some stLocked, s)
      else start { factory := false, st := 1, erases := x.erases + 1 }
    else if x.factory ∨ x.ranges.any fun r => overlaps r.1 r.2 off bs.length then (some stRange, s)
    else start x

/-- IMAGE_LOAD_DONE (R662). -/
def imageLoadDone (s : State) : State := s.endLoad stDone 2

/-! ### Checks (R665, R666) -/

/-- The checks of R666 over a wing, in the order of R74. -/
def State.checkWing (s : State) (w : Nat) : Nat :=
  if ¬ s.headerValid w then stBadCheck
  else if ¬ s.versionOk w then stLocked
  else if s.imageOk w ∧ s.wholeOk w then stDone
  else stBadCheck

/-- IMAGE_VERIFY after its length check. -/
def State.verifyImage (s : State) (w : Nat) : Nat × State :=
  if 2 ≤ w then (stRange, s)
  else if s.service.verify.isSome then (stBusy, s)
  else (stAccepted, { s with service := { s.service with verify := some w } })

/-- IMAGE_VERIFY_DONE (R666). -/
def imageVerifyDone (s : State) : State :=
  match s.service.verify with
  | none => s
  | some w =>
    let r := s.checkWing w
    let s : State := { s with service := { s.service with verify := none } }
    let s : State := if r = stDone ∧ s.loader then { s with dev := { s.dev with verified := true } } else s
    let s := if r = stDone then s.setWing w { s.wing w with st := 3 }
      else if r = stBadCheck then s.setWing w { s.wing w with st := 4 } else s
    s.endOp 0x71 w r

/-! ### Wing switches (R667 to R671) -/

/-- IMAGE_SWITCH after its length check. -/
def State.switchImage (s : State) (w trial : Nat) : Nat × State :=
  if 2 ≤ w ∨ 2 ≤ trial ∨ (trial = 1 ∧ s.runWing = some w) then (stRange, s)
  else if s.service.switch.isSome ∨ (s.service.load.map (·.wing)) = some w then (stBusy, s)
  else if s.tooCold then (stNotReady, s)
  else
    let x : Switch := { wing := w, trial := decide (trial = 1), phase := .checks, standbyOnly := decide (s.runWing = some w) }
    (stAccepted, { s with service := { s.service with switch := some x } })

/-- The switch ends with a status. -/
def State.endSwitch (s : State) (w status : Nat) : State :=
  ({ s with service := { s.service with switch := none } } : State).endOp 0x72 w status

/-- The switch with its next phase. -/
def State.switchTo (s : State) (x : Switch) (ph : SwitchPhase) : State :=
  { s with service := { s.service with switch := some { x with phase := ph, hAt := s.now } } }

/-- The wing pointer written (R668). -/
def State.writePointer (s : State) (w : Nat) : State := { s with service := { s.service with pointer := w } }

/-- A switch without a live change: completion DONE, and BOOT from its end as SOFT_RESET (R667, R756). -/
def State.bootSwitch (s : State) (w : Nat) : State :=
  let s := s.writePointer w
  let s : State := { s with service := { s.service with switch := none } }
  match s.findOp 0x72 w with
  | none => s.bootNow
  | some o =>
    let s : State := { s with ops := s.ops.filter fun p => !(decide (p.opcode = 0x72) && decide (p.target = w)) }
    if (s.sess o.sess).isOpen then s.complete 0x72 o.sess o.seq stDone [] true else s.bootNow

/-- An axis is in RUNNING, LIMP, STOPPING or EMERGENCY. -/
def State.anyMoving (s : State) : Bool := (upto 4).any fun k => (s.ax k).st.moving

/-- The standby pair stopped. -/
def State.stopPair (s : State) (p : Nat) : State := s.setPair p { s.pair p with live := false, synced := false, stopped := false }

/-- The switch that stands in a phase, with an active pair that runs it (Table 17.4). -/
def State.switchIn (s : State) (ph : SwitchPhase) : Option Switch :=
  if (s.pair s.active).live then s.service.switch.filter fun x => decide (x.phase = ph) else none

/-- SWITCH_CHECKS_DONE (R667, Table 17.2): `ok` the self-test of the stopped standby. -/
def switchChecksDone (ok : Bool) (s : State) : State :=
  match s.switchIn .checks with
  | none => s
  | some x =>
    let r := s.checkWing x.wing
    let same := decide (s.runWing.map s.wingCkpt = some (s.wingCkpt x.wing))
    if r ≠ stDone then s.endSwitch x.wing r
    else if ¬ same ∧ s.anyMoving then s.endSwitch x.wing stBadCheck
    else if ¬ same then s.bootSwitch x.wing
    else
      let s := s.stopPair s.standby
      let s : State := { s with porch := { s.porch with halt := if s.porch.halt = .live then .none else s.porch.halt, resync := false } }
      if ¬ ok then s.endSwitch x.wing stFaultActive
      else s.switchTo x (if x.standbyOnly then .former else .sync)

/-- STANDBY_SYNCED (R668): the standby runs the target, and at H the active pair stops committing. -/
def standbySynced (ok : Bool) (s : State) : State :=
  match s.switchIn .sync with
  | none => s
  | some x =>
    if ¬ ok then s.endSwitch x.wing stFaultActive
    else (s.setPair s.standby { live := true, synced := true, stopped := false, wing := x.wing }).switchTo x .commit

/-- NEW_PAIR_COMMIT (R668, R670): the new pair commits its first sets. A trial switch ends here. -/
def newPairCommit (s : State) : State :=
  match s.switchIn .commit with
  | none => s
  | some x =>
    let old := s.active
    let s := s.activate s.standby
    if x.trial then (s.setPar P.trial (if x.wing = s.service.pointer then 0 else 1)).endSwitch x.wing stDone
    else ((s.setPar P.trial 0).stopPair old).switchTo x .former

/-- FORMER_PAIR_SYNCED (R668, R670): the other pair runs the target as standby, and the pointer is written. -/
def formerPairSynced (ok : Bool) (s : State) : State :=
  match s.switchIn .former with
  | none => s
  | some x =>
    if ¬ ok then s.endSwitch x.wing stFaultActive
    else
      let s := s.setPair s.standby { live := true, synced := true, stopped := false, wing := x.wing }
      (((s.writePointer x.wing).setPar P.bootWing x.wing).setPar P.trial 0).endSwitch x.wing stDone

/-! ### Lane swaps (R672 to R675) -/

/-- A lane can take an axis: not active, not failed in its self-test, L4 only while spare, and named by no other axis. -/
def State.laneFree (s : State) (k n : Nat) : Bool :=
  let tested := !(s.lane n).testDue && !(bit (s.par P.laneFaults) (3 * n + 2))
  if n = 4 then decide (s.par P.laneRole 4 = 2)
  else !(s.laneActive n) && (decide (s.par P.laneRole n ≠ 3) || tested) && !(bit (s.par P.laneFaults) (3 * n + 2)) &&
    (upto 4).all fun m => decide (m = k) || decide (s.parN P.lane m ≠ n) || (s.bridgesOf m).isEmpty

/-- The values written for the freed lane come into force with the swap back (R675). -/
def State.useHeld (s : State) : State :=
  let h := s.service.held
  let s := h.foldl (fun (s : State) e => { s with params := tset s.params e.1 e.2 }) s
  { s with service := { s.service with held := [], onSwap := none } }

/-- An axis moved to a lane, with its carrier and its state (R673, R674). -/
def State.moveLane (s : State) (k dst : Nat) : State :=
  let src := s.laneOf k
  let l := s.lane src
  let s := s.setLane dst { l with frozen := false, overruns := 0, testDue := false }
  let s := s.setLane src { running := false, testDue := true, periodNo := l.periodNo }
  let s := s.modAx k fun a => { a with hearth := { a.hearth with mpcCold := true, swState := [], mpcHold := [] } }
  let s := (s.setBit P.coldFlags 3 true k).setBit P.ctrlStatus 7 (decide (dst = 4)) k
  let s := s.setPar P.laneRole 0 dst
  let s := if src = 4 then ((s.setPar P.laneRole 1 4).setPar P.spareFor 255).useHeld else s
  if dst = 4 then
    let s := s.setPar P.spareFor src
    { s with service := { s.service with onSwap := some k } }
  else (s.setPar P.lane dst k).copyLanes

/-- LANE_SWAP after its length check: the answer, and the completion of a swap that ends at once. -/
def State.swapLane (s : State) (k n : Nat) : Nat × Option Nat × State :=
  if 4 ≤ k ∨ 5 ≤ n then (stRange, none, s)
  else if (s.findOp 0x74 k).isSome then (stBusy, none, s)
  else if ¬ s.laneFree k n ∨ s.service.swaps.any fun x => decide (x.dst = n) then (stAccepted, some stLocked, s)
  else if s.switching k then
    let src := s.laneOf k
    let x : LaneSwap := ⟨k, src, n, (s.lane src).periodNo⟩
    (stAccepted, none, { s with service := { s.service with swaps := s.service.swaps ++ [x] } })
  else (stAccepted, some stDone, s.moveLane k n)

/-- LANE_SWAP_DONE (R673): the target lane computes the period after the one the source lane has computed. -/
def laneSwapDone (k : Nat) (s : State) : State :=
  match s.service.swaps.find? fun x => decide (x.axis = k) with
  | none => s
  | some x =>
    if (s.lane x.src).running ∧ (s.lane x.src).periodNo ≤ x.at_ then s
    else
      let s : State := { s with service := { s.service with swaps := s.service.swaps.filter fun y => decide (y.axis ≠ k) } }
      if s.laneFree k x.dst then (s.moveLane k x.dst).endOp 0x74 k stDone else s.endOp 0x74 k stFaultActive

/-- A parameter whose owner write goes to the freed lane while its axis runs on L4 under a swap (R675). -/
def State.heldPar (s : State) (p : Par) (i : Nat) : Bool :=
  match s.service.onSwap with
  | none => false
  | some k => (decide (p = P.update ∨ p = P.sysShift1 ∨ p = P.sysShift2 ∨ p = P.sysShift3) && decide (i = k)) ||
      (decide (p = P.brOffset) && (s.bridgesOf k).contains i)

/-! ### Recalibration (R676 to R678) -/

/-- RECAL after its length check: the answer, and the completion of one that ends at once. The fold follows in an SE of the bridge
(`State.foldRecal`). -/
def State.recal (s : State) (b : Nat) : Nat × Option Nat × State :=
  if 4 ≤ b then (stRange, none, s)
  else if s.service.recal.isSome then (stBusy, none, s)
  else match s.recalRefused b with
    | some r => (stAccepted, some r, s)
    | none => (stAccepted, none, { s with service := { s.service with recal := some b, recalFolded := false } })

/-- RECAL_DONE (R676): the folded values and VCAL_x are written to the configuration area. -/
def recalDone (s : State) : State :=
  match s.service.recal with
  | none => s
  | some b =>
    if ¬ s.service.recalFolded then s else
    let save (p : Par) (x : Nat) (s : State) : State := { s with config := tset s.config (p.pn b x) (s.par p b x) }
    let s := each (upto 3) s fun x s => save P.vcal x (save P.gain x (save P.ofs x s))
    let s : State := { s with service := { s.service with recal := none } }
    s.endOp 0x73 b stDone

end Sys2Proof.Machine
end

