-- ==== Sys2Proof/Machine/Access.lean ====
section
/-!
DEFINITION. Owner writes of parameters (R150, R479, R480, R567, R598, R603, R647): how each item of a SET is judged, and what an
accepted write does.
-/
namespace Sys2Proof.Machine

/-! ### Ranges -/

/-- The value of a 64-bit VALUE for a parameter (Table 11.8). -/
def Par.valueOf (p : Par) (raw : Nat) : Int := if p.signed then Sys2Proof.Machine.signed 64 raw else (raw % 2 ^ 64 : Nat)

/-- PAN_SRC and PAN_PACE as Table 16.2 lays them out. -/
def panSrcOk (v : Nat) : Bool :=
  match v / 0x10000000 with
  | 0 => true
  | 1 => decide (v / 0x40000 % 0x400 = 0) && decide (v % 4 = 0) && decide (v % 0x10000 < 0x280)
  | 2 => decide (v / 0x10000 % 0x1000 = 0) && (findPar (v % 0x10000)).isSome
  | _ => false
def panPaceOk (v : Nat) : Bool :=
  if v < 0x80000000 then decide (v / 0x4000000 = 0) && decide (v / 0x100 % 0x10000 = 0)
  else decide (v / 0x8000000 % 16 = 0) && decide (625 ≤ v % 0x8000000) && decide (v % 0x8000000 ≤ 100000000)

/-- A value lies in the range of a parameter's instance, in the state that the write would leave (R480 step 3). -/
def State.inRange (s : State) (p : Par) (i : Nat) (v : Int) : Bool :=
  let n := v.toNat
  match p.rng with
  | .iv lo hi => decide (lo ≤ v) && decide (v ≤ hi)
  | .step lo hi st => decide (lo ≤ v) && decide (v ≤ hi) && decide ((v - lo) % st = 0)
  | .orVal lo hi w => (decide (lo ≤ v) && decide (v ≤ hi)) || decide (v = w)
  | .oneOf vs => vs.contains v
  | .bits mask => decide (0 ≤ v) && decide (n < 2 ^ (8 * p.size)) && decide (n &&& mask = n)
  | .encIndexRef => decide (0 ≤ v) && decide (v < if s.par P.encMode i = 2 then 6 else 4 * s.par P.encLines i)
  | .winCell => decide (0 ≤ v) && decide (v < 256) && decide (n / 32 % 2 = 0)
  | .fgPrio => decide (4 ≤ i) && decide (1 ≤ v) && decide (v ≤ 3)
  | .definedPn => decide (0 ≤ v) && decide (v < 65536) && (findPar n).isSome
  | .panSrc => decide (0 ≤ v) && decide (v < 4294967296) && panSrcOk n
  | .panPace => decide (0 ≤ v) && decide (v < 4294967296) && panPaceOk n
  | .panFmt => decide (0 ≤ v) && decide (v < 256) && decide (n / 32 % 2 = 0)

/-! ### Paired checks and state conditions -/

/-- The state with the values of the written items, as far as they are parameters that the owner writes. -/
def State.staged (s : State) (items : List (Nat × Nat)) : State :=
  items.foldl (fun s it => match findPar it.1 with
    | some (p, _, _) => if p.acc = .owner then { s with params := tset s.params it.1 (p.valueOf it.2) } else s
    | none => s) s

/-- A paired check that an item fails (R150, R409, R530, R551, R598, R612, R641); `u` the state with the values written. -/
def State.pairFails (s u : State) (p : Par) (i : Nat) (v : Int) : Bool :=
  if p = P.ctrlMode ∨ p = P.grouping then
    decide (u.par P.ctrlMode i = 1) && (decide (u.par P.grouping i = 1) || decide (u.par P.grouping i = 2))
  else if p = P.bootUv ∨ p = P.bootWarn then decide (u.par P.bootWarn i ≤ u.par P.bootUv i)
  else if p = P.sbEn then decide (v = 1) && !(u.timingOk i)
  else if p = P.pairEn then
    (upto 2).any fun j => bit v j && !(bit (s.par P.pairEn) j) && decide (u.par P.sbSegment (2 * j) ≠ u.par P.sbSegment (2 * j + 1))
  else if p = P.combEn then (upto 4).any fun j => bit v j && !(bit (s.par P.combEn) j) && !(u.combValid j)
  else if p = P.fgDisable then decide (i < 4)
  else if p = P.panSrc ∨ p = P.panPace then
    decide (u.parN P.panSrc i / 0x10000000 = 1) && decide (0x80000000 ≤ u.parN P.panPace i)
  else false

/-- The axes of a parameter marked D (R150, R190, R275, R317, R408). -/
def State.axesOfPar (s : State) (p : Par) (i : Nat) : List Nat :=
  let ofBridge (b : Nat) : List Nat := (upto 4).filter fun k => (s.bridgesOf k).contains b
  let ofSensor (code : Nat) : List Nat := (upto 4).filter fun k => decide (s.parN P.sensorSel k = code)
  let n := p.base
  if n < 0x5000 then [i]
  else if n < 0x5080 then ofBridge i
  else if n < 0x5100 then s.axesOnLink i
  else if n < 0x51D0 then (if i < 12 then ofBridge (i / 3) else s.axesOfCell 12)
  else if n < 0x5200 then s.axesOfCell 12
  else if n < 0x6080 then ofBridge i
  else if n < 0x6090 then s.axesOnLink i
  else if n < 0x6100 then (upto 4).filter fun k => (s.bridgesOf k).any fun b => decide (s.par P.csMode b = 1)
  else if n < 0x6180 then ofSensor (0x10 + i) ++ ofSensor (0x20 + i)
  else if n < 0x61C0 then ofSensor (0x30 + i)
  else if n < 0x7000 then ofSensor (0x40 + i)
  else if n < 0x8000 then ofBridge (i / 6)
  else [s.hiveAx]

/-- The state condition of a marked parameter holds (R480 step 4). -/
def State.markHolds (s : State) (p : Par) (i : Nat) : Bool :=
  match p.mark with
  | .none => true
  | .d => s.heldPar p i || (s.axesOfPar p i).all fun k => decide ((s.ax k).st = .disabled)
  | .p => decide (s.par P.sbEn i = 0)
  | .c => decide (s.par P.combEn = 0)
  | .a => !s.panOn

/-- The answer of one item, if it fails (R480); `u` the state with the values written. -/
def State.judgeItem (s u : State) (it : Nat × Nat) : Option Nat :=
  match findPar it.1 with
  | none => some stRange
  | some (p, i, _) =>
    let v := p.valueOf it.2
    match p.acc with
    | .watcher => some stRange
    | .prot => none
    | .owner =>
      if ¬ u.inRange p i v ∨ s.pairFails u p i v then some stRange
      else if ¬ s.markHolds p i then some stState
      else if (p = P.fgPrio ∨ p = P.fgRetry) ∧ s.par P.fgState i ≠ 0 ∧ s.par P.fgState i ≠ 4 then some stState
      else if p = P.timeSet ∧ s.par P.timeState ≠ 4 then some stState
      else if p = P.jtCalCmd ∧ v ≠ 0 ∧ (s.fanner.pulse.find? fun e => decide (e.1 = i)).isSome then some stBusy
      else if p = P.jtCalCmd ∧ v ≠ 0 ∧ s.jtCalRefused i then some stNotReady
      else none

/-- The first failing item with its answer. -/
def State.firstBad (s : State) (items : List (Nat × Nat)) : Option (Nat × Nat) :=
  let u := s.staged items
  (items.zipIdx).findSome? fun x => (s.judgeItem u x.1).map fun st => (x.2, st)

/-! ### Effects -/

/-- A parameter whose write is a step of its own (the rows SB_EN, SB_RECOVER, TIME_SET, HIVE_EN_WRITE, TH_ACK, JT_CAL_CMD and
FG_DISABLE). -/
def ownRow (p : Par) : Bool :=
  [P.sbEn, P.sbRecover, P.timeSet, P.hiveEn, P.thAck, P.jtCalCmd, P.fgDisable].contains p

/-- The bridges of a running lane that use a parameter of chapter 4, which keep its old value until their next SE (R190). -/
def State.bridgesUsing (s : State) (p : Par) (i : Nat) : List Nat :=
  if p.base < 0x6000 ∨ 0x6100 ≤ p.base then []
  else (upto 4).filter fun b =>
    (decide (0x6090 ≤ p.base) || (if p.base < 0x6080 then decide (b = i) else decide (s.parN P.brLink b = i))) &&
      (match s.axisOfBridge b with
        | some k => (s.lane (s.laneOf k)).running
        | none => false)

/-- Those bridges keep the value a parameter has, where they do not keep an older one. -/
def State.keepBridge (s : State) (p : Par) (i j : Nat) : State :=
  (s.bridgesUsing p i).foldl (fun s b =>
    let x := s.bridge b
    s.setBridge b { x with held := tset x.held (p.pn i j) (tget x.held (s.par p i j) (p.pn i j)) }) s

/-- A parameter keeps its value until what takes it next: the next tick of its axis for Tables 7.8, 9.15 and 10.10, the next sample of its
link for Table 7.9, the next status frame of its cells for Tables 9.12 to 9.14, the next reading for TH_GRACE, TH_FLOOR and NTC_R25
(R317, R408, R450). -/
def State.keepDrive (s : State) (p : Par) (i j : Nat) : State :=
  let n := p.base
  let keep (t : Tab Int) : Tab Int := tset t (p.pn i j) (tget t (s.par p i j) (p.pn i j))
  let axis (k : Nat) (s : State) : State := s.modAx k fun a => { a with speed := { a.speed with held := keep a.speed.held } }
  let cells (gs : List Nat) : State := each gs s fun g s => s.setCell g { s.cell g with held := keep (s.cell g).held }
  if 0x1300 ≤ n ∧ n < 0x1500 then axis i s
  else if 0x5003 ≤ n ∧ n < 0x5010 then cells (cellsOfBridge i)
  else if 0x5080 ≤ n ∧ n < 0x50A0 then s.setLink i { s.link i with held := keep (s.link i).held }
  else if 0x5100 ≤ n ∧ n < 0x51D0 then cells [i]
  else if 0x51D0 ≤ n ∧ n < 0x51E0 then cells [12]
  else if p = P.thGrace ∨ p = P.thFloor then { s with fanner := { s.fanner with held := keep s.fanner.held } }
  else if p = P.ntcR25 then { s with fanner := { s.fanner with ntcHeld := keep s.fanner.ntcHeld } }
  else if 0x7180 ≤ n ∧ n < 0x7400 then
    match s.axisOfBridge (if n < 0x7200 then i else i / 6) with
    | some k => axis k s
    | none => s
  else s

/-- A plain write: the value stored, or held for the freed lane (R675). A write of SENSOR_OFFSET ends SENSOR_RELATIVE (R196), one of JT_I1
the calibration of its switch (R438). -/
def State.writePlain (s : State) (p : Par) (i j : Nat) (v : Int) : State :=
  if s.heldPar p i then { s with service := { s.service with held := tset s.service.held (p.pn i j) v } }
  else if p = P.combId ∧ (upto 4).any fun q => decide (s.combState q = 1) then
    ({ s with swarm := { s.swarm with combId := some s.combIdNow } } : State).setPar p v
  else if p = P.sensorOffset then
    (s.setPar p v i j |>.setBit P.posStatus 9 false i).modAx i fun a => { a with pos := { a.pos with learned := false, offMoved := false } }
  else
    let s := ((s.keepBridge p i j).keepDrive p i j).setPar p v i j
    if p = P.jtI1 then s.setPar P.jtCal 0 i
    else if p = P.lane ∨ p = P.bridgeMask then s.copyLanes
    else s

/-- A write with a step of its own. -/
def State.writeRow (s : State) (p : Par) (i : Nat) (v : Int) : State :=
  let n := v.toNat
  if p = P.sbEn then sbEnWrite i n s
  else if p = P.sbRecover then sbRecover n s
  else if p = P.timeSet then timeSet n s
  else if p = P.hiveEn then s.hiveEnSet n
  else if p = P.thAck then (if n = 1 then thAck s else s.setPar P.thAck 0)
  else if p = P.jtCalCmd then jtCalCmd i n s
  else if p = P.fgDisable then fgDisableWrite i n s
  else s

/-- The items of an accepted SET written: plain values first, then the writes that act at once. -/
def State.applyItems (s : State) (items : List (Nat × Nat)) : State :=
  let f (row : Bool) (s : State) (it : Nat × Nat) : State :=
    match findPar it.1 with
    | some (p, i, j) =>
      if p.acc ≠ .owner ∨ ownRow p ≠ row then s
      else if row then s.writeRow p i (p.valueOf it.2) else s.writePlain p i j (p.valueOf it.2)
    | none => s
  items.foldl (f true) (items.foldl (f false) s)

/-- PARAMETER_WRITE: one write of a parameter without a row of its own, judged under R480. -/
def parameterWrite (pn v : Nat) (s : State) : State :=
  match findPar pn with
  | some (p, _, _) => if ownRow p ∨ (s.firstBad [(pn, v)]).isSome then s else s.applyItems [(pn, v)]
  | none => s

end Sys2Proof.Machine
end

