-- ==== Sys2Proof/Machine/Attic.lean ====
section
/-!
DEFINITION. The Attic (chapter 12): the slot map, the judgement of ATTIC_WRITE, programming, reading, and the load at BOOT.
-/
namespace Sys2Proof.Machine

/-! ### Slot map (Tables 12.7, 13.9, R602) -/

/-- One field of a slot: its low bit, its width, and what one unit of it is worth in its parameter. -/
structure SlotField where
  slot : Nat
  lo : Nat
  width : Nat
  unit : Nat := 1
  deriving DecidableEq, Repr

/-- A parameter (instance) that an Attic slot sets, with the fields that make it up. -/
structure SlotPar where
  par : Par
  idx : Nat := 0
  fields : List SlotField
  deriving DecidableEq, Repr

/-- The parameters of slots 0 to 8. -/
def slotPars : List SlotPar :=
  [{ par := P.stoFilt, fields := [⟨0, 0, 16, 1⟩] }, { par := P.stoDiscTime, fields := [⟨0, 16, 16, 1⟩] },
   { par := P.ss1Time, fields := [⟨0, 32, 16, 1⟩] }, { par := P.ss1En, fields := [⟨0, 48, 1, 1⟩] },
   { par := P.carrierCap, fields := [⟨1, 0, 32, 1⟩] }, { par := P.dgEnable, fields := [⟨1, 32, 5, 1⟩] },
   { par := P.ecMode, idx := 0, fields := [⟨2, 0, 4, 1⟩] }, { par := P.ecMode, idx := 1, fields := [⟨2, 4, 4, 1⟩] },
   { par := P.ecMode, idx := 2, fields := [⟨2, 8, 4, 1⟩] }, { par := P.ecMode, idx := 3, fields := [⟨2, 12, 4, 1⟩] },
   { par := P.hiveId, fields := [⟨3, 0, 16, 1⟩] }, { par := P.hiveMember, fields := [⟨3, 16, 4, 1⟩] }] ++
  [{ par := P.heartbeatTo, fields := [⟨5, 0, 16, 10⟩] }, { par := P.emergDelay, fields := [⟨5, 16, 16, 10⟩] },
   { par := P.loaderMinRank, fields := [⟨5, 32, 4, 1⟩] }, { par := P.ownConfig, fields := [⟨5, 36, 3, 1⟩] },
   { par := P.nodeAddr, fields := [⟨6, 0, 15, 1⟩] },
   { par := P.addrPool, fields := [⟨6, 16, 7, 1⟩, ⟨6, 23, 7, 128⟩, ⟨6, 15, 1, 16384⟩] },
   { par := P.swarmNodes, fields := [⟨7, 0, 15, 1⟩] }, { par := P.tmRank, fields := [⟨8, 0, 4, 1⟩] }]

/-- Number of bits a slot uses; the bits above are reserved (Tables 12.7, 13.9, R602). -/
def slotBits (slot : Nat) : Nat :=
  match slot with
  | 0 => 49 | 1 => 37 | 2 => 16 | 3 => 20 | 4 => 32 | 5 => 39 | 6 => 30 | 7 => 15 | 8 => 4
  | _ => 64

/-- The value of a parameter in slot values. -/
def SlotPar.value (p : SlotPar) (slot : Nat → Nat) : Nat :=
  p.fields.foldl (fun a f => a + bitField (slot f.slot) (f.lo + f.width - 1) f.lo * f.unit) 0

/-- A value of a slot that ATTIC_WRITE takes (R510 step 1). -/
def State.slotValueOk (s : State) (slot v : Nat) : Bool :=
  decide (slot < 64) && !(decide (11 ≤ slot) && decide (slot ≤ 15)) && decide (v < 2 ^ slotBits slot) &&
    slotPars.all fun p => p.fields.all (fun f => decide (f.slot ≠ slot)) ||
      (let x := p.value fun _ => v
       decide (x = 0) || s.inRange p.par p.idx x)

/-! ### Writing (R510 to R512, R520) -/

/-- A key slot (Table 12.7). -/
def keySlot (slot : Nat) : Bool := decide (48 ≤ slot)

/-- The judgement of ATTIC_WRITE after the checks of Table 11.3 (R510). -/
def State.judgeAttic (s : State) (n slot v : Nat) : Nat :=
  let x := s.sess n
  let g := s.newestGen slot
  if ¬ s.slotValueOk slot v then stRange
  else if keySlot slot ∧ x.transport ≠ .spi ∧ x.transport ≠ .porch then stLocked
  else if ((upto 4).any fun k => s.keyProv k) ∧ ¬ x.auth then stLocked
  else if s.parN P.vsupV < 1800 ∨ s.tooCold then stNotReady
  else if s.attic.job.isSome then stBusy
  else if s.erasedGen slot = none ∧ (g = 0 ∨ (s.gen slot g).value ≠ v) then stLocked
  else stAccepted

/-- The programming of a generation begins: it holds nothing valid until its read-back. -/
def State.atticStart (s : State) (j : AtticJob) : State := { s with attic := { s.attic with job := some j } }

/-- ATTIC_WRITE after its ACCEPTED reply (R511): the newest valid value again completes DONE at once. -/
def State.atticWrite (s : State) (n seq slot v : Nat) : State :=
  let g := s.newestGen slot
  if g ≠ 0 ∧ (s.gen slot g).value = v then s.complete 0x61 n seq stDone
  else match s.erasedGen slot with
    | none => s.complete 0x61 n seq stLocked
    | some e => s.atticStart { slot := slot, gen := e, value := v, sess := n, seq := seq, at_ := s.now, client := (s.sess n).clientId }

/-- ATTIC_WRITTEN of a generation (Table 12.8). -/
def State.atticWritten (s : State) (slot g st n : Nat) : State :=
  s.notify 8 5 slot (leBytes 1 g ++ leBytes 1 st ++ leBytes 2 n)

/-- The end of the write: its completion, to the session that began it while that is open. -/
def State.atticEnd (s : State) (j : AtticJob) (status : Nat) : State :=
  let s : State := { s with attic := { s.attic with job := none } }
  if j.told then s.complete 0x61 j.sess j.seq status else s

/-- What an ATTIC_WRITE programs into its generation: the value, its check bits, whose code the manual does not give (log entry 241), and
the journal entry (R507). -/
def State.atticGen (s : State) (j : AtticJob) (state : Nat) : Gen :=
  { state := state, value := j.value, check := (Config.atticCheck (BitVec.ofNat 64 j.value) (BitVec.ofNat 4 j.gen)).toNat,
    sess := j.sess, client := j.client, time := s.swarmMicros }

/-- ATTIC_PROGRAM_DONE (R507, R511, R520): the read-back passes, or the generation is marked failed and the next is tried once. -/
def atticProgramDone (pass : Bool) (s : State) : State :=
  match s.attic.job with
  | none => s
  | some j =>
    let x := s.atticGen j (if pass then 1 else 2)
    let s := (s.setGen j.slot j.gen x).atticWritten j.slot j.gen x.state j.sess
    if pass then s.atticEnd j stDone
    else
      let s := s.incPar P.atticFails
      match s.erasedGen j.slot with
      | some g => if j.retried then s.atticEnd j stLocked else s.atticStart { j with gen := g, retried := true, at_ := s.now }
      | none => s.atticEnd j stLocked

/-- A power loss during programming leaves a generation that fails its check (R511). -/
def State.atticPowerLoss (s : State) : State :=
  match s.attic.job with
  | none => s
  | some j =>
    let s := s.setGen j.slot j.gen (s.atticGen j 2)
    { s with attic := { s.attic with job := none } }

/-! ### Reading (R513) -/

/-- The reply of ATTIC_READ after its length check. -/
def State.atticRead (s : State) (slot g : Nat) : Bytes :=
  if 64 ≤ slot ∨ 8 < g then leBytes 1 stRange
  else
    let g := if g = 0 then s.newestGen slot else g
    let x : Gen := if g = 0 then {} else s.gen slot g
    let v := if keySlot slot ∨ x.state = 0 then 0 else x.value
    leBytes 1 stDone ++ leBytes 1 slot ++ leBytes 1 g ++ leBytes 1 x.state ++ leBytes 4 0 ++ leBytes 8 v

/-- The reply of ATTIC_JOURNAL after its length check. -/
def State.atticJournal (s : State) (slot g : Nat) : Bytes :=
  if 64 ≤ slot ∨ g = 0 ∨ 8 < g then leBytes 1 stRange
  else
    let x := s.gen slot g
    let x : Gen := if x.state = 0 then {} else x
    leBytes 1 stDone ++ leBytes 1 slot ++ leBytes 1 g ++ leBytes 1 0 ++ leBytes 2 x.sess ++ leBytes 2 0 ++ leBytes 8 x.client ++ leBytes 8 x.time

/-! ### The load at BOOT (Table 2.6, R509, R514, R522, Table 2.7) -/

/-- The value of a slot that the load brings in force. -/
def State.loadSlot (s : State) (k : Nat) : State :=
  let g := s.newestGen k
  let v := if g = 0 then 0 else (s.gen k g).value
  let a := s.attic
  let s : State := { s with attic := { a with mirror := tset a.mirror k v, genIn := tset a.genIn k g,
                                              inForce := if g = 0 then a.inForce else k :: a.inForce } }
  if (s.gensIn k 2).any fun h => decide (g < h) then s.report 0x0A07 0xFF 0 ("CTL/ATTIC/" ++ dec k) else s

/-- A parameter of a slot: its field, or its default where the field is 0 (R508, R522). -/
def State.loadSlotPar (s : State) (p : SlotPar) : State :=
  let v := p.value s.slot
  s.setPar p.par (if v = 0 then p.par.dflt.value p.idx 0 else v) p.idx

/-- The Attic load: generations that now fail their check are failed, then each slot and each parameter is loaded. -/
def State.atticLoad (s : State) (failed : List (Nat × Nat)) : State :=
  let s := failed.foldl (fun (s : State) f =>
    if f.1 < 64 ∧ 1 ≤ f.2 ∧ f.2 ≤ 8 ∧ (s.gen f.1 f.2).state = 1 then s.setGen f.1 f.2 { s.gen f.1 f.2 with state := 2 } else s) s
  let s : State := { s with attic := { s.attic with mirror := [], inForce := [], genIn := [], bootGens := s.attic.gens } }
  slotPars.foldl (fun s p => s.loadSlotPar p) (each (upto 64) s fun k s => s.loadSlot k)

end Sys2Proof.Machine
end

