-- ==== Sys2Proof/Machine/Interp.lean ====
section
/-!
DEFINITION. The command interpreter (R451 to R470): taking a packet from an input queue, the checks of Table 11.3, and the reply.
-/
namespace Sys2Proof.Machine

/-! ### Packets as commands -/

/-- A command packet taken apart (Table 11.1). -/
structure Pkt where
  op : Nat
  flags : Nat
  sess : Nat
  seq : Nat
  payload : Bytes
  raw : Bytes
  deriving DecidableEq, Repr

/-- The fields of a packet whose byte count is right (R451). -/
def parsePkt (bs : Bytes) : Pkt :=
  { op := field bs 0 1, flags := field bs 1 1, sess := field bs 2 2, seq := field bs 4 2,
    payload := (bs.drop 8).take (field bs 6 2), raw := bs }

/-- AUTH and MORE of the flags. -/
def Pkt.auth (p : Pkt) : Bool := decide (p.flags / 16 % 2 = 1)
def Pkt.more (p : Pkt) : Bool := decide (p.flags / 32 % 2 = 1)

/-- The opcodes of Tables 11.9 to 11.11. -/
def opcodes : List Nat :=
  [0x01, 0x02, 0x03, 0x04, 0x05, 0x06, 0x10, 0x11, 0x12, 0x13, 0x14, 0x20, 0x21, 0x22, 0x23, 0x24, 0x25, 0x26, 0x30, 0x31] ++
  [0x40, 0x41, 0x42, 0x50, 0x51, 0x60, 0x61, 0x62, 0x70, 0x71, 0x72, 0x73, 0x74, 0x75, 0x76, 0x7F]

/-! ### Taking a packet (R468, R469, R476) -/

/-- The interpreter may take a command of a transport, whose turn it is or not (R469, R756). -/
def State.canServe (s : State) (tp : Transport) : Bool :=
  s.serving && (!s.loader || decide (tp = .spi) || decide (tp = .porch)) && s.dev.pendingBoot.isNone &&
    decide (replyRoom ≤ s.freeBytes (outQ tp)) && !s.waits (outQ tp)

/-- The transports in the order of their turns after the one served last (R468). -/
def State.turns (s : State) : List Transport :=
  ([.spi, .swarm, .ring, .porch, .spi, .swarm, .ring, .porch].drop (s.servedLast % 4 + 1)).take 4

/-- The interpreter takes the next command from a transport: the first in turn that has one to take (R468, R469). -/
def State.mayServe (s : State) (tp : Transport) : Bool :=
  s.canServe tp && !((s.turns.takeWhile fun u => decide (u ≠ tp)).any fun u => s.canServe u && !(s.queue (inQ u)).isEmpty)

/-- Blocks of Q14 taken until a packet is complete: the packet with its source, and the state without the blocks. -/
def State.ringPull (s : State) : Nat → Option (Bytes × Nat) × State
  | 0 => (none, s)
  | n + 1 =>
    match s.queue 14 with
    | [] => (none, s)
    | e :: _ =>
      let r := (s.pop 14).segment true 0 e.dest (field e.data 1 1) (field e.data 0 1) e.at_ (e.data.drop 2)
      match r.2 with
      | some pkt => (some (pkt, e.dest), r.1)
      | none => r.1.ringPull n

/-- The turn of a transport whose queue holds an entry (R468). -/
def State.served (s : State) (tp : Transport) : State := if (s.queue (inQ tp)).isEmpty then s else { s with servedLast := transportCode tp }

/-- The oldest packet of a transport with its origin, and the state after it is taken in its turn. -/
def State.front (s : State) (tp : Transport) : Option (Bytes × Origin) × State :=
  let s := s.served tp
  match tp with
  | .ring =>
    let r := s.ringPull (s.queue 14).length
    (r.1.map fun x => (x.1, { tp := tp, source := x.2 }), r.2)
  | _ =>
    match s.queue (inQ tp) with
    | [] => (none, s)
    | e :: _ => (some (e.data, { tp := tp, source := if tp = .swarm then e.dest else 0, port := if tp = .swarm then e.port else 0 }), s.pop (inQ tp))

/-! ### Steps 1 to 4 of Table 11.3 -/

/-- A session is open, and bound to the origin of a packet (R461). -/
def State.bound (s : State) (n : Nat) (o : Origin) : Bool :=
  let x := s.sess n
  decide (1 ≤ n ∧ n ≤ 256) && x.isOpen && decide (x.transport = o.tp) && decide (x.source = o.source)

/-- The answer of the first of steps 1 to 4 that fails. -/
def State.headCheck (s : State) (o : Origin) (bs : Bytes) : Option Nat :=
  let p := parsePkt bs
  let len := field bs 6 2
  if 1024 < len ∨ bs.length ≠ 12 + len + (if p.auth then 8 else 0) then some stBadLength
  else if crc32c (bs.take (bs.length - 4)) ≠ field bs (bs.length - 4) 4 then some stBadCheck
  else if ¬ opcodes.contains p.op ∨ 64 ≤ p.flags ∨ p.flags % 16 ≠ 0 ∨ (p.more ∧ p.op ≠ 0x13) then some stBadOpcode
  else if p.op = 0x01 then (if p.sess ≠ 0 then some stNoSession else none)
  else if ¬ s.bound p.sess o then some stNoSession
  else none

/-- Payload of a refusing reply: the status, with FIRST_BAD 0xFFFF for SET and SET_BLOCK (R456). -/
def refusal (op status : Nat) : Bytes :=
  if op = 0x11 ∨ op = 0x13 then leBytes 1 status ++ leBytes 1 0 ++ leBytes 2 0xFFFF else leBytes 1 status

/-- The reply to a command that fails at steps 1 to 6, with its counter (R458, Table 11.15). -/
def State.badReply (s : State) (o : Origin) (p : Pkt) (status : Nat) : State :=
  let s := if status = stBadLength then s.incPar P.rxBadLength
    else if status = stBadCheck then s.incPar P.rxBadCheck
    else if status = stBadSequence then s.incPar P.rxBadSeq else s
  s.sendTo o (packet p.op 0x80 p.sess p.seq (refusal p.op status) none)

/-! ### Steps 5 to 10 -/

/-- Command classes (R478). -/
inductive Cls where
  | session | read | write
  deriving DecidableEq, Repr

/-- What an opcode answers: the state, the payloads of its reply (none where the reply comes later), whether the end of the
reply starts BOOT, and what follows the reply. -/
structure Ans where
  st : State
  payloads : List Bytes
  boot : Bool := false
  after : State → State := id

/-- An answer of one status byte. -/
def ansStatus (s : State) (status : Nat) : Ans := { st := s, payloads := [leBytes 1 status] }

/-- An opcode: its class, the device states of Table 2.3, its payload lengths, which of its packets a row of the table means,
and its effect for a session and a packet. -/
structure Cmd where
  op : Nat
  cls : Cls
  states : List DevState
  len : Pkt → Bool
  sub : Pkt → Bool := fun _ => true
  /-- The PNs that it names as items to write. -/
  items : Pkt → List Nat := fun _ => []
  run : State → Nat → Pkt → Ans

/-- The parameters among some PNs that are protected. -/
def protCount (pns : List Nat) : Nat :=
  (pns.filter fun pn => match findPar pn with
    | some (p, _, _) => decide (p.acc = .prot)
    | none => false).length

/-- Violations counted for a session (R504, R505). -/
def State.violate (s : State) (n k : Nat) : State :=
  if k = 0 then s
  else (s.setSess n { s.sess n with violations := min 4294967295 ((s.sess n).violations + k) }).incPar P.violTotal 0 0 k

/-- Step 5: AUTH and tag as R454 requires. -/
def Session.tagOk (x : Session) (p : Pkt) : Bool :=
  match x.tagKey with
  | none => !p.auth
  | some k => p.auth && decide ((p.raw.drop (8 + p.payload.length)).take 8 = packetTag k (p.raw.take (8 + p.payload.length)))

/-- A command of a session passes step 5: idle timer, proof, port, and the owner's heartbeat (R461, R463, R464, R519). -/
def State.touch (s : State) (n : Nat) (o : Origin) : State :=
  let s := s.setSess n { s.sess n with idleAt := s.houseNow, liveAt := some s.houseNow, proven := true, port := o.port }
  if s.owner.session = n then { s with owner := { s.owner with hbAt := s.houseNow } } else s

/-- A command whose reply is still to come: an IMAGE_LOAD that programs, or a SNAPSHOT that waits for its anchor. -/
def State.deferred (s : State) (n seq : Nat) : Bool :=
  (match s.service.load with
   | some j => decide (j.sess = n) && decide (j.seq = seq)
   | none => false) || s.snaps.any fun w => decide (w.sess = n) && decide (w.seq = seq)

/-- Steps 7 to 10 of a command of session n that has used up its sequence. -/
def State.execute (s : State) (c : Cmd) (n : Nat) (p : Pkt) : Ans :=
  if ¬ c.len p then { st := s.incPar P.rxBadLength, payloads := [refusal p.op stBadLength] }
  else if c.cls = .write ∧ s.owner.session ≠ n then { st := s.violate n (1 + protCount (c.items p)), payloads := [refusal p.op stDone] }
  else if ¬ c.states.contains s.dev.st then { st := s, payloads := [refusal p.op stState] }
  else c.run s n p

/-- Steps 5 to 10 of a command packet of an open session, and its reply. -/
def State.serveSession (s : State) (c : Cmd) (o : Origin) (p : Pkt) : State :=
  let n := p.sess
  let x := s.sess n
  if ¬ x.tagOk p then s.badReply o p stBadCheck
  else
    let s := s.touch n o
    if p.seq ≠ x.nextSeq then
      let back := (x.nextSeq + 65536 - p.seq) % 65536
      let old := if 1 ≤ back ∧ back ≤ 4 then x.retained.find? fun r => decide (r.seq = p.seq) else none
      match old with
      | some r => r.packets.foldl (fun s b => s.sendOrWait n b false true) s
      | none => if s.deferred n p.seq then s else s.badReply o p stBadSequence
    else
      let s := s.setSess n { s.sess n with nextSeq := (x.nextSeq + 1) % 65536, block := if p.op = 0x13 ∧ c.len p ∧ s.owner.session = n ∧ c.states.contains s.dev.st then x.block else none }
      let a := s.execute c n p
      a.after (if a.payloads = [] then a.st else a.st.replyRun n p.op p.seq a.payloads a.boot)

/-- One command packet of a transport served by the row of an opcode: nothing happens where the interpreter takes no command
or the oldest packet is another row's. -/
def State.serve (s : State) (tp : Transport) (c : Cmd) : State :=
  if ¬ s.mayServe tp then s
  else
    let f := s.front tp
    match f.1 with
    | none => f.2
    | some (bs, o) =>
      let p := parsePkt bs
      if bs.length < 8 ∨ (s.headCheck o bs).isSome ∨ p.op ≠ c.op ∨ ¬ c.sub p then s else f.2.serveSession c o p

/-- REJECTED_PACKET: the oldest packet fails one of steps 1 to 4. A reassembled packet without a whole header is dropped. -/
def State.serveRejected (s : State) (tp : Transport) : State :=
  if ¬ s.mayServe tp then s
  else
    let f := s.front tp
    match f.1 with
    | none => f.2
    | some (bs, o) =>
      if bs.length < 8 then f.2
      else match s.headCheck o bs with
        | some status => f.2.badReply o (parsePkt bs) status
        | none => s

/-! ### Payload helpers -/

/-- Device states of Table 2.3. -/
def anyState : List DevState := [.boot, .idle, .test, .recovery, .service]
def notBoot : List DevState := [.idle, .test, .recovery, .service]

/-- A payload of a fixed length. -/
def lenIs (n : Nat) (p : Pkt) : Bool := decide (p.payload.length = n)

/-- n PNs from an offset of a payload. -/
def pnsAt (bs : Bytes) (off n : Nat) : List Nat := (upto n).map fun i => field bs (off + 2 * i) 2

/-- The protected items that a session reads without being owner (R504). -/
def State.readViolations (s : State) (n : Nat) (pns : List Nat) : Nat := if s.owner.session = n then 0 else protCount pns

/-- Pieces of at most n elements of a list. -/
def pieces {α : Type} (n : Nat) : Nat → List α → List (List α)
  | 0, _ => []
  | f + 1, xs => if xs.isEmpty then [] else xs.take n :: pieces n f (xs.drop n)

end Sys2Proof.Machine
end

