-- ==== Sys2Proof/Machine/Owner.lean ====
section
/-!
DEFINITION. Ownership (chapter 12): ranks, election, handover, the loss of the owner, the ownerless timer, and the close of a session.
-/
namespace Sys2Proof.Machine

def ms (n : Nat) : Nat := n * 1000000

/-! ### Ranks (R493, R494) -/

/-- The client-table entry that matches a CLIENT_ID: the lowest slot in use with its ID. -/
def State.clientEntry (s : State) (id : Nat) : Option Nat :=
  (upto 15).find? fun e => let v := s.slot (16 + e); decide (v ≠ 0) && decide (v / 256 = id % 2 ^ 56)

/-- Fields of a client-table entry (Table 12.1). -/
def State.entryRank (s : State) (e : Nat) : Nat := bitField (s.slot (16 + e)) 7 4
def State.entryKey (s : State) (e : Nat) : Nat := bitField (s.slot (16 + e)) 3 2
def State.entryAuthReq (s : State) (e : Nat) : Bool := decide (bitField (s.slot (16 + e)) 1 1 = 1)
def State.entryPreempt (s : State) (e : Nat) : Bool := decide (bitField (s.slot (16 + e)) 0 0 = 1)

/-- Rank of a session at OPEN. -/
def State.rankOf (s : State) (entry : Option Nat) (auth : Bool) : Nat :=
  if bit (s.par P.ownConfig) 1 ∧ ¬ auth then 0
  else match entry with
    | some e => if s.entryAuthReq e ∧ ¬ auth then 0 else s.entryRank e
    | none => if bit (s.par P.ownConfig) 0 then 0 else 1

/-! ### Changes of owner (R496 to R502) -/

/-- OWNER event data of a change (Table 12.8). -/
def ownerData (old new cause rank : Nat) : Bytes := leBytes 2 old ++ leBytes 2 new ++ leBytes 1 cause ++ leBytes 1 rank

/-- The election window ends: its claimants complete LOCKED, but for one that is owner now. -/
def State.endElection (s : State) (winner : Nat) : State :=
  match s.owner.election with
  | none => s
  | some e =>
    let s : State := { s with owner := { s.owner with election := none } }
    e.claims.foldl (fun s c => s.complete 0x04 c.1 c.2 (if c.1 = winner then stDone else stLocked)) s

/-- The open handover offer ends with a status. -/
def State.endOffer (s : State) (status : Nat) : State :=
  match s.owner.offer with
  | none => s
  | some o =>
    let s : State := { s with owner := { s.owner with offer := none } }
    let s := s.setSess o.target { s.sess o.target with offered := false }
    s.complete 0x06 o.sess o.seq status

/-- A session becomes owner. -/
def State.becomeOwner (s : State) (n cause : Nat) : State :=
  let old := s.owner.session
  let s : State := { s with owner := { s.owner with session := n, hbAt := s.houseNow, ownerlessAt := none, delayed := false } }
  let s := s.setSess n { s.sess n with ownedSince := s.swarmMicros }
  let s := (s.setPar P.ownerCause cause).incPar P.ownerChanges
  (s.endOffer stLocked).notify 8 0 0xFF (ownerData old n cause (s.sess n).rank)

/-- A session that the backup order may name for an entry (R501). -/
def State.mayFollow (s : State) (e old n : Nat) : Bool :=
  let x := s.sess n
  decide (x.entry = e) && decide (1 ≤ x.rank) && (!s.entryAuthReq e || x.proven) && decide (n ≠ old) &&
    x.liveAt.any fun t => decide (s.houseNow ≤ t + ms (s.parN P.heartbeatTo))

/-- The steps of the backup order, up to the first 0 (Table 12.4). -/
def State.backupSteps (s : State) : List Nat :=
  ((upto 16).map fun k => bitField (s.slot 31) (4 * k + 3) (4 * k)).takeWhile fun v => decide (v ≠ 0)

/-- The successor of R501. -/
def State.successor (s : State) (old : Nat) : Option Nat :=
  s.backupSteps.findSome? fun v => s.openSessions.find? fun n => s.mayFollow (v - 1) old n

/-- Ownership ends without a handover: OWNER_LOST, and the walk of the backup order (R500 to R502). -/
def State.loseOwner (s : State) (cause : Nat) : State :=
  let old := s.owner.session
  if old = 0 then s
  else
    let s : State := { s with owner := { s.owner with session := 0 } }
    let s := (s.setPar P.ownerCause cause).incPar P.ownerChanges
    let s := s.notify 8 1 0xFF (ownerData old 0 cause 0)
    let s := s.endOffer stLocked
    match s.successor old with
    | some n => (s.becomeOwner n 1).endElection 0
    | none =>
      let s := s.notify 8 3 0xFF (leBytes 2 old)
      { s with owner := { s.owner with ownerlessAt := some s.houseNow, delayed := false } }

/-! ### Closing a session (R465, R497) -/

/-- A session closes: its subscriptions, retained replies, key and waiting packets end; the operations it began continue
without a completion. -/
def State.closeSession (s : State) (n : Nat) : State :=
  if ¬ (s.sess n).isOpen then s
  else
    let s := if s.waiting.any fun w => decide (w.sess = n) && w.boot then s.bootNow else s
    let s : State := { s with waiting := s.waiting.filter fun w => decide (w.sess ≠ n),
                              snaps := s.snaps.filter fun w => decide (w.sess ≠ n),
                              ops := s.ops.map fun o => if o.sess = n then { o with sess := 0 } else o,
                              attic := { s.attic with job := s.attic.job.map fun j => if j.sess = n then { j with told := false } else j },
                              service := { s.service with load := s.service.load.map fun j => if j.sess = n then { j with sess := 0 } else j } }
    let s := s.setSess n { violations := (s.sess n).violations }
    let left := s.owner.election.map fun e => { e with claims := e.claims.filter fun c => decide (c.1 ≠ n) }
    let offer := s.owner.offer.map fun f => if f.sess = n then { f with sess := 0 } else f
    let left := left.bind fun e => if e.claims.isEmpty then none else some e
    let s : State := { s with owner := { s.owner with election := left, offer := offer } }
    let s := if s.owner.offer.map (·.target) = some n then s.endOffer stNoSession else s
    if s.owner.session = n then s.loseOwner 6 else s

/-! ### Election window and handover offer -/

/-- The winner of a window: the highest rank, on a tie the lowest number (R496). -/
def State.winnerOf (s : State) (cs : List (Nat × Nat)) : Option Nat :=
  cs.foldl (fun w c => match w with
    | none => some c.1
    | some v => if (s.sess v).rank < (s.sess c.1).rank ∨ ((s.sess v).rank = (s.sess c.1).rank ∧ c.1 < v) then some c.1 else some v) none

/-- ELECTION_CLOSE (R496). -/
def electionClose (s : State) : State :=
  match s.owner.election with
  | none => s
  | some e =>
    if ¬ s.firmware ∨ s.houseNow < e.at_ + ms 50 then s
    else match s.winnerOf e.claims with
      | some n => (s.becomeOwner n 0).endElection n
      | none => s.endElection 0

/-- HANDOVER_LAPSE (R498). -/
def handoverLapse (s : State) : State :=
  match s.owner.offer with
  | none => s
  | some o => if s.serving ∧ o.at_ + ms 1000 ≤ s.houseNow then s.endOffer stLocked else s

/-! ### CLAIM, RELEASE and HANDOVER after their replies -/

/-- CLAIM (R495, R496, R498; R77 in the boot loader), after a window or an offer whose time has run out has ended. -/
def State.claim (s : State) (n seq : Nat) : State :=
  let s := electionClose (handoverLapse s)
  let x := s.sess n
  let o := s.owner.session
  let offered : Bool := match s.owner.offer with
    | some f => decide (f.target = n)
    | none => false
  if s.loader then
    if o = n ∨ (o = 0 ∧ s.parN P.loaderMinRank ≤ x.rank) then
      let s := if o = n then s else s.becomeOwner n 0
      s.complete 0x04 n seq stDone
    else s.complete 0x04 n seq stLocked
  else if o = n then s.complete 0x04 n seq stDone
  else if o ≠ 0 then
    if offered then
      match s.owner.offer with
      | none => s
      | some f =>
        let s : State := { s with owner := { s.owner with offer := none } }
        let s := (s.setSess n { x with offered := false }).becomeOwner n 2
        (s.complete 0x04 n seq stDone).complete 0x06 f.sess f.seq stDone
    else if x.entry ≠ 0xFF ∧ s.entryPreempt x.entry ∧ (s.sess o).rank < x.rank then
      (s.becomeOwner n 3).complete 0x04 n seq stDone
    else s.complete 0x04 n seq stLocked
  else if x.rank = 0 then s.complete 0x04 n seq stLocked
  else
    let e : Election := s.owner.election.getD { at_ := s.houseNow }
    { s with owner := { s.owner with election := some { e with claims := e.claims ++ [(n, seq)] } } }

/-- A CLAIM of a session that is already in the window (R484). -/
def State.claiming (s : State) (n : Nat) : Bool :=
  match s.owner.election with
  | some e => e.claims.any fun c => decide (c.1 = n)
  | none => false

/-- HANDOVER after its reply (R498): the offer goes to its target, whatever its EVENT_MASK, and as an OWNER event to the sessions that ask for
the class (R485, R520). -/
def State.handover (s : State) (n seq target : Nat) : State :=
  let y := s.sess target
  if ¬ y.isOpen then s.complete 0x06 n seq stNoSession
  else if y.rank = 0 ∨ target = n ∨ ¬ y.proven then s.complete 0x06 n seq stLocked
  else
    let s : State := { s with owner := { s.owner with offer := some ⟨target, s.houseNow, n, seq⟩ } }
    let s := s.setSess target { y with offered := true }
    s.openSessions.foldl (fun s m =>
      if m = target ∨ (s.sess m).eventMask / 256 % 2 = 1 then s.notifyTo m 8 0xFF 0x0802 (ownerData n target 2 y.rank) else s) s

/-! ### Timers -/

/-- OWNER_HEARTBEAT_TIMEOUT (R500). -/
def ownerHeartbeatTimeout (s : State) : State :=
  if s.serving ∧ s.owner.session ≠ 0 ∧ s.owner.hbAt + ms (s.parN P.heartbeatTo) ≤ s.houseNow then s.loseOwner 4 else s

/-- EMERGENCY_DELAY (R502, R306): every axis that may enters EMERGENCY, once the delay is over or, where it came into such a state
later, then (Table 2.4). -/
def emergencyDelay (s : State) : State :=
  match s.owner.ownerlessAt with
  | none => s
  | some t0 =>
    if ¬ s.firmware ∨ s.owner.session ≠ 0 ∨ s.houseNow < t0 + ms (s.parN P.emergDelay) then s
    else
      let first := !s.owner.delayed
      let s : State := { s with owner := { s.owner with delayed := true } }
      let ks := (upto 4).filter fun k => s.emgAllowed k
      let s := each ks s fun k s => s.enterEmergency k
      if first then (s.notify 8 4 0xFF (leBytes 1 (maskOf ks))).emergency 0xF002 0xFF 0 else s

/-- SESSION_IDLE_TIMEOUT (R463) of session n. -/
def sessionIdleTimeout (n : Nat) (s : State) : State :=
  let x := s.sess n
  if s.serving ∧ x.isOpen ∧ x.idleAt + ms x.timeoutMs ≤ s.houseNow then s.closeSession n else s

/-- AUTH_PROOF_TIMEOUT (R519) of session n. -/
def authProofTimeout (n : Nat) (s : State) : State :=
  let x := s.sess n
  if s.serving ∧ x.isOpen ∧ x.auth ∧ ¬ x.proven ∧ x.openedAt + ms 1000 ≤ s.houseNow then s.closeSession n else s

end Sys2Proof.Machine
end

