-- ==== Sys2Proof/Machine/AxisCmds.lean ====
section
/-!
DEFINITION. Axis and device commands (Table 11.10): ENABLE, PRECHECK, DISABLE, QUICKSTOP, SETPOINT, MODE and FAULT_CLEAR
(Tables 2.2 and 2.4, R57, R65, R211, R278, R283, R310, R390, R402, R403, R758).
-/
namespace Sys2Proof.Machine

/-! ### PRECHECK and ENABLE (R758) -/

/-- The third condition of R758 apart from the start method: cold limit, THERMAL_SD, an absent cell, a DG pin in direct mode high. -/
def State.notReady (s : State) (k : Nat) : Bool :=
  decide (s.parN P.thCold = 2) || decide (tget s.cellar.causes 0 3 ≠ 0) ||
    (s.cellsOf k).any (fun g => bit (s.par P.cellAbsent) g) ||
    (s.bridgesOf k).any fun b => s.directBridge b && (chansOfBridge b).any fun c => (s.chan c).dg

/-- The refusal that PRECHECK and ENABLE share: the first of conditions 1 to 3 that holds. -/
def State.axisRefused (s : State) (k : Nat) : Option Nat :=
  let st := (s.ax k).st
  if s.cellar.demand ∨ st = .sto then some stStoActive
  else if st = .faultLatched ∨ st = .faultRetry then some stFaultActive
  else if s.notReady k then some stNotReady
  else none

/-- PRECHECK of an axis. -/
def State.precheckCmd (s : State) (n seq k : Nat) : Ans :=
  match s.axisRefused k with
  | some r => ansStatus s r
  | none =>
    match (s.ax k).st with
    | .precheck => ansStatus s stBusy
    | .disabled =>
      let s := s.startOp { opcode := 0x24, target := k, sess := n, seq := seq, at_ := s.now }
      { ansStatus s stAccepted with after := fun s => (s.moveAxis k .precheck).beginDiag k false }
    | _ => ansStatus s stState

/-- ENABLE of an axis. -/
def State.enableCmd (s : State) (k : Nat) : Ans :=
  if (s.ax k).st = .emergency then
    if tget s.cellar.causes 0 3 ≠ 0 then ansStatus s stNotReady else
    let t := s.arb k 7
    ansStatus (if t.2 then (t.1.endPrecheckCells k).beginStop k .enable .ready else t.1) stDone
  else match s.axisRefused k with
  | some r => ansStatus s r
  | none =>
    match s.startMethod k with
    | none => ansStatus s stNotReady
    | some row => if (s.ax k).st = .ready then ansStatus ((s.moveAxis k .running).startSwitching k row) stDone else ansStatus s stState

/-- A TARGET byte that names an axis, or RANGE (R478). -/
def axisTarget (s : State) (p : Pkt) (f : Nat → Ans) : Ans :=
  let k := field p.payload 0 1
  if k < 4 then f k else ansStatus s stRange

def cmdPrecheck : Cmd :=
  { op := 0x24, cls := .write, states := [.idle, .test], len := lenIs 1, run := fun s n p => axisTarget s p fun k => s.precheckCmd n p.seq k }

def cmdEnable : Cmd :=
  { op := 0x20, cls := .write, states := [.idle, .service], len := lenIs 1, run := fun s _ p => axisTarget s p fun k => s.enableCmd k }

/-! ### DISABLE and QUICKSTOP (R283) -/

/-- A stop that an owner's DISABLE or QUICKSTOP may replace. -/
def Axis.ownerStop (a : Axis) : Bool :=
  decide (a.st = .stopping) && (match a.stop with
    | .ss1 => false
    | .houseSilent => false
    | .fault _ _ => false
    | _ => a.hearth.silentTau.isNone)

/-- A stop of an axis by the owner, where no higher trigger of the period discards it. A scout start that has not released the shaft
ends with it (Table 5.7). -/
def State.ownerStop (s : State) (k : Nat) (kind : StopKind) (fin : StopEnd) : State :=
  let t := s.arb k 7
  if t.2 then
    let s := t.1
    let s := if (s.ax k).pos.scouting then s.dropProc k else s
    (s.endPrecheckCells k).beginStop k kind fin
  else t.1

/-- DISABLE: the transition of Table 2.4 where one exists. -/
def State.disableAxis (s : State) (k : Nat) : State :=
  match (s.ax k).st with
  | .precheck => (s.endPrecheck k stState).moveAxis k .disabled
  | .ready => s.moveAxis k .disabled
  | .running => s.ownerStop k .disable .disabled
  | .limp => s.ownerStop k .disable .disabled
  | .emergency => s.ownerStop k .disable .disabled
  | .stopping => if (s.ax k).ownerStop then s.ownerStop k .disable .disabled else s
  | _ => s

/-- QUICKSTOP: the same with its own ramp and end state. -/
def State.quickstopAxis (s : State) (k : Nat) : State :=
  match (s.ax k).st with
  | .running => s.ownerStop k .quickstop .ready
  | .limp => s.ownerStop k .quickstop .ready
  | .emergency => s.ownerStop k .quickstop .ready
  | .stopping => if (s.ax k).ownerStop then s.ownerStop k .quickstop .ready else s
  | _ => s

def cmdDisable : Cmd :=
  { op := 0x21, cls := .write, states := notBoot, len := lenIs 1, run := fun s _ p => axisTarget s p fun k => ansStatus (s.disableAxis k) stDone }

def cmdQuickstop : Cmd :=
  { op := 0x25, cls := .write, states := notBoot, len := lenIs 1,
    run := fun s _ p =>
      if field p.payload 0 1 = 0xFF then ansStatus (each (upto 4) s fun k s => s.quickstopAxis k) stDone
      else axisTarget s p fun k => ansStatus (s.quickstopAxis k) stDone }

/-! ### SETPOINT (R278) and MODE of an axis -/

/-- SETPOINT: the value is stored in every state but EMERGENCY; the hive axis takes it in place of the hive's speed. -/
def State.setpointCmd (s : State) (k v : Nat) : Ans :=
  if (s.ax k).st = .emergency then ansStatus s stState
  else
    let s := s.modAx k fun a => { a with speed := { a.speed with setpoint := signed 32 v } }
    ansStatus (if s.hiveAx = k then { s with ring := { s.ring with wTaken := none } } else s) stDone

def cmdSetpoint : Cmd :=
  { op := 0x22, cls := .write, states := notBoot, len := lenIs 8,
    run := fun s _ p => axisTarget s p fun k => s.setpointCmd k (field p.payload 4 4) }

/-- MODE of an axis: one SET of CTRL_MODE and AXIS_CMD. -/
def State.modeAxis (s : State) (k m : Nat) : Ans :=
  if 3 < m then ansStatus s stRange
  else
    let items := [(P.ctrlMode.pn k 0, m / 2), (P.axisCmd.pn k 0, m % 2)]
    match s.firstBad items with
    | some (_, st) => ansStatus s st
    | none => ansStatus (s.applyItems items) stDone

/-- Packets of MODE that name the device. -/
def toDevice (p : Pkt) : Bool := decide (field p.payload 0 1 = 0xFF)

def cmdModeAxis : Cmd :=
  { op := 0x23, cls := .write, states := notBoot, len := lenIs 2, sub := fun p => !(toDevice p),
    run := fun s _ p => axisTarget s p fun k => s.modeAxis k (field p.payload 1 1) }

/-! ### The device (Table 2.2, R57, R65) -/

/-- The axis states of TEST (Table 2.1). -/
def AxState.testOk : AxState → Bool
  | .disabled | .precheck | .ready | .faultRetry | .faultLatched | .sto => true
  | _ => false

/-- MODE of the device. -/
def State.modeDevice (s : State) (m : Nat) : Ans :=
  let st := s.dev.st
  if st = .recovery ∧ m ≠ 2 then ansStatus s stState
  else if m ≠ 2 ∧ m ≠ 3 ∧ m ≠ 5 then ansStatus s stRange
  else if st = .recovery ∨ m = st.code then ansStatus s stDone
  else if st = .idle then
    if m = 3 then
      if (upto 4).all fun k => (s.ax k).st.testOk then ansStatus (s.moveDev .test) stDone else ansStatus s stState
    else ansStatus (s.moveDev .service) stDone
  else if m ≠ 2 then ansStatus s stState
  else if st = .service ∧ s.svcBusy ≠ 0 then ansStatus s stBusy
  else ansStatus (s.moveDev .idle) stDone

def cmdModeDevice : Cmd :=
  { op := 0x23, cls := .write, states := notBoot, len := lenIs 2, sub := toDevice, run := fun s _ p => s.modeDevice (field p.payload 1 1) }

/-- FAULT_CLEAR of the device (R65). -/
def State.clearDevice (s : State) : Ans :=
  if s.dev.st ≠ .recovery then ansStatus s stDone
  else if (s.pair s.active).live ∧ s.standbyOk then
    let s := (s.unstandCode 0x0A03 0).unstandCode 0x0A03 1
    ansStatus ((s.setPar P.recoveryCause 0).moveDev .idle) stDone
  else ansStatus s stFaultActive

def cmdFaultClearDevice : Cmd :=
  { op := 0x26, cls := .write, states := notBoot, len := lenIs 1, sub := toDevice, run := fun s _ _ => s.clearDevice }

/-! ### FAULT_CLEAR of an axis (R395, R402, R403) -/

/-- A CHOP_FAULT on a link cleared, once its channel shows neither desaturation nor a current-sense trip and G12 is free of its faults (R403). -/
def State.clearChopper (s : State) (l : Nat) : State :=
  let c := chopCh l
  if (s.link l).chopFault ∧ ¬ ((s.chan c).desat ∧ (s.chan c).on) ∧ ¬ (s.chan c).ocTrip ∧ ¬ s.stands 0x0106 12 ∧ ¬ s.stands 0x0105 c then
    let s := s.setLink l { s.link l with chopFault := false, regenBlock := false, riseRun := 0 }
    let s := s.freeChans [c]
    ((s.setBit P.linkStatus 0 false l).setBit P.linkStatus 4 false l).unstandCode 0x0604 l
  else s

/-- An OC_BACKSTOP of a bridge released, once no detector is above OC_LEVEL (Table 9.7, bit 5). -/
def State.clearBackstop (s : State) (b : Nat) : State :=
  if s.cellar.backstop.contains b ∧ ¬ (s.bridge b).oc then
    let bs := s.cellar.backstop.filter fun x => decide (x ≠ b)
    let s : State := { s with cellar := { s.cellar with backstop := bs, causes := tset s.cellar.causes 5 (maskOf (bs.flatMap cellsOfBridge)) } }
    s.unstandCode 0x0902 b
  else s

/-- FAULT_CLEAR of an axis. -/
def State.clearAxisCmd (s : State) (k : Nat) : Ans :=
  let s := if (s.bridgesOf k).isEmpty then s else s.clearChopper (s.linkOf k)
  let s := each (s.bridgesOf k) s fun b s => s.clearBackstop b
  if (s.ax k).st ≠ .faultLatched then ansStatus s stDone
  else if s.causesClear k then
    let t := s.arb k 7
    if t.2 then ansStatus ((t.1.clearAxis k).moveAxis k .disabled) stDone else ansStatus t.1 stFaultActive
  else ansStatus s stFaultActive

def cmdFaultClearAxis : Cmd :=
  { op := 0x26, cls := .write, states := notBoot, len := lenIs 1, sub := fun p => !(toDevice p),
    run := fun s _ p => axisTarget s p fun k => s.clearAxisCmd k }

end Sys2Proof.Machine
end

