-- ==== Sys2Proof/Machine/Pantry.lean ====
section
/-!
DEFINITION. The Pantry (chapter 16): samples, compression, frames, arming and stopping, read-out, and fault records.
-/
namespace Sys2Proof.Machine

def State.panChan (s : State) (c : Nat) : PanChan := tget s.pantry.chans {} c
def State.setPanChan (s : State) (c : Nat) (x : PanChan) : State :=
  { s with pantry := { s.pantry with chans := tset s.pantry.chans c x } }

/-! ### Shaping (Table 16.2, R642) -/

def fmtWide (f : Nat) : Bool := f / 128 % 2 = 1
def fmtSigned (f : Nat) : Bool := f / 64 % 2 = 1

/-- The range of stored values of a format. -/
def fmtLo (f : Nat) : Int := if fmtSigned f then (if fmtWide f then s32lo else -32768) else 0
def fmtHi (f : Nat) : Int :=
  if fmtSigned f then (if fmtWide f then s32hi else 32767) else if fmtWide f then u32hi else 65535

/-- Stored value of a 32-bit source value (R642). -/
def panStored (f v : Nat) : Int :=
  let x : Int := if fmtSigned f then signed 32 v else (v % 4294967296 : Nat)
  clamp (x / (2 ^ (f % 32) : Nat)) (fmtLo f) (fmtHi f)

/-! ### Compression (R649 to R651) -/

/-- Prediction of the next sample from the reconstructed values in the frame, newest first. -/
def panPredict (f : Nat) : List Int → Int
  | [] => 0
  | [a] => clamp a (fmtLo f) (fmtHi f)
  | a :: b :: _ => clamp (2 * a - b) (fmtLo f) (fmtHi f)

/-- One sample: its zigzag code and its reconstructed value. -/
def panCode (k f : Nat) (hist : List Int) (x : Int) : Nat × Int :=
  let p := panPredict f hist
  let st : Int := 2 * k + 1
  let e := x - p
  let q := sgn e * ((iabs e + k) / st)
  ((if 0 ≤ q then 2 * q else -2 * q - 1).toNat, clamp (p + q * st) (fmtLo f) (fmtHi f))

/-- The codes of a run of samples, and the last two reconstructed values after it. -/
def panCodes (k f : Nat) : List Int → List Int → List Nat × List Int
  | hist, [] => ([], hist)
  | hist, x :: r =>
    let c := panCode k f hist x
    let q := panCodes k f ((c.2 :: hist).take 2) r
    (c.1 :: q.1, q.2)

/-- Bits of the Rice codes of a block with parameter m. -/
def riceLen (m : Nat) (us : List Nat) : Nat := us.foldl (fun a u => a + u / 2 ^ m + 1 + m) 0

/-- The lowest m with the fewest bits. -/
def riceBest (us : List Nat) : Nat := (upto 32).foldl (fun b m => if riceLen m us < riceLen b us then m else b) 0

/-- The low n bits of a value, bit n − 1 first. -/
def msbBits (v : Nat) : Nat → List Bool
  | 0 => []
  | n + 1 => decide (v / 2 ^ n % 2 = 1) :: msbBits v n

/-- Rice code of one value. -/
def riceBits (m u : Nat) : List Bool := List.replicate (u / 2 ^ m) true ++ false :: msbBits u m

/-- A block: its header and its codes. -/
def panBlockBits (c index : Nat) (us : List Nat) : List Bool :=
  let m := riceBest us
  msbBits (c * 0x8000000 + m * 0x400000 + (us.length - 1) * 0x40000 + index % 0x40000) 32 ++ us.flatMap (riceBits m)

/-- Bits written from bit 7 of each byte downwards. -/
def packBits : Nat → List Bool → Bytes
  | 0, _ => []
  | n + 1, bs => BitVec.ofNat 8 (ofBits (((bs.take 8) ++ List.replicate 8 false).take 8).reverse) :: packBits n (bs.drop 8)

/-! ### Frames (R646, R653) -/

/-- Bits of blocks that a frame holds. -/
def frameBits : Nat := 4064 * 8

/-- The 4,096 bytes of a closed frame (Table 16.5). -/
def PanFrame.bytes (f : PanFrame) (last degraded : Bool) : Bytes :=
  let h := leBytes 4 f.seq ++ leBytes 2 f.bits.length ++ leBytes 1 (ofBits [f.trig, degraded, last]) ++ leBytes 1 0 ++
    leBytes 8 f.time ++ leBytes 8 f.uptime ++ leBytes 4 0
  let b := packBits 4064 f.bits
  h ++ leBytes 4 (crc32c (h ++ b)) ++ b

/-- A frame opened: the ring drops its oldest frame where it is full. -/
def State.panOpen (s : State) : State :=
  let p := s.pantry
  let fs := p.frames.drop (p.frames.length - 4079)
  let f : PanFrame := { seq := p.nextSeq, time := s.swarmMicros, uptime := s.uptime }
  { s with pantry := { p with frames := fs, cur := some f, nextSeq := p.nextSeq + 1,
                              chans := p.chans.map fun c => (c.1, { c.2 with hist := [] }) } }

/-- The recording stops with a cause of Table 16.4. -/
def State.panStop (s : State) (cause st : Nat) : State :=
  ({ s with pantry := { s.pantry with stop := cause } }).setPar P.panState st

/-- The open frame closes; `forced` at the end by R644 or R648. -/
def State.panClose (s : State) (forced : Bool) : State :=
  let p := s.pantry
  match p.cur with
  | none => s
  | some f =>
    let left := p.left.map (· - 1)
    let full := (decide (p.mode = 0) && decide (left = some 0)) || (decide (p.mode = 1) && decide (p.frames.length = 4079))
    let bytes := f.bytes (forced || full) (bit (s.par P.clkStatus) 0)
    let s : State := { s with pantry := { p with frames := p.frames ++ [⟨f.seq, bytes⟩], cur := none, left := left } }
    if full ∧ ¬ forced then s.panStop 1 3 else s

/-- A block of a channel written into the open frame; where it does not fit, the frame closes and the block is coded again for
the next one (R649, R652, R654). -/
def State.panPut (s : State) (c : Nat) : State :=
  let x := s.panChan c
  let first := x.index - x.block.length
  let write (s : State) (hist : List Int) : State :=
    let q := panCodes s.pantry.k x.fmt hist x.block
    let bs := panBlockBits c first q.1
    let p := s.pantry
    let rate := (s.now, bs.length) :: p.rate.filter fun e => decide (s.now < e.1 + 1000000000)
    let s : State := { s with pantry := { p with cur := p.cur.map fun f => { f with bits := f.bits ++ bs }, rate := rate } }
    let s := s.setPanChan c { s.panChan c with hist := q.2, block := [] }
    if s.par P.panStream = 1 then s.enter 28 (packBits ((bs.length + 7) / 8) bs) [] else s
  match s.pantry.cur with
  | none => s
  | some f =>
    let need := (panBlockBits c first (panCodes s.pantry.k x.fmt x.hist x.block).1).length
    if f.bits.length + need ≤ frameBits then write s x.hist
    else
      let s := s.panClose false
      if s.panOn then write s.panOpen [] else s

/-- The blocks in progress written, the frame closed, and the recording ended (R644, R648). -/
def State.panEnd (s : State) (cause : Nat) : State :=
  if s.panOn then
    let s := each (upto 32) s fun c s => if s.panOn ∧ (s.panChan c).block ≠ [] then s.panPut c else s
    if s.panOn then (s.panClose true).panStop cause 0 else s.setPar P.panState 0
  else s.setPar P.panState 0

/-- The recording discarded, its header written anew, and the Pantry armed (R644). -/
def State.panArm (s : State) : State :=
  let chan (c : Nat) : PanChan :=
    { src := s.parN P.panSrc c, pace := s.parN P.panPace c, fmt := s.parN P.panFmt c }
  let p : Pantry := { made := true, mode := s.parN P.panMode, k := s.parN P.panK, armAt := s.now, armTime := s.swarmMicros,
                      armUptime := s.uptime, records := s.pantry.records, rate := s.pantry.rate,
                      chans := (upto 32).filterMap fun c => if (chan c).src / 0x10000000 = 0 then none else some (c, chan c) }
  (({ s with pantry := p }).panOpen).setPar P.panState 1

/-! ### Sampling (R641, R645) -/

/-- The 32-bit source value of a channel (R642); one the manual does not state is free. -/
def State.panSource (s : State) (x : PanChan) : Nat × State :=
  match x.src / 0x10000000 with
  | 1 => match s.pantry.records.find? fun r => decide (r.1 = x.src / 0x10000 % 4) with
    | some r => if x.src % 0x10000 + 4 ≤ 0x280 then (field r.2 (x.src % 0x10000) 4, s) else s.draw 32
    | none => s.draw 32
  | 2 => match s.readPn 0 true (x.src % 0x10000) with
    | some q => (unsigned 32 q.2, s)
    | none => s.draw 32
  | _ => s.draw 32

/-- A stored value crosses PAN_TRIG_LEVEL in a direction that PAN_TRIG names. -/
def State.panCrosses (s : State) (c : Nat) (last : Option Int) (v : Int) : Bool :=
  match last with
  | none => false
  | some u =>
    let lv := s.par P.panTrigLevel
    decide (s.parN P.panTrigCh = c) &&
      ((bit (s.par P.panTrig) 2 && decide (u < lv ∧ lv ≤ v)) || (bit (s.par P.panTrig) 3 && decide (lv ≤ u ∧ v < lv)))

/-- A sample of a channel that is due: its period record has come, or its time since the arm has passed. -/
def State.panDue (s : State) (c : Nat) : Bool :=
  let x := s.panChan c
  s.panOn && decide (x.src / 0x10000000 ≠ 0) &&
    (if x.pace < 0x80000000 then decide (0 < x.due) else decide (s.pantry.armAt + x.index * (x.pace % 0x8000000) * 10 = s.now))

/-- PANTRY_SAMPLE (R641, R642, R645, R649). -/
def pantrySample (c : Nat) (s : State) : State :=
  if s.panDue c = false then s
  else
    let x := s.panChan c
    let src := s.panSource x
    let s := src.2
    let v := panStored x.fmt src.1
    let s := if s.panCrosses c x.last v then s.panTrigger 3 0 (some (c, x.index)) else s
    let s := s.setPanChan c { x with due := x.due - 1, index := x.index + 1, block := x.block ++ [v], last := some v }
    if x.block.length + 1 = 16 then s.panPut c else s

/-! ### Read-out (R655, Tables 16.4 and 16.6) -/

/-- Read-out index of the frame open at the trigger. -/
def Pantry.trigFrame (p : Pantry) : Nat :=
  match p.trigSeq with
  | none => 0xFFFF
  | some q => match p.frames.findIdx? fun f => decide (f.seq = q) with
    | some i => i
    | none => 0xFFFF

/-- The recording header (Table 16.4). -/
def Pantry.header (p : Pantry) : Bytes :=
  let chan (c : Nat) : Bytes :=
    let x := tget p.chans {} c
    leBytes 4 x.src ++ leBytes 4 x.pace ++ leBytes 1 x.fmt ++ leBytes 3 0 ++ leBytes 4 (x.armPeriod.getD 0)
  let h := leBytes 2 0x0100 ++ leBytes 1 p.mode ++ leBytes 1 p.k ++ leBytes 4 (maskOf (p.chans.map (·.1))) ++
    leBytes 8 p.armTime ++ leBytes 8 p.armUptime ++ leBytes 8 p.trigTime ++ leBytes 8 p.trigUptime ++
    leBytes 2 p.frames.length ++ leBytes 2 p.trigFrame ++ leBytes 1 p.trigCause ++ leBytes 1 p.stop ++ leBytes 1 p.trigCh ++
    leBytes 1 0 ++ leBytes 4 p.trigSidx ++ leBytes 2 p.faultCode ++ List.replicate 10 0#8 ++ (upto 32).flatMap chan ++
    List.replicate 0xDBC 0#8
  h ++ leBytes 4 (crc32c h)

/-- A fault record entry (Table 16.6). -/
def FRec.bytes (e : FRec) : Bytes :=
  let cx (i : Nat) : Nat := unsigned 32 (e.context.getD i 0)
  let h := leBytes 4 e.seq ++ leBytes 2 e.code ++ leBytes 1 e.subject ++ leBytes 1 e.safe ++ leBytes 8 e.time ++ leBytes 8 e.uptime ++
    leBytes 2 e.node ++ leBytes 1 (ofBits [e.degraded, e.latched, e.secondary, e.cleared, e.restored]) ++ leBytes 1 e.devState ++
    leBytes 1 e.axState ++ leBytes 1 e.path.length ++ leBytes 2 e.rep ++ ((pathBytes e.path) ++ List.replicate 40 0#8).take 40 ++
    leBytes 4 (cx 0) ++ leBytes 4 (cx 1) ++ leBytes 4 (cx 2) ++ leBytes 2 (cx 3) ++ leBytes 2 0 ++ leBytes 4 (cx 4) ++ leBytes 4 (cx 5) ++
    leBytes 4 (cx 6) ++ leBytes 4 0 ++ leBytes 8 e.clearedTime ++ leBytes 4 e.frameRef ++ leBytes 8 0
  h ++ leBytes 4 (crc32c h)

/-- A slot of the fault record ring; one that holds no entry reads zeros. -/
def State.frBytes (s : State) (j : Nat) : Bytes :=
  match s.faultRing.find? fun e => decide (e.1 = j) with
  | some e => e.2.bytes
  | none => List.replicate 128 0#8

/-- Length of a read-out area. -/
def State.panAreaLen (s : State) (area : Nat) : Nat := if area = 0 then 4096 * (s.pantry.frames.length + 1) else 32768

/-- Bytes of a 4,096-byte page of area 0 or of a 128-byte slot of area 1. -/
def State.panPage (s : State) (area i : Nat) : Bytes :=
  if area = 0 then
    match i with
    | 0 => if s.pantry.made then s.pantry.header else List.replicate 4096 0#8
    | j + 1 => match s.pantry.frames[j]? with
      | some f => f.bytes
      | none => List.replicate 4096 0#8
  else s.frBytes i

/-- n bytes of an area from an offset; the words of `bad` (offsets of 8) read 0 (R639). -/
def State.panBytes (s : State) (area off n : Nat) (bad : List Nat) : Bytes :=
  let sz := if area = 0 then 4096 else 128
  let lo := off / sz
  let pages := (upto ((off + n + sz - 1) / sz - lo)).flatMap fun i => s.panPage area (lo + i)
  let bs := (pages.drop (off - lo * sz)).take n
  if bad.isEmpty then bs
  else (bs.zipIdx).map fun x => if bad.contains ((off + x.2) / 8) then 0#8 else x.1

/-! ### Copies of the fault records (R658) -/

/-- FAULT_RECORD_COPY: an entry with a change is copied into the configuration area. -/
def faultRecordCopy (j : Nat) (s : State) : State :=
  match s.faultRing.find? fun e => decide (e.1 = j) with
  | none => s
  | some e =>
    if e.2.dirty ∧ s.firmware then
      let s : State := { s with faultRing := tset s.faultRing j { e.2 with dirty := false } }
      { s with service := { s.service with faultCopy := tset s.service.faultCopy j { e.2 with dirty := false },
                                           copyNext := s.parN P.frNext, copyCount := s.parN P.frCount, copySeq := s.parN P.frSeq } }
    else s

/-- The ring restored at a BOOT from OFF: the copies, marked RESTORED, then the entries that this BOOT has written as the newest. -/
def State.frRestore (s : State) : State :=
  let v := s.service
  let mine := (s.ringSlots.reverse).map fun k => tget s.faultRing {} k
  let old : Tab FRec := v.faultCopy.map fun e => (e.1, { e.2 with restored := true, dirty := true })
  let s : State := { s with faultRing := old }
  let s := ((s.setPar P.frNext v.copyNext).setPar P.frCount v.copyCount).setPar P.frSeq v.copySeq
  mine.foldl (fun s e =>
    let k := s.parN P.frNext
    let s := s.incPar P.frSeq
    let s : State := { s with faultRing := tset s.faultRing k { e with seq := s.parN P.frSeq, dirty := true } }
    (s.setPar P.frNext ((k + 1) % 256 : Nat)).incSat P.frCount 256) s

end Sys2Proof.Machine
end

