-- ==== Sys2Proof/Machine/Boot.lean ====
section
/-!
DEFINITION. Power and boot (chapter 2): the power-on reset and the brown-out, the boot sequence of Table 2.6 with the failures of
Table 2.7, the starts of BOOT by SOFT_RESET, and the lost-crystal degraded mode.
-/
namespace Sys2Proof.Machine

/-! ### What an entry to BOOT, or OFF, leaves (R70, R79, R648, R658, R689) -/

/-- The Attic with its power: the generations, and the write in progress, which no session is told of (R465, R511). -/
def Attic.kept (a : Attic) : Attic := { gens := a.gens, job := a.job.map fun j => { j with told := false } }

/-- A wing whose load is cut off holds an invalid image (R58, R662). -/
def State.cutLoad (s : State) : Tab Wing :=
  match s.service.load with
  | some j => tset s.service.wings j.wing { s.wing j.wing with st := 4 }
  | none => s.service.wings

/-- The flash die: wings, pointer, and the copy of the fault record ring. -/
def State.keptFlash (s : State) : Service :=
  { wings := s.cutLoad, pointer := s.service.pointer, faultCopy := s.service.faultCopy, copyNext := s.service.copyNext,
    copyCount := s.service.copyCount, copySeq := s.service.copySeq }

/-- The levels at the direct gate inputs. -/
def State.keptPins (s : State) : Tab Chan := ((upto 26).filter fun c => (s.chan c).dg).map fun c => (c, { dg := true })

/-- The levels at the encoder inputs. -/
def State.keptLines (s : State) : Tab Enc := s.encs.map fun e => (e.1, { a := e.2.a, b := e.2.b, z := e.2.z })

/-- Channels whose two-step soft-off, begun by the hold-off of BOOT, runs on (R70, R384). -/
def State.softChans (s : State) : Tab Chan :=
  let s := s.holdOff 0 (upto 13)
  ((upto 26).filter fun c => (s.chan c).dg || (s.chan c).on || decide ((s.chan c).soft ≠ .none)).map fun c => (c, { s.chan c with softSeen := false, softLatch := false, ocTrip := false, desat := false, uv := false })

/-- The levels at the STO inputs. -/
def Cellar.pins (c : Cellar) (now : Nat) : Cellar :=
  { stoA := c.stoA, stoB := c.stoB, stoAAt := c.stoAAt, stoBAt := c.stoBAt, diffSince := if c.stoA = c.stoB then none else some now }

/-- Everything at its cold value, but for what keeps its content without power and for the pins. -/
def State.coldState (s : State) : State :=
  { now := s.now, nextTag := s.nextTag, attic := s.attic.kept, service := s.keptFlash, config := s.config, wear := s.wear, chans := s.keptPins, encs := s.keptLines,
    cellar := s.cellar.pins s.now, feeds := s.feeds, free := s.free, pending := s.pending, porch := { ir := s.porch.ir, cells := s.porch.cells, tdo := s.porch.tdo },
    fanner := { wearAt := s.now } }

/-- The fault record ring as it stands, and the recording with its last frame closed: they live through a BOOT that is not from OFF. -/
def State.keepRecords (s old : State) : State :=
  let old := old.panEnd 3
  let s : State := { s with faultRing := old.faultRing, pantry := old.pantry }
  ((s.setPar P.frNext (old.par P.frNext)).setPar P.frCount (old.par P.frCount)).setPar P.frSeq (old.par P.frSeq)

/-- STO demanded from the start of BOOT: every axis in STO (R70, R392). -/
def State.stoAtBoot (s : State) (count : Nat) : State :=
  let s := { s with cellar := { s.cellar with demand := true, demandAt := s.now, causes := tset s.cellar.causes 1 0x1FFF } }
  each (upto 4) (s.setPar P.stoCount count) fun k s => s.modAx k fun a => { a with st := .sto }

/-- The start of BOOT: from OFF with the release of the power-on reset, or by SOFT_RESET (R71, R756). -/
def State.startBoot (s : State) (cause : Nat) (off : Bool) : State :=
  let x := s.coldState
  let x := { x with dev := { st := .boot, step := .crystal, bootAt := s.now, stepAt := s.now, porAt := if off then s.now else s.dev.porAt,
                             fromOff := off, supplyOk := s.dev.supplyOk, restarts := if off then [] else s.dev.restarts } }
  let x := if off then x else { x.keepRecords s with chans := s.softChans, nonces := s.nonces }
  let x := x.setPar P.bootCause cause
  if off then (if s.cellar.stoA ∧ s.cellar.stoB then x else x.stoAtBoot 1)
  else (if s.cellar.demand then x.stoAtBoot 0 else x)

/-- The module without power, or with its control die held in reset: two-step soft-off runs on in the gate cells (R729). -/
def State.goOff (s : State) : State :=
  let s := (s.holdOff 0 (upto 13)).atticPowerLoss
  let x := s.coldState
  { x with dev := { st := .off, supplyOk := s.dev.supplyOk, brown := s.dev.brown, scanReset := s.dev.scanReset },
           chans := s.chans, cells := s.cells, params := s.params }

/-! ### Power -/

/-- POWER_ON_RESET_RELEASE (R56, Table 2.2). -/
def powerOnRelease (s : State) : State :=
  if s.dev.st ≠ .off ∨ s.dev.supplyOk then s
  else
    let s := { s with dev := { s.dev with supplyOk := true } }
    s.startBoot (if s.dev.brown then 2 else 0) true

/-- BROWN_OUT (R56, R729). -/
def brownOut (s : State) : State :=
  if ¬ s.dev.supplyOk then s
  else
    let s : State := { s with dev := { s.dev with supplyOk := false, brown := true, scanReset := false },
                                feeds := [], porch := { s.porch with ir := 0xFE, cells := [], tdo := [] } }
    if s.dev.st = .off then s else s.goOff

/-! ### The steps of Table 2.6 -/

/-- The boot runs a step. -/
def State.inStep (s : State) (b : BootStep) : Bool := decide (s.dev.st = .boot) && decide (s.dev.step = b)

/-- The next step starts where a step ends (R71). -/
def State.toStep (s : State) (b : BootStep) : State := { s with dev := { s.dev with step := b, stepAt := s.now } }

/-- CRYSTAL_QUALIFIED: a count of 1 ms within 5.0 ms. -/
def crystalQualified (s : State) : State :=
  if s.inStep .crystal ∧ s.dev.stepAt + 1000000 ≤ s.now ∧ s.now ≤ s.dev.stepAt + 5000000 then s.toStep .pll else s

/-- CRYSTAL_TIMEOUT: the backup oscillator, where it lies within ±3 % (Table 2.7). -/
def crystalTimeout (inRange : Bool) (s : State) : State :=
  if s.inStep .crystal ∧ s.dev.stepAt + 5000000 ≤ s.now then
    if inRange then (s.setBit P.clkStatus 0 true).toStep .pll else s.toStep .held
  else s

def pllLocked (s : State) : State := if s.inStep .pll then s.toStep .selfTest else s
def cellarSelfTest (s : State) : State := if s.inStep .selfTest then s.toStep .attic else s

/-- ATTIC_LOAD with the generations (slot, number) that now fail their check. -/
def atticLoadStep (failed : List (Nat × Nat)) (s : State) : State := if s.inStep .attic then (s.atticLoad failed).toStep .larder else s

/-- The boot loader starts (R77). -/
def State.startLoader (s : State) : State := (s.setPar P.bootWing 2).toStep .loader

/-- LARDER_INIT: every word zero; a row of the given word may prove beyond repair (Table 2.7). -/
def larderInit (bad : Option Nat) (s : State) : State :=
  if ¬ s.inStep .larder then s
  else
    let s : State := { s with larder := [], eccErrs := [], queues := [] }
    match bad with
    | none => s.toStep .wings
    | some w =>
      let s := s.raiseModule 0x0A08 (wordOf w) (wordPath (wordOf w))
      { s.startLoader with dev := { s.startLoader.dev with larderLimited := true } }

/-- A wing passes the first two checks of R74. -/
def State.headOk (s : State) (w : Nat) : Bool := s.headerValid w && s.versionOk w

/-- A wing that failed a check: the other wing is tried, or the boot loader starts (R74, R77). -/
def State.wingFailed (s : State) : State :=
  let o := 1 - s.dev.wing
  if s.dev.second ∨ ¬ s.headOk o then s.startLoader
  else { s.toStep .imageCrc with dev := { (s.toStep .imageCrc).dev with wing := o, second := true } }

/-- WING_SELECTION (R74, R75): whether the pointer record passes its own check. -/
def wingSelection (ptrOk : Bool) (s : State) : State :=
  if ¬ s.inStep .wings then s
  else
    let s := if ptrOk then s else s.setBit P.bootFlags 3 true
    let w := if ptrOk then s.service.pointer else 0
    let s : State := { s with dev := { s.dev with wing := w, second := false } }
    if s.headOk w then s.toStep .imageCrc else s.wingFailed

/-- IMAGE_CRC_CHECK (R74, R76). -/
def imageCrcCheck (s : State) : State :=
  if ¬ s.inStep .imageCrc then s
  else if s.imageOk s.dev.wing then
    let s := if s.dev.second then s.setBit P.bootFlags 0 true else s
    (s.setPar P.bootWing s.dev.wing).toStep .lockstep
  else s.wingFailed

/-- LOCKSTEP_SELF_TEST (Tables 2.6 and 2.7): the results of pairs A and B. -/
def lockstepSelfTest (okA okB : Bool) (s : State) : State :=
  if ¬ s.inStep .lockstep then s
  else if ¬ okA ∧ ¬ okB then s.toStep (if s.dev.bootRetries < 3 then .retryWait else .held)
  else
    let w := s.dev.wing
    let p : Pair := { live := true, synced := false, wing := w }
    let q : Pair := if okA ∧ okB then { live := true, synced := true, wing := w } else {}
    let s := if okA then ((s.setPair 0 p).setPair 1 q).setPar P.activePair 0 else ((s.setPair 1 p).setPair 0 q).setPar P.activePair 1
    let s := if okA ∧ okB then s else s.setBit P.bootFlags 2 true
    s.toStep .config

/-- BOOT_SELF_TEST_RETRY (Table 2.7): the reset again, 1 s after both pairs failed. -/
def bootRetry (s : State) : State :=
  if s.inStep .retryWait ∧ s.dev.stepAt + 1000000000 ≤ s.now then
    let x := s.startBoot (s.parN P.bootCause) s.dev.fromOff
    { x with dev := { x.dev with bootRetries := s.dev.bootRetries + 1 } }
  else s

/-- A value of the configuration area taken for an owner-write parameter; one out of its range, reserved bits included, is left at the
default (R12, log entry 190). -/
def State.loadPar (s : State) (pn : Nat) (v : Int) : State :=
  match findPar pn with
  | some (p, i, _) => if p.acc = .owner ∧ s.inRange p i v then { s with params := tset s.params pn v } else s
  | none => s

/-- CONFIG_LOAD (R755, R447, R440, R658): whether the area passes its check, and the values it holds for owner-write parameters. -/
def configLoad (ok : Bool) (area : List (Nat × Int)) (s : State) : State :=
  if ¬ s.inStep .config then s
  else
    let s : State := if ok then
        let s := area.foldl (fun s e => s.loadPar e.1 e.2) s
        let s : State := s.config.foldl (fun s e => { s with params := tset s.params e.1 e.2 }) s
        match s.wear.head? with
        | some (life, cycles) =>
          let s := (s.setPar P.lifeUsed life).setPar P.lifeFrac (min 65535 (life * 10000 / 219000000) : Nat)
          each (upto 13) s fun g s => s.setPar P.cellCycles (cycles.getD g 0) g
        | none => s
      else s.setBit P.bootFlags 1 true
    let s := if ok ∧ s.dev.fromOff then s.frRestore else s
    s.toStep .training

/-- The swarm bus ports that the configuration enables, and the claim that follows (R70, R554). -/
def State.startPorts (s : State) : State :=
  let on := (upto 4).filter fun p => decide (s.par P.sbEn p = 1) && s.timingOk p
  let s := each on { s with swarm := { s.swarm with statusAt := s.now } } fun p s => s.sbStart p
  if on.any fun p => s.homeOf p then s.claimNow else s

/-- The BOOT event, the only notification without a session (R488). -/
def State.bootEvent (s : State) : State :=
  let data := leBytes 1 (s.parN P.bootCause) ++ leBytes 1 (s.parN P.bootWing) ++ leBytes 2 (s.parN P.bootFlags) ++ leBytes 4 (s.parN P.bootTime)
  s.push 16 (packet 0x30 0x40 0 0 (eventPayload 0 0xFF 0 0 s.swarmMicros data) none)

/-- CELL_LINK_TRAINING (Tables 2.6 and 2.7, R71): the mask of cells that do not train, the bootstrap voltages, and the counts of
the first Fanner window; the device then leaves BOOT. -/
def cellLinkTraining (absent : Nat) (bootV counts : List Nat) (s : State) : State :=
  if ¬ s.inStep .training then s
  else
    let s := s.setPar P.cellAbsent (absent % 0x2000 : Nat)
    let s := each (upto 13) s fun g s =>
      if absent / 2 ^ g % 2 = 1 then s
      else (s.setCell g { s.cell g with linkUp := true, linkAt := s.now }).setPar P.bootV (min 2500 (bootV.getD g 0) : Nat) g
    let s := each (upto 4) (tempWindow counts s) fun k s => s.takeCfg k (s.hearthCfg k)
    let alone := bit (s.par P.bootFlags) 2
    let st : DevState := if alone then .recovery else .idle
    let s : State := { s with dev := { s.dev with st := st, step := .done, stepAt := s.now, recoveryAt := s.now } }
    let s := if alone then s.setPar P.recoveryCause 4 else s
    let s := (s.setPar P.bootTime ((s.now - s.dev.bootAt) / 1000 : Nat)).dropCause 0
    let s := s.startPorts.hiveEffect
    let s : State := if bit (s.par P.ownConfig) 2 then { s with owner := { s.owner with ownerlessAt := some s.now } } else s
    s.bootEvent

/-! ### BOOT by command (R756) -/

/-- BOOT_AFTER_REPLY: the packet has left its queue, or 100 ms have passed. -/
def bootAfterReply (s : State) : State :=
  match s.dev.pendingBoot with
  | none => s
  | some b =>
    if s.porch.halt ≠ .full ∧ ((s.queue b.queue).all (fun e => decide (e.tag ≠ b.tag)) ∨ b.since + 100000000 ≤ s.now) then
      s.startBoot (if s.loader ∧ s.dev.verified then 3 else 1) false
    else s

/-! ### The reference (R25, R81 to R85, Table 2.9) -/

/-- REFERENCE_LOST. -/
def referenceLost (s : State) : State :=
  if s.dev.st = .off ∨ s.inStep .crystal ∨ s.inStep .held ∨ bit (s.par P.clkStatus) 0 then s
  else
    let s := { s.setBit P.clkStatus 0 true with swarm := { s.swarm with degradedAt := s.now } }
    let s := (if s.ring.on then s.ringSilence else s).endTimePart
    s.notify 0 2 0xFF []

/-- CRYSTAL_BACK. -/
def crystalBack (s : State) : State :=
  if s.dev.st ≠ .off ∧ bit (s.par P.clkStatus) 0 ∧ ¬ bit (s.par P.clkStatus) 1 then (s.setBit P.clkStatus 1 true).notify 0 3 0xFF [] else s

/-- CLOCK_CHECK_WINDOW (R25, Table 9.9): the deviation of ROOT in 0.01 %. -/
def clockCheck (dev : Int) (s : State) : State :=
  if s.dev.st = .off ∨ (-300 ≤ dev ∧ dev ≤ 300) ∨ s.stands 0x0A01 0 then s
  else
    let s := s.holdOff 4 (upto 13)
    let ks := (upto 4).filter fun k => match (s.ax k).st with
      | .disabled | .sto | .faultLatched => false
      | _ => true
    s.raiseAll 0x0A01 ks 0 "CTL/CLOCK"

end Sys2Proof.Machine
end

