-- ==== Sys2Proof/Machine/Due.lean ====
section
/-!
DEFINITION. What the block's own clocks bring about between commands: the steps of a control period 0.60, 0.90, 1.00 and
2.00 µs after its SE (Tables 1.7 and 6.2), and the end of a pulse of the pulse test (R439). A command acts on the state at its time.
-/
namespace Sys2Proof.Machine

/-- The lane whose next step comes first, at or before a time. A frame that ends in the moment of its SSI sample is checked before it. -/
def State.nextDue (s : State) (t : Nat) : Option Nat :=
  (upto 5).foldl (fun best n =>
    let l := s.lane n
    if l.stage = .idle ∨ t < l.dueAt ∨ (l.stage = .frame ∧ t = l.dueAt) then best
    else match best with
      | none => some n
      | some m => if l.dueAt < (s.lane m).dueAt then some n else best) none

/-- The next step of a lane's period. -/
def State.runStage (s : State) (n : Nat) : State :=
  match (s.lane n).stage with
  | .idle => s
  | .current => s.currentStage n
  | .frame => s.frameStage n
  | .record => s.recordStage n
  | .fuse => s.computeStage n

/-- The latest end of the pulse that a bridge's pulse test runs, if it comes before or at a time. -/
def State.pulseTill (s : State) (t b : Nat) : Option Nat :=
  match (s.pulseTest b).bind (·.pulse) with
  | some (_, e) => if e ≤ t then some e else none
  | none => none

/-- The bridge whose pulse ends first, at or before a time. -/
def State.nextPulse (s : State) (t : Nat) : Option (Nat × Nat) :=
  (upto 4).foldl (fun best b =>
    match s.pulseTill t b, best with
    | none, _ => best
    | some e, none => some (e, b)
    | some e, some m => if e < m.1 then some (e, b) else best) none

/-- The step that comes first, at or before a time, taken; none where none is due. -/
def State.dueStep (s : State) (t : Nat) : Option State :=
  match s.nextPulse t, s.nextDue t with
  | none, none => none
  | none, some n => some (s.runStage n)
  | some (e, b), none => some ((s.clock e).pulseOff b)
  | some (e, b), some n => some (if e < (s.lane n).dueAt then (s.clock e).pulseOff b else s.runStage n)

/-- The steps due up to a time, in their order; every lane has at most four, every bridge one. -/
def State.catchUp (t : Nat) : Nat → State → State
  | 0, s => s
  | f + 1, s =>
    match s.dueStep t with
    | none => s
    | some s' => State.catchUp t f s'

/-- What the block's own clocks have brought about up to a time; the commands that wait are the sender's. -/
def State.due (s : State) (t : Nat) : State := { s.catchUp t 24 with pending := s.pending }

/-- The state at the time a command carries: what was due before it has happened, and time does not run back (log entry 3). -/
def State.at (s : State) (t : Nat) : State := (s.due t).clock t

end Sys2Proof.Machine
end

