-- ==== Sys2Proof/Machine/Porch.lean ====
section
/-!
DEFINITION. The debug port (chapter 18): two-wire transactions, locking and unlocking, halts, breakpoints and watchpoints, the memory
and packet spaces, and the boundary-scan TAP.
-/
namespace Sys2Proof.Machine

/-! ### Transactions (R685, R686) -/

/-- The STATUS codes of Table 18.1. -/
def porchOk : Nat := 0b0110
def porchHold : Nat := 0b0011
def porchReject : Nat := 0b1001
def porchLocked : Nat := 0b1100

/-- One bit through the CRC-4 x⁴ + x + 1. -/
def crc4Bit (c : Nat) (b : Bool) : Nat :=
  let top := decide (8 ≤ c) != b
  Nat.xor (c * 2 % 16) (if top then 3 else 0)

/-- CRC-4 over bits in the order they are sent (R686). -/
def crc4 (bs : List Bool) : Nat := bs.foldl crc4Bit 15

/-- HCHK over cycles 5 to 15, and DCHK over 32 data bits. -/
def hchkOf (space : Nat) (wr : Bool) (addr : Nat) : Nat := crc4 (msbBits space 2 ++ [wr] ++ msbBits addr 8)
def dchkOf (data : Nat) : Nat := crc4 (msbBits data 32)

/-- The answer of a transaction. -/
def State.porchSay (s : State) (status : Nat) (data : Nat := 0) : State := { s with porch := { s.porch with status := status, rdata := data } }

/-- STICKY set (R686), REFUSED set (R695). -/
def State.porchBit (s : State) (k : Nat) : State :=
  { s with porch := { s.porch with stat := if s.porch.stat / 2 ^ k % 2 = 1 then s.porch.stat else s.porch.stat + 2 ^ k } }
def State.sticky (s : State) : State := s.porchBit 6
def State.refused (s : State) : State := s.porchBit 7

/-- The port works: power is on and no scan instruction holds the reset. -/
def State.porchOn (s : State) : Bool := s.answers

/-! ### Control space (Table 18.2) -/

/-- IDCODE (Table 18.5). -/
def idcode : Nat := Config.hwRev.toNat % 16 * 0x10000000 + 0x8160 * 0x1000 + 0x2B5 * 2 + 1

/-- The ordering code is FZ8160-MS (R690). -/
def State.isMs (s : State) : Bool := decide (s.par P.orderVariant = 1)

/-- LOCK_CMD acts: FZ8160-MX, a verifier in the Attic, no lockout (R690, R691, R693). -/
def State.lockActs (s : State) : Bool := !s.isMs && !(decide (s.slot 9 = 0) && decide (s.slot 10 = 0)) && !s.porch.lockout

/-- PORCH_STAT. -/
def State.porchStat (s : State) : Nat :=
  let p := s.porch
  p.stat / 32 % 8 * 32 + (if p.lockout then 256 else 0) +
    ofBits [s.isMs, p.unlocked, p.verifying, decide (p.halt = .full), decide (p.halt = .live)]

/-- Core registers 0 to 33 take values that the instruction set of the cores gives, which the manual does not describe. -/
def State.drawRegs (s : State) : CoreRegs × State :=
  (upto 34).foldl (fun a k => let d := a.2.draw 32; ({ regs := a.1.regs ++ [(k, d.1)] }, d.2)) ({}, s)

/-- LOCK_CMD 1 (R692, R693). -/
def State.newChallenge (s : State) : State :=
  let held : Bool := match s.porch.blockedTill with
    | some u => decide (s.now < u)
    | none => false
  if ¬ s.lockActs ∨ held then s
  else
    let d := s.draw 128
    { d.2 with porch := { d.2.porch with challenge := leBytes 16 d.1, current := true } }

/-- The response bytes from word a on. -/
def State.responseBytes (s : State) (a n : Nat) : Bytes := (upto n).flatMap fun i => leBytes 4 (tget s.porch.response 0 (a + i))

/-- LOCK_CMD 2 (R692): the key of the response is compared with the verifier; the challenge is spent. -/
def State.verify (s : State) : State :=
  if ¬ s.lockActs ∨ ¬ s.porch.current ∨ s.porch.verifying then s
  else
    let a := s.responseBytes 0 8
    { s with porch := { s.porch with verifying := true, current := false,
                                     keyOk := decide ((sha256 a).take 16 = leBytes 8 (s.slot 9) ++ leBytes 8 (s.slot 10)) } }

/-- SNAP_READY cleared, with SNAP_COUNT (Table 18.2). -/
def State.snapClear (s : State) : State :=
  { s with porch := { s.porch with snapCount := 0, stat := if s.porch.stat / 32 % 2 = 1 then s.porch.stat - 32 else s.porch.stat } }

/-- PORCH_STAT written: ones clear bits 7 to 5. -/
def State.statWrite (s : State) (v : Nat) : State :=
  let s := if v / 32 % 2 = 1 then s.snapClear else s
  { s with porch := { s.porch with stat := maskOf ((bitsOf 8 s.porch.stat).filter fun k => decide (k < 6) || decide (v / 2 ^ k % 2 = 0)) } }

/-! ### Halts (R695 to R699) -/

/-- The conditions of R696. -/
def State.haltAllowed (s : State) : Bool :=
  s.serving && decide (s.porch.halt = .none) && decide (s.svcBusy = 0) && (upto 4).all fun k => match (s.ax k).st with
    | .disabled | .ready | .faultRetry | .faultLatched | .sto => true
    | _ => false

/-- A full halt with its cause. -/
def State.halted (s : State) (cause : Nat) : State :=
  let d := s.drawRegs
  { d.2 with porch := { d.2.porch with halt := .full, haltAt := s.now, haltCause := cause, haltRegs := d.1, wrote := [] } }

/-- HALT_CTRL 1. -/
def State.fullHalt (s : State) : State := if s.haltAllowed then s.halted 1 else s.refused

/-- HALT_CTRL 2: the standby pair stops at its next checkpoint read. -/
def State.liveHalt (s : State) : State :=
  if s.firmware ∧ s.porch.halt = .none ∧ s.standbyOk then
    let d := s.drawRegs
    let s := d.2
    let s := s.setPair s.standby { s.pair s.standby with synced := false }
    { s with porch := { s.porch with halt := .live, haltAt := s.now, haltCause := 1, haltRegs := d.1 } }
  else s.refused

/-- A timer of the house cores runs longer by the halt (R698). -/
def longer (d : Nat) (t : Option Nat) : Option Nat := t.map (· + d)

def Axis.later (a : Axis) (d : Nat) : Axis :=
  { a with retryAt := a.retryAt + d, tries := a.tries.map (· + d), speed := { a.speed with tickAt := a.speed.tickAt + d } }

def Standing.later (f : Standing) (d : Nat) : Standing := { f with okSince := longer d f.okSince }

def Session.later (x : Session) (d : Nat) : Session :=
  { x with idleAt := x.idleAt + d, liveAt := x.liveAt.map (· + d), openedAt := x.openedAt + d, telAt := x.telAt + d }

def Owner.later (o : Owner) (d : Nat) : Owner :=
  { o with hbAt := o.hbAt + d, ownerlessAt := longer d o.ownerlessAt, election := o.election.map fun e => { e with at_ := e.at_ + d },
           offer := o.offer.map fun e => { e with at_ := e.at_ + d } }

def State.shiftTimers (s : State) (d : Nat) : State :=
  { s with axes := s.axes.map fun e => (e.1, e.2.later d), sessions := s.sessions.map fun e => (e.1, e.2.later d), owner := s.owner.later d,
           links := s.links.map fun e => (e.1, { e.2 with energyAt := e.2.energyAt + d }), standing := s.standing.map fun f => f.later d,
           pubAt := s.pubAt.map fun e => (e.1, e.2 + d), swarm := { s.swarm with statusAt := s.swarm.statusAt + d },
           dev := { s.dev with recoveryAt := s.dev.recoveryAt + d, pendingBoot := s.dev.pendingBoot.map fun b => { b with since := b.since + d } } }

/-- HALT_CTRL 3 (R698, R699, R708). -/
def State.resume (s : State) : State :=
  match s.porch.halt with
  | .none => s
  | .full =>
    let s := s.shiftTimers (s.now - s.porch.haltAt)
    let owed := s.porch.later
    let s : State := { s with porch := { s.porch with halt := .none, haltCause := 0, later := [], wrote := [] } }
    owed.foldl (fun s l => s.payLate l) s
  | .live =>
    let s := s.setPair s.standby { live := false }
    { s with porch := { s.porch with halt := .none, haltCause := 0, resync := true } }

/-- HALT_CTRL 3 as a request: refused with no halt in force. -/
def State.resumeRequest (s : State) : State := if s.porch.halt = .none then s.refused else s.resume

/-- HALT_CTRL 4 (R697): one instruction of the active pair, whose effect on the registers the manual leaves to the cores. -/
def State.stepRequest (s : State) : State :=
  if s.porch.halt = .full then
    let d := s.drawRegs
    { d.2 with porch := { d.2.porch with haltCause := 2, haltRegs := d.1 } }
  else s.refused

/-- HALT_CAUSE; none without a halt. -/
def State.haltCauseNow (s : State) : Nat := if s.porch.halt = .none then 0 else s.porch.haltCause

/-- LOCK_CMD 3 (R694). -/
def State.relock (s : State) : State :=
  if ¬ s.lockActs then s
  else
    let s := s.resume.snapClear
    { s with porch := { s.porch with unlocked := false, bps := s.porch.bps.map fun e => (e.1, e.2 / 2 * 2),
                                     wpCtrl := s.porch.wpCtrl.map fun e => (e.1, e.2 / 4 * 4) } }

/-! ### Breakpoints and watchpoints (R700) -/

/-- A hit halts the module where a full halt would be accepted, and else stores a snapshot; one while SNAP_READY is set only
counts. `pc` is the address of the instruction, where it is known. -/
def State.hit (s : State) (cause : Nat) (pc : Option Nat) : State :=
  if s.haltAllowed then
    let s := s.halted cause
    match pc with
    | some a => { s with porch := { s.porch with haltRegs := { regs := tset s.porch.haltRegs.regs 32 a } } }
    | none => s
  else if s.porch.stat / 32 % 2 = 1 then { s with porch := { s.porch with snapCount := min 4294967295 (s.porch.snapCount + 1) } }
  else
    let d := s.drawRegs
    let s := d.2
    let pc := pc.getD (tget d.1.regs 0 32)
    let s := (s.porchBit 5).incPar P.porchSnaps
    { s with porch := { s.porch with snapPc := pc, snapCause := cause, snapTime := s.swarmMicros, snapCount := 1,
                                     snapRegs := { regs := tset d.1.regs 32 pc } } }

/-- The active pair runs code that a breakpoint or watchpoint may meet: unlocked, and not stopped. -/
def State.watched (s : State) : Bool := s.porch.unlocked && s.serving

/-- BREAKPOINT_HIT of BP k: on the running pair, or on the instruction just stepped (R708). -/
def breakpointHit (k : Nat) (s : State) : State :=
  let a := tget s.porch.bps 0 k
  if 8 ≤ k ∨ a % 2 = 0 ∨ ¬ s.porch.unlocked then s
  else if s.porch.halt = .full ∧ s.porch.haltCause = 2 then
    { s with porch := { s.porch with haltCause := 3 + 16 * k, haltRegs := { regs := tset s.porch.haltRegs.regs 32 (a / 4 * 4) } } }
  else if s.watched then s.hit (3 + 16 * k) (some (a / 4 * 4)) else s

/-- WATCHPOINT_HIT of WP k by a Larder access of the active pair. -/
def watchpointHit (k a : Nat) (wr : Bool) (s : State) : State :=
  let c := tget s.porch.wpCtrl 0 k
  let n := c / 16
  let kind : Bool := decide (c / (if wr then 2 else 1) % 2 = 1)
  if 4 ≤ k ∨ ¬ s.watched ∨ ¬ kind ∨ n < 2 ∨ 12 < n ∨ a / 2 ^ n ≠ tget s.porch.wpAddr 0 k / 2 ^ n ∨ ¬ inLarder a then s
  else s.hit (4 + 16 * k) none

/-! ### The accesses of each space -/

/-- What a transaction answers: STATUS, the data of a read, and the state once it has taken effect. -/
structure PorchAns where
  status : Nat
  data : Nat := 0
  st : State

def State.pOk (s : State) (data : Nat := 0) : PorchAns := { status := porchOk, data := data, st := s }
def State.pNo (s : State) (status : Nat) : PorchAns := { status := status, st := s }

/-- A register that Table 18.2 makes available only while the Porch is unlocked. -/
def needsUnlock (a : Nat) : Bool := decide (a = 0x20) || decide (a = 0x21) || (decide (0x28 ≤ a) && decide (a ≤ 0x3C))

/-- An access that its register does not take: LOCKED where the register is not available, REJECT otherwise (R686). -/
def State.noAccess (s : State) (a : Nat) : PorchAns := s.pNo (if needsUnlock a && !s.porch.unlocked then porchLocked else porchReject)

/-- A control register that is readable and available locked; the others of Table 18.2 are available unlocked. -/
def State.controlRead (s : State) (a : Nat) : PorchAns :=
  let p := s.porch
  let un (v : Nat) : PorchAns := if p.unlocked then s.pOk v else s.pNo porchLocked
  if a = 0 then s.pOk idcode
  else if a = 1 then s.pOk s.porchStat
  else if 4 ≤ a ∧ a < 8 then s.pOk (if s.isMs ∨ (s.slot 9 = 0 ∧ s.slot 10 = 0) then 0 else field p.challenge (4 * (a - 4)) 4)
  else if a = 0x21 then un s.haltCauseNow
  else if 0x28 ≤ a ∧ a < 0x30 then un (tget p.bps 0 (a - 0x28))
  else if 0x30 ≤ a ∧ a < 0x34 then un (tget p.wpAddr 0 (a - 0x30))
  else if 0x34 ≤ a ∧ a < 0x38 then un (tget p.wpCtrl 0 (a - 0x34))
  else if a = 0x38 then un p.snapPc
  else if a = 0x39 then un p.snapCause
  else if a = 0x3A then un (p.snapTime % 2 ^ 32)
  else if a = 0x3B then un (p.snapTime / 2 ^ 32 % 2 ^ 32)
  else if a = 0x3C then un p.snapCount
  else s.noAccess a

/-- HALT_CTRL. -/
def State.haltCtrl (s : State) (v : Nat) : State :=
  match v with
  | 1 => s.fullHalt
  | 2 => s.liveHalt
  | 3 => s.resumeRequest
  | 4 => s.stepRequest
  | _ => s.refused

/-- LOCK_CMD. -/
def State.lockCmd (s : State) (v : Nat) : State :=
  match v with
  | 1 => s.newChallenge
  | 2 => s.verify
  | 3 => s.relock
  | _ => s

/-- Writes to the control space; reserved bits read 0. -/
def State.controlWrite (s : State) (a v : Nat) : PorchAns :=
  let p := s.porch
  let un (x : State) : PorchAns := if p.unlocked then x.pOk else s.pNo porchLocked
  if a = 1 then (s.statWrite v).pOk
  else if a = 2 then (s.lockCmd v).pOk
  else if 8 ≤ a ∧ a < 0x20 then { s with porch := { p with response := tset p.response (a - 8) v } }.pOk
  else if a = 0x20 then un (s.haltCtrl v)
  else if 0x28 ≤ a ∧ a < 0x30 then un { s with porch := { p with bps := tset p.bps (a - 0x28) (v / 4 * 4 + v % 2) } }
  else if 0x30 ≤ a ∧ a < 0x34 then un { s with porch := { p with wpAddr := tset p.wpAddr (a - 0x30) (v / 4 * 4) } }
  else if 0x34 ≤ a ∧ a < 0x38 then un { s with porch := { p with wpCtrl := tset p.wpCtrl (a - 0x34) (v / 16 % 16 * 16 + v % 4) } }
  else s.noAccess a

/-- A read of MEM_DATA (R702); a double-bit error leaves the data open. -/
def State.memRead4 (s : State) : PorchAns :=
  let a := s.porch.memAddr
  let step (s : State) : State := { s with porch := { s.porch with memAddr := (a + 4) % 2 ^ 32 } }
  if ¬ mayReach 8 a 4 false then s.pNo porchReject
  else match s.badWord [] a 4 with
    | some w =>
      let d := (s.larderDed w ((s.eccErrs.find? fun e => decide (e.1 = w)).map (·.2) |>.getD [])).draw 32
      (step d.2).pOk d.1
    | none =>
      let r := s.hread a 4
      (step r.2).pOk (leNat r.1)

/-- A write of MEM_DATA (R29, R702). -/
def State.memWrite4 (s : State) (v : Nat) : PorchAns :=
  let a := s.porch.memAddr
  if s.porch.halt ≠ .full ∨ ¬ mayReach 8 a 4 false then s.pNo porchReject
  else
    let s := if mayReach 8 a 4 true then s.hwrite a (leBytes 4 v) else s.hallwayFault
    { s with porch := { s.porch with memAddr := (a + 4) % 2 ^ 32, wrote := a :: s.porch.wrote } }.pOk

/-- The register REG_SEL names, in the copy it names (R703). -/
def State.regRead (s : State) : PorchAns :=
  let k := s.porch.regSel % 64
  if 34 ≤ k then s.pNo porchReject
  else if 128 ≤ s.porch.regSel then s.pOk (tget s.porch.snapRegs.regs 0 k)
  else if s.porch.halt = .none then s.pNo porchReject
  else s.pOk (tget s.porch.haltRegs.regs 0 k)

def State.regWrite (s : State) (v : Nat) : PorchAns :=
  let k := s.porch.regSel % 64
  if 34 ≤ k ∨ 128 ≤ s.porch.regSel ∨ s.porch.halt ≠ .full then s.pNo porchReject
  else { s with porch := { s.porch with haltRegs := { regs := tset s.porch.haltRegs.regs k v } } }.pOk

/-- The memory space (Table 18.3): `hold` where an access to memory is still in progress. -/
def State.memoryAccess (s : State) (wr : Bool) (a v : Nat) (hold : Bool) : PorchAns :=
  let p := s.porch
  if 4 ≤ a then s.pNo porchReject
  else if ¬ p.unlocked then s.pNo porchLocked
  else if a = 0 then (if wr then { s with porch := { p with memAddr := v / 4 * 4 } }.pOk else s.pOk p.memAddr)
  else if a = 1 then
    let r := if wr then s.memWrite4 v else s.memRead4
    if r.status = porchOk ∧ hold then { s with porch := { p with busy := true } }.pNo porchHold
    else { r with st := { r.st with porch := { r.st.porch with busy := false } } }
  else if a = 2 then (if wr then { s with porch := { p with regSel := v / 128 % 2 * 128 + v % 64 } }.pOk else s.pOk p.regSel)
  else if wr then s.regWrite v else s.regRead

/-- The last word of a packet: it enters Q15; while the house cores are stopped for good, SOFT_RESET goes to the Cellar, which
starts BOOT without a reply (R69, R477). -/
def State.porchPacket (s : State) (bs : Bytes) : State :=
  if s.dev.housesStopped then
    if field bs 0 1 = 0x7F ∧ crc32c (bs.take (bs.length - 4)) = field bs (bs.length - 4) 4 then
      { s with dev := { s.dev with pendingBoot := some ⟨19, s.nextTag, s.now⟩ } }
    else s.push 15 bs
  else s.push 15 bs

/-- TXLEN (R704). -/
def State.txLenWrite (s : State) (n : Nat) : PorchAns :=
  if n < 12 ∨ 1044 < n then s.pNo porchReject
  else if s.freeBytes 15 < entrySize n then s.pNo porchHold
  else { s with porch := { s.porch with txLen := n, txBuf := [] } }.pOk

/-- TXDATA. -/
def State.txWrite (s : State) (v : Nat) : PorchAns :=
  let p := s.porch
  if p.txLen = 0 then s.pOk
  else
    let b := p.txBuf ++ leBytes 4 v
    if b.length < p.txLen then { s with porch := { p with txBuf := b } }.pOk
    else ({ s with porch := { p with txLen := 0, txBuf := [] } }.porchPacket (b.take p.txLen)).pOk

/-- RXDATA: the next word of the oldest entry of Q19. -/
def State.rxRead (s : State) : PorchAns :=
  match s.queue 19 with
  | [] =>
    let d := s.draw 32
    d.2.pOk d.1
  | e :: _ =>
    let n := s.porch.rxPos
    let v := field e.data n 4
    if n + 4 < e.data.length then { s with porch := { s.porch with rxPos := n + 4 } }.pOk v
    else (({ s with porch := { s.porch with rxPos := 0 } }.pop 19).flush true).pOk v

/-- Length of the oldest entry of Q19. -/
def State.rxLen (s : State) : Nat :=
  match s.queue 19 with
  | e :: _ => e.data.length
  | [] => 0

/-- The packet space (R704). -/
def State.packetAccess (s : State) (wr : Bool) (a v : Nat) : PorchAns :=
  match a, wr with
  | 0, true => s.txLenWrite v
  | 1, true => s.txWrite v
  | 2, false => s.pOk s.rxLen
  | 3, false => s.rxRead
  | _, _ => s.pNo porchReject

/-- One access with a good HCHK. -/
def State.porchAccess (s : State) (space : Nat) (wr : Bool) (a v : Nat) (hold : Bool) : PorchAns :=
  match space with
  | 0 => if wr then s.controlWrite a v else s.controlRead a
  | 1 => s.memoryAccess wr a v hold
  | 2 => s.packetAccess wr a v
  | _ => s.pNo porchReject

/-- A transaction whose checks are good or bad (R686): an effect only with OK and, for a write, a good DCHK. -/
def State.transact (s : State) (space : Nat) (wr : Bool) (a v : Nat) (hold headOk dataOk : Bool) : State :=
  if ¬ s.porchOn then s
  else if ¬ headOk then s.sticky.porchSay porchReject
  else
    let r := s.porchAccess space wr a v hold
    if r.status = porchReject then s.sticky.porchSay porchReject
    else if r.status = porchOk ∧ wr ∧ ¬ dataOk then s.sticky.porchSay porchOk
    else r.st.porchSay r.status r.data

/-- PORCH_TRANSACTION, field by field of Table 18.1. -/
def porchTransaction (space : Nat) (wr : Bool) (a hchk v dchk : Nat) (hold : Bool) (s : State) : State :=
  s.transact (space % 4) wr (a % 256) (v % 2 ^ 32) hold (decide (hchk = hchkOf (space % 4) wr (a % 256))) (decide (dchk = dchkOf (v % 2 ^ 32)))

/-- A transaction with good checks. -/
def State.good (s : State) (space : Nat) (wr : Bool) (a v : Nat) (hold : Bool := false) : State := s.transact space wr a (v % 2 ^ 32) hold true true

/-! ### Events of the port -/

/-- PORCH_IDLE_RESET (R687): a memory access in progress completes, and its result is discarded. -/
def porchIdleReset (s : State) : State := { s with porch := { s.porch with busy := false } }

/-- PORCH_VERIFY_DONE (R692, R693): `sig` the result of the Ed25519 verification. -/
def porchVerifyDone (sig : Bool) (s : State) : State :=
  if ¬ s.porch.verifying then s
  else
    let s : State := { s with porch := { s.porch with verifying := false } }
    if sig ∧ s.porch.keyOk then ({ s with porch := { s.porch with unlocked := true } }).incPar P.porchUnlocks
    else
      let s := s.incSat P.porchFails 8
      { s with porch := { s.porch with blockedTill := some (s.now + 1000000000), lockout := s.porch.lockout || decide (8 ≤ s.par P.porchFails) } }

/-- CHALLENGE_BLOCK_END (R693). -/
def challengeBlockEnd (s : State) : State :=
  match s.porch.blockedTill with
  | some u => if u ≤ s.now then { s with porch := { s.porch with blockedTill := none } } else s
  | none => s

/-- STANDBY_RESYNCED (R699). -/
def standbyResynced (s : State) : State :=
  if s.porch.resync ∧ (s.pair s.active).live then { s.startStandby s.standby with porch := { s.porch with resync := false } } else s

/-! ### Boundary scan (R705 to R707) -/

/-- The TAP works while the module has its supply. -/
def State.tapOn (s : State) : Bool := s.dev.supplyOk

/-- The update latch of the cell of a land. -/
def State.landCell (s : State) (l : Land) : Option Bool :=
  ((upto 212).find? fun i => decide (Config.cellLand i = some l)).map fun i => s.porch.cells.getD i false

/-- Lands the module drives (Table 19.1). PORCH_DIO turns with the transaction. -/
def landDriven : Land → Bool
  | .miso | .hostAttn | .sbTxd _ | .sbStby _ | .porchDio | .sdClk _ | .ssiClk _ | .ringTx _ _ => true
  | _ => false

/-- What the module itself drives a land to, where the manual gives a level that stands: HOST_ATTN (R473), a port at SB_EN 0 (R524), an
SD clock that serves no sigma-delta bridge and an idle SSI clock (Table 19.5). None is a level inside a transfer. -/
def State.ownLevel (s : State) (l : Land) : Option Bool :=
  match l with
  | .hostAttn => some s.hostAttn
  | .sbStby p => some (decide (s.par P.sbEn p = 0))
  | .sbTxd p => if s.par P.sbEn p = 0 then some true else none
  | .sdClk k => if (s.par P.csMode (2 * k) = 1) ∨ (s.par P.csMode (2 * k + 1) = 1) then none else some false
  | .ssiClk k => if s.par P.ssiEn k = 0 then some true else none
  | _ => none

/-- The level a driven land shows: EXTEST and CLAMP hold it from the chain, HIGHZ lets it go (Table 18.5, R706). -/
def State.landLevel (s : State) (l : Land) : Option Bool :=
  match s.porch.ir with
  | 0x00 | 0x04 => s.landCell l
  | 0x05 => none
  | _ => s.ownLevel l

/-- What the cell of a land captures, with the lands that outside drivers hold high (R707); a level that the manual leaves open is free. -/
def State.cellSees (s : State) (high : List Land) (l : Option Land) : Bool × State :=
  let free (s : State) : Bool × State := let d := s.draw 1; (decide (d.1 = 1), d.2)
  match l with
  | none => free s
  | some .stoA => (s.cellar.stoA, s)
  | some .stoB => (s.cellar.stoB, s)
  | some (.dg c) => ((s.chan c).dg, s)
  | some l =>
    if landDriven l then
      match s.landLevel l with
      | some v => (v, s)
      | none => free s
    else (decide (l ∈ high), s)

/-- A scan of the boundary register: every cell captures, the captured bits leave at TDO, and the bits shifted in go to the update latches
(R705, R707). The cell next to TDO is cell 0. -/
def State.scanCells (s : State) (x : Scan) : State :=
  if x.tdi.isEmpty then s
  else
    let r := (upto 212).foldl (fun (a : List Bool × State) i =>
      let v := a.2.cellSees x.high (Config.cellLand i)
      (a.1 ++ [v.1], v.2)) ([], s)
    { r.2 with porch := { r.2.porch with tdo := r.1, cells := x.tdi } }

/-- A scan of the one-bit bypass register, which captures 0. -/
def State.scanBypass (s : State) (x : Scan) : State :=
  if x.tdi.isEmpty then s else { s with porch := { s.porch with tdo := (false :: x.tdi).take x.tdi.length } }

/-- A scan of the IDCODE register, least significant bit first. -/
def State.scanId (s : State) (x : Scan) : State :=
  if x.tdi.isEmpty then s
  else { s with porch := { s.porch with tdo := (((msbBits idcode 32).reverse) ++ x.tdi).take x.tdi.length } }

/-- An instruction in the TAP's instruction register. -/
def State.setIr (s : State) (c : Nat) : State := { s with porch := { s.porch with ir := c } }

/-- EXTEST, CLAMP and HIGHZ: the control die in power-on reset, its cells held off (R706). -/
def State.scanHold (s : State) (c : Nat) : State :=
  let s : State := { s with dev := { s.dev with scanReset := true } }
  (if s.dev.st = .off then s else s.goOff).setIr c

/-- A TAP instruction: none without the supply (log entry 171). -/
def State.tap (s : State) (f : State → State) : State := if s.tapOn then f s else s

def extest (x : Scan) (s : State) : State := s.tap fun s => (s.scanHold 0x00).scanCells x
def samplePreload (x : Scan) (s : State) : State := s.tap fun s => (s.setIr 0x02).scanCells x
def clampScan (x : Scan) (s : State) : State := s.tap fun s => (s.scanHold 0x04).scanBypass x
def highz (x : Scan) (s : State) : State := s.tap fun s => (s.scanHold 0x05).scanBypass x
def idcodeScan (x : Scan) (s : State) : State := s.tap fun s => (s.setIr 0xFE).scanId x
def bypassScan (x : Scan) (s : State) : State := s.tap fun s => (s.setIr 0xFF).scanBypass x

/-- TEST_LOGIC_RESET: IDCODE selected; a scan reset ends in BOOT from OFF. -/
def testLogicReset (s : State) : State :=
  let s := s.setIr 0xFE
  if s.dev.scanReset then
    let s : State := { s with dev := { s.dev with scanReset := false } }
    if s.dev.supplyOk then s.startBoot 0 true else s
  else s

end Sys2Proof.Machine
end

