-- ==== Sys2Proof/Machine/Sessions.lean ====
section
/-!
DEFINITION. Session and parameter commands (Table 11.9, R460 to R466, R479 to R487, R516 to R519), telemetry, the notifications
that wait, and the host SPI port (R471 to R473).
-/
namespace Sys2Proof.Machine

/-! ### OPEN (R460 to R462, R516 to R519) -/

/-- OPEN answers without opening a session: no tag, and SESSION as received. -/
def State.openRefused (s : State) (o : Origin) (p : Pkt) (status : Nat) : State :=
  s.sendTo o (packet p.op 0x80 p.sess p.seq (leBytes 1 status) none)

/-- The session whose OPEN a repetition names (R462). -/
def State.openAgain (s : State) (o : Origin) (p : Pkt) : Option Nat :=
  s.openSessions.find? fun n =>
    let x := s.sess n
    s.bound n o && decide (8 ≤ p.payload.length) && decide (x.clientId = field p.payload 0 8) && decide (x.nextSeq = (p.seq + 1) % 65536) &&
      x.retained.any fun r => decide (r.seq = p.seq) && (r.packets.any fun b => decide (field b 0 1 = 0x01))

/-- The lowest free session number (R460; one session in the boot loader, R77). -/
def State.freeSession (s : State) : Option Nat :=
  if s.loader then (if s.openSessions.isEmpty then some 1 else none)
  else ((upto 256).map (· + 1)).find? fun n => !(s.sess n).isOpen

/-- The key of a client-table entry, where it is provisioned (R516). -/
def State.clientKey (s : State) (entry : Option Nat) : Option Bytes :=
  match entry with
  | some e => if s.keyProv (s.entryKey e) then some (s.keyBytes (s.entryKey e)) else none
  | none => none

/-- The session key of R517. -/
def sessionKey (kk clientNonce moduleNonce : Bytes) (uid client sess : Nat) : Bytes :=
  hmac kk (pathBytes "FZSESS01" ++ clientNonce ++ moduleNonce ++ leBytes 8 uid ++ leBytes 8 client ++ leBytes 2 sess)

/-- A drawn nonce, or where this power cycle has drawn it before one that it has not (R517). -/
def freshNonce (used : List Nat) (d : Nat) : Nat :=
  if used.contains d then ((upto (used.length + 1)).find? fun v => !used.contains v).getD 0 else d

/-- A free entry of the key store: the drawn one or the next that no open session holds (R517, Table 11.5). -/
def State.freeKey (s : State) (d : Nat) : Nat :=
  (((upto 255).map fun i => (d + i) % 255).find? fun e => !(s.openSessions.any fun n => decide ((s.sess n).keyIndex = e))).getD (d % 255)

/-- A session opened under a number, with its reply (R455, R460, R491, R494, R518). -/
def State.openAs (s : State) (o : Origin) (p : Pkt) (n : Nat) (kk : Option Bytes) : State :=
  let client := field p.payload 0 8
  let auth := kk.isSome
  let tmo := field p.payload 10 2
  let entry := s.clientEntry client
  let d := if auth then s.draw 136 else (0, s)
  let (ptr, s) := d.2.replyPtr
  let drawn := freshNonce s.nonces (d.1 % 2 ^ 128)
  let nonce := leBytes 16 (if auth then drawn else 0)
  let s : State := if auth then { s with nonces := drawn :: s.nonces } else s
  let uid := s.parN P.deviceUid
  let key : Bytes := match kk with
    | some k => sessionKey k ((p.payload.drop 12).take 16) nonce uid client n
    | none => []
  let payload := leBytes 1 stDone ++ leBytes 1 0 ++ leBytes 2 n ++ leBytes 2 0x0100 ++ leBytes 2 0 ++ leBytes 8 uid ++ nonce
  let pkt := packet 0x01 0x80 0 p.seq payload (if auth then some key else none)
  let s := s.setSess n
    { isOpen := true, transport := o.tp, source := o.source, port := o.port, auth := auth, nextSeq := (p.seq + 1) % 65536, clientId := client,
      opened := s.swarmMicros, openedAt := s.houseNow, idleAt := s.houseNow,
      timeoutMs := if tmo = 0 then s.parN P.sessTimeout else 1000 * tmo,
      keyIndex := if auth then s.freeKey (d.1 / 2 ^ 128) else 0xFF, key := key, retained := [⟨p.seq, [pkt], ptr⟩],
      rank := s.rankOf entry auth, entry := entry.getD 0xFF, authReq := auth, proven := !auth }
  s.sendOrWait n pkt false true

/-- An OPEN packet that passed steps 1 to 4. -/
def State.openSession (s : State) (o : Origin) (p : Pkt) : State :=
  if p.auth then s.badReply o p stBadCheck
  else match s.openAgain o p with
    | some n => ((s.sess n).retained.flatMap fun r => if r.seq = p.seq then r.packets else []).foldl (fun s b => s.sendOrWait n b false true)
        (s.setSess n { s.sess n with port := o.port })
    | none =>
      if p.payload.length ≠ 28 then s.badReply o p stBadLength
      else
        let authByte := field p.payload 8 1
        if 1 < authByte ∨ 600 < field p.payload 10 2 then s.openRefused o p stRange
        else match s.freeSession with
          | none => s.openRefused o p stSessionFull
          | some n =>
            let kk := if authByte = 1 then s.clientKey (s.clientEntry (field p.payload 0 8)) else none
            if authByte = 1 ∧ kk = none then s.openRefused o p stLocked else s.openAs o p n kk

/-- OPEN of a transport. -/
def State.serveOpen (s : State) (tp : Transport) : State :=
  if ¬ s.mayServe tp then s
  else
    let f := s.front tp
    match f.1 with
    | none => f.2
    | some (bs, o) =>
      let p := parsePkt bs
      if bs.length < 8 ∨ (s.headCheck o bs).isSome ∨ p.op ≠ 0x01 then s else f.2.openSession o p

/-! ### CLOSE to HANDOVER -/

def cmdClose : Cmd :=
  { op := 0x02, cls := .session, states := anyState, len := lenIs 0, run := fun s n _ => { ansStatus s stDone with after := fun s => s.closeSession n } }

/-- The reply of HEARTBEAT. -/
def State.heartbeatReply (s : State) : Bytes :=
  leBytes 1 stDone ++ leBytes 1 s.dev.st.code ++ ((upto 4).flatMap fun k => leBytes 1 (s.ax k).st.code) ++ leBytes 2 s.owner.session

def cmdHeartbeat : Cmd :=
  { op := 0x03, cls := .session, states := anyState, len := lenIs 0, run := fun s _ _ => { st := s, payloads := [s.heartbeatReply] } }

def cmdClaim : Cmd :=
  { op := 0x04, cls := .session, states := anyState, len := lenIs 0,
    run := fun s n p =>
      if s.claiming n then ansStatus s stBusy else { ansStatus s stAccepted with after := fun s => s.claim n p.seq } }

def cmdRelease : Cmd :=
  { op := 0x05, cls := .write, states := anyState, len := lenIs 0, run := fun s _ _ => { ansStatus s stDone with after := fun s => s.loseOwner 5 } }

def cmdHandover : Cmd :=
  { op := 0x06, cls := .write, states := anyState, len := lenIs 4,
    run := fun s n p =>
      if s.owner.offer.isSome then ansStatus s stBusy
      else { ansStatus s stAccepted with after := fun s => s.handover n p.seq (field p.payload 0 2) } }

/-! ### Reading parameters (R479, R482, R483, R490) -/

/-- GET. -/
def State.getParams (s : State) (n : Nat) (p : Pkt) : Ans :=
  let k := field p.payload 0 2
  if k = 0 ∨ 85 < k then ansStatus s stRange
  else
    let pns := pnsAt p.payload 2 k
    { st := s.violate n (s.readViolations n pns),
      payloads := [leBytes 1 stDone ++ leBytes 1 0 ++ leBytes 2 k ++ s.items n (s.owner.session = n) pns] }

def cmdGet : Cmd :=
  { op := 0x10, cls := .read, states := anyState,
    len := fun p => decide (2 ≤ p.payload.length) && lenIs (2 + 2 * field p.payload 0 2) p, run := State.getParams }

/-- GET_BLOCK: 127 values a packet; an undefined PN reads 0. -/
def State.getBlock (s : State) (n : Nat) (p : Pkt) : Ans :=
  let first := field p.payload 0 2
  let count := field p.payload 2 2
  if count = 0 ∨ 4096 < count ∨ 0x10000 < first + count then ansStatus s stRange
  else
    let pns := (upto count).map (first + ·)
    let value (pn : Nat) : Bytes := match s.readPn n (s.owner.session = n) pn with
      | some (_, v) => valueBytes v
      | none => leBytes 8 0
    { st := s.violate n (s.readViolations n pns),
      payloads := (pieces 127 33 pns).map fun ks =>
        leBytes 1 stDone ++ leBytes 1 0 ++ leBytes 2 ks.length ++ leBytes 2 (ks.headD 0) ++ leBytes 2 0 ++ ks.flatMap value }

def cmdGetBlock : Cmd := { op := 0x12, cls := .read, states := anyState, len := lenIs 4, run := State.getBlock }

/-- SNAPSHOT: at once, or at the next SE of an axis. -/
def State.snapshot (s : State) (n : Nat) (p : Pkt) : Ans :=
  let anchor := field p.payload 0 1
  let k := field p.payload 2 2
  if 4 < anchor ∨ k = 0 ∨ 84 < k then ansStatus s stRange
  else
    let pns := pnsAt p.payload 4 k
    let s := s.violate n (s.readViolations n pns)
    if anchor = 0 then { st := s, payloads := [s.snapReply n 0 pns] }
    else { st := { s with snaps := s.snaps ++ [⟨anchor - 1, n, p.seq, pns⟩] }, payloads := [] }

def cmdSnapshot : Cmd :=
  { op := 0x14, cls := .read, states := notBoot,
    len := fun p => decide (4 ≤ p.payload.length) && lenIs (4 + 2 * field p.payload 2 2) p, run := State.snapshot }

/-! ### Writing parameters (R479 to R481, R504) -/

/-- A list of items judged and, if none fails, written; the reply of SET. -/
def State.writeItems (s : State) (n : Nat) (items : List (Nat × Nat)) : Ans :=
  let s := s.violate n (protCount (items.map (·.1)))
  match s.firstBad items with
  | some (i, st) => { st := s, payloads := [leBytes 1 st ++ leBytes 1 0 ++ leBytes 2 i] }
  | none => { st := s.applyItems items, payloads := [refusal 0x11 stDone] }

/-- SET. -/
def State.setParams (s : State) (n : Nat) (p : Pkt) : Ans :=
  let k := field p.payload 0 2
  if k = 0 ∨ 85 < k then { st := s, payloads := [refusal 0x11 stRange] }
  else s.writeItems n ((upto k).map fun i => (field p.payload (4 + 12 * i) 2, field p.payload (8 + 12 * i) 8))

def cmdSet : Cmd :=
  { op := 0x11, cls := .write, states := notBoot,
    len := fun p => decide (4 ≤ p.payload.length) && lenIs (4 + 12 * field p.payload 0 2) p,
    items := fun p => if field p.payload 0 2 ≤ 85 then (upto (field p.payload 0 2)).map fun i => field p.payload (4 + 12 * i) 2 else [],
    run := State.setParams }

/-- SET_BLOCK (R481). -/
def State.setBlock (s : State) (n : Nat) (p : Pkt) : Ans :=
  let x := s.sess n
  let first := field p.payload 0 2
  let k := field p.payload 2 2
  let total := field p.payload 4 2
  let run : BlockRun := x.block.getD { next := first, total := total }
  let items := run.items ++ (upto k).map fun i => (first + i, field p.payload (8 + 8 * i) 8)
  let s' := s.setSess n { x with block := none }
  let bad : Ans := { st := s', payloads := [refusal 0x13 stRange] }
  if k = 0 ∨ 127 < k ∨ total = 0 ∨ 4096 < total ∨ first ≠ run.next ∨ run.total < items.length then bad
  else if p.more then
    { st := s.setSess n { x with block := some { run with next := first + k, items := items } }, payloads := [refusal 0x13 stDone] }
  else if items.length ≠ run.total then bad
  else s'.writeItems n items

def cmdSetBlock : Cmd :=
  { op := 0x13, cls := .write, states := notBoot,
    len := fun p => decide (8 ≤ p.payload.length) && lenIs (8 + 8 * field p.payload 2 2) p,
    items := fun p => if field p.payload 2 2 ≤ 127 then (upto (field p.payload 2 2)).map fun i => field p.payload 0 2 + i else [],
    run := State.setBlock }

/-! ### Notifications (R485 to R487) -/

/-- SUBSCRIBE. -/
def State.subscribe (s : State) (n : Nat) (p : Pkt) : Ans :=
  let x := s.sess n
  let mask := field p.payload 0 4
  let period := field p.payload 4 2
  let k := field p.payload 6 1
  let pns := pnsAt p.payload 8 k
  if 0x400 ≤ mask ∨ 60000 < period ∨ 16 < k ∨ pns.any (fun pn => (findPar pn).isNone) then ansStatus s stRange
  else
    let y := { x with eventMask := maskOf (bitsOf 10 x.eventMask ++ bitsOf 10 mask),
                      telPeriod := if period = 0 then x.telPeriod else period,
                      telPns := if k = 0 then x.telPns else pns,
                      telAt := if period = 0 ∧ x.telPns ≠ [] then x.telAt else s.houseNow }
    ansStatus (s.setSess n y) stDone

def cmdSubscribe : Cmd :=
  { op := 0x30, cls := .session, states := notBoot,
    len := fun p => decide (8 ≤ p.payload.length) && lenIs (8 + 2 * field p.payload 6 1) p, run := State.subscribe }

/-- UNSUBSCRIBE. -/
def State.unsubscribe (s : State) (n : Nat) (p : Pkt) : Ans :=
  let x := s.sess n
  let mask := field p.payload 0 4
  let y := { x with eventMask := maskOf ((bitsOf 10 x.eventMask).filter fun b => decide (mask / 2 ^ b % 2 = 0)) }
  let y := if field p.payload 4 1 = 1 then { y with telPeriod := 0, telPns := [] } else y
  ansStatus (s.setSess n y) stDone

def cmdUnsubscribe : Cmd := { op := 0x31, cls := .session, states := notBoot, len := lenIs 8, run := State.unsubscribe }

/-- TELEMETRY of session n: every TEL_PERIOD. -/
def telemetry (n : Nat) (s : State) : State :=
  let x := s.sess n
  if s.firmware ∧ x.isOpen ∧ x.telPns ≠ [] ∧ 0 < x.telPeriod ∧ x.telAt + ms x.telPeriod ≤ s.houseNow then
    let s := s.setSess n { x with telAt := x.telAt + ms x.telPeriod }
    s.notifyTo n 0xFF 0xFF 0xFFFF (leBytes 1 x.telPns.length ++ leBytes 3 0 ++ s.items n (s.owner.session = n) x.telPns)
  else s

/-! ### Host SPI port (R471 to R473) -/

/-- The SPI status byte. -/
def State.spiStatus (s : State) : Nat :=
  ofBits [false, false, false, false, false, s.loader, decide (entrySize 1044 ≤ s.freeBytes 12), s.hostAttn]

/-- SPI_WRITE: the bytes between the code and the rise of CS_N. -/
def spiWrite (bs : Bytes) (s : State) : State :=
  if ¬ s.answers then s
  else
    let s' : State := { s with spiOut := leBytes 1 s.spiStatus ++ List.replicate bs.length 0#8 }
    if bs.length < 8 then s' else s'.push 12 bs

/-- SPI_READ: n bytes clocked after the status byte; the entry leaves Q16 once all of it has been clocked. -/
def spiRead (n : Nat) (s : State) : State :=
  if ¬ s.answers then s
  else
    let d : Bytes := match s.queue 16 with
      | e :: _ => e.data
      | [] => []
    let out := (leBytes 2 d.length ++ leBytes 1 0 ++ d ++ List.replicate n 0#8).take n
    let s' : State := { s with spiOut := leBytes 1 s.spiStatus ++ out }
    if d ≠ [] ∧ d.length + 3 ≤ n then (s'.pop 16).flush true else s'

/-- SPI_STATUS: a transaction of any code but WRITE and READ, with its bytes. STATUS returns its counts, any other code zeros (Table 11.6). -/
def spiQuery (bs : Bytes) (s : State) : State :=
  match bs with
  | [] => s
  | c :: rest =>
    if ¬ s.answers ∨ c = 1#8 ∨ c = 2#8 then s
    else
      let n := rest.length
      let counts := if c = 3#8 then leBytes 2 (s.freeBytes 12) ++ leBytes 2 (s.queue 16).length else []
      { s with spiOut := leBytes 1 s.spiStatus ++ (counts ++ List.replicate n 0#8).take n }

/-! ### Queue writes (R36, R616, R617, Table 15.8a) -/

/-- QUEUE_WRITE: an entry written by a queue's producer; on Q8 to Q11 a frame of the given identifier, on Q17 a reply for a
node on a port. -/
def queueWrite (q : Nat) (data : Bytes) (dest port : Nat) (s : State) : State :=
  if 32 ≤ q ∨ s.dev.st = .off then s
  else if 8 ≤ q ∧ q < 12 then s.queueFrame (q - 8) dest data true
  else if q = 17 then (s.push 17 data dest port).swarmFeed
  else if 12 ≤ q ∧ q < 20 then s.push q data dest port
  else s.enter q data []

end Sys2Proof.Machine
end

