-- ==== Sys2Proof/Machine/StoreCmds.lean ====
section
/-!
DEFINITION. Engine, store and service commands (Table 11.11): the Forager, the Pantry, the Attic, the wings, and SOFT_RESET.
-/
namespace Sys2Proof.Machine

/-! ### Forager (R606, R610, R611) -/

/-- FORAGER_LOAD: program words written to the channel's area of the Larder. -/
def State.foragerLoad (s : State) (c off : Nat) (bs : Bytes) : Ans :=
  if c < 4 ∨ 15 < c ∨ off % 4 ≠ 0 ∨ 4096 < off + bs.length then ansStatus s stRange
  else if s.par P.fgState c ≠ 0 ∧ s.par P.fgState c ≠ 4 then ansStatus s stBusy
  else ansStatus (s.lstore (0x20090000 + 0x1000 * c + off) bs) stDone

def cmdForagerLoad : Cmd :=
  { op := 0x40, cls := .write, states := notBoot, len := fun p => decide (4 ≤ p.payload.length) && decide (p.payload.length % 4 = 0),
    run := fun s _ p => s.foragerLoad (field p.payload 0 1) (field p.payload 2 2) (p.payload.drop 4) }

def cmdForagerStart : Cmd :=
  { op := 0x41, cls := .write, states := notBoot, len := lenIs 2,
    run := fun s _ p =>
      let m := field p.payload 0 2
      if m % 16 ≠ 0 then ansStatus s stRange else ansStatus (each (bitsOf 16 m) s fun c s => s.fgStart c) stDone }

def cmdForagerStop : Cmd :=
  { op := 0x42, cls := .write, states := notBoot, len := lenIs 2,
    run := fun s _ p => ansStatus (each ((bitsOf 16 (field p.payload 0 2)).filter fun c => decide (4 ≤ c)) s fun c s => s.fgStop c) stDone }

/-! ### Pantry (R644, R645, R655) -/

def cmdPantryDisarm : Cmd :=
  { op := 0x50, cls := .write, states := notBoot, len := lenIs 2, sub := fun p => decide (field p.payload 0 1 = 0),
    run := fun s _ _ => ansStatus (s.panEnd 2) stDone }

/-- PANTRY_ARM with ACTION 1; an ACTION above 2 is out of range. -/
def cmdPantryArm : Cmd :=
  { op := 0x50, cls := .write, states := notBoot, len := lenIs 2, sub := fun p => decide (field p.payload 0 1 ≠ 0) && decide (field p.payload 0 1 ≠ 2),
    run := fun s _ p => if field p.payload 0 1 = 1 then ansStatus s.panArm stDone else ansStatus s stRange }

def cmdPantryTrigger : Cmd :=
  { op := 0x50, cls := .write, states := notBoot, len := lenIs 2, sub := fun p => decide (field p.payload 0 1 = 2),
    run := fun s _ _ => if s.par P.panState = 0 then ansStatus s stState else ansStatus (s.panTrigger 1) stDone }

/-- A part of the read-out staged through Q29 (R655): the Pantry writes it as an entry where it fits, and the house cores take that entry
to send it, in one step (DESIGN CHOICE, log entry 211). -/
def State.stageOut (s : State) (part : Bytes) : State :=
  if entrySize part.length ≤ s.freeBytes 29 then
    let t := s.enter 29 part []
    t.setQueue 29 ((t.queue 29).filter fun e => decide (e.tag ≠ s.nextTag))
  else s

/-- PANTRY_READ: 1,016 bytes a packet; the words of `bad` hold a double-bit error (R639). -/
def State.pantryRead (s : State) (bad : List Nat) (area off len : Nat) : Ans :=
  if 1 < area then ansStatus s stRange
  else if area = 0 ∧ s.panOn then ansStatus s stBusy
  else if len = 0 ∨ s.panAreaLen area < off + len then ansStatus s stRange
  else
    let hit := (bad.eraseDups.filter fun w => decide (w * 8 < off + len) && decide (off < w * 8 + 8)).length
    let parts := chunks 1016 (len / 1016 + 1) (s.panBytes area off len bad)
    { st := parts.foldl State.stageOut (if hit = 0 then s else s.incPar P.panDed 0 0 hit),
      payloads := parts.zipIdx.map fun x =>
        leBytes 1 stDone ++ leBytes 1 0 ++ leBytes 2 x.1.length ++ leBytes 4 (off + 1016 * x.2) ++ x.1 }

def cmdPantryRead (bad : List Nat) : Cmd :=
  { op := 0x51, cls := .read, states := notBoot, len := lenIs 12,
    run := fun s _ p => s.pantryRead bad (field p.payload 0 1) (field p.payload 4 4) (field p.payload 8 4) }

/-! ### Attic (R510, R511, R513) -/

def cmdAtticRead : Cmd :=
  { op := 0x60, cls := .read, states := notBoot, len := lenIs 2,
    run := fun s _ p => { st := s, payloads := [s.atticRead (field p.payload 0 1) (field p.payload 1 1)] } }

def cmdAtticWrite : Cmd :=
  { op := 0x61, cls := .write, states := [.idle, .test], len := lenIs 16,
    run := fun s n p =>
      let slot := field p.payload 0 1
      let v := field p.payload 8 8
      let r := s.judgeAttic n slot v
      if r = stAccepted then { ansStatus s r with after := fun s => s.atticWrite n p.seq slot v } else ansStatus s r }

def cmdAtticJournal : Cmd :=
  { op := 0x62, cls := .read, states := notBoot, len := lenIs 2,
    run := fun s _ p => { st := s, payloads := [s.atticJournal (field p.payload 0 1) (field p.payload 1 1)] } }

/-! ### Wings, lanes, recalibration and hive (chapter 17, R354, R355) -/

/-- The answer of an operation: where it is ACCEPTED the operation is begun, and it ends after its reply if it ends at once. -/
def opAnswer (n seq op target : Nat) (r : Nat × Option Nat × State) : Ans :=
  if r.1 = stAccepted then
    { ansStatus (r.2.2.startOp { opcode := op, target := target, sess := n, seq := seq, at_ := r.2.2.now }) stAccepted with
      after := fun s => match r.2.1 with
        | some st => s.endOp op target st
        | none => s }
  else ansStatus r.2.2 r.1

def cmdImageLoad : Cmd :=
  { op := 0x70, cls := .write, states := [.boot, .service],
    len := fun p => decide (24 ≤ p.payload.length) && decide (p.payload.length ≤ 1016) && decide ((p.payload.length - 8) % 16 = 0),
    run := fun s n p =>
      let r := s.loadImage n p.seq (field p.payload 0 1) (field p.payload 4 4) (p.payload.drop 8)
      match r.1 with
      | some st => ansStatus r.2 st
      | none => { st := r.2, payloads := [] } }

def cmdImageVerify : Cmd :=
  { op := 0x71, cls := .write, states := [.boot, .service], len := lenIs 1,
    run := fun s n p =>
      let w := field p.payload 0 1
      let r := s.verifyImage w
      opAnswer n p.seq 0x71 w (r.1, none, r.2) }

def cmdImageSwitch : Cmd :=
  { op := 0x72, cls := .write, states := [.service], len := lenIs 2,
    run := fun s n p =>
      let w := field p.payload 0 1
      let r := s.switchImage w (field p.payload 1 1)
      opAnswer n p.seq 0x72 w (r.1, none, r.2) }

def cmdRecal : Cmd :=
  { op := 0x73, cls := .write, states := [.service], len := lenIs 2,
    run := fun s n p => opAnswer n p.seq 0x73 (field p.payload 0 1) (s.recal (field p.payload 0 1)) }

def cmdLaneSwap : Cmd :=
  { op := 0x74, cls := .write, states := [.service], len := lenIs 2,
    run := fun s n p => opAnswer n p.seq 0x74 (field p.payload 0 1) (s.swapLane (field p.payload 0 1) (field p.payload 1 1)) }

/-- HIVE_LEAVE and HIVE_JOIN: BUSY while one of its opcode runs (R484). -/
def State.hiveOp (s : State) (n seq op : Nat) (f : State → State) : Ans :=
  if (s.findOp op 0).isSome then ansStatus s stBusy
  else { ansStatus (s.startOp { opcode := op, target := 0, sess := n, seq := seq, at_ := s.now }) stAccepted with after := f }

def cmdHiveLeave : Cmd :=
  { op := 0x75, cls := .write, states := [.service], len := lenIs 0, run := fun s n p => s.hiveOp n p.seq 0x75 State.hiveLeave }

def cmdHiveJoin : Cmd :=
  { op := 0x76, cls := .write, states := [.service], len := lenIs 0, run := fun s n p => s.hiveOp n p.seq 0x76 State.hiveJoin }

/-! ### SOFT_RESET (R756, R447) -/

def cmdSoftReset : Cmd :=
  { op := 0x7F, cls := .write, states := anyState, len := lenIs 4,
    run := fun s _ p =>
      if field p.payload 0 4 = 0x0000A55A then { ansStatus (if s.loader then s else s.saveWear) stDone with boot := true }
      else ansStatus s stRange }

end Sys2Proof.Machine
end

