-- ==== Sys2Proof/Machine/Supply.lean ====
section
/-!
DEFINITION. The 24 V feeds and the supply status (R717, R718, R734, Table 19.6).
-/
namespace Sys2Proof.Machine

def State.feed (s : State) (x : Nat) : Feed := tget s.feeds {} x
def State.setFeed (s : State) (x : Nat) (f : Feed) : State := { s with feeds := tset s.feeds x f }

/-- A condition that has held since a time: kept, started now, or ended. -/
def heldSince (now : Nat) (cond : Bool) (since : Option Nat) : Option Nat := if cond then some (since.getD now) else none

/-- A condition has held for w ns. -/
def heldFor (now w : Nat) (since : Option Nat) : Bool :=
  match since with
  | some t => decide (t + w ≤ now)
  | none => false

/-- The status bits of one feed, its voltage in 0.01 V. -/
def State.measureFeed (s : State) (x : Nat) (vin vsup : Int) : State :=
  let f := s.feed x
  let f := { f with on := f.on && decide (0 ≤ vin) }
  let low := heldSince s.now (decide (vin < 1680)) f.lowSince
  let drop := heldSince s.now (f.on && decide (30 < vin - vsup)) f.dropSince
  let wasLow := bit (s.par P.supplyStatus) x
  let s := s.setFeed x { f with lowSince := low, dropSince := drop }
  let s := s.setBit P.supplyStatus x (heldFor s.now 1000000 low || (wasLow && decide (vin < 1730)))
  let s := s.setBit P.supplyStatus (2 + x) (decide (vin < -50))
  let s := s.setBit P.supplyStatus (4 + x) (heldFor s.now 10000000 drop)
  s.setBit P.supplyStatus (6 + x) f.on

/-- The last measurement lies 1 ms back (R734). -/
def State.supplyDue (s : State) : Bool :=
  match s.dev.supplyAt with
  | some t => decide (t + 1000000 ≤ s.now)
  | none => true

/-- SUPPLY_MEASURE (R734): VIN_A, VIN_B and VSUP in 0.01 V, the current through VSUP in mA. -/
def supplyMeasure (vinA vinB : Int) (vsup cur : Nat) (s : State) : State :=
  if s.dev.st = .off ∨ ¬ s.supplyDue then s
  else
    let s : State := { s with dev := { s.dev with supplyAt := some s.now } }
    let s := (s.setPar P.vinAV (clamp vinA (-4000) 4500)).setPar P.vinBV (clamp vinB (-4000) 4500)
    let s := (s.setPar P.vsupV (min 4500 vsup : Nat)).setPar P.supplyPower (clamp (rdiv (cur * vsup : Nat) 1000) 0 4000)
    let s := (s.measureFeed 0 vinA vsup).measureFeed 1 vinB vsup
    let was := bit (s.par P.supplyStatus) 8
    let low := decide (vsup < 1680) || (was && decide (vsup < 1730))
    let s := if low ∧ ¬ was then s.incPar P.vsupDips else s
    s.setBit P.supplyStatus 8 low

/-- The feed controllers act from the release of the power-on reset to the next brown-out (R717). -/
def State.feedsRun (s : State) : Bool := decide (s.dev.st ≠ .off) || s.dev.scanReset

/-- FEED_REVERSE (R717): VSUP exceeds VIN_x by 10 mV. -/
def feedReverse (x : Nat) (s : State) : State :=
  if x < 2 ∧ s.feedsRun then s.setFeed x { s.feed x with on := false } else s

/-- FEED_FORWARD (R717, R718): the forward condition holds, with VIN_x (0.01 V) not below 0 V. -/
def feedForward (x : Nat) (vin : Int) (s : State) : State :=
  if x < 2 ∧ s.feedsRun ∧ 0 ≤ vin then s.setFeed x { s.feed x with on := true } else s

end Sys2Proof.Machine
end

