-- ==== Sys2Proof/Machine/Arms.lean ====
section
/-!
DEFINITION. The meaning of every row of the table of operations: what it does, at the time it carries.
-/
namespace Sys2Proof.Machine

def execPowerOnResetRelease (t : Nat) (s : State) : Out := answer s (powerOnRelease (s.at t))
def execBrownOut (t : Nat) (s : State) : Out := answer s (brownOut (s.at t))
def execCrystalQualified (t : Nat) (s : State) : Out := answer s (crystalQualified (s.at t))
def execCrystalTimeout (t : Nat) (inRange : Bool) (s : State) : Out := answer s (crystalTimeout inRange (s.at t))
def execPllLocked (t : Nat) (s : State) : Out := answer s (pllLocked (s.at t))
def execCellarSelfTest (t : Nat) (s : State) : Out := answer s (cellarSelfTest (s.at t))
def execAtticLoad (t : Nat) (failed : List (Nat × Nat)) (s : State) : Out := answer s (atticLoadStep failed (s.at t))
def execLarderInit (t : Nat) (bad : Option Nat) (s : State) : Out := answer s (larderInit bad (s.at t))
def execWingSelection (t : Nat) (ptrOk : Bool) (s : State) : Out := answer s (wingSelection ptrOk (s.at t))
def execImageCrcCheck (t : Nat) (s : State) : Out := answer s (imageCrcCheck (s.at t))
def execLockstepSelfTest (t : Nat) (okA okB : Bool) (s : State) : Out := answer s (lockstepSelfTest okA okB (s.at t))
def execBootSelfTestRetry (t : Nat) (s : State) : Out := answer s (bootRetry (s.at t))
def execConfigLoad (t : Nat) (ok : Bool) (area : List (Nat × Int)) (s : State) : Out := answer s (configLoad ok area (s.at t))
def execCellLinkTraining (t absent : Nat) (bootV counts : List Nat) (s : State) : Out := answer s (cellLinkTraining absent bootV counts (s.at t))
def execBootAfterReply (t : Nat) (s : State) : Out := answer s (bootAfterReply (s.at t))
def execReferenceLost (t : Nat) (s : State) : Out := answer s (referenceLost (s.at t))
def execCrystalBack (t : Nat) (s : State) : Out := answer s (crystalBack (s.at t))
def execClockCheckWindow (t : Nat) (dev : Int) (s : State) : Out := answer s (clockCheck dev (s.at t))
/-- FIRMWARE_FAULT (R51): `fw` for a fault of the firmware, else a failure of the pair. -/
def execFirmwareFault (t : Nat) (fw : Bool) (s : State) : Out := answer s ((s.at t).coreFault fw)
def execPairRestart (t : Nat) (ok : Bool) (s : State) : Out := answer s (pairRestart ok (s.at t))
def execCellarCoreRestart (t : Nat) (s : State) : Out := answer s (cellarRestart (s.at t))
def execSampleEvent (t n : Nat) (samples : List (List Int × List Nat)) (computed spareOk : Bool) (s : State) : Out :=
  answer s (sampleEvent n samples computed spareOk (s.at t))
def execShadowDeadline (t n : Nat) (s : State) : Out := answer s (shadowDeadline n (s.at t))
def execEdgeDispatch (t n : Nat) (s : State) : Out := answer s (edgeDispatch n (s.at t))
def execLaneMismatch (t n : Nat) (again : Bool) (s : State) : Out := answer s (laneMismatch n again (s.at t))
def execLaneSelfTest (t n : Nat) (pass : Bool) (s : State) : Out := answer s (laneSelfTest n pass (s.at t))
def execHouseSilent (t k : Nat) (s : State) : Out := answer s (houseSilent k (s.at t))
def execBridgeImbalance (t k : Nat) (s : State) : Out := answer s (bridgeImbalance k (s.at t))
def execSenseRefCheck (t b : Nat) (cur : List Int) (volt : Int) (s : State) : Out := answer s (senseRefCheck b cur volt (s.at t))
def execSelfTriggerConversion (t b : Nat) (raw : List Int) (rawV : List Nat) (s : State) : Out := answer s (selfTrigger b raw rawV (s.at t))
def execSenseSum (t b : Nat) (s : State) : Out := answer s (senseSum b (s.at t))
def execSenseOffset (t b x : Nat) (s : State) : Out := answer s (senseOffset b x (s.at t))
def execVdcDisagree (t k : Nat) (s : State) : Out := answer s (vdcDisagree k (s.at t))
def execPhaseOc (t b : Nat) (raw : List Int) (s : State) : Out := answer s (phaseOc b raw (s.at t))
def execSdStream (t d wave : Nat) (s : State) : Out := answer s (sdStream d wave (s.at t))
def execFusionSelfTimed (t k : Nat) (s : State) : Out := answer s (fusionSelfTimed k (s.at t))
def execSourceDropped (t k src : Nat) (s : State) : Out := answer s (sourceDropped k src (s.at t))
def execSourceReadmitted (t k src : Nat) (s : State) : Out := answer s (sourceReadmitted k src (s.at t))
def execWaggleReversal (t k : Nat) (s : State) : Out := answer s (waggleReversal k (s.at t))
def execScoutSettleTimeout (t k : Nat) (s : State) : Out := answer s (scoutSettleTimeout k (s.at t))
def execPolarityPulseEnd (t k : Nat) (raw : List Int) (s : State) : Out := answer s (polarityPulseEnd k raw (s.at t))
def execCurrentDecayed (t k : Nat) (codes : List (List Int)) (s : State) : Out := answer s (currentDecayed k codes (s.at t))
def execScoutBackCheckEnd (t k : Nat) (s : State) : Out := answer s (scoutBackEnd k (s.at t))
def execCatchLock (t k : Nat) (s : State) : Out := answer s (catchLock k (s.at t))
def execCatchNoEmf (t k : Nat) (s : State) : Out := answer s (catchNoEmf k (s.at t))
def execCatchAttemptTimeout (t k : Nat) (s : State) : Out := answer s (catchTimeout k (s.at t))
def execCatchUsedReset (t k : Nat) (s : State) : Out := answer s (catchUsedReset k (s.at t))
def execLimpCrossingTimeout (t k : Nat) (s : State) : Out := answer s (limpCrossingTimeout k (s.at t))
def execLimpReturn (t k : Nat) (s : State) : Out := answer s (limpReturn k (s.at t))
def execEncTransition (t k : Nat) (a b z : Bool) (stamp hold : Nat) (s : State) : Out := answer s (encTransition k a b z stamp hold (s.at t))
def execFbLine (t k pair : Nat) (low : Bool) (s : State) : Out := answer s (fbLine k pair low (s.at t))
def execIndexEvent (t k : Nat) (rising : Bool) (s : State) : Out := answer s (indexEvent k rising (s.at t))
def execIndexMissed (t k : Nat) (s : State) : Out := answer s (indexMissed k (s.at t))
def execEncStandstill (t k : Nat) (s : State) : Out := answer s (encStandstill k (s.at t))
def execFeedbackSelfSample (t d : Nat) (s : State) : Out := answer s (feedbackSelfSample d (s.at t))
def execResolverSamplePair (t k : Nat) (sinC cosC : Int) (pos : Bool) (s : State) : Out := answer s (resolverPair k sinC cosC pos (s.at t))
def execResExc (t k : Nat) (s : State) : Out := answer s (resExc k (s.at t))
def execResExcRestart (t k : Nat) (s : State) : Out := answer s (resExcRestart k (s.at t))
def execSsiFrameStart (t k : Nat) (high : Bool) (s : State) : Out := answer s (ssiFrameStart k high (s.at t))
def execSsiStartTimeout (t k : Nat) (s : State) : Out := answer s (ssiTimeout k (s.at t))
def execSsiFrameCheck (t k bits delay : Nat) (s : State) : Out := answer s (ssiFrameCheck k bits delay (s.at t))
def execFbReturn (t d : Nat) (s : State) : Out := answer s (fbReturn d (s.at t))
def execSpeedLoopTick (t k : Nat) (s : State) : Out := answer s (speedLoopTick k (s.at t))
def execSnatchDwellEnd (t k : Nat) (s : State) : Out := answer s (snatchDwellEnd k (s.at t))
def execVented (t k : Nat) (s : State) : Out := answer s (ventSet k (s.at t))
def execVentedEnd (t k : Nat) (s : State) : Out := answer s (ventEnd k (s.at t))
def execStandstillReached (t k : Nat) (s : State) : Out := answer s (standstillReached k (s.at t))
def execChopMinOnEnd (t k : Nat) (s : State) : Out := answer s (chopMinOnEnd k (s.at t))
def execChopEnergyUpdate (t : Nat) (s : State) : Out := answer s (chopEnergyUpdate (s.at t))
def execLinkUv (t k : Nat) (s : State) : Out := answer s (linkUv k (s.at t))
def execEcSample (t k : Nat) (raw : Int) (freq : Nat) (quiet : Bool) (s : State) : Out := answer s (ecSample k raw freq quiet (s.at t))
def execEcLost (t k : Nat) (s : State) : Out := answer s (ecLost k (s.at t))
def execEcBack (t k : Nat) (s : State) : Out := answer s (ecBack k (s.at t))
def execRingCycleStart (t : Nat) (s : State) : Out := answer s ((ringCycleStart (s.at t)).flush true)
def execTrayReceived (t p : Nat) (bs : Bytes) (frac : Nat) (s : State) : Out := answer s ((trayReceived p bs frac (s.at t)).flush true)
def execViewClose (t : Nat) (s : State) : Out := answer s (viewClose (s.at t))
def execRingDelayRequest (t p seq member turn : Nat) (s : State) : Out := answer s (ringDelayRequest p seq member turn (s.at t))
def execRingDelayResponse (t p seq member turn rtt : Nat) (s : State) : Out := answer s (ringDelayResponse p seq member turn rtt (s.at t))
def execPairDown (t p pair : Nat) (s : State) : Out := answer s (pairDown p pair (s.at t))
def execPairUp (t p pair : Nat) (s : State) : Out := answer s (pairUp p pair (s.at t))
def execPortReady (t p : Nat) (s : State) : Out := answer s (portReady p (s.at t))
def execCycleMasterTakeover (t : Nat) (s : State) : Out := answer s (cycleMasterTakeover (s.at t))
def execRingLost (t : Nat) (s : State) : Out := answer s (ringLost (s.at t))
def execMemberJoining (t : Nat) (s : State) : Out := answer s (memberJoining (s.at t))
def execJoinRampEnd (t : Nat) (s : State) : Out := answer s (joinRampEnd (s.at t))
def execLeaveRampEnd (t : Nat) (s : State) : Out := answer s (leaveRampEnd (s.at t))
def execHiveEnWrite (t v : Nat) (s : State) : Out := answer s (hiveEnWrite v (s.at t))
def execDesat (t c : Nat) (s : State) : Out := answer s (desatTrip c (s.at t))
def execSoftOffLevelEnd (t c : Nat) (s : State) : Out := answer s (softOffLevelEnd c (s.at t))
def execGateOffDetected (t c : Nat) (s : State) : Out := answer s (gateOffDetected c (s.at t))
def execGateStageChange (t c what plateau : Nat) (s : State) : Out := answer s (gateStageChange c what plateau (s.at t))
def execDeadTimeExpired (t c : Nat) (s : State) : Out := answer s (deadTimeExpired c (s.at t))
def execGateStuck (t c : Nat) (s : State) : Out := answer s (gateStuck c (s.at t))
def execCellLinkLoss (t g : Nat) (s : State) : Out := answer s (cellLinkLoss g (s.at t))
def execCellStatusFrame (t g bootV vglp : Nat) (vgln : Int) (s : State) : Out := answer s (cellStatusFrame g bootV vglp vgln (s.at t))
def execCrossCmd (t g : Nat) (s : State) : Out := answer s (crossCmd g (s.at t))
def execBootstrap (t g v : Nat) (s : State) : Out := answer s (bootstrapUv g v (s.at t))
def execGateSupply (t c : Nat) (bad : Bool) (s : State) : Out := answer s (gateSupply c bad (s.at t))
def execChopOc (t k : Nat) (s : State) : Out := answer s (chopOc k (s.at t))
def execDgEdge (t p : Nat) (high : Bool) (s : State) : Out := answer s (dgEdge p high (s.at t))
def execOcBackstop (t b : Nat) (s : State) : Out := answer s (ocBackstop b (s.at t))
def execHoldoffRequest (t mask : Nat) (on : Bool) (s : State) : Out := answer s (holdoffRequest mask on (s.at t))
def execHoldoffRelease (t g : Nat) (s : State) : Out := answer s (holdoffRelease g (s.at t))
def execAscRelease (t k : Nat) (s : State) : Out := answer s (ascEnd k (s.at t))
def execStoInputChange (t which : Nat) (high : Bool) (s : State) : Out := answer s (stoInputChange which high (s.at t))
def execStoDemand (t : Nat) (s : State) : Out := answer s (stoDemand (s.at t))
def execStoRelease (t : Nat) (s : State) : Out := answer s (stoRelease (s.at t))
def execStoDiscrepancy (t : Nat) (s : State) : Out := answer s (stoDiscrepancy (s.at t))
def execSs1Timeout (t : Nat) (s : State) : Out := answer s (ss1Timeout (s.at t))
def execPrecheckPumpDeadline (t k : Nat) (s : State) : Out := answer s (precheckPumpDeadline k (s.at t))
def execGateLoopTest (t k : Nat) (reached : Bool) (ns mv : Nat) (s : State) : Out := answer s (gateLoopTest k reached ns mv (s.at t))
def execDesatTest (t k : Nat) (trips rises : Bool) (s : State) : Out := answer s (desatTest k trips rises (s.at t))
def execPhaseTest (t k : Nat) (off node : List Nat) (s : State) : Out := answer s (phaseTest k off node (s.at t))
def execSensingTest (t k : Nat) (zero : List (List Int)) (ref0 ref1 : List Int) (s : State) : Out := answer s (sensingTest k zero ref0 ref1 (s.at t))
def execChopperTest (t k : Nat) (reached : Bool) (ns mv : Nat) (trips : Bool) (s : State) : Out := answer s (chopperTest k reached ns mv trips (s.at t))
def execPrecheckBridgeDone (t k : Nat) (s : State) : Out := answer s (precheckBridgeDone k (s.at t))
def execFaultWaitExpired (t k : Nat) (s : State) : Out := answer s (faultWaitExpired k (s.at t))
def execTempWindow (t : Nat) (counts : List Nat) (s : State) : Out := answer s (tempWindow counts (s.at t))
def execTsPlausible (t n : Nat) (s : State) : Out := answer s (tsPlausible n (s.at t))
def execThermalStateChange (t which : Nat) (s : State) : Out := answer s (thermalStateChange which (s.at t))
def execThermalSdRelease (t : Nat) (s : State) : Out := answer s (thermalSdRelease (s.at t))
def execThGraceExpired (t w : Nat) (s : State) : Out := answer s (thGraceExpired w (s.at t))
def execThRequestRepeat (t w : Nat) (s : State) : Out := answer s (thRequestRepeat w (s.at t))
def execThAck (t : Nat) (s : State) : Out := answer s (thAck (s.at t))
def execHold60End (t : Nat) (s : State) : Out := answer s (hold60End (s.at t))
def execNtcSample (t k code : Nat) (s : State) : Out := answer s (ntcSample k code (s.at t))
def execJunctionUpdate (t : Nat) (s : State) : Out := answer s (junctionUpdate (s.at t))
def execJtCalCmd (t b v : Nat) (s : State) : Out := answer s (jtCalCmd b v (s.at t))
def execJtPulse (t b plateau : Nat) (s : State) : Out := answer s (jtPulse b plateau (s.at t))
def execJtCalDone (t b : Nat) (s : State) : Out := answer s (jtCalDone b (s.at t))
def execLifeUpdate (t : Nat) (s : State) : Out := answer s (lifeUpdate (s.at t))
def execWearSave (t : Nat) (s : State) : Out := answer s (wearSave (s.at t))
def execSpiWrite (t : Nat) (bs : Bytes) (s : State) : Out := answer s (spiWrite bs (s.at t))
def execSpiRead (t n : Nat) (s : State) : Out := answer s (spiRead n (s.at t))
def execSpiStatus (t : Nat) (bs : Bytes) (s : State) : Out := answer s (spiQuery bs (s.at t))
def execOpen (t : Nat) (tp : Transport) (s : State) : Out := answer s ((s.at t).serveOpen tp)
def execClose (t : Nat) (tp : Transport) (s : State) : Out := answer s ((s.at t).serve tp cmdClose)
def execHeartbeat (t : Nat) (tp : Transport) (s : State) : Out := answer s ((s.at t).serve tp cmdHeartbeat)
def execClaim (t : Nat) (tp : Transport) (s : State) : Out := answer s ((s.at t).serve tp cmdClaim)
def execRelease (t : Nat) (tp : Transport) (s : State) : Out := answer s ((s.at t).serve tp cmdRelease)
def execHandover (t : Nat) (tp : Transport) (s : State) : Out := answer s ((s.at t).serve tp cmdHandover)
def execGet (t : Nat) (tp : Transport) (s : State) : Out := answer s ((s.at t).serve tp cmdGet)
def execSet (t : Nat) (tp : Transport) (s : State) : Out := answer s ((s.at t).serve tp cmdSet)
def execParameterWrite (t pn v : Nat) (s : State) : Out := answer s (parameterWrite pn v (s.at t))
def execGetBlock (t : Nat) (tp : Transport) (s : State) : Out := answer s ((s.at t).serve tp cmdGetBlock)
def execSetBlock (t : Nat) (tp : Transport) (s : State) : Out := answer s ((s.at t).serve tp cmdSetBlock)
def execSnapshot (t : Nat) (tp : Transport) (s : State) : Out := answer s ((s.at t).serve tp cmdSnapshot)
def execEnable (t : Nat) (tp : Transport) (s : State) : Out := answer s ((s.at t).serve tp cmdEnable)
def execDisable (t : Nat) (tp : Transport) (s : State) : Out := answer s ((s.at t).serve tp cmdDisable)
def execSetpoint (t : Nat) (tp : Transport) (s : State) : Out := answer s ((s.at t).serve tp cmdSetpoint)
def execModeDevice (t : Nat) (tp : Transport) (s : State) : Out := answer s ((s.at t).serve tp cmdModeDevice)
def execModeAxis (t : Nat) (tp : Transport) (s : State) : Out := answer s ((s.at t).serve tp cmdModeAxis)
def execPrecheck (t : Nat) (tp : Transport) (s : State) : Out := answer s ((s.at t).serve tp cmdPrecheck)
def execQuickstop (t : Nat) (tp : Transport) (s : State) : Out := answer s ((s.at t).serve tp cmdQuickstop)
def execFaultClearAxis (t : Nat) (tp : Transport) (s : State) : Out := answer s ((s.at t).serve tp cmdFaultClearAxis)
def execFaultClearDevice (t : Nat) (tp : Transport) (s : State) : Out := answer s ((s.at t).serve tp cmdFaultClearDevice)
def execSubscribe (t : Nat) (tp : Transport) (s : State) : Out := answer s ((s.at t).serve tp cmdSubscribe)
def execUnsubscribe (t : Nat) (tp : Transport) (s : State) : Out := answer s ((s.at t).serve tp cmdUnsubscribe)
def execForagerLoad (t : Nat) (tp : Transport) (s : State) : Out := answer s ((s.at t).serve tp cmdForagerLoad)
def execForagerStart (t : Nat) (tp : Transport) (s : State) : Out := answer s ((s.at t).serve tp cmdForagerStart)
def execForagerStop (t : Nat) (tp : Transport) (s : State) : Out := answer s ((s.at t).serve tp cmdForagerStop)
def execStopDrained (t c : Nat) (s : State) : Out := answer s (stopDrained c (s.at t))
def execPantryDisarm (t : Nat) (tp : Transport) (s : State) : Out := answer s ((s.at t).serve tp cmdPantryDisarm)
def execPantryArm (t : Nat) (tp : Transport) (s : State) : Out := answer s ((s.at t).serve tp cmdPantryArm)
def execPantryTrigger (t : Nat) (tp : Transport) (s : State) : Out := answer s ((s.at t).serve tp cmdPantryTrigger)
def execPantryRead (t : Nat) (tp : Transport) (bad : List Nat) (s : State) : Out := answer s ((s.at t).serve tp (cmdPantryRead bad))
def execAtticRead (t : Nat) (tp : Transport) (s : State) : Out := answer s ((s.at t).serve tp cmdAtticRead)
def execAtticWrite (t : Nat) (tp : Transport) (s : State) : Out := answer s ((s.at t).serve tp cmdAtticWrite)
def execAtticProgramDone (t : Nat) (pass : Bool) (s : State) : Out := answer s (atticProgramDone pass (s.at t))
def execAtticJournal (t : Nat) (tp : Transport) (s : State) : Out := answer s ((s.at t).serve tp cmdAtticJournal)
def execImageLoad (t : Nat) (tp : Transport) (s : State) : Out := answer s ((s.at t).serve tp cmdImageLoad)
def execImageLoadDone (t : Nat) (s : State) : Out := answer s (imageLoadDone (s.at t))
def execImageVerify (t : Nat) (tp : Transport) (s : State) : Out := answer s ((s.at t).serve tp cmdImageVerify)
def execImageVerifyDone (t : Nat) (s : State) : Out := answer s (imageVerifyDone (s.at t))
def execImageSwitch (t : Nat) (tp : Transport) (s : State) : Out := answer s ((s.at t).serve tp cmdImageSwitch)
def execSwitchChecksDone (t : Nat) (ok : Bool) (s : State) : Out := answer s (switchChecksDone ok (s.at t))
def execStandbySynced (t : Nat) (ok : Bool) (s : State) : Out := answer s (standbySynced ok (s.at t))
def execNewPairCommit (t : Nat) (s : State) : Out := answer s (newPairCommit (s.at t))
def execFormerPairSynced (t : Nat) (ok : Bool) (s : State) : Out := answer s (formerPairSynced ok (s.at t))
def execRecal (t : Nat) (tp : Transport) (s : State) : Out := answer s ((s.at t).serve tp cmdRecal)
def execRecalDone (t : Nat) (s : State) : Out := answer s (recalDone (s.at t))
def execLaneSwap (t : Nat) (tp : Transport) (s : State) : Out := answer s ((s.at t).serve tp cmdLaneSwap)
def execLaneSwapDone (t k : Nat) (s : State) : Out := answer s (laneSwapDone k (s.at t))
def execHiveLeave (t : Nat) (tp : Transport) (s : State) : Out := answer s ((s.at t).serve tp cmdHiveLeave)
def execHiveJoin (t : Nat) (tp : Transport) (s : State) : Out := answer s ((s.at t).serve tp cmdHiveJoin)
def execSoftReset (t : Nat) (tp : Transport) (s : State) : Out := answer s ((s.at t).serve tp cmdSoftReset)
def execSessionIdleTimeout (t n : Nat) (s : State) : Out := answer s (sessionIdleTimeout n (s.at t))
def execAuthProofTimeout (t n : Nat) (s : State) : Out := answer s (authProofTimeout n (s.at t))
def execTelemetry (t n : Nat) (s : State) : Out := answer s (telemetry n (s.at t))
/-- COMPLETION_NOTIFICATION: the completions, and the rest of reply runs, that now fit their reply queues. -/
def execCompletionNotification (t : Nat) (s : State) : Out :=
  let s := s.at t
  answer s (if s.serving then (s.flush false).flush true else s)
def execReassemblyTimeout (t : Nat) (s : State) : Out := answer s (reassemblyTimeout (s.at t))
def execElectionClose (t : Nat) (s : State) : Out := answer s (electionClose (s.at t))
def execHandoverLapse (t : Nat) (s : State) : Out := answer s (handoverLapse (s.at t))
def execOwnerHeartbeatTimeout (t : Nat) (s : State) : Out := answer s (ownerHeartbeatTimeout (s.at t))
def execEmergencyDelay (t : Nat) (s : State) : Out := answer s (emergencyDelay (s.at t))
def execQueueWrite (t q : Nat) (data : Bytes) (dest port : Nat) (s : State) : Out := answer s (queueWrite q data dest port (s.at t))
def execHallwayAccess (t m a n : Nat) (wr : Bool) (bs : Bytes) (bad : List Nat) (s : State) : Out :=
  answer s (hallwayAccess m a n wr bs bad (s.at t))
def execLarderScrub (t w : Nat) (bad : List Nat) (s : State) : Out := answer s (larderScrub w bad (s.at t))
def execSwarmFrameReceived (t p kind id : Nat) (brs esi : Bool) (data : Bytes) (rx : RxBits) (s : State) : Out :=
  answer s (frameReceived p kind id brs esi data rx (s.at t))
def execReceiveEntryTake (t q : Nat) (s : State) : Out := answer s (receiveEntryTake q (s.at t))
def execSwarmFrameSent (t p dur tdc : Nat) (s : State) : Out := answer s ((frameSent p dur tdc (s.at t)).flush true)
def execSwarmTxError (t p : Nat) (err : TxErr) (dur : Nat) (s : State) : Out := answer s (txError p err dur (s.at t))
def execFrameLifetimeEnd (t p : Nat) (s : State) : Out := answer s ((frameLifetimeEnd p (s.at t)).flush true)
def execBusoffReqDelay (t p : Nat) (s : State) : Out := answer s (busoffReqDelay p (s.at t))
def execSbRecover (t mask : Nat) (s : State) : Out := answer s (sbRecover mask (s.at t))
def execBusOffRecovered (t p : Nat) (s : State) : Out := answer s (busOffRecovered p (s.at t))
def execStatusFrame (t : Nat) (s : State) : Out := answer s (statusFrame (s.at t))
def execSbEn (t p v : Nat) (s : State) : Out := answer s (sbEnWrite p v (s.at t))
def execAddrClaimed (t : Nat) (s : State) : Out := answer s (addrClaimed (s.at t))
def execAddrReclaim (t : Nat) (s : State) : Out := answer s (addrReclaim (s.at t))
def execBasicCycleStart (t : Nat) (s : State) : Out := answer s (basicCycleStart (s.at t))
def execCombWindowStart (t p : Nat) (s : State) : Out := answer s (combWindowStart p (s.at t))
def execReferenceMessage (t p id : Nat) (data : Bytes) (rx : RxBits) (s : State) : Out :=
  answer s (classReceived 1 none p id data rx (s.at t))
def execDelayRequestSend (t : Nat) (s : State) : Out := answer s (delayRequestSend (s.at t))
def execDelayRequestMessage (t p id : Nat) (data : Bytes) (rx : RxBits) (s : State) : Out :=
  answer s (classReceived 2 (some 0) p id data rx (s.at t))
def execDelayResponseMessage (t p id : Nat) (data : Bytes) (rx : RxBits) (s : State) : Out :=
  answer s (classReceived 2 (some 1) p id data rx (s.at t))
def execTimeHoldover (t : Nat) (s : State) : Out := answer s (timeHoldover (s.at t))
def execTimeLost (t : Nat) (s : State) : Out := answer s (timeLost (s.at t))
def execBecomeMaster (t : Nat) (s : State) : Out := answer s (becomeMasterEv (s.at t))
def execMasterByRank (t : Nat) (s : State) : Out := answer s (masterByRank (s.at t))
def execTimeSet (t v : Nat) (s : State) : Out := answer s (timeSet v (s.at t))
def execSwarmSecond (t : Nat) (s : State) : Out := answer s (swarmSecond (s.at t))
def execCombWaitEnd (t p : Nat) (s : State) : Out := answer s (combWaitEnd p (s.at t))
def execRelayResume (t q : Nat) (s : State) : Out := answer s (relayResume q (s.at t))
def execEnd (t c : Nat) (ded : List Nat) (s : State) : Out :=
  answer s ((s.at t).fgRunInstr c ded (fun w => decide (w / 0x10000000 = 0)) (fgEnd c))
def execMove (t c : Nat) (ded : List Nat) (s : State) : Out :=
  answer s ((s.at t).fgRunInstr c ded (fun w => decide (w / 0x10000000 = 1)) (fgMove c ded))
def execLoop (t c : Nat) (ded : List Nat) (s : State) : Out :=
  answer s ((s.at t).fgRunInstr c ded (fun w => decide (w / 0x10000000 = 2)) (fgLoop c))
def execWait (t c : Nat) (ded : List Nat) (s : State) : Out :=
  answer s ((s.at t).fgRunInstr c ded (fun w => decide (w / 0x10000000 = 3)) (fgWait c))
def execSignal (t c : Nat) (ded : List Nat) (s : State) : Out :=
  answer s ((s.at t).fgRunInstr c ded (fun w => decide (w / 0x10000000 = 4)) (fgSignal c))
def execSetxLoad (t c : Nat) (ded : List Nat) (s : State) : Out :=
  answer s ((s.at t).fgRunInstr c ded (isSetx 0) fun w1 w2 s => fgSetx c 2 w2 w1 s)
def execSetxAdd (t c : Nat) (ded : List Nat) (s : State) : Out :=
  answer s ((s.at t).fgRunInstr c ded (isSetx 1) fun w1 w2 s => fgSetx c 2 (s.xreg c (fbits w1 27 25) + w2) w1 s)
def execSetxLoadm (t c : Nat) (ded : List Nat) (s : State) : Out :=
  answer s ((s.at t).fgRunInstr c ded (isSetx 2) (fgLoadm c ded))
def execSetxCopy (t c : Nat) (ded : List Nat) (s : State) : Out :=
  answer s ((s.at t).fgRunInstr c ded (isSetx 3) fun w1 _ s => fgSetx c 1 (s.xreg c (fbits w1 21 19)) w1 s)
def execSetxAnd (t c : Nat) (ded : List Nat) (s : State) : Out :=
  answer s ((s.at t).fgRunInstr c ded (isSetx 4) fun w1 w2 s => fgSetx c 2 (Nat.land (s.xreg c (fbits w1 27 25)) w2) w1 s)
def execSetxPlane (t c : Nat) (ded : List Nat) (s : State) : Out :=
  answer s ((s.at t).fgRunInstr c ded (isSetx 5) (fgPlane c))
def execShuf (t c : Nat) (ded : List Nat) (s : State) : Out :=
  answer s ((s.at t).fgRunInstr c ded (fun w => decide (w / 0x10000000 = 6)) (fgShuf c ded))
def execCrc (t c : Nat) (ded : List Nat) (s : State) : Out :=
  answer s (crcStep c ded (s.at t))
def execEventLineRaise (t k : Nat) (s : State) : Out := answer s (eventLineRaise k (s.at t))
def execWaitTimeout (t c : Nat) (s : State) : Out := answer s (waitTimeout c (s.at t))
def execWriteBeatResponse (t c : Nat) (ok : Bool) (s : State) : Out := answer s (writeBeatResponse c ok (s.at t))
def execFgDisable (t c v : Nat) (s : State) : Out := answer s (fgDisableWrite c (v % 2) (s.at t))
def execPublishRecord (t k : Nat) (s : State) : Out := answer s (publishRecord k (s.at t))
def execPantrySample (t c : Nat) (s : State) : Out := answer s (pantrySample c (s.at t))
def execFaultRecordCopy (t j : Nat) (s : State) : Out := answer s (faultRecordCopy j (s.at t))
def execPorchTransaction (t space : Nat) (wr : Bool) (a hchk v dchk : Nat) (hold : Bool) (s : State) : Out :=
  answer s (porchTransaction space wr a hchk v dchk hold (s.at t))
def execPorchIdleReset (t : Nat) (s : State) : Out := answer s (porchIdleReset (s.at t))
def execPorchStatClear (t v : Nat) (s : State) : Out := answer s ((s.at t).good 0 true 1 v)
def execNewChallenge (t : Nat) (s : State) : Out := answer s ((s.at t).good 0 true 2 1)
def execVerify (t : Nat) (s : State) : Out := answer s ((s.at t).good 0 true 2 2)
def execPorchVerifyDone (t : Nat) (sig : Bool) (s : State) : Out := answer s (porchVerifyDone sig (s.at t))
def execChallengeBlockEnd (t : Nat) (s : State) : Out := answer s (challengeBlockEnd (s.at t))
def execRelock (t : Nat) (s : State) : Out := answer s ((s.at t).good 0 true 2 3)
def execFullHalt (t : Nat) (s : State) : Out := answer s ((s.at t).good 0 true 0x20 1)
def execLiveHalt (t : Nat) (s : State) : Out := answer s ((s.at t).good 0 true 0x20 2)
def execHaltResume (t : Nat) (s : State) : Out := answer s ((s.at t).good 0 true 0x20 3)
def execHaltStep (t : Nat) (s : State) : Out := answer s ((s.at t).good 0 true 0x20 4)
def execStandbyResynced (t : Nat) (s : State) : Out := answer s (standbyResynced (s.at t))
def execBreakpointHit (t k : Nat) (s : State) : Out := answer s (breakpointHit k (s.at t))
def execWatchpointHit (t k a : Nat) (wr : Bool) (s : State) : Out := answer s (watchpointHit k a wr (s.at t))
def execMemData (t : Nat) (wr : Bool) (v : Nat) (hold : Bool) (s : State) : Out := answer s ((s.at t).good 1 wr 1 v hold)
def execRegData (t : Nat) (wr : Bool) (v : Nat) (s : State) : Out := answer s ((s.at t).good 1 wr 3 v)
def execTxlen (t n : Nat) (s : State) : Out := answer s ((s.at t).good 2 true 0 n)
def execTxdata (t v : Nat) (s : State) : Out := answer s ((s.at t).good 2 true 1 v)
def execRxdata (t : Nat) (s : State) : Out := answer s ((s.at t).good 2 false 3 0)
def execExtest (x : Scan) (s : State) : Out := answer s (extest x (s.at x.at_))
def execSamplePreload (x : Scan) (s : State) : Out := answer s (samplePreload x (s.at x.at_))
def execClamp (x : Scan) (s : State) : Out := answer s (clampScan x (s.at x.at_))
def execHighz (x : Scan) (s : State) : Out := answer s (highz x (s.at x.at_))
def execIdcode (x : Scan) (s : State) : Out := answer s (idcodeScan x (s.at x.at_))
def execBypass (x : Scan) (s : State) : Out := answer s (bypassScan x (s.at x.at_))
def execTestLogicReset (t : Nat) (s : State) : Out := answer s (testLogicReset (s.at t))
def execSupplyMeasure (t : Nat) (vinA vinB : Int) (vsup cur : Nat) (s : State) : Out :=
  answer s (supplyMeasure vinA vinB vsup cur (s.at t))
def execFeedReverse (t x : Nat) (s : State) : Out := answer s (feedReverse x (s.at t))
def execFeedForward (t x : Nat) (vin : Int) (s : State) : Out := answer s (feedForward x vin (s.at t))
def execCarrierPeakSample (t n : Nat) (samples : List (List Int × List Nat)) (s : State) : Out := answer s (carrierPeak n samples (s.at t))
def execEdgeAtGatePin (t c : Nat) (on : Bool) (s : State) : Out := answer s (edgeAtGatePin c on (s.at t))
def execSwarmRxError (t p : Nat) (by8 : Bool) (s : State) : Out := answer s (rxError p by8 (s.at t))
def execPortIntegrated (t p : Nat) (s : State) : Out := answer s (portIntegrated p (s.at t))
def execFaultCleared (t code inst : Nat) (s : State) : Out := answer s (faultCleared code inst (s.at t))
def execRejectedPacket (t : Nat) (tp : Transport) (s : State) : Out := answer s ((s.at t).serveRejected tp)

end Sys2Proof.Machine
end

