-- ==== Sys2Proof/Machine/Dispatch.lean ====
section
/-!
DEFINITION. The meaning of every command: one arm for one constructor, each one direct call.
-/
namespace Sys2Proof.Machine

/-- The effect of a command on everything but the queue. -/
def exec (i : Instr) (s : State) : Host.Outcome State Fault Refusal :=
  match i with
  | .powerOnResetRelease t => Sys2Proof.Machine.execPowerOnResetRelease t s
  | .brownOut t => Sys2Proof.Machine.execBrownOut t s
  | .crystalQualified t => Sys2Proof.Machine.execCrystalQualified t s
  | .crystalTimeout t inRange => Sys2Proof.Machine.execCrystalTimeout t inRange s
  | .pllLocked t => Sys2Proof.Machine.execPllLocked t s
  | .cellarSelfTest t => Sys2Proof.Machine.execCellarSelfTest t s
  | .atticLoad t failed => Sys2Proof.Machine.execAtticLoad t failed s
  | .larderInit t bad => Sys2Proof.Machine.execLarderInit t bad s
  | .wingSelection t ptrOk => Sys2Proof.Machine.execWingSelection t ptrOk s
  | .imageCrcCheck t => Sys2Proof.Machine.execImageCrcCheck t s
  | .lockstepSelfTest t okA okB => Sys2Proof.Machine.execLockstepSelfTest t okA okB s
  | .bootSelfTestRetry t => Sys2Proof.Machine.execBootSelfTestRetry t s
  | .configLoad t ok area => Sys2Proof.Machine.execConfigLoad t ok area s
  | .cellLinkTraining t absent bootV counts => Sys2Proof.Machine.execCellLinkTraining t absent bootV counts s
  | .bootAfterReply t => Sys2Proof.Machine.execBootAfterReply t s
  | .referenceLost t => Sys2Proof.Machine.execReferenceLost t s
  | .crystalBack t => Sys2Proof.Machine.execCrystalBack t s
  | .clockCheckWindow t dev => Sys2Proof.Machine.execClockCheckWindow t dev s
  | .firmwareFault t fw => Sys2Proof.Machine.execFirmwareFault t fw s
  | .pairRestart t ok => Sys2Proof.Machine.execPairRestart t ok s
  | .cellarCoreRestart t => Sys2Proof.Machine.execCellarCoreRestart t s
  | .sampleEvent t n samples computed spareOk => Sys2Proof.Machine.execSampleEvent t n samples computed spareOk s
  | .shadowDeadline t n => Sys2Proof.Machine.execShadowDeadline t n s
  | .edgeDispatch t n => Sys2Proof.Machine.execEdgeDispatch t n s
  | .laneMismatch t n again => Sys2Proof.Machine.execLaneMismatch t n again s
  | .laneSelfTest t n pass => Sys2Proof.Machine.execLaneSelfTest t n pass s
  | .houseSilent t k => Sys2Proof.Machine.execHouseSilent t k s
  | .bridgeImbalance t k => Sys2Proof.Machine.execBridgeImbalance t k s
  | .senseRefCheck t b cur volt => Sys2Proof.Machine.execSenseRefCheck t b cur volt s
  | .selfTriggerConversion t b raw rawV => Sys2Proof.Machine.execSelfTriggerConversion t b raw rawV s
  | .senseSum t b => Sys2Proof.Machine.execSenseSum t b s
  | .senseOffset t b x => Sys2Proof.Machine.execSenseOffset t b x s
  | .vdcDisagree t k => Sys2Proof.Machine.execVdcDisagree t k s
  | .phaseOc t b raw => Sys2Proof.Machine.execPhaseOc t b raw s
  | .sdStream t d wave => Sys2Proof.Machine.execSdStream t d wave s
  | .fusionSelfTimed t k => Sys2Proof.Machine.execFusionSelfTimed t k s
  | .sourceDropped t k src => Sys2Proof.Machine.execSourceDropped t k src s
  | .sourceReadmitted t k src => Sys2Proof.Machine.execSourceReadmitted t k src s
  | .waggleReversal t k => Sys2Proof.Machine.execWaggleReversal t k s
  | .scoutSettleTimeout t k => Sys2Proof.Machine.execScoutSettleTimeout t k s
  | .polarityPulseEnd t k raw => Sys2Proof.Machine.execPolarityPulseEnd t k raw s
  | .currentDecayed t k codes => Sys2Proof.Machine.execCurrentDecayed t k codes s
  | .scoutBackCheckEnd t k => Sys2Proof.Machine.execScoutBackCheckEnd t k s
  | .catchLock t k => Sys2Proof.Machine.execCatchLock t k s
  | .catchNoEmf t k => Sys2Proof.Machine.execCatchNoEmf t k s
  | .catchAttemptTimeout t k => Sys2Proof.Machine.execCatchAttemptTimeout t k s
  | .catchUsedReset t k => Sys2Proof.Machine.execCatchUsedReset t k s
  | .limpCrossingTimeout t k => Sys2Proof.Machine.execLimpCrossingTimeout t k s
  | .limpReturn t k => Sys2Proof.Machine.execLimpReturn t k s
  | .encTransition t k a b z stamp hold => Sys2Proof.Machine.execEncTransition t k a b z stamp hold s
  | .fbLine t k pair low => Sys2Proof.Machine.execFbLine t k pair low s
  | .indexEvent t k rising => Sys2Proof.Machine.execIndexEvent t k rising s
  | .indexMissed t k => Sys2Proof.Machine.execIndexMissed t k s
  | .encStandstill t k => Sys2Proof.Machine.execEncStandstill t k s
  | .feedbackSelfSample t d => Sys2Proof.Machine.execFeedbackSelfSample t d s
  | .resolverSamplePair t k sinC cosC pos => Sys2Proof.Machine.execResolverSamplePair t k sinC cosC pos s
  | .resExc t k => Sys2Proof.Machine.execResExc t k s
  | .resExcRestart t k => Sys2Proof.Machine.execResExcRestart t k s
  | .ssiFrameStart t k high => Sys2Proof.Machine.execSsiFrameStart t k high s
  | .ssiStartTimeout t k => Sys2Proof.Machine.execSsiStartTimeout t k s
  | .ssiFrameCheck t k bits delay => Sys2Proof.Machine.execSsiFrameCheck t k bits delay s
  | .fbReturn t d => Sys2Proof.Machine.execFbReturn t d s
  | .speedLoopTick t k => Sys2Proof.Machine.execSpeedLoopTick t k s
  | .snatchDwellEnd t k => Sys2Proof.Machine.execSnatchDwellEnd t k s
  | .vented t k => Sys2Proof.Machine.execVented t k s
  | .ventedEnd t k => Sys2Proof.Machine.execVentedEnd t k s
  | .standstillReached t k => Sys2Proof.Machine.execStandstillReached t k s
  | .chopMinOnEnd t k => Sys2Proof.Machine.execChopMinOnEnd t k s
  | .chopEnergyUpdate t => Sys2Proof.Machine.execChopEnergyUpdate t s
  | .linkUv t k => Sys2Proof.Machine.execLinkUv t k s
  | .ecSample t k raw freq quiet => Sys2Proof.Machine.execEcSample t k raw freq quiet s
  | .ecLost t k => Sys2Proof.Machine.execEcLost t k s
  | .ecBack t k => Sys2Proof.Machine.execEcBack t k s
  | .ringCycleStart t => Sys2Proof.Machine.execRingCycleStart t s
  | .trayReceived t p bs frac => Sys2Proof.Machine.execTrayReceived t p bs frac s
  | .viewClose t => Sys2Proof.Machine.execViewClose t s
  | .ringDelayRequest t p seq member turn => Sys2Proof.Machine.execRingDelayRequest t p seq member turn s
  | .ringDelayResponse t p seq member turn rtt => Sys2Proof.Machine.execRingDelayResponse t p seq member turn rtt s
  | .pairDown t p pair => Sys2Proof.Machine.execPairDown t p pair s
  | .pairUp t p pair => Sys2Proof.Machine.execPairUp t p pair s
  | .portReady t p => Sys2Proof.Machine.execPortReady t p s
  | .cycleMasterTakeover t => Sys2Proof.Machine.execCycleMasterTakeover t s
  | .ringLost t => Sys2Proof.Machine.execRingLost t s
  | .memberJoining t => Sys2Proof.Machine.execMemberJoining t s
  | .joinRampEnd t => Sys2Proof.Machine.execJoinRampEnd t s
  | .leaveRampEnd t => Sys2Proof.Machine.execLeaveRampEnd t s
  | .hiveEnWrite t v => Sys2Proof.Machine.execHiveEnWrite t v s
  | .desat t c => Sys2Proof.Machine.execDesat t c s
  | .softOffLevelEnd t c => Sys2Proof.Machine.execSoftOffLevelEnd t c s
  | .gateOffDetected t c => Sys2Proof.Machine.execGateOffDetected t c s
  | .gateStageChange t c what plateau => Sys2Proof.Machine.execGateStageChange t c what plateau s
  | .deadTimeExpired t c => Sys2Proof.Machine.execDeadTimeExpired t c s
  | .gateStuck t c => Sys2Proof.Machine.execGateStuck t c s
  | .cellLinkLoss t g => Sys2Proof.Machine.execCellLinkLoss t g s
  | .cellStatusFrame t g bootV vglp vgln => Sys2Proof.Machine.execCellStatusFrame t g bootV vglp vgln s
  | .crossCmd t g => Sys2Proof.Machine.execCrossCmd t g s
  | .bootstrap t g v => Sys2Proof.Machine.execBootstrap t g v s
  | .gateSupply t c bad => Sys2Proof.Machine.execGateSupply t c bad s
  | .chopOc t k => Sys2Proof.Machine.execChopOc t k s
  | .dgEdge t p high => Sys2Proof.Machine.execDgEdge t p high s
  | .ocBackstop t b => Sys2Proof.Machine.execOcBackstop t b s
  | .holdoffRequest t mask on => Sys2Proof.Machine.execHoldoffRequest t mask on s
  | .holdoffRelease t g => Sys2Proof.Machine.execHoldoffRelease t g s
  | .ascRelease t k => Sys2Proof.Machine.execAscRelease t k s
  | .stoInputChange t which high => Sys2Proof.Machine.execStoInputChange t which high s
  | .stoDemand t => Sys2Proof.Machine.execStoDemand t s
  | .stoRelease t => Sys2Proof.Machine.execStoRelease t s
  | .stoDiscrepancy t => Sys2Proof.Machine.execStoDiscrepancy t s
  | .ss1Timeout t => Sys2Proof.Machine.execSs1Timeout t s
  | .precheckPumpDeadline t k => Sys2Proof.Machine.execPrecheckPumpDeadline t k s
  | .gateLoopTest t k reached ns mv => Sys2Proof.Machine.execGateLoopTest t k reached ns mv s
  | .desatTest t k trips rises => Sys2Proof.Machine.execDesatTest t k trips rises s
  | .phaseTest t k off node => Sys2Proof.Machine.execPhaseTest t k off node s
  | .sensingTest t k zero ref0 ref1 => Sys2Proof.Machine.execSensingTest t k zero ref0 ref1 s
  | .chopperTest t k reached ns mv trips => Sys2Proof.Machine.execChopperTest t k reached ns mv trips s
  | .precheckBridgeDone t k => Sys2Proof.Machine.execPrecheckBridgeDone t k s
  | .faultWaitExpired t k => Sys2Proof.Machine.execFaultWaitExpired t k s
  | .tempWindow t counts => Sys2Proof.Machine.execTempWindow t counts s
  | .tsPlausible t n => Sys2Proof.Machine.execTsPlausible t n s
  | .thermalStateChange t which => Sys2Proof.Machine.execThermalStateChange t which s
  | .thermalSdRelease t => Sys2Proof.Machine.execThermalSdRelease t s
  | .thGraceExpired t w => Sys2Proof.Machine.execThGraceExpired t w s
  | .thRequestRepeat t w => Sys2Proof.Machine.execThRequestRepeat t w s
  | .thAck t => Sys2Proof.Machine.execThAck t s
  | .hold60End t => Sys2Proof.Machine.execHold60End t s
  | .ntcSample t k code => Sys2Proof.Machine.execNtcSample t k code s
  | .junctionUpdate t => Sys2Proof.Machine.execJunctionUpdate t s
  | .jtCalCmd t b v => Sys2Proof.Machine.execJtCalCmd t b v s
  | .jtPulse t b plateau => Sys2Proof.Machine.execJtPulse t b plateau s
  | .jtCalDone t b => Sys2Proof.Machine.execJtCalDone t b s
  | .lifeUpdate t => Sys2Proof.Machine.execLifeUpdate t s
  | .wearSave t => Sys2Proof.Machine.execWearSave t s
  | .spiWrite t bs => Sys2Proof.Machine.execSpiWrite t bs s
  | .spiRead t n => Sys2Proof.Machine.execSpiRead t n s
  | .spiStatus t bs => Sys2Proof.Machine.execSpiStatus t bs s
  | .openSession t tp => Sys2Proof.Machine.execOpen t tp s
  | .closeSession t tp => Sys2Proof.Machine.execClose t tp s
  | .heartbeat t tp => Sys2Proof.Machine.execHeartbeat t tp s
  | .claim t tp => Sys2Proof.Machine.execClaim t tp s
  | .release t tp => Sys2Proof.Machine.execRelease t tp s
  | .handover t tp => Sys2Proof.Machine.execHandover t tp s
  | .getParams t tp => Sys2Proof.Machine.execGet t tp s
  | .setParams t tp => Sys2Proof.Machine.execSet t tp s
  | .parameterWrite t pn v => Sys2Proof.Machine.execParameterWrite t pn v s
  | .getBlock t tp => Sys2Proof.Machine.execGetBlock t tp s
  | .setBlock t tp => Sys2Proof.Machine.execSetBlock t tp s
  | .snapshot t tp => Sys2Proof.Machine.execSnapshot t tp s
  | .enable t tp => Sys2Proof.Machine.execEnable t tp s
  | .disable t tp => Sys2Proof.Machine.execDisable t tp s
  | .setpoint t tp => Sys2Proof.Machine.execSetpoint t tp s
  | .modeDevice t tp => Sys2Proof.Machine.execModeDevice t tp s
  | .modeAxis t tp => Sys2Proof.Machine.execModeAxis t tp s
  | .precheck t tp => Sys2Proof.Machine.execPrecheck t tp s
  | .quickstop t tp => Sys2Proof.Machine.execQuickstop t tp s
  | .faultClearAxis t tp => Sys2Proof.Machine.execFaultClearAxis t tp s
  | .faultClearDevice t tp => Sys2Proof.Machine.execFaultClearDevice t tp s
  | .subscribe t tp => Sys2Proof.Machine.execSubscribe t tp s
  | .unsubscribe t tp => Sys2Proof.Machine.execUnsubscribe t tp s
  | .foragerLoad t tp => Sys2Proof.Machine.execForagerLoad t tp s
  | .foragerStart t tp => Sys2Proof.Machine.execForagerStart t tp s
  | .foragerStop t tp => Sys2Proof.Machine.execForagerStop t tp s
  | .stopDrained t c => Sys2Proof.Machine.execStopDrained t c s
  | .pantryDisarm t tp => Sys2Proof.Machine.execPantryDisarm t tp s
  | .pantryArm t tp => Sys2Proof.Machine.execPantryArm t tp s
  | .pantryTrigger t tp => Sys2Proof.Machine.execPantryTrigger t tp s
  | .pantryRead t tp bad => Sys2Proof.Machine.execPantryRead t tp bad s
  | .atticRead t tp => Sys2Proof.Machine.execAtticRead t tp s
  | .atticWrite t tp => Sys2Proof.Machine.execAtticWrite t tp s
  | .atticProgramDone t pass => Sys2Proof.Machine.execAtticProgramDone t pass s
  | .atticJournal t tp => Sys2Proof.Machine.execAtticJournal t tp s
  | .imageLoad t tp => Sys2Proof.Machine.execImageLoad t tp s
  | .imageLoadDone t => Sys2Proof.Machine.execImageLoadDone t s
  | .imageVerify t tp => Sys2Proof.Machine.execImageVerify t tp s
  | .imageVerifyDone t => Sys2Proof.Machine.execImageVerifyDone t s
  | .imageSwitch t tp => Sys2Proof.Machine.execImageSwitch t tp s
  | .switchChecksDone t ok => Sys2Proof.Machine.execSwitchChecksDone t ok s
  | .standbySynced t ok => Sys2Proof.Machine.execStandbySynced t ok s
  | .newPairCommit t => Sys2Proof.Machine.execNewPairCommit t s
  | .formerPairSynced t ok => Sys2Proof.Machine.execFormerPairSynced t ok s
  | .recal t tp => Sys2Proof.Machine.execRecal t tp s
  | .recalDone t => Sys2Proof.Machine.execRecalDone t s
  | .laneSwap t tp => Sys2Proof.Machine.execLaneSwap t tp s
  | .laneSwapDone t k => Sys2Proof.Machine.execLaneSwapDone t k s
  | .hiveLeave t tp => Sys2Proof.Machine.execHiveLeave t tp s
  | .hiveJoin t tp => Sys2Proof.Machine.execHiveJoin t tp s
  | .softReset t tp => Sys2Proof.Machine.execSoftReset t tp s
  | .sessionIdleTimeout t n => Sys2Proof.Machine.execSessionIdleTimeout t n s
  | .authProofTimeout t n => Sys2Proof.Machine.execAuthProofTimeout t n s
  | .telemetry t n => Sys2Proof.Machine.execTelemetry t n s
  | .completionNotification t => Sys2Proof.Machine.execCompletionNotification t s
  | .reassemblyTimeout t => Sys2Proof.Machine.execReassemblyTimeout t s
  | .electionClose t => Sys2Proof.Machine.execElectionClose t s
  | .handoverLapse t => Sys2Proof.Machine.execHandoverLapse t s
  | .ownerHeartbeatTimeout t => Sys2Proof.Machine.execOwnerHeartbeatTimeout t s
  | .emergencyDelay t => Sys2Proof.Machine.execEmergencyDelay t s
  | .queueWrite t q data dest port => Sys2Proof.Machine.execQueueWrite t q data dest port s
  | .hallwayAccess t m a n wr bs bad => Sys2Proof.Machine.execHallwayAccess t m a n wr bs bad s
  | .larderScrub t w bad => Sys2Proof.Machine.execLarderScrub t w bad s
  | .swarmFrameReceived t p kind id brs esi data rx => Sys2Proof.Machine.execSwarmFrameReceived t p kind id brs esi data rx s
  | .receiveEntryTake t q => Sys2Proof.Machine.execReceiveEntryTake t q s
  | .swarmFrameSent t p dur tdc => Sys2Proof.Machine.execSwarmFrameSent t p dur tdc s
  | .swarmTxError t p err dur => Sys2Proof.Machine.execSwarmTxError t p err dur s
  | .frameLifetimeEnd t p => Sys2Proof.Machine.execFrameLifetimeEnd t p s
  | .busoffReqDelay t p => Sys2Proof.Machine.execBusoffReqDelay t p s
  | .sbRecover t mask => Sys2Proof.Machine.execSbRecover t mask s
  | .busOffRecovered t p => Sys2Proof.Machine.execBusOffRecovered t p s
  | .statusFrame t => Sys2Proof.Machine.execStatusFrame t s
  | .sbEn t p v => Sys2Proof.Machine.execSbEn t p v s
  | .addrClaimed t => Sys2Proof.Machine.execAddrClaimed t s
  | .addrReclaim t => Sys2Proof.Machine.execAddrReclaim t s
  | .basicCycleStart t => Sys2Proof.Machine.execBasicCycleStart t s
  | .combWindowStart t p => Sys2Proof.Machine.execCombWindowStart t p s
  | .referenceMessage t p id data rx => Sys2Proof.Machine.execReferenceMessage t p id data rx s
  | .delayRequestSend t => Sys2Proof.Machine.execDelayRequestSend t s
  | .delayRequestMessage t p id data rx => Sys2Proof.Machine.execDelayRequestMessage t p id data rx s
  | .delayResponseMessage t p id data rx => Sys2Proof.Machine.execDelayResponseMessage t p id data rx s
  | .timeHoldover t => Sys2Proof.Machine.execTimeHoldover t s
  | .timeLost t => Sys2Proof.Machine.execTimeLost t s
  | .becomeMaster t => Sys2Proof.Machine.execBecomeMaster t s
  | .masterByRank t => Sys2Proof.Machine.execMasterByRank t s
  | .timeSet t v => Sys2Proof.Machine.execTimeSet t v s
  | .swarmSecond t => Sys2Proof.Machine.execSwarmSecond t s
  | .combWaitEnd t p => Sys2Proof.Machine.execCombWaitEnd t p s
  | .relayResume t q => Sys2Proof.Machine.execRelayResume t q s
  | .endProgram t c ded => Sys2Proof.Machine.execEnd t c ded s
  | .move t c ded => Sys2Proof.Machine.execMove t c ded s
  | .loop t c ded => Sys2Proof.Machine.execLoop t c ded s
  | .wait t c ded => Sys2Proof.Machine.execWait t c ded s
  | .signal t c ded => Sys2Proof.Machine.execSignal t c ded s
  | .setxLoad t c ded => Sys2Proof.Machine.execSetxLoad t c ded s
  | .setxAdd t c ded => Sys2Proof.Machine.execSetxAdd t c ded s
  | .setxLoadm t c ded => Sys2Proof.Machine.execSetxLoadm t c ded s
  | .setxCopy t c ded => Sys2Proof.Machine.execSetxCopy t c ded s
  | .setxAnd t c ded => Sys2Proof.Machine.execSetxAnd t c ded s
  | .setxPlane t c ded => Sys2Proof.Machine.execSetxPlane t c ded s
  | .shuf t c ded => Sys2Proof.Machine.execShuf t c ded s
  | .crc t c ded => Sys2Proof.Machine.execCrc t c ded s
  | .eventLineRaise t k => Sys2Proof.Machine.execEventLineRaise t k s
  | .waitTimeout t c => Sys2Proof.Machine.execWaitTimeout t c s
  | .writeBeatResponse t c ok => Sys2Proof.Machine.execWriteBeatResponse t c ok s
  | .fgDisable t c v => Sys2Proof.Machine.execFgDisable t c v s
  | .publishRecord t k => Sys2Proof.Machine.execPublishRecord t k s
  | .pantrySample t c => Sys2Proof.Machine.execPantrySample t c s
  | .faultRecordCopy t j => Sys2Proof.Machine.execFaultRecordCopy t j s
  | .porchTransaction t space wr a hchk v dchk hold => Sys2Proof.Machine.execPorchTransaction t space wr a hchk v dchk hold s
  | .porchIdleReset t => Sys2Proof.Machine.execPorchIdleReset t s
  | .porchStatClear t v => Sys2Proof.Machine.execPorchStatClear t v s
  | .newChallenge t => Sys2Proof.Machine.execNewChallenge t s
  | .verify t => Sys2Proof.Machine.execVerify t s
  | .porchVerifyDone t sig => Sys2Proof.Machine.execPorchVerifyDone t sig s
  | .challengeBlockEnd t => Sys2Proof.Machine.execChallengeBlockEnd t s
  | .relock t => Sys2Proof.Machine.execRelock t s
  | .fullHalt t => Sys2Proof.Machine.execFullHalt t s
  | .liveHalt t => Sys2Proof.Machine.execLiveHalt t s
  | .haltResume t => Sys2Proof.Machine.execHaltResume t s
  | .haltStep t => Sys2Proof.Machine.execHaltStep t s
  | .standbyResynced t => Sys2Proof.Machine.execStandbyResynced t s
  | .breakpointHit t k => Sys2Proof.Machine.execBreakpointHit t k s
  | .watchpointHit t k a wr => Sys2Proof.Machine.execWatchpointHit t k a wr s
  | .memData t wr v hold => Sys2Proof.Machine.execMemData t wr v hold s
  | .regData t wr v => Sys2Proof.Machine.execRegData t wr v s
  | .txlen t n => Sys2Proof.Machine.execTxlen t n s
  | .txdata t v => Sys2Proof.Machine.execTxdata t v s
  | .rxdata t => Sys2Proof.Machine.execRxdata t s
  | .extest x => Sys2Proof.Machine.execExtest x s
  | .samplePreload x => Sys2Proof.Machine.execSamplePreload x s
  | .clamp x => Sys2Proof.Machine.execClamp x s
  | .highz x => Sys2Proof.Machine.execHighz x s
  | .idcode x => Sys2Proof.Machine.execIdcode x s
  | .bypass x => Sys2Proof.Machine.execBypass x s
  | .testLogicReset t => Sys2Proof.Machine.execTestLogicReset t s
  | .supplyMeasure t vinA vinB vsup cur => Sys2Proof.Machine.execSupplyMeasure t vinA vinB vsup cur s
  | .feedReverse t x => Sys2Proof.Machine.execFeedReverse t x s
  | .feedForward t x vin => Sys2Proof.Machine.execFeedForward t x vin s
  | .carrierPeakSample t n samples => Sys2Proof.Machine.execCarrierPeakSample t n samples s
  | .edgeAtGatePin t c on => Sys2Proof.Machine.execEdgeAtGatePin t c on s
  | .swarmRxError t p by8 => Sys2Proof.Machine.execSwarmRxError t p by8 s
  | .portIntegrated t p => Sys2Proof.Machine.execPortIntegrated t p s
  | .faultCleared t code inst => Sys2Proof.Machine.execFaultCleared t code inst s
  | .rejectedPacket t tp => Sys2Proof.Machine.execRejectedPacket t tp s

end Sys2Proof.Machine
end

