-- ==== Sys2Proof/Laws/Quiet.lean ====
section
/-!
SUPPORT. The operations that touch only queues, parameters, ring and swarm traffic, sessions, notifications, operations in progress,
the Forager, the Pantry and the fault ring leave the rest of the state alone: `State.quiet` is the state without those parts, and
each operation keeps it (R34, R457, R484, R658).
-/
namespace Sys2Proof.Machine
/-- The state without queues, parameters, ring, swarm, sessions, draws, waiting packets, fault ring, Forager, Pantry and operations. -/
def State.quiet (s : State) : State :=
  { s with queues := [], nextTag := 0, params := [], ring := {}, swarm := {}, sessions := [], free := 0, waiting := [], faultRing := [],
           forager := [], pantry := {}, ops := [], dev := { s.dev with pendingBoot := none }, servedLast := 0, fgLast := [],
           nonces := [] }

theorem foldl_quiet {α : Type} (f : State → α → State) (h : ∀ s x, (f s x).quiet = s.quiet) (l : List α) (s : State) :
    (l.foldl f s).quiet = s.quiet := by
  induction l generalizing s with
  | nil => rfl
  | cons x l ih => rw [List.foldl_cons, ih, h]

theorem each_quiet (ks : List Nat) (s : State) (f : Nat → State → State) (h : ∀ k s, (f k s).quiet = s.quiet) :
    (each ks s f).quiet = s.quiet := foldl_quiet _ (fun s k => h k s) ks s

@[simp] theorem quiet_ite (c : Prop) [Decidable c] (a b : State) : (if c then a else b).quiet = if c then a.quiet else b.quiet := by
  split <;> rfl
@[simp] theorem draw_quiet (s : State) (w : Nat) : (s.draw w).2.quiet = s.quiet := rfl
@[simp] theorem quiet_upd_queues (s : State) (x : Tab (List Entry)) : ({ s with queues := x } : State).quiet = s.quiet := rfl
@[simp] theorem quiet_upd_nextTag (s : State) (x : Nat) : ({ s with nextTag := x } : State).quiet = s.quiet := rfl
@[simp] theorem quiet_upd_params (s : State) (x : Tab Int) : ({ s with params := x } : State).quiet = s.quiet := rfl
@[simp] theorem quiet_upd_ring (s : State) (x : Ring) : ({ s with ring := x } : State).quiet = s.quiet := rfl
@[simp] theorem quiet_upd_swarm (s : State) (x : Swarm) : ({ s with swarm := x } : State).quiet = s.quiet := rfl
@[simp] theorem quiet_upd_sessions (s : State) (x : Tab Session) : ({ s with sessions := x } : State).quiet = s.quiet := rfl
@[simp] theorem quiet_upd_free (s : State) (x : Nat) : ({ s with free := x } : State).quiet = s.quiet := rfl
@[simp] theorem quiet_upd_waiting (s : State) (x : List Waiting) : ({ s with waiting := x } : State).quiet = s.quiet := rfl
@[simp] theorem quiet_upd_faultRing (s : State) (x : Tab FRec) : ({ s with faultRing := x } : State).quiet = s.quiet := rfl
@[simp] theorem quiet_upd_forager (s : State) (x : Tab FgChan) : ({ s with forager := x } : State).quiet = s.quiet := rfl
@[simp] theorem quiet_upd_pantry (s : State) (x : Pantry) : ({ s with pantry := x } : State).quiet = s.quiet := rfl
@[simp] theorem quiet_upd_ops (s : State) (x : List Op) : ({ s with ops := x } : State).quiet = s.quiet := rfl
@[simp] theorem quiet_upd_queues_nextTag (s : State) (x : Tab (List Entry)) (y : Nat) : ({ s with queues := x, nextTag := y } : State).quiet = s.quiet := rfl
@[simp] theorem quiet_upd_faultRing_pantry (s : State) (x : Tab FRec) (y : Pantry) : ({ s with faultRing := x, pantry := y } : State).quiet = s.quiet := rfl
@[simp] theorem quiet_upd_ops_waiting (s : State) (x : List Op) (y : List Waiting) : ({ s with ops := x, waiting := y } : State).quiet = s.quiet := rfl
@[simp] theorem quiet_upd_swarm_queues (s : State) (x : Swarm) (y : Tab (List Entry)) : ({ s with swarm := x, queues := y } : State).quiet = s.quiet := rfl
@[simp] theorem quiet_upd_ring_swarm (s : State) (x : Ring) (y : Swarm) : ({ s with ring := x, swarm := y } : State).quiet = s.quiet := rfl
@[simp] theorem quiet_upd_servedLast (s : State) (x : Nat) : ({ s with servedLast := x } : State).quiet = s.quiet := rfl
@[simp] theorem quiet_upd_fgLast (s : State) (x : Tab Nat) : ({ s with fgLast := x } : State).quiet = s.quiet := rfl
@[simp] theorem quiet_upd_nonces (s : State) (x) : ({ s with nonces := x } : State).quiet = s.quiet := rfl
@[simp] theorem quiet_upd_boot (s : State) (x) : ({ s with dev := { s.dev with pendingBoot := x } } : State).quiet = s.quiet := rfl

theorem foldl_pair_quiet {α β : Type} (f : β × State → α → β × State) (h : ∀ a x, (f a x).2.quiet = a.2.quiet) (l : List α) (a : β × State) :
    (l.foldl f a).2.quiet = a.2.quiet := by
  induction l generalizing a with
  | nil => rfl
  | cons x l ih => rw [List.foldl_cons, ih, h]

theorem foldl_fst_quiet {α β : Type} (f : State × β → α → State × β) (h : ∀ a x, (f a x).1.quiet = a.1.quiet) (l : List α) (a : State × β) :
    (l.foldl f a).1.quiet = a.1.quiet := by
  induction l generalizing a with
  | nil => rfl
  | cons x l ih => rw [List.foldl_cons, ih, h]
@[simp] theorem State.setQueue_quiet (s : State) (q : Nat) (es : List Entry) : (State.setQueue s q es).quiet = s.quiet := by
  unfold State.setQueue
  rfl

@[simp] theorem State.pop_quiet (s : State) (q : Nat) : (State.pop s q).quiet = s.quiet := by
  unfold State.pop
  rfl

@[simp] theorem State.setPar_quiet (s : State) (p : Par) (v : Int) (i : Nat := 0) (j : Nat := 0) : (State.setPar s p v i j).quiet = s.quiet := by
  unfold State.setPar
  rfl

@[simp] theorem State.incPar_quiet (s : State) (p : Par) (i : Nat := 0) (j : Nat := 0) (n : Nat := 1) : (State.incPar s p i j n).quiet = s.quiet := by
  unfold State.incPar
  simp

@[simp] theorem State.push_quiet (s : State) (q : Nat) (data : Bytes) (dest port : Nat := 0) : (State.push s q data dest port).quiet = s.quiet := by
  unfold State.push
  simp

@[simp] theorem State.segment_quiet (s : State) (ring : Bool) (p src tag seg now : Nat) (bs : Bytes) : (s.segment ring p src tag seg now bs).1.quiet = s.quiet := by
  unfold State.segment
  dsimp only
  repeat' (first | (simp; done) | split | (simp; split))

@[simp] theorem State.commandFrame_quiet (s : State) (p id : Nat) (data : Bytes) : (State.commandFrame s p id data).quiet = s.quiet := by
  unfold State.commandFrame
  dsimp only
  split <;> simp

@[simp] theorem State.setSb_quiet (s : State) (p : Nat) (x : SbPort) : (State.setSb s p x).quiet = s.quiet := by
  unfold State.setSb
  rfl

@[simp] theorem State.txDrop_quiet (s : State) (p tag : Nat) : (State.txDrop s p tag).quiet = s.quiet := by
  unfold State.txDrop
  rfl

@[simp] theorem State.txPut_quiet (s : State) (p id : Nat) (data : Bytes) (own : Bool) (xfer : Option Nat := none) (last : Bool := false)
    (copyOf : Option (Nat × Nat) := none) : (State.txPut s p id data own xfer last copyOf).quiet = s.quiet := by
  unfold State.txPut
  simp

@[simp] theorem State.feedOne_quiet (s : State) (e : Entry) : (State.feedOne s e).quiet = s.quiet := by
  unfold State.feedOne
  repeat' (first | (simp; done) | split | (simp; rw [foldl_quiet]; rotate_left; (intro _ _; try dsimp only)))

@[simp] theorem State.swarmFeed_quiet (s : State) : (State.swarmFeed s).quiet = s.quiet := by
  unfold State.swarmFeed
  refine foldl_quiet _ (fun _ _ => ?_) _ _
  simp

@[simp] theorem State.send_quiet (s : State) (x : Session) (p : Bytes) : (State.send s x p).quiet = s.quiet := by
  unfold State.send
  repeat' (first | (simp; done) | (rw [foldl_quiet]; rotate_left; (intro _ _; try dsimp only)) | split)

@[simp] theorem State.sendMark_quiet (s : State) (x : Session) (p : Bytes) (boot : Bool) : (State.sendMark s x p boot).quiet = s.quiet := by
  unfold State.sendMark
  simp

@[simp] theorem State.closeWindow_quiet (s : State) (p : Nat) : (State.closeWindow s p).quiet = s.quiet := by
  unfold State.closeWindow
  repeat' (first | (simp; done) | split)

@[simp] theorem State.noteStart_quiet (s : State) (p : Nat) (f : TxFrame) (h : Int) : (State.noteStart s p f h).quiet = s.quiet := by
  unfold State.noteStart
  dsimp only
  repeat' (first | (simp; done) | split)

@[simp] theorem combWindowStart_quiet (p : Nat) (s : State) : (combWindowStart p s).quiet = s.quiet := by
  unfold combWindowStart
  simp

@[simp] theorem combWaitEnd_quiet (p : Nat) (s : State) : (combWaitEnd p s).quiet = s.quiet := by
  unfold combWaitEnd
  simp

@[simp] theorem State.clockSet_quiet (s : State) (value rate : Int) : (State.clockSet s value rate).quiet = s.quiet := by
  unfold State.clockSet
  rfl

@[simp] theorem State.clockJump_quiet (s : State) : (State.clockJump s).quiet = s.quiet := by
  unfold State.clockJump
  refine each_quiet _ _ _ fun _ _ => ?_
  simp

@[simp] theorem State.timeBegins_quiet (s : State) : (State.timeBegins s).quiet = s.quiet := by
  unfold State.timeBegins
  refine each_quiet _ _ _ fun _ _ => ?_
  simp

@[simp] theorem State.setTimeState_quiet (s : State) (v : Nat) : (State.setTimeState s v).quiet = s.quiet := by
  unfold State.setTimeState
  rfl

@[simp] theorem State.setSess_quiet (s : State) (n : Nat) (x : Session) : (State.setSess s n x).quiet = s.quiet := by
  unfold State.setSess
  rfl

@[simp] theorem State.notifyTo_quiet (s : State) (n cls subj ev : Nat) (data : Bytes) : (State.notifyTo s n cls subj ev data).quiet = s.quiet := by
  unfold State.notifyTo
  simp

@[simp] theorem State.notify_quiet (s : State) (cls pos subj : Nat) (data : Bytes) : (State.notify s cls pos subj data).quiet = s.quiet := by
  unfold State.notify
  refine each_quiet _ _ _ fun _ _ => ?_
  simp

@[simp] theorem State.busEvent_quiet (s : State) (pos subj : Nat) (data : Bytes) : (State.busEvent s pos subj data).quiet = s.quiet := by
  unfold State.busEvent
  simp

@[simp] theorem State.setMaster_quiet (s : State) (m rank : Nat) : (State.setMaster s m rank).quiet = s.quiet := by
  unfold State.setMaster
  simp

@[simp] theorem State.feedGone_quiet (s : State) (f : TxFrame) : (s.feedGone f).quiet = s.quiet := by
  unfold State.feedGone
  split
  · simp
  · rfl

@[simp] theorem State.evict_quiet (s : State) (p n f : Nat) : (s.evict p n f).quiet = s.quiet := by
  induction f generalizing s with
  | zero => rfl
  | succ f ih =>
    unfold State.evict
    dsimp only
    split
    · rfl
    · split
      · rfl
      · rw [ih]; simp

@[simp] theorem State.copyEmerg_quiet (s : State) (p : Nat) (fs : List TxFrame) : (State.copyEmerg s p fs).quiet = s.quiet := by
  unfold State.copyEmerg
  repeat' (first | (simp; done) | split | (simp; rw [foldl_quiet]; rotate_left; (intro _ _; try dsimp only)))

@[simp] theorem State.queueFrame_quiet (s : State) (p id : Nat) (data : Bytes) (own : Bool) : (State.queueFrame s p id data own).quiet = s.quiet := by
  unfold State.queueFrame
  simp

@[simp] theorem State.forwardOut_quiet (s : State) (q id : Nat) (data : Bytes) (own : Bool) : (s.forwardOut q id data own).quiet = s.quiet := by
  unfold State.forwardOut
  simp

@[simp] theorem State.forwardBcast_quiet (s : State) (p src id : Nat) (data : Bytes) (own : Bool) : (State.forwardBcast s p src id data own).quiet = s.quiet := by
  unfold State.forwardBcast
  repeat' (first | (simp; done) | (simp; rw [each_quiet]; rotate_left; (intro _ _; try dsimp only)))

@[simp] theorem State.sendRef_quiet (s : State) (p : Nat) (relay : Bool) (key : Nat × Nat × Nat) : (State.sendRef s p relay key).quiet = s.quiet := by
  unfold State.sendRef
  simp

@[simp] theorem State.sendRefs_quiet (s : State) : (State.sendRefs s).quiet = s.quiet := by
  unfold State.sendRefs
  repeat' (first | (simp; done) | (rw [foldl_quiet]; rotate_left; (intro _ _; try dsimp only)) | (simp; split))

@[simp] theorem State.becomeMaster_quiet (s : State) : (State.becomeMaster s).quiet = s.quiet := by
  unfold State.becomeMaster
  simp

@[simp] theorem becomeMasterEv_quiet (s : State) : (becomeMasterEv s).quiet = s.quiet := by
  unfold becomeMasterEv
  simp

@[simp] theorem masterByRank_quiet (s : State) : (masterByRank s).quiet = s.quiet := by
  unfold masterByRank
  simp

@[simp] theorem State.dropRefs_quiet (s : State) (relay : Bool) : (State.dropRefs s relay).quiet = s.quiet := by
  unfold State.dropRefs
  exact each_quiet _ _ _ fun q _ => foldl_quiet (fun s (f : TxFrame) => s.txDrop q f.tag) (fun s f => by simp) _ _

@[simp] theorem State.endTimePart_quiet (s : State) : (State.endTimePart s).quiet = s.quiet := by
  unfold State.endTimePart
  simp

@[simp] theorem State.combMatch_quiet (s : State) (p : Nat) (running : Bool) (cid src : Nat) : (State.combMatch s p running cid src).quiet = s.quiet := by
  unfold State.combMatch
  simp

@[simp] theorem delayRequestSend_quiet (s : State) : (delayRequestSend s).quiet = s.quiet := by
  unfold delayRequestSend
  simp

@[simp] theorem State.delayRequest_quiet (s : State) (p id : Nat) (data : Bytes) (h : Int) : (State.delayRequest s p id data h).quiet = s.quiet := by
  unfold State.delayRequest
  simp

@[simp] theorem State.delayResponse_quiet (s : State) (p id : Nat) (data : Bytes) (h : Int) : (State.delayResponse s p id data h).quiet = s.quiet := by
  unfold State.delayResponse
  dsimp only
  split <;> simp

@[simp] theorem State.setFg_quiet (s : State) (c : Nat) (x : FgChan) : (State.setFg s c x).quiet = s.quiet := by
  unfold State.setFg
  rfl

@[simp] theorem State.fgHalt_quiet (s : State) (c status : Nat) : (State.fgHalt s c status).quiet = s.quiet := by
  unfold State.fgHalt
  simp

@[simp] theorem State.fgAdvance_quiet (s : State) (c n : Nat) : (State.fgAdvance s c n).quiet = s.quiet := by
  unfold State.fgAdvance
  simp

@[simp] theorem State.lineAt_quiet (s : State) (k c : Nat) : (State.lineAt s k c).quiet = s.quiet := by
  unfold State.lineAt
  split <;> simp

@[simp] theorem State.latchLine_quiet (s : State) (k : Nat) : (State.latchLine s k).quiet = s.quiet := by
  unfold State.latchLine
  refine each_quiet _ _ _ fun _ _ => ?_
  simp

@[simp] theorem State.panTrigger_quiet (s : State) (cause : Nat) (code : Nat := 0) (at_ : Option (Nat × Nat) := none) : (State.panTrigger s cause code at_).quiet = s.quiet := by
  unfold State.panTrigger
  simp

@[simp] theorem State.raiseLine_quiet (s : State) (k : Nat) : (State.raiseLine s k).quiet = s.quiet := by
  unfold State.raiseLine
  simp

@[simp] theorem basicCycleStart_quiet (s : State) : (basicCycleStart s).quiet = s.quiet := by
  unfold basicCycleStart
  repeat' (first | (simp; done) | split | (simp; split) | (simp; rw [each_quiet]; rotate_left; (intro _ _; try dsimp only)))

@[simp] theorem relayResume_quiet (q : Nat) (s : State) : (relayResume q s).quiet = s.quiet := by
  unfold relayResume
  dsimp only
  split <;> simp

@[simp] theorem timeHoldover_quiet (s : State) : (timeHoldover s).quiet = s.quiet := by
  unfold timeHoldover
  simp

@[simp] theorem timeLost_quiet (s : State) : (timeLost s).quiet = s.quiet := by
  unfold timeLost
  repeat' (first | (simp; done) | (simp; rw [each_quiet]; rotate_left; (intro _ _; try dsimp only)))

@[simp] theorem timeSet_quiet (v : Nat) (s : State) : (timeSet v s).quiet = s.quiet := by
  unfold timeSet
  simp

@[simp] theorem swarmSecond_quiet (s : State) : (swarmSecond s).quiet = s.quiet := by
  unfold swarmSecond
  dsimp only
  split
  · rw [State.setPar_quiet, State.raiseLine_quiet, quiet_upd_swarm]
  · rfl

@[simp] theorem State.sendTo_quiet (s : State) (o : Origin) (p : Bytes) : (State.sendTo s o p).quiet = s.quiet := by
  unfold State.sendTo
  simp

@[simp] theorem State.badReply_quiet (s : State) (o : Origin) (p : Pkt) (status : Nat) : (State.badReply s o p status).quiet = s.quiet := by
  unfold State.badReply
  simp

@[simp] theorem State.violate_quiet (s : State) (n k : Nat) : (State.violate s n k).quiet = s.quiet := by
  unfold State.violate
  simp

@[simp] theorem State.ringPull_quiet (s : State) (n : Nat) : (s.ringPull n).2.quiet = s.quiet := by
  induction n generalizing s with
  | zero => rfl
  | succ n ih =>
    unfold State.ringPull
    split
    · rfl
    · dsimp only
      split
      · simp
      · rw [ih]; simp
@[simp] theorem State.served_quiet (s : State) (tp : Transport) : (s.served tp).quiet = s.quiet := by
  unfold State.served
  simp

@[simp] theorem State.front_quiet (s : State) (tp : Transport) : (s.front tp).2.quiet = s.quiet := by
  unfold State.front
  dsimp only
  split
  · simp
  · split
    · simp
    · simp

@[simp] theorem State.serveRejected_quiet (s : State) (tp : Transport) : (State.serveRejected s tp).quiet = s.quiet := by
  unfold State.serveRejected
  dsimp only
  repeat' (first | (simp; done) | split)

@[simp] theorem State.panPeriod_quiet (s : State) (k n plane : Nat) : (State.panPeriod s k n plane).quiet = s.quiet := by
  unfold State.panPeriod
  rfl

@[simp] theorem State.driveEvent_quiet (s : State) (k pos : Nat) : (State.driveEvent s k pos).quiet = s.quiet := by
  unfold State.driveEvent
  simp

@[simp] theorem State.setView_quiet (s : State) (v : RingView) : (State.setView s v).quiet = s.quiet := by
  unfold State.setView
  rfl

@[simp] theorem State.hiveEvent_quiet (s : State) (pos subj : Nat) : (State.hiveEvent s pos subj).quiet = s.quiet := by
  unfold State.hiveEvent
  simp

@[simp] theorem State.ownBcast_quiet (s : State) (prio cls detail : Nat) (data : Bytes) : (State.ownBcast s prio cls detail data).quiet = s.quiet := by
  unfold State.ownBcast
  repeat' (first | (simp; done) | (rw [foldl_quiet]; rotate_left; (intro _ _; try dsimp only)) | (simp; split) | (simp; rw [foldl_quiet]; rotate_left; (intro _ _; try dsimp only)))

@[simp] theorem State.emergency_quiet (s : State) (code subj safe : Nat) : (State.emergency s code subj safe).quiet = s.quiet := by
  unfold State.emergency
  simp

@[simp] theorem State.hiveSync_quiet (s : State) (k : Nat) : (State.hiveSync s k).quiet = s.quiet := by
  unfold State.hiveSync
  simp

@[simp] theorem State.leaveFallback_quiet (s : State) : (State.leaveFallback s).quiet = s.quiet := by
  unfold State.leaveFallback
  simp

@[simp] theorem State.setRport_quiet (s : State) (p : Nat) (x : RingPort) : (State.setRport s p x).quiet = s.quiet := by
  unfold State.setRport
  simp

@[simp] theorem State.unfoldPort_quiet (s : State) (p : Nat) : (State.unfoldPort s p).quiet = s.quiet := by
  unfold State.unfoldPort
  dsimp only
  split <;> simp

@[simp] theorem State.sendTray_quiet (s : State) (p : Nat) (bs : Bytes) : (State.sendTray s p bs).quiet = s.quiet := by
  unfold State.sendTray
  simp

@[simp] theorem State.ringTake_quiet (s : State) : (State.ringTake s).quiet = s.quiet := by
  unfold State.ringTake
  rfl

@[simp] theorem State.setBit_quiet (s : State) (p : Par) (k : Nat) (b : Bool) (i : Nat := 0) (j : Nat := 0) : (State.setBit s p k b i j).quiet = s.quiet := by
  unfold State.setBit
  rfl

@[simp] theorem State.syncSet_quiet (s : State) (err : Int) : (State.syncSet s err).quiet = s.quiet := by
  unfold State.syncSet
  simp

@[simp] theorem State.closeSlots_quiet (s : State) (v : RingView) : (State.closeSlots s v).quiet = s.quiet := by
  unfold State.closeSlots
  refine each_quiet _ _ _ fun _ _ => ?_
  dsimp only
  split <;> simp

@[simp] theorem ringDelayRequest_quiet (p seq member turn : Nat) (s : State) : (ringDelayRequest p seq member turn s).quiet = s.quiet := by
  unfold ringDelayRequest
  simp

@[simp] theorem ringDelayResponse_quiet (p seq member turn rtt : Nat) (s : State) : (ringDelayResponse p seq member turn rtt s).quiet = s.quiet := by
  unfold ringDelayResponse
  simp

@[simp] theorem State.choosePair_quiet (s : State) (p : Nat) : (State.choosePair s p).quiet = s.quiet := by
  unfold State.choosePair
  simp

@[simp] theorem State.portsTrack_quiet (s : State) : (State.portsTrack s).quiet = s.quiet := by
  unfold State.portsTrack
  rfl

@[simp] theorem State.portDown_quiet (s : State) (p : Nat) : (State.portDown s p).quiet = s.quiet := by
  unfold State.portDown
  simp

@[simp] theorem pairDown_quiet (p pair : Nat) (s : State) : (pairDown p pair s).quiet = s.quiet := by
  unfold pairDown
  simp

@[simp] theorem portReady_quiet (p : Nat) (s : State) : (portReady p s).quiet = s.quiet := by
  unfold portReady
  simp

@[simp] theorem cycleMasterTakeover_quiet (s : State) : (cycleMasterTakeover s).quiet = s.quiet := by
  unfold cycleMasterTakeover
  simp

@[simp] theorem memberJoining_quiet (s : State) : (memberJoining s).quiet = s.quiet := by
  unfold memberJoining
  simp

@[simp] theorem State.sendOrWait_quiet (s : State) (n : Nat) (p : Bytes) (boot run : Bool) : (State.sendOrWait s n p boot run).quiet = s.quiet := by
  unfold State.sendOrWait
  simp

@[simp] theorem State.complete_quiet (s : State) (opcode sess seq status : Nat) (extra : Bytes := []) (boot : Bool := false) : (State.complete s opcode sess seq status extra boot).quiet = s.quiet := by
  unfold State.complete
  simp

@[simp] theorem State.endOp_quiet (s : State) (opcode target status : Nat) (extra : Bytes := []) : (State.endOp s opcode target status extra).quiet = s.quiet := by
  unfold State.endOp
  split <;> simp

@[simp] theorem joinRampEnd_quiet (s : State) : (joinRampEnd s).quiet = s.quiet := by
  unfold joinRampEnd
  simp

@[simp] theorem leaveRampEnd_quiet (s : State) : (leaveRampEnd s).quiet = s.quiet := by
  unfold leaveRampEnd
  split <;> simp

@[simp] theorem State.hiveLeave_quiet (s : State) : (State.hiveLeave s).quiet = s.quiet := by
  unfold State.hiveLeave
  simp

@[simp] theorem State.hiveJoin_quiet (s : State) : (State.hiveJoin s).quiet = s.quiet := by
  unfold State.hiveJoin
  simp

@[simp] theorem State.ctrlStatus_quiet (s : State) (n k : Nat) (os : List BridgeOut) (isat cold ballim refresh : Bool) : (State.ctrlStatus s n k os isat cold ballim refresh).quiet = s.quiet := by
  unfold State.ctrlStatus
  rfl

@[simp] theorem State.openRefused_quiet (s : State) (o : Origin) (p : Pkt) (status : Nat) : (State.openRefused s o p status).quiet = s.quiet := by
  unfold State.openRefused
  simp

@[simp] theorem State.replyPtr_quiet (s : State) : s.replyPtr.2.quiet = s.quiet := rfl

@[simp] theorem State.openAs_quiet (s : State) (o : Origin) (p : Pkt) (n : Nat) (kk : Option Bytes) : (State.openAs s o p n kk).quiet = s.quiet := by
  unfold State.openAs
  split <;> simp

@[simp] theorem State.openSession_quiet (s : State) (o : Origin) (p : Pkt) : (State.openSession s o p).quiet = s.quiet := by
  unfold State.openSession
  repeat' (first | (simp; done) | (rw [foldl_quiet]; rotate_left; (intro _ _; try dsimp only)) | split)

@[simp] theorem State.serveOpen_quiet (s : State) (tp : Transport) : (State.serveOpen s tp).quiet = s.quiet := by
  unfold State.serveOpen
  dsimp only
  repeat' (first | (simp; done) | split)

@[simp] theorem State.arrived_quiet (s : State) (q : Nat) : (State.arrived s q).quiet = s.quiet := by
  unfold State.arrived
  repeat' (first | (simp; done) | split | (simp; rw [each_quiet]; rotate_left; (intro _ _; try dsimp only)))

@[simp] theorem State.enter_quiet (s : State) (q : Nat) (data head : Bytes) : (State.enter s q data head).quiet = s.quiet := by
  unfold State.enter
  dsimp only
  split <;> simp

@[simp] theorem queueWrite_quiet (q : Nat) (data : Bytes) (dest port : Nat) (s : State) : (queueWrite q data dest port s).quiet = s.quiet := by
  unfold queueWrite
  simp

@[simp] theorem State.replyRun_quiet (s : State) (sess op seq : Nat) (payloads : List Bytes) (boot : Bool := false) : (State.replyRun s sess op seq payloads boot).quiet = s.quiet := by
  unfold State.replyRun
  refine foldl_quiet _ (fun _ _ => ?_) _ _
  simp

@[simp] theorem State.reply_quiet (s : State) (sess op seq : Nat) (payload : Bytes) : (State.reply s sess op seq payload).quiet = s.quiet := by
  unfold State.reply
  simp

@[simp] theorem State.replyStatus_quiet (s : State) (sess op seq status : Nat) : (State.replyStatus s sess op seq status).quiet = s.quiet := by
  unfold State.replyStatus
  simp

@[simp] theorem State.fgIdle_quiet (s : State) (c : Nat) : (State.fgIdle s c).quiet = s.quiet := by
  unfold State.fgIdle
  rfl

@[simp] theorem State.fgStop_quiet (s : State) (c : Nat) : (State.fgStop s c).quiet = s.quiet := by
  unfold State.fgStop
  split <;> simp

@[simp] theorem State.setPanChan_quiet (s : State) (c : Nat) (x : PanChan) : (State.setPanChan s c x).quiet = s.quiet := by
  unfold State.setPanChan
  rfl

@[simp] theorem State.panOpen_quiet (s : State) : (State.panOpen s).quiet = s.quiet := by
  unfold State.panOpen
  rfl

@[simp] theorem State.panStop_quiet (s : State) (cause st : Nat) : (State.panStop s cause st).quiet = s.quiet := by
  unfold State.panStop
  rfl

@[simp] theorem State.panClose_quiet (s : State) (forced : Bool) : (State.panClose s forced).quiet = s.quiet := by
  unfold State.panClose
  dsimp only
  split <;> simp

@[simp] theorem State.panPut_quiet (s : State) (c : Nat) : (State.panPut s c).quiet = s.quiet := by
  unfold State.panPut
  split <;> simp

@[simp] theorem State.panEnd_quiet (s : State) (cause : Nat) : (State.panEnd s cause).quiet = s.quiet := by
  unfold State.panEnd
  repeat' (first | (simp; done) | (simp; rw [each_quiet]; rotate_left; (intro _ _; try dsimp only)))

@[simp] theorem State.panArm_quiet (s : State) : (State.panArm s).quiet = s.quiet := by
  unfold State.panArm
  rfl

@[simp] theorem State.incSat_quiet (s : State) (p : Par) (top : Int) (i : Nat := 0) (j : Nat := 0) (n : Nat := 1) : (State.incSat s p top i j n).quiet = s.quiet := by
  unfold State.incSat
  rfl

@[simp] theorem State.frRestore_quiet (s : State) : (State.frRestore s).quiet = s.quiet := by
  unfold State.frRestore
  refine foldl_quiet _ (fun _ _ => ?_) _ _
  simp

@[simp] theorem State.frameRef_quiet (s : State) (before : Bool) (subj : Nat) : (State.frameRef s before subj).quiet = s.quiet := by
  unfold State.frameRef
  dsimp only
  split <;> simp

@[simp] theorem State.recordFault_quiet (s : State) (code subj safe : Nat) (path : String) (secondary : Bool := false) : (State.recordFault s code subj safe path secondary).quiet = s.quiet := by
  unfold State.recordFault
  dsimp only
  split <;> simp

@[simp] theorem State.report_quiet (s : State) (code subj safe : Nat) (path : String) (secondary : Bool := false) : (State.report s code subj safe path secondary).quiet = s.quiet := by
  unfold State.report
  simp

@[simp] theorem State.hallwayFault_quiet (s : State) : (State.hallwayFault s).quiet = s.quiet := by
  unfold State.hallwayFault
  simp

@[simp] theorem State.thermEvent_quiet (s : State) (pos subj grace : Nat) : (State.thermEvent s pos subj grace).quiet = s.quiet := by
  unfold State.thermEvent
  simp

@[simp] theorem thAck_quiet (s : State) : (thAck s).quiet = s.quiet := by
  unfold thAck
  rfl

@[simp] theorem State.reportCarrier_quiet (s : State) (k half : Nat) : (State.reportCarrier s k half).quiet = s.quiet := by
  unfold State.reportCarrier
  rfl

@[simp] theorem State.setOffsets_quiet (s : State) (k : Nat) : (State.setOffsets s k).quiet = s.quiet := by
  unfold State.setOffsets
  refine foldl_quiet _ (fun _ _ => ?_) _ _
  simp

@[simp] theorem State.syncProc_quiet (s : State) (k : Nat) : (State.syncProc s k).quiet = s.quiet := by
  unfold State.syncProc
  simp

@[simp] theorem State.calGain_quiet (s : State) (b : Nat) (f : List Int) : (State.calGain s b f).quiet = s.quiet := by
  unfold State.calGain
  repeat' (first | (simp; done) | (simp; rw [each_quiet]; rotate_left; (intro _ _; try dsimp only)))

@[simp] theorem State.calVofs_quiet (s : State) (b x : Nat) (code : Nat) : (State.calVofs s b x code).quiet = s.quiet := by
  unfold State.calVofs
  simp

@[simp] theorem State.calVgain_quiet (s : State) (b x : Nat) (v vdc : Int) : (State.calVgain s b x v vdc).quiet = s.quiet := by
  unfold State.calVgain
  simp

@[simp] theorem State.senseStatus_quiet (s : State) (b : Nat) (above : Bool) : (State.senseStatus s b above).quiet = s.quiet := by
  unfold State.senseStatus
  rfl

@[simp] theorem State.posEvent_quiet (s : State) (k pos what : Nat) : (State.posEvent s k pos what).quiet = s.quiet := by
  unfold State.posEvent
  simp

@[simp] theorem State.markLatched_quiet (s : State) (b : Bool) : (State.markLatched s b).quiet = s.quiet := by
  unfold State.markLatched
  split <;> rfl

@[simp] theorem State.recordClear_quiet (s : State) (code subj : Nat) (path : String) : (State.recordClear s code subj path).quiet = s.quiet := by
  unfold State.recordClear
  split <;> rfl

@[simp] theorem State.feedDone_quiet (s : State) (x : Nat) : (State.feedDone s x).quiet = s.quiet := by
  unfold State.feedDone
  split <;> simp


@[simp] theorem State.startClaim_quiet (s : State) (a : Nat) : (State.startClaim s a).quiet = s.quiet := by
  unfold State.startClaim
  repeat' (first | (simp; done) | (rw [foldl_quiet]; rotate_left; (intro _ _; try dsimp only)) | (simp; split))

@[simp] theorem State.claimNow_quiet (s : State) : (State.claimNow s).quiet = s.quiet := by
  unfold State.claimNow
  split <;> simp

@[simp] theorem State.sbStart_quiet (s : State) (p : Nat) : (State.sbStart s p).quiet = s.quiet := by
  unfold State.sbStart
  rfl

@[simp] theorem State.startPorts_quiet (s : State) : (State.startPorts s).quiet = s.quiet := by
  unfold State.startPorts
  repeat' (first | (simp; done) | (simp; rw [each_quiet]; rotate_left; (intro _ _; try dsimp only)))

@[simp] theorem State.bootEvent_quiet (s : State) : (State.bootEvent s).quiet = s.quiet := by
  unfold State.bootEvent
  simp

@[simp] theorem State.ringSilence_quiet (s : State) : (State.ringSilence s).quiet = s.quiet := by
  unfold State.ringSilence
  refine each_quiet _ _ _ fun _ _ => ?_
  simp

@[simp] theorem State.coldSpeed_quiet (s : State) (i : Nat) : (State.coldSpeed s i).quiet = s.quiet := by
  unfold State.coldSpeed
  split <;> rfl

@[simp] theorem State.hiveStart_quiet (s : State) : (State.hiveStart s).quiet = s.quiet := by
  unfold State.hiveStart
  rfl

@[simp] theorem State.setXreg_quiet (s : State) (c k v : Nat) : (State.setXreg s c k v).quiet = s.quiet := by
  unfold State.setXreg
  rfl

@[simp] theorem State.issue_quiet (s : State) (c : Nat) (bs : List FgBeat) : (State.issue s c bs).quiet = s.quiet := by
  unfold State.issue
  simp

@[simp] theorem State.fgAccess_quiet (s : State) (c : Nat) : (State.fgAccess s c).quiet = s.quiet := by
  unfold State.fgAccess
  simp

@[simp] theorem State.fgFinish_quiet (s : State) (c : Nat) (r : FgRun) : (State.fgFinish s c r).quiet = s.quiet := by
  unfold State.fgFinish
  simp

@[simp] theorem fgEnd_quiet (c : Nat) (w1 _w2 : Nat) (s : State) : (fgEnd c w1 _w2 s).quiet = s.quiet := by
  unfold fgEnd
  simp

@[simp] theorem fgLoop_quiet (c : Nat) (w1 _w2 : Nat) (s : State) : (fgLoop c w1 _w2 s).quiet = s.quiet := by
  unfold fgLoop
  simp

@[simp] theorem fgWait_quiet (c : Nat) (w1 _w2 : Nat) (s : State) : (fgWait c w1 _w2 s).quiet = s.quiet := by
  unfold fgWait
  simp

@[simp] theorem fgSignal_quiet (c : Nat) (w1 _w2 : Nat) (s : State) : (fgSignal c w1 _w2 s).quiet = s.quiet := by
  unfold fgSignal
  simp

@[simp] theorem fgSetx_quiet (c words v w1 : Nat) (s : State) : (fgSetx c words v w1 s).quiet = s.quiet := by
  unfold fgSetx
  simp

@[simp] theorem fgPlane_quiet (c : Nat) (w1 w2 : Nat) (s : State) : (fgPlane c w1 w2 s).quiet = s.quiet := by
  unfold fgPlane
  dsimp only
  split <;> simp

@[simp] theorem stopDrained_quiet (c : Nat) (s : State) : (stopDrained c s).quiet = s.quiet := by
  unfold stopDrained
  simp

@[simp] theorem State.fgStart_quiet (s : State) (c : Nat) : (State.fgStart s c).quiet = s.quiet := by
  unfold State.fgStart
  repeat' (first | (simp; done) | (simp; rw [each_quiet]; rotate_left; (intro _ _; try dsimp only)))

@[simp] theorem eventLineRaise_quiet (k : Nat) (s : State) : (eventLineRaise k s).quiet = s.quiet := by
  unfold eventLineRaise
  simp

@[simp] theorem waitTimeout_quiet (c : Nat) (s : State) : (waitTimeout c s).quiet = s.quiet := by
  unfold waitTimeout
  split <;> simp

@[simp] theorem State.noteLoad_quiet (s : State) (p cycles : Nat) : (State.noteLoad s p cycles).quiet = s.quiet := by
  unfold State.noteLoad
  rfl

@[simp] theorem State.dropFrames_quiet (s : State) (p : Nat) (fs : List TxFrame) : (State.dropFrames s p fs).quiet = s.quiet := by
  unfold State.dropFrames
  refine foldl_quiet _ (fun _ _ => ?_) _ _
  dsimp only
  split <;> simp

@[simp] theorem State.addrLost_quiet (s : State) (p uid : Nat) : (State.addrLost s p uid).quiet = s.quiet := by
  unfold State.addrLost
  repeat' (first | (simp; done) | (rw [each_quiet]; rotate_left; (intro _ _; try dsimp only)) | split | (simp; split) | (simp; rw [each_quiet]; rotate_left; (intro _ _; try dsimp only)))

@[simp] theorem addrReclaim_quiet (s : State) : (addrReclaim s).quiet = s.quiet := by
  unfold addrReclaim
  split <;> simp

@[simp] theorem State.claimFrame_quiet (s : State) (p id : Nat) (data : Bytes) : (State.claimFrame s p id data).quiet = s.quiet := by
  unfold State.claimFrame
  split <;> simp

@[simp] theorem reassemblyTimeout_quiet (s : State) : (reassemblyTimeout s).quiet = s.quiet := by
  unfold reassemblyTimeout
  simp

@[simp] theorem State.filterFrame_quiet (s : State) (p id flags : Nat) (data : Bytes) (time : Nat) : (State.filterFrame s p id flags data time).quiet = s.quiet := by
  unfold State.filterFrame
  dsimp only
  split
  · rfl
  · simp

@[simp] theorem State.forwardByDest_quiet (s : State) (p dest id : Nat) (data : Bytes) : (State.forwardByDest s p dest id data).quiet = s.quiet := by
  unfold State.forwardByDest
  simp

@[simp] theorem State.errEvent_quiet (s : State) (p old : Nat) : (State.errEvent s p old).quiet = s.quiet := by
  unfold State.errEvent
  simp

@[simp] theorem State.countBits_quiet (s : State) (p : Nat) (request : Bool) : (State.countBits s p request).quiet = s.quiet := by
  unfold State.countBits
  rfl

@[simp] theorem receiveEntryTake_quiet (q : Nat) (s : State) : (receiveEntryTake q s).quiet = s.quiet := by
  unfold receiveEntryTake
  simp

@[simp] theorem State.dropTwinCopy_quiet (s : State) (p : Nat) (f : TxFrame) : (State.dropTwinCopy s p f).quiet = s.quiet := by
  unfold State.dropTwinCopy
  repeat' (first | (simp; done) | (rw [foldl_quiet]; rotate_left; (intro _ _; try dsimp only)) | split)

@[simp] theorem State.expire_quiet (s : State) (p : Nat) : (State.expire s p).quiet = s.quiet := by
  unfold State.expire
  dsimp only
  split <;> simp

@[simp] theorem frameLifetimeEnd_quiet (p : Nat) (s : State) : (frameLifetimeEnd p s).quiet = s.quiet := by
  unfold frameLifetimeEnd
  simp

@[simp] theorem busoffReqDelay_quiet (p : Nat) (s : State) : (busoffReqDelay p s).quiet = s.quiet := by
  unfold busoffReqDelay
  simp

@[simp] theorem sbRecover_quiet (mask : Nat) (s : State) : (sbRecover mask s).quiet = s.quiet := by
  unfold sbRecover
  refine each_quiet _ _ _ fun _ _ => ?_
  simp

@[simp] theorem portIntegrated_quiet (p : Nat) (s : State) : (portIntegrated p s).quiet = s.quiet := by
  unfold portIntegrated
  simp

@[simp] theorem statusFrame_quiet (s : State) : (statusFrame s).quiet = s.quiet := by
  unfold statusFrame
  simp


@[simp] theorem State.staged_quiet (s : State) (items : List (Nat × Nat)) : (State.staged s items).quiet = s.quiet := by
  unfold State.staged
  repeat' (first | (simp; done) | (rw [foldl_quiet]; rotate_left; (intro _ _; try dsimp only)) | split)

@[simp] theorem holdoffRelease_quiet (g : Nat) (s : State) : (holdoffRelease g s).quiet = s.quiet := by
  unfold holdoffRelease
  simp

@[simp] theorem State.atticWritten_quiet (s : State) (slot g st n : Nat) : (State.atticWritten s slot g st n).quiet = s.quiet := by
  unfold State.atticWritten
  simp

@[simp] theorem State.loadSlotPar_quiet (s : State) (p : SlotPar) : (State.loadSlotPar s p).quiet = s.quiet := by
  unfold State.loadSlotPar
  rfl

@[simp] theorem State.flush_quiet (s : State) (run : Bool) : (s.flush run).quiet = s.quiet := by
  unfold State.flush
  simp only [quiet_upd_waiting]
  refine foldl_fst_quiet _ ?_ _ _
  intro a w
  split <;> simp

@[simp] theorem State.startOp_quiet (s : State) (o : Op) : (State.startOp s o).quiet = s.quiet := by
  unfold State.startOp
  rfl

@[simp] theorem State.porchPacket_quiet (s : State) (bs : Bytes) : (State.porchPacket s bs).quiet = s.quiet := by
  unfold State.porchPacket
  simp

end Sys2Proof.Machine
end

