-- ==== Sys2Proof/Laws/State.lean ====
section
/-!
SUPPORT. What the named updates of the state leave: one lemma for each update and field, and what a table gives back after a
write. It is read after Laws/Quiet, whose proofs keep whole states together.
-/
namespace Sys2Proof.Machine

/-! ### Tables -/

@[simp] theorem tget_tset_same {α : Type} (t : Tab α) (d : α) (k : Nat) (v : α) : tget (tset t k v) d k = v := by
  induction t with
  | nil => simp [tset, tget]
  | cons e r ih =>
    obtain ⟨k', v'⟩ := e
    by_cases h : k' = k
    · simp [tset, tget, h]
    · simp [tset, tget, h, ih]

theorem tget_tset_other {α : Type} (t : Tab α) (d : α) (k j : Nat) (v : α) (h : k ≠ j) : tget (tset t k v) d j = tget t d j := by
  induction t with
  | nil => simp [tset, tget, h]
  | cons e r ih =>
    obtain ⟨k', v'⟩ := e
    by_cases hk : k' = k
    · subst hk
      simp [tset, tget, h]
    · by_cases hj : k' = j
      · subst hj
        simp [tset, tget, hk]
      · simp [tset, tget, hk, hj, ih]

/-! ### clock -/

@[simp] theorem State.clock_dev (s : State) (t : Nat) : (s.clock t).dev = s.dev := rfl
@[simp] theorem State.clock_params (s : State) (t : Nat) : (s.clock t).params = s.params := rfl
@[simp] theorem State.clock_larder (s : State) (t : Nat) : (s.clock t).larder = s.larder := rfl
@[simp] theorem State.clock_eccErrs (s : State) (t : Nat) : (s.clock t).eccErrs = s.eccErrs := rfl
@[simp] theorem State.clock_queues (s : State) (t : Nat) : (s.clock t).queues = s.queues := rfl
@[simp] theorem State.clock_nextTag (s : State) (t : Nat) : (s.clock t).nextTag = s.nextTag := rfl
@[simp] theorem State.clock_axes (s : State) (t : Nat) : (s.clock t).axes = s.axes := rfl
@[simp] theorem State.clock_lanes (s : State) (t : Nat) : (s.clock t).lanes = s.lanes := rfl
@[simp] theorem State.clock_records (s : State) (t : Nat) : (s.clock t).records = s.records := rfl
@[simp] theorem State.clock_bridges (s : State) (t : Nat) : (s.clock t).bridges = s.bridges := rfl
@[simp] theorem State.clock_links (s : State) (t : Nat) : (s.clock t).links = s.links := rfl
@[simp] theorem State.clock_encs (s : State) (t : Nat) : (s.clock t).encs = s.encs := rfl
@[simp] theorem State.clock_ress (s : State) (t : Nat) : (s.clock t).ress = s.ress := rfl
@[simp] theorem State.clock_ssis (s : State) (t : Nat) : (s.clock t).ssis = s.ssis := rfl
@[simp] theorem State.clock_chans (s : State) (t : Nat) : (s.clock t).chans = s.chans := rfl
@[simp] theorem State.clock_cells (s : State) (t : Nat) : (s.clock t).cells = s.cells := rfl
@[simp] theorem State.clock_cellar (s : State) (t : Nat) : (s.clock t).cellar = s.cellar := rfl
@[simp] theorem State.clock_standing (s : State) (t : Nat) : (s.clock t).standing = s.standing := rfl
@[simp] theorem State.clock_sessions (s : State) (t : Nat) : (s.clock t).sessions = s.sessions := rfl
@[simp] theorem State.clock_owner (s : State) (t : Nat) : (s.clock t).owner = s.owner := rfl
@[simp] theorem State.clock_ops (s : State) (t : Nat) : (s.clock t).ops = s.ops := rfl
@[simp] theorem State.clock_waiting (s : State) (t : Nat) : (s.clock t).waiting = s.waiting := rfl
@[simp] theorem State.clock_snaps (s : State) (t : Nat) : (s.clock t).snaps = s.snaps := rfl
@[simp] theorem State.clock_attic (s : State) (t : Nat) : (s.clock t).attic = s.attic := rfl
@[simp] theorem State.clock_faultRing (s : State) (t : Nat) : (s.clock t).faultRing = s.faultRing := rfl
@[simp] theorem State.clock_forager (s : State) (t : Nat) : (s.clock t).forager = s.forager := rfl
@[simp] theorem State.clock_planeAt (s : State) (t : Nat) : (s.clock t).planeAt = s.planeAt := rfl
@[simp] theorem State.clock_pubAt (s : State) (t : Nat) : (s.clock t).pubAt = s.pubAt := rfl
@[simp] theorem State.clock_fanner (s : State) (t : Nat) : (s.clock t).fanner = s.fanner := rfl
@[simp] theorem State.clock_ring (s : State) (t : Nat) : (s.clock t).ring = s.ring := rfl
@[simp] theorem State.clock_swarm (s : State) (t : Nat) : (s.clock t).swarm = s.swarm := rfl
@[simp] theorem State.clock_pantry (s : State) (t : Nat) : (s.clock t).pantry = s.pantry := rfl
@[simp] theorem State.clock_service (s : State) (t : Nat) : (s.clock t).service = s.service := rfl
@[simp] theorem State.clock_porch (s : State) (t : Nat) : (s.clock t).porch = s.porch := rfl
@[simp] theorem State.clock_feeds (s : State) (t : Nat) : (s.clock t).feeds = s.feeds := rfl
@[simp] theorem State.clock_spiOut (s : State) (t : Nat) : (s.clock t).spiOut = s.spiOut := rfl
@[simp] theorem State.clock_config (s : State) (t : Nat) : (s.clock t).config = s.config := rfl
@[simp] theorem State.clock_wear (s : State) (t : Nat) : (s.clock t).wear = s.wear := rfl
@[simp] theorem State.clock_free (s : State) (t : Nat) : (s.clock t).free = s.free := rfl
@[simp] theorem State.clock_pending (s : State) (t : Nat) : (s.clock t).pending = s.pending := rfl
@[simp] theorem State.clock_copies (s : State) (t : Nat) : (s.clock t).copies = s.copies := rfl
@[simp] theorem State.clock_hallData (s : State) (t : Nat) : (s.clock t).hallData = s.hallData := rfl
@[simp] theorem State.clock_servedLast (s : State) (t : Nat) : (s.clock t).servedLast = s.servedLast := rfl
@[simp] theorem State.clock_fgLast (s : State) (t : Nat) : (s.clock t).fgLast = s.fgLast := rfl
@[simp] theorem State.clock_nonces (s : State) (t : Nat) : (s.clock t).nonces = s.nonces := rfl

/-! ### setPar -/

@[simp] theorem State.setPar_now (s : State) (p : Par) (v : Int) (i j : Nat) : (s.setPar p v i j).now = s.now := rfl
@[simp] theorem State.setPar_dev (s : State) (p : Par) (v : Int) (i j : Nat) : (s.setPar p v i j).dev = s.dev := rfl
@[simp] theorem State.setPar_larder (s : State) (p : Par) (v : Int) (i j : Nat) : (s.setPar p v i j).larder = s.larder := rfl
@[simp] theorem State.setPar_eccErrs (s : State) (p : Par) (v : Int) (i j : Nat) : (s.setPar p v i j).eccErrs = s.eccErrs := rfl
@[simp] theorem State.setPar_queues (s : State) (p : Par) (v : Int) (i j : Nat) : (s.setPar p v i j).queues = s.queues := rfl
@[simp] theorem State.setPar_nextTag (s : State) (p : Par) (v : Int) (i j : Nat) : (s.setPar p v i j).nextTag = s.nextTag := rfl
@[simp] theorem State.setPar_axes (s : State) (p : Par) (v : Int) (i j : Nat) : (s.setPar p v i j).axes = s.axes := rfl
@[simp] theorem State.setPar_lanes (s : State) (p : Par) (v : Int) (i j : Nat) : (s.setPar p v i j).lanes = s.lanes := rfl
@[simp] theorem State.setPar_records (s : State) (p : Par) (v : Int) (i j : Nat) : (s.setPar p v i j).records = s.records := rfl
@[simp] theorem State.setPar_bridges (s : State) (p : Par) (v : Int) (i j : Nat) : (s.setPar p v i j).bridges = s.bridges := rfl
@[simp] theorem State.setPar_links (s : State) (p : Par) (v : Int) (i j : Nat) : (s.setPar p v i j).links = s.links := rfl
@[simp] theorem State.setPar_encs (s : State) (p : Par) (v : Int) (i j : Nat) : (s.setPar p v i j).encs = s.encs := rfl
@[simp] theorem State.setPar_ress (s : State) (p : Par) (v : Int) (i j : Nat) : (s.setPar p v i j).ress = s.ress := rfl
@[simp] theorem State.setPar_ssis (s : State) (p : Par) (v : Int) (i j : Nat) : (s.setPar p v i j).ssis = s.ssis := rfl
@[simp] theorem State.setPar_chans (s : State) (p : Par) (v : Int) (i j : Nat) : (s.setPar p v i j).chans = s.chans := rfl
@[simp] theorem State.setPar_cells (s : State) (p : Par) (v : Int) (i j : Nat) : (s.setPar p v i j).cells = s.cells := rfl
@[simp] theorem State.setPar_cellar (s : State) (p : Par) (v : Int) (i j : Nat) : (s.setPar p v i j).cellar = s.cellar := rfl
@[simp] theorem State.setPar_standing (s : State) (p : Par) (v : Int) (i j : Nat) : (s.setPar p v i j).standing = s.standing := rfl
@[simp] theorem State.setPar_sessions (s : State) (p : Par) (v : Int) (i j : Nat) : (s.setPar p v i j).sessions = s.sessions := rfl
@[simp] theorem State.setPar_owner (s : State) (p : Par) (v : Int) (i j : Nat) : (s.setPar p v i j).owner = s.owner := rfl
@[simp] theorem State.setPar_ops (s : State) (p : Par) (v : Int) (i j : Nat) : (s.setPar p v i j).ops = s.ops := rfl
@[simp] theorem State.setPar_waiting (s : State) (p : Par) (v : Int) (i j : Nat) : (s.setPar p v i j).waiting = s.waiting := rfl
@[simp] theorem State.setPar_snaps (s : State) (p : Par) (v : Int) (i j : Nat) : (s.setPar p v i j).snaps = s.snaps := rfl
@[simp] theorem State.setPar_attic (s : State) (p : Par) (v : Int) (i j : Nat) : (s.setPar p v i j).attic = s.attic := rfl
@[simp] theorem State.setPar_faultRing (s : State) (p : Par) (v : Int) (i j : Nat) : (s.setPar p v i j).faultRing = s.faultRing := rfl
@[simp] theorem State.setPar_forager (s : State) (p : Par) (v : Int) (i j : Nat) : (s.setPar p v i j).forager = s.forager := rfl
@[simp] theorem State.setPar_planeAt (s : State) (p : Par) (v : Int) (i j : Nat) : (s.setPar p v i j).planeAt = s.planeAt := rfl
@[simp] theorem State.setPar_pubAt (s : State) (p : Par) (v : Int) (i j : Nat) : (s.setPar p v i j).pubAt = s.pubAt := rfl
@[simp] theorem State.setPar_fanner (s : State) (p : Par) (v : Int) (i j : Nat) : (s.setPar p v i j).fanner = s.fanner := rfl
@[simp] theorem State.setPar_ring (s : State) (p : Par) (v : Int) (i j : Nat) : (s.setPar p v i j).ring = s.ring := rfl
@[simp] theorem State.setPar_swarm (s : State) (p : Par) (v : Int) (i j : Nat) : (s.setPar p v i j).swarm = s.swarm := rfl
@[simp] theorem State.setPar_pantry (s : State) (p : Par) (v : Int) (i j : Nat) : (s.setPar p v i j).pantry = s.pantry := rfl
@[simp] theorem State.setPar_service (s : State) (p : Par) (v : Int) (i j : Nat) : (s.setPar p v i j).service = s.service := rfl
@[simp] theorem State.setPar_porch (s : State) (p : Par) (v : Int) (i j : Nat) : (s.setPar p v i j).porch = s.porch := rfl
@[simp] theorem State.setPar_feeds (s : State) (p : Par) (v : Int) (i j : Nat) : (s.setPar p v i j).feeds = s.feeds := rfl
@[simp] theorem State.setPar_spiOut (s : State) (p : Par) (v : Int) (i j : Nat) : (s.setPar p v i j).spiOut = s.spiOut := rfl
@[simp] theorem State.setPar_config (s : State) (p : Par) (v : Int) (i j : Nat) : (s.setPar p v i j).config = s.config := rfl
@[simp] theorem State.setPar_wear (s : State) (p : Par) (v : Int) (i j : Nat) : (s.setPar p v i j).wear = s.wear := rfl
@[simp] theorem State.setPar_free (s : State) (p : Par) (v : Int) (i j : Nat) : (s.setPar p v i j).free = s.free := rfl
@[simp] theorem State.setPar_pending (s : State) (p : Par) (v : Int) (i j : Nat) : (s.setPar p v i j).pending = s.pending := rfl
@[simp] theorem State.setPar_copies (s : State) (p : Par) (v : Int) (i j : Nat) : (s.setPar p v i j).copies = s.copies := rfl
@[simp] theorem State.setPar_hallData (s : State) (p : Par) (v : Int) (i j : Nat) : (s.setPar p v i j).hallData = s.hallData := rfl
@[simp] theorem State.setPar_servedLast (s : State) (p : Par) (v : Int) (i j : Nat) : (s.setPar p v i j).servedLast = s.servedLast := rfl
@[simp] theorem State.setPar_fgLast (s : State) (p : Par) (v : Int) (i j : Nat) : (s.setPar p v i j).fgLast = s.fgLast := rfl
@[simp] theorem State.setPar_nonces (s : State) (p : Par) (v : Int) (i j : Nat) : (s.setPar p v i j).nonces = s.nonces := rfl

/-! ### setAx -/

@[simp] theorem State.setAx_now (s : State) (k : Nat) (a : Axis) : (s.setAx k a).now = s.now := rfl
@[simp] theorem State.setAx_dev (s : State) (k : Nat) (a : Axis) : (s.setAx k a).dev = s.dev := rfl
@[simp] theorem State.setAx_params (s : State) (k : Nat) (a : Axis) : (s.setAx k a).params = s.params := rfl
@[simp] theorem State.setAx_larder (s : State) (k : Nat) (a : Axis) : (s.setAx k a).larder = s.larder := rfl
@[simp] theorem State.setAx_eccErrs (s : State) (k : Nat) (a : Axis) : (s.setAx k a).eccErrs = s.eccErrs := rfl
@[simp] theorem State.setAx_queues (s : State) (k : Nat) (a : Axis) : (s.setAx k a).queues = s.queues := rfl
@[simp] theorem State.setAx_nextTag (s : State) (k : Nat) (a : Axis) : (s.setAx k a).nextTag = s.nextTag := rfl
@[simp] theorem State.setAx_lanes (s : State) (k : Nat) (a : Axis) : (s.setAx k a).lanes = s.lanes := rfl
@[simp] theorem State.setAx_records (s : State) (k : Nat) (a : Axis) : (s.setAx k a).records = s.records := rfl
@[simp] theorem State.setAx_bridges (s : State) (k : Nat) (a : Axis) : (s.setAx k a).bridges = s.bridges := rfl
@[simp] theorem State.setAx_links (s : State) (k : Nat) (a : Axis) : (s.setAx k a).links = s.links := rfl
@[simp] theorem State.setAx_encs (s : State) (k : Nat) (a : Axis) : (s.setAx k a).encs = s.encs := rfl
@[simp] theorem State.setAx_ress (s : State) (k : Nat) (a : Axis) : (s.setAx k a).ress = s.ress := rfl
@[simp] theorem State.setAx_ssis (s : State) (k : Nat) (a : Axis) : (s.setAx k a).ssis = s.ssis := rfl
@[simp] theorem State.setAx_chans (s : State) (k : Nat) (a : Axis) : (s.setAx k a).chans = s.chans := rfl
@[simp] theorem State.setAx_cells (s : State) (k : Nat) (a : Axis) : (s.setAx k a).cells = s.cells := rfl
@[simp] theorem State.setAx_cellar (s : State) (k : Nat) (a : Axis) : (s.setAx k a).cellar = s.cellar := rfl
@[simp] theorem State.setAx_standing (s : State) (k : Nat) (a : Axis) : (s.setAx k a).standing = s.standing := rfl
@[simp] theorem State.setAx_sessions (s : State) (k : Nat) (a : Axis) : (s.setAx k a).sessions = s.sessions := rfl
@[simp] theorem State.setAx_owner (s : State) (k : Nat) (a : Axis) : (s.setAx k a).owner = s.owner := rfl
@[simp] theorem State.setAx_ops (s : State) (k : Nat) (a : Axis) : (s.setAx k a).ops = s.ops := rfl
@[simp] theorem State.setAx_waiting (s : State) (k : Nat) (a : Axis) : (s.setAx k a).waiting = s.waiting := rfl
@[simp] theorem State.setAx_snaps (s : State) (k : Nat) (a : Axis) : (s.setAx k a).snaps = s.snaps := rfl
@[simp] theorem State.setAx_attic (s : State) (k : Nat) (a : Axis) : (s.setAx k a).attic = s.attic := rfl
@[simp] theorem State.setAx_faultRing (s : State) (k : Nat) (a : Axis) : (s.setAx k a).faultRing = s.faultRing := rfl
@[simp] theorem State.setAx_forager (s : State) (k : Nat) (a : Axis) : (s.setAx k a).forager = s.forager := rfl
@[simp] theorem State.setAx_planeAt (s : State) (k : Nat) (a : Axis) : (s.setAx k a).planeAt = s.planeAt := rfl
@[simp] theorem State.setAx_pubAt (s : State) (k : Nat) (a : Axis) : (s.setAx k a).pubAt = s.pubAt := rfl
@[simp] theorem State.setAx_fanner (s : State) (k : Nat) (a : Axis) : (s.setAx k a).fanner = s.fanner := rfl
@[simp] theorem State.setAx_ring (s : State) (k : Nat) (a : Axis) : (s.setAx k a).ring = s.ring := rfl
@[simp] theorem State.setAx_swarm (s : State) (k : Nat) (a : Axis) : (s.setAx k a).swarm = s.swarm := rfl
@[simp] theorem State.setAx_pantry (s : State) (k : Nat) (a : Axis) : (s.setAx k a).pantry = s.pantry := rfl
@[simp] theorem State.setAx_service (s : State) (k : Nat) (a : Axis) : (s.setAx k a).service = s.service := rfl
@[simp] theorem State.setAx_porch (s : State) (k : Nat) (a : Axis) : (s.setAx k a).porch = s.porch := rfl
@[simp] theorem State.setAx_feeds (s : State) (k : Nat) (a : Axis) : (s.setAx k a).feeds = s.feeds := rfl
@[simp] theorem State.setAx_spiOut (s : State) (k : Nat) (a : Axis) : (s.setAx k a).spiOut = s.spiOut := rfl
@[simp] theorem State.setAx_config (s : State) (k : Nat) (a : Axis) : (s.setAx k a).config = s.config := rfl
@[simp] theorem State.setAx_wear (s : State) (k : Nat) (a : Axis) : (s.setAx k a).wear = s.wear := rfl
@[simp] theorem State.setAx_free (s : State) (k : Nat) (a : Axis) : (s.setAx k a).free = s.free := rfl
@[simp] theorem State.setAx_pending (s : State) (k : Nat) (a : Axis) : (s.setAx k a).pending = s.pending := rfl
@[simp] theorem State.setAx_copies (s : State) (k : Nat) (a : Axis) : (s.setAx k a).copies = s.copies := rfl
@[simp] theorem State.setAx_hallData (s : State) (k : Nat) (a : Axis) : (s.setAx k a).hallData = s.hallData := rfl
@[simp] theorem State.setAx_servedLast (s : State) (k : Nat) (a : Axis) : (s.setAx k a).servedLast = s.servedLast := rfl
@[simp] theorem State.setAx_fgLast (s : State) (k : Nat) (a : Axis) : (s.setAx k a).fgLast = s.fgLast := rfl
@[simp] theorem State.setAx_nonces (s : State) (k : Nat) (a : Axis) : (s.setAx k a).nonces = s.nonces := rfl

/-! ### modAx -/

@[simp] theorem State.modAx_now (s : State) (k : Nat) (f : Axis → Axis) : (s.modAx k f).now = s.now := rfl
@[simp] theorem State.modAx_dev (s : State) (k : Nat) (f : Axis → Axis) : (s.modAx k f).dev = s.dev := rfl
@[simp] theorem State.modAx_params (s : State) (k : Nat) (f : Axis → Axis) : (s.modAx k f).params = s.params := rfl
@[simp] theorem State.modAx_larder (s : State) (k : Nat) (f : Axis → Axis) : (s.modAx k f).larder = s.larder := rfl
@[simp] theorem State.modAx_eccErrs (s : State) (k : Nat) (f : Axis → Axis) : (s.modAx k f).eccErrs = s.eccErrs := rfl
@[simp] theorem State.modAx_queues (s : State) (k : Nat) (f : Axis → Axis) : (s.modAx k f).queues = s.queues := rfl
@[simp] theorem State.modAx_nextTag (s : State) (k : Nat) (f : Axis → Axis) : (s.modAx k f).nextTag = s.nextTag := rfl
@[simp] theorem State.modAx_lanes (s : State) (k : Nat) (f : Axis → Axis) : (s.modAx k f).lanes = s.lanes := rfl
@[simp] theorem State.modAx_records (s : State) (k : Nat) (f : Axis → Axis) : (s.modAx k f).records = s.records := rfl
@[simp] theorem State.modAx_bridges (s : State) (k : Nat) (f : Axis → Axis) : (s.modAx k f).bridges = s.bridges := rfl
@[simp] theorem State.modAx_links (s : State) (k : Nat) (f : Axis → Axis) : (s.modAx k f).links = s.links := rfl
@[simp] theorem State.modAx_encs (s : State) (k : Nat) (f : Axis → Axis) : (s.modAx k f).encs = s.encs := rfl
@[simp] theorem State.modAx_ress (s : State) (k : Nat) (f : Axis → Axis) : (s.modAx k f).ress = s.ress := rfl
@[simp] theorem State.modAx_ssis (s : State) (k : Nat) (f : Axis → Axis) : (s.modAx k f).ssis = s.ssis := rfl
@[simp] theorem State.modAx_chans (s : State) (k : Nat) (f : Axis → Axis) : (s.modAx k f).chans = s.chans := rfl
@[simp] theorem State.modAx_cells (s : State) (k : Nat) (f : Axis → Axis) : (s.modAx k f).cells = s.cells := rfl
@[simp] theorem State.modAx_cellar (s : State) (k : Nat) (f : Axis → Axis) : (s.modAx k f).cellar = s.cellar := rfl
@[simp] theorem State.modAx_standing (s : State) (k : Nat) (f : Axis → Axis) : (s.modAx k f).standing = s.standing := rfl
@[simp] theorem State.modAx_sessions (s : State) (k : Nat) (f : Axis → Axis) : (s.modAx k f).sessions = s.sessions := rfl
@[simp] theorem State.modAx_owner (s : State) (k : Nat) (f : Axis → Axis) : (s.modAx k f).owner = s.owner := rfl
@[simp] theorem State.modAx_ops (s : State) (k : Nat) (f : Axis → Axis) : (s.modAx k f).ops = s.ops := rfl
@[simp] theorem State.modAx_waiting (s : State) (k : Nat) (f : Axis → Axis) : (s.modAx k f).waiting = s.waiting := rfl
@[simp] theorem State.modAx_snaps (s : State) (k : Nat) (f : Axis → Axis) : (s.modAx k f).snaps = s.snaps := rfl
@[simp] theorem State.modAx_attic (s : State) (k : Nat) (f : Axis → Axis) : (s.modAx k f).attic = s.attic := rfl
@[simp] theorem State.modAx_faultRing (s : State) (k : Nat) (f : Axis → Axis) : (s.modAx k f).faultRing = s.faultRing := rfl
@[simp] theorem State.modAx_forager (s : State) (k : Nat) (f : Axis → Axis) : (s.modAx k f).forager = s.forager := rfl
@[simp] theorem State.modAx_planeAt (s : State) (k : Nat) (f : Axis → Axis) : (s.modAx k f).planeAt = s.planeAt := rfl
@[simp] theorem State.modAx_pubAt (s : State) (k : Nat) (f : Axis → Axis) : (s.modAx k f).pubAt = s.pubAt := rfl
@[simp] theorem State.modAx_fanner (s : State) (k : Nat) (f : Axis → Axis) : (s.modAx k f).fanner = s.fanner := rfl
@[simp] theorem State.modAx_ring (s : State) (k : Nat) (f : Axis → Axis) : (s.modAx k f).ring = s.ring := rfl
@[simp] theorem State.modAx_swarm (s : State) (k : Nat) (f : Axis → Axis) : (s.modAx k f).swarm = s.swarm := rfl
@[simp] theorem State.modAx_pantry (s : State) (k : Nat) (f : Axis → Axis) : (s.modAx k f).pantry = s.pantry := rfl
@[simp] theorem State.modAx_service (s : State) (k : Nat) (f : Axis → Axis) : (s.modAx k f).service = s.service := rfl
@[simp] theorem State.modAx_porch (s : State) (k : Nat) (f : Axis → Axis) : (s.modAx k f).porch = s.porch := rfl
@[simp] theorem State.modAx_feeds (s : State) (k : Nat) (f : Axis → Axis) : (s.modAx k f).feeds = s.feeds := rfl
@[simp] theorem State.modAx_spiOut (s : State) (k : Nat) (f : Axis → Axis) : (s.modAx k f).spiOut = s.spiOut := rfl
@[simp] theorem State.modAx_config (s : State) (k : Nat) (f : Axis → Axis) : (s.modAx k f).config = s.config := rfl
@[simp] theorem State.modAx_wear (s : State) (k : Nat) (f : Axis → Axis) : (s.modAx k f).wear = s.wear := rfl
@[simp] theorem State.modAx_free (s : State) (k : Nat) (f : Axis → Axis) : (s.modAx k f).free = s.free := rfl
@[simp] theorem State.modAx_pending (s : State) (k : Nat) (f : Axis → Axis) : (s.modAx k f).pending = s.pending := rfl
@[simp] theorem State.modAx_copies (s : State) (k : Nat) (f : Axis → Axis) : (s.modAx k f).copies = s.copies := rfl
@[simp] theorem State.modAx_hallData (s : State) (k : Nat) (f : Axis → Axis) : (s.modAx k f).hallData = s.hallData := rfl
@[simp] theorem State.modAx_servedLast (s : State) (k : Nat) (f : Axis → Axis) : (s.modAx k f).servedLast = s.servedLast := rfl
@[simp] theorem State.modAx_fgLast (s : State) (k : Nat) (f : Axis → Axis) : (s.modAx k f).fgLast = s.fgLast := rfl
@[simp] theorem State.modAx_nonces (s : State) (k : Nat) (f : Axis → Axis) : (s.modAx k f).nonces = s.nonces := rfl

/-! ### setLane -/

@[simp] theorem State.setLane_now (s : State) (n : Nat) (l : Lane) : (s.setLane n l).now = s.now := rfl
@[simp] theorem State.setLane_dev (s : State) (n : Nat) (l : Lane) : (s.setLane n l).dev = s.dev := rfl
@[simp] theorem State.setLane_params (s : State) (n : Nat) (l : Lane) : (s.setLane n l).params = s.params := rfl
@[simp] theorem State.setLane_larder (s : State) (n : Nat) (l : Lane) : (s.setLane n l).larder = s.larder := rfl
@[simp] theorem State.setLane_eccErrs (s : State) (n : Nat) (l : Lane) : (s.setLane n l).eccErrs = s.eccErrs := rfl
@[simp] theorem State.setLane_queues (s : State) (n : Nat) (l : Lane) : (s.setLane n l).queues = s.queues := rfl
@[simp] theorem State.setLane_nextTag (s : State) (n : Nat) (l : Lane) : (s.setLane n l).nextTag = s.nextTag := rfl
@[simp] theorem State.setLane_axes (s : State) (n : Nat) (l : Lane) : (s.setLane n l).axes = s.axes := rfl
@[simp] theorem State.setLane_records (s : State) (n : Nat) (l : Lane) : (s.setLane n l).records = s.records := rfl
@[simp] theorem State.setLane_bridges (s : State) (n : Nat) (l : Lane) : (s.setLane n l).bridges = s.bridges := rfl
@[simp] theorem State.setLane_links (s : State) (n : Nat) (l : Lane) : (s.setLane n l).links = s.links := rfl
@[simp] theorem State.setLane_encs (s : State) (n : Nat) (l : Lane) : (s.setLane n l).encs = s.encs := rfl
@[simp] theorem State.setLane_ress (s : State) (n : Nat) (l : Lane) : (s.setLane n l).ress = s.ress := rfl
@[simp] theorem State.setLane_ssis (s : State) (n : Nat) (l : Lane) : (s.setLane n l).ssis = s.ssis := rfl
@[simp] theorem State.setLane_chans (s : State) (n : Nat) (l : Lane) : (s.setLane n l).chans = s.chans := rfl
@[simp] theorem State.setLane_cells (s : State) (n : Nat) (l : Lane) : (s.setLane n l).cells = s.cells := rfl
@[simp] theorem State.setLane_cellar (s : State) (n : Nat) (l : Lane) : (s.setLane n l).cellar = s.cellar := rfl
@[simp] theorem State.setLane_standing (s : State) (n : Nat) (l : Lane) : (s.setLane n l).standing = s.standing := rfl
@[simp] theorem State.setLane_sessions (s : State) (n : Nat) (l : Lane) : (s.setLane n l).sessions = s.sessions := rfl
@[simp] theorem State.setLane_owner (s : State) (n : Nat) (l : Lane) : (s.setLane n l).owner = s.owner := rfl
@[simp] theorem State.setLane_ops (s : State) (n : Nat) (l : Lane) : (s.setLane n l).ops = s.ops := rfl
@[simp] theorem State.setLane_waiting (s : State) (n : Nat) (l : Lane) : (s.setLane n l).waiting = s.waiting := rfl
@[simp] theorem State.setLane_snaps (s : State) (n : Nat) (l : Lane) : (s.setLane n l).snaps = s.snaps := rfl
@[simp] theorem State.setLane_attic (s : State) (n : Nat) (l : Lane) : (s.setLane n l).attic = s.attic := rfl
@[simp] theorem State.setLane_faultRing (s : State) (n : Nat) (l : Lane) : (s.setLane n l).faultRing = s.faultRing := rfl
@[simp] theorem State.setLane_forager (s : State) (n : Nat) (l : Lane) : (s.setLane n l).forager = s.forager := rfl
@[simp] theorem State.setLane_planeAt (s : State) (n : Nat) (l : Lane) : (s.setLane n l).planeAt = s.planeAt := rfl
@[simp] theorem State.setLane_pubAt (s : State) (n : Nat) (l : Lane) : (s.setLane n l).pubAt = s.pubAt := rfl
@[simp] theorem State.setLane_fanner (s : State) (n : Nat) (l : Lane) : (s.setLane n l).fanner = s.fanner := rfl
@[simp] theorem State.setLane_ring (s : State) (n : Nat) (l : Lane) : (s.setLane n l).ring = s.ring := rfl
@[simp] theorem State.setLane_swarm (s : State) (n : Nat) (l : Lane) : (s.setLane n l).swarm = s.swarm := rfl
@[simp] theorem State.setLane_pantry (s : State) (n : Nat) (l : Lane) : (s.setLane n l).pantry = s.pantry := rfl
@[simp] theorem State.setLane_service (s : State) (n : Nat) (l : Lane) : (s.setLane n l).service = s.service := rfl
@[simp] theorem State.setLane_porch (s : State) (n : Nat) (l : Lane) : (s.setLane n l).porch = s.porch := rfl
@[simp] theorem State.setLane_feeds (s : State) (n : Nat) (l : Lane) : (s.setLane n l).feeds = s.feeds := rfl
@[simp] theorem State.setLane_spiOut (s : State) (n : Nat) (l : Lane) : (s.setLane n l).spiOut = s.spiOut := rfl
@[simp] theorem State.setLane_config (s : State) (n : Nat) (l : Lane) : (s.setLane n l).config = s.config := rfl
@[simp] theorem State.setLane_wear (s : State) (n : Nat) (l : Lane) : (s.setLane n l).wear = s.wear := rfl
@[simp] theorem State.setLane_free (s : State) (n : Nat) (l : Lane) : (s.setLane n l).free = s.free := rfl
@[simp] theorem State.setLane_pending (s : State) (n : Nat) (l : Lane) : (s.setLane n l).pending = s.pending := rfl
@[simp] theorem State.setLane_copies (s : State) (n : Nat) (l : Lane) : (s.setLane n l).copies = s.copies := rfl
@[simp] theorem State.setLane_hallData (s : State) (n : Nat) (l : Lane) : (s.setLane n l).hallData = s.hallData := rfl
@[simp] theorem State.setLane_servedLast (s : State) (n : Nat) (l : Lane) : (s.setLane n l).servedLast = s.servedLast := rfl
@[simp] theorem State.setLane_fgLast (s : State) (n : Nat) (l : Lane) : (s.setLane n l).fgLast = s.fgLast := rfl
@[simp] theorem State.setLane_nonces (s : State) (n : Nat) (l : Lane) : (s.setLane n l).nonces = s.nonces := rfl

/-! ### setBridge -/

@[simp] theorem State.setBridge_now (s : State) (b : Nat) (x : Bridge) : (s.setBridge b x).now = s.now := rfl
@[simp] theorem State.setBridge_dev (s : State) (b : Nat) (x : Bridge) : (s.setBridge b x).dev = s.dev := rfl
@[simp] theorem State.setBridge_params (s : State) (b : Nat) (x : Bridge) : (s.setBridge b x).params = s.params := rfl
@[simp] theorem State.setBridge_larder (s : State) (b : Nat) (x : Bridge) : (s.setBridge b x).larder = s.larder := rfl
@[simp] theorem State.setBridge_eccErrs (s : State) (b : Nat) (x : Bridge) : (s.setBridge b x).eccErrs = s.eccErrs := rfl
@[simp] theorem State.setBridge_queues (s : State) (b : Nat) (x : Bridge) : (s.setBridge b x).queues = s.queues := rfl
@[simp] theorem State.setBridge_nextTag (s : State) (b : Nat) (x : Bridge) : (s.setBridge b x).nextTag = s.nextTag := rfl
@[simp] theorem State.setBridge_axes (s : State) (b : Nat) (x : Bridge) : (s.setBridge b x).axes = s.axes := rfl
@[simp] theorem State.setBridge_lanes (s : State) (b : Nat) (x : Bridge) : (s.setBridge b x).lanes = s.lanes := rfl
@[simp] theorem State.setBridge_records (s : State) (b : Nat) (x : Bridge) : (s.setBridge b x).records = s.records := rfl
@[simp] theorem State.setBridge_links (s : State) (b : Nat) (x : Bridge) : (s.setBridge b x).links = s.links := rfl
@[simp] theorem State.setBridge_encs (s : State) (b : Nat) (x : Bridge) : (s.setBridge b x).encs = s.encs := rfl
@[simp] theorem State.setBridge_ress (s : State) (b : Nat) (x : Bridge) : (s.setBridge b x).ress = s.ress := rfl
@[simp] theorem State.setBridge_ssis (s : State) (b : Nat) (x : Bridge) : (s.setBridge b x).ssis = s.ssis := rfl
@[simp] theorem State.setBridge_chans (s : State) (b : Nat) (x : Bridge) : (s.setBridge b x).chans = s.chans := rfl
@[simp] theorem State.setBridge_cells (s : State) (b : Nat) (x : Bridge) : (s.setBridge b x).cells = s.cells := rfl
@[simp] theorem State.setBridge_cellar (s : State) (b : Nat) (x : Bridge) : (s.setBridge b x).cellar = s.cellar := rfl
@[simp] theorem State.setBridge_standing (s : State) (b : Nat) (x : Bridge) : (s.setBridge b x).standing = s.standing := rfl
@[simp] theorem State.setBridge_sessions (s : State) (b : Nat) (x : Bridge) : (s.setBridge b x).sessions = s.sessions := rfl
@[simp] theorem State.setBridge_owner (s : State) (b : Nat) (x : Bridge) : (s.setBridge b x).owner = s.owner := rfl
@[simp] theorem State.setBridge_ops (s : State) (b : Nat) (x : Bridge) : (s.setBridge b x).ops = s.ops := rfl
@[simp] theorem State.setBridge_waiting (s : State) (b : Nat) (x : Bridge) : (s.setBridge b x).waiting = s.waiting := rfl
@[simp] theorem State.setBridge_snaps (s : State) (b : Nat) (x : Bridge) : (s.setBridge b x).snaps = s.snaps := rfl
@[simp] theorem State.setBridge_attic (s : State) (b : Nat) (x : Bridge) : (s.setBridge b x).attic = s.attic := rfl
@[simp] theorem State.setBridge_faultRing (s : State) (b : Nat) (x : Bridge) : (s.setBridge b x).faultRing = s.faultRing := rfl
@[simp] theorem State.setBridge_forager (s : State) (b : Nat) (x : Bridge) : (s.setBridge b x).forager = s.forager := rfl
@[simp] theorem State.setBridge_planeAt (s : State) (b : Nat) (x : Bridge) : (s.setBridge b x).planeAt = s.planeAt := rfl
@[simp] theorem State.setBridge_pubAt (s : State) (b : Nat) (x : Bridge) : (s.setBridge b x).pubAt = s.pubAt := rfl
@[simp] theorem State.setBridge_fanner (s : State) (b : Nat) (x : Bridge) : (s.setBridge b x).fanner = s.fanner := rfl
@[simp] theorem State.setBridge_ring (s : State) (b : Nat) (x : Bridge) : (s.setBridge b x).ring = s.ring := rfl
@[simp] theorem State.setBridge_swarm (s : State) (b : Nat) (x : Bridge) : (s.setBridge b x).swarm = s.swarm := rfl
@[simp] theorem State.setBridge_pantry (s : State) (b : Nat) (x : Bridge) : (s.setBridge b x).pantry = s.pantry := rfl
@[simp] theorem State.setBridge_service (s : State) (b : Nat) (x : Bridge) : (s.setBridge b x).service = s.service := rfl
@[simp] theorem State.setBridge_porch (s : State) (b : Nat) (x : Bridge) : (s.setBridge b x).porch = s.porch := rfl
@[simp] theorem State.setBridge_feeds (s : State) (b : Nat) (x : Bridge) : (s.setBridge b x).feeds = s.feeds := rfl
@[simp] theorem State.setBridge_spiOut (s : State) (b : Nat) (x : Bridge) : (s.setBridge b x).spiOut = s.spiOut := rfl
@[simp] theorem State.setBridge_config (s : State) (b : Nat) (x : Bridge) : (s.setBridge b x).config = s.config := rfl
@[simp] theorem State.setBridge_wear (s : State) (b : Nat) (x : Bridge) : (s.setBridge b x).wear = s.wear := rfl
@[simp] theorem State.setBridge_free (s : State) (b : Nat) (x : Bridge) : (s.setBridge b x).free = s.free := rfl
@[simp] theorem State.setBridge_pending (s : State) (b : Nat) (x : Bridge) : (s.setBridge b x).pending = s.pending := rfl
@[simp] theorem State.setBridge_copies (s : State) (b : Nat) (x : Bridge) : (s.setBridge b x).copies = s.copies := rfl
@[simp] theorem State.setBridge_hallData (s : State) (b : Nat) (x : Bridge) : (s.setBridge b x).hallData = s.hallData := rfl
@[simp] theorem State.setBridge_servedLast (s : State) (b : Nat) (x : Bridge) : (s.setBridge b x).servedLast = s.servedLast := rfl
@[simp] theorem State.setBridge_fgLast (s : State) (b : Nat) (x : Bridge) : (s.setBridge b x).fgLast = s.fgLast := rfl
@[simp] theorem State.setBridge_nonces (s : State) (b : Nat) (x : Bridge) : (s.setBridge b x).nonces = s.nonces := rfl

/-! ### setLink -/

@[simp] theorem State.setLink_now (s : State) (k : Nat) (x : Link) : (s.setLink k x).now = s.now := rfl
@[simp] theorem State.setLink_dev (s : State) (k : Nat) (x : Link) : (s.setLink k x).dev = s.dev := rfl
@[simp] theorem State.setLink_params (s : State) (k : Nat) (x : Link) : (s.setLink k x).params = s.params := rfl
@[simp] theorem State.setLink_larder (s : State) (k : Nat) (x : Link) : (s.setLink k x).larder = s.larder := rfl
@[simp] theorem State.setLink_eccErrs (s : State) (k : Nat) (x : Link) : (s.setLink k x).eccErrs = s.eccErrs := rfl
@[simp] theorem State.setLink_queues (s : State) (k : Nat) (x : Link) : (s.setLink k x).queues = s.queues := rfl
@[simp] theorem State.setLink_nextTag (s : State) (k : Nat) (x : Link) : (s.setLink k x).nextTag = s.nextTag := rfl
@[simp] theorem State.setLink_axes (s : State) (k : Nat) (x : Link) : (s.setLink k x).axes = s.axes := rfl
@[simp] theorem State.setLink_lanes (s : State) (k : Nat) (x : Link) : (s.setLink k x).lanes = s.lanes := rfl
@[simp] theorem State.setLink_records (s : State) (k : Nat) (x : Link) : (s.setLink k x).records = s.records := rfl
@[simp] theorem State.setLink_bridges (s : State) (k : Nat) (x : Link) : (s.setLink k x).bridges = s.bridges := rfl
@[simp] theorem State.setLink_encs (s : State) (k : Nat) (x : Link) : (s.setLink k x).encs = s.encs := rfl
@[simp] theorem State.setLink_ress (s : State) (k : Nat) (x : Link) : (s.setLink k x).ress = s.ress := rfl
@[simp] theorem State.setLink_ssis (s : State) (k : Nat) (x : Link) : (s.setLink k x).ssis = s.ssis := rfl
@[simp] theorem State.setLink_chans (s : State) (k : Nat) (x : Link) : (s.setLink k x).chans = s.chans := rfl
@[simp] theorem State.setLink_cells (s : State) (k : Nat) (x : Link) : (s.setLink k x).cells = s.cells := rfl
@[simp] theorem State.setLink_cellar (s : State) (k : Nat) (x : Link) : (s.setLink k x).cellar = s.cellar := rfl
@[simp] theorem State.setLink_standing (s : State) (k : Nat) (x : Link) : (s.setLink k x).standing = s.standing := rfl
@[simp] theorem State.setLink_sessions (s : State) (k : Nat) (x : Link) : (s.setLink k x).sessions = s.sessions := rfl
@[simp] theorem State.setLink_owner (s : State) (k : Nat) (x : Link) : (s.setLink k x).owner = s.owner := rfl
@[simp] theorem State.setLink_ops (s : State) (k : Nat) (x : Link) : (s.setLink k x).ops = s.ops := rfl
@[simp] theorem State.setLink_waiting (s : State) (k : Nat) (x : Link) : (s.setLink k x).waiting = s.waiting := rfl
@[simp] theorem State.setLink_snaps (s : State) (k : Nat) (x : Link) : (s.setLink k x).snaps = s.snaps := rfl
@[simp] theorem State.setLink_attic (s : State) (k : Nat) (x : Link) : (s.setLink k x).attic = s.attic := rfl
@[simp] theorem State.setLink_faultRing (s : State) (k : Nat) (x : Link) : (s.setLink k x).faultRing = s.faultRing := rfl
@[simp] theorem State.setLink_forager (s : State) (k : Nat) (x : Link) : (s.setLink k x).forager = s.forager := rfl
@[simp] theorem State.setLink_planeAt (s : State) (k : Nat) (x : Link) : (s.setLink k x).planeAt = s.planeAt := rfl
@[simp] theorem State.setLink_pubAt (s : State) (k : Nat) (x : Link) : (s.setLink k x).pubAt = s.pubAt := rfl
@[simp] theorem State.setLink_fanner (s : State) (k : Nat) (x : Link) : (s.setLink k x).fanner = s.fanner := rfl
@[simp] theorem State.setLink_ring (s : State) (k : Nat) (x : Link) : (s.setLink k x).ring = s.ring := rfl
@[simp] theorem State.setLink_swarm (s : State) (k : Nat) (x : Link) : (s.setLink k x).swarm = s.swarm := rfl
@[simp] theorem State.setLink_pantry (s : State) (k : Nat) (x : Link) : (s.setLink k x).pantry = s.pantry := rfl
@[simp] theorem State.setLink_service (s : State) (k : Nat) (x : Link) : (s.setLink k x).service = s.service := rfl
@[simp] theorem State.setLink_porch (s : State) (k : Nat) (x : Link) : (s.setLink k x).porch = s.porch := rfl
@[simp] theorem State.setLink_feeds (s : State) (k : Nat) (x : Link) : (s.setLink k x).feeds = s.feeds := rfl
@[simp] theorem State.setLink_spiOut (s : State) (k : Nat) (x : Link) : (s.setLink k x).spiOut = s.spiOut := rfl
@[simp] theorem State.setLink_config (s : State) (k : Nat) (x : Link) : (s.setLink k x).config = s.config := rfl
@[simp] theorem State.setLink_wear (s : State) (k : Nat) (x : Link) : (s.setLink k x).wear = s.wear := rfl
@[simp] theorem State.setLink_free (s : State) (k : Nat) (x : Link) : (s.setLink k x).free = s.free := rfl
@[simp] theorem State.setLink_pending (s : State) (k : Nat) (x : Link) : (s.setLink k x).pending = s.pending := rfl
@[simp] theorem State.setLink_copies (s : State) (k : Nat) (x : Link) : (s.setLink k x).copies = s.copies := rfl
@[simp] theorem State.setLink_hallData (s : State) (k : Nat) (x : Link) : (s.setLink k x).hallData = s.hallData := rfl
@[simp] theorem State.setLink_servedLast (s : State) (k : Nat) (x : Link) : (s.setLink k x).servedLast = s.servedLast := rfl
@[simp] theorem State.setLink_fgLast (s : State) (k : Nat) (x : Link) : (s.setLink k x).fgLast = s.fgLast := rfl
@[simp] theorem State.setLink_nonces (s : State) (k : Nat) (x : Link) : (s.setLink k x).nonces = s.nonces := rfl

/-! ### setChan -/

@[simp] theorem State.setChan_now (s : State) (c : Nat) (x : Chan) : (s.setChan c x).now = s.now := rfl
@[simp] theorem State.setChan_dev (s : State) (c : Nat) (x : Chan) : (s.setChan c x).dev = s.dev := rfl
@[simp] theorem State.setChan_params (s : State) (c : Nat) (x : Chan) : (s.setChan c x).params = s.params := rfl
@[simp] theorem State.setChan_larder (s : State) (c : Nat) (x : Chan) : (s.setChan c x).larder = s.larder := rfl
@[simp] theorem State.setChan_eccErrs (s : State) (c : Nat) (x : Chan) : (s.setChan c x).eccErrs = s.eccErrs := rfl
@[simp] theorem State.setChan_queues (s : State) (c : Nat) (x : Chan) : (s.setChan c x).queues = s.queues := rfl
@[simp] theorem State.setChan_nextTag (s : State) (c : Nat) (x : Chan) : (s.setChan c x).nextTag = s.nextTag := rfl
@[simp] theorem State.setChan_axes (s : State) (c : Nat) (x : Chan) : (s.setChan c x).axes = s.axes := rfl
@[simp] theorem State.setChan_lanes (s : State) (c : Nat) (x : Chan) : (s.setChan c x).lanes = s.lanes := rfl
@[simp] theorem State.setChan_records (s : State) (c : Nat) (x : Chan) : (s.setChan c x).records = s.records := rfl
@[simp] theorem State.setChan_bridges (s : State) (c : Nat) (x : Chan) : (s.setChan c x).bridges = s.bridges := rfl
@[simp] theorem State.setChan_links (s : State) (c : Nat) (x : Chan) : (s.setChan c x).links = s.links := rfl
@[simp] theorem State.setChan_encs (s : State) (c : Nat) (x : Chan) : (s.setChan c x).encs = s.encs := rfl
@[simp] theorem State.setChan_ress (s : State) (c : Nat) (x : Chan) : (s.setChan c x).ress = s.ress := rfl
@[simp] theorem State.setChan_ssis (s : State) (c : Nat) (x : Chan) : (s.setChan c x).ssis = s.ssis := rfl
@[simp] theorem State.setChan_cells (s : State) (c : Nat) (x : Chan) : (s.setChan c x).cells = s.cells := rfl
@[simp] theorem State.setChan_cellar (s : State) (c : Nat) (x : Chan) : (s.setChan c x).cellar = s.cellar := rfl
@[simp] theorem State.setChan_standing (s : State) (c : Nat) (x : Chan) : (s.setChan c x).standing = s.standing := rfl
@[simp] theorem State.setChan_sessions (s : State) (c : Nat) (x : Chan) : (s.setChan c x).sessions = s.sessions := rfl
@[simp] theorem State.setChan_owner (s : State) (c : Nat) (x : Chan) : (s.setChan c x).owner = s.owner := rfl
@[simp] theorem State.setChan_ops (s : State) (c : Nat) (x : Chan) : (s.setChan c x).ops = s.ops := rfl
@[simp] theorem State.setChan_waiting (s : State) (c : Nat) (x : Chan) : (s.setChan c x).waiting = s.waiting := rfl
@[simp] theorem State.setChan_snaps (s : State) (c : Nat) (x : Chan) : (s.setChan c x).snaps = s.snaps := rfl
@[simp] theorem State.setChan_attic (s : State) (c : Nat) (x : Chan) : (s.setChan c x).attic = s.attic := rfl
@[simp] theorem State.setChan_faultRing (s : State) (c : Nat) (x : Chan) : (s.setChan c x).faultRing = s.faultRing := rfl
@[simp] theorem State.setChan_forager (s : State) (c : Nat) (x : Chan) : (s.setChan c x).forager = s.forager := rfl
@[simp] theorem State.setChan_planeAt (s : State) (c : Nat) (x : Chan) : (s.setChan c x).planeAt = s.planeAt := rfl
@[simp] theorem State.setChan_pubAt (s : State) (c : Nat) (x : Chan) : (s.setChan c x).pubAt = s.pubAt := rfl
@[simp] theorem State.setChan_fanner (s : State) (c : Nat) (x : Chan) : (s.setChan c x).fanner = s.fanner := rfl
@[simp] theorem State.setChan_ring (s : State) (c : Nat) (x : Chan) : (s.setChan c x).ring = s.ring := rfl
@[simp] theorem State.setChan_swarm (s : State) (c : Nat) (x : Chan) : (s.setChan c x).swarm = s.swarm := rfl
@[simp] theorem State.setChan_pantry (s : State) (c : Nat) (x : Chan) : (s.setChan c x).pantry = s.pantry := rfl
@[simp] theorem State.setChan_service (s : State) (c : Nat) (x : Chan) : (s.setChan c x).service = s.service := rfl
@[simp] theorem State.setChan_porch (s : State) (c : Nat) (x : Chan) : (s.setChan c x).porch = s.porch := rfl
@[simp] theorem State.setChan_feeds (s : State) (c : Nat) (x : Chan) : (s.setChan c x).feeds = s.feeds := rfl
@[simp] theorem State.setChan_spiOut (s : State) (c : Nat) (x : Chan) : (s.setChan c x).spiOut = s.spiOut := rfl
@[simp] theorem State.setChan_config (s : State) (c : Nat) (x : Chan) : (s.setChan c x).config = s.config := rfl
@[simp] theorem State.setChan_wear (s : State) (c : Nat) (x : Chan) : (s.setChan c x).wear = s.wear := rfl
@[simp] theorem State.setChan_free (s : State) (c : Nat) (x : Chan) : (s.setChan c x).free = s.free := rfl
@[simp] theorem State.setChan_pending (s : State) (c : Nat) (x : Chan) : (s.setChan c x).pending = s.pending := rfl
@[simp] theorem State.setChan_copies (s : State) (c : Nat) (x : Chan) : (s.setChan c x).copies = s.copies := rfl
@[simp] theorem State.setChan_hallData (s : State) (c : Nat) (x : Chan) : (s.setChan c x).hallData = s.hallData := rfl
@[simp] theorem State.setChan_servedLast (s : State) (c : Nat) (x : Chan) : (s.setChan c x).servedLast = s.servedLast := rfl
@[simp] theorem State.setChan_fgLast (s : State) (c : Nat) (x : Chan) : (s.setChan c x).fgLast = s.fgLast := rfl
@[simp] theorem State.setChan_nonces (s : State) (c : Nat) (x : Chan) : (s.setChan c x).nonces = s.nonces := rfl

/-! ### setCell -/

@[simp] theorem State.setCell_now (s : State) (g : Nat) (x : Cell) : (s.setCell g x).now = s.now := rfl
@[simp] theorem State.setCell_dev (s : State) (g : Nat) (x : Cell) : (s.setCell g x).dev = s.dev := rfl
@[simp] theorem State.setCell_params (s : State) (g : Nat) (x : Cell) : (s.setCell g x).params = s.params := rfl
@[simp] theorem State.setCell_larder (s : State) (g : Nat) (x : Cell) : (s.setCell g x).larder = s.larder := rfl
@[simp] theorem State.setCell_eccErrs (s : State) (g : Nat) (x : Cell) : (s.setCell g x).eccErrs = s.eccErrs := rfl
@[simp] theorem State.setCell_queues (s : State) (g : Nat) (x : Cell) : (s.setCell g x).queues = s.queues := rfl
@[simp] theorem State.setCell_nextTag (s : State) (g : Nat) (x : Cell) : (s.setCell g x).nextTag = s.nextTag := rfl
@[simp] theorem State.setCell_axes (s : State) (g : Nat) (x : Cell) : (s.setCell g x).axes = s.axes := rfl
@[simp] theorem State.setCell_lanes (s : State) (g : Nat) (x : Cell) : (s.setCell g x).lanes = s.lanes := rfl
@[simp] theorem State.setCell_records (s : State) (g : Nat) (x : Cell) : (s.setCell g x).records = s.records := rfl
@[simp] theorem State.setCell_bridges (s : State) (g : Nat) (x : Cell) : (s.setCell g x).bridges = s.bridges := rfl
@[simp] theorem State.setCell_links (s : State) (g : Nat) (x : Cell) : (s.setCell g x).links = s.links := rfl
@[simp] theorem State.setCell_encs (s : State) (g : Nat) (x : Cell) : (s.setCell g x).encs = s.encs := rfl
@[simp] theorem State.setCell_ress (s : State) (g : Nat) (x : Cell) : (s.setCell g x).ress = s.ress := rfl
@[simp] theorem State.setCell_ssis (s : State) (g : Nat) (x : Cell) : (s.setCell g x).ssis = s.ssis := rfl
@[simp] theorem State.setCell_chans (s : State) (g : Nat) (x : Cell) : (s.setCell g x).chans = s.chans := rfl
@[simp] theorem State.setCell_cellar (s : State) (g : Nat) (x : Cell) : (s.setCell g x).cellar = s.cellar := rfl
@[simp] theorem State.setCell_standing (s : State) (g : Nat) (x : Cell) : (s.setCell g x).standing = s.standing := rfl
@[simp] theorem State.setCell_sessions (s : State) (g : Nat) (x : Cell) : (s.setCell g x).sessions = s.sessions := rfl
@[simp] theorem State.setCell_owner (s : State) (g : Nat) (x : Cell) : (s.setCell g x).owner = s.owner := rfl
@[simp] theorem State.setCell_ops (s : State) (g : Nat) (x : Cell) : (s.setCell g x).ops = s.ops := rfl
@[simp] theorem State.setCell_waiting (s : State) (g : Nat) (x : Cell) : (s.setCell g x).waiting = s.waiting := rfl
@[simp] theorem State.setCell_snaps (s : State) (g : Nat) (x : Cell) : (s.setCell g x).snaps = s.snaps := rfl
@[simp] theorem State.setCell_attic (s : State) (g : Nat) (x : Cell) : (s.setCell g x).attic = s.attic := rfl
@[simp] theorem State.setCell_faultRing (s : State) (g : Nat) (x : Cell) : (s.setCell g x).faultRing = s.faultRing := rfl
@[simp] theorem State.setCell_forager (s : State) (g : Nat) (x : Cell) : (s.setCell g x).forager = s.forager := rfl
@[simp] theorem State.setCell_planeAt (s : State) (g : Nat) (x : Cell) : (s.setCell g x).planeAt = s.planeAt := rfl
@[simp] theorem State.setCell_pubAt (s : State) (g : Nat) (x : Cell) : (s.setCell g x).pubAt = s.pubAt := rfl
@[simp] theorem State.setCell_fanner (s : State) (g : Nat) (x : Cell) : (s.setCell g x).fanner = s.fanner := rfl
@[simp] theorem State.setCell_ring (s : State) (g : Nat) (x : Cell) : (s.setCell g x).ring = s.ring := rfl
@[simp] theorem State.setCell_swarm (s : State) (g : Nat) (x : Cell) : (s.setCell g x).swarm = s.swarm := rfl
@[simp] theorem State.setCell_pantry (s : State) (g : Nat) (x : Cell) : (s.setCell g x).pantry = s.pantry := rfl
@[simp] theorem State.setCell_service (s : State) (g : Nat) (x : Cell) : (s.setCell g x).service = s.service := rfl
@[simp] theorem State.setCell_porch (s : State) (g : Nat) (x : Cell) : (s.setCell g x).porch = s.porch := rfl
@[simp] theorem State.setCell_feeds (s : State) (g : Nat) (x : Cell) : (s.setCell g x).feeds = s.feeds := rfl
@[simp] theorem State.setCell_spiOut (s : State) (g : Nat) (x : Cell) : (s.setCell g x).spiOut = s.spiOut := rfl
@[simp] theorem State.setCell_config (s : State) (g : Nat) (x : Cell) : (s.setCell g x).config = s.config := rfl
@[simp] theorem State.setCell_wear (s : State) (g : Nat) (x : Cell) : (s.setCell g x).wear = s.wear := rfl
@[simp] theorem State.setCell_free (s : State) (g : Nat) (x : Cell) : (s.setCell g x).free = s.free := rfl
@[simp] theorem State.setCell_pending (s : State) (g : Nat) (x : Cell) : (s.setCell g x).pending = s.pending := rfl
@[simp] theorem State.setCell_copies (s : State) (g : Nat) (x : Cell) : (s.setCell g x).copies = s.copies := rfl
@[simp] theorem State.setCell_hallData (s : State) (g : Nat) (x : Cell) : (s.setCell g x).hallData = s.hallData := rfl
@[simp] theorem State.setCell_servedLast (s : State) (g : Nat) (x : Cell) : (s.setCell g x).servedLast = s.servedLast := rfl
@[simp] theorem State.setCell_fgLast (s : State) (g : Nat) (x : Cell) : (s.setCell g x).fgLast = s.fgLast := rfl
@[simp] theorem State.setCell_nonces (s : State) (g : Nat) (x : Cell) : (s.setCell g x).nonces = s.nonces := rfl

/-! ### setEnc -/

@[simp] theorem State.setEnc_now (s : State) (k : Nat) (x : Enc) : (s.setEnc k x).now = s.now := rfl
@[simp] theorem State.setEnc_dev (s : State) (k : Nat) (x : Enc) : (s.setEnc k x).dev = s.dev := rfl
@[simp] theorem State.setEnc_params (s : State) (k : Nat) (x : Enc) : (s.setEnc k x).params = s.params := rfl
@[simp] theorem State.setEnc_larder (s : State) (k : Nat) (x : Enc) : (s.setEnc k x).larder = s.larder := rfl
@[simp] theorem State.setEnc_eccErrs (s : State) (k : Nat) (x : Enc) : (s.setEnc k x).eccErrs = s.eccErrs := rfl
@[simp] theorem State.setEnc_queues (s : State) (k : Nat) (x : Enc) : (s.setEnc k x).queues = s.queues := rfl
@[simp] theorem State.setEnc_nextTag (s : State) (k : Nat) (x : Enc) : (s.setEnc k x).nextTag = s.nextTag := rfl
@[simp] theorem State.setEnc_axes (s : State) (k : Nat) (x : Enc) : (s.setEnc k x).axes = s.axes := rfl
@[simp] theorem State.setEnc_lanes (s : State) (k : Nat) (x : Enc) : (s.setEnc k x).lanes = s.lanes := rfl
@[simp] theorem State.setEnc_records (s : State) (k : Nat) (x : Enc) : (s.setEnc k x).records = s.records := rfl
@[simp] theorem State.setEnc_bridges (s : State) (k : Nat) (x : Enc) : (s.setEnc k x).bridges = s.bridges := rfl
@[simp] theorem State.setEnc_links (s : State) (k : Nat) (x : Enc) : (s.setEnc k x).links = s.links := rfl
@[simp] theorem State.setEnc_ress (s : State) (k : Nat) (x : Enc) : (s.setEnc k x).ress = s.ress := rfl
@[simp] theorem State.setEnc_ssis (s : State) (k : Nat) (x : Enc) : (s.setEnc k x).ssis = s.ssis := rfl
@[simp] theorem State.setEnc_chans (s : State) (k : Nat) (x : Enc) : (s.setEnc k x).chans = s.chans := rfl
@[simp] theorem State.setEnc_cells (s : State) (k : Nat) (x : Enc) : (s.setEnc k x).cells = s.cells := rfl
@[simp] theorem State.setEnc_cellar (s : State) (k : Nat) (x : Enc) : (s.setEnc k x).cellar = s.cellar := rfl
@[simp] theorem State.setEnc_standing (s : State) (k : Nat) (x : Enc) : (s.setEnc k x).standing = s.standing := rfl
@[simp] theorem State.setEnc_sessions (s : State) (k : Nat) (x : Enc) : (s.setEnc k x).sessions = s.sessions := rfl
@[simp] theorem State.setEnc_owner (s : State) (k : Nat) (x : Enc) : (s.setEnc k x).owner = s.owner := rfl
@[simp] theorem State.setEnc_ops (s : State) (k : Nat) (x : Enc) : (s.setEnc k x).ops = s.ops := rfl
@[simp] theorem State.setEnc_waiting (s : State) (k : Nat) (x : Enc) : (s.setEnc k x).waiting = s.waiting := rfl
@[simp] theorem State.setEnc_snaps (s : State) (k : Nat) (x : Enc) : (s.setEnc k x).snaps = s.snaps := rfl
@[simp] theorem State.setEnc_attic (s : State) (k : Nat) (x : Enc) : (s.setEnc k x).attic = s.attic := rfl
@[simp] theorem State.setEnc_faultRing (s : State) (k : Nat) (x : Enc) : (s.setEnc k x).faultRing = s.faultRing := rfl
@[simp] theorem State.setEnc_forager (s : State) (k : Nat) (x : Enc) : (s.setEnc k x).forager = s.forager := rfl
@[simp] theorem State.setEnc_planeAt (s : State) (k : Nat) (x : Enc) : (s.setEnc k x).planeAt = s.planeAt := rfl
@[simp] theorem State.setEnc_pubAt (s : State) (k : Nat) (x : Enc) : (s.setEnc k x).pubAt = s.pubAt := rfl
@[simp] theorem State.setEnc_fanner (s : State) (k : Nat) (x : Enc) : (s.setEnc k x).fanner = s.fanner := rfl
@[simp] theorem State.setEnc_ring (s : State) (k : Nat) (x : Enc) : (s.setEnc k x).ring = s.ring := rfl
@[simp] theorem State.setEnc_swarm (s : State) (k : Nat) (x : Enc) : (s.setEnc k x).swarm = s.swarm := rfl
@[simp] theorem State.setEnc_pantry (s : State) (k : Nat) (x : Enc) : (s.setEnc k x).pantry = s.pantry := rfl
@[simp] theorem State.setEnc_service (s : State) (k : Nat) (x : Enc) : (s.setEnc k x).service = s.service := rfl
@[simp] theorem State.setEnc_porch (s : State) (k : Nat) (x : Enc) : (s.setEnc k x).porch = s.porch := rfl
@[simp] theorem State.setEnc_feeds (s : State) (k : Nat) (x : Enc) : (s.setEnc k x).feeds = s.feeds := rfl
@[simp] theorem State.setEnc_spiOut (s : State) (k : Nat) (x : Enc) : (s.setEnc k x).spiOut = s.spiOut := rfl
@[simp] theorem State.setEnc_config (s : State) (k : Nat) (x : Enc) : (s.setEnc k x).config = s.config := rfl
@[simp] theorem State.setEnc_wear (s : State) (k : Nat) (x : Enc) : (s.setEnc k x).wear = s.wear := rfl
@[simp] theorem State.setEnc_free (s : State) (k : Nat) (x : Enc) : (s.setEnc k x).free = s.free := rfl
@[simp] theorem State.setEnc_pending (s : State) (k : Nat) (x : Enc) : (s.setEnc k x).pending = s.pending := rfl
@[simp] theorem State.setEnc_copies (s : State) (k : Nat) (x : Enc) : (s.setEnc k x).copies = s.copies := rfl
@[simp] theorem State.setEnc_hallData (s : State) (k : Nat) (x : Enc) : (s.setEnc k x).hallData = s.hallData := rfl
@[simp] theorem State.setEnc_servedLast (s : State) (k : Nat) (x : Enc) : (s.setEnc k x).servedLast = s.servedLast := rfl
@[simp] theorem State.setEnc_fgLast (s : State) (k : Nat) (x : Enc) : (s.setEnc k x).fgLast = s.fgLast := rfl
@[simp] theorem State.setEnc_nonces (s : State) (k : Nat) (x : Enc) : (s.setEnc k x).nonces = s.nonces := rfl

/-! ### setRes -/

@[simp] theorem State.setRes_now (s : State) (k : Nat) (x : Res) : (s.setRes k x).now = s.now := rfl
@[simp] theorem State.setRes_dev (s : State) (k : Nat) (x : Res) : (s.setRes k x).dev = s.dev := rfl
@[simp] theorem State.setRes_params (s : State) (k : Nat) (x : Res) : (s.setRes k x).params = s.params := rfl
@[simp] theorem State.setRes_larder (s : State) (k : Nat) (x : Res) : (s.setRes k x).larder = s.larder := rfl
@[simp] theorem State.setRes_eccErrs (s : State) (k : Nat) (x : Res) : (s.setRes k x).eccErrs = s.eccErrs := rfl
@[simp] theorem State.setRes_queues (s : State) (k : Nat) (x : Res) : (s.setRes k x).queues = s.queues := rfl
@[simp] theorem State.setRes_nextTag (s : State) (k : Nat) (x : Res) : (s.setRes k x).nextTag = s.nextTag := rfl
@[simp] theorem State.setRes_axes (s : State) (k : Nat) (x : Res) : (s.setRes k x).axes = s.axes := rfl
@[simp] theorem State.setRes_lanes (s : State) (k : Nat) (x : Res) : (s.setRes k x).lanes = s.lanes := rfl
@[simp] theorem State.setRes_records (s : State) (k : Nat) (x : Res) : (s.setRes k x).records = s.records := rfl
@[simp] theorem State.setRes_bridges (s : State) (k : Nat) (x : Res) : (s.setRes k x).bridges = s.bridges := rfl
@[simp] theorem State.setRes_links (s : State) (k : Nat) (x : Res) : (s.setRes k x).links = s.links := rfl
@[simp] theorem State.setRes_encs (s : State) (k : Nat) (x : Res) : (s.setRes k x).encs = s.encs := rfl
@[simp] theorem State.setRes_ssis (s : State) (k : Nat) (x : Res) : (s.setRes k x).ssis = s.ssis := rfl
@[simp] theorem State.setRes_chans (s : State) (k : Nat) (x : Res) : (s.setRes k x).chans = s.chans := rfl
@[simp] theorem State.setRes_cells (s : State) (k : Nat) (x : Res) : (s.setRes k x).cells = s.cells := rfl
@[simp] theorem State.setRes_cellar (s : State) (k : Nat) (x : Res) : (s.setRes k x).cellar = s.cellar := rfl
@[simp] theorem State.setRes_standing (s : State) (k : Nat) (x : Res) : (s.setRes k x).standing = s.standing := rfl
@[simp] theorem State.setRes_sessions (s : State) (k : Nat) (x : Res) : (s.setRes k x).sessions = s.sessions := rfl
@[simp] theorem State.setRes_owner (s : State) (k : Nat) (x : Res) : (s.setRes k x).owner = s.owner := rfl
@[simp] theorem State.setRes_ops (s : State) (k : Nat) (x : Res) : (s.setRes k x).ops = s.ops := rfl
@[simp] theorem State.setRes_waiting (s : State) (k : Nat) (x : Res) : (s.setRes k x).waiting = s.waiting := rfl
@[simp] theorem State.setRes_snaps (s : State) (k : Nat) (x : Res) : (s.setRes k x).snaps = s.snaps := rfl
@[simp] theorem State.setRes_attic (s : State) (k : Nat) (x : Res) : (s.setRes k x).attic = s.attic := rfl
@[simp] theorem State.setRes_faultRing (s : State) (k : Nat) (x : Res) : (s.setRes k x).faultRing = s.faultRing := rfl
@[simp] theorem State.setRes_forager (s : State) (k : Nat) (x : Res) : (s.setRes k x).forager = s.forager := rfl
@[simp] theorem State.setRes_planeAt (s : State) (k : Nat) (x : Res) : (s.setRes k x).planeAt = s.planeAt := rfl
@[simp] theorem State.setRes_pubAt (s : State) (k : Nat) (x : Res) : (s.setRes k x).pubAt = s.pubAt := rfl
@[simp] theorem State.setRes_fanner (s : State) (k : Nat) (x : Res) : (s.setRes k x).fanner = s.fanner := rfl
@[simp] theorem State.setRes_ring (s : State) (k : Nat) (x : Res) : (s.setRes k x).ring = s.ring := rfl
@[simp] theorem State.setRes_swarm (s : State) (k : Nat) (x : Res) : (s.setRes k x).swarm = s.swarm := rfl
@[simp] theorem State.setRes_pantry (s : State) (k : Nat) (x : Res) : (s.setRes k x).pantry = s.pantry := rfl
@[simp] theorem State.setRes_service (s : State) (k : Nat) (x : Res) : (s.setRes k x).service = s.service := rfl
@[simp] theorem State.setRes_porch (s : State) (k : Nat) (x : Res) : (s.setRes k x).porch = s.porch := rfl
@[simp] theorem State.setRes_feeds (s : State) (k : Nat) (x : Res) : (s.setRes k x).feeds = s.feeds := rfl
@[simp] theorem State.setRes_spiOut (s : State) (k : Nat) (x : Res) : (s.setRes k x).spiOut = s.spiOut := rfl
@[simp] theorem State.setRes_config (s : State) (k : Nat) (x : Res) : (s.setRes k x).config = s.config := rfl
@[simp] theorem State.setRes_wear (s : State) (k : Nat) (x : Res) : (s.setRes k x).wear = s.wear := rfl
@[simp] theorem State.setRes_free (s : State) (k : Nat) (x : Res) : (s.setRes k x).free = s.free := rfl
@[simp] theorem State.setRes_pending (s : State) (k : Nat) (x : Res) : (s.setRes k x).pending = s.pending := rfl
@[simp] theorem State.setRes_copies (s : State) (k : Nat) (x : Res) : (s.setRes k x).copies = s.copies := rfl
@[simp] theorem State.setRes_hallData (s : State) (k : Nat) (x : Res) : (s.setRes k x).hallData = s.hallData := rfl
@[simp] theorem State.setRes_servedLast (s : State) (k : Nat) (x : Res) : (s.setRes k x).servedLast = s.servedLast := rfl
@[simp] theorem State.setRes_fgLast (s : State) (k : Nat) (x : Res) : (s.setRes k x).fgLast = s.fgLast := rfl
@[simp] theorem State.setRes_nonces (s : State) (k : Nat) (x : Res) : (s.setRes k x).nonces = s.nonces := rfl

/-! ### setSsi -/

@[simp] theorem State.setSsi_now (s : State) (k : Nat) (x : Ssi) : (s.setSsi k x).now = s.now := rfl
@[simp] theorem State.setSsi_dev (s : State) (k : Nat) (x : Ssi) : (s.setSsi k x).dev = s.dev := rfl
@[simp] theorem State.setSsi_params (s : State) (k : Nat) (x : Ssi) : (s.setSsi k x).params = s.params := rfl
@[simp] theorem State.setSsi_larder (s : State) (k : Nat) (x : Ssi) : (s.setSsi k x).larder = s.larder := rfl
@[simp] theorem State.setSsi_eccErrs (s : State) (k : Nat) (x : Ssi) : (s.setSsi k x).eccErrs = s.eccErrs := rfl
@[simp] theorem State.setSsi_queues (s : State) (k : Nat) (x : Ssi) : (s.setSsi k x).queues = s.queues := rfl
@[simp] theorem State.setSsi_nextTag (s : State) (k : Nat) (x : Ssi) : (s.setSsi k x).nextTag = s.nextTag := rfl
@[simp] theorem State.setSsi_axes (s : State) (k : Nat) (x : Ssi) : (s.setSsi k x).axes = s.axes := rfl
@[simp] theorem State.setSsi_lanes (s : State) (k : Nat) (x : Ssi) : (s.setSsi k x).lanes = s.lanes := rfl
@[simp] theorem State.setSsi_records (s : State) (k : Nat) (x : Ssi) : (s.setSsi k x).records = s.records := rfl
@[simp] theorem State.setSsi_bridges (s : State) (k : Nat) (x : Ssi) : (s.setSsi k x).bridges = s.bridges := rfl
@[simp] theorem State.setSsi_links (s : State) (k : Nat) (x : Ssi) : (s.setSsi k x).links = s.links := rfl
@[simp] theorem State.setSsi_encs (s : State) (k : Nat) (x : Ssi) : (s.setSsi k x).encs = s.encs := rfl
@[simp] theorem State.setSsi_ress (s : State) (k : Nat) (x : Ssi) : (s.setSsi k x).ress = s.ress := rfl
@[simp] theorem State.setSsi_chans (s : State) (k : Nat) (x : Ssi) : (s.setSsi k x).chans = s.chans := rfl
@[simp] theorem State.setSsi_cells (s : State) (k : Nat) (x : Ssi) : (s.setSsi k x).cells = s.cells := rfl
@[simp] theorem State.setSsi_cellar (s : State) (k : Nat) (x : Ssi) : (s.setSsi k x).cellar = s.cellar := rfl
@[simp] theorem State.setSsi_standing (s : State) (k : Nat) (x : Ssi) : (s.setSsi k x).standing = s.standing := rfl
@[simp] theorem State.setSsi_sessions (s : State) (k : Nat) (x : Ssi) : (s.setSsi k x).sessions = s.sessions := rfl
@[simp] theorem State.setSsi_owner (s : State) (k : Nat) (x : Ssi) : (s.setSsi k x).owner = s.owner := rfl
@[simp] theorem State.setSsi_ops (s : State) (k : Nat) (x : Ssi) : (s.setSsi k x).ops = s.ops := rfl
@[simp] theorem State.setSsi_waiting (s : State) (k : Nat) (x : Ssi) : (s.setSsi k x).waiting = s.waiting := rfl
@[simp] theorem State.setSsi_snaps (s : State) (k : Nat) (x : Ssi) : (s.setSsi k x).snaps = s.snaps := rfl
@[simp] theorem State.setSsi_attic (s : State) (k : Nat) (x : Ssi) : (s.setSsi k x).attic = s.attic := rfl
@[simp] theorem State.setSsi_faultRing (s : State) (k : Nat) (x : Ssi) : (s.setSsi k x).faultRing = s.faultRing := rfl
@[simp] theorem State.setSsi_forager (s : State) (k : Nat) (x : Ssi) : (s.setSsi k x).forager = s.forager := rfl
@[simp] theorem State.setSsi_planeAt (s : State) (k : Nat) (x : Ssi) : (s.setSsi k x).planeAt = s.planeAt := rfl
@[simp] theorem State.setSsi_pubAt (s : State) (k : Nat) (x : Ssi) : (s.setSsi k x).pubAt = s.pubAt := rfl
@[simp] theorem State.setSsi_fanner (s : State) (k : Nat) (x : Ssi) : (s.setSsi k x).fanner = s.fanner := rfl
@[simp] theorem State.setSsi_ring (s : State) (k : Nat) (x : Ssi) : (s.setSsi k x).ring = s.ring := rfl
@[simp] theorem State.setSsi_swarm (s : State) (k : Nat) (x : Ssi) : (s.setSsi k x).swarm = s.swarm := rfl
@[simp] theorem State.setSsi_pantry (s : State) (k : Nat) (x : Ssi) : (s.setSsi k x).pantry = s.pantry := rfl
@[simp] theorem State.setSsi_service (s : State) (k : Nat) (x : Ssi) : (s.setSsi k x).service = s.service := rfl
@[simp] theorem State.setSsi_porch (s : State) (k : Nat) (x : Ssi) : (s.setSsi k x).porch = s.porch := rfl
@[simp] theorem State.setSsi_feeds (s : State) (k : Nat) (x : Ssi) : (s.setSsi k x).feeds = s.feeds := rfl
@[simp] theorem State.setSsi_spiOut (s : State) (k : Nat) (x : Ssi) : (s.setSsi k x).spiOut = s.spiOut := rfl
@[simp] theorem State.setSsi_config (s : State) (k : Nat) (x : Ssi) : (s.setSsi k x).config = s.config := rfl
@[simp] theorem State.setSsi_wear (s : State) (k : Nat) (x : Ssi) : (s.setSsi k x).wear = s.wear := rfl
@[simp] theorem State.setSsi_free (s : State) (k : Nat) (x : Ssi) : (s.setSsi k x).free = s.free := rfl
@[simp] theorem State.setSsi_pending (s : State) (k : Nat) (x : Ssi) : (s.setSsi k x).pending = s.pending := rfl
@[simp] theorem State.setSsi_copies (s : State) (k : Nat) (x : Ssi) : (s.setSsi k x).copies = s.copies := rfl
@[simp] theorem State.setSsi_hallData (s : State) (k : Nat) (x : Ssi) : (s.setSsi k x).hallData = s.hallData := rfl
@[simp] theorem State.setSsi_servedLast (s : State) (k : Nat) (x : Ssi) : (s.setSsi k x).servedLast = s.servedLast := rfl
@[simp] theorem State.setSsi_fgLast (s : State) (k : Nat) (x : Ssi) : (s.setSsi k x).fgLast = s.fgLast := rfl
@[simp] theorem State.setSsi_nonces (s : State) (k : Nat) (x : Ssi) : (s.setSsi k x).nonces = s.nonces := rfl

/-! ### setQueue -/

@[simp] theorem State.setQueue_now (s : State) (q : Nat) (es : List Entry) : (s.setQueue q es).now = s.now := rfl
@[simp] theorem State.setQueue_dev (s : State) (q : Nat) (es : List Entry) : (s.setQueue q es).dev = s.dev := rfl
@[simp] theorem State.setQueue_params (s : State) (q : Nat) (es : List Entry) : (s.setQueue q es).params = s.params := rfl
@[simp] theorem State.setQueue_larder (s : State) (q : Nat) (es : List Entry) : (s.setQueue q es).larder = s.larder := rfl
@[simp] theorem State.setQueue_eccErrs (s : State) (q : Nat) (es : List Entry) : (s.setQueue q es).eccErrs = s.eccErrs := rfl
@[simp] theorem State.setQueue_nextTag (s : State) (q : Nat) (es : List Entry) : (s.setQueue q es).nextTag = s.nextTag := rfl
@[simp] theorem State.setQueue_axes (s : State) (q : Nat) (es : List Entry) : (s.setQueue q es).axes = s.axes := rfl
@[simp] theorem State.setQueue_lanes (s : State) (q : Nat) (es : List Entry) : (s.setQueue q es).lanes = s.lanes := rfl
@[simp] theorem State.setQueue_records (s : State) (q : Nat) (es : List Entry) : (s.setQueue q es).records = s.records := rfl
@[simp] theorem State.setQueue_bridges (s : State) (q : Nat) (es : List Entry) : (s.setQueue q es).bridges = s.bridges := rfl
@[simp] theorem State.setQueue_links (s : State) (q : Nat) (es : List Entry) : (s.setQueue q es).links = s.links := rfl
@[simp] theorem State.setQueue_encs (s : State) (q : Nat) (es : List Entry) : (s.setQueue q es).encs = s.encs := rfl
@[simp] theorem State.setQueue_ress (s : State) (q : Nat) (es : List Entry) : (s.setQueue q es).ress = s.ress := rfl
@[simp] theorem State.setQueue_ssis (s : State) (q : Nat) (es : List Entry) : (s.setQueue q es).ssis = s.ssis := rfl
@[simp] theorem State.setQueue_chans (s : State) (q : Nat) (es : List Entry) : (s.setQueue q es).chans = s.chans := rfl
@[simp] theorem State.setQueue_cells (s : State) (q : Nat) (es : List Entry) : (s.setQueue q es).cells = s.cells := rfl
@[simp] theorem State.setQueue_cellar (s : State) (q : Nat) (es : List Entry) : (s.setQueue q es).cellar = s.cellar := rfl
@[simp] theorem State.setQueue_standing (s : State) (q : Nat) (es : List Entry) : (s.setQueue q es).standing = s.standing := rfl
@[simp] theorem State.setQueue_sessions (s : State) (q : Nat) (es : List Entry) : (s.setQueue q es).sessions = s.sessions := rfl
@[simp] theorem State.setQueue_owner (s : State) (q : Nat) (es : List Entry) : (s.setQueue q es).owner = s.owner := rfl
@[simp] theorem State.setQueue_ops (s : State) (q : Nat) (es : List Entry) : (s.setQueue q es).ops = s.ops := rfl
@[simp] theorem State.setQueue_waiting (s : State) (q : Nat) (es : List Entry) : (s.setQueue q es).waiting = s.waiting := rfl
@[simp] theorem State.setQueue_snaps (s : State) (q : Nat) (es : List Entry) : (s.setQueue q es).snaps = s.snaps := rfl
@[simp] theorem State.setQueue_attic (s : State) (q : Nat) (es : List Entry) : (s.setQueue q es).attic = s.attic := rfl
@[simp] theorem State.setQueue_faultRing (s : State) (q : Nat) (es : List Entry) : (s.setQueue q es).faultRing = s.faultRing := rfl
@[simp] theorem State.setQueue_forager (s : State) (q : Nat) (es : List Entry) : (s.setQueue q es).forager = s.forager := rfl
@[simp] theorem State.setQueue_planeAt (s : State) (q : Nat) (es : List Entry) : (s.setQueue q es).planeAt = s.planeAt := rfl
@[simp] theorem State.setQueue_pubAt (s : State) (q : Nat) (es : List Entry) : (s.setQueue q es).pubAt = s.pubAt := rfl
@[simp] theorem State.setQueue_fanner (s : State) (q : Nat) (es : List Entry) : (s.setQueue q es).fanner = s.fanner := rfl
@[simp] theorem State.setQueue_ring (s : State) (q : Nat) (es : List Entry) : (s.setQueue q es).ring = s.ring := rfl
@[simp] theorem State.setQueue_swarm (s : State) (q : Nat) (es : List Entry) : (s.setQueue q es).swarm = s.swarm := rfl
@[simp] theorem State.setQueue_pantry (s : State) (q : Nat) (es : List Entry) : (s.setQueue q es).pantry = s.pantry := rfl
@[simp] theorem State.setQueue_service (s : State) (q : Nat) (es : List Entry) : (s.setQueue q es).service = s.service := rfl
@[simp] theorem State.setQueue_porch (s : State) (q : Nat) (es : List Entry) : (s.setQueue q es).porch = s.porch := rfl
@[simp] theorem State.setQueue_feeds (s : State) (q : Nat) (es : List Entry) : (s.setQueue q es).feeds = s.feeds := rfl
@[simp] theorem State.setQueue_spiOut (s : State) (q : Nat) (es : List Entry) : (s.setQueue q es).spiOut = s.spiOut := rfl
@[simp] theorem State.setQueue_config (s : State) (q : Nat) (es : List Entry) : (s.setQueue q es).config = s.config := rfl
@[simp] theorem State.setQueue_wear (s : State) (q : Nat) (es : List Entry) : (s.setQueue q es).wear = s.wear := rfl
@[simp] theorem State.setQueue_free (s : State) (q : Nat) (es : List Entry) : (s.setQueue q es).free = s.free := rfl
@[simp] theorem State.setQueue_pending (s : State) (q : Nat) (es : List Entry) : (s.setQueue q es).pending = s.pending := rfl
@[simp] theorem State.setQueue_copies (s : State) (q : Nat) (es : List Entry) : (s.setQueue q es).copies = s.copies := rfl
@[simp] theorem State.setQueue_hallData (s : State) (q : Nat) (es : List Entry) : (s.setQueue q es).hallData = s.hallData := rfl
@[simp] theorem State.setQueue_servedLast (s : State) (q : Nat) (es : List Entry) : (s.setQueue q es).servedLast = s.servedLast := rfl
@[simp] theorem State.setQueue_fgLast (s : State) (q : Nat) (es : List Entry) : (s.setQueue q es).fgLast = s.fgLast := rfl
@[simp] theorem State.setQueue_nonces (s : State) (q : Nat) (es : List Entry) : (s.setQueue q es).nonces = s.nonces := rfl

/-! ### setSess -/

@[simp] theorem State.setSess_now (s : State) (n : Nat) (x : Session) : (s.setSess n x).now = s.now := rfl
@[simp] theorem State.setSess_dev (s : State) (n : Nat) (x : Session) : (s.setSess n x).dev = s.dev := rfl
@[simp] theorem State.setSess_params (s : State) (n : Nat) (x : Session) : (s.setSess n x).params = s.params := rfl
@[simp] theorem State.setSess_larder (s : State) (n : Nat) (x : Session) : (s.setSess n x).larder = s.larder := rfl
@[simp] theorem State.setSess_eccErrs (s : State) (n : Nat) (x : Session) : (s.setSess n x).eccErrs = s.eccErrs := rfl
@[simp] theorem State.setSess_queues (s : State) (n : Nat) (x : Session) : (s.setSess n x).queues = s.queues := rfl
@[simp] theorem State.setSess_nextTag (s : State) (n : Nat) (x : Session) : (s.setSess n x).nextTag = s.nextTag := rfl
@[simp] theorem State.setSess_axes (s : State) (n : Nat) (x : Session) : (s.setSess n x).axes = s.axes := rfl
@[simp] theorem State.setSess_lanes (s : State) (n : Nat) (x : Session) : (s.setSess n x).lanes = s.lanes := rfl
@[simp] theorem State.setSess_records (s : State) (n : Nat) (x : Session) : (s.setSess n x).records = s.records := rfl
@[simp] theorem State.setSess_bridges (s : State) (n : Nat) (x : Session) : (s.setSess n x).bridges = s.bridges := rfl
@[simp] theorem State.setSess_links (s : State) (n : Nat) (x : Session) : (s.setSess n x).links = s.links := rfl
@[simp] theorem State.setSess_encs (s : State) (n : Nat) (x : Session) : (s.setSess n x).encs = s.encs := rfl
@[simp] theorem State.setSess_ress (s : State) (n : Nat) (x : Session) : (s.setSess n x).ress = s.ress := rfl
@[simp] theorem State.setSess_ssis (s : State) (n : Nat) (x : Session) : (s.setSess n x).ssis = s.ssis := rfl
@[simp] theorem State.setSess_chans (s : State) (n : Nat) (x : Session) : (s.setSess n x).chans = s.chans := rfl
@[simp] theorem State.setSess_cells (s : State) (n : Nat) (x : Session) : (s.setSess n x).cells = s.cells := rfl
@[simp] theorem State.setSess_cellar (s : State) (n : Nat) (x : Session) : (s.setSess n x).cellar = s.cellar := rfl
@[simp] theorem State.setSess_standing (s : State) (n : Nat) (x : Session) : (s.setSess n x).standing = s.standing := rfl
@[simp] theorem State.setSess_owner (s : State) (n : Nat) (x : Session) : (s.setSess n x).owner = s.owner := rfl
@[simp] theorem State.setSess_ops (s : State) (n : Nat) (x : Session) : (s.setSess n x).ops = s.ops := rfl
@[simp] theorem State.setSess_waiting (s : State) (n : Nat) (x : Session) : (s.setSess n x).waiting = s.waiting := rfl
@[simp] theorem State.setSess_snaps (s : State) (n : Nat) (x : Session) : (s.setSess n x).snaps = s.snaps := rfl
@[simp] theorem State.setSess_attic (s : State) (n : Nat) (x : Session) : (s.setSess n x).attic = s.attic := rfl
@[simp] theorem State.setSess_faultRing (s : State) (n : Nat) (x : Session) : (s.setSess n x).faultRing = s.faultRing := rfl
@[simp] theorem State.setSess_forager (s : State) (n : Nat) (x : Session) : (s.setSess n x).forager = s.forager := rfl
@[simp] theorem State.setSess_planeAt (s : State) (n : Nat) (x : Session) : (s.setSess n x).planeAt = s.planeAt := rfl
@[simp] theorem State.setSess_pubAt (s : State) (n : Nat) (x : Session) : (s.setSess n x).pubAt = s.pubAt := rfl
@[simp] theorem State.setSess_fanner (s : State) (n : Nat) (x : Session) : (s.setSess n x).fanner = s.fanner := rfl
@[simp] theorem State.setSess_ring (s : State) (n : Nat) (x : Session) : (s.setSess n x).ring = s.ring := rfl
@[simp] theorem State.setSess_swarm (s : State) (n : Nat) (x : Session) : (s.setSess n x).swarm = s.swarm := rfl
@[simp] theorem State.setSess_pantry (s : State) (n : Nat) (x : Session) : (s.setSess n x).pantry = s.pantry := rfl
@[simp] theorem State.setSess_service (s : State) (n : Nat) (x : Session) : (s.setSess n x).service = s.service := rfl
@[simp] theorem State.setSess_porch (s : State) (n : Nat) (x : Session) : (s.setSess n x).porch = s.porch := rfl
@[simp] theorem State.setSess_feeds (s : State) (n : Nat) (x : Session) : (s.setSess n x).feeds = s.feeds := rfl
@[simp] theorem State.setSess_spiOut (s : State) (n : Nat) (x : Session) : (s.setSess n x).spiOut = s.spiOut := rfl
@[simp] theorem State.setSess_config (s : State) (n : Nat) (x : Session) : (s.setSess n x).config = s.config := rfl
@[simp] theorem State.setSess_wear (s : State) (n : Nat) (x : Session) : (s.setSess n x).wear = s.wear := rfl
@[simp] theorem State.setSess_free (s : State) (n : Nat) (x : Session) : (s.setSess n x).free = s.free := rfl
@[simp] theorem State.setSess_pending (s : State) (n : Nat) (x : Session) : (s.setSess n x).pending = s.pending := rfl
@[simp] theorem State.setSess_copies (s : State) (n : Nat) (x : Session) : (s.setSess n x).copies = s.copies := rfl
@[simp] theorem State.setSess_hallData (s : State) (n : Nat) (x : Session) : (s.setSess n x).hallData = s.hallData := rfl
@[simp] theorem State.setSess_servedLast (s : State) (n : Nat) (x : Session) : (s.setSess n x).servedLast = s.servedLast := rfl
@[simp] theorem State.setSess_fgLast (s : State) (n : Nat) (x : Session) : (s.setSess n x).fgLast = s.fgLast := rfl
@[simp] theorem State.setSess_nonces (s : State) (n : Nat) (x : Session) : (s.setSess n x).nonces = s.nonces := rfl

/-! ### lwrite -/

@[simp] theorem State.lwrite_now (s : State) (a : Nat) (bs : Bytes) : (s.lwrite a bs).now = s.now := rfl
@[simp] theorem State.lwrite_dev (s : State) (a : Nat) (bs : Bytes) : (s.lwrite a bs).dev = s.dev := rfl
@[simp] theorem State.lwrite_params (s : State) (a : Nat) (bs : Bytes) : (s.lwrite a bs).params = s.params := rfl
@[simp] theorem State.lwrite_eccErrs (s : State) (a : Nat) (bs : Bytes) : (s.lwrite a bs).eccErrs = s.eccErrs := rfl
@[simp] theorem State.lwrite_queues (s : State) (a : Nat) (bs : Bytes) : (s.lwrite a bs).queues = s.queues := rfl
@[simp] theorem State.lwrite_nextTag (s : State) (a : Nat) (bs : Bytes) : (s.lwrite a bs).nextTag = s.nextTag := rfl
@[simp] theorem State.lwrite_axes (s : State) (a : Nat) (bs : Bytes) : (s.lwrite a bs).axes = s.axes := rfl
@[simp] theorem State.lwrite_lanes (s : State) (a : Nat) (bs : Bytes) : (s.lwrite a bs).lanes = s.lanes := rfl
@[simp] theorem State.lwrite_records (s : State) (a : Nat) (bs : Bytes) : (s.lwrite a bs).records = s.records := rfl
@[simp] theorem State.lwrite_bridges (s : State) (a : Nat) (bs : Bytes) : (s.lwrite a bs).bridges = s.bridges := rfl
@[simp] theorem State.lwrite_links (s : State) (a : Nat) (bs : Bytes) : (s.lwrite a bs).links = s.links := rfl
@[simp] theorem State.lwrite_encs (s : State) (a : Nat) (bs : Bytes) : (s.lwrite a bs).encs = s.encs := rfl
@[simp] theorem State.lwrite_ress (s : State) (a : Nat) (bs : Bytes) : (s.lwrite a bs).ress = s.ress := rfl
@[simp] theorem State.lwrite_ssis (s : State) (a : Nat) (bs : Bytes) : (s.lwrite a bs).ssis = s.ssis := rfl
@[simp] theorem State.lwrite_chans (s : State) (a : Nat) (bs : Bytes) : (s.lwrite a bs).chans = s.chans := rfl
@[simp] theorem State.lwrite_cells (s : State) (a : Nat) (bs : Bytes) : (s.lwrite a bs).cells = s.cells := rfl
@[simp] theorem State.lwrite_cellar (s : State) (a : Nat) (bs : Bytes) : (s.lwrite a bs).cellar = s.cellar := rfl
@[simp] theorem State.lwrite_standing (s : State) (a : Nat) (bs : Bytes) : (s.lwrite a bs).standing = s.standing := rfl
@[simp] theorem State.lwrite_sessions (s : State) (a : Nat) (bs : Bytes) : (s.lwrite a bs).sessions = s.sessions := rfl
@[simp] theorem State.lwrite_owner (s : State) (a : Nat) (bs : Bytes) : (s.lwrite a bs).owner = s.owner := rfl
@[simp] theorem State.lwrite_ops (s : State) (a : Nat) (bs : Bytes) : (s.lwrite a bs).ops = s.ops := rfl
@[simp] theorem State.lwrite_waiting (s : State) (a : Nat) (bs : Bytes) : (s.lwrite a bs).waiting = s.waiting := rfl
@[simp] theorem State.lwrite_snaps (s : State) (a : Nat) (bs : Bytes) : (s.lwrite a bs).snaps = s.snaps := rfl
@[simp] theorem State.lwrite_attic (s : State) (a : Nat) (bs : Bytes) : (s.lwrite a bs).attic = s.attic := rfl
@[simp] theorem State.lwrite_faultRing (s : State) (a : Nat) (bs : Bytes) : (s.lwrite a bs).faultRing = s.faultRing := rfl
@[simp] theorem State.lwrite_forager (s : State) (a : Nat) (bs : Bytes) : (s.lwrite a bs).forager = s.forager := rfl
@[simp] theorem State.lwrite_planeAt (s : State) (a : Nat) (bs : Bytes) : (s.lwrite a bs).planeAt = s.planeAt := rfl
@[simp] theorem State.lwrite_pubAt (s : State) (a : Nat) (bs : Bytes) : (s.lwrite a bs).pubAt = s.pubAt := rfl
@[simp] theorem State.lwrite_fanner (s : State) (a : Nat) (bs : Bytes) : (s.lwrite a bs).fanner = s.fanner := rfl
@[simp] theorem State.lwrite_ring (s : State) (a : Nat) (bs : Bytes) : (s.lwrite a bs).ring = s.ring := rfl
@[simp] theorem State.lwrite_swarm (s : State) (a : Nat) (bs : Bytes) : (s.lwrite a bs).swarm = s.swarm := rfl
@[simp] theorem State.lwrite_pantry (s : State) (a : Nat) (bs : Bytes) : (s.lwrite a bs).pantry = s.pantry := rfl
@[simp] theorem State.lwrite_service (s : State) (a : Nat) (bs : Bytes) : (s.lwrite a bs).service = s.service := rfl
@[simp] theorem State.lwrite_porch (s : State) (a : Nat) (bs : Bytes) : (s.lwrite a bs).porch = s.porch := rfl
@[simp] theorem State.lwrite_feeds (s : State) (a : Nat) (bs : Bytes) : (s.lwrite a bs).feeds = s.feeds := rfl
@[simp] theorem State.lwrite_spiOut (s : State) (a : Nat) (bs : Bytes) : (s.lwrite a bs).spiOut = s.spiOut := rfl
@[simp] theorem State.lwrite_config (s : State) (a : Nat) (bs : Bytes) : (s.lwrite a bs).config = s.config := rfl
@[simp] theorem State.lwrite_wear (s : State) (a : Nat) (bs : Bytes) : (s.lwrite a bs).wear = s.wear := rfl
@[simp] theorem State.lwrite_free (s : State) (a : Nat) (bs : Bytes) : (s.lwrite a bs).free = s.free := rfl
@[simp] theorem State.lwrite_pending (s : State) (a : Nat) (bs : Bytes) : (s.lwrite a bs).pending = s.pending := rfl
@[simp] theorem State.lwrite_copies (s : State) (a : Nat) (bs : Bytes) : (s.lwrite a bs).copies = s.copies := rfl
@[simp] theorem State.lwrite_hallData (s : State) (a : Nat) (bs : Bytes) : (s.lwrite a bs).hallData = s.hallData := rfl
@[simp] theorem State.lwrite_servedLast (s : State) (a : Nat) (bs : Bytes) : (s.lwrite a bs).servedLast = s.servedLast := rfl
@[simp] theorem State.lwrite_fgLast (s : State) (a : Nat) (bs : Bytes) : (s.lwrite a bs).fgLast = s.fgLast := rfl
@[simp] theorem State.lwrite_nonces (s : State) (a : Nat) (bs : Bytes) : (s.lwrite a bs).nonces = s.nonces := rfl

/-! ### What an update sets -/

@[simp] theorem State.clock_now (s : State) (t : Nat) : (s.clock t).now = max s.now t := rfl
@[simp] theorem State.par_setPar_same (s : State) (p : Par) (v : Int) (i j : Nat) : (s.setPar p v i j).par p i j = v := by
  simp [State.par, State.setPar]
theorem State.par_setPar_other (s : State) (p q : Par) (v : Int) (i j k l : Nat) (h : p.pn i j ≠ q.pn k l) :
    (s.setPar p v i j).par q k l = s.par q k l := by
  simp [State.par, State.setPar, tget_tset_other _ _ _ _ _ h]
@[simp] theorem State.ax_setAx_same (s : State) (k : Nat) (a : Axis) : (s.setAx k a).ax k = a := by
  simp [State.ax, State.setAx]
theorem State.ax_setAx_other (s : State) (k j : Nat) (a : Axis) (h : k ≠ j) : (s.setAx k a).ax j = s.ax j := by
  simp [State.ax, State.setAx, tget_tset_other _ _ _ _ _ h]
@[simp] theorem State.lane_setLane_same (s : State) (k : Nat) (x : Lane) : (s.setLane k x).lane k = x := by
  simp [State.lane, State.setLane]
theorem State.lane_setLane_other (s : State) (k j : Nat) (x : Lane) (h : k ≠ j) : (s.setLane k x).lane j = s.lane j := by
  simp [State.lane, State.setLane, tget_tset_other _ _ _ _ _ h]
@[simp] theorem State.bridge_setBridge_same (s : State) (k : Nat) (x : Bridge) : (s.setBridge k x).bridge k = x := by
  simp [State.bridge, State.setBridge]
theorem State.bridge_setBridge_other (s : State) (k j : Nat) (x : Bridge) (h : k ≠ j) : (s.setBridge k x).bridge j = s.bridge j := by
  simp [State.bridge, State.setBridge, tget_tset_other _ _ _ _ _ h]
@[simp] theorem State.link_setLink_same (s : State) (k : Nat) (x : Link) : (s.setLink k x).link k = x := by
  simp [State.link, State.setLink]
theorem State.link_setLink_other (s : State) (k j : Nat) (x : Link) (h : k ≠ j) : (s.setLink k x).link j = s.link j := by
  simp [State.link, State.setLink, tget_tset_other _ _ _ _ _ h]
@[simp] theorem State.chan_setChan_same (s : State) (k : Nat) (x : Chan) : (s.setChan k x).chan k = x := by
  simp [State.chan, State.setChan]
theorem State.chan_setChan_other (s : State) (k j : Nat) (x : Chan) (h : k ≠ j) : (s.setChan k x).chan j = s.chan j := by
  simp [State.chan, State.setChan, tget_tset_other _ _ _ _ _ h]
@[simp] theorem State.cell_setCell_same (s : State) (k : Nat) (x : Cell) : (s.setCell k x).cell k = x := by
  simp [State.cell, State.setCell]
theorem State.cell_setCell_other (s : State) (k j : Nat) (x : Cell) (h : k ≠ j) : (s.setCell k x).cell j = s.cell j := by
  simp [State.cell, State.setCell, tget_tset_other _ _ _ _ _ h]
@[simp] theorem State.enc_setEnc_same (s : State) (k : Nat) (x : Enc) : (s.setEnc k x).enc k = x := by
  simp [State.enc, State.setEnc]
theorem State.enc_setEnc_other (s : State) (k j : Nat) (x : Enc) (h : k ≠ j) : (s.setEnc k x).enc j = s.enc j := by
  simp [State.enc, State.setEnc, tget_tset_other _ _ _ _ _ h]
@[simp] theorem State.res_setRes_same (s : State) (k : Nat) (x : Res) : (s.setRes k x).res k = x := by
  simp [State.res, State.setRes]
theorem State.res_setRes_other (s : State) (k j : Nat) (x : Res) (h : k ≠ j) : (s.setRes k x).res j = s.res j := by
  simp [State.res, State.setRes, tget_tset_other _ _ _ _ _ h]
@[simp] theorem State.ssi_setSsi_same (s : State) (k : Nat) (x : Ssi) : (s.setSsi k x).ssi k = x := by
  simp [State.ssi, State.setSsi]
theorem State.ssi_setSsi_other (s : State) (k j : Nat) (x : Ssi) (h : k ≠ j) : (s.setSsi k x).ssi j = s.ssi j := by
  simp [State.ssi, State.setSsi, tget_tset_other _ _ _ _ _ h]
@[simp] theorem State.queue_setQueue_same (s : State) (k : Nat) (x : List Entry) : (s.setQueue k x).queue k = x := by
  simp [State.queue, State.setQueue]
theorem State.queue_setQueue_other (s : State) (k j : Nat) (x : List Entry) (h : k ≠ j) : (s.setQueue k x).queue j = s.queue j := by
  simp [State.queue, State.setQueue, tget_tset_other _ _ _ _ _ h]
@[simp] theorem State.sess_setSess_same (s : State) (k : Nat) (x : Session) : (s.setSess k x).sess k = x := by
  simp [State.sess, State.setSess]
theorem State.sess_setSess_other (s : State) (k j : Nat) (x : Session) (h : k ≠ j) : (s.setSess k x).sess j = s.sess j := by
  simp [State.sess, State.setSess, tget_tset_other _ _ _ _ _ h]
@[simp] theorem State.ax_modAx_same (s : State) (k : Nat) (f : Axis → Axis) : (s.modAx k f).ax k = f (s.ax k) := by
  simp [State.modAx]

/-! ### Readers after updates of other groups -/

@[simp] theorem State.ax_clock (s : State) (k : Nat) (t : Nat) : (s.clock t).ax k = s.ax k := rfl
@[simp] theorem State.ax_setPar (s : State) (k : Nat) (p : Par) (v : Int) (i j : Nat) : (s.setPar p v i j).ax k = s.ax k := rfl
@[simp] theorem State.ax_setLane (s : State) (k : Nat) (n : Nat) (l : Lane) : (s.setLane n l).ax k = s.ax k := rfl
@[simp] theorem State.ax_setBridge (s : State) (k : Nat) (b : Nat) (x : Bridge) : (s.setBridge b x).ax k = s.ax k := rfl
@[simp] theorem State.ax_setLink (s : State) (k : Nat) (m : Nat) (x : Link) : (s.setLink m x).ax k = s.ax k := rfl
@[simp] theorem State.ax_setChan (s : State) (k : Nat) (c : Nat) (x : Chan) : (s.setChan c x).ax k = s.ax k := rfl
@[simp] theorem State.ax_setCell (s : State) (k : Nat) (g : Nat) (x : Cell) : (s.setCell g x).ax k = s.ax k := rfl
@[simp] theorem State.ax_setEnc (s : State) (k : Nat) (m : Nat) (x : Enc) : (s.setEnc m x).ax k = s.ax k := rfl
@[simp] theorem State.ax_setRes (s : State) (k : Nat) (m : Nat) (x : Res) : (s.setRes m x).ax k = s.ax k := rfl
@[simp] theorem State.ax_setSsi (s : State) (k : Nat) (m : Nat) (x : Ssi) : (s.setSsi m x).ax k = s.ax k := rfl
@[simp] theorem State.ax_setQueue (s : State) (k : Nat) (q : Nat) (es : List Entry) : (s.setQueue q es).ax k = s.ax k := rfl
@[simp] theorem State.ax_setSess (s : State) (k : Nat) (n : Nat) (x : Session) : (s.setSess n x).ax k = s.ax k := rfl
@[simp] theorem State.ax_lwrite (s : State) (k : Nat) (a : Nat) (bs : Bytes) : (s.lwrite a bs).ax k = s.ax k := rfl
@[simp] theorem State.lane_clock (s : State) (k : Nat) (t : Nat) : (s.clock t).lane k = s.lane k := rfl
@[simp] theorem State.lane_setPar (s : State) (k : Nat) (p : Par) (v : Int) (i j : Nat) : (s.setPar p v i j).lane k = s.lane k := rfl
@[simp] theorem State.lane_setAx (s : State) (k : Nat) (m : Nat) (a : Axis) : (s.setAx m a).lane k = s.lane k := rfl
@[simp] theorem State.lane_modAx (s : State) (k : Nat) (m : Nat) (f : Axis → Axis) : (s.modAx m f).lane k = s.lane k := rfl
@[simp] theorem State.lane_setBridge (s : State) (k : Nat) (b : Nat) (x : Bridge) : (s.setBridge b x).lane k = s.lane k := rfl
@[simp] theorem State.lane_setLink (s : State) (k : Nat) (m : Nat) (x : Link) : (s.setLink m x).lane k = s.lane k := rfl
@[simp] theorem State.lane_setChan (s : State) (k : Nat) (c : Nat) (x : Chan) : (s.setChan c x).lane k = s.lane k := rfl
@[simp] theorem State.lane_setCell (s : State) (k : Nat) (g : Nat) (x : Cell) : (s.setCell g x).lane k = s.lane k := rfl
@[simp] theorem State.lane_setEnc (s : State) (k : Nat) (m : Nat) (x : Enc) : (s.setEnc m x).lane k = s.lane k := rfl
@[simp] theorem State.lane_setRes (s : State) (k : Nat) (m : Nat) (x : Res) : (s.setRes m x).lane k = s.lane k := rfl
@[simp] theorem State.lane_setSsi (s : State) (k : Nat) (m : Nat) (x : Ssi) : (s.setSsi m x).lane k = s.lane k := rfl
@[simp] theorem State.lane_setQueue (s : State) (k : Nat) (q : Nat) (es : List Entry) : (s.setQueue q es).lane k = s.lane k := rfl
@[simp] theorem State.lane_setSess (s : State) (k : Nat) (n : Nat) (x : Session) : (s.setSess n x).lane k = s.lane k := rfl
@[simp] theorem State.lane_lwrite (s : State) (k : Nat) (a : Nat) (bs : Bytes) : (s.lwrite a bs).lane k = s.lane k := rfl
@[simp] theorem State.bridge_clock (s : State) (k : Nat) (t : Nat) : (s.clock t).bridge k = s.bridge k := rfl
@[simp] theorem State.bridge_setPar (s : State) (k : Nat) (p : Par) (v : Int) (i j : Nat) : (s.setPar p v i j).bridge k = s.bridge k := rfl
@[simp] theorem State.bridge_setAx (s : State) (k : Nat) (m : Nat) (a : Axis) : (s.setAx m a).bridge k = s.bridge k := rfl
@[simp] theorem State.bridge_modAx (s : State) (k : Nat) (m : Nat) (f : Axis → Axis) : (s.modAx m f).bridge k = s.bridge k := rfl
@[simp] theorem State.bridge_setLane (s : State) (k : Nat) (n : Nat) (l : Lane) : (s.setLane n l).bridge k = s.bridge k := rfl
@[simp] theorem State.bridge_setLink (s : State) (k : Nat) (m : Nat) (x : Link) : (s.setLink m x).bridge k = s.bridge k := rfl
@[simp] theorem State.bridge_setChan (s : State) (k : Nat) (c : Nat) (x : Chan) : (s.setChan c x).bridge k = s.bridge k := rfl
@[simp] theorem State.bridge_setCell (s : State) (k : Nat) (g : Nat) (x : Cell) : (s.setCell g x).bridge k = s.bridge k := rfl
@[simp] theorem State.bridge_setEnc (s : State) (k : Nat) (m : Nat) (x : Enc) : (s.setEnc m x).bridge k = s.bridge k := rfl
@[simp] theorem State.bridge_setRes (s : State) (k : Nat) (m : Nat) (x : Res) : (s.setRes m x).bridge k = s.bridge k := rfl
@[simp] theorem State.bridge_setSsi (s : State) (k : Nat) (m : Nat) (x : Ssi) : (s.setSsi m x).bridge k = s.bridge k := rfl
@[simp] theorem State.bridge_setQueue (s : State) (k : Nat) (q : Nat) (es : List Entry) : (s.setQueue q es).bridge k = s.bridge k := rfl
@[simp] theorem State.bridge_setSess (s : State) (k : Nat) (n : Nat) (x : Session) : (s.setSess n x).bridge k = s.bridge k := rfl
@[simp] theorem State.bridge_lwrite (s : State) (k : Nat) (a : Nat) (bs : Bytes) : (s.lwrite a bs).bridge k = s.bridge k := rfl
@[simp] theorem State.link_clock (s : State) (k : Nat) (t : Nat) : (s.clock t).link k = s.link k := rfl
@[simp] theorem State.link_setPar (s : State) (k : Nat) (p : Par) (v : Int) (i j : Nat) : (s.setPar p v i j).link k = s.link k := rfl
@[simp] theorem State.link_setAx (s : State) (k : Nat) (m : Nat) (a : Axis) : (s.setAx m a).link k = s.link k := rfl
@[simp] theorem State.link_modAx (s : State) (k : Nat) (m : Nat) (f : Axis → Axis) : (s.modAx m f).link k = s.link k := rfl
@[simp] theorem State.link_setLane (s : State) (k : Nat) (n : Nat) (l : Lane) : (s.setLane n l).link k = s.link k := rfl
@[simp] theorem State.link_setBridge (s : State) (k : Nat) (b : Nat) (x : Bridge) : (s.setBridge b x).link k = s.link k := rfl
@[simp] theorem State.link_setChan (s : State) (k : Nat) (c : Nat) (x : Chan) : (s.setChan c x).link k = s.link k := rfl
@[simp] theorem State.link_setCell (s : State) (k : Nat) (g : Nat) (x : Cell) : (s.setCell g x).link k = s.link k := rfl
@[simp] theorem State.link_setEnc (s : State) (k : Nat) (m : Nat) (x : Enc) : (s.setEnc m x).link k = s.link k := rfl
@[simp] theorem State.link_setRes (s : State) (k : Nat) (m : Nat) (x : Res) : (s.setRes m x).link k = s.link k := rfl
@[simp] theorem State.link_setSsi (s : State) (k : Nat) (m : Nat) (x : Ssi) : (s.setSsi m x).link k = s.link k := rfl
@[simp] theorem State.link_setQueue (s : State) (k : Nat) (q : Nat) (es : List Entry) : (s.setQueue q es).link k = s.link k := rfl
@[simp] theorem State.link_setSess (s : State) (k : Nat) (n : Nat) (x : Session) : (s.setSess n x).link k = s.link k := rfl
@[simp] theorem State.link_lwrite (s : State) (k : Nat) (a : Nat) (bs : Bytes) : (s.lwrite a bs).link k = s.link k := rfl
@[simp] theorem State.chan_clock (s : State) (k : Nat) (t : Nat) : (s.clock t).chan k = s.chan k := rfl
@[simp] theorem State.chan_setPar (s : State) (k : Nat) (p : Par) (v : Int) (i j : Nat) : (s.setPar p v i j).chan k = s.chan k := rfl
@[simp] theorem State.chan_setAx (s : State) (k : Nat) (m : Nat) (a : Axis) : (s.setAx m a).chan k = s.chan k := rfl
@[simp] theorem State.chan_modAx (s : State) (k : Nat) (m : Nat) (f : Axis → Axis) : (s.modAx m f).chan k = s.chan k := rfl
@[simp] theorem State.chan_setLane (s : State) (k : Nat) (n : Nat) (l : Lane) : (s.setLane n l).chan k = s.chan k := rfl
@[simp] theorem State.chan_setBridge (s : State) (k : Nat) (b : Nat) (x : Bridge) : (s.setBridge b x).chan k = s.chan k := rfl
@[simp] theorem State.chan_setLink (s : State) (k : Nat) (m : Nat) (x : Link) : (s.setLink m x).chan k = s.chan k := rfl
@[simp] theorem State.chan_setCell (s : State) (k : Nat) (g : Nat) (x : Cell) : (s.setCell g x).chan k = s.chan k := rfl
@[simp] theorem State.chan_setEnc (s : State) (k : Nat) (m : Nat) (x : Enc) : (s.setEnc m x).chan k = s.chan k := rfl
@[simp] theorem State.chan_setRes (s : State) (k : Nat) (m : Nat) (x : Res) : (s.setRes m x).chan k = s.chan k := rfl
@[simp] theorem State.chan_setSsi (s : State) (k : Nat) (m : Nat) (x : Ssi) : (s.setSsi m x).chan k = s.chan k := rfl
@[simp] theorem State.chan_setQueue (s : State) (k : Nat) (q : Nat) (es : List Entry) : (s.setQueue q es).chan k = s.chan k := rfl
@[simp] theorem State.chan_setSess (s : State) (k : Nat) (n : Nat) (x : Session) : (s.setSess n x).chan k = s.chan k := rfl
@[simp] theorem State.chan_lwrite (s : State) (k : Nat) (a : Nat) (bs : Bytes) : (s.lwrite a bs).chan k = s.chan k := rfl
@[simp] theorem State.cell_clock (s : State) (k : Nat) (t : Nat) : (s.clock t).cell k = s.cell k := rfl
@[simp] theorem State.cell_setPar (s : State) (k : Nat) (p : Par) (v : Int) (i j : Nat) : (s.setPar p v i j).cell k = s.cell k := rfl
@[simp] theorem State.cell_setAx (s : State) (k : Nat) (m : Nat) (a : Axis) : (s.setAx m a).cell k = s.cell k := rfl
@[simp] theorem State.cell_modAx (s : State) (k : Nat) (m : Nat) (f : Axis → Axis) : (s.modAx m f).cell k = s.cell k := rfl
@[simp] theorem State.cell_setLane (s : State) (k : Nat) (n : Nat) (l : Lane) : (s.setLane n l).cell k = s.cell k := rfl
@[simp] theorem State.cell_setBridge (s : State) (k : Nat) (b : Nat) (x : Bridge) : (s.setBridge b x).cell k = s.cell k := rfl
@[simp] theorem State.cell_setLink (s : State) (k : Nat) (m : Nat) (x : Link) : (s.setLink m x).cell k = s.cell k := rfl
@[simp] theorem State.cell_setChan (s : State) (k : Nat) (c : Nat) (x : Chan) : (s.setChan c x).cell k = s.cell k := rfl
@[simp] theorem State.cell_setEnc (s : State) (k : Nat) (m : Nat) (x : Enc) : (s.setEnc m x).cell k = s.cell k := rfl
@[simp] theorem State.cell_setRes (s : State) (k : Nat) (m : Nat) (x : Res) : (s.setRes m x).cell k = s.cell k := rfl
@[simp] theorem State.cell_setSsi (s : State) (k : Nat) (m : Nat) (x : Ssi) : (s.setSsi m x).cell k = s.cell k := rfl
@[simp] theorem State.cell_setQueue (s : State) (k : Nat) (q : Nat) (es : List Entry) : (s.setQueue q es).cell k = s.cell k := rfl
@[simp] theorem State.cell_setSess (s : State) (k : Nat) (n : Nat) (x : Session) : (s.setSess n x).cell k = s.cell k := rfl
@[simp] theorem State.cell_lwrite (s : State) (k : Nat) (a : Nat) (bs : Bytes) : (s.lwrite a bs).cell k = s.cell k := rfl
@[simp] theorem State.sess_clock (s : State) (k : Nat) (t : Nat) : (s.clock t).sess k = s.sess k := rfl
@[simp] theorem State.sess_setPar (s : State) (k : Nat) (p : Par) (v : Int) (i j : Nat) : (s.setPar p v i j).sess k = s.sess k := rfl
@[simp] theorem State.sess_setAx (s : State) (k : Nat) (m : Nat) (a : Axis) : (s.setAx m a).sess k = s.sess k := rfl
@[simp] theorem State.sess_modAx (s : State) (k : Nat) (m : Nat) (f : Axis → Axis) : (s.modAx m f).sess k = s.sess k := rfl
@[simp] theorem State.sess_setLane (s : State) (k : Nat) (n : Nat) (l : Lane) : (s.setLane n l).sess k = s.sess k := rfl
@[simp] theorem State.sess_setBridge (s : State) (k : Nat) (b : Nat) (x : Bridge) : (s.setBridge b x).sess k = s.sess k := rfl
@[simp] theorem State.sess_setLink (s : State) (k : Nat) (m : Nat) (x : Link) : (s.setLink m x).sess k = s.sess k := rfl
@[simp] theorem State.sess_setChan (s : State) (k : Nat) (c : Nat) (x : Chan) : (s.setChan c x).sess k = s.sess k := rfl
@[simp] theorem State.sess_setCell (s : State) (k : Nat) (g : Nat) (x : Cell) : (s.setCell g x).sess k = s.sess k := rfl
@[simp] theorem State.sess_setEnc (s : State) (k : Nat) (m : Nat) (x : Enc) : (s.setEnc m x).sess k = s.sess k := rfl
@[simp] theorem State.sess_setRes (s : State) (k : Nat) (m : Nat) (x : Res) : (s.setRes m x).sess k = s.sess k := rfl
@[simp] theorem State.sess_setSsi (s : State) (k : Nat) (m : Nat) (x : Ssi) : (s.setSsi m x).sess k = s.sess k := rfl
@[simp] theorem State.sess_setQueue (s : State) (k : Nat) (q : Nat) (es : List Entry) : (s.setQueue q es).sess k = s.sess k := rfl
@[simp] theorem State.sess_lwrite (s : State) (k : Nat) (a : Nat) (bs : Bytes) : (s.lwrite a bs).sess k = s.sess k := rfl
@[simp] theorem State.queue_clock (s : State) (k : Nat) (t : Nat) : (s.clock t).queue k = s.queue k := rfl
@[simp] theorem State.queue_setPar (s : State) (k : Nat) (p : Par) (v : Int) (i j : Nat) : (s.setPar p v i j).queue k = s.queue k := rfl
@[simp] theorem State.queue_setAx (s : State) (k : Nat) (m : Nat) (a : Axis) : (s.setAx m a).queue k = s.queue k := rfl
@[simp] theorem State.queue_modAx (s : State) (k : Nat) (m : Nat) (f : Axis → Axis) : (s.modAx m f).queue k = s.queue k := rfl
@[simp] theorem State.queue_setLane (s : State) (k : Nat) (n : Nat) (l : Lane) : (s.setLane n l).queue k = s.queue k := rfl
@[simp] theorem State.queue_setBridge (s : State) (k : Nat) (b : Nat) (x : Bridge) : (s.setBridge b x).queue k = s.queue k := rfl
@[simp] theorem State.queue_setLink (s : State) (k : Nat) (m : Nat) (x : Link) : (s.setLink m x).queue k = s.queue k := rfl
@[simp] theorem State.queue_setChan (s : State) (k : Nat) (c : Nat) (x : Chan) : (s.setChan c x).queue k = s.queue k := rfl
@[simp] theorem State.queue_setCell (s : State) (k : Nat) (g : Nat) (x : Cell) : (s.setCell g x).queue k = s.queue k := rfl
@[simp] theorem State.queue_setEnc (s : State) (k : Nat) (m : Nat) (x : Enc) : (s.setEnc m x).queue k = s.queue k := rfl
@[simp] theorem State.queue_setRes (s : State) (k : Nat) (m : Nat) (x : Res) : (s.setRes m x).queue k = s.queue k := rfl
@[simp] theorem State.queue_setSsi (s : State) (k : Nat) (m : Nat) (x : Ssi) : (s.setSsi m x).queue k = s.queue k := rfl
@[simp] theorem State.queue_setSess (s : State) (k : Nat) (n : Nat) (x : Session) : (s.setSess n x).queue k = s.queue k := rfl
@[simp] theorem State.queue_lwrite (s : State) (k : Nat) (a : Nat) (bs : Bytes) : (s.lwrite a bs).queue k = s.queue k := rfl
@[simp] theorem State.par_clock (s : State) (p : Par) (i j : Nat) (t : Nat) : (s.clock t).par p i j = s.par p i j := rfl
@[simp] theorem State.par_setAx (s : State) (p : Par) (i j : Nat) (m : Nat) (a : Axis) : (s.setAx m a).par p i j = s.par p i j := rfl
@[simp] theorem State.par_modAx (s : State) (p : Par) (i j : Nat) (m : Nat) (f : Axis → Axis) : (s.modAx m f).par p i j = s.par p i j := rfl
@[simp] theorem State.par_setLane (s : State) (p : Par) (i j : Nat) (n : Nat) (l : Lane) : (s.setLane n l).par p i j = s.par p i j := rfl
@[simp] theorem State.par_setBridge (s : State) (p : Par) (i j : Nat) (b : Nat) (x : Bridge) : (s.setBridge b x).par p i j = s.par p i j := rfl
@[simp] theorem State.par_setLink (s : State) (p : Par) (i j : Nat) (m : Nat) (x : Link) : (s.setLink m x).par p i j = s.par p i j := rfl
@[simp] theorem State.par_setChan (s : State) (p : Par) (i j : Nat) (c : Nat) (x : Chan) : (s.setChan c x).par p i j = s.par p i j := rfl
@[simp] theorem State.par_setCell (s : State) (p : Par) (i j : Nat) (g : Nat) (x : Cell) : (s.setCell g x).par p i j = s.par p i j := rfl
@[simp] theorem State.par_setEnc (s : State) (p : Par) (i j : Nat) (m : Nat) (x : Enc) : (s.setEnc m x).par p i j = s.par p i j := rfl
@[simp] theorem State.par_setRes (s : State) (p : Par) (i j : Nat) (m : Nat) (x : Res) : (s.setRes m x).par p i j = s.par p i j := rfl
@[simp] theorem State.par_setSsi (s : State) (p : Par) (i j : Nat) (m : Nat) (x : Ssi) : (s.setSsi m x).par p i j = s.par p i j := rfl
@[simp] theorem State.par_setQueue (s : State) (p : Par) (i j : Nat) (q : Nat) (es : List Entry) : (s.setQueue q es).par p i j = s.par p i j := rfl
@[simp] theorem State.par_setSess (s : State) (p : Par) (i j : Nat) (n : Nat) (x : Session) : (s.setSess n x).par p i j = s.par p i j := rfl
@[simp] theorem State.par_lwrite (s : State) (p : Par) (i j : Nat) (a : Nat) (bs : Bytes) : (s.lwrite a bs).par p i j = s.par p i j := rfl

end Sys2Proof.Machine
end

