-- ==== Sys2Proof/Safety.lean ====
section
/-!
DEFINITION. The terms in which statements speak of a run: a command that completes with an effect, and what a safe state is:
no gate channel of a held-off cell is commanded on (R21, R384), and the Larder lists its bytes in canonical form (log entry 7).
-/
namespace Sys2Proof.Machine

/-- A command completes in a state, and the next state has a property. -/
def Does (c : Instr) (s : State) (p : State → Prop) : Prop := ∃ t, exec c s = .next t ∧ p t

/-- No channel of a held-off cell is commanded on. -/
def State.HeldSafe (s : State) : Prop := ∀ c, c < 26 → s.heldOff (c / 2) = true → (s.chan c).cmd = false

/-- The Larder is in its canonical form. -/
def State.LarderWf (s : State) : Prop := memWf 0#8 s.larder = true

/-- A fault of a code stands on an instance. -/
def State.Stands (s : State) (code inst : Nat) : Prop := s.stands code inst = true

/-- An axis has taken no trigger of Table 2.5 in a control period that still lasts at a time (R60): the next one is taken. -/
def State.freeTurn (s : State) (τ k : Nat) : Bool := (s.ax k).turn.all fun t => decide (t.till ≤ τ)

/-- One byte of the Larder. -/
def State.byteAt (s : State) (a : Nat) : Byte := memGet 0#8 s.larder a

/-! ### Packets (Table 11.3) -/

/-- The oldest packet of a transport is p, a packet of a row that passes steps 1 to 6 of Table 11.3 as a command of session n. -/
structure State.Offers (s : State) (tp : Transport) (c : Cmd) (n : Nat) (p : Pkt) : Prop where
  taken : s.mayServe tp = true
  front : ∃ bs o, (s.front tp).1 = some (bs, o) ∧ p = parsePkt bs ∧ 8 ≤ bs.length ∧ s.headCheck o bs = none
  opcode : p.op = c.op
  row : c.sub p = true
  session : p.sess = n ∧ c.op ≠ 0x01
  tag : (s.sess n).tagOk p = true
  sequence : p.seq = (s.sess n).nextSeq

/-- It passes steps 7 to 9 too: length, ownership for a write, and the device state. -/
structure State.Accepts (s : State) (tp : Transport) (c : Cmd) (n : Nat) (p : Pkt) : Prop where
  offers : s.Offers tp c n p
  length : c.len p = true
  owner : c.cls = .write → s.owner.session = n
  state : c.states.contains s.dev.st = true

/-- Session n's command p has been answered with these payloads, and its sequence number is used up. -/
def State.Answers (s t : State) (n : Nat) (p : Pkt) (payloads : List Bytes) : Prop :=
  ((t.sess n).retained.head?.map fun r => (r.seq, r.packets)) = some (p.seq, replyPackets p.op n p.seq (s.sess n).tagKey payloads) ∧ (t.sess n).nextSeq = (p.seq + 1) % 65536

/-- It has been answered with a status alone. -/
def State.AnswersStatus (s t : State) (n : Nat) (p : Pkt) (status : Nat) : Prop := s.Answers t n p [leBytes 1 status]

/-- The command packets of open sessions: each row with its opcode. -/
def PacketRow (τ : Nat) (tp : Transport) (i : Instr) (c : Cmd) : Prop :=
  (i = .closeSession τ tp ∧ c = cmdClose) ∨ (i = .heartbeat τ tp ∧ c = cmdHeartbeat) ∨ (i = .claim τ tp ∧ c = cmdClaim) ∨
  (i = .release τ tp ∧ c = cmdRelease) ∨ (i = .handover τ tp ∧ c = cmdHandover) ∨ (i = .getParams τ tp ∧ c = cmdGet) ∨
  (i = .setParams τ tp ∧ c = cmdSet) ∨ (i = .getBlock τ tp ∧ c = cmdGetBlock) ∨ (i = .setBlock τ tp ∧ c = cmdSetBlock) ∨
  (i = .snapshot τ tp ∧ c = cmdSnapshot) ∨ (i = .enable τ tp ∧ c = cmdEnable) ∨ (i = .disable τ tp ∧ c = cmdDisable) ∨
  (i = .setpoint τ tp ∧ c = cmdSetpoint) ∨ (i = .modeDevice τ tp ∧ c = cmdModeDevice) ∨ (i = .modeAxis τ tp ∧ c = cmdModeAxis) ∨
  (i = .precheck τ tp ∧ c = cmdPrecheck) ∨ (i = .quickstop τ tp ∧ c = cmdQuickstop) ∨ (i = .faultClearAxis τ tp ∧ c = cmdFaultClearAxis) ∨
  (i = .faultClearDevice τ tp ∧ c = cmdFaultClearDevice) ∨ (i = .subscribe τ tp ∧ c = cmdSubscribe) ∨ (i = .unsubscribe τ tp ∧ c = cmdUnsubscribe) ∨
  (i = .foragerLoad τ tp ∧ c = cmdForagerLoad) ∨ (i = .foragerStart τ tp ∧ c = cmdForagerStart) ∨ (i = .foragerStop τ tp ∧ c = cmdForagerStop) ∨
  (i = .pantryDisarm τ tp ∧ c = cmdPantryDisarm) ∨ (i = .pantryArm τ tp ∧ c = cmdPantryArm) ∨ (i = .pantryTrigger τ tp ∧ c = cmdPantryTrigger) ∨
  (∃ ded, i = .pantryRead τ tp ded ∧ c = cmdPantryRead ded) ∨ (i = .atticRead τ tp ∧ c = cmdAtticRead) ∨ (i = .atticWrite τ tp ∧ c = cmdAtticWrite) ∨
  (i = .atticJournal τ tp ∧ c = cmdAtticJournal) ∨ (i = .imageLoad τ tp ∧ c = cmdImageLoad) ∨ (i = .imageVerify τ tp ∧ c = cmdImageVerify) ∨
  (i = .imageSwitch τ tp ∧ c = cmdImageSwitch) ∨ (i = .recal τ tp ∧ c = cmdRecal) ∨ (i = .laneSwap τ tp ∧ c = cmdLaneSwap) ∨
  (i = .hiveLeave τ tp ∧ c = cmdHiveLeave) ∨ (i = .hiveJoin τ tp ∧ c = cmdHiveJoin) ∨ (i = .softReset τ tp ∧ c = cmdSoftReset)

/-! ### Forager (R609, R613) -/

/-- Channel c is about to execute the instruction of words w1 and w2 at its PC, with room for two words and no word of `ded` in it. -/
structure State.FgAt (s : State) (c : Nat) (ded : List Nat) (w1 w2 : Nat) : Prop where
  channel : 4 ≤ c ∧ c < 16
  running : s.parN P.fgState c = 1
  idle : (s.fg c).run = none ∧ (s.fg c).stopping = false
  granted : s.fgGranted c = true
  room : s.parN P.fgPc c + 8 < 4096
  first : leNat (s.lread (programBase c + s.parN P.fgPc c) 4) = w1
  second : leNat (s.lread (programBase c + s.parN P.fgPc c + 4) 4) = w2
  sound : s.badWord ded (programBase c + s.parN P.fgPc c) 8 = none

/-- Channel c has halted with a status of Table 15.8, its PC unchanged. -/
def State.FgHalted (s t : State) (c status : Nat) : Prop := t.par P.fgState c = 4 ∧ t.par P.fgStatus c = status ∧ t.par P.fgPc c = s.par P.fgPc c

/-- A command that may begin a BOOT or take the module to OFF, where every register goes back to its cold value (R70, R79, R729). -/
def Restarts (i : Instr) : Prop :=
  (∃ τ, i = .powerOnResetRelease τ) ∨ (∃ τ, i = .bootSelfTestRetry τ) ∨ (∃ τ, i = .bootAfterReply τ) ∨ (∃ τ, i = .testLogicReset τ) ∨
  (∃ τ, i = .brownOut τ) ∨ (∃ x, i = .extest x) ∨ (∃ x, i = .clamp x) ∨ ∃ x, i = .highz x

/-! ### Rows of the table of operations -/

/-- The mnemonic of a command's row. -/
def mnemonicOf (i : Instr) : String :=
  match i with
  | .powerOnResetRelease _ => "POWER_ON_RESET_RELEASE"
  | .brownOut _ => "BROWN_OUT"
  | .crystalQualified _ => "CRYSTAL_QUALIFIED"
  | .crystalTimeout _ _ => "CRYSTAL_TIMEOUT"
  | .pllLocked _ => "PLL_LOCKED"
  | .cellarSelfTest _ => "CELLAR_SELF_TEST"
  | .atticLoad _ _ => "ATTIC_LOAD"
  | .larderInit _ _ => "LARDER_INIT"
  | .wingSelection _ _ => "WING_SELECTION"
  | .imageCrcCheck _ => "IMAGE_CRC_CHECK"
  | .lockstepSelfTest _ _ _ => "LOCKSTEP_SELF_TEST"
  | .bootSelfTestRetry _ => "BOOT_SELF_TEST_RETRY"
  | .configLoad _ _ _ => "CONFIG_LOAD"
  | .cellLinkTraining _ _ _ _ => "CELL_LINK_TRAINING"
  | .bootAfterReply _ => "BOOT_AFTER_REPLY"
  | .referenceLost _ => "REFERENCE_LOST"
  | .crystalBack _ => "CRYSTAL_BACK"
  | .clockCheckWindow _ _ => "CLOCK_CHECK_WINDOW"
  | .firmwareFault _ _ => "FIRMWARE_FAULT"
  | .pairRestart _ _ => "PAIR_RESTART"
  | .cellarCoreRestart _ => "CELLAR_CORE_RESTART"
  | .sampleEvent _ _ _ _ _ => "SAMPLE_EVENT"
  | .shadowDeadline _ _ => "SHADOW_DEADLINE"
  | .edgeDispatch _ _ => "EDGE_DISPATCH"
  | .laneMismatch _ _ _ => "LANE_MISMATCH"
  | .laneSelfTest _ _ _ => "LANE_SELF_TEST"
  | .houseSilent _ _ => "HOUSE_SILENT"
  | .bridgeImbalance _ _ => "BRIDGE_IMBALANCE"
  | .senseRefCheck _ _ _ _ => "SENSE_REF_CHECK"
  | .selfTriggerConversion _ _ _ _ => "SELF_TRIGGER_CONVERSION"
  | .senseSum _ _ => "SENSE_SUM"
  | .senseOffset _ _ _ => "SENSE_OFFSET"
  | .vdcDisagree _ _ => "VDC_DISAGREE"
  | .phaseOc _ _ _ => "PHASE_OC"
  | .sdStream _ _ _ => "SD_STREAM"
  | .fusionSelfTimed _ _ => "FUSION_SELF_TIMED"
  | .sourceDropped _ _ _ => "SOURCE_DROPPED"
  | .sourceReadmitted _ _ _ => "SOURCE_READMITTED"
  | .waggleReversal _ _ => "WAGGLE_REVERSAL"
  | .scoutSettleTimeout _ _ => "SCOUT_SETTLE_TIMEOUT"
  | .polarityPulseEnd _ _ _ => "POLARITY_PULSE_END"
  | .currentDecayed _ _ _ => "CURRENT_DECAYED"
  | .scoutBackCheckEnd _ _ => "SCOUT_BACK_CHECK_END"
  | .catchLock _ _ => "CATCH_LOCK"
  | .catchNoEmf _ _ => "CATCH_NO_EMF"
  | .catchAttemptTimeout _ _ => "CATCH_ATTEMPT_TIMEOUT"
  | .catchUsedReset _ _ => "CATCH_USED_RESET"
  | .limpCrossingTimeout _ _ => "LIMP_CROSSING_TIMEOUT"
  | .limpReturn _ _ => "LIMP_RETURN"
  | .encTransition _ _ _ _ _ _ _ => "ENC_TRANSITION"
  | .fbLine _ _ _ _ => "FB_LINE"
  | .indexEvent _ _ _ => "INDEX_EVENT"
  | .indexMissed _ _ => "INDEX_MISSED"
  | .encStandstill _ _ => "ENC_STANDSTILL"
  | .feedbackSelfSample _ _ => "FEEDBACK_SELF_SAMPLE"
  | .resolverSamplePair _ _ _ _ _ => "RESOLVER_SAMPLE_PAIR"
  | .resExc _ _ => "RES_EXC"
  | .resExcRestart _ _ => "RES_EXC_RESTART"
  | .ssiFrameStart _ _ _ => "SSI_FRAME_START"
  | .ssiStartTimeout _ _ => "SSI_START_TIMEOUT"
  | .ssiFrameCheck _ _ _ _ => "SSI_FRAME_CHECK"
  | .fbReturn _ _ => "FB_RETURN"
  | .speedLoopTick _ _ => "SPEED_LOOP_TICK"
  | .snatchDwellEnd _ _ => "SNATCH_DWELL_END"
  | .vented _ _ => "VENTED"
  | .ventedEnd _ _ => "VENTED_END"
  | .standstillReached _ _ => "STANDSTILL_REACHED"
  | .chopMinOnEnd _ _ => "CHOP_MIN_ON_END"
  | .chopEnergyUpdate _ => "CHOP_ENERGY_UPDATE"
  | .linkUv _ _ => "LINK_UV"
  | .ecSample _ _ _ _ _ => "EC_SAMPLE"
  | .ecLost _ _ => "EC_LOST"
  | .ecBack _ _ => "EC_BACK"
  | .ringCycleStart _ => "RING_CYCLE_START"
  | .trayReceived _ _ _ _ => "TRAY_RECEIVED"
  | .viewClose _ => "VIEW_CLOSE"
  | .ringDelayRequest _ _ _ _ _ => "RING_DELAY_REQUEST"
  | .ringDelayResponse _ _ _ _ _ _ => "RING_DELAY_RESPONSE"
  | .pairDown _ _ _ => "PAIR_DOWN"
  | .pairUp _ _ _ => "PAIR_UP"
  | .portReady _ _ => "PORT_READY"
  | .cycleMasterTakeover _ => "CYCLE_MASTER_TAKEOVER"
  | .ringLost _ => "RING_LOST"
  | .memberJoining _ => "MEMBER_JOINING"
  | .joinRampEnd _ => "JOIN_RAMP_END"
  | .leaveRampEnd _ => "LEAVE_RAMP_END"
  | .hiveEnWrite _ _ => "HIVE_EN_WRITE"
  | .desat _ _ => "DESAT"
  | .softOffLevelEnd _ _ => "SOFT_OFF_LEVEL_END"
  | .gateOffDetected _ _ => "GATE_OFF_DETECTED"
  | .gateStageChange _ _ _ _ => "GATE_STAGE_CHANGE"
  | .deadTimeExpired _ _ => "DEAD_TIME_EXPIRED"
  | .gateStuck _ _ => "GATE_STUCK"
  | .cellLinkLoss _ _ => "CELL_LINK_LOSS"
  | .cellStatusFrame _ _ _ _ _ => "CELL_STATUS_FRAME"
  | .crossCmd _ _ => "CROSS_CMD"
  | .bootstrap _ _ _ => "BOOTSTRAP"
  | .gateSupply _ _ _ => "GATE_SUPPLY"
  | .chopOc _ _ => "CHOP_OC"
  | .dgEdge _ _ _ => "DG_EDGE"
  | .ocBackstop _ _ => "OC_BACKSTOP"
  | .holdoffRequest _ _ _ => "HOLDOFF_REQUEST"
  | .holdoffRelease _ _ => "HOLDOFF_RELEASE"
  | .ascRelease _ _ => "ASC_RELEASE"
  | .stoInputChange _ _ _ => "STO_INPUT_CHANGE"
  | .stoDemand _ => "STO_DEMAND"
  | .stoRelease _ => "STO_RELEASE"
  | .stoDiscrepancy _ => "STO_DISCREPANCY"
  | .ss1Timeout _ => "SS1_TIMEOUT"
  | .precheckPumpDeadline _ _ => "PRECHECK_PUMP_DEADLINE"
  | .gateLoopTest _ _ _ _ _ => "GATE_LOOP_TEST"
  | .desatTest _ _ _ _ => "DESAT_TEST"
  | .phaseTest _ _ _ _ => "PHASE_TEST"
  | .sensingTest _ _ _ _ _ => "SENSING_TEST"
  | .chopperTest _ _ _ _ _ _ => "CHOPPER_TEST"
  | .precheckBridgeDone _ _ => "PRECHECK_BRIDGE_DONE"
  | .faultWaitExpired _ _ => "FAULT_WAIT_EXPIRED"
  | .tempWindow _ _ => "TEMP_WINDOW"
  | .tsPlausible _ _ => "TS_PLAUSIBLE"
  | .thermalStateChange _ _ => "THERMAL_STATE_CHANGE"
  | .thermalSdRelease _ => "THERMAL_SD_RELEASE"
  | .thGraceExpired _ _ => "TH_GRACE_EXPIRED"
  | .thRequestRepeat _ _ => "TH_REQUEST_REPEAT"
  | .thAck _ => "TH_ACK"
  | .hold60End _ => "HOLD60_END"
  | .ntcSample _ _ _ => "NTC_SAMPLE"
  | .junctionUpdate _ => "JUNCTION_UPDATE"
  | .jtCalCmd _ _ _ => "JT_CAL_CMD"
  | .jtPulse _ _ _ => "JT_PULSE"
  | .jtCalDone _ _ => "JT_CAL_DONE"
  | .lifeUpdate _ => "LIFE_UPDATE"
  | .wearSave _ => "WEAR_SAVE"
  | .spiWrite _ _ => "SPI_WRITE"
  | .spiRead _ _ => "SPI_READ"
  | .spiStatus _ _ => "SPI_STATUS"
  | .openSession _ _ => "OPEN"
  | .closeSession _ _ => "CLOSE"
  | .heartbeat _ _ => "HEARTBEAT"
  | .claim _ _ => "CLAIM"
  | .release _ _ => "RELEASE"
  | .handover _ _ => "HANDOVER"
  | .getParams _ _ => "GET"
  | .setParams _ _ => "SET"
  | .parameterWrite _ _ _ => "PARAMETER_WRITE"
  | .getBlock _ _ => "GET_BLOCK"
  | .setBlock _ _ => "SET_BLOCK"
  | .snapshot _ _ => "SNAPSHOT"
  | .enable _ _ => "ENABLE"
  | .disable _ _ => "DISABLE"
  | .setpoint _ _ => "SETPOINT"
  | .modeDevice _ _ => "MODE_DEVICE"
  | .modeAxis _ _ => "MODE_AXIS"
  | .precheck _ _ => "PRECHECK"
  | .quickstop _ _ => "QUICKSTOP"
  | .faultClearAxis _ _ => "FAULT_CLEAR_AXIS"
  | .faultClearDevice _ _ => "FAULT_CLEAR_DEVICE"
  | .subscribe _ _ => "SUBSCRIBE"
  | .unsubscribe _ _ => "UNSUBSCRIBE"
  | .foragerLoad _ _ => "FORAGER_LOAD"
  | .foragerStart _ _ => "FORAGER_START"
  | .foragerStop _ _ => "FORAGER_STOP"
  | .stopDrained _ _ => "STOP_DRAINED"
  | .pantryDisarm _ _ => "PANTRY_DISARM"
  | .pantryArm _ _ => "PANTRY_ARM"
  | .pantryTrigger _ _ => "PANTRY_TRIGGER"
  | .pantryRead _ _ _ => "PANTRY_READ"
  | .atticRead _ _ => "ATTIC_READ"
  | .atticWrite _ _ => "ATTIC_WRITE"
  | .atticProgramDone _ _ => "ATTIC_PROGRAM_DONE"
  | .atticJournal _ _ => "ATTIC_JOURNAL"
  | .imageLoad _ _ => "IMAGE_LOAD"
  | .imageLoadDone _ => "IMAGE_LOAD_DONE"
  | .imageVerify _ _ => "IMAGE_VERIFY"
  | .imageVerifyDone _ => "IMAGE_VERIFY_DONE"
  | .imageSwitch _ _ => "IMAGE_SWITCH"
  | .switchChecksDone _ _ => "SWITCH_CHECKS_DONE"
  | .standbySynced _ _ => "STANDBY_SYNCED"
  | .newPairCommit _ => "NEW_PAIR_COMMIT"
  | .formerPairSynced _ _ => "FORMER_PAIR_SYNCED"
  | .recal _ _ => "RECAL"
  | .recalDone _ => "RECAL_DONE"
  | .laneSwap _ _ => "LANE_SWAP"
  | .laneSwapDone _ _ => "LANE_SWAP_DONE"
  | .hiveLeave _ _ => "HIVE_LEAVE"
  | .hiveJoin _ _ => "HIVE_JOIN"
  | .softReset _ _ => "SOFT_RESET"
  | .sessionIdleTimeout _ _ => "SESSION_IDLE_TIMEOUT"
  | .authProofTimeout _ _ => "AUTH_PROOF_TIMEOUT"
  | .telemetry _ _ => "TELEMETRY"
  | .completionNotification _ => "COMPLETION_NOTIFICATION"
  | .reassemblyTimeout _ => "REASSEMBLY_TIMEOUT"
  | .electionClose _ => "ELECTION_CLOSE"
  | .handoverLapse _ => "HANDOVER_LAPSE"
  | .ownerHeartbeatTimeout _ => "OWNER_HEARTBEAT_TIMEOUT"
  | .emergencyDelay _ => "EMERGENCY_DELAY"
  | .queueWrite _ _ _ _ _ => "QUEUE_WRITE"
  | .hallwayAccess _ _ _ _ _ _ _ => "HALLWAY_ACCESS"
  | .larderScrub _ _ _ => "LARDER_SCRUB"
  | .swarmFrameReceived _ _ _ _ _ _ _ _ => "SWARM_FRAME_RECEIVED"
  | .receiveEntryTake _ _ => "RECEIVE_ENTRY_TAKE"
  | .swarmFrameSent _ _ _ _ => "SWARM_FRAME_SENT"
  | .swarmTxError _ _ _ _ => "SWARM_TX_ERROR"
  | .frameLifetimeEnd _ _ => "FRAME_LIFETIME_END"
  | .busoffReqDelay _ _ => "BUSOFF_REQ_DELAY"
  | .sbRecover _ _ => "SB_RECOVER"
  | .busOffRecovered _ _ => "BUS_OFF_RECOVERED"
  | .statusFrame _ => "STATUS_FRAME"
  | .sbEn _ _ _ => "SB_EN"
  | .addrClaimed _ => "ADDR_CLAIMED"
  | .addrReclaim _ => "ADDR_RECLAIM"
  | .basicCycleStart _ => "BASIC_CYCLE_START"
  | .combWindowStart _ _ => "COMB_WINDOW_START"
  | .referenceMessage _ _ _ _ _ => "REFERENCE_MESSAGE"
  | .delayRequestSend _ => "DELAY_REQUEST_SEND"
  | .delayRequestMessage _ _ _ _ _ => "DELAY_REQUEST_MESSAGE"
  | .delayResponseMessage _ _ _ _ _ => "DELAY_RESPONSE_MESSAGE"
  | .timeHoldover _ => "TIME_HOLDOVER"
  | .timeLost _ => "TIME_LOST"
  | .becomeMaster _ => "BECOME_MASTER"
  | .masterByRank _ => "MASTER_BY_RANK"
  | .timeSet _ _ => "TIME_SET"
  | .swarmSecond _ => "SWARM_SECOND"
  | .combWaitEnd _ _ => "COMB_WAIT_END"
  | .relayResume _ _ => "RELAY_RESUME"
  | .endProgram _ _ _ => "END"
  | .move _ _ _ => "MOVE"
  | .loop _ _ _ => "LOOP"
  | .wait _ _ _ => "WAIT"
  | .signal _ _ _ => "SIGNAL"
  | .setxLoad _ _ _ => "SETX_LOAD"
  | .setxAdd _ _ _ => "SETX_ADD"
  | .setxLoadm _ _ _ => "SETX_LOADM"
  | .setxCopy _ _ _ => "SETX_COPY"
  | .setxAnd _ _ _ => "SETX_AND"
  | .setxPlane _ _ _ => "SETX_PLANE"
  | .shuf _ _ _ => "SHUF"
  | .crc _ _ _ => "CRC"
  | .eventLineRaise _ _ => "EVENT_LINE_RAISE"
  | .waitTimeout _ _ => "WAIT_TIMEOUT"
  | .writeBeatResponse _ _ _ => "WRITE_BEAT_RESPONSE"
  | .fgDisable _ _ _ => "FG_DISABLE"
  | .publishRecord _ _ => "PUBLISH_RECORD"
  | .pantrySample _ _ => "PANTRY_SAMPLE"
  | .faultRecordCopy _ _ => "FAULT_RECORD_COPY"
  | .porchTransaction _ _ _ _ _ _ _ _ => "PORCH_TRANSACTION"
  | .porchIdleReset _ => "PORCH_IDLE_RESET"
  | .porchStatClear _ _ => "PORCH_STAT_CLEAR"
  | .newChallenge _ => "NEW_CHALLENGE"
  | .verify _ => "VERIFY"
  | .porchVerifyDone _ _ => "PORCH_VERIFY_DONE"
  | .challengeBlockEnd _ => "CHALLENGE_BLOCK_END"
  | .relock _ => "RELOCK"
  | .fullHalt _ => "FULL_HALT"
  | .liveHalt _ => "LIVE_HALT"
  | .haltResume _ => "HALT_RESUME"
  | .haltStep _ => "HALT_STEP"
  | .standbyResynced _ => "STANDBY_RESYNCED"
  | .breakpointHit _ _ => "BREAKPOINT_HIT"
  | .watchpointHit _ _ _ _ => "WATCHPOINT_HIT"
  | .memData _ _ _ _ => "MEM_DATA"
  | .regData _ _ _ => "REG_DATA"
  | .txlen _ _ => "TXLEN"
  | .txdata _ _ => "TXDATA"
  | .rxdata _ => "RXDATA"
  | .extest _ => "EXTEST"
  | .samplePreload _ => "SAMPLE_PRELOAD"
  | .clamp _ => "CLAMP"
  | .highz _ => "HIGHZ"
  | .idcode _ => "IDCODE"
  | .bypass _ => "BYPASS"
  | .testLogicReset _ => "TEST_LOGIC_RESET"
  | .supplyMeasure _ _ _ _ _ => "SUPPLY_MEASURE"
  | .feedReverse _ _ => "FEED_REVERSE"
  | .feedForward _ _ _ => "FEED_FORWARD"
  | .carrierPeakSample _ _ _ => "CARRIER_PEAK_SAMPLE"
  | .edgeAtGatePin _ _ _ => "EDGE_AT_GATE_PIN"
  | .swarmRxError _ _ _ => "SWARM_RX_ERROR"
  | .portIntegrated _ _ => "PORT_INTEGRATED"
  | .faultCleared _ _ _ => "FAULT_CLEARED"
  | .rejectedPacket _ _ => "REJECTED_PACKET"

/-- The time a command carries. -/
def timeOf (i : Instr) : Nat :=
  match i with
  | .powerOnResetRelease t => t
  | .brownOut t => t
  | .crystalQualified t => t
  | .crystalTimeout t _ => t
  | .pllLocked t => t
  | .cellarSelfTest t => t
  | .atticLoad t _ => t
  | .larderInit t _ => t
  | .wingSelection t _ => t
  | .imageCrcCheck t => t
  | .lockstepSelfTest t _ _ => t
  | .bootSelfTestRetry t => t
  | .configLoad t _ _ => t
  | .cellLinkTraining t _ _ _ => t
  | .bootAfterReply t => t
  | .referenceLost t => t
  | .crystalBack t => t
  | .clockCheckWindow t _ => t
  | .firmwareFault t _ => t
  | .pairRestart t _ => t
  | .cellarCoreRestart t => t
  | .sampleEvent t _ _ _ _ => t
  | .shadowDeadline t _ => t
  | .edgeDispatch t _ => t
  | .laneMismatch t _ _ => t
  | .laneSelfTest t _ _ => t
  | .houseSilent t _ => t
  | .bridgeImbalance t _ => t
  | .senseRefCheck t _ _ _ => t
  | .selfTriggerConversion t _ _ _ => t
  | .senseSum t _ => t
  | .senseOffset t _ _ => t
  | .vdcDisagree t _ => t
  | .phaseOc t _ _ => t
  | .sdStream t _ _ => t
  | .fusionSelfTimed t _ => t
  | .sourceDropped t _ _ => t
  | .sourceReadmitted t _ _ => t
  | .waggleReversal t _ => t
  | .scoutSettleTimeout t _ => t
  | .polarityPulseEnd t _ _ => t
  | .currentDecayed t _ _ => t
  | .scoutBackCheckEnd t _ => t
  | .catchLock t _ => t
  | .catchNoEmf t _ => t
  | .catchAttemptTimeout t _ => t
  | .catchUsedReset t _ => t
  | .limpCrossingTimeout t _ => t
  | .limpReturn t _ => t
  | .encTransition t _ _ _ _ _ _ => t
  | .fbLine t _ _ _ => t
  | .indexEvent t _ _ => t
  | .indexMissed t _ => t
  | .encStandstill t _ => t
  | .feedbackSelfSample t _ => t
  | .resolverSamplePair t _ _ _ _ => t
  | .resExc t _ => t
  | .resExcRestart t _ => t
  | .ssiFrameStart t _ _ => t
  | .ssiStartTimeout t _ => t
  | .ssiFrameCheck t _ _ _ => t
  | .fbReturn t _ => t
  | .speedLoopTick t _ => t
  | .snatchDwellEnd t _ => t
  | .vented t _ => t
  | .ventedEnd t _ => t
  | .standstillReached t _ => t
  | .chopMinOnEnd t _ => t
  | .chopEnergyUpdate t => t
  | .linkUv t _ => t
  | .ecSample t _ _ _ _ => t
  | .ecLost t _ => t
  | .ecBack t _ => t
  | .ringCycleStart t => t
  | .trayReceived t _ _ _ => t
  | .viewClose t => t
  | .ringDelayRequest t _ _ _ _ => t
  | .ringDelayResponse t _ _ _ _ _ => t
  | .pairDown t _ _ => t
  | .pairUp t _ _ => t
  | .portReady t _ => t
  | .cycleMasterTakeover t => t
  | .ringLost t => t
  | .memberJoining t => t
  | .joinRampEnd t => t
  | .leaveRampEnd t => t
  | .hiveEnWrite t _ => t
  | .desat t _ => t
  | .softOffLevelEnd t _ => t
  | .gateOffDetected t _ => t
  | .gateStageChange t _ _ _ => t
  | .deadTimeExpired t _ => t
  | .gateStuck t _ => t
  | .cellLinkLoss t _ => t
  | .cellStatusFrame t _ _ _ _ => t
  | .crossCmd t _ => t
  | .bootstrap t _ _ => t
  | .gateSupply t _ _ => t
  | .chopOc t _ => t
  | .dgEdge t _ _ => t
  | .ocBackstop t _ => t
  | .holdoffRequest t _ _ => t
  | .holdoffRelease t _ => t
  | .ascRelease t _ => t
  | .stoInputChange t _ _ => t
  | .stoDemand t => t
  | .stoRelease t => t
  | .stoDiscrepancy t => t
  | .ss1Timeout t => t
  | .precheckPumpDeadline t _ => t
  | .gateLoopTest t _ _ _ _ => t
  | .desatTest t _ _ _ => t
  | .phaseTest t _ _ _ => t
  | .sensingTest t _ _ _ _ => t
  | .chopperTest t _ _ _ _ _ => t
  | .precheckBridgeDone t _ => t
  | .faultWaitExpired t _ => t
  | .tempWindow t _ => t
  | .tsPlausible t _ => t
  | .thermalStateChange t _ => t
  | .thermalSdRelease t => t
  | .thGraceExpired t _ => t
  | .thRequestRepeat t _ => t
  | .thAck t => t
  | .hold60End t => t
  | .ntcSample t _ _ => t
  | .junctionUpdate t => t
  | .jtCalCmd t _ _ => t
  | .jtPulse t _ _ => t
  | .jtCalDone t _ => t
  | .lifeUpdate t => t
  | .wearSave t => t
  | .spiWrite t _ => t
  | .spiRead t _ => t
  | .spiStatus t _ => t
  | .openSession t _ => t
  | .closeSession t _ => t
  | .heartbeat t _ => t
  | .claim t _ => t
  | .release t _ => t
  | .handover t _ => t
  | .getParams t _ => t
  | .setParams t _ => t
  | .parameterWrite t _ _ => t
  | .getBlock t _ => t
  | .setBlock t _ => t
  | .snapshot t _ => t
  | .enable t _ => t
  | .disable t _ => t
  | .setpoint t _ => t
  | .modeDevice t _ => t
  | .modeAxis t _ => t
  | .precheck t _ => t
  | .quickstop t _ => t
  | .faultClearAxis t _ => t
  | .faultClearDevice t _ => t
  | .subscribe t _ => t
  | .unsubscribe t _ => t
  | .foragerLoad t _ => t
  | .foragerStart t _ => t
  | .foragerStop t _ => t
  | .stopDrained t _ => t
  | .pantryDisarm t _ => t
  | .pantryArm t _ => t
  | .pantryTrigger t _ => t
  | .pantryRead t _ _ => t
  | .atticRead t _ => t
  | .atticWrite t _ => t
  | .atticProgramDone t _ => t
  | .atticJournal t _ => t
  | .imageLoad t _ => t
  | .imageLoadDone t => t
  | .imageVerify t _ => t
  | .imageVerifyDone t => t
  | .imageSwitch t _ => t
  | .switchChecksDone t _ => t
  | .standbySynced t _ => t
  | .newPairCommit t => t
  | .formerPairSynced t _ => t
  | .recal t _ => t
  | .recalDone t => t
  | .laneSwap t _ => t
  | .laneSwapDone t _ => t
  | .hiveLeave t _ => t
  | .hiveJoin t _ => t
  | .softReset t _ => t
  | .sessionIdleTimeout t _ => t
  | .authProofTimeout t _ => t
  | .telemetry t _ => t
  | .completionNotification t => t
  | .reassemblyTimeout t => t
  | .electionClose t => t
  | .handoverLapse t => t
  | .ownerHeartbeatTimeout t => t
  | .emergencyDelay t => t
  | .queueWrite t _ _ _ _ => t
  | .hallwayAccess t _ _ _ _ _ _ => t
  | .larderScrub t _ _ => t
  | .swarmFrameReceived t _ _ _ _ _ _ _ => t
  | .receiveEntryTake t _ => t
  | .swarmFrameSent t _ _ _ => t
  | .swarmTxError t _ _ _ => t
  | .frameLifetimeEnd t _ => t
  | .busoffReqDelay t _ => t
  | .sbRecover t _ => t
  | .busOffRecovered t _ => t
  | .statusFrame t => t
  | .sbEn t _ _ => t
  | .addrClaimed t => t
  | .addrReclaim t => t
  | .basicCycleStart t => t
  | .combWindowStart t _ => t
  | .referenceMessage t _ _ _ _ => t
  | .delayRequestSend t => t
  | .delayRequestMessage t _ _ _ _ => t
  | .delayResponseMessage t _ _ _ _ => t
  | .timeHoldover t => t
  | .timeLost t => t
  | .becomeMaster t => t
  | .masterByRank t => t
  | .timeSet t _ => t
  | .swarmSecond t => t
  | .combWaitEnd t _ => t
  | .relayResume t _ => t
  | .endProgram t _ _ => t
  | .move t _ _ => t
  | .loop t _ _ => t
  | .wait t _ _ => t
  | .signal t _ _ => t
  | .setxLoad t _ _ => t
  | .setxAdd t _ _ => t
  | .setxLoadm t _ _ => t
  | .setxCopy t _ _ => t
  | .setxAnd t _ _ => t
  | .setxPlane t _ _ => t
  | .shuf t _ _ => t
  | .crc t _ _ => t
  | .eventLineRaise t _ => t
  | .waitTimeout t _ => t
  | .writeBeatResponse t _ _ => t
  | .fgDisable t _ _ => t
  | .publishRecord t _ => t
  | .pantrySample t _ => t
  | .faultRecordCopy t _ => t
  | .porchTransaction t _ _ _ _ _ _ _ => t
  | .porchIdleReset t => t
  | .porchStatClear t _ => t
  | .newChallenge t => t
  | .verify t => t
  | .porchVerifyDone t _ => t
  | .challengeBlockEnd t => t
  | .relock t => t
  | .fullHalt t => t
  | .liveHalt t => t
  | .haltResume t => t
  | .haltStep t => t
  | .standbyResynced t => t
  | .breakpointHit t _ => t
  | .watchpointHit t _ _ _ => t
  | .memData t _ _ _ => t
  | .regData t _ _ => t
  | .txlen t _ => t
  | .txdata t _ => t
  | .rxdata t => t
  | .extest x => x.at_
  | .samplePreload x => x.at_
  | .clamp x => x.at_
  | .highz x => x.at_
  | .idcode x => x.at_
  | .bypass x => x.at_
  | .testLogicReset t => t
  | .supplyMeasure t _ _ _ _ => t
  | .feedReverse t _ => t
  | .feedForward t _ _ => t
  | .carrierPeakSample t _ _ => t
  | .edgeAtGatePin t _ _ => t
  | .swarmRxError t _ _ => t
  | .portIntegrated t _ => t
  | .faultCleared t _ _ => t
  | .rejectedPacket t _ => t

end Sys2Proof.Machine
end

