-- ==== Sys2Proof/Laws/Interlock.lean ====
section
/-!
SUPPORT. What the end of every meaning does: the hold-off lines turn off every commanded channel of a held-off cell (R21, R384)
and nothing else changes.
-/
namespace Sys2Proof.Machine

/-- One channel of the interlock. -/
theorem foldl_chans_only (f : State → Nat → State) (h : ∀ s c, f s c = { s with chans := (f s c).chans }) (l : List Nat) (s : State) :
    l.foldl f s = { s with chans := (l.foldl f s).chans } := by
  induction l generalizing s with
  | nil => rfl
  | cons c l ih =>
    rw [List.foldl_cons, ih (f s c)]
    simp only
    rw [h s c]

@[simp] theorem State.chan_putChan_same (s : State) (c : Nat) (x : Chan) : (s.putChan c x).chan c = { x with drive := s.driveOf c x } := by
  simp [State.putChan]

theorem State.chan_putChan_other (s : State) (c d : Nat) (x : Chan) (h : c ≠ d) : (s.putChan c x).chan d = s.chan d := by
  simp [State.putChan, State.chan_setChan_other _ _ _ _ h]

/-- Soft-off changes the channels only. -/
theorem State.softOff_chans_only (s : State) (c : Nat) (l : Bool) : s.softOff c l = { s with chans := (s.softOff c l).chans } := by
  unfold State.softOff
  dsimp only
  split
  · rfl
  · split <;> rfl

/-- The interlock changes the channels only. -/
theorem State.interlock_chans_only (s : State) : s.interlock = { s with chans := s.interlock.chans } := by
  unfold State.interlock each
  refine foldl_chans_only _ ?_ _ s
  intro s c
  dsimp only
  split
  · rw [State.softOff_chans_only]
    rfl
  · rfl

@[simp] theorem State.interlock_now (s : State) : s.interlock.now = s.now := by rw [State.interlock_chans_only]
@[simp] theorem State.interlock_dev (s : State) : s.interlock.dev = s.dev := by rw [State.interlock_chans_only]
@[simp] theorem State.interlock_params (s : State) : s.interlock.params = s.params := by rw [State.interlock_chans_only]
@[simp] theorem State.interlock_larder (s : State) : s.interlock.larder = s.larder := by rw [State.interlock_chans_only]
@[simp] theorem State.interlock_eccErrs (s : State) : s.interlock.eccErrs = s.eccErrs := by rw [State.interlock_chans_only]
@[simp] theorem State.interlock_queues (s : State) : s.interlock.queues = s.queues := by rw [State.interlock_chans_only]
@[simp] theorem State.interlock_nextTag (s : State) : s.interlock.nextTag = s.nextTag := by rw [State.interlock_chans_only]
@[simp] theorem State.interlock_axes (s : State) : s.interlock.axes = s.axes := by rw [State.interlock_chans_only]
@[simp] theorem State.interlock_lanes (s : State) : s.interlock.lanes = s.lanes := by rw [State.interlock_chans_only]
@[simp] theorem State.interlock_records (s : State) : s.interlock.records = s.records := by rw [State.interlock_chans_only]
@[simp] theorem State.interlock_bridges (s : State) : s.interlock.bridges = s.bridges := by rw [State.interlock_chans_only]
@[simp] theorem State.interlock_links (s : State) : s.interlock.links = s.links := by rw [State.interlock_chans_only]
@[simp] theorem State.interlock_encs (s : State) : s.interlock.encs = s.encs := by rw [State.interlock_chans_only]
@[simp] theorem State.interlock_ress (s : State) : s.interlock.ress = s.ress := by rw [State.interlock_chans_only]
@[simp] theorem State.interlock_ssis (s : State) : s.interlock.ssis = s.ssis := by rw [State.interlock_chans_only]
@[simp] theorem State.interlock_cells (s : State) : s.interlock.cells = s.cells := by rw [State.interlock_chans_only]
@[simp] theorem State.interlock_cellar (s : State) : s.interlock.cellar = s.cellar := by rw [State.interlock_chans_only]
@[simp] theorem State.interlock_standing (s : State) : s.interlock.standing = s.standing := by rw [State.interlock_chans_only]
@[simp] theorem State.interlock_sessions (s : State) : s.interlock.sessions = s.sessions := by rw [State.interlock_chans_only]
@[simp] theorem State.interlock_owner (s : State) : s.interlock.owner = s.owner := by rw [State.interlock_chans_only]
@[simp] theorem State.interlock_ops (s : State) : s.interlock.ops = s.ops := by rw [State.interlock_chans_only]
@[simp] theorem State.interlock_waiting (s : State) : s.interlock.waiting = s.waiting := by rw [State.interlock_chans_only]
@[simp] theorem State.interlock_snaps (s : State) : s.interlock.snaps = s.snaps := by rw [State.interlock_chans_only]
@[simp] theorem State.interlock_attic (s : State) : s.interlock.attic = s.attic := by rw [State.interlock_chans_only]
@[simp] theorem State.interlock_faultRing (s : State) : s.interlock.faultRing = s.faultRing := by rw [State.interlock_chans_only]
@[simp] theorem State.interlock_forager (s : State) : s.interlock.forager = s.forager := by rw [State.interlock_chans_only]
@[simp] theorem State.interlock_planeAt (s : State) : s.interlock.planeAt = s.planeAt := by rw [State.interlock_chans_only]
@[simp] theorem State.interlock_pubAt (s : State) : s.interlock.pubAt = s.pubAt := by rw [State.interlock_chans_only]
@[simp] theorem State.interlock_fanner (s : State) : s.interlock.fanner = s.fanner := by rw [State.interlock_chans_only]
@[simp] theorem State.interlock_ring (s : State) : s.interlock.ring = s.ring := by rw [State.interlock_chans_only]
@[simp] theorem State.interlock_swarm (s : State) : s.interlock.swarm = s.swarm := by rw [State.interlock_chans_only]
@[simp] theorem State.interlock_pantry (s : State) : s.interlock.pantry = s.pantry := by rw [State.interlock_chans_only]
@[simp] theorem State.interlock_service (s : State) : s.interlock.service = s.service := by rw [State.interlock_chans_only]
@[simp] theorem State.interlock_porch (s : State) : s.interlock.porch = s.porch := by rw [State.interlock_chans_only]
@[simp] theorem State.interlock_feeds (s : State) : s.interlock.feeds = s.feeds := by rw [State.interlock_chans_only]
@[simp] theorem State.interlock_spiOut (s : State) : s.interlock.spiOut = s.spiOut := by rw [State.interlock_chans_only]
@[simp] theorem State.interlock_config (s : State) : s.interlock.config = s.config := by rw [State.interlock_chans_only]
@[simp] theorem State.interlock_wear (s : State) : s.interlock.wear = s.wear := by rw [State.interlock_chans_only]
@[simp] theorem State.interlock_free (s : State) : s.interlock.free = s.free := by rw [State.interlock_chans_only]
@[simp] theorem State.interlock_pending (s : State) : s.interlock.pending = s.pending := by rw [State.interlock_chans_only]
@[simp] theorem State.interlock_copies (s : State) : s.interlock.copies = s.copies := by rw [State.interlock_chans_only]
@[simp] theorem State.interlock_hallData (s : State) : s.interlock.hallData = s.hallData := by rw [State.interlock_chans_only]
@[simp] theorem State.interlock_servedLast (s : State) : s.interlock.servedLast = s.servedLast := by rw [State.interlock_chans_only]
@[simp] theorem State.interlock_fgLast (s : State) : s.interlock.fgLast = s.fgLast := by rw [State.interlock_chans_only]
@[simp] theorem State.interlock_nonces (s : State) : s.interlock.nonces = s.nonces := by rw [State.interlock_chans_only]
@[simp] theorem State.interlock_par (s : State) (p : Par) (i j : Nat) : s.interlock.par p i j = s.par p i j := by
  simp [State.par]
@[simp] theorem State.interlock_heldOff (s : State) (g : Nat) : s.interlock.heldOff g = s.heldOff g := by
  simp [State.heldOff]

/-- A soft-off leaves the other channels as they were, and the command of its own channel off where it was on. -/
theorem State.softOff_chan_other (s : State) (c d : Nat) (l : Bool) (h : c ≠ d) : (s.softOff c l).chan d = s.chan d := by
  unfold State.softOff
  dsimp only
  repeat' split
  all_goals simp [State.chan_setChan_other _ _ _ _ h, State.chan_putChan_other _ _ _ _ h]

@[simp] theorem State.softOff_heldOff (s : State) (c g : Nat) (l : Bool) : (s.softOff c l).heldOff g = s.heldOff g := by
  rw [State.softOff_chans_only]
  rfl

/-- One turn of the interlock, and what it does. -/
def State.lockOne (c : Nat) (s : State) : State :=
  if s.heldOff (c / 2) && (s.chan c).cmd then
    let s := s.softOff c false
    s.setChan c (s.chan c).drop
  else s

theorem State.interlock_eq (s : State) : s.interlock = each (upto 26) s State.lockOne := rfl

@[simp] theorem State.lockOne_heldOff (s : State) (c g : Nat) : (State.lockOne c s).heldOff g = s.heldOff g := by
  unfold State.lockOne
  split
  · show (s.softOff c false).heldOff g = _
    simp
  · rfl

theorem State.lockOne_chan_other (s : State) (c d : Nat) (h : c ≠ d) : (State.lockOne c s).chan d = s.chan d := by
  unfold State.lockOne
  split
  · simp [State.chan_setChan_other _ _ _ _ h, State.softOff_chan_other _ _ _ _ h]
  · rfl

theorem State.lockOne_cmd (s : State) (c : Nat) (h : s.heldOff (c / 2) = true) : ((State.lockOne c s).chan c).cmd = false := by
  unfold State.lockOne
  cases hc : (s.chan c).cmd <;> simp [h, hc, Chan.drop]

theorem State.lock_list (l : List Nat) (s : State) (g : Nat) : (l.foldl (fun s c => State.lockOne c s) s).heldOff g = s.heldOff g := by
  induction l generalizing s with
  | nil => rfl
  | cons c l ih => rw [List.foldl_cons, ih, State.lockOne_heldOff]

theorem State.lock_list_cmd (l : List Nat) (s : State) (c : Nat) (hc : c ∈ l) (h : s.heldOff (c / 2) = true) :
    ((l.foldl (fun s c => State.lockOne c s) s).chan c).cmd = false := by
  induction l generalizing s with
  | nil => cases hc
  | cons d l ih =>
    rw [List.foldl_cons]
    by_cases hm : c ∈ l
    · exact ih _ hm (by simpa using h)
    · have hd : c = d := by
        rcases List.mem_cons.mp hc with h' | h'
        · exact h'
        · exact absurd h' hm
      subst hd
      have keep : ∀ (m : List Nat) (x : State), c ∉ m → ((m.foldl (fun s c => State.lockOne c s) x).chan c) = x.chan c := by
        intro m
        induction m with
        | nil => intro x _; rfl
        | cons e m ihm =>
          intro x hx
          rw [List.foldl_cons, ihm _ (fun hh => hx (List.mem_cons_of_mem _ hh))]
          exact State.lockOne_chan_other _ _ _ (fun hh => hx (hh ▸ List.mem_cons_self))
      rw [keep l _ hm]
      exact State.lockOne_cmd s c h

/-- After the interlock no channel of a held-off cell is commanded on, whatever stood before. -/
theorem State.interlock_held (s : State) : s.interlock.HeldSafe := by
  intro c hc h
  rw [State.interlock_heldOff] at h
  rw [State.interlock_eq]
  exact State.lock_list_cmd _ s c (List.mem_range.mpr hc) h

/-- Where no channel of a held-off cell is commanded on, the interlock changes nothing. -/
theorem State.interlock_idle (s : State) (h : s.HeldSafe) : s.interlock = s := by
  rw [State.interlock_eq]
  unfold each upto
  have : ∀ l : List Nat, (∀ c ∈ l, c < 26) → l.foldl (fun s c => State.lockOne c s) s = s := by
    intro l
    induction l with
    | nil => intro _; rfl
    | cons c l ih =>
      intro hl
      have h1 : State.lockOne c s = s := by
        unfold State.lockOne
        cases hh : s.heldOff (c / 2) with
        | false => simp
        | true => simp [h c (hl c List.mem_cons_self) hh]
      rw [List.foldl_cons, h1]
      exact ih (fun d hd => hl d (List.mem_cons_of_mem _ hd))
  exact this _ (fun c hc => List.mem_range.mp hc)

/-- The hold-off lines are in effect at the end of every meaning. -/
theorem answer_held (s x t : State) (h : answer s x = .next t) : t.HeldSafe := by
  unfold answer at h
  injection h with h
  subst h
  have hI := State.interlock_held x
  revert hI
  generalize x.interlock = y
  exact fun hI c hc hh => hI c hc hh

/-- Every command ends in the answer of its meaning. -/
theorem exec_answer (c : Instr) (s : State) : ∃ x, exec c s = answer s x := by
  cases c <;> exact ⟨_, rfl⟩

/-- The state t that a meaning answering x leaves: x with its channels interlocked, in every field but the queue. -/
structure Ends (x t : State) : Prop where
  now : t.now = x.now
  dev : t.dev = x.dev
  params : t.params = x.params
  larder : t.larder = x.larder
  eccErrs : t.eccErrs = x.eccErrs
  queues : t.queues = x.queues
  nextTag : t.nextTag = x.nextTag
  axes : t.axes = x.axes
  lanes : t.lanes = x.lanes
  records : t.records = x.records
  bridges : t.bridges = x.bridges
  links : t.links = x.links
  encs : t.encs = x.encs
  ress : t.ress = x.ress
  ssis : t.ssis = x.ssis
  chans : t.chans = x.interlock.chans
  cells : t.cells = x.cells
  cellar : t.cellar = x.cellar
  standing : t.standing = x.standing
  sessions : t.sessions = x.sessions
  owner : t.owner = x.owner
  ops : t.ops = x.ops
  waiting : t.waiting = x.waiting
  snaps : t.snaps = x.snaps
  attic : t.attic = x.attic
  faultRing : t.faultRing = x.faultRing
  forager : t.forager = x.forager
  planeAt : t.planeAt = x.planeAt
  pubAt : t.pubAt = x.pubAt
  fanner : t.fanner = x.fanner
  ring : t.ring = x.ring
  swarm : t.swarm = x.swarm
  pantry : t.pantry = x.pantry
  service : t.service = x.service
  porch : t.porch = x.porch
  feeds : t.feeds = x.feeds
  spiOut : t.spiOut = x.spiOut
  config : t.config = x.config
  wear : t.wear = x.wear
  free : t.free = x.free

theorem ends_of (x y : State) (l : List Instr) (h : y = { x with chans := y.chans }) (hc : y.chans = x.interlock.chans) :
    Ends x { y with pending := l } where
  now := (congrArg (fun z : State => z.now) h :)
  dev := (congrArg (fun z : State => z.dev) h :)
  params := (congrArg (fun z : State => z.params) h :)
  larder := (congrArg (fun z : State => z.larder) h :)
  eccErrs := (congrArg (fun z : State => z.eccErrs) h :)
  queues := (congrArg (fun z : State => z.queues) h :)
  nextTag := (congrArg (fun z : State => z.nextTag) h :)
  axes := (congrArg (fun z : State => z.axes) h :)
  lanes := (congrArg (fun z : State => z.lanes) h :)
  records := (congrArg (fun z : State => z.records) h :)
  bridges := (congrArg (fun z : State => z.bridges) h :)
  links := (congrArg (fun z : State => z.links) h :)
  encs := (congrArg (fun z : State => z.encs) h :)
  ress := (congrArg (fun z : State => z.ress) h :)
  ssis := (congrArg (fun z : State => z.ssis) h :)
  chans := hc
  cells := (congrArg (fun z : State => z.cells) h :)
  cellar := (congrArg (fun z : State => z.cellar) h :)
  standing := (congrArg (fun z : State => z.standing) h :)
  sessions := (congrArg (fun z : State => z.sessions) h :)
  owner := (congrArg (fun z : State => z.owner) h :)
  ops := (congrArg (fun z : State => z.ops) h :)
  waiting := (congrArg (fun z : State => z.waiting) h :)
  snaps := (congrArg (fun z : State => z.snaps) h :)
  attic := (congrArg (fun z : State => z.attic) h :)
  faultRing := (congrArg (fun z : State => z.faultRing) h :)
  forager := (congrArg (fun z : State => z.forager) h :)
  planeAt := (congrArg (fun z : State => z.planeAt) h :)
  pubAt := (congrArg (fun z : State => z.pubAt) h :)
  fanner := (congrArg (fun z : State => z.fanner) h :)
  ring := (congrArg (fun z : State => z.ring) h :)
  swarm := (congrArg (fun z : State => z.swarm) h :)
  pantry := (congrArg (fun z : State => z.pantry) h :)
  service := (congrArg (fun z : State => z.service) h :)
  porch := (congrArg (fun z : State => z.porch) h :)
  feeds := (congrArg (fun z : State => z.feeds) h :)
  spiOut := (congrArg (fun z : State => z.spiOut) h :)
  config := (congrArg (fun z : State => z.config) h :)
  wear := (congrArg (fun z : State => z.wear) h :)
  free := (congrArg (fun z : State => z.free) h :)

/-- A command whose meaning answers x completes, with what holds of every state x ends in. -/
theorem Does.of_answer {c : Instr} {s x : State} {p : State → Prop} (h : exec c s = answer s x) (hp : ∀ t, Ends x t → p t) : Does c s p :=
  ⟨_, h, hp _ (ends_of x x.interlock s.pending (State.interlock_chans_only x) rfl)⟩

theorem Ends.par_eq {x t : State} (h : Ends x t) (p : Par) (i j : Nat) : t.par p i j = x.par p i j := by
  simp only [State.par, h.params]
theorem Ends.parN_eq {x t : State} (h : Ends x t) (p : Par) (i j : Nat) : t.parN p i j = x.parN p i j := by
  simp only [State.parN, State.par, h.params]
theorem Ends.heldOff_eq {x t : State} (h : Ends x t) (g : Nat) : t.heldOff g = x.heldOff g := by
  simp only [State.heldOff, h.cellar]
theorem Ends.stands_eq {x t : State} (h : Ends x t) (c i : Nat) : t.stands c i = x.stands c i := by
  simp only [State.stands, h.standing]
theorem Ends.pair_eq {x t : State} (h : Ends x t) (p : Nat) : t.pair p = x.pair p := by
  simp only [State.pair, h.dev]
theorem Ends.ax_eq {x t : State} (h : Ends x t) (k : Nat) : t.ax k = x.ax k := by
  simp only [State.ax, h.axes]
theorem Ends.lane_eq {x t : State} (h : Ends x t) (n : Nat) : t.lane n = x.lane n := by
  simp only [State.lane, h.lanes]
theorem Ends.bridge_eq {x t : State} (h : Ends x t) (b : Nat) : t.bridge b = x.bridge b := by
  simp only [State.bridge, h.bridges]
theorem Ends.link_eq {x t : State} (h : Ends x t) (k : Nat) : t.link k = x.link k := by
  simp only [State.link, h.links]
theorem Ends.cell_eq {x t : State} (h : Ends x t) (g : Nat) : t.cell g = x.cell g := by
  simp only [State.cell, h.cells]
theorem Ends.enc_eq {x t : State} (h : Ends x t) (k : Nat) : t.enc k = x.enc k := by
  simp only [State.enc, h.encs]
theorem Ends.res_eq {x t : State} (h : Ends x t) (k : Nat) : t.res k = x.res k := by
  simp only [State.res, h.ress]
theorem Ends.ssi_eq {x t : State} (h : Ends x t) (k : Nat) : t.ssi k = x.ssi k := by
  simp only [State.ssi, h.ssis]
theorem Ends.queue_eq {x t : State} (h : Ends x t) (q : Nat) : t.queue q = x.queue q := by
  simp only [State.queue, h.queues]
theorem Ends.sess_eq {x t : State} (h : Ends x t) (n : Nat) : t.sess n = x.sess n := by
  simp only [State.sess, h.sessions]
theorem Ends.fg_eq {x t : State} (h : Ends x t) (c : Nat) : t.fg c = x.fg c := by
  simp only [State.fg, h.forager]
theorem Ends.byteAt_eq {x t : State} (h : Ends x t) (a : Nat) : t.byteAt a = x.byteAt a := by
  simp only [State.byteAt, h.larder]

/-- Where x is safe already, nothing changes but the queue. -/
theorem Ends.chans_eq {x t : State} (h : Ends x t) (hs : x.HeldSafe) : t.chans = x.chans := by
  rw [h.chans, State.interlock_idle x hs]

end Sys2Proof.Machine
end

