-- ==== Sys2Proof/Laws/Memory.lean ====
section
/-!
SUPPORT. Byte memories in canonical form: every write keeps the form, a read gives back what was written, and a write leaves the
other addresses alone (R27, log entry 7).
-/
namespace Sys2Proof.Machine

/-- Every listed address is above a bound. -/
def memAbove (b : Nat) (m : List Host.Cell) : Prop := ∀ e ∈ m, b < e.1

theorem memWf_cons (d : Byte) (a : Nat) (v : Byte) (m : List Host.Cell) :
    memWf d ((a, v) :: m) = true ↔ v ≠ d ∧ memAbove a m ∧ memWf d m = true := by
  induction m generalizing a v with
  | nil => simp [memWf, memAbove]
  | cons e r ih =>
    obtain ⟨a', v'⟩ := e
    constructor
    · intro h
      simp only [memWf, Bool.and_eq_true, decide_eq_true_eq] at h
      refine ⟨h.1.2, ?_, h.2⟩
      intro e he
      rcases List.mem_cons.mp he with rfl | he
      · exact h.1.1
      · exact Nat.lt_trans h.1.1 (((ih a' v').mp h.2).2.1 e he)
    · intro ⟨hv, ha, hw⟩
      simp only [memWf, Bool.and_eq_true, decide_eq_true_eq]
      exact ⟨⟨ha (a', v') List.mem_cons_self, hv⟩, hw⟩

theorem memSet_above (d : Byte) (m : List Host.Cell) (b a : Nat) (v : Byte) (h : memAbove b m) (ha : b < a) :
    memAbove b (memSet d m a v) := by
  induction m with
  | nil =>
    unfold memSet
    split
    · exact h
    · intro e he
      rw [List.mem_singleton.mp he]
      exact ha
  | cons e r ih =>
    obtain ⟨a', v'⟩ := e
    have hr : memAbove b r := fun e he => h e (List.mem_cons_of_mem _ he)
    have h0 : b < a' := h (a', v') List.mem_cons_self
    unfold memSet
    split
    · split
      · exact hr
      · intro e he
        rcases List.mem_cons.mp he with rfl | he
        · exact ha
        · exact hr e he
    · split
      · split
        · exact h
        · intro e he
          rcases List.mem_cons.mp he with rfl | he
          · exact ha
          · exact h e he
      · intro e he
        rcases List.mem_cons.mp he with rfl | he
        · exact h0
        · exact ih hr e he

theorem memSet_wf (d : Byte) (m : List Host.Cell) (a : Nat) (v : Byte) (h : memWf d m = true) : memWf d (memSet d m a v) = true := by
  induction m with
  | nil =>
    unfold memSet
    split
    · rfl
    · simp [memWf, *]
  | cons e r ih =>
    obtain ⟨a', v'⟩ := e
    have hc := (memWf_cons d a' v' r).mp h
    unfold memSet
    split
    · rename_i heq
      split
      · exact hc.2.2
      · rename_i hv
        exact (memWf_cons d a v r).mpr ⟨hv, heq ▸ hc.2.1, hc.2.2⟩
    · split
      · split
        · exact h
        · rename_i hlt hv
          refine (memWf_cons d a v _).mpr ⟨hv, ?_, h⟩
          intro e he
          rcases List.mem_cons.mp he with rfl | he
          · exact hlt
          · exact Nat.lt_trans hlt (hc.2.1 e he)
      · rename_i hne hge
        exact (memWf_cons d a' v' _).mpr ⟨hc.1, memSet_above d r a' a v hc.2.1 (by omega), ih hc.2.2⟩

theorem memWrite_wf (d : Byte) (m : List Host.Cell) (a : Nat) (bs : Bytes) (h : memWf d m = true) : memWf d (memWrite d m a bs) = true := by
  induction bs generalizing m a with
  | nil => exact h
  | cons b r ih => exact ih _ _ (memSet_wf d m a b h)

theorem memGet_above (d : Byte) (m : List Host.Cell) (a : Nat) (h : memAbove a m) : memGet d m a = d := by
  induction m with
  | nil => rfl
  | cons e r ih =>
    obtain ⟨a', v'⟩ := e
    have := h (a', v') List.mem_cons_self
    simp only at this
    unfold memGet
    rw [if_neg (by omega)]
    exact ih fun e he => h e (List.mem_cons_of_mem _ he)

theorem memGet_memSet (d : Byte) (m : List Host.Cell) (a : Nat) (v : Byte) (b : Nat) (h : memWf d m = true) :
    memGet d (memSet d m a v) b = if b = a then v else memGet d m b := by
  induction m with
  | nil =>
    unfold memSet
    by_cases hv : v = d
    · by_cases hb : b = a <;> simp [hv, hb, memGet]
    · by_cases hb : b = a
      · simp [hv, hb, memGet]
      · simp [hv, hb, memGet, Ne.symm hb]
  | cons e r ih =>
    obtain ⟨a', v'⟩ := e
    have hc := (memWf_cons d a' v' r).mp h
    unfold memSet
    by_cases h1 : a' = a
    · subst h1
      by_cases hv : v = d
      · by_cases hb : b = a'
        · subst hb
          simp [hv, memGet_above d r b hc.2.1]
        · simp [hv, hb, memGet, Ne.symm hb]
      · by_cases hb : b = a'
        · simp [hv, hb, memGet]
        · simp [hv, hb, memGet, Ne.symm hb]
    · by_cases h2 : a < a'
      · have hab : memAbove a ((a', v') :: r) := by
          intro e he
          rcases List.mem_cons.mp he with rfl | he
          · exact h2
          · exact Nat.lt_trans h2 (hc.2.1 e he)
        by_cases hv : v = d
        · by_cases hb : b = a
          · subst hb
            simp only [h1, h2, hv, if_true, if_false]
            exact memGet_above d _ b hab
          · simp [h1, h2, hv, hb]
        · by_cases hb : b = a
          · simp [h1, h2, hv, hb, memGet]
          · rw [if_neg h1, if_pos h2, if_neg hv, if_neg hb]
            rw [memGet, if_neg (Ne.symm hb)]
      · rw [if_neg h1, if_neg h2]
        unfold memGet
        by_cases hb : a' = b
        · have : ¬ b = a := fun hh => h1 (hb.trans hh)
          simp [hb, this]
        · simp only [hb, if_false]
          exact ih hc.2.2

/-- A byte string is read back where it was written. -/
theorem memRead_memWrite (d : Byte) (m : List Host.Cell) (a : Nat) (bs : Bytes) (h : memWf d m = true) :
    memRead d (memWrite d m a bs) a bs.length = bs := by
  have low : ∀ (bs : Bytes) (m : List Host.Cell) (a b : Nat), memWf d m = true → b < a → memGet d (memWrite d m a bs) b = memGet d m b := by
    intro bs
    induction bs with
    | nil => intros; rfl
    | cons x r ih =>
      intro m a b hm hb
      rw [memWrite, ih _ _ _ (memSet_wf d m a x hm) (by omega), memGet_memSet d m a x b hm, if_neg (by omega)]
  induction bs generalizing m a with
  | nil => rfl
  | cons x r ih =>
    rw [List.length_cons, memRead, memWrite, ih _ _ (memSet_wf d m a x h), low r _ _ _ (memSet_wf d m a x h) (by omega),
      memGet_memSet d m a x a h, if_pos rfl]

/-- A write leaves every address outside its bytes alone. -/
theorem memGet_memWrite_other (d : Byte) (m : List Host.Cell) (a : Nat) (bs : Bytes) (b : Nat) (h : memWf d m = true)
    (hb : b < a ∨ a + bs.length ≤ b) : memGet d (memWrite d m a bs) b = memGet d m b := by
  induction bs generalizing m a with
  | nil => rfl
  | cons x r ih =>
    rw [List.length_cons] at hb
    rw [memWrite, ih _ _ (memSet_wf d m a x h) (by omega), memGet_memSet d m a x b h, if_neg (by omega)]

theorem State.lwrite_wf (s : State) (a : Nat) (bs : Bytes) (h : s.LarderWf) : (s.lwrite a bs).LarderWf := memWrite_wf _ _ _ _ h

theorem State.lread_lwrite (s : State) (a : Nat) (bs : Bytes) (h : s.LarderWf) : (s.lwrite a bs).lread a bs.length = bs :=
  memRead_memWrite _ _ _ _ h

theorem State.byteAt_lwrite_other (s : State) (a : Nat) (bs : Bytes) (b : Nat) (h : s.LarderWf) (hb : b < a ∨ a + bs.length ≤ b) :
    (s.lwrite a bs).byteAt b = s.byteAt b := memGet_memWrite_other _ _ _ _ _ h hb

end Sys2Proof.Machine
end

