-- ==== Sys2Proof/Certificates/Slice0/Obligations.lean ====
section
/-!
DEFINITION. The statements about the block. `Does c s0 p` says that command c completes in s0 and that its next state has property p.
A command acts at the time τ it carries: on `s0.due τ`, what the block's own clocks have made of s0 by then (log entry 3), with the time
set, `(s0.due τ).clock τ`.
-/
open Sys2Proof Sys2Proof.Machine

/-! ### Parts: each is a clause of the statement that names it -/

/-- A step takes the command at the front of the queue and executes it on the state with the rest of the queue (derived; the
queue is the model's, log entry 8). -/
def Sys2Proof.Parts.StepRunsFront : Prop :=
  ∀ (s : State) (c : Instr) (rest : List Instr), step { s with pending := c :: rest } = exec c { s with pending := rest }

/-- On an empty queue the block idles (derived, log entry 8). -/
def Sys2Proof.Parts.EmptyQueueIdles : Prop :=
  ∀ s : State, s.pending = [] → step s = .next s

/-- The boot sequence (Table 2.6): each step that succeeds starts the next one, at the time of its command, and keeps the axes
and the gate channels as they were (R71; derived). -/
def Sys2Proof.Parts.BootSteps : Prop :=
  ∀ (s0 : State) (τ : Nat), let s := s0.due τ; s.dev.st = .boot → s.now ≤ τ →
    (s.dev.step = .crystal → s.dev.stepAt + 1000000 ≤ τ → τ ≤ s.dev.stepAt + 5000000 → Does (.crystalQualified τ) s0 fun t => t.dev.st = .boot ∧ t.dev.step = .pll ∧ t.dev.stepAt = τ ∧ t.axes = s.axes ∧ t.cellar = s.cellar) ∧
    (s.dev.step = .crystal → s.dev.stepAt + 5000000 ≤ τ → Does (.crystalTimeout τ true) s0 fun t => t.dev.st = .boot ∧ t.dev.step = .pll ∧ t.dev.stepAt = τ ∧ t.axes = s.axes ∧ t.cellar = s.cellar) ∧
    (s.dev.step = .crystal → s.dev.stepAt + 5000000 ≤ τ → Does (.crystalTimeout τ false) s0 fun t => t.dev.st = .boot ∧ t.dev.step = .held ∧ t.dev.stepAt = τ ∧ t.axes = s.axes ∧ t.cellar = s.cellar) ∧
    (s.dev.step = .pll → Does (.pllLocked τ) s0 fun t => t.dev.st = .boot ∧ t.dev.step = .selfTest ∧ t.dev.stepAt = τ ∧ t.axes = s.axes ∧ t.cellar = s.cellar) ∧
    (s.dev.step = .selfTest → Does (.cellarSelfTest τ) s0 fun t => t.dev.st = .boot ∧ t.dev.step = .attic ∧ t.dev.stepAt = τ ∧ t.axes = s.axes ∧ t.cellar = s.cellar) ∧
    (s.dev.step = .attic → ∀ failed, Does (.atticLoad τ failed) s0 fun t => t.dev.st = .boot ∧ t.dev.step = .larder ∧ t.dev.stepAt = τ ∧ t.axes = s.axes ∧ t.cellar = s.cellar) ∧
    (s.dev.step = .larder → Does (.larderInit τ none) s0 fun t => t.dev.st = .boot ∧ t.dev.step = .wings ∧ t.dev.stepAt = τ ∧ t.axes = s.axes ∧ t.cellar = s.cellar ∧ t.larder = [] ∧ t.queues = []) ∧
    (s.dev.step = .training → ∀ absent bootV counts, Does (.cellLinkTraining τ absent bootV counts) s0 fun t =>
      t.dev.st ≠ .boot ∧ t.dev.step = .done ∧ t.dev.stepAt = τ)

/-- The image checks of the boot (R74 to R77): a wing whose header and version pass goes on to its CRC, an image that passes goes
on to the lockstep self-test, two pairs that pass go on to the configuration; with none good the module holds or waits for a
retry, a bad Larder word or a failed pair of wings starts the loader (derived, Tables 2.6 and 2.7). -/
def Sys2Proof.Parts.BootImages : Prop :=
  ∀ (s0 : State) (τ : Nat), let s := s0.due τ; s.dev.st = .boot →
    (s.dev.step = .wings → s.headOk s.service.pointer = true →
      Does (.wingSelection τ true) s0 fun t => t.dev.step = .imageCrc ∧ t.dev.wing = s.service.pointer ∧ t.dev.second = false) ∧
    (s.dev.step = .imageCrc → s.imageOk s.dev.wing = true →
      Does (.imageCrcCheck τ) s0 fun t => t.dev.step = .lockstep ∧ t.dev.wing = s.dev.wing ∧ t.parN P.bootWing = s.dev.wing) ∧
    (s.dev.step = .lockstep → Does (.lockstepSelfTest τ true true) s0 fun t =>
      t.dev.step = .config ∧ (t.pair 0).live = true ∧ (t.pair 1).live = true ∧ (t.pair 1).synced = true) ∧
    (s.dev.step = .lockstep → Does (.lockstepSelfTest τ false false) s0 fun t =>
      t.dev.step = if s.dev.bootRetries < 3 then .retryWait else .held) ∧
    (s.dev.step = .retryWait → s.dev.stepAt + 1000000000 ≤ τ →
      Does (.bootSelfTestRetry τ) s0 fun t => t.dev.st = .boot ∧ t.dev.step = .crystal ∧ t.dev.bootRetries = s.dev.bootRetries + 1) ∧
    (s.dev.step = .config → ∀ ok area, Does (.configLoad τ ok area) s0 fun t => t.dev.step = .training ∧ t.dev.st = .boot) ∧
    (s.dev.step = .larder → ∀ w, Does (.larderInit τ (some w)) s0 fun t =>
      t.dev.step = .loader ∧ t.dev.larderLimited = true ∧ t.larder = [] ∧ t.Stands 0x0A08 (wordOf w))

/-- BOOT by command starts when the reply has left its queue, or 100 ms after it was written; the fault records live through it
(R756, R658; derived). -/
def Sys2Proof.Parts.BootAfterReplyStarts : Prop :=
  ∀ (s0 : State) (τ : Nat) (b : PendingBoot), let s := s0.due τ; s.dev.pendingBoot = some b → s.porch.halt ≠ .full →
    ((∀ e ∈ s.queue b.queue, e.tag ≠ b.tag) ∨ b.since + 100000000 ≤ τ) →
    Does (.bootAfterReply τ) s0 fun t =>
      t.dev.st = .boot ∧ t.dev.step = .crystal ∧ t.dev.fromOff = false ∧ t.sessions = [] ∧ t.larder = [] ∧ t.faultRing = ((s.clock τ).panEnd 3).faultRing

/-- The reference: its loss and return are remembered in CLK_STATUS, and a control die clock more than 3 % off holds off every cell
and raises CLOCK_LOST (R25, R82, R83, Table 9.9; derived). -/
def Sys2Proof.Parts.ReferenceEvents : Prop :=
  ∀ (s0 : State) (τ : Nat), let s := s0.due τ; s.dev.st = .idle →
    (0 ≤ s.par P.clkStatus → bit (s.par P.clkStatus) 0 = false → Does (.referenceLost τ) s0 fun t => bit (t.par P.clkStatus) 0 = true) ∧
    (bit (s.par P.clkStatus) 0 = true → bit (s.par P.clkStatus) 1 = false → Does (.crystalBack τ) s0 fun t => bit (t.par P.clkStatus) 1 = true) ∧
    (∀ dev : Int, (dev < -300 ∨ 300 < dev) → s.stands 0x0A01 0 = false →
      Does (.clockCheckWindow τ dev) s0 fun t => t.Stands 0x0A01 0 ∧ ∀ g, g < 13 → t.heldOff g = true)

/-- The house cores (R51, R58, R66, R68): a fault of the active pair with a synchronised standby, or of the firmware, takes the device
to RECOVERY; without a standby ready the device waits, silent, for the Cellar. A pair that is not live restarts as synchronised standby,
and the Cellar restarts both pairs after 5 ms without one (derived). -/
def Sys2Proof.Parts.HousePairs : Prop :=
  (∀ (s0 : State) (τ : Nat) (fw : Bool), let s := s0.due τ; s.dev.st ≠ .off → s.dev.st ≠ .boot → s.porch.halt ≠ .full → (s.pair s.active).live = true →
    let ready := (s.pair s.standby).live && ((s.pair s.standby).synced || decide (s.porch.halt = .live))
    ((ready || fw) = true → Does (.firmwareFault τ fw) s0 fun t => t.dev.st = .recovery ∧ t.Stands 0x0A03 s.active ∧ t.porch.halt = .none) ∧
    (ready = false → Does (.firmwareFault τ false) s0 fun t =>
      t.dev.st = s.dev.st ∧ t.Stands 0x0A03 s.active ∧ t.dev.silentSince = some (s.clock τ).now)) ∧
  (∀ (s0 : State) (τ : Nat), let s := s0.due τ; s.dev.st = .recovery → s.service.switch = none → (s.pair s.active).live = true → (s.pair s.standby).live = false →
    (s.pair s.standby).stopped = false →
    (Does (.pairRestart τ true) s0 fun t => (t.pair s.standby).live = true ∧ (t.pair s.standby).synced = true) ∧
    (Does (.pairRestart τ false) s0 fun t => (t.pair s.standby).stopped = true)) ∧
  (∀ (s0 : State) (τ t0 : Nat), let s := s0.due τ; s.dev.silentSince = some t0 → t0 + 5000000 ≤ τ → s.now ≤ τ → s.dev.housesStopped = false →
    s.dev.st ≠ .off → s.dev.st ≠ .boot →
    ((recent τ 3600000000000 s.dev.restarts).length < 3 → Does (.cellarCoreRestart τ) s0 fun t =>
      t.dev.st = .recovery ∧ t.dev.silentSince = none ∧ t.dev.restarts = τ :: recent τ 3600000000000 s.dev.restarts) ∧
    (3 ≤ (recent τ 3600000000000 s.dev.restarts).length → Does (.cellarCoreRestart τ) s0 fun t => t.dev.housesStopped = true ∧ t.dev.st = s.dev.st))

/-- SAMPLE_EVENT of a running lane at its time (R37, R93, R95, R483): the SNAPSHOT commands that wait for the axis are answered and wait
no longer, and nothing of the Attic or of the stored configuration changes (derived). -/
def Sys2Proof.Parts.SampleEventAnswersSnapshots : Prop :=
  ∀ (s0 : State) (τ n k : Nat) (samples : List (List Int × List Nat)) (computed spareOk : Bool), let s := s0.due τ; s.seAxis n = some k →
    (s.lane n).seDue (s.clock τ).now = true →
    Does (.sampleEvent τ n samples computed spareOk) s0 fun t =>
      (∀ w ∈ t.snaps, w.axis ≠ k) ∧ (∀ w ∈ s.snaps, w.axis ≠ k → w ∈ t.snaps) ∧ t.attic = s.attic ∧ t.config = s.config

/-- The deadline of the shadow registers and the dispatch of the words (R39, R41, R42, Table 1.7): at T − 0.50 µs a computation that has
written its words clears the run of overruns, one that has not leaves the words of the period before and counts one, the second in a row
raises LANE_OVERRUN and LANE_MISMATCH, and words in place go out at T − 0.40 µs; the lane's other marks stay (derived). -/
def Sys2Proof.Parts.DeadlineAndDispatch : Prop :=
  ∀ (s0 : State) (τ n k : Nat), let s := s0.due τ; s.seAxis n = some k → s.now ≤ τ → (s.lane n).first = false → (s.lane n).dispatched = false →
    ((s.lane n).before τ 500 = true → (s.lane n).filled = true →
      Does (.shadowDeadline τ n) s0 fun t => t.lane n = { s.lane n with overruns := 0 } ∧ t.params = s.params ∧ t.standing = s.standing) ∧
    ((s.lane n).before τ 500 = true → (s.lane n).filled = false → (s.lane n).overruns = 0 →
      Does (.shadowDeadline τ n) s0 fun t => (t.lane n).filled = true ∧ (t.lane n).overruns = 1 ∧ t.standing = s.standing) ∧
    ((s.lane n).before τ 500 = true → (s.lane n).filled = false → 1 ≤ (s.lane n).overruns → n < 4 →
      Does (.shadowDeadline τ n) s0 fun t => t.Stands 0x0202 n ∧ t.Stands 0x0201 n) ∧
    ((s.lane n).before τ 400 = true → (s.lane n).filled = true →
      Does (.edgeDispatch τ n) s0 fun t => t.lane n = { s.lane n with dispatched := true } ∧ t.params = s.params ∧ t.axes = s.axes ∧ t.standing = s.standing)

/-- Lane faults (R136, R137, R141, R144): a mismatch of an active lane raises LANE_MISMATCH on its axis, the spare on standby takes
the lane over, and a self-test ends the lane's turn (derived). -/
def Sys2Proof.Parts.LaneFaults : Prop :=
  ∀ (s0 : State) (τ n k : Nat), let s := s0.due τ; n < 4 →
    (s.laneActive n = true → s.axisOfLane n = some k → s.service.swaps = [] →
      Does (.laneMismatch τ n false) s0 fun t => t.Stands 0x0201 n) ∧
    (s.laneActive n = true → s.axisOfLane n = some k → s.service.swaps = [] → s.par P.laneRole 4 = 2 →
      Does (.laneMismatch τ n false) s0 fun t => t.parN P.spareFor = n ∧ t.par P.laneRole n = 3 ∧ t.par P.laneRole 4 = 0) ∧
    ((s.lane n).testDue = true → ∀ pass, Does (.laneSelfTest τ n pass) s0 fun t => t.lane n = { s.lane n with testDue := false } ∧ t.axes = s.axes)

/-- HOUSE_SILENT and BRIDGE_IMBALANCE (R50, R128): a switching axis whose pairs have been silent for more than 5 ms, and one whose
bridges have stayed out of balance for 10 ms, has the fault raised on it, where no higher trigger acts in the same period
(R60; derived). -/
def Sys2Proof.Parts.AxisSupervision : Prop :=
  ∀ (s0 : State) (τ k : Nat), let s := s0.due τ; k < 4 → s.switching k = true → s.freeTurn τ k = true →
    (s.noPair = true → (s.ax k).hearth.takenAt + 5000000 < τ → (s.ax k).hearth.silentTau = none →
      Does (.houseSilent τ k) s0 fun t => t.Stands 0x0206 k ∧ (t.ax k).hearth.silentTau.isSome = true) ∧
    (∀ t0, (s.ax k).hearth.balSince = some t0 → t0 + 10000000 ≤ τ → Does (.bridgeImbalance τ k) s0 fun t => t.Stands 0x0204 k)

/-- Phase overcurrent (R188, Table 4.6): what the detector of a bridge sees is kept for its bridge; its rise raises PHASE_OC, and its
fall raises nothing and changes no axis (derived). -/
def Sys2Proof.Parts.PhaseOvercurrent : Prop :=
  ∀ (s0 : State) (τ b : Nat) (raw : List Int), let s := s0.due τ; b < 4 →
    ((s.clock τ).ocDetect b raw = true → (s.bridge b).oc = false → (∀ k, k < 4 → s.freeTurn τ k = true) →
      Does (.phaseOc τ b raw) s0 fun t => t.Stands 0x0301 b ∧ (t.bridge b).oc = true) ∧
    ((s.clock τ).ocDetect b raw = false →
      Does (.phaseOc τ b raw) s0 fun t => (t.bridge b).oc = false ∧ t.axes = s.axes ∧ t.standing = s.standing ∧ t.cellar = s.cellar)

/-- The supervision of the current senses raises its fault once its count is reached (Table 4.6): a modulator stream without a
transition in 32 clocks, the sum of the phase currents for 8 periods, the offset of a phase for 16, and the disagreement of two
voltage readings of a link for 4; a stream with transitions ends its mark (derived). -/
def Sys2Proof.Parts.SenseFaults : Prop :=
  ∀ (s0 : State) (τ : Nat), let s := s0.due τ
    (∀ d wave, d < 12 → s.par P.csMode (d / 3) = 1 → (s.clock τ).sdAlive wave = false → Does (.sdStream τ d wave) s0 fun t => t.Stands 0x0302 (d / 3)) ∧
    (∀ d wave, d < 12 → s.par P.csMode (d / 3) = 1 → (s.clock τ).sdAlive wave = true →
      Does (.sdStream τ d wave) s0 fun t => bit (t.par P.sdFaults) d = false ∧ t.axes = s.axes) ∧
    (∀ b, b < 4 → 8 ≤ (s.bridge b).sumRun → Does (.senseSum τ b) s0 fun t => t.Stands 0x0303 b) ∧
    (∀ b x, b < 4 → 16 ≤ (s.bridge b).ofsRun.getD x 0 → Does (.senseOffset τ b x) s0 fun t => t.Stands 0x0304 b) ∧
    (∀ l, l < 2 → 4 ≤ (s.link l).disagreeRun → Does (.vdcDisagree τ l) s0 fun t => t.Stands 0x0306 l)

/-- The reference check of a bridge (R178, R188): at SE + T/4 of every 64th period the run of bad checks of each converter grows or
ends; the second bad check in a row of a converter raises SENSE_REF (derived). -/
def Sys2Proof.Parts.SenseReferenceCheck : Prop :=
  ∀ (s0 : State) (τ b k : Nat) (cur : List Int) (volt : Int), let s := s0.due τ
    b < 4 → s.axisOfBridge b = some k → s.now ≤ τ →
    (s.lane (s.laneOf k)).running = true → (s.lane (s.laneOf k)).first = false → (s.lane (s.laneOf k)).periodNo % 64 = 0 →
    (s.bridge b).refPeriods ≠ (s.lane (s.laneOf k)).periodNo + 1 → τ = ((s.lane (s.laneOf k)).seX + 20 * s.cycOf k) / 32 →
    (volt = 32768 → (∀ c ∈ cur, c = 16384) → Does (.senseRefCheck τ b cur volt) s0 fun t =>
      t.bridge b = { s.bridge b with refRun := [0, 0, 0, 0], refPeriods := (s.lane (s.laneOf k)).periodNo + 1 } ∧ t.standing = s.standing) ∧
    (33 < iabs (volt - 32768) → 1 ≤ (s.bridge b).refRun.getD 3 0 → Does (.senseRefCheck τ b cur volt) s0 fun t => t.Stands 0x0305 b)

/-- Conversions outside the control period (R159, R182): a bridge without SEs converts by itself every 10 µs, and the peak sequence of a
shunt bridge at single update samples its link at the carrier's peak (derived). -/
def Sys2Proof.Parts.OtherConversions : Prop :=
  (∀ (s0 : State) (τ b : Nat) (raw : List Int) (rawV : List Nat), let s := s0.due τ; b < 4 → s.axisOfBridge b = none → (s.bridge b).convAt + 10000 ≤ τ →
    Does (.selfTriggerConversion τ b raw rawV) s0 fun t => (t.bridge b).convAt = (s.clock τ).now) ∧
  (∀ (s0 : State) (τ n k : Nat) (samples : List (List Int × List Nat)), let s := s0.due τ; s.seAxis n = some k → s.hp k P.update = 0 → s.now ≤ τ →
    (s.lane n).first = false → τ = ((s.lane n).seX + 80 * (s.lane n).half) / 32 → (∀ b, b < 4 → s.parN P.brLink b < 2) →
    Does (.carrierPeakSample τ n samples) s0 fun t => ∀ b ∈ s.bridgesOf k, s.par P.csMode b = 0 → (t.link (s.parN P.brLink b)).sampleAt = some τ)

/-- The voter's bookkeeping (R199, R207, R757): a source 5 ms outside the majority is dropped, one back inside for 1 s is readmitted, the
injected sign reverses after its number of half periods, and an axis whose lane gives no SEs fuses by itself every 50 µs with the flux
and injection sources invalid (derived). -/
def Sys2Proof.Parts.SourceEvents : Prop :=
  ∀ (s0 : State) (τ k src : Nat), let s := s0.due τ; k < 4 → src < 4 →
    (∀ t0, ((s.ax k).pos.srcs.getD src {}).outSince = some t0 → ((s.ax k).pos.srcs.getD src {}).dropped = false → t0 + 5000000 ≤ τ →
      Does (.sourceDropped τ k src) s0 fun t => ((t.ax k).pos.srcs.getD src {}).dropped = true ∧ (t.ax k).st = (s.ax k).st ∧ t.standing = s.standing) ∧
    (∀ t0, ((s.ax k).pos.srcs.getD src {}).inSince = some t0 → ((s.ax k).pos.srcs.getD src {}).dropped = true → t0 + 1000000000 ≤ τ →
      Does (.sourceReadmitted τ k src) s0 fun t => ((t.ax k).pos.srcs.getD src {}).dropped = false ∧ (t.ax k).st = (s.ax k).st ∧ t.standing = s.standing) ∧
    (bit (s.par P.posStatus k) 6 = true → s.hp k P.waggleHalf ≤ ((s.ax k).pos.wagCount : Int) →
      Does (.waggleReversal τ k) s0 fun t => (t.ax k).pos.wagSign = !(s.ax k).pos.wagSign ∧ (t.ax k).pos.wagCount = 0 ∧ t.params = s.params) ∧
    ((s.lane (s.laneOf k)).running = false → 0 < (s.bridgesOf k).length → (s.clock τ).fusionDue k = true →
      Does (.fusionSelfTimed τ k) s0 fun t => (t.ax k).pos.flux.valid = false ∧ (t.ax k).pos.waggle.valid = false ∧
        (t.ax k).pos.fusedAt = some (s.clock τ).now ∧ (t.ax k).st = (s.ax k).st ∧ t.standing = s.standing)

/-- Six-step commutation (R224, Table 2.4): a missing crossing is a loss of synchronism, and a source that has contributed for 100 ms
returns the axis from LIMP to RUNNING (derived). -/
def Sys2Proof.Parts.SixStepEvents : Prop :=
  ∀ (s0 : State) (τ k : Nat), let s := s0.due τ; k < 4 →
    ((s.ax k).pos.six = true → (s.ax k).pos.proc = .none → 0 < (s.ax k).pos.interval → 2 * (s.ax k).pos.crossAt + 3 * (s.ax k).pos.interval ≤ 2 * τ →
      s.par P.catchUsed k < s.hp k P.catchTries →
      Does (.limpCrossingTimeout τ k) s0 fun t => ((t.ax k).pos.proc = .catchShort ∨ (t.ax k).pos.proc = .catchDecay) ∧ t.standing = s.standing) ∧
    ((s.ax k).st = .limp → (s.clock τ).backFor100 k = true →
      Does (.limpReturn τ k) s0 fun t => (t.ax k).st = .running ∧ (t.ax k).prev = .limp ∧ (t.ax k).pos.six = false)

/-- The scout start (Table 5.4, R212 to R215): settling that takes 50 ms fails the try, the last failed try raises SCOUT_FAIL, the first
pulse ends POL_TIME after it came to act in a decay, and the back check ends the procedure after 2 s without travel against it
(derived). -/
def Sys2Proof.Parts.ScoutStart : Prop :=
  ∀ (s0 : State) (τ k : Nat), let s := s0.due τ; k < 4 →
    ((s.ax k).pos.proc = .scoutSettle → (s.lane (s.laneOf k)).first = false → (s.ax k).pos.procAt + 50000000 ≤ τ → s.hp k P.scoutTries ≤ s.par P.scoutCount k → s.freeTurn τ k = true →
      Does (.scoutSettleTimeout τ k) s0 fun t => t.Stands 0x0402 k) ∧
    ((s.ax k).pos.proc = .scoutSettle → (s.lane (s.laneOf k)).first = false → (s.ax k).pos.procAt + 50000000 ≤ τ → s.par P.scoutCount k < s.hp k P.scoutTries →
      Does (.scoutSettleTimeout τ k) s0 fun t => (t.ax k).pos.proc = .scoutRetryDecay ∧ (t.ax k).pos.procAt = (s.clock τ).now ∧ t.standing = s.standing) ∧
    (∀ t0, (s.ax k).pos.proc = .scoutPlus → (s.ax k).pos.pulseAt = some t0 → t0 + (s.hp k P.polTime).toNat * 1000 ≤ τ → ∀ raw,
      Does (.polarityPulseEnd τ k raw) s0 fun t => (t.ax k).pos.proc = .scoutDecay ∧ (t.ax k).pos.procAt = (s.clock τ).now ∧ t.standing = s.standing) ∧
    ((s.ax k).pos.proc = .scoutBack → 0 ≤ (s.ax k).pos.travel → 0 ≤ s.hp k P.scoutBack → (s.ax k).pos.releaseAt + 2000000000 ≤ τ →
      Does (.scoutBackCheckEnd τ k) s0 fun t => (t.ax k).pos.proc = .none ∧ t.standing = s.standing)

/-- The catch (R218 to R221): currents that have decayed let the voltage method begin, 16 good innovations lock, an EMF too small for 2 ms
starts a scout where injection is allowed, an attempt without lock for 10 ms begins the next from the state reached or, without one
left, raises POS_LOST, and 1 s after a catch the count of attempts is cleared (derived). -/
def Sys2Proof.Parts.CatchProcedure : Prop :=
  ∀ (s0 : State) (τ k : Nat), let s := s0.due τ; k < 4 →
    (∀ codes, (s.ax k).pos.proc = .catchDecay → ((s.clock τ).takeCodes (s.bridgesOf k) codes).currentsBelow k (s.hp k P.catchZero) = true →
      Does (.currentDecayed τ k codes) s0 fun t => (t.ax k).pos.proc = .catchVoltage ∧ (t.ax k).pos.lockRun = 0) ∧
    (((s.ax k).pos.proc = .catchVoltage ∨ (s.ax k).pos.proc = .catchShort) → 16 ≤ (s.ax k).pos.lockRun →
      Does (.catchLock τ k) s0 fun t => (t.ax k).pos.proc = .catchRamp ∧ (t.ax k).pos.valid = true ∧ (t.ax k).pos.lastContrib = some (s.clock τ).now) ∧
    (∀ t0, (s.ax k).pos.emfLowSince = some t0 → (s.ax k).pos.proc = .catchVoltage → t0 + 2000000 ≤ τ → bit (s.hp k P.posSources) 1 = true →
      s.hp k P.machine = 0 → Does (.catchNoEmf τ k) s0 fun t => (t.ax k).pos.proc = .scoutSettle) ∧
    ((s.ax k).pos.proc = .catchVoltage → (s.ax k).pos.detectAt + 10000000 ≤ τ → s.par P.catchUsed k < s.hp k P.catchTries →
      Does (.catchAttemptTimeout τ k) s0 fun t =>
        ((t.ax k).pos.proc = .catchShort ∨ (t.ax k).pos.proc = .catchVoltage) ∧ (t.ax k).pos.detectAt = (s.clock τ).now ∧ t.standing = s.standing) ∧
    ((s.ax k).pos.proc = .catchVoltage → (s.ax k).pos.detectAt + 10000000 ≤ τ → s.hp k P.catchTries ≤ s.par P.catchUsed k → s.freeTurn τ k = true →
      Does (.catchAttemptTimeout τ k) s0 fun t => t.Stands 0x0401 k) ∧
    (∀ t0, (s.ax k).pos.rampEndAt = some t0 → s.par P.catchUsed k ≠ 0 → bit (s.par P.posStatus k) 0 = true → t0 + 1000000000 ≤ τ →
      Does (.catchUsedReset τ k) s0 fun t => t.par P.catchUsed k = 0 ∧ (t.ax k).pos.rampEndAt = none ∧ (t.ax k).st = (s.ax k).st ∧ t.standing = s.standing)

/-- A quadrature transition of one line (R240, R241): the levels are taken and the count moves by one, up where A leads, down where B
does; no axis, fault or lane changes (derived). -/
def Sys2Proof.Parts.EncoderCounts : Prop :=
  ∀ (s0 : State) (τ k stamp hold : Nat) (a b z : Bool), let s := s0.due τ; k < 4 → s.fp k P.encMode k = 1 → s.fp k P.encMinEdge k ≤ (hold : Int) →
    (a ≠ (s.enc k).a → b = (s.enc k).b → Does (.encTransition τ k a b z stamp hold) s0 fun t =>
      t.par P.encCount k = signed 32 (unsigned 32 (s.par P.encCount k + if a ≠ b then 1 else -1)) ∧ (t.enc k).a = a ∧ (t.enc k).b = b ∧
        (t.enc k).lastT = stamp ∧ t.axes = s.axes ∧ t.standing = s.standing) ∧
    (a = (s.enc k).a → b ≠ (s.enc k).b → Does (.encTransition τ k a b z stamp hold) s0 fun t =>
      t.par P.encCount k = signed 32 (unsigned 32 (s.par P.encCount k + if a = b then 1 else -1)) ∧ (t.enc k).a = a ∧ (t.enc k).b = b ∧
        (t.enc k).lastT = stamp ∧ t.axes = s.axes ∧ t.standing = s.standing)

/-- Index and standstill (R247, R253, R254, R256): an index event in the direction of travel is kept with the count it came at, the first
one references the encoder at the sample that follows, a turn without one is marked, and ENC_STILL_TIME without a transition is
standstill (derived; the sample that decides is the model's choice, log entry 207). -/
def Sys2Proof.Parts.EncoderIndex : Prop :=
  ∀ (s0 : State) (τ k : Nat), let s := s0.due τ; k < 4 →
    (s.fp k P.encMode k = 1 → s.fp k P.encIndexEn k = 1 → (s.enc k).fb.faulty = false → (s.enc k).lastDir = 1 →
      Does (.indexEvent τ k true) s0 fun t => t.enc k = { s.enc k with z := true, travel := 0, idx := (s.enc k).idx ++ [s.par P.encCount k] } ∧
        t.axes = s.axes ∧ t.params = s.params ∧ t.standing = s.standing) ∧
    (∀ c, s.axisOfIface k = none → s.ifaceSet k = true → (s.enc k).fb.sampleAt + 50000 ≤ τ → (s.enc k).fb.faulty = false → (s.enc k).needRef = true →
      (s.enc k).idx = [c] → Does (.feedbackSelfSample τ k) s0 fun t => (t.enc k).referenced = true ∧ (t.enc k).needRef = false ∧ (t.enc k).idx = []) ∧
    (s.fp k P.encMode k = 1 → s.fp k P.encIndexEn k = 1 → (s.enc k).referenced = true → (s.cpt k : Int) + s.fp k P.encIdxTol k < (s.enc k).travel →
      Does (.indexMissed τ k) s0 fun t => t.enc k = { s.enc k with travel := 0, idxMissed := true } ∧ t.axes = s.axes ∧ t.standing = s.standing) ∧
    (s.fp k P.encMode k ≠ 0 → (s.enc k).still = false → ((s.enc k).lastT : Int) + 1000 * s.fp k P.encStillTime k < τ →
      Does (.encStandstill τ k) s0 fun t => t.enc k = { s.enc k with still := true, sinceStill := 0, run := [] } ∧ t.axes = s.axes ∧ t.params = s.params ∧ t.standing = s.standing)

/-- Resolvers (R257, R258, R261): a sample pair at its peak is taken with its time, an excitation fault stops the excitation and declares
the interface faulty, and it restarts once per second (derived). -/
def Sys2Proof.Parts.ResolverEvents : Prop :=
  ∀ (s0 : State) (τ k : Nat), let s := s0.due τ; k < 2 → s.ifaceOn (4 + k) = true →
    (∀ (x y : Int) (pos : Bool), (s.res k).excOn = true → (s.clock τ).pairDue k pos = true → Does (.resolverSamplePair τ k x y pos) s0 fun t =>
      (t.res k).started = true ∧ (t.res k).pairAt = (s.clock τ).now ∧ (t.res k).sinCode = clamp x (-32768) 32767 ∧ (t.res k).cosCode = clamp y (-32768) 32767) ∧
    ((s.res k).excOn = true → Does (.resExc τ k) s0 fun t => (t.res k).excOn = false ∧ (t.res k).excAt = (s.clock τ).now ∧ (t.res k).fb.faulty = true) ∧
    ((s.res k).excOn = false → (s.res k).fb.faulty = true → (s.res k).excAt + 1000000000 ≤ τ →
      Does (.resExcRestart τ k) s0 fun t => (t.res k).excOn = true ∧ (t.res k).fb.clearSince = (s.clock τ).now ∧ t.axes = s.axes ∧ t.standing = s.standing)

/-- SSI frames (R262 to R268): a frame starts once the recovery time is over, so that it ends before the SE it is for; a good frame ends
the run of bad ones, and a start bit that does not come within 2 µs of the first rising edge makes the frame bad (derived). -/
def Sys2Proof.Parts.SsiFrames : Prop :=
  ∀ (s0 : State) (τ k : Nat), let s := s0.due τ; k < 4 →
    (∀ (m : Nat) (high : Bool), s.ifaceOn (6 + k) = true → (s.ssi k).busy = false → (s.ssi k).idleAt + s.fpN (6 + k) P.ssiRecovery k * 1000 ≤ τ →
      (s.clock τ).ssiAhead k = some m → s.par P.ssiEvery k ≤ (s.ssi k).seCount + m →
      Does (.ssiFrameStart τ k high) s0 fun t =>
        t.ssi k = { s.ssi k with busy := true, startAt := (s.clock τ).now, endAt := (s.clock τ).now + s.ssiTime k, seCount := -(m : Int), startHigh := high } ∧
          t.params = s.params ∧ t.standing = s.standing) ∧
    ((s.ssi k).busy = true → (s.ssi k).startAt + s.ssiClk k / 2 + 2000 ≤ τ →
      Does (.ssiStartTimeout τ k) s0 fun t => (t.ssi k).busy = false ∧ (t.ssi k).badRun = (s.ssi k).badRun + 1 ∧ (t.ssi k).idleAt = (s.clock τ).now) ∧
    (∀ bits delay, (s.ssi k).busy = true → s.fp (6 + k) P.ssiEn k = 1 → (s.ssi k).startHigh = false → (s.clock τ).now = (s.ssi k).endAt → delay ≤ 2000 →
      Does (.ssiFrameCheck τ k bits delay) s0 fun t => (t.ssi k).busy = false ∧ (t.ssi k).badRun = 0 ∧ (t.ssi k).fresh = true ∧ t.axes = s.axes ∧ t.standing = s.standing)

/-- The speed loop of a running axis (R276, R279): each tick is taken no earlier than its period after the one before, and it leaves a
setpoint set committed for the Hearth (derived). -/
def Sys2Proof.Parts.SpeedLoopCommits : Prop :=
  ∀ (s0 : State) (τ k : Nat), let s := s0.due τ; k < 4 → s.coresRun = true → (s.ax k).st = .running → s.par P.thCold ≠ 2 → (s.ax k).speed.uvStop = false →
    s.freeTurn τ k = true → (s.ax k).speed.tickAt + 1000000000 / max 1 (s.spN k P.speedLoopFreq) ≤ τ →
    Does (.speedLoopTick τ k) s0 fun t => (t.ax k).speed.tickAt = (s.clock τ).now ∧ (t.ax k).hearth.commit = true

/-- The guards of the shock loop (R291, R293, R294): rendering ends after its dwell with w_ref at the rotor's speed, a dip that lasts is
venting, and its end keeps a cap; the axis stays in its state and no fault is raised (derived). -/
def Sys2Proof.Parts.ShockGuards : Prop :=
  ∀ (s0 : State) (τ k t0 : Nat), let s := s0.due τ; k < 4 →
    ((s.ax k).speed.calmSince = some t0 → (s.ax k).speed.render = true → t0 + s.spN k P.snatchDwell * 1000000 ≤ τ →
      Does (.snatchDwellEnd τ k) s0 fun t => (t.ax k).speed.render = false ∧ (t.ax k).speed.wRef = s.loopSpeed k (s.ax k).speed.inHive ∧
        (t.ax k).st = (s.ax k).st ∧ t.standing = s.standing) ∧
    ((s.ax k).speed.ventLowSince = some t0 → (s.ax k).speed.vented = false → t0 + s.spN k P.ventDetect * 1000000 ≤ τ →
      Does (.vented τ k) s0 fun t => (t.ax k).speed.vented = true ∧ (t.ax k).speed.ventV = s.par P.posSpeed k ∧ (t.ax k).st = (s.ax k).st ∧
        t.standing = s.standing) ∧
    ((s.ax k).speed.ventHighSince = some t0 → (s.ax k).speed.vented = true → t0 + s.spN k P.ventDetect * 1000000 ≤ τ →
      Does (.ventedEnd τ k) s0 fun t => (t.ax k).speed.vented = false ∧ (t.ax k).speed.ventCap.isSome = true ∧ (t.ax k).st = (s.ax k).st ∧
        t.standing = s.standing)

/-- A stop ends at standstill (R283, R284): after ZERO_TIME the axis enters the end state that the cause of the stop gave (derived). -/
def Sys2Proof.Parts.StopEndsAtStandstill : Prop :=
  ∀ (s0 : State) (τ k t0 : Nat), let s := s0.due τ; k < 4 → (s.ax k).st = .stopping → (s.ax k).speed.zeroSince = some t0 → t0 + s.spN k P.zeroTime * 1000000 ≤ τ →
    ((s.ax k).stopEnd = .ready → Does (.standstillReached τ k) s0 fun t => (t.ax k).st = .ready ∧ (t.ax k).prev = .stopping) ∧
    ((s.ax k).stopEnd = .disabled → Does (.standstillReached τ k) s0 fun t => (t.ax k).st = .disabled ∧ (t.ax k).prev = .stopping) ∧
    ((s.ax k).stopEnd = .sto → Does (.standstillReached τ k) s0 fun t => (t.ax k).st = .sto ∧ (t.ax k).prev = .stopping)

/-- DC links (R295, R296, R302): a chopper turns off once it has been on for CHOP_MIN_ON and the link is low enough, its on-time is
counted into the energy model each millisecond, and an undervoltage of 1 ms is recorded on every axis of the link (derived). -/
def Sys2Proof.Parts.LinkEvents : Prop :=
  ∀ (s0 : State) (τ l : Nat), let s := s0.due τ; l < 2 →
    ((s.link l).chopOn = true → (s.link l).chopAt + s.lpN l P.chopMinOn * 1000 ≤ τ → s.par P.linkV l ≤ s.lp l P.chopOff →
      Does (.chopMinOnEnd τ l) s0 fun t => (t.link l).chopOn = false ∧ t.axes = s.axes ∧ t.standing = s.standing) ∧
    (s.firmware = true → (s.link l).energyAt + 1000000 ≤ τ → Does (.chopEnergyUpdate τ) s0 fun t =>
      (t.link l).onNs = 0 ∧ 0 ≤ (t.link l).energyMj ∧ (t.link l).energyAt = (s.clock τ).now ∧ t.axes = s.axes ∧ t.standing = s.standing) ∧
    (∀ t0, (s.link l).uvSince = some t0 → t0 + 1000000 ≤ τ → ((s.axesOnLink l).any fun a => s.switching a) = true →
      Does (.linkUv τ l) s0 fun t => ∀ a ∈ s.axesOnLink l, (s.ax a).speed.uvStop = false → ∃ f ∈ t.standing, f.code = 0x0606 ∧ f.axis = a)

/-- Emergency command pins (R303 to R309): a reading is taken with its time, a pin lost for EC_LOSS_TIME takes an EMERGENCY axis into
a stop, and one second free of the loss brings it back (derived). -/
def Sys2Proof.Parts.EmergencyPins : Prop :=
  ∀ (s0 : State) (τ k : Nat), let s := s0.due τ; k < 4 →
    (∀ raw freq quiet, s.dev.st = .idle → s.par P.ecMode k = 1 → -10500 ≤ raw → raw ≤ 10500 →
      Does (.ecSample τ k raw freq quiet) s0 fun t => (t.ax k).ec.sampleAt = some (s.clock τ).now ∧ (t.ax k).ec.lossSince = none) ∧
    (∀ t0, (s.ax k).ec.lossSince = some t0 → (s.ax k).ec.lost = false → t0 + s.spN k P.ecLossTime * 1000000 ≤ τ →
      Does (.ecLost τ k) s0 fun t => (t.ax k).ec.lost = true ∧ ((s.ax k).st = .emergency → (t.ax k).st = .stopping)) ∧
    (∀ t0, (s.ax k).ec.freeSince = some t0 → (s.ax k).ec.lost = true → t0 + 1000000000 ≤ τ →
      Does (.ecBack τ k) s0 fun t => (t.ax k).ec.lost = false)

/-- The ring's cycle (R330, R332, R336): a cycle starts when HIVE_TIME has reached the next multiple of 20 µs, an accepted tray renews the
time of the last header, and the oldest view closes into the share record of its cycle (derived). -/
def Sys2Proof.Parts.RingCycle : Prop :=
  (∀ (s0 : State) (τ : Nat), let s := s0.due τ; s.ring.on = true → s.ring.boundary < ((s.clock τ).hivePs / 20000000).toNat →
    Does (.ringCycleStart τ) s0 fun t => t.ring.boundary = ((s.clock τ).hivePs / 20000000).toNat ∧ t.ring.on = true) ∧
  (∀ (s0 : State) (τ p frac : Nat) (bs : Bytes), let s := s0.due τ; s.ring.on = true → p < 2 → bs.length = 367 → ((s.rport p).pair0 || (s.rport p).pair1) = true →
    field bs 11 2 = crc16 (bs.take 11) → field bs 3 2 = s.parN P.hiveId → field bs 0 1 / 4 % 4 = s.rpN P.shareMode → (s.rport p).up = true →
    s.isCycleMaster = false → field bs 1 1 < 16 →
    Does (.trayReceived τ p bs frac) s0 fun t => t.ring.headerAt = (s.clock τ).now ∧ t.ring.on = true) ∧
  (∀ (s0 : State) (τ : Nat) (v : RingView) (vs : List RingView), let s := s0.due τ; s.ring.views = v :: vs →
    v.startAt + (if v.folded then 23550 else 21000) ≤ τ →
    Does (.viewClose τ) s0 fun t => (∀ w ∈ t.ring.views, w.cycle ≠ v.cycle) ∧ t.ring.record.cycle = v.cycle ∧ t.ring.record.complete = true)

/-- A tray with another HIVE_ID is foreign (R329): its port counts as down and HIVE_FOREIGN stands on it (derived). -/
def Sys2Proof.Parts.ForeignTrayClosesPort : Prop :=
  ∀ (s0 : State) (τ p frac : Nat) (bs : Bytes), let s := s0.due τ; s.ring.on = true → p < 2 → bs.length = 367 → ((s.rport p).pair0 || (s.rport p).pair1) = true →
    field bs 11 2 = crc16 (bs.take 11) → field bs 3 2 ≠ s.parN P.hiveId →
    Does (.trayReceived τ p bs frac) s0 fun t => t.Stands 0x0702 p ∧ (t.rport p).up = false ∧ (t.rport p).foreign = some (s.clock τ).now

/-- Members (R351 to R355, R341): the lowest member heard takes over 30 µs after the last header, both ports down for 60 µs is RING_LOST, a
running hive axis joins, and the ramps end in SHARING and in LEFT (derived, Table 8.10). -/
def Sys2Proof.Parts.RingMembers : Prop :=
  ∀ (s0 : State) (τ : Nat), let s := s0.due τ; s.ring.on = true →
    (s.isCycleMaster = false → s.ring.headerAt + 30000 ≤ τ → (∀ e ∈ s.ring.heardAt, s.member ≤ e.1) →
      Does (.cycleMasterTakeover τ) s0 fun t => t.parN P.cycleMaster = s.member ∧ t.ring.timeSet = true) ∧
    (∀ t0, s.ring.bothDownAt = some t0 → s.ring.lost = false → t0 + 60000 ≤ τ →
      Does (.ringLost τ) s0 fun t => t.ring.lost = true ∧ t.Stands 0x0705 0) ∧
    (s.par P.hiveState = 1 → (s.ax s.hiveAx).st = .running → bit (s.par P.posStatus s.hiveAx) 2 = false →
      bit (s.par P.posStatus s.hiveAx) 3 = false → s.ring.hasLeft = false → (s.shares && s.ring.minority) = false →
      Does (.memberJoining τ) s0 fun t => t.par P.hiveState = 2 ∧ t.ring.stateAt = (s.clock τ).now ∧ t.axes = s.axes) ∧
    (s.par P.hiveState = 2 → s.ring.stateAt + s.rpN P.handoverTime * 1000000 ≤ τ →
      Does (.joinRampEnd τ) s0 fun t => t.par P.hiveState = 3 ∧ t.ring.stateAt = (s.clock τ).now ∧ t.axes = s.axes) ∧
    (∀ t0, s.ring.leaveAt = some t0 → s.par P.hiveState = 5 → t0 + s.rpN P.handoverTime * 1000000 ≤ τ →
      Does (.leaveRampEnd τ) s0 fun t => t.par P.hiveState = 6 ∧ t.ring.leaveAt = none ∧ t.axes = s.axes)

/-- HIVE_EN (R353): written 1 with the hive axis DISABLED the ring starts cold, written 0 it ends with nothing left of it but that the member has
left since BOOT (R354; derived). -/
def Sys2Proof.Parts.HiveEnable : Prop :=
  ∀ (s0 : State) (τ : Nat), let s := s0.due τ; (s.ax s.hiveAx).st = .disabled →
    (s.ring.on = false → Does (.hiveEnWrite τ 1) s0 fun t => t.ring.on = true ∧ t.ring.headerAt = (s.clock τ).now ∧ t.ring.views = [] ∧ t.axes = s.axes) ∧
    (s.ring.on = true → Does (.hiveEnWrite τ 0) s0 fun t => t.ring = { hasLeft := s.ring.hasLeft } ∧ t.axes = s.axes)

/-- The gate of one channel (R367, R369, R370, R373, R380): its soft-off goes from its first step to its second at SOFT_SINK, a gate found off
stores when and is clamped, the plateau begins the second stage, and a waiting turn-on proceeds when the dead time is over. Each changes
that channel only (derived). -/
def Sys2Proof.Parts.GateChannel : Prop :=
  ∀ (s0 : State) (τ c : Nat), let s := s0.due τ; s.HeldSafe → c < 24 →
    let only (t : State) : Prop := (∀ d, d ≠ c → t.chan d = s.chan d) ∧ t.axes = s.axes ∧ t.standing = s.standing ∧ t.cellar = s.cellar ∧ t.lanes = s.lanes
    ((s.chan c).soft = .level → (s.chan c).softAt + s.cpN (c / 2) P.softTime * 100 ≤ τ →
      Does (.softOffLevelEnd τ c) s0 fun t => t.chan c = { s.chan c with soft := .sink, drive := .soft (s.cpN (c / 2) P.softSink) } ∧ t.params = s.params ∧ only t) ∧
    ((s.chan c).on = true → (s.chan c).cmd = false →
      Does (.gateOffDetected τ c) s0 fun t =>
        t.chan c = { (s.chan c).offStage (s.clock τ).now with on := false, offAt := (s.clock τ).now, clamp := true, soft := .none, ocTrip := false, drive := .clamp } ∧ only t) ∧
    (∀ plateau, (s.chan c).stage = .s1 → (s.chan c).soft = .none → (s.clock τ).now < (s.chan c).cmdAt + s.cpN (c / 2) P.stageTmax →
      Does (.gateStageChange τ c 0 plateau) s0 fun t => (t.chan c).stage = .s2 ∧ (t.chan c).stageAt = (s.clock τ).now ∧ (t.chan c).platMiss = false ∧
        (t.chan c).drive = s.driveOf c { s.chan c with stage := .s2 } ∧ t.params = s.params ∧ only t) ∧
    ((s.chan c).wait.isSome = true → (s.chan (if c % 2 = 0 then c + 1 else c - 1)).on = false →
      (s.chan (if c % 2 = 0 then c + 1 else c - 1)).offAt + s.gpN (c / 2) P.deadTime ≤ τ → s.refusesOn c = false →
      Does (.deadTimeExpired τ c) s0 fun t => (t.chan c).on = true ∧ (t.chan c).wait = none ∧ (t.chan c).stage = .s1 ∧
        (t.chan c).stageAt = (s.clock τ).now ∧ (t.chan c).cmdAt = (s.clock τ).now ∧ t.params = s.params ∧ only t)

/-- Placed edges (R39, R99, R104, R366, R370, R372): an edge in the moment in which the carrier and the words in force place it turns its
channel off, turns it on where the partner has been off for the dead time, and is dropped where the partner is commanded on (derived). -/
def Sys2Proof.Parts.PlacedEdges : Prop :=
  ∀ (s0 : State) (τ c k : Nat), let s := s0.due τ; s.HeldSafe → c < 24 → s.axisOfBridge (c / 6) = some k → (s.lane (s.laneOf k)).running = true →
    (s.ax k).asc = false → (s.ax k).forcedOff = false →
    let o := if c % 2 = 0 then c + 1 else c - 1
    ((s.clock τ).edgePlaced (s.laneOf k) c false = true →
      Does (.edgeAtGatePin τ c false) s0 fun t => (t.chan c).cmd = false ∧ (t.chan c).wait = none ∧ (∀ d, d ≠ c → t.chan d = s.chan d) ∧ t.axes = s.axes) ∧
    ((s.clock τ).edgePlaced (s.laneOf k) c true = true → (s.chan o).cmd = true →
      Does (.edgeAtGatePin τ c true) s0 fun t => t.chans = s.chans ∧ t.params = s.params ∧ t.axes = s.axes) ∧
    ((s.clock τ).edgePlaced (s.laneOf k) c true = true → (s.chan o).cmd = false → (s.chan c).cmd = false → s.refusesOn c = false → (s.chan o).on = false →
      (s.chan o).offAt + s.gpN (c / 2) P.deadTime ≤ τ →
      Does (.edgeAtGatePin τ c true) s0 fun t => (t.chan c).cmd = true ∧ (t.chan c).on = true ∧ (t.chan c).cmdAt = (s.clock τ).now ∧
        (∀ d, d ≠ c → t.chan d = s.chan d) ∧ t.axes = s.axes)

/-- Faults of the cells (R364, R371, R372, R376, R378, R379, R386): each is raised once its condition is met, on the channel, bridge or cell it
names, where no higher trigger acts in the same period (R60; derived, Table 9.9). -/
def Sys2Proof.Parts.CellFaults : Prop :=
  ∀ (s0 : State) (τ : Nat), let s := s0.due τ; (∀ k, k < 4 → s.freeTurn τ k = true) →
    (∀ c, c < 24 → (s.chan c).on = true → (s.chan c).desat = false → (s.chan c).onAt + s.cpN (c / 2) P.desatBlank ≤ τ →
      Does (.desat τ c) s0 fun t => t.Stands 0x0101 c) ∧
    (∀ c, c < 24 → (s.chan c).wait.isSome = true → (s.chan (if c % 2 = 0 then c + 1 else c - 1)).on = true →
      (s.chan (if c % 2 = 0 then c + 1 else c - 1)).cmd = false → (s.chan (if c % 2 = 0 then c + 1 else c - 1)).offCmdAt + 10000 ≤ τ →
      Does (.gateStuck τ c) s0 fun t => t.Stands 0x0104 (if c % 2 = 0 then c + 1 else c - 1)) ∧
    (∀ g, g < 12 → 2 ≤ (recent (s.clock τ).now 1000000 (s.cell g).cross).length → Does (.crossCmd τ g) s0 fun t => t.Stands 0x0103 (g / 3)) ∧
    (∀ g, g < 13 → (s.cell g).linkUp = true → Does (.cellLinkLoss τ g) s0 fun t => t.Stands 0x0106 g ∧ (t.cell g).linkUp = false) ∧
    (∀ c, c < 24 → c % 2 = 1 → (s.chan c).uv = false → Does (.gateSupply τ c true) s0 fun t => t.Stands 0x0105 c) ∧
    (∀ l, l < 2 → (s.chan (chopCh l)).on = true → Does (.chopOc τ l) s0 fun t => t.Stands 0x0604 l ∧ (t.link l).chopFault = true)

/-- Supplies and pins of the cells (R364, R374, R376, R378, R387): a status frame trains the link again and gives its bootstrap voltage, an
undervoltage and its end are kept in the channel, and a DG pin's level is kept (derived). -/
def Sys2Proof.Parts.CellSupplies : Prop :=
  ∀ (s0 : State) (τ : Nat), let s := s0.due τ
    (∀ g bootV vglp vgln, g < 13 → s.dev.st = .idle → Does (.cellStatusFrame τ g bootV vglp vgln) s0 fun t =>
      (t.cell g).linkUp = true ∧ t.par P.bootV g = (min 2500 bootV : Nat) ∧ t.axes = s.axes) ∧
    (∀ g v : Nat, g < 12 → (v : Int) < s.gp g P.bootUv → Does (.bootstrap τ g v) s0 fun t => (t.chan (hiCh g)).uv = true) ∧
    (∀ c, c < 24 → c % 2 = 1 → Does (.gateSupply τ c false) s0 fun t => (t.chan c).uv = false ∧ t.axes = s.axes ∧ t.cellar = s.cellar) ∧
    (∀ p high, p < 26 → Does (.dgEdge τ p high) s0 fun t => (t.chan p).dg = high)

/-- Hold-off (R384, R395, R396): a request holds every cell of its mask, its release ends that cause for the mask, OC_BACKSTOP holds the
cells of its bridge, and a cell that no cause holds shows it (derived, Table 9.7). -/
def Sys2Proof.Parts.HoldOffCauses : Prop :=
  ∀ (s0 : State) (τ : Nat), let s := s0.due τ
    (∀ mask, s.noPair = false → (∀ k, k < 4 → (s.ax k).st = .stopping → (s.ax k).precheck = none) → Does (.holdoffRequest τ mask true) s0 fun t => ∀ g ∈ bitsOf 13 mask, t.heldOff g = true) ∧
    (∀ mask, s.noPair = false → Does (.holdoffRequest τ mask false) s0 fun t =>
      tget t.cellar.causes 0 6 = maskOf ((bitsOf 13 (tget s.cellar.causes 0 6)).filter fun g => mask / 2 ^ g % 2 = 0) ∧
        (∀ e, e ≠ 6 → tget t.cellar.causes 0 e = tget s.cellar.causes 0 e) ∧ t.axes = s.axes ∧ t.params = s.params) ∧
    (∀ b, b < 4 → (s.bridge b).oc = true → (s.bridge b).ocAt + 2000 ≤ τ → ((chansOfBridge b).any fun c => (s.chan c).on && decide ((s.chan c).soft = .none)) = true →
      b ∉ s.cellar.backstop → Does (.ocBackstop τ b) s0 fun t => t.Stands 0x0902 b ∧ ∀ g ∈ cellsOfBridge b, t.heldOff g = true) ∧
    (∀ g, g < 13 → s.heldOff g = false → Does (.holdoffRelease τ g) s0 fun t => bit (t.par P.cellStatus g) 19 = false ∧ t.cellar = s.cellar ∧ t.axes = s.axes)

/-- An active short ends 100 ms after its currents have fallen below ASC_RELEASE (R382; derived). -/
def Sys2Proof.Parts.ActiveShortEnds : Prop :=
  ∀ (s0 : State) (τ k t0 : Nat), let s := s0.due τ; k < 4 → (s.ax k).asc = true → (s.ax k).ascSince = some t0 → t0 + 100000000 ≤ τ →
    Does (.ascRelease τ k) s0 fun t => t.ax k = { s.ax k with asc := false, ascSince := none } ∧ t.params = s.params ∧ t.standing = s.standing ∧ t.cellar = s.cellar

/-- The 29 sensors (R411 to R420, R425): a window keeps its raw counts; a count beyond the shutdown count of a sensor that is not broken holds
every cell off; and a broken sensor plausible for a second is in use again (derived). -/
def Sys2Proof.Parts.TemperatureWindow : Prop :=
  ∀ (s0 : State) (τ : Nat), let s := s0.due τ;
    (∀ counts : List Nat, s.dev.st ≠ .off → s.fanner.windowAt + 100000 ≤ τ →
      Does (.tempWindow τ counts) s0 fun t => t.fanner.windowAt = (s.clock τ).now ∧ (∀ n, n < 29 → t.par P.tsRaw n = (min 65535 (counts.getD n 0) : Nat)) ∧
        (tget s.cellar.causes 0 3 = 0 → (∃ n, n < 29 ∧ s.broken n = false ∧ s.overCount n (counts.getD n 0) = true) → ∀ g, g < 13 → t.heldOff g = true)) ∧
    (∀ n, n < 29 → s.broken n = true → 10000 ≤ (s.sensor n).good → Does (.tsPlausible τ n) s0 fun t =>
      t.broken n = false ∧ t.stands 0x0803 n = false ∧ (t.sensor n).bad = 0 ∧ t.axes = s.axes)

/-- Thermal states and levels (R419, R422, R424, R427, R429): a wanted state held for 2 s is taken, the Cellar's shutdown releases after 10 s
below 42 °C with TH_LEVEL at its highest, the grace ends in enforcement, an unacknowledged request is repeated each second, TH_ACK is kept, and the
60 s hold ends (derived). -/
def Sys2Proof.Parts.ThermalStates : Prop :=
  ∀ (s0 : State) (τ : Nat), let s := s0.due τ;
    (∀ t0, s.fanner.level.since = some t0 → s.par P.thState < 3 → t0 + 2000000000 ≤ τ → Does (.thermalStateChange τ 0) s0 fun t =>
      t.par P.thState = s.fanner.level.want ∧ t.fanner.level.hot = s.fanner.level.want ∧ t.fanner.level.since = none ∧ t.axes = s.axes ∧
        (s.fanner.level.want = 2 → t.par P.thAck = 0 ∧ t.fanner.level.graceAt = some (s.clock τ).now)) ∧
    (∀ t0, s.fanner.coldSince = some t0 → t0 + 2000000000 ≤ τ → (∀ k, k < 4 → s.freeTurn τ k = true) → Does (.thermalStateChange τ 1) s0 fun t =>
      t.par P.thCold = s.fanner.coldWant ∧ t.fanner.coldSince = none ∧
        (s.fanner.coldWant = 2 → ∀ k, k < 4 → s.switching k = true → (∀ j, j < k → s.switching j = false) → t.Stands 0x0802 k)) ∧
    (∀ t0, s.cellar.coolSince = some t0 → tget s.cellar.causes 0 3 ≠ 0 → s.par P.thState = 3 → t0 + 10000000000 ≤ τ →
      (recent (s.clock τ).now 3600000000000 s.cellar.releases).length < 3 → Does (.thermalSdRelease τ) s0 fun t =>
        tget t.cellar.causes 0 3 = 0 ∧ t.par P.thState = hotUp (s.par P.tsHot + s.clkMargin) ∧ t.parN P.thLevel = 1000 - s.tpN P.thFloor ∧
          t.fanner.level.enforcing = true ∧ t.axes = s.axes) ∧
    (∀ w t0, w < 5 → (s.levelOf w).graceAt = some t0 → (s.levelOf w).hot = 2 → t0 + s.tpN P.thGrace * 1000000 ≤ τ →
      Does (.thGraceExpired τ w) s0 fun t => t.levelOf w = { s.levelOf w with graceAt := none, enforcing := true } ∧ t.axes = s.axes) ∧
    (∀ w t0, w < 5 → (s.levelOf w).reqAt = some t0 → (s.levelOf w).hot = 2 → s.par P.thAck = 0 → t0 + 1000000000 ≤ τ →
      Does (.thRequestRepeat τ w) s0 fun t => t.levelOf w = { s.levelOf w with reqAt := some (s.clock τ).now } ∧ t.axes = s.axes) ∧
    Does (.thAck τ) s0 (fun t => t.par P.thAck = 1 ∧ t.fanner = s.fanner ∧ t.axes = s.axes) ∧
    (∀ u, s.fanner.hold60 = some u → u ≤ τ → Does (.hold60End τ) s0 fun t => t.fanner = { s.fanner with hold60 := none } ∧ t.axes = s.axes)

/-! ### The statements -/

/-- A step takes the command at the front of the queue and executes it on the state with the rest of the queue (derived; the queue is the model's, log
entry 8). On an empty queue the block idles (derived, log entry 8). Rests on the choices of the model in log entry 8. -/
def Obligations.StepRunsFront : Prop := Sys2Proof.Parts.StepRunsFront ∧ Sys2Proof.Parts.EmptyQueueIdles

/-- Every command completes, whatever the state: none ends in a fault or a refusal, and none changes the queue (derived). Rests on the choices of the
model in log entries 8, 9 and 184. -/
def Obligations.EveryCommandCompletes : Prop :=
  ∀ (c : Instr) (s : State), Does c s fun t => t.pending = s.pending

/-- The hold-off of the Cellar acts in every state a step can leave: no channel of a held-off cell is commanded on (R21, R384, R395). Rests on the
choices of the model in log entry 70. -/
def Obligations.HoldOffKept : Prop :=
  ∀ s t : State, s.HeldSafe → step s = .next t → t.HeldSafe

/-- At reset no channel of a held-off cell is commanded on, and the Larder is canonical (derived). Rests on the choices of the model in log entries 7,
10 and 183. -/
def Obligations.ResetIsSafe : Prop :=
  State.reset.HeldSafe ∧ State.reset.LarderWf ∧ ∀ g, g < 13 → State.reset.heldOff g = true

/-- Every step keeps the Larder's canonical form (derived, log entry 7). Rests on the choices of the model in log entry 7. -/
def Obligations.LarderFormKept : Prop :=
  ∀ s t : State, s.LarderWf → step s = .next t → t.LarderWf

/-- Bytes written to the Larder are read back, and every other byte keeps its value (R27, R30; derived, log entry 7). Rests on the choices of the
model in log entry 7. -/
def Obligations.LarderReadAfterWrite : Prop :=
  ∀ (s : State) (a : Nat) (bs : Bytes), s.LarderWf →
    (s.lwrite a bs).lread a bs.length = bs ∧ (s.lwrite a bs).LarderWf ∧
      ∀ b, (b < a ∨ a + bs.length ≤ b) → (s.lwrite a bs).byteAt b = s.byteAt b

/-- Power: the release of the power-on reset starts BOOT at the crystal, and a brown-out leaves the module in OFF with every cell held off (R56, R70;
derived, Table 2.2). Its clauses conclude that exec answers a next state, with the command's own effect, for the constructors powerOnResetRelease,
brownOut. Rests on the choices of the model in log entries 10 and 175. -/
def Obligations.PowerOnAndBrownOut : Prop :=
  (∀ (s0 : State) (τ : Nat), let s := s0.due τ; s.dev.st = .off → s.dev.supplyOk = false →
    Does (.powerOnResetRelease τ) s0 fun t =>
      t.dev.st = .boot ∧ t.dev.step = .crystal ∧ t.dev.supplyOk = true ∧ t.dev.bootAt = (s.clock τ).now ∧ t.dev.fromOff = true ∧
        t.larder = [] ∧ t.sessions = [] ∧ t.owner = {} ∧ ∀ g, g < 13 → t.heldOff g = true) ∧
  (∀ (s0 : State) (τ : Nat), let s := s0.due τ; s.dev.supplyOk = true → s.dev.st ≠ .off →
    Does (.brownOut τ) s0 fun t =>
      t.dev.st = .off ∧ t.dev.supplyOk = false ∧ t.dev.brown = true ∧ t.larder = [] ∧ t.sessions = [] ∧ t.axes = [] ∧
        ∀ g, g < 13 → t.heldOff g = true)

/-- The boot sequence (Table 2.6): each step that succeeds starts the next one, at the time of its command, and keeps the axes and the gate channels
as they were (R71; derived). The image checks of the boot (R74 to R77): a wing whose header and version pass goes on to its CRC, an image that
passes goes on to the lockstep self-test, two pairs that pass go on to the configuration; with none good the module holds or waits for a retry, a
bad Larder word or a failed pair of wings starts the loader (derived, Tables 2.6 and 2.7). BOOT by command starts when the reply has left its
queue, or 100 ms after it was written; the fault records live through it (R756, R658; derived). Its clauses conclude that exec answers a next
state, with the command's own effect, for the constructors crystalQualified, crystalTimeout, pllLocked, cellarSelfTest, atticLoad, larderInit,
cellLinkTraining, wingSelection, imageCrcCheck, lockstepSelfTest, bootSelfTestRetry, configLoad, bootAfterReply. Rests on the choices of the model
in log entries 3, 9, 110, 177, 178 and 190. -/
def Obligations.BootSequence : Prop := Sys2Proof.Parts.BootSteps ∧ Sys2Proof.Parts.BootImages ∧ Sys2Proof.Parts.BootAfterReplyStarts

/-- The reference: its loss and return are remembered in CLK_STATUS, and a control die clock more than 3 % off holds off every cell and raises
CLOCK_LOST (R25, R82, R83, Table 9.9; derived). The house cores (R51, R58, R66, R68): a fault of the active pair with a synchronised standby, or
of the firmware, takes the device to RECOVERY; without a standby ready the device waits, silent, for the Cellar. A pair that is not live restarts
as synchronised standby, and the Cellar restarts both pairs after 5 ms without one (derived). Its clauses conclude that exec answers a next state,
with the command's own effect, for the constructors referenceLost, crystalBack, clockCheckWindow, firmwareFault, pairRestart, cellarCoreRestart.
Rests on the choices of the model in log entries 111, 118, 180 and 191. -/
def Obligations.ReferenceAndHouses : Prop := Sys2Proof.Parts.ReferenceEvents ∧ Sys2Proof.Parts.HousePairs

/-- SAMPLE_EVENT of a running lane at its time (R37, R93, R95, R483): the SNAPSHOT commands that wait for the axis are answered and wait no longer,
and nothing of the Attic or of the stored configuration changes (derived). The deadline of the shadow registers and the dispatch of the words
(R39, R41, R42, Table 1.7): at T − 0.50 µs a computation that has written its words clears the run of overruns, one that has not leaves the words
of the period before and counts one, the second in a row raises LANE_OVERRUN and LANE_MISMATCH, and words in place go out at T − 0.40 µs; the
lane's other marks stay (derived). Its clauses conclude that exec answers a next state, with the command's own effect, for the constructors
sampleEvent, shadowDeadline, edgeDispatch. Rests on the choices of the model in log entries 3, 9, 24, 69, 193, 195 and 236. -/
def Obligations.LanePeriods : Prop := Sys2Proof.Parts.SampleEventAnswersSnapshots ∧ Sys2Proof.Parts.DeadlineAndDispatch

/-- Lane faults (R136, R137, R141, R144): a mismatch of an active lane raises LANE_MISMATCH on its axis, the spare on standby takes the lane over, and
a self-test ends the lane's turn (derived). HOUSE_SILENT and BRIDGE_IMBALANCE (R50, R128): a switching axis whose pairs have been silent for more
than 5 ms, and one whose bridges have stayed out of balance for 10 ms, has the fault raised on it, where no higher trigger acts in the same period
(R60; derived). Its clauses conclude that exec answers a next state, with the command's own effect, for the constructors laneMismatch,
laneSelfTest, houseSilent, bridgeImbalance. Rests on the choices of the model in log entries 9, 22, 192, 196, 217 and 238. -/
def Obligations.LanesAndAxes : Prop := Sys2Proof.Parts.LaneFaults ∧ Sys2Proof.Parts.AxisSupervision

/-- Phase overcurrent (R188, Table 4.6): what the detector of a bridge sees is kept for its bridge; its rise raises PHASE_OC, and its fall raises
nothing and changes no axis (derived). The supervision of the current senses raises its fault once its count is reached (Table 4.6): a modulator
stream without a transition in 32 clocks, the sum of the phase currents for 8 periods, the offset of a phase for 16, and the disagreement of two
voltage readings of a link for 4; a stream with transitions ends its mark (derived). The reference check of a bridge (R178, R188): at SE + T/4 of
every 64th period the run of bad checks of each converter grows or ends; the second bad check in a row of a converter raises SENSE_REF (derived).
Conversions outside the control period (R159, R182): a bridge without SEs converts by itself every 10 µs, and the peak sequence of a shunt bridge
at single update samples its link at the carrier's peak (derived). Its clauses conclude that exec answers a next state, with the command's own
effect, for the constructors phaseOc, sdStream, senseSum, senseOffset, vdcDisagree, senseRefCheck, selfTriggerConversion, carrierPeakSample. Rests
on the choices of the model in log entries 9, 26, 29, 31, 198, 199, 202, 228 and 232. -/
def Obligations.SensingFaults : Prop := Sys2Proof.Parts.PhaseOvercurrent ∧ Sys2Proof.Parts.SenseFaults ∧ Sys2Proof.Parts.SenseReferenceCheck ∧ Sys2Proof.Parts.OtherConversions

/-- The voter's bookkeeping (R199, R207, R757): a source 5 ms outside the majority is dropped, one back inside for 1 s is readmitted, the injected
sign reverses after its number of half periods, and an axis whose lane gives no SEs fuses by itself every 50 µs with the flux and injection
sources invalid (derived). Six-step commutation (R224, Table 2.4): a missing crossing is a loss of synchronism, and a source that has contributed
for 100 ms returns the axis from LIMP to RUNNING (derived). Its clauses conclude that exec answers a next state, with the command's own effect,
for the constructors sourceDropped, sourceReadmitted, waggleReversal, fusionSelfTimed, limpCrossingTimeout, limpReturn. Rests on the choices of
the model in log entries 35, 37, 40, 203 and 233. -/
def Obligations.RotorSources : Prop := Sys2Proof.Parts.SourceEvents ∧ Sys2Proof.Parts.SixStepEvents

/-- The scout start (Table 5.4, R212 to R215): settling that takes 50 ms fails the try, the last failed try raises SCOUT_FAIL, the first pulse ends
POL_TIME after it came to act in a decay, and the back check ends the procedure after 2 s without travel against it (derived). The catch (R218 to
R221): currents that have decayed let the voltage method begin, 16 good innovations lock, an EMF too small for 2 ms starts a scout where injection
is allowed, an attempt without lock for 10 ms begins the next from the state reached or, without one left, raises POS_LOST, and 1 s after a catch
the count of attempts is cleared (derived). Its clauses conclude that exec answers a next state, with the command's own effect, for the
constructors scoutSettleTimeout, polarityPulseEnd, scoutBackCheckEnd, currentDecayed, catchLock, catchNoEmf, catchAttemptTimeout, catchUsedReset.
Rests on the choices of the model in log entries 38, 39, 42, 205, 234 and 235. -/
def Obligations.ScoutAndCatch : Prop := Sys2Proof.Parts.ScoutStart ∧ Sys2Proof.Parts.CatchProcedure

/-- A quadrature transition of one line (R240, R241): the levels are taken and the count moves by one, up where A leads, down where B does; no axis,
fault or lane changes (derived). Index and standstill (R247, R253, R254, R256): an index event in the direction of travel is kept with the count
it came at, the first one references the encoder at the sample that follows, a turn without one is marked, and ENC_STILL_TIME without a transition
is standstill (derived; the sample that decides is the model's choice, log entry 207). Its clauses conclude that exec answers a next state, with
the command's own effect, for the constructors encTransition, indexEvent, feedbackSelfSample, indexMissed, encStandstill. Rests on the choices of
the model in log entries 33, 34 and 207. -/
def Obligations.EncoderLines : Prop := Sys2Proof.Parts.EncoderCounts ∧ Sys2Proof.Parts.EncoderIndex

/-- Resolvers (R257, R258, R261): a sample pair at its peak is taken with its time, an excitation fault stops the excitation and declares the
interface faulty, and it restarts once per second (derived). SSI frames (R262 to R268): a frame starts once the recovery time is over, so that it
ends before the SE it is for; a good frame ends the run of bad ones, and a start bit that does not come within 2 µs of the first rising edge makes
the frame bad (derived). Its clauses conclude that exec answers a next state, with the command's own effect, for the constructors
resolverSamplePair, resExc, resExcRestart, ssiFrameStart, ssiStartTimeout, ssiFrameCheck. Rests on the choices of the model in log entries 9, 36,
206 and 208. -/
def Obligations.ResolversAndSsi : Prop := Sys2Proof.Parts.ResolverEvents ∧ Sys2Proof.Parts.SsiFrames

/-- An interface and its health (R236, R243, R249, R270): a line of an encoder below its level declares the interface faulty, its return starts the
second free of it, an interface that no lane samples samples itself every 50 µs, and one second free of the conditions returns it with its filter
as it was (derived). Its clauses conclude that exec answers a next state, with the command's own effect, for the constructors fbLine,
feedbackSelfSample, fbReturn. Rests on the choices of the model in log entry 36. -/
def Obligations.InterfaceHealth : Prop :=
  ∀ (s0 : State) (τ : Nat), let s := s0.due τ
    (∀ k pair, k < 4 → s.fp k P.encMode k = 1 → pair < 2 → Does (.fbLine τ k pair true) s0 fun t =>
      (t.enc k).fb.faulty = true ∧ (t.enc k).fb.clearSince = (s.clock τ).now) ∧
    (∀ k pair, k < 4 → s.fp k P.encMode k = 1 → pair < 2 → (s.enc k).lineLoss = 2 ^ pair → Does (.fbLine τ k pair false) s0 fun t =>
      (t.enc k).lineLoss = 0 ∧ (t.enc k).fb.clearSince = (s.clock τ).now ∧ t.standing = s.standing ∧ t.axes = s.axes) ∧
    (∀ i, i < 10 → s.ifaceSet i = true → s.axisOfIface i = none → (s.fb i).sampleAt + 50000 ≤ τ → Does (.feedbackSelfSample τ i) s0 fun t =>
      (t.fb i).sampleAt = (s.clock τ).now ∧ t.axes = s.axes) ∧
    (∀ k, k < 4 → s.ifaceOn k = true → (s.enc k).fb.faulty = true → s.lineLow k = false → (s.enc k).faults = [] →
      (s.enc k).fb.clearSince + 1000000000 ≤ τ →
      Does (.fbReturn τ k) s0 fun t => (t.enc k).fb.faulty = false ∧ (t.enc k).still = true ∧ (t.enc k).fb.filt = (s.enc k).fb.filt)

/-- The speed loop of a running axis (R276, R279): each tick is taken no earlier than its period after the one before, and it leaves a setpoint set
committed for the Hearth (derived). The guards of the shock loop (R291, R293, R294): rendering ends after its dwell with w_ref at the rotor's
speed, a dip that lasts is venting, and its end keeps a cap; the axis stays in its state and no fault is raised (derived). A stop ends at
standstill (R283, R284): after ZERO_TIME the axis enters the end state that the cause of the stop gave (derived). Its clauses conclude that exec
answers a next state, with the command's own effect, for the constructors speedLoopTick, snatchDwellEnd, vented, ventedEnd, standstillReached.
Rests on the choices of the model in log entries 44, 45 and 214. -/
def Obligations.SpeedLoop : Prop := Sys2Proof.Parts.SpeedLoopCommits ∧ Sys2Proof.Parts.ShockGuards ∧ Sys2Proof.Parts.StopEndsAtStandstill

/-- DC links (R295, R296, R302): a chopper turns off once it has been on for CHOP_MIN_ON and the link is low enough, its on-time is counted into the
energy model each millisecond, and an undervoltage of 1 ms is recorded on every axis of the link (derived). Emergency command pins (R303 to R309):
a reading is taken with its time, a pin lost for EC_LOSS_TIME takes an EMERGENCY axis into a stop, and one second free of the loss brings it back
(derived). Its clauses conclude that exec answers a next state, with the command's own effect, for the constructors chopMinOnEnd,
chopEnergyUpdate, linkUv, ecSample, ecLost, ecBack. Rests on the choices of the model in log entries 47, 48, 49, 192 and 215. -/
def Obligations.LinksAndEmergencyPins : Prop := Sys2Proof.Parts.LinkEvents ∧ Sys2Proof.Parts.EmergencyPins

/-- The ring's cycle (R330, R332, R336): a cycle starts when HIVE_TIME has reached the next multiple of 20 µs, an accepted tray renews the time of the
last header, and the oldest view closes into the share record of its cycle (derived). A tray with another HIVE_ID is foreign (R329): its port
counts as down and HIVE_FOREIGN stands on it (derived). Its clauses conclude that exec answers a next state, with the command's own effect, for
the constructors ringCycleStart, trayReceived, viewClose. Rests on the choices of the model in log entries 80, 82 and 83. -/
def Obligations.RingCycle : Prop := Sys2Proof.Parts.RingCycle ∧ Sys2Proof.Parts.ForeignTrayClosesPort

/-- Ring ports (R320 to R322, R337, R350): a request is answered with its number, a response ends the request, the last pair's loss takes the port
down and folds it, a pair good for 50 µs brings it up, and a port up for 100 ms beside a named neighbour is ready (derived). Its clauses conclude
that exec answers a next state, with the command's own effect, for the constructors ringDelayRequest, ringDelayResponse, pairDown, pairUp,
portReady. Rests on the choices of the model in log entries 83 and 84. -/
def Obligations.RingPorts : Prop :=
  ∀ (s0 : State) (τ p : Nat), let s := s0.due τ; s.ring.on = true → p < 2 →
    (∀ seq member turn, (s.rport p).up = true → Does (.ringDelayRequest τ p seq member turn) s0 fun t =>
      t.rport p = { s.rport p with resp := leBytes 1 seq ++ leBytes 1 s.member ++ leBytes 2 turn } ∧ t.params = s.params ∧ t.axes = s.axes) ∧
    (∀ member turn rtt, (s.rport p).up = true → (s.rport p).reqOut = true → Does (.ringDelayResponse τ p (s.rport p).reqSeq member turn rtt) s0 fun t =>
      (t.rport p).reqOut = false ∧ (t.rport p).neighbour = some member ∧ (t.rport p).delays = ((2 * rtt - 625 * turn) / 4 :: (s.rport p).delays).take 16) ∧
    ((s.rport p).up = true → (s.rport p).pair1 = false → Does (.pairDown τ p 0) s0 fun t =>
      (t.rport p).up = false ∧ (t.rport p).fold = true ∧ (t.rport p).ready = false ∧ t.axes = s.axes) ∧
    ((s.rport p).up = false → (s.rport p).foreign = none → bit (s.par P.clkStatus) 0 = false → (s.rport p).down0 + 50000 ≤ τ →
      Does (.pairUp τ p 0) s0 fun t => (t.rport p).up = true ∧ (t.rport p).upAt = (s.clock τ).now ∧ (t.rport p).pair0 = true ∧ t.axes = s.axes) ∧
    (∀ m, (s.rport p).up = true → (s.rport p).upAt + 100000000 ≤ τ → (s.rport p).neighbour = some m → m < 16 → m ≠ s.member →
      Does (.portReady τ p) s0 fun t => t.rport p = { s.rport p with ready := true } ∧ t.params = s.params ∧ t.axes = s.axes)

/-- Members (R351 to R355, R341): the lowest member heard takes over 30 µs after the last header, both ports down for 60 µs is RING_LOST, a running
hive axis joins, and the ramps end in SHARING and in LEFT (derived, Table 8.10). HIVE_EN (R353): written 1 with the hive axis DISABLED the ring
starts cold, written 0 it ends with nothing left of it but that the member has left since BOOT (R354; derived). Its clauses conclude that exec
answers a next state, with the command's own effect, for the constructors cycleMasterTakeover, ringLost, memberJoining, joinRampEnd, leaveRampEnd,
hiveEnWrite. Rests on the choices of the model in log entries 83, 86, 87 and 91. -/
def Obligations.RingMembers : Prop := Sys2Proof.Parts.RingMembers ∧ Sys2Proof.Parts.HiveEnable

/-- The gate of one channel (R367, R369, R370, R373, R380): its soft-off goes from its first step to its second at SOFT_SINK, a gate found off stores
when and is clamped, the plateau begins the second stage, and a waiting turn-on proceeds when the dead time is over. Each changes that channel
only (derived). Placed edges (R39, R99, R104, R366, R370, R372): an edge in the moment in which the carrier and the words in force place it turns
its channel off, turns it on where the partner has been off for the dead time, and is dropped where the partner is commanded on (derived). Its
clauses conclude that exec answers a next state, with the command's own effect, for the constructors softOffLevelEnd, gateOffDetected,
gateStageChange, deadTimeExpired, edgeAtGatePin. Rests on the choices of the model in log entries 9, 62 and 222. -/
def Obligations.GateEdges : Prop := Sys2Proof.Parts.GateChannel ∧ Sys2Proof.Parts.PlacedEdges

/-- Faults of the cells (R364, R371, R372, R376, R378, R379, R386): each is raised once its condition is met, on the channel, bridge or cell it names,
where no higher trigger acts in the same period (R60; derived, Table 9.9). Supplies and pins of the cells (R364, R374, R376, R378, R387): a status
frame trains the link again and gives its bootstrap voltage, an undervoltage and its end are kept in the channel, and a DG pin's level is kept
(derived). Its clauses conclude that exec answers a next state, with the command's own effect, for the constructors desat, gateStuck, crossCmd,
cellLinkLoss, gateSupply, chopOc, cellStatusFrame, bootstrap, dgEdge. Rests on the choices of the model in log entries 62, 63, 135 and 240. -/
def Obligations.GateCells : Prop := Sys2Proof.Parts.CellFaults ∧ Sys2Proof.Parts.CellSupplies

/-- Hold-off (R384, R395, R396): a request holds every cell of its mask, its release ends that cause for the mask, OC_BACKSTOP holds the cells of its
bridge, and a cell that no cause holds shows it (derived, Table 9.7). An active short ends 100 ms after its currents have fallen below ASC_RELEASE
(R382; derived). Its clauses conclude that exec answers a next state, with the command's own effect, for the constructors holdoffRequest,
ocBackstop, holdoffRelease, ascRelease. Rests on the choices of the model in log entries 9 and 70. -/
def Obligations.HoldOffAndShort : Prop := Sys2Proof.Parts.HoldOffCauses ∧ Sys2Proof.Parts.ActiveShortEnds

/-- STO (R391 to R394, Tables 2.4, 9.5): an input's level is kept with its time; an input low for STO_FILT demands STO, and without SS1 every cell is
held off and every axis enters STO at once; both inputs high for STO_FILT release it and the axes return to DISABLED (derived). Its clauses
conclude that exec answers a next state, with the command's own effect, for the constructors stoInputChange, stoDemand, stoRelease. Rests on the
choices of the model in log entries 60 and 181. -/
def Obligations.SafeTorqueOff : Prop :=
  ∀ (s0 : State) (τ : Nat), let s := s0.due τ
    (∀ high, high ≠ s.cellar.stoA → Does (.stoInputChange τ 0 high) s0 fun t =>
      t.cellar.stoA = high ∧ t.cellar.stoAAt = (s.clock τ).now ∧ t.cellar.stoB = s.cellar.stoB ∧ t.cellar.causes = s.cellar.causes ∧ t.axes = s.axes) ∧
    (∀ high, high ≠ s.cellar.stoB → Does (.stoInputChange τ 1 high) s0 fun t =>
      t.cellar.stoB = high ∧ t.cellar.stoBAt = (s.clock τ).now ∧ t.cellar.stoA = s.cellar.stoA ∧ t.cellar.causes = s.cellar.causes ∧ t.axes = s.axes) ∧
    (s.dev.st = .idle → s.cellar.demand = false → s.cellar.stoA = false → s.cellar.stoAAt + s.parN P.stoFilt * 1000 ≤ τ → s.porch.halt = .none →
      s.par P.ss1En = 0 → Does (.stoDemand τ) s0 fun t =>
        t.cellar.demand = true ∧ (∀ g, g < 13 → t.heldOff g = true) ∧ ∀ k, k < 4 → (t.ax k).st = .sto) ∧
    (s.cellar.demand = true → s.cellar.disc = false → s.cellar.stoA = true → s.cellar.stoB = true →
      max s.cellar.stoAAt s.cellar.stoBAt + s.parN P.stoFilt * 1000 ≤ τ → s.porch.halt = .none →
      Does (.stoRelease τ) s0 fun t => t.cellar.demand = false ∧ tget t.cellar.causes 0 1 = 0 ∧
        ∀ k, k < 4 → (s.ax k).st = .sto → (t.ax k).st = .disabled)

/-- The Cellar's timers (R393, R394, R402, R404): inputs that differ for STO_DISC_TIME are a discrepancy, and SS1_TIME after the demand a stop that
still runs ends; either holds every cell off at once, and, the house cores running, takes every axis into STO. A standing fault whose clear
condition has held for its dwell ends, as does one without a dwell that has not moved its axis, and no other fault with it (derived; Table 9.9).
Its clauses conclude that exec answers a next state, with the command's own effect, for the constructors stoDiscrepancy, ss1Timeout, faultCleared.
Rests on the choices of the model in log entries 9, 60 and 215. -/
def Obligations.CellarTimers : Prop :=
  ∀ (s0 : State) (τ : Nat), let s := s0.due τ
    (∀ t0, s.cellar.diffSince = some t0 → s.cellar.disc = false → t0 + s.parN P.stoDiscTime * 1000000 ≤ τ →
      Does (.stoDiscrepancy τ) s0 fun t => t.cellar.disc = true ∧ (∀ g, g < 13 → t.heldOff g = true) ∧
        (s.porch.halt ≠ .full → t.Stands 0x0901 0 ∧ ∀ k, k < 4 → (t.ax k).st = .sto) ∧
        (s.porch.halt = .full → t.porch.later = s.porch.later ++ [.disc])) ∧
    (∀ t0, s.cellar.ss1 = some t0 → t0 + s.parN P.ss1Time * 1000000 ≤ τ →
      Does (.ss1Timeout τ) s0 fun t => t.cellar.ss1 = none ∧ (∀ g, g < 13 → t.heldOff g = true) ∧
        (s.porch.halt ≠ .full → ∀ k, k < 4 → (t.ax k).st = .sto)) ∧
    (∀ code inst f t0 d, clearDwell code = some d → s.standing.find? (fun f => decide (f.code = code) && decide (f.inst = inst)) = some f →
      f.okSince = some t0 → t0 + d ≤ τ →
      Does (.faultCleared τ code inst) s0 fun t => t.stands code inst = false ∧ (code ≠ 0x0702 → ∀ g ∈ s.standing, g.code ≠ code → g ∈ t.standing)) ∧
    (∀ code inst, clearDwell code = none → Does (.faultCleared τ code inst) s0 fun t =>
      (∀ f ∈ s.standing, f.code = code → f.inst = inst → (s.clock τ).clearNow f = true →
        (f.axis < 4 → (s.ax f.axis).st ≠ .faultRetry ∧ (s.ax f.axis).st ≠ .faultLatched ∧ (s.ax f.axis).faultStop = false) → f ∉ t.standing) ∧
      ∀ g ∈ s.standing, (g.code ≠ code ∨ g.inst ≠ inst) → g ∈ t.standing)

/-- Off-state diagnostics (Table 9.8, R397 to R400): each step, its time reached, moves on where its measurements pass and raises the fault Table 9.8
gives where one fails; the last bridge's end leaves the axis READY (derived). Its clauses conclude that exec answers a next state, with the
command's own effect, for the constructors precheckPumpDeadline, gateLoopTest, desatTest, phaseTest, sensingTest, chopperTest, precheckBridgeDone.
Rests on the choices of the model in log entries 65, 68 and 238. -/
def Obligations.PrecheckSteps : Prop :=
  ∀ (s0 : State) (τ k : Nat) (p : Precheck), let s := s0.due τ; k < 4 → (s.ax k).precheck = some p →
    let moved (t : State) (q : Precheck) : Prop := t.ax k = { s.ax k with precheck := some q } ∧ t.standing = s.standing ∧ t.cellar = s.cellar
    (p.step = .pump → p.startedAt + 100000000 ≤ τ →
      ((∀ g ∈ cellsOfBridge p.bridge, s.gp g P.bootWarn ≤ s.par P.bootV g) →
        Does (.precheckPumpDeadline τ k) s0 fun t => moved t { p with step := .gateLoop, item := 0 }) ∧
      ((∃ g ∈ cellsOfBridge p.bridge, s.par P.bootV g < s.gp g P.bootWarn) →
        Does (.precheckPumpDeadline τ k) s0 fun t => t.Stands 0x0102 p.bridge)) ∧
    (p.step = .gateLoop → p.startedAt + (101 + p.item) * 1000000 ≤ τ → ∀ reached ns mv,
      (reached = true → ns ≤ 5000 → Does (.gateLoopTest τ k reached ns mv) s0 fun t => t.Stands 0x0107 (6 * p.bridge + p.item)) ∧
      (reached = false → mv < 10 → Does (.gateLoopTest τ k reached ns mv) s0 fun t => t.Stands 0x0108 (6 * p.bridge + p.item)) ∧
      ((reached = true → 5000 < ns) → 10 ≤ mv → Does (.gateLoopTest τ k reached ns mv) s0 fun t =>
        moved t (if p.item = 5 then { p with step := .desat, item := 0 } else { p with item := p.item + 1 }))) ∧
    (p.step = .desat → p.startedAt + (107 + p.item) * 1000000 ≤ τ → ∀ rises,
      Does (.desatTest τ k false rises) s0 (fun t => t.Stands 0x0109 (6 * p.bridge + p.item)) ∧
      (5000 ≤ s.par P.linkV (s.parN P.brLink p.bridge) → (p.item % 2 = 0 → rises = true) → Does (.desatTest τ k true rises) s0 fun t =>
        moved t (if p.item = 5 then { p with step := .phase, item := 0 } else { p with item := p.item + 1 }))) ∧
    (p.step = .phase → ∀ off node,
      (s.par P.linkV (s.parN P.brLink p.bridge) < 5000 → Does (.phaseTest τ k off node) s0 fun t => ∃ q, q.step = .sensing ∧ moved t q) ∧
      (5000 ≤ s.par P.linkV (s.parN P.brLink p.bridge) → p.item ≠ 0 → p.startedAt + (117 + 5 * p.item) * 1000000 ≤ τ → node.getD p.item 0 < 500 →
        Does (.phaseTest τ k off node) s0 fun t => t.Stands 0x010B (2 * (3 * p.bridge + p.item) + 1))) ∧
    (p.step = .sensing → p.startedAt + 131000000 ≤ τ → ∀ zero ref0 ref1,
      ((∃ x, x < 3 ∧ ∃ c ∈ zero.getD x [], s.par P.ofsTrip < iabs (c - s.par P.ofs p.bridge x)) →
        Does (.sensingTest τ k zero ref0 ref1) s0 fun t => t.Stands 0x0304 p.bridge) ∧
      ((∀ x, x < 3 → ∀ c ∈ zero.getD x [], iabs (c - s.par P.ofs p.bridge x) ≤ s.par P.ofsTrip) → s.par P.csMode p.bridge = 0 →
        (∀ i, i < 4 → iabs (ref0.getD i 0) ≤ 33) → s.par P.chopEn (s.parN P.brLink p.bridge) = 0 →
        Does (.sensingTest τ k zero ref0 ref1) s0 fun t => moved t { p with step := .finish })) ∧
    (p.step = .chopper → p.startedAt + 139000000 ≤ τ → ∀ reached ns mv, (reached = true → 5000 < ns) → 10 ≤ mv →
      Does (.chopperTest τ k reached ns mv true) s0 (fun t => moved t { p with step := .finish }) ∧
      Does (.chopperTest τ k reached ns mv false) s0 (fun t => t.Stands 0x0109 (chopCh (s.parN P.brLink p.bridge)))) ∧
    (p.step = .finish → p.rest = [] → p.emergency = false → Does (.precheckBridgeDone τ k) s0 fun t =>
      (t.ax k).st = .ready ∧ (t.ax k).precheck = none ∧ t.par P.precheckResult p.bridge = p.bits ∧
        ∀ f, f.code ≠ 0x0206 → (f ∈ t.standing ↔ f ∈ s.standing))

/-- The end of FAULT_WAIT (R61, R402, R405): an axis whose causes have cleared goes back where it came from, one whose causes stand uses one try, and
one without tries left latches; while THERMAL_SD stands the wait goes on (derived). Its clauses conclude that exec answers a next state, with the
command's own effect, for the constructor faultWaitExpired. Rests on the choices of the model in log entries 66 and 213. -/
def Obligations.FaultWaitEnds : Prop :=
  ∀ (s0 : State) (τ k : Nat), let s := s0.due τ; k < 4 → (s.ax k).st = .faultRetry → s.firmware = true → (s.ax k).retryAt + s.spN k P.faultWait * 1000000 ≤ τ →
    (tget s.cellar.causes 0 3 = 0 → (s.clock τ).causesClear k = true → (s.ax k).retryFrom = .ready →
      Does (.faultWaitExpired τ k) s0 fun t => (t.ax k).st = .ready) ∧
    (tget s.cellar.causes 0 3 = 0 → (s.clock τ).causesClear k = false → (∃ f ∈ s.blocking k, f.code ≠ 0x0801 ∧ f.code ≠ 0x0802) →
      (s.sp k P.faultTries ≤ ((s.clock τ).triesUsed k).length → s.cellar.demand = false →
        Does (.faultWaitExpired τ k) s0 fun t => (t.ax k).st = .faultLatched) ∧
      ((((s.clock τ).triesUsed k).length : Int) < s.sp k P.faultTries →
        Does (.faultWaitExpired τ k) s0 fun t =>
          t.ax k = { s.ax k with retryAt := (s.clock τ).now, retrySd := false, tries := (s.clock τ).now :: (s.clock τ).triesUsed k } ∧ t.standing = s.standing)) ∧
    (tget s.cellar.causes 0 3 ≠ 0 → (s.ax k).retrySd = false →
      Does (.faultWaitExpired τ k) s0 fun t => t.ax k = { s.ax k with retrySd := true } ∧ t.standing = s.standing)

/-- The 29 sensors (R411 to R420, R425): a window keeps its raw counts; a count beyond the shutdown count of a sensor that is not broken holds every
cell off; and a broken sensor plausible for a second is in use again (derived). Thermal states and levels (R419, R422, R424, R427, R429): a wanted
state held for 2 s is taken, the Cellar's shutdown releases after 10 s below 42 °C with TH_LEVEL at its highest, the grace ends in enforcement, an
unacknowledged request is repeated each second, TH_ACK is kept, and the 60 s hold ends (derived). Its clauses conclude that exec answers a next
state, with the command's own effect, for the constructors tempWindow, tsPlausible, thermalStateChange, thermalSdRelease, thGraceExpired,
thRequestRepeat, thAck, hold60End. Rests on the choices of the model in log entries 71, 74, 75 and 215. -/
def Obligations.TemperaturesAndStates : Prop := Sys2Proof.Parts.TemperatureWindow ∧ Sys2Proof.Parts.ThermalStates

/-- NTC inputs, junction model, its calibration and wear (R434 to R436, R439, R440, R445, R447): an NTC code gives its state, a bridge that has never
switched has its NTC's temperature, a calibration runs 96 pulses of 200 µs at most, each by two switches, and stores its point, and the wear
counters go on each second and are saved each day (derived). Its clauses conclude that exec answers a next state, with the command's own effect,
for the constructors ntcSample, junctionUpdate, jtCalCmd, jtPulse, jtCalDone, lifeUpdate, wearSave. Rests on the choices of the model in log
entries 72, 73 and 240. -/
def Obligations.JunctionAndWear : Prop :=
  ∀ (s0 : State) (τ : Nat), let s := s0.due τ;
    (∀ k code, k < 8 → tget s.fanner.ntcAt 0 k + 10000000 ≤ τ → Does (.ntcSample τ k code) s0 fun t =>
      t.par P.ntcState k = (if s.parN P.ntcR25 k = 0 then 3 else if 4050 < code then 1 else if code < 20 then 2 else 0 : Nat) ∧ tget t.fanner.ntcAt 0 k = (s.clock τ).now ∧ t.axes = s.axes) ∧
    (∀ b k n, b < 4 → n < 6 → s.fanner.jtAt + 1000000 ≤ τ → s.bridgeNtc b = some k → s.bridgeSwitches b = false → (s.junction (6 * b + n)).started = false →
      Does (.junctionUpdate τ) s0 fun t => t.par P.jtEst (6 * b + n) = s.par P.ntcTemp k ∧ t.fanner.jtAt = (s.clock τ).now ∧ t.standing = s.standing) ∧
    (∀ b v, b < 4 → v = 1 ∨ v = 2 → (s.clock τ).jtCalRefused b = false → s.fanner.pulse.find? (fun e => e.1 = b) = none →
      Does (.jtCalCmd τ b v) s0 fun t => t.par P.jtCalCmd b = v ∧ tget t.fanner.pulse { point := 0 } b = { point := v, at_ := (s.clock τ).now } ∧ t.axes = s.axes) ∧
    (∀ b v, (s.clock τ).jtCalRefused b = true → Does (.jtCalCmd τ b v) s0 fun t => t.params = s.params ∧ t.fanner = s.fanner ∧ t.axes = s.axes) ∧
    (∀ b p plateau, s.fanner.pulse.find? (fun e => e.1 = b) = some (b, p) → p.failed = false → p.done < 96 → (p.done = 0 ∨ p.at_ + 10000000 ≤ τ) →
      (2 ≤ s.par P.thState → Does (.jtPulse τ b plateau) s0 fun t => tget t.fanner.pulse { point := 0 } b = { p with failed := true, pulse := none } ∧ t.params = s.params ∧ t.axes = s.axes) ∧
      (∀ k, s.par P.thState < 2 → s.par P.thLevel = 0 → s.axisOfBridge b = some k → (s.ax k).st = .ready → Does (.jtPulse τ b plateau) s0 fun t =>
        tget t.fanner.pulse { point := 0 } b = { p with done := p.done + 1, at_ := (s.clock τ).now, pulse := some (p.done / 16, (s.clock τ).now + 200000) } ∧
          (t.junction (6 * b + p.done / 16)).testSum = (s.junction (6 * b + p.done / 16)).testSum + plateau ∧
          tget t.fanner.switchedAt 0 b = (s.clock τ).now ∧ t.axes = s.axes ∧
          (b < 4 → p.pulse = none → ∀ c ∈ pulseChans b (p.done / 16), s.refusesOn c = false → (t.chan c).cmd = true))) ∧
    (∀ b p, b < 4 → s.fanner.pulse.find? (fun e => e.1 = b) = some (b, p) →
      (p.failed = true → Does (.jtCalDone τ b) s0 fun t => t.fanner.pulse.find? (fun e => e.1 = b) = none ∧ t.par P.jtCalCmd b = 0 ∧ t.config = s.config) ∧
      (p.failed = false → 96 ≤ p.done → p.point = 1 → Does (.jtCalDone τ b) s0 fun t =>
        t.fanner.pulse.find? (fun e => e.1 = b) = none ∧ t.par P.jtCalCmd b = 0 ∧ ∀ n, n < 6 → t.par P.jtCal (6 * b + n) = 1)) ∧
    (s.fanner.lifeAt + 1000000000 ≤ τ → Does (.lifeUpdate τ) s0 fun t => t.fanner.lifeAt = (s.clock τ).now ∧ t.fanner.lifeRest < 3600000 ∧ t.axes = s.axes) ∧
    (s.fanner.wearAt + 86400000000000 ≤ τ → Does (.wearSave τ) s0 fun t =>
      t.wear.head? = some (s.parN P.lifeUsed, (upto 13).map fun g => s.parN P.cellCycles g) ∧ t.fanner.wearAt = (s.clock τ).now ∧ t.params = s.params)

/-- A packet is read as it was written (R451, R453, R454; log entry 2): header, payload, tag and CRC of every packet the module writes are taken apart
into the same fields, its byte count is right, and its CRC is accepted (derived). Rests on the choices of the model in log entry 2. -/
def Obligations.PacketsReadBack : Prop :=
  ∀ (op flags sess seq : Nat) (payload : Bytes) (key : Option Bytes), op < 256 → flags < 256 → flags / 16 % 2 = 0 → sess < 65536 → seq < 65536 →
    payload.length ≤ 1024 →
    let bs := packet op flags sess seq payload key
    let p := parsePkt bs
    p.op = op ∧ p.sess = sess ∧ p.seq = seq ∧ p.payload = payload ∧ p.auth = key.isSome ∧
      bs.length = 12 + payload.length + (if key.isSome then 8 else 0) ∧ crc32c (bs.take (bs.length - 4)) = field bs (bs.length - 4) 4 ∧
      ∀ k, key = some k → (bs.drop (8 + payload.length)).take 8 = packetTag k (bs.take (8 + payload.length))

/-- Checks of Table 11.3 after the sequence (R456, R478, R504): for every command packet of an open session, a wrong length is answered BAD_LENGTH, a
write of a session that is not owner is answered DONE with nothing written and a violation counted, and a wrong device state is answered STATE;
none of them changes an axis, a fault, the Cellar, a store or the owner (derived). Rests on the choices of the model in log entries 13 and 146. -/
def Obligations.PacketRefusals : Prop :=
  ∀ (s0 : State) (τ : Nat) (tp : Transport) (i : Instr) (c : Cmd) (n : Nat) (p : Pkt), let s := s0.due τ; PacketRow τ tp i c → (s.clock τ).Offers tp c n p →
    let kept (t : State) : Prop := t.axes = s.axes ∧ t.standing = s.standing ∧ t.cellar = s.cellar ∧ t.larder = s.larder ∧ t.attic = s.attic ∧
      t.service = s.service ∧ t.owner.session = s.owner.session
    (c.len p = false → Does i s0 fun t => s.Answers t n p [refusal p.op stBadLength] ∧ kept t) ∧
    (c.len p = true → c.cls = .write → s.owner.session ≠ n → Does i s0 fun t =>
      s.Answers t n p [refusal p.op stDone] ∧ (t.sess n).violations = min 4294967295 ((s.sess n).violations + 1) ∧ kept t) ∧
    (c.len p = true → (c.cls = .write → s.owner.session = n) → c.states.contains s.dev.st = false → Does i s0 fun t =>
      s.Answers t n p [refusal p.op stState] ∧ kept t)

/-- Session commands (Table 11.9, R460, R465, R485, R495, R498): CLOSE closes its session, HEARTBEAT answers the device, the axes and the owner, CLAIM
without an owner enters the election, RELEASE gives ownership up, HANDOVER opens an offer, SUBSCRIBE and UNSUBSCRIBE set the notifications; OPEN
without AUTH takes the lowest free number; a packet that fails steps 1 to 4 changes no session (derived). Its clauses conclude that exec answers a
next state, with the command's own effect, for the constructors closeSession, heartbeat, claim, release, handover, subscribe, unsubscribe,
openSession, rejectedPacket. Rests on the choices of the model in log entries 13, 139, 143, 144 and 147. -/
def Obligations.SessionCommands : Prop :=
  ∀ (s0 : State) (τ : Nat) (tp : Transport) (n : Nat) (p : Pkt), let s := s0.due τ;
    ((s.clock τ).Accepts tp cmdClose n p → Does (.closeSession τ tp) s0 fun t => (t.sess n).isOpen = false ∧ t.axes = s.axes) ∧
    ((s.clock τ).Accepts tp cmdHeartbeat n p → Does (.heartbeat τ tp) s0 fun t => s.Answers t n p [s.heartbeatReply] ∧ t.axes = s.axes ∧ t.owner.session = s.owner.session) ∧
    ((s.clock τ).Accepts tp cmdClaim n p → s.loader = false → s.owner.session = 0 → 1 ≤ (s.sess n).rank → s.claiming n = false →
      (∀ e, s.owner.election = some e → (s.clock τ).houseNow < e.at_ + ms 50) →
      Does (.claim τ tp) s0 fun t => s.AnswersStatus t n p stAccepted ∧ t.owner.session = 0 ∧ ∃ e, t.owner.election = some e ∧ (n, p.seq) ∈ e.claims) ∧
    ((s.clock τ).Accepts tp cmdRelease n p → Does (.release τ tp) s0 fun t => s.AnswersStatus t n p stDone ∧ t.owner.session ≠ n ∧ t.axes = s.axes) ∧
    ((s.clock τ).Accepts tp cmdHandover n p → s.owner.offer = none → field p.payload 0 2 ≠ n → (s.sess (field p.payload 0 2)).isOpen = true →
      1 ≤ (s.sess (field p.payload 0 2)).rank → (s.sess (field p.payload 0 2)).proven = true →
      Does (.handover τ tp) s0 fun t => s.AnswersStatus t n p stAccepted ∧ t.owner.offer = some ⟨field p.payload 0 2, (s.clock τ).houseNow, n, p.seq⟩ ∧ t.owner.session = n) ∧
    ((s.clock τ).Accepts tp cmdSubscribe n p → field p.payload 0 4 < 0x400 → field p.payload 4 2 ≤ 60000 → field p.payload 6 1 ≤ 16 →
      (∀ pn ∈ pnsAt p.payload 8 (field p.payload 6 1), (findPar pn).isSome = true) → Does (.subscribe τ tp) s0 fun t =>
        s.AnswersStatus t n p stDone ∧ (∀ b, b < 10 → (t.sess n).eventMask / 2 ^ b % 2 = max ((s.sess n).eventMask / 2 ^ b % 2) (field p.payload 0 4 / 2 ^ b % 2)) ∧
          (t.sess n).telPeriod = (if field p.payload 4 2 = 0 then (s.sess n).telPeriod else field p.payload 4 2)) ∧
    ((s.clock τ).Accepts tp cmdUnsubscribe n p → Does (.unsubscribe τ tp) s0 fun t =>
      s.AnswersStatus t n p stDone ∧ (∀ b, b < 10 → field p.payload 0 4 / 2 ^ b % 2 = 1 → (t.sess n).eventMask / 2 ^ b % 2 = 0) ∧
        (field p.payload 4 1 = 1 → (t.sess n).telPeriod = 0 ∧ (t.sess n).telPns = [])) ∧
    (∀ bs o m, (s.clock τ).mayServe tp = true → ((s.clock τ).front tp).1 = some (bs, o) → p = parsePkt bs → 8 ≤ bs.length → (s.clock τ).headCheck o bs = none → p.op = 0x01 →
      p.auth = false → (s.clock τ).openAgain o p = none → p.payload.length = 28 → field p.payload 8 1 = 0 → field p.payload 10 2 ≤ 600 → s.freeSession = some m →
      Does (.openSession τ tp) s0 fun t => (t.sess m).isOpen = true ∧ (t.sess m).transport = o.tp ∧ (t.sess m).source = o.source ∧ (t.sess m).clientId = field p.payload 0 8 ∧
        (t.sess m).nextSeq = (p.seq + 1) % 65536 ∧ (t.sess m).auth = false ∧ t.axes = s.axes ∧ t.owner = s.owner) ∧
    (∀ bs o st, (s.clock τ).mayServe tp = true → ((s.clock τ).front tp).1 = some (bs, o) → 8 ≤ bs.length → (s.clock τ).headCheck o bs = some st →
      Does (.rejectedPacket τ tp) s0 fun t => (∀ m, t.sess m = s.sess m) ∧ t.owner = s.owner ∧ t.axes = s.axes ∧
        (st = stBadCheck → s.par P.rxBadCheck < 4294967295 → t.par P.rxBadCheck = s.par P.rxBadCheck + 1))

/-- Reading and writing parameters (R479 to R483): GET answers 12 bytes for each item, GET_BLOCK 127 values a packet, SNAPSHOT waits for its axis; a
SET that fails answers its first bad item and writes nothing, one that passes writes its plain values, SET_BLOCK gathers its run; and a write of
one parameter is judged as a SET is (derived). Its clauses conclude that exec answers a next state, with the command's own effect, for the
constructors getParams, getBlock, snapshot, setParams, parameterWrite, setBlock. Rests on the choices of the model in log entries 14, 124, 137 and
145. -/
def Obligations.ParameterCommands : Prop :=
  ∀ (s0 : State) (τ : Nat) (tp : Transport) (n : Nat) (p : Pkt), let s := s0.due τ;
    let items := (upto (field p.payload 0 2)).map fun i => (field p.payload (4 + 12 * i) 2, field p.payload (8 + 12 * i) 8)
    let plain (pn : Nat) (q : Par) (i j : Nat) : Prop := findPar pn = some (q, i, j) ∧ q.pn i j = pn ∧ q.acc = .owner ∧ ownRow q = false ∧ s.heldPar q i = false ∧ q ≠ P.combId
    ((s.clock τ).Accepts tp cmdGet n p →
      (1 ≤ field p.payload 0 2 → field p.payload 0 2 ≤ 85 → Does (.getParams τ tp) s0 fun t =>
        ∃ bs, bs.length = 12 * field p.payload 0 2 ∧ s.Answers t n p [leBytes 1 stDone ++ leBytes 1 0 ++ leBytes 2 (field p.payload 0 2) ++ bs]) ∧
      (field p.payload 0 2 = 0 ∨ 85 < field p.payload 0 2 → Does (.getParams τ tp) s0 fun t => s.AnswersStatus t n p stRange)) ∧
    ((s.clock τ).Accepts tp cmdGetBlock n p →
      (1 ≤ field p.payload 2 2 → field p.payload 2 2 ≤ 4096 → field p.payload 0 2 + field p.payload 2 2 ≤ 0x10000 → Does (.getBlock τ tp) s0 fun t =>
        ∃ ps, ps.length = (field p.payload 2 2 + 126) / 127 ∧ s.Answers t n p ps) ∧
      (field p.payload 2 2 = 0 ∨ 4096 < field p.payload 2 2 → Does (.getBlock τ tp) s0 fun t => s.AnswersStatus t n p stRange)) ∧
    ((s.clock τ).Accepts tp cmdSnapshot n p → 1 ≤ field p.payload 2 2 → field p.payload 2 2 ≤ 84 →
      (field p.payload 0 1 = 0 → Does (.snapshot τ tp) s0 fun t => t.snaps = s.snaps ∧ ∃ bs, s.Answers t n p [leBytes 1 stDone ++ bs]) ∧
      (1 ≤ field p.payload 0 1 → field p.payload 0 1 ≤ 4 → Does (.snapshot τ tp) s0 fun t =>
        t.snaps = s.snaps ++ [⟨field p.payload 0 1 - 1, n, p.seq, pnsAt p.payload 4 (field p.payload 2 2)⟩] ∧ (t.sess n).nextSeq = (p.seq + 1) % 65536)) ∧
    ((s.clock τ).Accepts tp cmdSet n p → 1 ≤ field p.payload 0 2 → field p.payload 0 2 ≤ 85 →
      (∀ i st, (s.clock τ).firstBad items = some (i, st) → Does (.setParams τ tp) s0 fun t =>
        s.Answers t n p [leBytes 1 st ++ leBytes 1 0 ++ leBytes 2 i] ∧ ∀ pn q i j, plain pn q i j → t.par q i j = s.par q i j) ∧
      ((s.clock τ).firstBad items = none → Does (.setParams τ tp) s0 fun t => s.Answers t n p [refusal 0x11 stDone]) ∧
      (∀ pn v q i j, items = [(pn, v)] → (s.clock τ).firstBad items = none → plain pn q i j → Does (.setParams τ tp) s0 fun t => t.par q i j = q.valueOf v)) ∧
    (∀ pn v q i j, plain pn q i j →
      ((s.clock τ).firstBad [(pn, v)] = none → Does (.parameterWrite τ pn v) s0 fun t => t.par q i j = q.valueOf v ∧ ∀ k, (t.ax k).st = (s.ax k).st) ∧
      (((s.clock τ).firstBad [(pn, v)]).isSome = true → Does (.parameterWrite τ pn v) s0 fun t => t.params = s.params ∧ t.axes = s.axes)) ∧
    ((s.clock τ).Accepts tp cmdSetBlock n p →
      (field p.payload 2 2 = 0 → Does (.setBlock τ tp) s0 fun t => s.Answers t n p [refusal 0x13 stRange] ∧ (t.sess n).block = none) ∧
      ((s.sess n).block = none → 1 ≤ field p.payload 2 2 → field p.payload 2 2 ≤ 127 → field p.payload 4 2 ≤ 4096 → field p.payload 2 2 ≤ field p.payload 4 2 →
        p.more = true → Does (.setBlock τ tp) s0 fun t => s.Answers t n p [refusal 0x13 stDone] ∧
          ∃ run, (t.sess n).block = some run ∧ run.next = field p.payload 0 2 + field p.payload 2 2 ∧ run.items.length = field p.payload 2 2 ∧ run.total = field p.payload 4 2))

/-- Axis and device commands (Tables 2.2, 2.4, 11.10, R57, R65, R283, R402, R758): each is answered with its status, a refused one leaves the axes as
they are, and one that is taken moves its axis or the device (derived). Its clauses conclude that exec answers a next state, with the command's
own effect, for the constructors precheck, enable, disable, quickstop, setpoint, modeAxis, modeDevice, faultClearAxis, faultClearDevice. Rests on
the choices of the model in log entries 13, 49, 148, 149 and 238. -/
def Obligations.AxisCommands : Prop :=
  ∀ (s0 : State) (τ : Nat) (tp : Transport) (n : Nat) (p : Pkt), let s := s0.due τ;
    let k := field p.payload 0 1
    let m := field p.payload 1 1
    ((s.clock τ).Accepts tp cmdPrecheck n p → k < 4 →
      (∀ r, s.axisRefused k = some r → Does (.precheck τ tp) s0 fun t => s.AnswersStatus t n p r ∧ t.axes = s.axes) ∧
      (∀ b rest, s.axisRefused k = none → (s.ax k).st = .disabled → s.bridgesOf k = b :: rest → s.configFault k = none →
        (∀ g ∈ cellsOfBridge b, (s.cell g).linkUp = true ∧ (s.chan (loCh g)).uv = false) → Does (.precheck τ tp) s0 fun t =>
          s.AnswersStatus t n p stAccepted ∧ (t.ax k).st = .precheck ∧ ∃ q, (t.ax k).precheck = some q ∧ q.bridge = b ∧ q.step = .pump ∧ q.startedAt = (s.clock τ).now)) ∧
    ((s.clock τ).Accepts tp cmdEnable n p → k < 4 → (s.ax k).st ≠ .emergency →
      (∀ r, s.axisRefused k = some r → Does (.enable τ tp) s0 fun t => s.AnswersStatus t n p r ∧ t.axes = s.axes) ∧
      (∀ row, s.axisRefused k = none → (s.clock τ).startMethod k = some row → (s.ax k).st = .ready → Does (.enable τ tp) s0 fun t =>
        s.AnswersStatus t n p stDone ∧ (t.ax k).st = .running ∧ (t.ax k).started = true ∧ ∀ f, f.code ≠ 0x0206 → (f ∈ t.standing ↔ f ∈ s.standing))) ∧
    ((s.clock τ).Accepts tp cmdDisable n p → k < 4 →
      ((s.ax k).st = .ready → Does (.disable τ tp) s0 fun t => s.AnswersStatus t n p stDone ∧ (t.ax k).st = .disabled) ∧
      ((s.ax k).st = .running → s.freeTurn τ k = true → Does (.disable τ tp) s0 fun t =>
        s.AnswersStatus t n p stDone ∧ (t.ax k).st = .stopping ∧ (t.ax k).stop = .disable ∧ (t.ax k).stopEnd = .disabled)) ∧
    ((s.clock τ).Accepts tp cmdQuickstop n p → k < 4 →
      ((s.ax k).st = .running → s.freeTurn τ k = true → Does (.quickstop τ tp) s0 fun t =>
        s.AnswersStatus t n p stDone ∧ (t.ax k).st = .stopping ∧ (t.ax k).stop = .quickstop ∧ (t.ax k).stopEnd = .ready) ∧
      ((s.ax k).st = .ready → Does (.quickstop τ tp) s0 fun t => s.AnswersStatus t n p stDone ∧ t.axes = s.axes)) ∧
    ((s.clock τ).Accepts tp cmdSetpoint n p → k < 4 →
      ((s.ax k).st = .emergency → Does (.setpoint τ tp) s0 fun t => s.AnswersStatus t n p stState ∧ t.axes = s.axes) ∧
      ((s.ax k).st ≠ .emergency → Does (.setpoint τ tp) s0 fun t => s.AnswersStatus t n p stDone ∧
        t.ax k = { s.ax k with speed := { (s.ax k).speed with setpoint := signed 32 (field p.payload 4 4) } } ∧ ∀ j, j ≠ k → t.ax j = s.ax j)) ∧
    ((s.clock τ).Accepts tp cmdModeAxis n p → k < 4 →
      (3 < m → Does (.modeAxis τ tp) s0 fun t => s.AnswersStatus t n p stRange ∧ t.axes = s.axes) ∧
      (m ≤ 3 → (s.clock τ).firstBad [(P.ctrlMode.pn k 0, m / 2), (P.axisCmd.pn k 0, m % 2)] = none → Does (.modeAxis τ tp) s0 fun t =>
        s.AnswersStatus t n p stDone ∧ t.par P.ctrlMode k = (m / 2 : Nat) ∧ t.par P.axisCmd k = (m % 2 : Nat))) ∧
    ((s.clock τ).Accepts tp cmdModeDevice n p → s.dev.st = .idle →
      (m = 3 → (∀ j, j < 4 → (s.ax j).st.testOk = true) → Does (.modeDevice τ tp) s0 fun t => s.AnswersStatus t n p stDone ∧ t.dev.st = .test ∧ t.axes = s.axes) ∧
      (m = 5 → Does (.modeDevice τ tp) s0 fun t => s.AnswersStatus t n p stDone ∧ t.dev.st = .service ∧ t.axes = s.axes) ∧
      (m ≠ 2 → m ≠ 3 → m ≠ 5 → Does (.modeDevice τ tp) s0 fun t => s.AnswersStatus t n p stRange ∧ t.dev.st = .idle ∧ t.axes = s.axes)) ∧
    ((s.clock τ).Accepts tp cmdFaultClearAxis n p → k < 4 → (s.link (s.linkOf k)).chopFault = false → s.cellar.backstop = [] →
      ((s.ax k).st ≠ .faultLatched → Does (.faultClearAxis τ tp) s0 fun t => s.AnswersStatus t n p stDone ∧ t.axes = s.axes ∧ t.standing = s.standing) ∧
      ((s.ax k).st = .faultLatched → (s.clock τ).causesClear k = true → s.freeTurn τ k = true → Does (.faultClearAxis τ tp) s0 fun t => s.AnswersStatus t n p stDone ∧ (t.ax k).st = .disabled) ∧
      ((s.ax k).st = .faultLatched → (s.clock τ).causesClear k = false → Does (.faultClearAxis τ tp) s0 fun t =>
        s.AnswersStatus t n p stFaultActive ∧ t.axes = s.axes ∧ t.standing = s.standing)) ∧
    ((s.clock τ).Accepts tp cmdFaultClearDevice n p →
      (s.dev.st ≠ .recovery → Does (.faultClearDevice τ tp) s0 fun t => s.AnswersStatus t n p stDone ∧ t.dev.st = s.dev.st ∧ t.standing = s.standing) ∧
      (s.dev.st = .recovery → (s.pair s.active).live = true → s.standbyOk = true → Does (.faultClearDevice τ tp) s0 fun t =>
        s.AnswersStatus t n p stDone ∧ t.dev.st = .idle ∧ t.par P.recoveryCause = 0) ∧
      (s.dev.st = .recovery → s.standbyOk = false → Does (.faultClearDevice τ tp) s0 fun t =>
        s.AnswersStatus t n p stFaultActive ∧ t.dev.st = .recovery ∧ t.standing = s.standing))

/-- Forager, Pantry and Attic commands (Table 11.11, R510, R511, R513, R606, R610, R611, R644, R645, R655): a load is read back from the channel's
area, a start and a stop act on the channels of the mask, ARM, TRIGGER and DISARM set the Pantry's state, an ATTIC_WRITE that is accepted begins
on the lowest erased generation, and the end of programming marks it (derived). Its clauses conclude that exec answers a next state, with the
command's own effect, for the constructors foragerLoad, foragerStart, foragerStop, pantryDisarm, pantryArm, pantryTrigger, pantryRead, atticRead,
atticJournal, atticWrite, atticProgramDone. Rests on the choices of the model in log entries 13, 119, 141, 147, 150, 211 and 241. -/
def Obligations.StoreCommands : Prop :=
  ∀ (s0 : State) (τ : Nat) (tp : Transport) (n : Nat) (p : Pkt), let s := s0.due τ;
    let c := field p.payload 0 1
    let off := field p.payload 2 2
    let mask := field p.payload 0 2
    ((s.clock τ).Accepts tp cmdForagerLoad n p →
      (4 ≤ c → c ≤ 15 → off % 4 = 0 → off + (p.payload.length - 4) ≤ 4096 →
        (s.par P.fgState c = 0 → s.LarderWf → Does (.foragerLoad τ tp) s0 fun t => s.AnswersStatus t n p stDone ∧
          t.lread (0x20090000 + 0x1000 * c + off) (p.payload.length - 4) = p.payload.drop 4 ∧ t.axes = s.axes ∧
            ∀ b, (b < 0x20090000 + 0x1000 * c + off ∨ 0x20090000 + 0x1000 * c + off + (p.payload.length - 4) ≤ b) → t.byteAt b = s.byteAt b) ∧
        (s.par P.fgState c = 1 → Does (.foragerLoad τ tp) s0 fun t => s.AnswersStatus t n p stBusy ∧ t.larder = s.larder)) ∧
      (c < 4 ∨ 15 < c → Does (.foragerLoad τ tp) s0 fun t => s.AnswersStatus t n p stRange ∧ t.larder = s.larder)) ∧
    ((s.clock τ).Accepts tp cmdForagerStart n p →
      (mask % 16 = 0 → Does (.foragerStart τ tp) s0 fun t => s.AnswersStatus t n p stDone ∧ t.axes = s.axes ∧
        ∀ k, 4 ≤ k → k < 16 → mask / 2 ^ k % 2 = 1 → s.par P.fgState k = 0 → s.par P.fgDisable k = 0 → t.par P.fgState k = 1 ∧ t.par P.fgPc k = 0) ∧
      (mask % 16 ≠ 0 → Does (.foragerStart τ tp) s0 fun t => s.AnswersStatus t n p stRange ∧ t.forager = s.forager)) ∧
    ((s.clock τ).Accepts tp cmdForagerStop n p → Does (.foragerStop τ tp) s0 fun t => s.AnswersStatus t n p stDone ∧ t.axes = s.axes ∧
      ∀ k, 4 ≤ k → k < 16 → mask / 2 ^ k % 2 = 1 → 0 ≤ s.par P.fgState k → (s.fg k).outstanding = [] → t.par P.fgState k = 0) ∧
    ((s.clock τ).Accepts tp cmdPantryDisarm n p → Does (.pantryDisarm τ tp) s0 fun t => s.AnswersStatus t n p stDone ∧ t.par P.panState = 0) ∧
    ((s.clock τ).Accepts tp cmdPantryArm n p →
      (c = 1 → Does (.pantryArm τ tp) s0 fun t => s.AnswersStatus t n p stDone ∧ t.par P.panState = 1 ∧ t.pantry.armAt = (s.clock τ).now ∧ t.pantry.records = s.pantry.records) ∧
      (2 < c → Does (.pantryArm τ tp) s0 fun t => s.AnswersStatus t n p stRange ∧ t.pantry = s.pantry)) ∧
    ((s.clock τ).Accepts tp cmdPantryTrigger n p →
      (s.par P.panState = 0 → Does (.pantryTrigger τ tp) s0 fun t => s.AnswersStatus t n p stState ∧ t.pantry = s.pantry) ∧
      (s.par P.panState = 1 → Does (.pantryTrigger τ tp) s0 fun t => s.AnswersStatus t n p stDone ∧ t.par P.panState = 2 ∧ t.pantry.trigCause = 1)) ∧
    (∀ ded, (s.clock τ).Accepts tp (cmdPantryRead ded) n p →
      (1 < c → Does (.pantryRead τ tp ded) s0 fun t => s.AnswersStatus t n p stRange ∧ t.pantry = s.pantry) ∧
      (c = 0 → s.panOn = true → Does (.pantryRead τ tp ded) s0 fun t => s.AnswersStatus t n p stBusy ∧ t.pantry = s.pantry) ∧
      (c = 0 → s.panOn = false → s.pantry.made = true → ded = [] → field p.payload 4 4 = 0 → field p.payload 8 4 = 16 → Does (.pantryRead τ tp ded) s0 fun t =>
        s.Answers t n p [leBytes 1 stDone ++ leBytes 1 0 ++ leBytes 2 16 ++ leBytes 4 0 ++ s.pantry.header.take 16] ∧ t.pantry = s.pantry)) ∧
    ((s.clock τ).Accepts tp cmdAtticRead n p → Does (.atticRead τ tp) s0 fun t => s.Answers t n p [s.atticRead c (field p.payload 1 1)] ∧ t.attic = s.attic) ∧
    ((s.clock τ).Accepts tp cmdAtticJournal n p → Does (.atticJournal τ tp) s0 fun t => s.Answers t n p [s.atticJournal c (field p.payload 1 1)] ∧ t.attic = s.attic) ∧
    ((s.clock τ).Accepts tp cmdAtticWrite n p →
      (s.judgeAttic n c (field p.payload 8 8) ≠ stAccepted → Does (.atticWrite τ tp) s0 fun t =>
        s.AnswersStatus t n p (s.judgeAttic n c (field p.payload 8 8)) ∧ t.attic = s.attic) ∧
      (∀ g, s.judgeAttic n c (field p.payload 8 8) = stAccepted → (s.newestGen c = 0 ∨ (s.gen c (s.newestGen c)).value ≠ field p.payload 8 8) → s.erasedGen c = some g →
        Does (.atticWrite τ tp) s0 fun t => s.AnswersStatus t n p stAccepted ∧
          ∃ j, t.attic.job = some j ∧ j.slot = c ∧ j.gen = g ∧ j.value = field p.payload 8 8 ∧ j.sess = n ∧ t.attic.mirror = s.attic.mirror)) ∧
    (∀ j, s.attic.job = some j →
      Does (.atticProgramDone τ true) s0 (fun t => t.attic.job = none ∧ t.attic.mirror = s.attic.mirror ∧
        t.gen j.slot j.gen = { state := 1, value := j.value, sess := j.sess, client := j.client, time := (s.clock τ).swarmMicros }) ∧
      (j.retried = true → Does (.atticProgramDone τ false) s0 fun t => t.attic.job = none ∧ (t.gen j.slot j.gen).state = 2))

/-- Service commands (R355, R662, R664, R666, R667, R672, R676, R756): IMAGE_LOAD programs a wing that no pair runs, IMAGE_VERIFY and IMAGE_SWITCH
begin, RECAL begins, LANE_SWAP of a switching axis waits for its boundary, HIVE_LEAVE and HIVE_JOIN begin their ramps, and SOFT_RESET with its
word ends in BOOT after its reply (derived). Its clauses conclude that exec answers a next state, with the command's own effect, for the
constructors imageLoad, imageVerify, imageSwitch, recal, laneSwap, hiveLeave, hiveJoin, softReset. Rests on the choices of the model in log
entries 13, 130, 131 and 133. -/
def Obligations.ServiceCommands : Prop :=
  ∀ (s0 : State) (τ : Nat) (tp : Transport) (n : Nat) (p : Pkt), let s := s0.due τ;
    let w := field p.payload 0 1
    let x := field p.payload 1 1
    ((s.clock τ).Accepts tp cmdImageLoad n p → w < 2 → field p.payload 4 4 % 16 = 0 → field p.payload 4 4 + (p.payload.length - 8) ≤ 0x600040 →
      (s.wingRuns w = true → Does (.imageLoad τ tp) s0 fun t => s.AnswersStatus t n p stLocked ∧ t.service = s.service) ∧
      (s.wingRuns w = false → s.service.load = none → s.service.verify = none → s.service.switch = none → s.tooCold = false → field p.payload 4 4 = 0 →
        (s.wing w).erases < 10000 → Does (.imageLoad τ tp) s0 fun t => t.service.load = some ⟨w, n, p.seq, (s.clock τ).now⟩ ∧
          (t.wing w).st = 1 ∧ (t.wing w).erases = (s.wing w).erases + 1 ∧ (t.sess n).nextSeq = (p.seq + 1) % 65536)) ∧
    ((s.clock τ).Accepts tp cmdImageVerify n p → w < 2 →
      (s.service.verify = none → Does (.imageVerify τ tp) s0 fun t => s.AnswersStatus t n p stAccepted ∧ t.service = { s.service with verify := some w }) ∧
      (s.service.verify ≠ none → Does (.imageVerify τ tp) s0 fun t => s.AnswersStatus t n p stBusy ∧ t.service = s.service)) ∧
    ((s.clock τ).Accepts tp cmdImageSwitch n p → w < 2 → x = 0 → s.service.switch = none → s.service.load = none → s.tooCold = false →
      Does (.imageSwitch τ tp) s0 fun t => s.AnswersStatus t n p stAccepted ∧
        ∃ y, t.service.switch = some y ∧ y.wing = w ∧ y.trial = false ∧ y.phase = .checks ∧ y.standbyOnly = decide (s.runWing = some w)) ∧
    ((s.clock τ).Accepts tp cmdRecal n p → w < 4 → s.service.recal = none →
      (s.recalRefused w = none → Does (.recal τ tp) s0 fun t => s.AnswersStatus t n p stAccepted ∧ t.service = { s.service with recal := some w, recalFolded := false } ∧ t.axes = s.axes) ∧
      (s.recalRefused w ≠ none → Does (.recal τ tp) s0 fun t => s.AnswersStatus t n p stAccepted ∧ t.service = s.service ∧ t.axes = s.axes)) ∧
    ((s.clock τ).Accepts tp cmdLaneSwap n p →
      (4 ≤ w ∨ 5 ≤ x → Does (.laneSwap τ tp) s0 fun t => s.AnswersStatus t n p stRange ∧ t.lanes = s.lanes ∧ t.service = s.service) ∧
      (w < 4 → x < 5 → s.findOp 0x74 w = none → s.laneFree w x = true → s.service.swaps = [] → s.switching w = true → Does (.laneSwap τ tp) s0 fun t =>
        s.AnswersStatus t n p stAccepted ∧ t.service = { s.service with swaps := [⟨w, s.laneOf w, x, (s.lane (s.laneOf w)).periodNo⟩] } ∧ t.lanes = s.lanes)) ∧
    ((s.clock τ).Accepts tp cmdHiveLeave n p → s.findOp 0x75 0 = none → s.par P.hiveState = 3 → Does (.hiveLeave τ tp) s0 fun t =>
      s.AnswersStatus t n p stAccepted ∧ t.par P.hiveState = 5 ∧ t.ring.hasLeft = true ∧ t.ring.leaveAt = some (s.clock τ).now ∧ t.axes = s.axes) ∧
    ((s.clock τ).Accepts tp cmdHiveJoin n p → s.findOp 0x76 0 = none → s.par P.hiveState = 6 → Does (.hiveJoin τ tp) s0 fun t =>
      s.AnswersStatus t n p stAccepted ∧ t.par P.hiveState = 1 ∧ t.ring.hasLeft = false ∧ t.axes = s.axes) ∧
    ((s.clock τ).Accepts tp cmdSoftReset n p →
      (field p.payload 0 4 = 0xA55A → Does (.softReset τ tp) s0 fun t => s.AnswersStatus t n p stDone ∧ t.dev.pendingBoot.isSome = true ∧ t.dev.st = s.dev.st) ∧
      (field p.payload 0 4 ≠ 0xA55A → Does (.softReset τ tp) s0 fun t => s.AnswersStatus t n p stRange ∧ t.dev.pendingBoot = none ∧ t.wear = s.wear))

/-- Ends of service operations (R662, R666 to R670, R673, R676): an image load and a check mark their wing, a switch goes from its checks over the
standby's sync to its commit and the former pair or ends where a step fails, a recalibration is kept, a swap ends at its boundary (derived). Its
clauses conclude that exec answers a next state, with the command's own effect, for the constructors imageLoadDone, imageVerifyDone,
switchChecksDone, standbySynced, newPairCommit, formerPairSynced, recalDone, laneSwapDone. Rests on the choices of the model in log entries 131,
132, 133, 134 and 223. -/
def Obligations.ServiceEnds : Prop :=
  ∀ (s0 : State) (τ : Nat), let s := s0.due τ;
    (∀ j, s.service.load = some j → Does (.imageLoadDone τ) s0 fun t => t.service.load = none ∧ (t.wing j.wing).st = 2 ∧ t.axes = s.axes) ∧
    (∀ w, s.service.verify = some w → Does (.imageVerifyDone τ) s0 fun t => t.service.verify = none ∧
      (s.checkWing w = stDone → (t.wing w).st = 3) ∧ (s.checkWing w = stBadCheck → (t.wing w).st = 4) ∧ t.axes = s.axes) ∧
    (∀ x, s.service.switch = some x → x.phase = .checks → (s.pair s.active).live = true →
      (∀ ok, s.checkWing x.wing ≠ stDone → Does (.switchChecksDone τ ok) s0 fun t => t.service.switch = none ∧ t.dev.pairA = s.dev.pairA ∧ t.dev.pairB = s.dev.pairB) ∧
      (s.checkWing x.wing = stDone → s.runWing.map s.wingCkpt = some (s.wingCkpt x.wing) →
        Does (.switchChecksDone τ false) s0 (fun t => t.service.switch = none ∧ (t.pair s.standby).live = false) ∧
        Does (.switchChecksDone τ true) s0 (fun t => t.service.switch = some { x with phase := if x.standbyOnly then .former else .sync, hAt := (s.clock τ).now } ∧
          (t.pair s.standby).live = false ∧ t.axes = s.axes))) ∧
    (∀ x, s.service.switch = some x → x.phase = .sync → (s.pair s.active).live = true →
      Does (.standbySynced τ true) s0 (fun t => t.service.switch = some { x with phase := .commit, hAt := (s.clock τ).now } ∧
        t.pair s.standby = { live := true, synced := true, stopped := false, wing := x.wing } ∧ t.axes = s.axes) ∧
      Does (.standbySynced τ false) s0 (fun t => t.service.switch = none ∧ t.dev.pairA = s.dev.pairA ∧ t.dev.pairB = s.dev.pairB)) ∧
    (∀ x, s.service.switch = some x → x.phase = .commit → (s.pair s.active).live = true →
      (x.trial = true → Does (.newPairCommit τ) s0 fun t => t.service.switch = none ∧ t.par P.activePair = s.standby ∧ t.service.pointer = s.service.pointer) ∧
      (x.trial = false → Does (.newPairCommit τ) s0 fun t => t.service.switch = some { x with phase := .former, hAt := (s.clock τ).now } ∧
        t.par P.activePair = s.standby ∧ t.par P.trial = 0)) ∧
    (∀ x, s.service.switch = some x → x.phase = .former → (s.pair s.active).live = true →
      Does (.formerPairSynced τ true) s0 (fun t => t.service.switch = none ∧ t.service.pointer = x.wing ∧ t.par P.bootWing = x.wing ∧ t.par P.trial = 0 ∧
        t.pair s.standby = { live := true, synced := true, stopped := false, wing := x.wing }) ∧
      Does (.formerPairSynced τ false) s0 (fun t => t.service.switch = none ∧ t.service.pointer = s.service.pointer)) ∧
    (∀ b, s.service.recal = some b → b < 4 → s.service.recalFolded = true → Does (.recalDone τ) s0 fun t => t.service.recal = none ∧
      ∀ x, x < 3 → tget t.config 0 (P.ofs.pn b x) = s.par P.ofs b x ∧ tget t.config 0 (P.gain.pn b x) = s.par P.gain b x) ∧
    (∀ k x, s.service.swaps.find? (fun x => decide (x.axis = k)) = some x → x.at_ < (s.lane x.src).periodNo →
      (s.laneFree k x.dst = false → Does (.laneSwapDone τ k) s0 fun t => t.lanes = s.lanes ∧ ∀ y ∈ t.service.swaps, y.axis ≠ k) ∧
      (s.laneFree k x.dst = true → s.laneOf k ≠ x.dst → Does (.laneSwapDone τ k) s0 fun t => (t.lane (s.laneOf k)).running = false ∧
        (t.lane x.dst).running = (s.lane (s.laneOf k)).running ∧ ∀ y ∈ t.service.swaps, y.axis ≠ k))

/-- Times of sessions and of ownership (R463, R475, R476, R484, R487, R496, R498, R500, R502, R519): an idle or unproven session closes, telemetry and
waiting packets are sent when due, old transfers are dropped, the election and an offer end, a silent owner is replaced, and an ownerless module
sends its axes into EMERGENCY after the delay (derived). Its clauses conclude that exec answers a next state, with the command's own effect, for
the constructors sessionIdleTimeout, authProofTimeout, telemetry, completionNotification, reassemblyTimeout, electionClose, handoverLapse,
ownerHeartbeatTimeout, emergencyDelay. Rests on the choices of the model in log entries 3, 139 and 142. -/
def Obligations.SessionTimes : Prop :=
  ∀ (s0 : State) (τ : Nat), let s := s0.due τ;
    (∀ n, s.serving = true → (s.sess n).isOpen = true → (s.sess n).idleAt + ms (s.sess n).timeoutMs ≤ (s.clock τ).houseNow →
      Does (.sessionIdleTimeout τ n) s0 fun t => (t.sess n).isOpen = false ∧ t.axes = s.axes) ∧
    (∀ n, s.serving = true → (s.sess n).isOpen = true → (s.sess n).auth = true → (s.sess n).proven = false → (s.sess n).openedAt + ms 1000 ≤ (s.clock τ).houseNow →
      Does (.authProofTimeout τ n) s0 fun t => (t.sess n).isOpen = false ∧ t.axes = s.axes) ∧
    (∀ n, s.firmware = true → (s.sess n).isOpen = true → (s.sess n).telPns ≠ [] → 0 < (s.sess n).telPeriod →
      (s.sess n).telAt + ms (s.sess n).telPeriod ≤ (s.clock τ).houseNow → Does (.telemetry τ n) s0 fun t =>
        (t.sess n).telAt = (s.sess n).telAt + ms (s.sess n).telPeriod ∧ t.axes = s.axes ∧ t.owner = s.owner) ∧
    (∀ w, s.serving = true → s.waiting = [w] → w.run = false → sendSize (s.sess w.sess) w.packet ≤ s.freeBytes (outQ (s.sess w.sess).transport) →
      Does (.completionNotification τ) s0 fun t => t.waiting = [] ∧ t.axes = s.axes) ∧
    Does (.reassemblyTimeout τ) s0 (fun t => (∀ x ∈ t.swarm.xfers, x.ring = false ∨ s.queue 14 = [] → (s.clock τ).now ≤ x.lastAt + xferGap x.ring) ∧
      ∀ x ∈ s.swarm.xfers, (s.clock τ).now ≤ x.lastAt + xferGap x.ring → x ∈ t.swarm.xfers) ∧
    (∀ e n, s.owner.election = some e → s.firmware = true → e.at_ + ms 50 ≤ (s.clock τ).houseNow → s.winnerOf e.claims = some n →
      Does (.electionClose τ) s0 fun t => t.owner.session = n ∧ t.owner.election = none ∧ t.axes = s.axes) ∧
    (∀ o, s.owner.offer = some o → s.serving = true → o.at_ + ms 1000 ≤ (s.clock τ).houseNow →
      Does (.handoverLapse τ) s0 fun t => t.owner.offer = none ∧ t.owner.session = s.owner.session ∧ (t.sess o.target).offered = false ∧ t.axes = s.axes) ∧
    (s.serving = true → s.owner.session ≠ 0 → s.owner.hbAt + ms (s.parN P.heartbeatTo) ≤ (s.clock τ).houseNow →
      Does (.ownerHeartbeatTimeout τ) s0 fun t => t.owner.session ≠ s.owner.session ∧ (t.owner.session = 0 → t.owner.ownerlessAt = some (s.clock τ).houseNow) ∧ t.axes = s.axes) ∧
    (∀ t0, s.owner.ownerlessAt = some t0 → s.firmware = true → s.owner.delayed = false → s.owner.session = 0 → t0 + ms (s.parN P.emergDelay) ≤ (s.clock τ).houseNow →
      (∀ j, j < 4 → (s.ax j).st ≠ .disabled ∧ s.freeTurn τ j = true) → Does (.emergencyDelay τ) s0 fun t => t.owner.delayed = true ∧
        ∀ k, k < 4 → (s.emgAllowed k = true → (t.ax k).st = .emergency) ∧ (s.emgAllowed k = false → t.ax k = s.ax k))

/-- Host port and queues (R34 to R36, R471 to R473): a packet of at least 8 bytes is written to Q12, an entry of Q16 leaves it once all of it has been
read, the status tells the room and the entries, and an entry a producer writes goes to the end of its queue (derived). Its clauses conclude that
exec answers a next state, with the command's own effect, for the constructors spiWrite, spiRead, spiStatus, queueWrite. Rests on the choices of
the model in log entry 151. -/
def Obligations.HostPort : Prop :=
  ∀ (s0 : State) (τ : Nat), let s := s0.due τ; s.dev.st ≠ .off →
    (∀ bs : Bytes, s.answers = true → 8 ≤ bs.length → entrySize bs.length ≤ s.freeBytes 12 → Does (.spiWrite τ bs) s0 fun t =>
      t.queue 12 = s.queue 12 ++ [⟨bs, 0, 0, s.nextTag, [], (s.clock τ).now⟩] ∧ t.spiOut.length = bs.length + 1 ∧ t.params = s.params) ∧
    (∀ bs : Bytes, s.answers = true → bs.length < 8 → Does (.spiWrite τ bs) s0 fun t => t.queues = s.queues ∧ t.spiOut.length = bs.length + 1 ∧ t.params = s.params) ∧
    (∀ e rest n, s.answers = true → s.queue 16 = e :: rest → e.data ≠ [] → s.waiting = [] →
      (e.data.length + 3 ≤ n → Does (.spiRead τ n) s0 fun t => t.queue 16 = rest ∧ (t.spiOut.drop 4).take e.data.length = e.data) ∧
      (n < e.data.length + 3 → Does (.spiRead τ n) s0 fun t => t.queues = s.queues ∧ t.spiOut.length = n + 1)) ∧
    (∀ bs, s.answers = true → bs.head? = some 3#8 → 5 ≤ bs.length → Does (.spiStatus τ bs) s0 fun t =>
      (t.spiOut.drop 1).take 4 = leBytes 2 (s.freeBytes 12) ++ leBytes 2 (s.queue 16).length ∧ t.queues = s.queues) ∧
    (∀ c (bs : Bytes), s.answers = true → c ≠ 1#8 → c ≠ 2#8 → c ≠ 3#8 → Does (.spiStatus τ (c :: bs)) s0 fun t =>
      t.spiOut.drop 1 = List.replicate bs.length 0#8 ∧ t.queues = s.queues ∧ t.params = s.params) ∧
    (∀ q data dest port, 12 ≤ q → q < 20 → q ≠ 17 → entrySize data.length ≤ s.freeBytes q → Does (.queueWrite τ q data dest port) s0 fun t =>
      t.queue q = s.queue q ++ [⟨data, dest, port, s.nextTag, [], (s.clock τ).now⟩] ∧ (∀ r, r ≠ q → t.queue r = s.queue r) ∧ t.axes = s.axes) ∧
    (∀ q data dest port, q < 8 ∨ 20 ≤ q → q < 32 → entrySize data.length ≤ s.freeBytes q → Does (.queueWrite τ q data dest port) s0 fun t =>
      t.queue q = s.queue q ++ [⟨data, 0, 0, s.nextTag, [], (s.clock τ).now⟩] ∧ (∀ r, r ≠ q → t.queue r = s.queue r) ∧ t.axes = s.axes)

/-- Frames (R475, R526, R538, R541 to R549): a received frame is counted and its source noted, one with an 11-bit identifier or a remote frame is
ignored, a single-frame COMMAND for the module reaches Q13, a taken entry leaves its queue, a sent frame is counted, errors move the counters as
ISO 11898-1 has it (log entry 99), and an expired frame is noted (derived). Its clauses conclude that exec answers a next state, with the
command's own effect, for the constructors swarmFrameReceived, receiveEntryTake, swarmFrameSent, swarmTxError, swarmRxError, frameLifetimeEnd.
Rests on the choices of the model in log entries 97, 99, 209, 242 and 243. -/
def Obligations.SwarmFrames : Prop :=
  ∀ (s0 : State) (τ p : Nat), let s := s0.due τ; p < 4 →
    (s.sbActive p = true → s.parN P.tec p ≤ 255 → s.parN P.rec p ≤ 127 → s.par P.rxFrames p < 4294967295 → ∀ (id : Nat) (rx : RxBits) (brs esi : Bool) (data : Bytes),
      (∀ kind, kind = 2 ∨ kind = 3 → s.par P.ignored p < 4294967295 → Does (.swarmFrameReceived τ p kind id brs esi data rx) s0 fun t =>
        t.par P.rxFrames p = s.par P.rxFrames p + 1 ∧ t.par P.ignored p = s.par P.ignored p + 1 ∧ t.parN P.rec p = s.parN P.rec p - 1 ∧ t.axes = s.axes) ∧
      (Does (.swarmFrameReceived τ p 0 id brs esi data rx) s0 fun t =>
        t.par P.rxFrames p = s.par P.rxFrames p + 1 ∧ tget t.swarm.heard 0 (idSource (id % 0x20000000)) = (s.clock τ).now ∧ t.axes = s.axes) ∧
      (idClass (id % 0x20000000) = 4 → s.held = true → data.length ≤ 64 → field data 0 2 % 16384 = s.parN P.addrHeld → field data 3 1 = 0x80 → s.swarm.xfers = [] →
        entrySize (trimPacket (data.drop 4)).length ≤ s.freeBytes 13 → Does (.swarmFrameReceived τ p 0 id brs esi data rx) s0 fun t =>
          ∃ tag, t.queue 13 = s.queue 13 ++ [⟨trimPacket (data.drop 4), idSource (id % 0x20000000), p, tag, [], (s.clock τ).now⟩])) ∧
    (s.sbActive p = true → ∀ id rx brs esi data, Does (.swarmFrameReceived τ p 4 id brs esi data rx) s0 fun t => t.par P.sbState p = 1 ∧ t.queues = s.queues ∧ t.swarm = s.swarm) ∧
    (s.sbActive p = false → ∀ kind id rx brs esi data, Does (.swarmFrameReceived τ p kind id brs esi data rx) s0 fun t =>
      t.params = s.params ∧ t.queues = s.queues ∧ t.swarm = s.swarm) ∧
    (∀ q, q < 8 → Does (.receiveEntryTake τ q) s0 fun t => t.queue q = (s.queue q).drop 1 ∧ (∀ r, r ≠ q → t.queue r = s.queue r) ∧ t.params = s.params) ∧
    (∀ (dur tdc : Nat) f, (s.clock τ).offered p (2 * (s.clock τ).now - 25 * dur) = some f → s.par P.txFrames p < 4294967295 → Does (.swarmFrameSent τ p dur tdc) s0 fun t =>
      t.par P.txFrames p = s.par P.txFrames p + 1 ∧ (t.sb p).sent.map (·.id) = some f.id ∧ (t.sb p).sent.map (·.esi) = some (decide (s.par P.sbState p = 3)) ∧ t.axes = s.axes) ∧
    (∀ (dur tdc : Nat), (s.clock τ).offered p (2 * (s.clock τ).now - 25 * dur) = none → s.waiting = [] → Does (.swarmFrameSent τ p dur tdc) s0 fun t =>
      t.params = s.params ∧ t.queues = s.queues ∧ t.swarm = s.swarm) ∧
    (∀ (dur : Nat) (tdc : Option Nat) f, (s.clock τ).offered p (2 * (s.clock τ).now - 25 * dur) = some f →
      Does (.swarmTxError τ p ⟨0, tdc⟩ dur) s0 (fun t => t.par P.tec p = s.par P.tec p ∧ (t.sb p).frames = (s.sb p).frames ∧ t.axes = s.axes) ∧
      (s.parN P.tec p + 8 ≤ 255 → Does (.swarmTxError τ p ⟨2, tdc⟩ dur) s0 fun t => t.par P.tec p = (s.parN P.tec p + 8 : Nat) ∧ t.axes = s.axes)) ∧
    (s.sbActive p = true → s.parN P.tec p ≤ 255 → ∀ by8, Does (.swarmRxError τ p by8) s0 fun t =>
      t.par P.rec p = (min 255 (s.parN P.rec p + if by8 then 8 else 1) : Nat) ∧ t.axes = s.axes) ∧
    (∀ f e, f ∈ (s.sb p).frames → f.endAt = some e → e ≤ τ → Does (.frameLifetimeEnd τ p) s0 fun t => (s.clock τ).now ∈ (t.sb p).drops ∧ t.axes = s.axes)

/-- Ports and the address (R524, R526, R530, R537, R549, R550, R554, R557): a port integrates, is enabled and disabled by SB_EN, counts recessive bits
after a bus-off by delay or by request and recovers, a claim not contested for CLAIM_WAIT is held, the next pool address is claimed, and the
STATUS frame goes by its period (derived). Its clauses conclude that exec answers a next state, with the command's own effect, for the
constructors portIntegrated, busoffReqDelay, sbRecover, busOffRecovered, sbEn, addrClaimed, addrReclaim, statusFrame. Rests on the choices of the
model in log entries 96 and 100. -/
def Obligations.SwarmPortsAndAddress : Prop :=
  ∀ (s0 : State) (τ p : Nat), let s := s0.due τ; p < 4 →
    (s.par P.sbState p = 1 → Does (.portIntegrated τ p) s0 fun t =>
      t.par P.sbState p = (if 127 < s.par P.tec p ∨ 127 < s.par P.rec p then 3 else 2) ∧ t.swarm = s.swarm ∧ t.queues = s.queues) ∧
    (s.firmware = true → s.par P.sbState p = 4 → s.parN P.busoffReqDelay ≠ 0 → (s.sb p).busOffAt + s.parN P.busoffReqDelay * 1000000 ≤ τ →
      Does (.busoffReqDelay τ p) s0 fun t => t.par P.sbState p = 5 ∧ (t.sb p).request = true ∧ (t.sb p).countAt = (s.clock τ).now) ∧
    (∀ mask, mask / 2 ^ p % 2 = 1 → s.par P.sbState p = 4 → Does (.sbRecover τ mask) s0 fun t => t.par P.sbState p = 5 ∧ (t.sb p).request = true) ∧
    (∀ mask, s.par P.sbState p ≠ 4 → Does (.sbRecover τ mask) s0 fun t => t.par P.sbState p = s.par P.sbState p ∧ t.sb p = s.sb p) ∧
    (s.par P.sbState p = 5 → (s.sb p).countAt + 1408 * s.nomBit p * 25 / 2 ≤ τ → Does (.busOffRecovered τ p) s0 fun t =>
      t.par P.sbState p = 2 ∧ t.par P.tec p = 0 ∧ t.par P.rec p = 0 ∧ t.stands 0x0A06 p = false ∧ t.axes = s.axes) ∧
    (s.timingOk p = true → s.par P.sbState p = 0 → Does (.sbEn τ p 1) s0 fun t =>
      t.par P.sbEn p = 1 ∧ t.par P.sbState p = 1 ∧ t.par P.tec p = 0 ∧ t.par P.rec p = 0 ∧ t.axes = s.axes) ∧
    (s.timingOk p = false → Does (.sbEn τ p 1) s0 fun t => t.params = s.params ∧ t.swarm = s.swarm) ∧
    (s.par P.sbState p ≠ 0 → Does (.sbEn τ p 0) s0 fun t => t.par P.sbEn p = 0 ∧ t.par P.sbState p = 0 ∧ t.axes = s.axes) ∧
    (∀ t0, s.swarm.claimAt = some t0 → s.par P.addrState = 1 → t0 + s.parN P.claimWait * 1000000 ≤ τ → Does (.addrClaimed τ) s0 fun t =>
      t.par P.addrState = 2 ∧ t.par P.addrHeld = s.swarm.claimAddr ∧ t.swarm.claimAt = none ∧ t.swarm.barred = [] ∧ t.axes = s.axes) ∧
    (∀ a, s.swarm.nextAddr = some a → s.par P.sbState p ≠ 0 → s.parN P.sbSegment p = a / 128 → Does (.addrReclaim τ) s0 fun t =>
      t.par P.addrState = 1 ∧ t.swarm.claimAddr = a ∧ t.swarm.nextAddr = none ∧ t.axes = s.axes) ∧
    (s.parN P.statusPeriod ≠ 0 → s.swarm.statusAt + s.parN P.statusPeriod * 1000000 ≤ τ → s.dev.st = .idle →
      Does (.statusFrame τ) s0 fun t => t.swarm.statusAt = (s.clock τ).now ∧ t.axes = s.axes ∧ t.standing = s.standing)

/-- Swarm time (R572, R574, R575, R578, R581, R584, R585, R588): a basic cycle starts, the first reference accepted makes time valid as ACQUIRING, a
delay request goes out when due, one addressed to the module is answered by a response to its sender with its SEQ and the stamp of its start of
frame, time goes to HOLDOVER after 3 cycles without a reference and is lost after HOLDOVER_MAX, the best potential master takes over, TIME_SET
waits for the next cycle, and each second is noted (derived). Its clauses conclude that exec answers a next state, with the command's own effect,
for the constructors basicCycleStart, referenceMessage, delayRequestMessage, delayResponseMessage, delayRequestSend, timeHoldover, timeLost,
becomeMaster, masterByRank, timeSet, swarmSecond. Rests on the choices of the model in log entries 103, 104, 105, 209, 242 and 245. -/
def Obligations.SwarmTime : Prop :=
  ∀ (s0 : State) (τ : Nat), let s := s0.due τ;
    (s.timeValid = true → s.swarm.cycleNo < s.cycleAt (s.clock τ).swarmNow → s.swarm.pendingSet = none → Does (.basicCycleStart τ) s0 fun t =>
      t.swarm.cycleNo = s.cycleAt (s.clock τ).swarmNow ∧ t.swarm.stepWait = false ∧ t.axes = s.axes) ∧
    (∀ v, s.timeValid = true → s.swarm.cycleNo < s.cycleAt (s.clock τ).swarmNow → s.swarm.pendingSet = some v → Does (.basicCycleStart τ) s0 fun t =>
      t.swarm.base = v * 65536 ∧ t.swarm.baseAt = (s.clock τ).now ∧ t.swarm.pendingSet = none ∧ t.swarm.stepped = 16 ∧ t.axes = s.axes) ∧
    (∀ (p id : Nat) (rx : RxBits) (data : Bytes), p < 4 → s.sbActive p = true → s.parN P.tec p ≤ 255 → s.parN P.rec p ≤ 127 → id < 0x20000000 → idClass id = 1 → 20 ≤ data.length → data.length ≤ 64 →
      idSource id / 128 = s.parN P.sbSegment p → s.par P.addrState = 0 → s.par P.timeState = 0 → s.swarm.refs = [] →
      Does (.referenceMessage τ p id data rx) s0 fun t => t.par P.timeState = 1 ∧ t.parN P.timeSource = idSource id ∧ t.parN P.timeMaster = field data 2 2 ∧
        t.parN P.timeHops = min 127 (field data 15 1) ∧ t.swarm.upstream = p ∧ t.axes = s.axes) ∧
    (∀ p id rx data, idClass id ≠ 1 → Does (.referenceMessage τ p id data rx) s0 fun t => t.params = s.params ∧ t.swarm = s.swarm) ∧
    (∀ (p id : Nat) (rx : RxBits) (data : Bytes), p < 4 → s.sbActive p = true → s.parN P.tec p ≤ 255 → s.parN P.rec p ≤ 127 → s.par P.rxFrames p < 4294967295 → idClass id = 2 →
      (idDetail id = 0 → Does (.delayRequestMessage τ p id data rx) s0 fun t => t.par P.rxFrames p = s.par P.rxFrames p + 1 ∧ t.axes = s.axes) ∧
      (idDetail id = 0 → id < 0x20000000 → data.length = 16 → field data 0 2 = s.parN P.addrHeld → s.held = true → s.timeValid = true →
        (s.par P.timeState = 4 ∧ p ∈ s.bcastPorts) ∨ (s.relaysOn p = true ∧ (s.sb p).stopped = false) → entrySize 24 ≤ s.freeBytes (8 + p) →
        (127 < s.parN P.tec p ↔ s.par P.sbState p = 3) → Does (.delayRequestMessage τ p id data rx) s0 fun t =>
          (∃ f ∈ (t.sb p).frames, f.tag = s.nextTag ∧ f.id = swarmId 6 2 (s.parN P.addrHeld) 1 ∧ f.own = true ∧ f.at_ = (s.clock τ).now ∧ f.endAt = some ((s.clock τ).now + 10000000)) ∧
          (∃ e ∈ t.queue (8 + p), e.tag = s.nextTag ∧ e.data.length = 24 ∧ e.data.take 14 = leBytes 2 (idSource id) ++ leBytes 1 (field data 2 1) ++ leBytes 1 0 ++
            stampBytes (s.swarmAt (2 * ((s.clock τ).now : Int) - 25 * (s.rxCycles p (decide (0 < rx.fast)) rx : Nat)))) ∧ t.axes = s.axes) ∧
      (∀ tx, idDetail id = 1 → id < 0x20000000 → 24 ≤ data.length → data.length ≤ 64 → s.held = true → field data 0 2 = s.parN P.addrHeld → (s.sb p).reqStamp = some tx →
        field data 2 1 = (s.sb p).delaySeq → idSource id = s.parN P.timeSource → p = s.swarm.upstream → Does (.delayResponseMessage τ p id data rx) s0 fun t =>
          (t.sb p).reqStamp = none ∧ (t.sb p).delays.length = min 16 ((s.sb p).delays.length + 1) ∧ t.axes = s.axes)) ∧
    (s.held = true → s.par P.timeState = 1 ∨ s.par P.timeState = 2 → s.sbOn s.swarm.upstream = true → s.swarm.delayAt + s.parN P.delayInterval * 1000000 ≤ τ →
      Does (.delayRequestSend τ) s0 fun t => (t.sb s.swarm.upstream).delaySeq = ((s.sb s.swarm.upstream).delaySeq + 1) % 256 ∧ t.swarm.delayAt = (s.clock τ).now ∧ t.axes = s.axes) ∧
    (s.par P.timeState = 1 ∨ s.par P.timeState = 2 → s.swarm.lastRefAt + s.cyclesNs 3 ≤ τ → Does (.timeHoldover τ) s0 fun t =>
      t.par P.timeState = 3 ∧ t.swarm.holdoverAt = s.swarm.lastRefAt + s.cyclesNs 3 ∧ t.queues = s.queues ∧ t.axes = s.axes) ∧
    (s.par P.timeState = 3 → s.swarm.holdoverAt + s.parN P.holdoverMax * 1000000 ≤ τ → Does (.timeLost τ) s0 fun t =>
      t.par P.timeState = 0 ∧ t.par P.timeSource = 0xFFFF ∧ t.parN P.timeMaster = 0xFFFF ∧ t.swarm.refs = [] ∧ (∀ p, p < 4 → (t.sb p).suspended = bit (s.par P.combEn) p) ∧ t.axes = s.axes) ∧
    (s.potential = true → s.par P.timeState = 0 → max s.swarm.betterAt s.swarm.heldAt + s.cyclesNs (2 + s.parN P.tmRank) ≤ τ → Does (.becomeMaster τ) s0 fun t =>
      t.par P.timeState = 4 ∧ t.parN P.timeSource = s.parN P.addrHeld ∧ t.par P.timeHops = 0 ∧ t.parN P.timeMaster = s.parN P.addrHeld ∧ t.axes = s.axes) ∧
    (∀ r, s.potential = true → s.par P.timeState = 2 → (s.clock τ).followed = some r → keyLt s.ownKey r.key = true → 16 ≤ s.swarm.worse → Does (.masterByRank τ) s0 fun t =>
      t.par P.timeState = 4 ∧ t.parN P.timeSource = s.parN P.addrHeld ∧ t.swarm.worse = 0 ∧ t.axes = s.axes) ∧
    (∀ v, (s.par P.timeState = 4 → Does (.timeSet τ v) s0 fun t => t.swarm = { s.swarm with pendingSet := some (v % 2 ^ 64) } ∧ t.params = s.params) ∧
      (s.par P.timeState ≠ 4 → Does (.timeSet τ v) s0 fun t => t.swarm = s.swarm ∧ t.params = s.params)) ∧
    (s.timeValid = true → s.swarm.second < ((s.clock τ).swarmNow / 65536000000).toNat → Does (.swarmSecond τ) s0 fun t =>
      t.swarm = { s.swarm with second := ((s.clock τ).swarmNow / 65536000000).toNat } ∧ t.axes = s.axes)

/-- Comb (R590, R592, R595): a window begins on a running port, a port that has waited HOLDOVER_MAX for time goes on without windows, and a relay
resumes after 3 cycles without a better source (derived). Its clauses conclude that exec answers a next state, with the command's own effect, for
the constructors combWindowStart, combWaitEnd, relayResume. Rests on the choices of the model in log entries 95 and 247. -/
def Obligations.CombAndRelay : Prop :=
  ∀ (s0 : State) (τ p : Nat), let s := s0.due τ; p < 4 →
    (s.combState p = 1 → (s.sb p).win = none → Does (.combWindowStart τ p) s0 fun t => (t.sb p).win = some ⟨((s.clock τ).windowAt (s.clock τ).swarmNow).1, ((s.clock τ).windowAt (s.clock τ).swarmNow).2, false⟩ ∧
      (t.sb p).tried = [] ∧ t.params = s.params ∧ ∀ q, q ≠ p → t.sb q = s.sb q) ∧
    (s.combState p ≠ 1 → Does (.combWindowStart τ p) s0 fun t => t.swarm = s.swarm ∧ t.params = s.params) ∧
    (s.combState p = 4 → (s.sb p).enabledAt + s.parN P.holdoverMax * 1000000 ≤ τ → Does (.combWaitEnd τ p) s0 fun t =>
      t.sb p = { s.sb p with suspended := true } ∧ t.params = s.params) ∧
    (∀ t0, (s.sb p).betterAt = some t0 → (s.sb p).stopped = true → t0 + s.cyclesNs 3 ≤ τ → Does (.relayResume τ p) s0 fun t =>
      t.sb p = { s.sb p with stopped := false, betterAt := none } ∧ t.params = s.params)

/-- Forager control instructions (R613, R614, R618 to R622): END ends the program, LOOP goes back or on, WAIT takes a latch or waits, SIGNAL raises
its line and goes on, the SETX operations write their register, and reserved bits halt the channel with ILLEGAL (derived). Its clauses conclude
that exec answers a next state, with the command's own effect, for the constructors endProgram, loop, wait, signal, setxCopy, setxLoad, setxAdd,
setxLoadm, setxAnd, setxPlane. Rests on the choices of the model in log entries 119, 120 and 210. -/
def Obligations.ForagerControl : Prop :=
  ∀ (s0 : State) (τ c w1 w2 : Nat) (ded : List Nat), let s := s0.due τ; s.FgAt c ded w1 w2 →
    let pc := s.parN P.fgPc c
    let k := fbits w1 27 25
    (w1 / 0x10000000 = 0 → fbits w1 27 0 = 0 → Does (.endProgram τ c ded) s0 fun t => t.par P.fgState c = 0 ∧ t.par P.fgStatus c = 1 ∧ t.axes = s.axes) ∧
    (w1 / 0x10000000 = 0 → fbits w1 27 0 ≠ 0 → Does (.endProgram τ c ded) s0 fun t => s.FgHalted t c 0x10) ∧
    (w1 / 0x10000000 = 2 → fbits w1 23 10 = 0 → 1 ≤ fbits w1 9 0 → 4 * fbits w1 9 0 ≤ pc →
      (fbits w1 24 24 = 1 → Does (.loop τ c ded) s0 fun t => t.parN P.fgPc c = pc - 4 * fbits w1 9 0 ∧ t.parN P.fgX c k = s.parN P.fgX c k) ∧
      (fbits w1 24 24 = 0 → s.parN P.fgX c k = 1 → Does (.loop τ c ded) s0 fun t => t.parN P.fgPc c = pc + 4 ∧ t.parN P.fgX c k = 0) ∧
      (fbits w1 24 24 = 0 → s.parN P.fgX c k = 0 → Does (.loop τ c ded) s0 fun t =>
        t.parN P.fgPc c = pc - 4 * fbits w1 9 0 ∧ t.parN P.fgX c k = 0xFFFFFFFF)) ∧
    (w1 / 0x10000000 = 3 → fbits w1 27 22 = 0 → fbits w1 7 6 = 0 → fbits w1 5 0 < 37 →
      ((s.fg c).latches / 2 ^ fbits w1 5 0 % 2 = 1 → Does (.wait τ c ded) s0 fun t => t.parN P.fgPc c = pc + 4 ∧ t.par P.fgState c = 1 ∧
        (t.fg c).latches = (s.fg c).latches - 2 ^ fbits w1 5 0) ∧
      ((s.fg c).latches / 2 ^ fbits w1 5 0 % 2 = 0 → Does (.wait τ c ded) s0 fun t => t.parN P.fgPc c = pc ∧ t.par P.fgState c = 2 ∧ (t.fg c).wait = .line (fbits w1 5 0) ∧
        (t.fg c).timeoutAt = if fbits w1 21 8 = 0 then none else some ((s.clock τ).now + fbits w1 21 8 * 1000))) ∧
    (w1 / 0x10000000 = 4 → fbits w1 27 6 = 0 → 48 ≤ fbits w1 5 0 → Does (.signal τ c ded) s0 fun t =>
      t.parN P.fgPc c = pc + 4 ∧ (t.fg c).latches / 2 ^ fbits w1 5 0 % 2 = 1 ∧ t.axes = s.axes) ∧
    (w1 / 0x10000000 = 5 → fbits w1 18 0 = 0 →
      (fbits w1 24 22 = 3 → Does (.setxCopy τ c ded) s0 fun t => t.parN P.fgPc c = pc + 4 ∧ t.parN P.fgX c k = s.parN P.fgX c (fbits w1 21 19) % 4294967296 ∧ t.larder = s.larder) ∧
      (fbits w1 21 19 = 0 →
        (fbits w1 24 22 = 0 → Does (.setxLoad τ c ded) s0 fun t => t.parN P.fgPc c = pc + 8 ∧ t.parN P.fgX c k = w2 ∧ t.larder = s.larder) ∧
        (fbits w1 24 22 = 1 → Does (.setxAdd τ c ded) s0 fun t => t.parN P.fgPc c = pc + 8 ∧ t.parN P.fgX c k = (s.parN P.fgX c k + w2) % 4294967296 ∧ t.larder = s.larder) ∧
        (fbits w1 24 22 = 2 → mayReach 3 w2 4 false = true → s.badWord ded w2 4 = none → (∀ i, i < 4 → regionOf (w2 + i) = .working) →
          Does (.setxLoadm τ c ded) s0 fun t => t.parN P.fgPc c = pc + 8 ∧ t.parN P.fgX c k = leNat (s.lread w2 4) ∧ t.larder = s.larder) ∧
        (fbits w1 24 22 = 2 → mayReach 3 w2 4 false = false → Does (.setxLoadm τ c ded) s0 fun t => s.FgHalted t c 0x12) ∧
        (fbits w1 24 22 = 4 → Does (.setxAnd τ c ded) s0 fun t => t.parN P.fgPc c = pc + 8 ∧ t.parN P.fgX c k = Nat.land (s.parN P.fgX c k) w2 % 4294967296 ∧ t.larder = s.larder) ∧
        (∀ a, fbits w1 24 22 = 5 → s.planeAt.find? (fun e => decide (e.1 = w2 % 4)) = some (w2 % 4, a) →
          Does (.setxPlane τ c ded) s0 fun t => t.parN P.fgPc c = pc + 8 ∧ t.parN P.fgX c k = a % 4294967296 ∧ t.larder = s.larder)))

/-- Forager transfers (R613, R626, R629, R631, R632): a MOVE within the Larder and a SHUF read their first chunk of at most 256 bytes and issue its
beats, a misaligned or malformed one halts, and CRC takes its first chunk in BOOT, TEST and RECOVERY alone (derived). Its clauses conclude that
exec answers a next state, with the command's own effect, for the constructors move, shuf, crc. Rests on the choices of the model in log entries
119 and 210. -/
def Obligations.ForagerTransfers : Prop :=
  ∀ (s0 : State) (τ c w1 w2 : Nat) (ded : List Nat), let s := s0.due τ; s.FgAt c ded w1 w2 →
    let xs := s.parN P.fgX c (mvXs w1)
    let xd := s.parN P.fgX c (mvXd w1)
    let n := mvLen w1
    let m := min 256 n
    let e := fbits w1 11 0
    let size := shSize w1
    (w1 / 0x10000000 = 1 → n < 4 ∨ n % 4 ≠ 0 → Does (.move τ c ded) s0 fun t => s.FgHalted t c 0x10) ∧
    (w1 / 0x10000000 = 1 → fbits w1 19 13 = 0 → 4 ≤ n → n ≤ 4096 → n % 4 = 0 → xs % 4 ≠ 0 → Does (.move τ c ded) s0 fun t => s.FgHalted t c 0x11) ∧
    (w1 / 0x10000000 = 1 → fbits w1 19 13 = 0 → 4 ≤ n → n ≤ 4096 → n % 4 = 0 → xs % 4 = 0 → xd % 4 = 0 → mayReach 3 xs m false = true →
      s.badWord ded xs m = none → mayReach 3 xd m true = true → Does (.move τ c ded) s0 fun t =>
        (∃ r, (t.fg c).run = some r ∧ r.shuf = false ∧ r.w1 = w1 ∧ r.total = n ∧ r.done = m) ∧ (t.fg c).staging.length = m ∧
          t.par P.fgState c = s.par P.fgState c ∧ t.par P.fgCount c = (n - m : Nat) ∧ t.larder = s.larder) ∧
    (w1 / 0x10000000 = 6 → e = 0 → Does (.shuf τ c ded) s0 fun t => s.FgHalted t c 0x10) ∧
    (w1 / 0x10000000 = 6 → fbits w1 17 12 = 0 → 1 ≤ e → xs % min size 4 ≠ 0 → Does (.shuf τ c ded) s0 fun t => s.FgHalted t c 0x11) ∧
    (w1 / 0x10000000 = 6 → fbits w1 17 12 = 0 → 1 ≤ e → xs % min size 4 = 0 → xd % min size 4 = 0 → fbits w2 31 16 % min size 4 = 0 → fbits w2 15 0 % min size 4 = 0 →
      (∀ i, i < min (256 / size) e → mayReach 3 ((xs + i * fbits w2 31 16) % 4294967296) size false = true ∧
        s.badWord ded ((xs + i * fbits w2 31 16) % 4294967296) size = none ∧ mayReach 3 ((xd + i * fbits w2 15 0) % 4294967296) size true = true) →
      Does (.shuf τ c ded) s0 fun t => (∃ r, (t.fg c).run = some r ∧ r.shuf = true ∧ r.total = e ∧ r.done = min (256 / size) e) ∧ t.par P.fgState c = s.par P.fgState c ∧
        (t.fg c).staging.length = min (256 / size) e * size ∧ t.larder = s.larder) ∧
    (w1 / 0x10000000 = 7 → fbits w1 18 13 = 0 → n ≤ 4096 → n % 4 = 0 →
      (s.dev.st = .idle → Does (.crc τ c ded) s0 fun t => s.FgHalted t c 0x17) ∧
      (s.dev.st = .test → 4 ≤ n → fbits w1 20 19 = 0 → fbits w1 21 21 = 1 → mayReach 3 xs m false = true → s.badWord ded xs m = none → (∀ i, i < m → regionOf (xs + i) = .working) →
        Does (.crc τ c ded) s0 fun t => t.par P.fgCrc c = crcRun 0xFFFFFFFF (s.lread xs m) ∧ t.larder = s.larder ∧
          t.parN P.fgPc c = s.parN P.fgPc c + (if n ≤ 256 then 4 else 0) ∧
          (t.fg c).run = if n ≤ 256 then none else some { shuf := false, crc := true, w1 := w1, w2 := 0, total := n, done := 256 }))

/-- Forager events (R611, R612, R621, R622, R628, R633): a line raised sets the latch of a running channel, a WAIT out of time halts, a beat's data
lands with its response and a failed beat is sent again, a stop ends with its last response, FG_DISABLE pauses and resumes, and a set is published
by its period (derived). Its clauses conclude that exec answers a next state, with the command's own effect, for the constructors eventLineRaise,
waitTimeout, writeBeatResponse, stopDrained, fgDisable, publishRecord. Rests on the choices of the model in log entries 120 and 210. -/
def Obligations.ForagerEvents : Prop :=
  ∀ (s0 : State) (τ c : Nat), let s := s0.due τ; 4 ≤ c → c < 16 →
    (∀ k, k < 37 → s.parN P.fgState c = 1 → Does (.eventLineRaise τ k) s0 fun t => (t.fg c).latches / 2 ^ k % 2 = 1 ∧ t.parN P.fgPc c = s.parN P.fgPc c ∧ t.axes = s.axes) ∧
    (∀ k, 37 ≤ k → k ≤ 47 → Does (.eventLineRaise τ k) s0 fun t => t.forager = s.forager ∧ t.params = s.params) ∧
    (∀ u, s.parN P.fgState c = 2 → (s.fg c).timeoutAt = some u → u ≤ τ → Does (.waitTimeout τ c) s0 fun t => s.FgHalted t c 0x16) ∧
    (∀ b b' rest, (s.fg c).outstanding = b :: b' :: rest →
      (s.LarderWf → larderBase ≤ b.addr → regionOf b.addr = .working → Does (.writeBeatResponse τ c true) s0 fun t =>
        (t.fg c).outstanding = b' :: rest ∧ t.lread b.addr b.data.length = b.data ∧ t.parN P.fgPc c = s.parN P.fgPc c ∧
          ∀ a, (a < b.addr ∨ b.addr + b.data.length ≤ a) → t.byteAt a = s.byteAt a) ∧
      ((s.fg c).stopping = false → (s.fg c).failing = false → b.tries < s.parN P.fgRetry c → Does (.writeBeatResponse τ c false) s0 fun t =>
        (t.fg c).outstanding = b' :: rest ++ [{ b with tries := b.tries + 1 }] ∧ t.larder = s.larder) ∧
      ((s.fg c).stopping = false → (s.fg c).failing = false → s.parN P.fgRetry c ≤ b.tries → Does (.writeBeatResponse τ c false) s0 fun t =>
        (t.fg c).outstanding = b' :: rest ∧ (t.fg c).failing = true ∧ t.larder = s.larder)) ∧
    ((s.fg c).stopping = true → (s.fg c).outstanding = [] → Does (.stopDrained τ c) s0 fun t =>
      t.par P.fgState c = 0 ∧ t.par P.fgStatus c = 2 ∧ (t.fg c).stopping = false ∧ t.larder = s.larder) ∧
    (s.par P.fgDisable c = 0 → s.parN P.fgState c = 1 → Does (.fgDisable τ c 1) s0 fun t => t.par P.fgDisable c = 1 ∧ t.par P.fgState c = 3 ∧ (t.fg c).resume = 1) ∧
    (s.parN P.fgState c = 3 → (s.fg c).stopping = false → (s.fg c).resume = 1 → (s.fg c).run = none → Does (.fgDisable τ c 0) s0 fun t =>
      t.par P.fgDisable c = 0 ∧ t.par P.fgState c = 1) ∧
    (∀ k, k < 8 → s.parN P.pubPeriod k ≠ 0 → s.parN P.pubN k ≠ 0 → s.firmware = true → pubDue k (s.clock τ) = true → s.LarderWf → 0 ≤ s.par P.pubSeq k → s.par P.pubSeq k < 4294967295 →
      Does (.publishRecord τ k) s0 fun t => t.par P.pubSeq k = s.par P.pubSeq k + 1 ∧ tget t.pubAt 0 k = (s.clock τ).now ∧
        t.lread (s.parN P.pubAddr k) 4 = leBytes 4 (s.parN P.pubSeq k + 1) ∧ t.axes = s.axes)

/-- Larder, Pantry and fault records (R28 to R30, R641, R658): an allowed write lands, an allowed read returns the bytes, a forbidden one gives zeros
and changes none, a double-bit error of working memory is LARDER_DED, a single one changes nothing, a due sample joins its channel's block, and a
changed record is copied (derived). Its clauses conclude that exec answers a next state, with the command's own effect, for the constructors
hallwayAccess, larderScrub, pantrySample, faultRecordCopy. Rests on the choices of the model in log entries 112, 116, 122, 186, 187, 188, 189 and
219. -/
def Obligations.LarderAndPantry : Prop :=
  ∀ (s0 : State) (τ : Nat), let s := s0.due τ;
    (∀ m a bs bad, s.dev.st ≠ .off → s.LarderWf → 1 ≤ bs.length → mayReach m a bs.length true = true → (s.clock τ).mayNow m a bs.length true = true → regionOf a = .working →
      Does (.hallwayAccess τ m a 0 true bs bad) s0 fun t => t.lread a bs.length = bs ∧ (∀ b, b < a ∨ a + bs.length ≤ b → t.byteAt b = s.byteAt b) ∧ t.axes = s.axes) ∧
    (∀ m a n wr bs bad, mayReach m a (if wr then bs.length else n) wr = false → Does (.hallwayAccess τ m a n wr bs bad) s0 fun t =>
      t.larder = s.larder ∧ t.standing = s.standing ∧ t.axes = s.axes ∧
        (wr = false → s.dev.st ≠ .off → 1 ≤ n → inLarder a = true → inLarder (a + n - 1) = true → t.hallData = List.replicate n 0#8)) ∧
    (∀ m a n, s.dev.st ≠ .off → 1 ≤ n → mayReach m a n false = true → (s.clock τ).mayNow m a n false = true → s.badWord [] a n = none →
      (∀ i, i < n → regionOf (a + i) = .working) → Does (.hallwayAccess τ m a n false [] []) s0 fun t =>
        t.hallData = s.lread a n ∧ t.larder = s.larder ∧ t.axes = s.axes) ∧
    (∀ w bad, s.dev.st ≠ .off → inLarder w = true → 2 ≤ bad.length → regionOf (wordOf w) = .working → Does (.larderScrub τ w bad) s0 fun t =>
      t.Stands 0x0A02 (wordOf w) ∧ t.larder = s.larder) ∧
    (∀ w bad, bad.length < 2 → Does (.larderScrub τ w bad) s0 fun t => t.standing = s.standing ∧ t.larder = s.larder ∧ t.params = s.params) ∧
    (∀ c, (s.clock τ).panDue c = true → (s.panChan c).block.length < 15 → Does (.pantrySample τ c) s0 fun t =>
      (t.panChan c).index = (s.panChan c).index + 1 ∧ (t.panChan c).due = (s.panChan c).due - 1 ∧ (t.panChan c).block.length = (s.panChan c).block.length + 1 ∧ t.axes = s.axes) ∧
    (∀ c, (s.clock τ).panDue c = false → Does (.pantrySample τ c) s0 fun t => t.pantry = s.pantry ∧ t.params = s.params) ∧
    (∀ j e, s.faultRing.find? (fun e => decide (e.1 = j)) = some (j, e) → e.dirty = true → s.firmware = true → Does (.faultRecordCopy τ j) s0 fun t =>
      tget t.service.faultCopy {} j = { e with dirty := false } ∧ tget t.faultRing {} j = { e with dirty := false } ∧ t.service.copyNext = s.parN P.frNext ∧ t.axes = s.axes)

/-- Supply (R717, R718, R734): the measured voltages are kept in their ranges, a reverse feed is turned off and a forward one on (derived). Its
clauses conclude that exec answers a next state, with the command's own effect, for the constructors supplyMeasure, feedReverse, feedForward.
Rests on the choices of the model in log entry 135. -/
def Obligations.Supply : Prop :=
  ∀ (s0 : State) (τ : Nat), let s := s0.due τ;
    (∀ vinA vinB vsup cur, s.dev.st ≠ .off → (s.clock τ).supplyDue = true → Does (.supplyMeasure τ vinA vinB vsup cur) s0 fun t =>
      t.par P.vinAV = clamp vinA (-4000) 4500 ∧ t.par P.vinBV = clamp vinB (-4000) 4500 ∧ t.par P.vsupV = (min 4500 vsup : Nat) ∧
        (1730 ≤ vsup → bit (t.par P.supplyStatus) 8 = false) ∧ t.axes = s.axes ∧ t.standing = s.standing) ∧
    (∀ x, x < 2 → s.feedsRun = true → Does (.feedReverse τ x) s0 fun t => (t.feed x).on = false ∧ (∀ y, y ≠ x → t.feed y = s.feed y) ∧ t.params = s.params) ∧
    (∀ x vin, x < 2 → s.feedsRun = true → 0 ≤ vin → Does (.feedForward τ x vin) s0 fun t => (t.feed x).on = true ∧ (∀ y, y ≠ x → t.feed y = s.feed y) ∧ t.params = s.params) ∧
    (∀ x vin, vin < 0 → Does (.feedForward τ x vin) s0 fun t => t.feeds = s.feeds ∧ t.params = s.params)

/-- Porch transactions (R686 to R688, R702 to R704): a bad header check is REJECTED and STICKY, IDCODE reads locked, the memory space does not;
MEM_DATA steps its address, a core register is written in a full halt alone, and a packet enters Q15 with its last word and leaves Q19 with its
last (derived). Its clauses conclude that exec answers a next state, with the command's own effect, for the constructors porchTransaction,
memData, regData, txlen, txdata, rxdata, porchIdleReset, porchStatClear. Rests on the choices of the model in log entries 161, 162, 163 and 164. -/
def Obligations.PorchTransactions : Prop :=
  ∀ (s0 : State) (τ : Nat), let s := s0.due τ; s.answers = true →
    (∀ space wr a hchk v dchk hold, hchk ≠ hchkOf (space % 4) wr (a % 256) → Does (.porchTransaction τ space wr a hchk v dchk hold) s0 fun t =>
      t.porch.status = porchReject ∧ t.porch.stat / 64 % 2 = 1 ∧ t.params = s.params ∧ t.queues = s.queues ∧ t.larder = s.larder ∧ t.axes = s.axes) ∧
    (∀ v dchk hold, Does (.porchTransaction τ 0 false 0 (hchkOf 0 false 0) v dchk hold) s0 fun t =>
      t.porch.status = porchOk ∧ t.porch.rdata = idcode ∧ t.porch.stat = s.porch.stat ∧ t.params = s.params) ∧
    (∀ wr v hold, s.porch.unlocked = false →
      Does (.memData τ wr v hold) s0 (fun t => t.porch.status = porchLocked ∧ t.larder = s.larder ∧ t.params = s.params) ∧
      Does (.regData τ wr v) s0 (fun t => t.porch.status = porchLocked ∧ t.porch.haltRegs = s.porch.haltRegs ∧ t.params = s.params)) ∧
    (s.porch.unlocked = true → mayReach 8 s.porch.memAddr 4 false = true → s.badWord [] s.porch.memAddr 4 = none →
      (∀ v, Does (.memData τ false v false) s0 fun t => t.porch.status = porchOk ∧ t.porch.memAddr = (s.porch.memAddr + 4) % 2 ^ 32 ∧ t.larder = s.larder ∧
        ((∀ i, i < 4 → regionOf (s.porch.memAddr + i) = .working) → t.porch.rdata = leNat (s.lread s.porch.memAddr 4))) ∧
      (∀ v, s.porch.halt ≠ .full → Does (.memData τ true v false) s0 fun t => t.porch.status = porchReject ∧ t.larder = s.larder) ∧
      (∀ v, v < 2 ^ 32 → s.porch.halt = .full → s.LarderWf → mayReach 8 s.porch.memAddr 4 true = true → regionOf s.porch.memAddr = .working → Does (.memData τ true v false) s0 fun t =>
        t.porch.status = porchOk ∧ t.lread s.porch.memAddr 4 = leBytes 4 v ∧ t.porch.memAddr = (s.porch.memAddr + 4) % 2 ^ 32 ∧
        ∀ a, (a < s.porch.memAddr ∨ s.porch.memAddr + 4 ≤ a) → t.byteAt a = s.byteAt a)) ∧
    (∀ v, v < 2 ^ 32 → s.porch.unlocked = true → s.porch.regSel < 34 →
      (s.porch.halt = .full → Does (.regData τ true v) s0 fun t => t.porch.status = porchOk ∧ tget t.porch.haltRegs.regs 0 s.porch.regSel = v ∧ t.axes = s.axes) ∧
      (s.porch.halt ≠ .full → Does (.regData τ true v) s0 fun t => t.porch.status = porchReject ∧ t.porch.haltRegs = s.porch.haltRegs)) ∧
    (∀ n, 12 ≤ n → n ≤ 1044 → entrySize n ≤ s.freeBytes 15 → Does (.txlen τ n) s0 fun t => t.porch.status = porchOk ∧ t.porch.txLen = n ∧ t.porch.txBuf = [] ∧ t.queues = s.queues) ∧
    (∀ n, n < 12 ∨ 1044 < n → n < 2 ^ 32 → Does (.txlen τ n) s0 fun t => t.porch.status = porchReject ∧ t.porch.txLen = s.porch.txLen ∧ t.queues = s.queues) ∧
    (∀ v, v < 2 ^ 32 → s.porch.txBuf.length + 4 < s.porch.txLen → Does (.txdata τ v) s0 fun t => t.porch.status = porchOk ∧ t.porch.txBuf = s.porch.txBuf ++ leBytes 4 v ∧ t.queues = s.queues) ∧
    (∀ v, v < 2 ^ 32 → 0 < s.porch.txLen → s.porch.txLen ≤ s.porch.txBuf.length + 4 → s.dev.housesStopped = false → entrySize s.porch.txLen ≤ s.freeBytes 15 →
      Does (.txdata τ v) s0 fun t => t.queue 15 = s.queue 15 ++ [⟨(s.porch.txBuf ++ leBytes 4 v).take s.porch.txLen, 0, 0, s.nextTag, [], (s.clock τ).now⟩] ∧ t.porch.txLen = 0 ∧ t.porch.txBuf = []) ∧
    (∀ e rest, s.queue 19 = e :: rest →
      (s.porch.rxPos + 4 < e.data.length → Does (.rxdata τ) s0 fun t => t.porch.rdata = field e.data s.porch.rxPos 4 ∧ t.porch.rxPos = s.porch.rxPos + 4 ∧ t.queues = s.queues) ∧
      (e.data.length ≤ s.porch.rxPos + 4 → s.waiting = [] → Does (.rxdata τ) s0 fun t => t.porch.rdata = field e.data s.porch.rxPos 4 ∧ t.porch.rxPos = 0 ∧ t.queue 19 = rest)) ∧
    Does (.porchIdleReset τ) s0 (fun t => t.porch = { s.porch with busy := false } ∧ t.params = s.params) ∧
    (∀ v k, v < 2 ^ 32 → 5 ≤ k → k < 8 → v / 2 ^ k % 2 = 1 → Does (.porchStatClear τ v) s0 fun t => t.porch.stat / 2 ^ k % 2 = 0 ∧ t.params = s.params)

/-- Locking and halts (R690 to R700): a new challenge, its verification and the block after a failure, a relock; a full halt where it is allowed and a
refusal elsewhere, a live halt of the standby, resume and step, and what a breakpoint and a watchpoint do (derived). Its clauses conclude that
exec answers a next state, with the command's own effect, for the constructors newChallenge, verify, porchVerifyDone, challengeBlockEnd, relock,
fullHalt, liveHalt, haltResume, haltStep, standbyResynced, breakpointHit, watchpointHit. Rests on the choices of the model in log entries 160,
165, 166, 167 and 168. -/
def Obligations.PorchLockAndHalts : Prop :=
  ∀ (s0 : State) (τ : Nat), let s := s0.due τ; s.answers = true →
    (s.lockActs = true → s.porch.blockedTill = none → Does (.newChallenge τ) s0 fun t => t.porch.current = true ∧ t.porch.challenge.length = 16 ∧ t.porch.status = porchOk ∧ t.params = s.params) ∧
    (s.lockActs = true → s.porch.current = true → s.porch.verifying = false → Does (.verify τ) s0 fun t =>
      t.porch.verifying = true ∧ t.porch.current = false ∧ t.porch.unlocked = s.porch.unlocked ∧ t.params = s.params) ∧
    (s.porch.verifying = true → s.porch.keyOk = true → s.par P.porchUnlocks < 4294967295 → Does (.porchVerifyDone τ true) s0 fun t =>
      t.porch.verifying = false ∧ t.porch.unlocked = true ∧ t.par P.porchUnlocks = s.par P.porchUnlocks + 1) ∧
    (s.porch.verifying = true → Does (.porchVerifyDone τ false) s0 fun t => t.porch.verifying = false ∧ t.porch.unlocked = s.porch.unlocked ∧
      t.porch.blockedTill = some ((s.clock τ).now + 1000000000) ∧ t.par P.porchFails = min 8 (s.par P.porchFails + 1) ∧ (7 ≤ s.par P.porchFails → t.porch.lockout = true)) ∧
    (∀ u, s.porch.blockedTill = some u → u ≤ τ → Does (.challengeBlockEnd τ) s0 fun t => t.porch = { s.porch with blockedTill := none } ∧ t.params = s.params) ∧
    (s.lockActs = true → s.porch.halt = .none → Does (.relock τ) s0 fun t => t.porch.unlocked = false ∧ t.porch.halt = .none ∧ t.porch.snapCount = 0 ∧
      (∀ k, tget t.porch.bps 0 k % 2 = 0) ∧ t.params = s.params) ∧
    (s.porch.unlocked = true →
      (s.haltAllowed = true → Does (.fullHalt τ) s0 fun t => t.porch.halt = .full ∧ t.porch.haltAt = (s.clock τ).now ∧ t.porch.haltCause = 1 ∧ t.porch.status = porchOk ∧ t.axes = s.axes) ∧
      (s.haltAllowed = false → Does (.fullHalt τ) s0 fun t => t.porch.halt = s.porch.halt ∧ t.porch.stat / 128 % 2 = 1 ∧ t.axes = s.axes) ∧
      (s.firmware = true → s.porch.halt = .none → s.standbyOk = true → Does (.liveHalt τ) s0 fun t => t.porch.halt = .live ∧ t.porch.haltCause = 1 ∧ (t.pair s.standby).synced = false ∧ t.axes = s.axes) ∧
      (s.porch.halt = .live → Does (.haltResume τ) s0 fun t => t.porch.halt = .none ∧ t.porch.resync = true ∧ (t.pair s.standby).live = false ∧ t.axes = s.axes) ∧
      (s.porch.halt = .full → s.porch.later = [] → Does (.haltResume τ) s0 fun t => t.porch.halt = .none ∧ t.porch.haltCause = 0 ∧ t.cellar = s.cellar ∧ ∀ code inst, t.stands code inst = s.stands code inst) ∧
      (s.porch.halt = .full → Does (.haltStep τ) s0 fun t => t.porch.halt = .full ∧ t.porch.haltCause = 2 ∧ t.axes = s.axes) ∧
      (s.porch.halt ≠ .full → Does (.haltStep τ) s0 fun t => t.porch.halt = s.porch.halt ∧ t.porch.stat / 128 % 2 = 1)) ∧
    (s.porch.unlocked = false → Does (.fullHalt τ) s0 (fun t => t.porch.status = porchLocked ∧ t.porch.halt = s.porch.halt) ∧
      Does (.liveHalt τ) s0 (fun t => t.porch.status = porchLocked ∧ t.porch.halt = s.porch.halt) ∧
      Does (.haltResume τ) s0 (fun t => t.porch.status = porchLocked ∧ t.porch.halt = s.porch.halt) ∧
      Does (.haltStep τ) s0 (fun t => t.porch.status = porchLocked ∧ t.porch.halt = s.porch.halt)) ∧
    (s.porch.resync = true → (s.pair s.active).live = true → Does (.standbyResynced τ) s0 fun t => t.porch.resync = false ∧ (t.pair s.standby).live = true ∧ (t.pair s.standby).synced = true) ∧
    (∀ k, k < 8 → tget s.porch.bps 0 k % 2 = 1 → s.porch.unlocked = true → s.haltAllowed = true → Does (.breakpointHit τ k) s0 fun t =>
      t.porch.halt = .full ∧ t.porch.haltCause = 3 + 16 * k ∧ tget t.porch.haltRegs.regs 0 32 = tget s.porch.bps 0 k / 4 * 4 ∧ t.axes = s.axes) ∧
    (∀ k a, k < 4 → s.porch.unlocked = true → s.serving = true → s.haltAllowed = false → tget s.porch.wpCtrl 0 k % 2 = 1 → 2 ≤ tget s.porch.wpCtrl 0 k / 16 → tget s.porch.wpCtrl 0 k / 16 ≤ 12 →
      a / 2 ^ (tget s.porch.wpCtrl 0 k / 16) = tget s.porch.wpAddr 0 k / 2 ^ (tget s.porch.wpCtrl 0 k / 16) → inLarder a = true → s.porch.stat / 32 % 2 = 0 →
      Does (.watchpointHit τ k a false) s0 fun t => t.porch.stat / 32 % 2 = 1 ∧ t.porch.snapCount = 1 ∧ t.porch.snapCause = 4 + 16 * k ∧ t.porch.halt = s.porch.halt ∧ t.axes = s.axes)

/-- Boundary scan (R705 to R707): SAMPLE/PRELOAD, IDCODE and BYPASS select their register, which leaves at TDO; SAMPLE/PRELOAD and EXTEST capture the
212 cells and load their update latches; EXTEST, CLAMP and HIGHZ hold the control die in reset with every cell held off; Test-Logic-Reset selects
IDCODE and ends a scan reset in BOOT (derived; the TAP without the supply is log entry 171's choice). Its clauses conclude that exec answers a
next state, with the command's own effect, for the constructors samplePreload, idcode, bypass, extest, clamp, highz, testLogicReset, due, take.
Rests on the choices of the model in log entries 171 and 179. -/
def Obligations.BoundaryScan : Prop :=
  (∀ (s0 : State) (x : Scan), let s := s0.due x.at_;
    (s.dev.supplyOk = true →
      Does (.samplePreload x) s0 (fun t => t.porch.ir = 0x02 ∧ t.dev = s.dev ∧ t.params = s.params ∧ t.axes = s.axes ∧
        (x.tdi = [] → t.porch = { s.porch with ir := 0x02 }) ∧ (x.tdi ≠ [] → t.porch.cells = x.tdi ∧ t.porch.tdo.length = 212)) ∧
      Does (.idcode x) s0 (fun t => t.porch.ir = 0xFE ∧ t.dev = s.dev ∧ t.params = s.params ∧ t.axes = s.axes ∧
        (x.tdi ≠ [] → t.porch.tdo = ((msbBits idcode 32).reverse ++ x.tdi).take x.tdi.length)) ∧
      Does (.bypass x) s0 (fun t => t.porch.ir = 0xFF ∧ t.dev = s.dev ∧ t.params = s.params ∧ t.axes = s.axes ∧
        (x.tdi ≠ [] → t.porch.tdo = (false :: x.tdi).take x.tdi.length)) ∧
      (s.dev.st ≠ .off →
        Does (.extest x) s0 (fun t => t.porch.ir = 0x00 ∧ t.dev.scanReset = true ∧ t.dev.st = .off ∧ (∀ g, g < 13 → t.heldOff g = true) ∧
          (x.tdi ≠ [] → t.porch.cells = x.tdi ∧ t.porch.tdo.length = 212)) ∧
        Does (.clamp x) s0 (fun t => t.porch.ir = 0x04 ∧ t.dev.scanReset = true ∧ t.dev.st = .off ∧ t.porch.cells = s.porch.cells ∧ ∀ g, g < 13 → t.heldOff g = true) ∧
        Does (.highz x) s0 (fun t => t.porch.ir = 0x05 ∧ t.dev.scanReset = true ∧ t.dev.st = .off ∧ t.porch.cells = s.porch.cells ∧ ∀ g, g < 13 → t.heldOff g = true))) ∧
    (s.dev.supplyOk = false → ∀ i ∈ [Instr.samplePreload x, .idcode x, .bypass x, .extest x, .clamp x, .highz x],
      Does i s0 fun t => t.porch = s.porch ∧ t.dev = s.dev ∧ t.axes = s.axes)) ∧
  (∀ (s0 : State) (τ : Nat), let s := s0.due τ;
    (s.dev.scanReset = false → Does (.testLogicReset τ) s0 fun t => t.porch.ir = 0xFE ∧ t.dev = s.dev ∧ t.axes = s.axes) ∧
    (s.dev.scanReset = true → s.dev.supplyOk = true → Does (.testLogicReset τ) s0 fun t =>
      t.porch.ir = 0xFE ∧ t.dev.scanReset = false ∧ t.dev.st = .boot ∧ t.dev.step = .crystal ∧ ∀ g, g < 13 → t.heldOff g = true))

/-- Frame of the stores (R20, Table 1.2): the configuration area, the wear ring, the feeds, the state records, the sample planes, the bytes of the
host SPI port, the waiting SNAPSHOTs, the Attic and the data of the last Hallway read change by the commands named alone; every other command that
completes leaves them as the block's clocks have made them by its time (derived). Rests on the choices of the model in log entries 9 and 175. -/
def Obligations.StoresFrame : Prop :=
  ∀ (c : Instr) (s0 t : State), exec c s0 = .next t → let s := s0.due (timeOf c);
    (t.config = s.config ∨ mnemonicOf c ∈ ["JT_CAL_DONE", "RECAL_DONE"]) ∧
    (t.wear = s.wear ∨ mnemonicOf c ∈ ["WEAR_SAVE", "SOFT_RESET"]) ∧
    (t.feeds = s.feeds ∨ mnemonicOf c ∈ ["BROWN_OUT", "SUPPLY_MEASURE", "FEED_REVERSE", "FEED_FORWARD"]) ∧
    (t.records = s.records ∨ Restarts c ∨ mnemonicOf c ∈ ["FUSION_SELF_TIMED"]) ∧
    (t.planeAt = s.planeAt ∨ Restarts c) ∧
    (t.spiOut = s.spiOut ∨ Restarts c ∨ mnemonicOf c ∈ ["SPI_WRITE", "SPI_READ", "SPI_STATUS"]) ∧
    (t.snaps = s.snaps ∨ Restarts c ∨ mnemonicOf c ∈ ["SAMPLE_EVENT", "CLOSE", "SNAPSHOT", "SESSION_IDLE_TIMEOUT", "AUTH_PROOF_TIMEOUT"]) ∧
    (t.attic = s.attic ∨ Restarts c ∨ mnemonicOf c ∈ ["ATTIC_LOAD", "CLOSE", "ATTIC_WRITE", "ATTIC_PROGRAM_DONE", "SESSION_IDLE_TIMEOUT", "AUTH_PROOF_TIMEOUT"]) ∧
    (t.hallData = s.hallData ∨ Restarts c ∨ mnemonicOf c ∈ ["HALLWAY_ACCESS"])

/-- Frame of the inputs and the thermal model (R20, Table 1.2): encoders, resolvers, SSI interfaces, DC links and the Fanner change by the commands
named alone (derived). Rests on the choices of the model in log entries 9 and 175. -/
def Obligations.InputsFrame : Prop :=
  ∀ (c : Instr) (s0 t : State), exec c s0 = .next t → let s := s0.due (timeOf c);
    (t.encs = s.encs ∨ Restarts c ∨ mnemonicOf c ∈ ["SAMPLE_EVENT", "ENC_TRANSITION", "FB_LINE", "INDEX_EVENT", "INDEX_MISSED", "ENC_STANDSTILL", "FEEDBACK_SELF_SAMPLE",
        "RESOLVER_SAMPLE_PAIR", "RES_EXC", "SSI_START_TIMEOUT", "SSI_FRAME_CHECK", "FB_RETURN"]) ∧
    (t.ress = s.ress ∨ Restarts c ∨ mnemonicOf c ∈ ["SAMPLE_EVENT", "ENC_TRANSITION", "FB_LINE", "FEEDBACK_SELF_SAMPLE", "RESOLVER_SAMPLE_PAIR", "RES_EXC", "RES_EXC_RESTART",
        "SSI_START_TIMEOUT", "SSI_FRAME_CHECK", "FB_RETURN"]) ∧
    (t.ssis = s.ssis ∨ Restarts c ∨ mnemonicOf c ∈ ["SAMPLE_EVENT", "ENC_TRANSITION", "FB_LINE", "FEEDBACK_SELF_SAMPLE", "RESOLVER_SAMPLE_PAIR", "RES_EXC", "SSI_FRAME_START",
        "SSI_START_TIMEOUT", "SSI_FRAME_CHECK", "FB_RETURN"]) ∧
    (t.links = s.links ∨ Restarts c ∨ mnemonicOf c ∈ ["SAMPLE_EVENT", "SELF_TRIGGER_CONVERSION", "CHOP_MIN_ON_END", "CHOP_ENERGY_UPDATE", "DESAT", "CELL_LINK_LOSS", "GATE_SUPPLY", "CHOP_OC",
        "SET", "PARAMETER_WRITE", "SET_BLOCK", "MODE_AXIS", "FAULT_CLEAR_AXIS", "PORCH_TRANSACTION", "PORCH_STAT_CLEAR", "NEW_CHALLENGE", "VERIFY",
        "RELOCK", "FULL_HALT", "LIVE_HALT", "HALT_RESUME", "HALT_STEP", "MEM_DATA", "REG_DATA", "TXLEN", "TXDATA", "RXDATA", "CARRIER_PEAK_SAMPLE"]) ∧
    (t.fanner = s.fanner ∨ Restarts c ∨ mnemonicOf c ∈ ["CELL_LINK_TRAINING", "SPEED_LOOP_TICK", "CELL_STATUS_FRAME", "TEMP_WINDOW", "TS_PLAUSIBLE", "THERMAL_STATE_CHANGE", "THERMAL_SD_RELEASE",
        "TH_GRACE_EXPIRED", "TH_REQUEST_REPEAT", "HOLD60_END", "NTC_SAMPLE", "JUNCTION_UPDATE", "JT_CAL_CMD", "JT_PULSE", "JT_CAL_DONE",
        "LIFE_UPDATE", "WEAR_SAVE", "SET", "PARAMETER_WRITE", "SET_BLOCK", "MODE_AXIS", "SOFT_RESET"])

/-- Frame of the Larder (R28): every byte of the Larder reads after a command as it did by the command's time, unless the command is one of those
named (derived). Rests on the choices of the model in log entries 9 and 175. -/
def Obligations.LarderFrame : Prop :=
  ∀ (c : Instr) (s0 t : State), exec c s0 = .next t → let s := s0.due (timeOf c);
    ((∀ a, t.byteAt a = s.byteAt a) ∨ Restarts c ∨ mnemonicOf c ∈ ["LARDER_INIT", "SELF_TRIGGER_CONVERSION", "VIEW_CLOSE", "SET", "PARAMETER_WRITE", "SET_BLOCK", "MODE_AXIS", "FORAGER_LOAD",
        "HALLWAY_ACCESS", "MOVE", "SHUF", "WRITE_BEAT_RESPONSE", "FG_DISABLE", "PUBLISH_RECORD", "PORCH_TRANSACTION", "PORCH_STAT_CLEAR",
        "NEW_CHALLENGE", "VERIFY", "RELOCK", "FULL_HALT", "LIVE_HALT", "HALT_RESUME", "HALT_STEP", "MEM_DATA", "REG_DATA", "TXLEN", "TXDATA",
        "RXDATA"])

/-- R65, whole: "FAULT_CLEAR addressed to the device ends RECOVERY only when both house-core pairs are live and the standby pair is synchronised to
the takeover checkpoint. In any other condition it is answered FAULT_ACTIVE." Its clauses conclude that exec answers a next state, with the
command's own effect, for the constructor faultClearDevice. -/
def Obligations.FaultClearEndsRecovery : Prop :=
  ∀ (s0 : State) (τ : Nat) (tp : Transport) (n : Nat) (p : Pkt), let s := s0.due τ; (s.clock τ).Accepts tp cmdFaultClearDevice n p → s.dev.st = .recovery →
    ((s.pair 0).live = true ∧ (s.pair 1).live = true ∧ (s.pair s.standby).synced = true →
      Does (.faultClearDevice τ tp) s0 fun t => s.AnswersStatus t n p stDone ∧ t.dev.st = .idle ∧ t.axes = s.axes) ∧
    (¬ ((s.pair 0).live = true ∧ (s.pair 1).live = true ∧ (s.pair s.standby).synced = true) →
      Does (.faultClearDevice τ tp) s0 fun t => s.AnswersStatus t n p stFaultActive ∧ t.dev.st = .recovery ∧ t.axes = s.axes)

/-- R499, whole: "Only one offer is open at a time. A second HANDOVER while an offer is open is answered BUSY under R484." The offer that is open
stays the one that is open. Its clauses conclude that exec answers a next state, with the command's own effect, for the constructor handover. -/
def Obligations.OneHandoverOffer : Prop :=
  ∀ (s0 : State) (τ : Nat) (tp : Transport) (n : Nat) (p : Pkt) (o : Offer), let s := s0.due τ; (s.clock τ).Accepts tp cmdHandover n p → s.owner.offer = some o →
    Does (.handover τ tp) s0 fun t => s.AnswersStatus t n p stBusy ∧ t.owner.offer = some o ∧ t.owner.session = s.owner.session ∧ t.axes = s.axes

/-- R143, whole: "A lane takeover changes neither the axis state nor the device state." A lane of an axis fails by a mismatch, or by its second
overrun, while L4 is the spare. Its clauses conclude that exec answers a next state, with the command's own effect, for the constructors
laneMismatch, shadowDeadline. -/
def Obligations.TakeoverKeepsStates : Prop :=
  ∀ (s0 : State) (τ n k : Nat), let s := s0.due τ; n < 4 → s.axisOfLane n = some k → s.par P.laneRole 4 = 2 →
    let kept (t : State) : Prop := t.dev.st = s.dev.st ∧ ∀ j, j < 4 → (t.ax j).st = (s.ax j).st
    (s.laneActive n = true → ∀ again, Does (.laneMismatch τ n again) s0 fun t => t.parN P.spareFor = n ∧ kept t) ∧
    (s.seAxis n = some k → s.now ≤ τ → (s.lane n).first = false → (s.lane n).dispatched = false → (s.lane n).filled = false → 1 ≤ (s.lane n).overruns → (s.lane n).before τ 500 = true →
      Does (.shadowDeadline τ n) s0 fun t => t.parN P.spareFor = n ∧ kept t)

/-- R611, whole: "FORAGER_STOP issues no further beat on the named channels. The Forager then waits for the responses of the write beats already
issued, discards the staging buffer and puts each channel in IDLE. A write that fails during this wait is counted in FG_RETRIED but not reissued."
Its clauses conclude that exec answers a next state, with the command's own effect, for the constructors foragerStop, writeBeatResponse,
stopDrained. -/
def Obligations.ForagerStopDrains : Prop :=
  ∀ (s0 : State) (τ c : Nat), let s := s0.due τ; 4 ≤ c → c < 16 →
    (∀ tp n p, (s.clock τ).Accepts tp cmdForagerStop n p → field p.payload 0 2 / 2 ^ c % 2 = 1 → 1 ≤ s.parN P.fgState c → s.parN P.fgState c ≤ 3 →
      Does (.foragerStop τ tp) s0 fun t => t.par P.fgBeats c = s.par P.fgBeats c ∧
        ((s.fg c).outstanding ≠ [] → (t.fg c).stopping = true ∧ (t.fg c).outstanding = (s.fg c).outstanding) ∧
        ((s.fg c).outstanding = [] → t.par P.fgState c = 0 ∧ (t.fg c).staging = [])) ∧
    (∀ b rest, (s.fg c).stopping = true → (s.fg c).outstanding = b :: rest → s.par P.fgRetried c < 4294967295 →
      Does (.writeBeatResponse τ c false) s0 fun t => (t.fg c).outstanding = rest ∧ t.par P.fgRetried c = s.par P.fgRetried c + 1 ∧
        t.par P.fgBeats c = s.par P.fgBeats c ∧ (t.fg c).stopping = true ∧ t.larder = s.larder) ∧
    (∀ b rest, (s.fg c).stopping = true → (s.fg c).outstanding = b :: rest → Does (.writeBeatResponse τ c true) s0 fun t =>
      (t.fg c).outstanding = rest ∧ t.par P.fgBeats c = s.par P.fgBeats c ∧ (t.fg c).stopping = true) ∧
    ((s.fg c).stopping = true → (s.fg c).outstanding = [] → Does (.stopDrained τ c) s0 fun t =>
      t.par P.fgState c = 0 ∧ (t.fg c).staging = [] ∧ (t.fg c).stopping = false)
end

