-- ==== Sys2Proof/Laws/Due.lean ====
section
/-!
SUPPORT. What the block's own clocks can do before a command (Table 1.7): nothing where no step is due, nothing to the queue, and
whatever a step of a control period keeps they keep.
-/
namespace Sys2Proof.Machine

@[simp] theorem State.due_pending (s : State) (t : Nat) : (s.due t).pending = s.pending := rfl

@[simp] theorem State.at_pending (s : State) (t : Nat) : (s.at t).pending = s.pending := rfl

/-- Where no step is due nothing happens. -/
theorem State.due_of_dueStep_none {s : State} {t : Nat} (h : s.dueStep t = none) : s.due t = s := by
  simp [State.due, State.catchUp, h]

/-- What a step that comes due does: it is a lane's, or the end of a pulse at its time. -/
theorem State.dueStep_cases {s s' : State} {t : Nat} (h : s.dueStep t = some s') :
    (∃ n, s' = s.runStage n) ∨ ∃ e b, s' = (s.clock e).pulseOff b := by
  unfold State.dueStep at h
  split at h
  · cases h
  · exact .inl ⟨_, (Option.some.inj h).symm⟩
  · exact .inr ⟨_, _, (Option.some.inj h).symm⟩
  · split at h
    · exact .inr ⟨_, _, (Option.some.inj h).symm⟩
    · exact .inl ⟨_, (Option.some.inj h).symm⟩

/-- What every step of a control period and the end of every pulse keep, the steps due up to a time keep. -/
theorem State.catchUp_induction {P : State → Prop} (step : ∀ s n, P s → P (s.runStage n)) (pulse : ∀ s e b, P s → P ((s.clock e).pulseOff b))
    (t f : Nat) {s : State} (h : P s) : P (s.catchUp t f) := by
  induction f generalizing s with
  | zero => exact h
  | succ f ih =>
    unfold State.catchUp
    split
    · exact h
    · next hs =>
      obtain ⟨n, rfl⟩ | ⟨e, b, rfl⟩ := State.dueStep_cases hs
      · exact ih (step _ _ h)
      · exact ih (pulse _ _ _ h)

/-- The same of the state a command finds, for what does not look at the queue. -/
theorem State.due_induction {P : State → Prop} (step : ∀ s n, P s → P (s.runStage n)) (pulse : ∀ s e b, P s → P ((s.clock e).pulseOff b))
    (queue : ∀ (s : State) q, P s → P { s with pending := q }) (t : Nat) {s : State} (h : P s) : P (s.due t) :=
  queue _ _ (State.catchUp_induction step pulse t 24 h)

end Sys2Proof.Machine
end

