-- ==== Sys2Proof/Laws/Faults.lean ====
section
/-!
SUPPORT. Faults that stand (R404): the operations that raising a fault uses keep the faults that stand, raising one adds it, and a
raised fault stands.
-/
namespace Sys2Proof.Machine

theorem foldl_standing {α : Type} (f : State → α → State) (h : ∀ s x, (f s x).standing = s.standing) (l : List α) (s : State) :
    (l.foldl f s).standing = s.standing := by
  induction l generalizing s with
  | nil => rfl
  | cons x l ih => rw [List.foldl_cons, ih, h]

theorem each_standing (ks : List Nat) (s : State) (f : Nat → State → State) (h : ∀ k s, (f k s).standing = s.standing) :
    (each ks s f).standing = s.standing := foldl_standing _ (fun s k => h k s) ks s

@[simp] theorem standing_ite (c : Prop) [Decidable c] (a b : State) : (if c then a else b).standing = if c then a.standing else b.standing := by
  split <;> rfl

@[simp] theorem draw_standing (s : State) (w : Nat) : (s.draw w).2.standing = s.standing := rfl

theorem foldl_pair_standing {α β : Type} (f : β × State → α → β × State) (h : ∀ a x, (f a x).2.standing = a.2.standing) (l : List α) (a : β × State) :
    (l.foldl f a).2.standing = a.2.standing := by
  induction l generalizing a with
  | nil => rfl
  | cons x l ih => rw [List.foldl_cons, ih, h]

theorem foldl_fst_standing {α β : Type} (f : State × β → α → State × β) (h : ∀ a x, (f a x).1.standing = a.1.standing) (l : List α) (a : State × β) :
    (l.foldl f a).1.standing = a.1.standing := by
  induction l generalizing a with
  | nil => rfl
  | cons x l ih => rw [List.foldl_cons, ih, h]

@[simp] theorem State.setSb_standing (s : State) (p : Nat) (x : SbPort) : (State.setSb s p x).standing = s.standing := by
  unfold State.setSb
  rfl

@[simp] theorem State.txDrop_standing (s : State) (p tag : Nat) : (State.txDrop s p tag).standing = s.standing := by
  unfold State.txDrop
  rfl

@[simp] theorem State.incPar_standing (s : State) (p : Par) (i : Nat := 0) (j : Nat := 0) (n : Nat := 1) : (State.incPar s p i j n).standing = s.standing := by
  unfold State.incPar
  simp

@[simp] theorem State.push_standing (s : State) (q : Nat) (data : Bytes) (dest port : Nat := 0) : (State.push s q data dest port).standing = s.standing := by
  unfold State.push
  simp

@[simp] theorem State.txPut_standing (s : State) (p id : Nat) (data : Bytes) (own : Bool) (xfer : Option Nat := none) (last : Bool := false)
    (copyOf : Option (Nat × Nat) := none) : (State.txPut s p id data own xfer last copyOf).standing = s.standing := by
  unfold State.txPut
  simp

@[simp] theorem State.feedOne_standing (s : State) (e : Entry) : (State.feedOne s e).standing = s.standing := by
  unfold State.feedOne
  repeat' (first | (simp; done) | split | (simp; rw [foldl_standing]; rotate_left; (intro _ _; try dsimp only)))

@[simp] theorem State.swarmFeed_standing (s : State) : (State.swarmFeed s).standing = s.standing := by
  unfold State.swarmFeed
  refine foldl_standing _ (fun _ _ => ?_) _ _
  simp

@[simp] theorem State.send_standing (s : State) (x : Session) (p : Bytes) : (State.send s x p).standing = s.standing := by
  unfold State.send
  repeat' (first | (simp; done) | (rw [foldl_standing]; rotate_left; (intro _ _; try dsimp only)) | split)

@[simp] theorem State.notifyTo_standing (s : State) (n cls subj ev : Nat) (data : Bytes) : (State.notifyTo s n cls subj ev data).standing = s.standing := by
  unfold State.notifyTo
  simp

@[simp] theorem State.notify_standing (s : State) (cls pos subj : Nat) (data : Bytes) : (State.notify s cls pos subj data).standing = s.standing := by
  unfold State.notify
  refine each_standing _ _ _ fun _ _ => ?_
  simp

@[simp] theorem State.busEvent_standing (s : State) (pos subj : Nat) (data : Bytes) : (State.busEvent s pos subj data).standing = s.standing := by
  unfold State.busEvent
  simp

@[simp] theorem State.feedGone_standing (s : State) (f : TxFrame) : (s.feedGone f).standing = s.standing := by
  unfold State.feedGone
  split
  · simp
  · rfl

@[simp] theorem State.evict_standing (s : State) (p n f : Nat) : (s.evict p n f).standing = s.standing := by
  induction f generalizing s with
  | zero => rfl
  | succ f ih =>
    unfold State.evict
    dsimp only
    split
    · rfl
    · split
      · rfl
      · rw [ih]; simp

@[simp] theorem State.copyEmerg_standing (s : State) (p : Nat) (fs : List TxFrame) : (State.copyEmerg s p fs).standing = s.standing := by
  unfold State.copyEmerg
  repeat' (first | (simp; done) | split | (simp; rw [foldl_standing]; rotate_left; (intro _ _; try dsimp only)))

@[simp] theorem State.queueFrame_standing (s : State) (p id : Nat) (data : Bytes) (own : Bool) : (State.queueFrame s p id data own).standing = s.standing := by
  unfold State.queueFrame
  simp

@[simp] theorem State.forwardOut_standing (s : State) (q id : Nat) (data : Bytes) (own : Bool) : (s.forwardOut q id data own).standing = s.standing := by
  unfold State.forwardOut
  simp

@[simp] theorem State.forwardBcast_standing (s : State) (p src id : Nat) (data : Bytes) (own : Bool) : (State.forwardBcast s p src id data own).standing = s.standing := by
  unfold State.forwardBcast
  repeat' (first | (simp; done) | (simp; rw [each_standing]; rotate_left; (intro _ _; try dsimp only)))

theorem ownGo_standing (s : State) (a id : Nat) (data : Bytes) : (if s.swarm.barred.contains id then s
    else
      let s := s.bcastPorts.foldl (fun s p => s.queueFrame p id data true) s
      match s.bcastPorts with
      | p :: _ => s.forwardBcast p (a / 128) id data true
      | [] => s).standing = s.standing := by
  have h : ∀ l : List Nat, (l.foldl (fun s p => s.queueFrame p id data true) s).standing = s.standing := fun l => foldl_standing _ (fun s p => State.queueFrame_standing s p id data true) l s
  split
  · rfl
  · dsimp only
    split
    · rw [State.forwardBcast_standing, h]
    · exact h _
@[simp] theorem State.ownBcast_standing (s : State) (prio cls detail : Nat) (data : Bytes) : (s.ownBcast prio cls detail data).standing = s.standing := by
  unfold State.ownBcast
  cases s.sourceAddr with
  | none => rfl
  | some a => exact ownGo_standing s a _ data

@[simp] theorem State.emergency_standing (s : State) (code subj safe : Nat) : (State.emergency s code subj safe).standing = s.standing := by
  unfold State.emergency
  simp

@[simp] theorem State.hiveSync_standing (s : State) (k : Nat) : (State.hiveSync s k).standing = s.standing := by
  unfold State.hiveSync
  simp

@[simp] theorem State.setBit_standing (s : State) (p : Par) (k : Nat) (b : Bool) (i : Nat := 0) (j : Nat := 0) : (State.setBit s p k b i j).standing = s.standing := by
  unfold State.setBit
  rfl

@[simp] theorem State.syncProc_standing (s : State) (k : Nat) : (State.syncProc s k).standing = s.standing := by
  unfold State.syncProc
  simp

@[simp] theorem State.setFg_standing (s : State) (c : Nat) (x : FgChan) : (State.setFg s c x).standing = s.standing := by
  unfold State.setFg
  rfl

@[simp] theorem State.fgHalt_standing (s : State) (c status : Nat) : (State.fgHalt s c status).standing = s.standing := by
  unfold State.fgHalt
  simp

@[simp] theorem State.fgAdvance_standing (s : State) (c n : Nat) : (State.fgAdvance s c n).standing = s.standing := by
  unfold State.fgAdvance
  simp

@[simp] theorem State.lineAt_standing (s : State) (k c : Nat) : (State.lineAt s k c).standing = s.standing := by
  unfold State.lineAt
  split <;> simp

@[simp] theorem State.latchLine_standing (s : State) (k : Nat) : (State.latchLine s k).standing = s.standing := by
  unfold State.latchLine
  refine each_standing _ _ _ fun _ _ => ?_
  simp

@[simp] theorem State.panTrigger_standing (s : State) (cause : Nat) (code : Nat := 0) (at_ : Option (Nat × Nat) := none) : (State.panTrigger s cause code at_).standing = s.standing := by
  unfold State.panTrigger
  simp

@[simp] theorem State.raiseLine_standing (s : State) (k : Nat) : (State.raiseLine s k).standing = s.standing := by
  unfold State.raiseLine
  simp

@[simp] theorem State.sendMark_standing (s : State) (x : Session) (p : Bytes) (boot : Bool) : (State.sendMark s x p boot).standing = s.standing := by
  unfold State.sendMark
  simp

@[simp] theorem State.sendOrWait_standing (s : State) (n : Nat) (p : Bytes) (boot run : Bool) : (State.sendOrWait s n p boot run).standing = s.standing := by
  unfold State.sendOrWait
  simp

@[simp] theorem State.putChan_standing (s : State) (c : Nat) (x : Chan) : (s.putChan c x).standing = s.standing := rfl

@[simp] theorem State.turnOff_standing (s : State) (c : Nat) : (State.turnOff s c).standing = s.standing := by
  unfold State.turnOff
  simp

@[simp] theorem State.axisOff_standing (s : State) (k : Nat) : (State.axisOff s k).standing = s.standing := by
  unfold State.axisOff
  refine each_standing _ _ _ fun _ _ => ?_
  simp

@[simp] theorem State.complete_standing (s : State) (opcode sess seq status : Nat) (extra : Bytes := []) (boot : Bool := false) : (State.complete s opcode sess seq status extra boot).standing = s.standing := by
  unfold State.complete
  simp

@[simp] theorem State.endOp_standing (s : State) (opcode target status : Nat) (extra : Bytes := []) : (State.endOp s opcode target status extra).standing = s.standing := by
  unfold State.endOp
  split <;> simp

@[simp] theorem State.testCurrent_standing (s : State) (p : Precheck) (on : Bool) : (s.testCurrent p on).standing = s.standing := by
  unfold State.testCurrent
  split <;> simp

@[simp] theorem State.endPrecheckCells_standing (s : State) (k : Nat) : (State.endPrecheckCells s k).standing = s.standing := by
  unfold State.endPrecheckCells
  repeat' (first | (simp; done) | split | (simp; rw [each_standing]; rotate_left; (intro _ _; try dsimp only)))

@[simp] theorem State.endPrecheck_standing (s : State) (k status : Nat) : (State.endPrecheck s k status).standing = s.standing := by
  unfold State.endPrecheck
  simp

@[simp] theorem State.stopLane_standing (s : State) (k : Nat) : (State.stopLane s k).standing = s.standing := by
  unfold State.stopLane
  repeat' (first | (simp; done) | (simp; rw [foldl_standing]; rotate_left; (intro _ _; try dsimp only)))

@[simp] theorem State.softOff_standing (s : State) (c : Nat) (l : Bool) : (State.softOff s c l).standing = s.standing := by
  unfold State.softOff
  simp

@[simp] theorem State.holdCells_standing (s : State) (cause : Nat) (cells : List Nat) : (State.holdCells s cause cells).standing = s.standing := by
  unfold State.holdCells
  repeat' (first | (simp; done) | (simp; rw [each_standing]; rotate_left; (intro _ _; try dsimp only)))

@[simp] theorem State.ss1Chopper_standing (s : State) : (State.ss1Chopper s).standing = s.standing := by
  unfold State.ss1Chopper
  simp

@[simp] theorem State.turnOn_standing (s : State) (c : Nat) : (State.turnOn s c).standing = s.standing := by
  unfold State.turnOn
  simp

@[simp] theorem State.incSat_standing (s : State) (p : Par) (top : Int) (i : Nat := 0) (j : Nat := 0) (n : Nat := 1) : (State.incSat s p top i j n).standing = s.standing := by
  unfold State.incSat
  rfl

@[simp] theorem State.frameRef_standing (s : State) (before : Bool) (subj : Nat) : (State.frameRef s before subj).standing = s.standing := by
  unfold State.frameRef
  dsimp only
  split <;> simp

@[simp] theorem State.recordFault_standing (s : State) (code subj safe : Nat) (path : String) (secondary : Bool := false) : (State.recordFault s code subj safe path secondary).standing = s.standing := by
  unfold State.recordFault
  dsimp only
  split <;> simp

@[simp] theorem State.report_standing (s : State) (code subj safe : Nat) (path : String) (secondary : Bool := false) : (State.report s code subj safe path secondary).standing = s.standing := by
  unfold State.report
  simp

@[simp] theorem State.axisSoft_standing (s : State) (k : Nat) : (State.axisSoft s k).standing = s.standing := by
  unfold State.axisSoft
  refine each_standing _ _ _ fun _ _ => ?_
  simp

@[simp] theorem State.applySafe_standing (s : State) (k safe code : Nat) : (State.applySafe s k safe code).standing = s.standing := by
  unfold State.applySafe
  repeat' (first | (simp; done) | (rw [each_standing]; rotate_left; (intro _ _; try dsimp only)) | (simp; rw [each_standing]; rotate_left; (intro _ _; try dsimp only)))

@[simp] theorem State.markLatched_standing (s : State) (b : Bool) : (State.markLatched s b).standing = s.standing := by
  unfold State.markLatched
  split <;> rfl

/-! ### The end of HOUSE_SILENT

A move of an axis ends its HOUSE_SILENT where the conditions of that fault no longer hold (R50); every other fault keeps standing. -/

/-- The faults that stand, HOUSE_SILENT left out. -/
def State.others (s : State) : List Standing := s.standing.filter fun f => decide (f.code ≠ 0x0206)

theorem others_congr {a b : State} (h : a.standing = b.standing) : a.others = b.others := congrArg (List.filter _) h

@[simp] theorem others_ite (c : Prop) [Decidable c] (a b : State) : (if c then a else b).others = if c then a.others else b.others := by
  split <;> rfl

@[simp] theorem State.recordClear_standing (s : State) (code subj : Nat) (path : String) : (s.recordClear code subj path).standing = s.standing := by
  unfold State.recordClear
  repeat' (first | (simp; done) | split | (simp; rw [foldl_standing]; rotate_left; (intro _ _; try dsimp only)))

theorem State.unstand_others (s : State) (f : Standing) (h : f.code = 0x0206) : (s.unstand f).others = s.others := by
  have e : (s.unstand f).standing = s.standing.filter fun g => decide (g ≠ f) := by
    unfold State.unstand
    simp
  unfold State.others
  rw [e, List.filter_filter]
  refine List.filter_congr fun g _ => ?_
  by_cases hg : g = f
  · simp [hg, h]
  · simp [hg]

@[simp] theorem State.unstandSilent_others (s : State) (k : Nat) : (s.unstandCode 0x0206 k).others = s.others := by
  unfold State.unstandCode
  have go : ∀ (l : List Standing) (x : State), (∀ f ∈ l, f.code = 0x0206) → (l.foldl (fun s f => s.unstand f) x).others = x.others := by
    intro l
    induction l with
    | nil => intro x _; rfl
    | cons f l ih =>
      intro x hl
      rw [List.foldl_cons, ih _ fun g hg => hl g (List.mem_cons_of_mem _ hg), State.unstand_others x f (hl f List.mem_cons_self)]
  refine go _ _ fun f hf => ?_
  have h := (List.mem_filter.mp hf).2
  simp only [Bool.and_eq_true, decide_eq_true_eq] at h
  exact h.1

@[simp] theorem State.silentEnds_others (s : State) (k : Nat) : (s.silentEnds k).others = s.others := by
  unfold State.silentEnds
  simp

@[simp] theorem State.setAx_others (s : State) (k : Nat) (a : Axis) : (s.setAx k a).others = s.others := rfl
@[simp] theorem State.modAx_others (s : State) (k : Nat) (f : Axis → Axis) : (s.modAx k f).others = s.others := rfl
@[simp] theorem State.stopLane_others (s : State) (k : Nat) : (s.stopLane k).others = s.others := others_congr (by simp)
@[simp] theorem State.axisOff_others (s : State) (k : Nat) : (s.axisOff k).others = s.others := others_congr (by simp)
@[simp] theorem State.endPrecheckCells_others (s : State) (k : Nat) : (s.endPrecheckCells k).others = s.others := others_congr (by simp)
@[simp] theorem State.endPrecheck_others (s : State) (k st : Nat) : (s.endPrecheck k st).others = s.others := others_congr (by simp)
@[simp] theorem State.endOp_others (s : State) (op k st : Nat) : (s.endOp op k st).others = s.others := others_congr (by simp)
@[simp] theorem State.ss1Chopper_others (s : State) : s.ss1Chopper.others = s.others := others_congr (by simp)
@[simp] theorem State.holdCells_others (s : State) (c : Nat) (gs : List Nat) : (s.holdCells c gs).others = s.others := others_congr (by simp)
@[simp] theorem State.endEpisode_others (s : State) (k : Nat) (f : Axis → Axis) : (s.endEpisode k f).others = s.others :=
  others_congr (by simp [State.endEpisode])
@[simp] theorem State.dropProc_others (s : State) (k : Nat) : (s.dropProc k).others = s.others :=
  others_congr (by simp [State.dropProc, State.endEpisode])

@[simp] theorem State.moveAxis_others (s : State) (k : Nat) (st : AxState) : (s.moveAxis k st).others = s.others := by
  unfold State.moveAxis
  dsimp only
  rw [State.silentEnds_others]
  refine others_congr ?_
  rw [State.notify_standing, State.syncProc_standing]
  split <;> simp

@[simp] theorem State.enterSto_others (s : State) (k : Nat) : (s.enterSto k).others = s.others := by
  unfold State.enterSto
  simp

@[simp] theorem State.faultState_others (s : State) (k : Nat) (st : AxState) : (s.faultState k st).others = s.others := by
  unfold State.faultState
  simp

@[simp] theorem State.enterFault_others (s : State) (k : Nat) (retry counted pre : Bool) : (s.enterFault k retry counted pre).others = s.others := by
  unfold State.enterFault
  dsimp only
  split <;> simp

@[simp] theorem quickFault_others (s : State) (k : Nat) (a b : Bool) : (s.quickFault k a b).others = s.others := by
  unfold State.quickFault
  dsimp only
  repeat' (first | (simp; done) | split)

@[simp] theorem react_others (s : State) (k : Nat) (r : React) (b : Bool) : (s.react k r b).others = s.others := by
  unfold State.react
  repeat' (first | (simp; done) | split)

theorem stands_of_others {a b : State} (h : a.others = b.others) (c i : Nat) (hc : c ≠ 0x0206) : a.stands c i = b.stands c i := by
  have go : ∀ s : State, s.stands c i = s.others.any fun f => decide (f.code = c) && decide (f.inst = i) := by
    intro s
    unfold State.stands State.others
    rw [List.any_filter]
    congr 1
    funext f
    by_cases hf : f.code = c
    · simp [hf, hc]
    · simp [hf]
  rw [go, go, h]

/-! ### A raised fault stands -/

theorem stand_any (s : State) (f : Standing) : (s.stand f).stands f.code f.inst = true := by
  unfold State.stand
  dsimp only
  split
  · rename_i h
    unfold State.stands
    rw [List.any_eq_true] at h ⊢
    obtain ⟨g, hg, h⟩ := h
    refine ⟨_, List.mem_map_of_mem hg, ?_⟩
    rw [if_pos h]
    simp only [Bool.and_eq_true] at h ⊢
    exact ⟨h.1.1.1, h.1.2⟩
  · simp [State.stands]

theorem stands_congr {a b : State} (h : a.standing = b.standing) (c i : Nat) : a.stands c i = b.stands c i := by
  unfold State.stands; rw [h]

theorem raiseModule_stands (s : State) (code inst : Nat) (path : String) : (s.raiseModule code inst path).stands code inst = true := by
  unfold State.raiseModule; exact stand_any _ _

theorem stand_mono (s : State) (f : Standing) (c i : Nat) (h : s.stands c i = true) : (s.stand f).stands c i = true := by
  unfold State.stand
  dsimp only
  split
  · unfold State.stands at *
    rw [List.any_eq_true] at h ⊢
    obtain ⟨g, hg, h⟩ := h
    refine ⟨_, List.mem_map_of_mem hg, ?_⟩
    split <;> exact h
  · unfold State.stands at *; simp only [List.any_append, h, Bool.true_or]

@[simp] theorem State.setAx_standing' (s : State) (k : Nat) (a : Axis) : (s.setAx k a).standing = s.standing := rfl

@[simp] theorem State.arb_standing (s : State) (k rank : Nat) : (s.arb k rank).1.standing = s.standing := by
  unfold State.arb
  dsimp only
  repeat' (first | rfl | split)

@[simp] theorem State.arbReact_standing (s : State) (k : Nat) (r : React) (pre : Bool) : (s.arbReact k r pre).1.standing = s.standing := by
  have go : ∀ q : Nat, (if q = 0 then (s, true) else s.arb k q).1.standing = s.standing := by
    intro q
    split
    · rfl
    · exact s.arb_standing k q
  exact go _

theorem enterRecord_stands (s : State) (code k inst safe : Nat) (path : String) (pre : Bool) :
    (s.enterRecord code k inst safe path pre).stands code inst = true := by
  unfold State.enterRecord
  exact stand_any _ _

theorem enterRecord_mono (s : State) (code k inst safe : Nat) (path : String) (pre : Bool) (c i : Nat) (h : s.stands c i = true) :
    (s.enterRecord code k inst safe path pre).stands c i = true := by
  unfold State.enterRecord
  apply stand_mono
  rw [stands_congr (b := s)]
  · exact h
  · simp

@[simp] theorem State.markLatched_others (s : State) (b : Bool) : (s.markLatched b).others = s.others := others_congr (by simp)
@[simp] theorem State.applySafe_others (s : State) (k safe code : Nat) : (s.applySafe k safe code).others = s.others := others_congr (by simp)

/-- Raising a fault on an axis: what follows its record ends HOUSE_SILENT alone. -/
theorem State.raiseOn_others (s : State) (code k inst : Nat) (path : String) (hard pre : Bool) :
    (s.raiseOn code k inst path hard pre).others =
      (if ((s.arbReact k (faultRow code hard).2 pre).2 || pre || decide ((faultRow code hard).2.rank = 2) ||
          (((s.arbReact k (faultRow code hard).2 pre).1.ax k).turn.map Turn.rank) == some 2) = true then
        (s.arbReact k (faultRow code hard).2 pre).1.enterRecord code k inst (faultRow code hard).1 path pre
      else (s.arbReact k (faultRow code hard).2 pre).1).others := by
  unfold State.raiseOn
  dsimp only
  rw [State.markLatched_others, others_ite, react_others, ite_self, State.applySafe_others]

/-- A fault stands once raised on an axis, where no higher trigger of its control period discards it or its reaction latches (R60);
HOUSE_SILENT may end with the move of its own axis. -/
theorem raiseOn_stands (s : State) (code k inst : Nat) (path : String) (hard pre : Bool) (hc : code ≠ 0x0206)
    (h : ((s.arbReact k (faultRow code hard).2 pre).2 || pre || decide ((faultRow code hard).2.rank = 2)) = true) :
    (s.raiseOn code k inst path hard pre).stands code inst = true := by
  have e := s.raiseOn_others code k inst path hard pre
  rw [if_pos (by rw [h]; rfl)] at e
  rw [stands_of_others e _ _ hc]
  exact enterRecord_stands _ _ _ _ _ _ _

theorem raiseOn_mono (s : State) (code k inst : Nat) (path : String) (hard pre : Bool) (c i : Nat) (hc : c ≠ 0x0206) (h : s.stands c i = true) :
    (s.raiseOn code k inst path hard pre).stands c i = true := by
  have h' : (s.arbReact k (faultRow code hard).2 pre).1.stands c i = true := by
    rw [stands_congr (State.arbReact_standing _ _ _ _)]
    exact h
  rw [stands_of_others (s.raiseOn_others code k inst path hard pre) _ _ hc]
  split
  · exact enterRecord_mono _ _ _ _ _ _ _ _ _ h'
  · exact h'

/-- A fault raised on no axis stands on the module; one raised on several stands where the first is not discarded. -/
theorem raiseAll_stands (s : State) (code : Nat) (ks : List Nat) (inst : Nat) (path : String) (hard : Bool)
    (hc : code ≠ 0x0206) (h : ∀ k ∈ ks.head?, ((s.arbReact k (faultRow code hard).2 false).2 || decide ((faultRow code hard).2.rank = 2)) = true) :
    (s.raiseAll code ks inst path hard).stands code inst = true := by
  unfold State.raiseAll
  cases ks with
  | nil => exact stand_any _ _
  | cons k ks =>
    show ((k :: ks).foldl (fun s k => s.raiseOn code k inst path hard) s).stands code inst = true
    rw [List.foldl_cons]
    have go : ∀ (l : List Nat) (s : State), s.stands code inst = true → (l.foldl (fun s k => s.raiseOn code k inst path hard) s).stands code inst = true := by
      intro l
      induction l with
      | nil => intro s h; exact h
      | cons k l ih => intro s h; rw [List.foldl_cons]; exact ih _ (raiseOn_mono _ _ _ _ _ _ _ _ _ hc h)
    exact go _ _ (raiseOn_stands _ _ _ _ _ _ _ hc (by simpa using h k rfl))

end Sys2Proof.Machine
end

