-- ==== Sys2Proof/WellFormed.lean ====
section
/-!
DEFINITION. Which commands name something the module has: every index within its family, every code within its width, every
list of the length its row gives (log entry 184). A command that is not well formed stands for no event of the hardware; its
meaning exists all the same.
-/
namespace Sys2Proof

/-- Every code of a list fits 16 bits. -/
def codes16 (l : List Nat) : Bool := l.all fun x => decide (x < 65536)

/-- The samples of one SE: three currents and four voltage codes for each bridge, at most four bridges (R161). -/
def sampleLists (l : List (List Int × List Nat)) : Bool :=
  decide (l.length ≤ 4) && l.all fun d => decide (d.1.length = 3 ∧ d.2.length = 4) && codes16 d.2

/-- A command is well formed. -/
def Instr.wf : Instr → Bool
  | .powerOnResetRelease _ => true
  | .brownOut _ => true
  | .crystalQualified _ => true
  | .crystalTimeout _ _ => true
  | .pllLocked _ => true
  | .cellarSelfTest _ => true
  | .atticLoad _ failed => failed.all fun f => decide (f.1 < 64 ∧ 1 ≤ f.2 ∧ f.2 ≤ 8)
  | .larderInit _ _ => true
  | .wingSelection _ _ => true
  | .imageCrcCheck _ => true
  | .lockstepSelfTest _ _ _ => true
  | .bootSelfTestRetry _ => true
  | .configLoad _ _ _ => true
  | .cellLinkTraining _ absent bootV counts => decide (absent < 8192 ∧ bootV.length = 13 ∧ counts.length = 29) && codes16 counts
  | .bootAfterReply _ => true
  | .referenceLost _ => true
  | .crystalBack _ => true
  | .clockCheckWindow _ _ => true
  | .firmwareFault _ _ => true
  | .pairRestart _ _ => true
  | .cellarCoreRestart _ => true
  | .sampleEvent _ n samples _ _ => decide (n < 5) && sampleLists samples
  | .shadowDeadline _ n => decide (n < 5)
  | .edgeDispatch _ n => decide (n < 5)
  | .laneMismatch _ n _ => decide (n < 5)
  | .laneSelfTest _ n _ => decide (n < 5)
  | .houseSilent _ k => decide (k < 4)
  | .bridgeImbalance _ k => decide (k < 4)
  | .senseRefCheck _ b cur _ => decide (b < 4 ∧ cur.length = 3)
  | .selfTriggerConversion _ b raw rawV => decide (b < 4 ∧ raw.length = 3 ∧ rawV.length = 4) && codes16 rawV
  | .senseSum _ b => decide (b < 4)
  | .senseOffset _ b x => decide (b < 4 ∧ x < 3)
  | .vdcDisagree _ k => decide (k < 2)
  | .phaseOc _ b raw => decide (b < 4 ∧ raw.length = 3)
  | .sdStream _ d _ => decide (d < 12)
  | .fusionSelfTimed _ k => decide (k < 4)
  | .sourceDropped _ k src => decide (k < 4 ∧ src < 4)
  | .sourceReadmitted _ k src => decide (k < 4 ∧ src < 4)
  | .waggleReversal _ k => decide (k < 4)
  | .scoutSettleTimeout _ k => decide (k < 4)
  | .polarityPulseEnd _ k raw => decide (k < 4 ∧ raw.length = 3)
  | .currentDecayed _ k codes => decide (k < 4) && (codes.all fun l => decide (l.length = 3))
  | .scoutBackCheckEnd _ k => decide (k < 4)
  | .catchLock _ k => decide (k < 4)
  | .catchNoEmf _ k => decide (k < 4)
  | .catchAttemptTimeout _ k => decide (k < 4)
  | .catchUsedReset _ k => decide (k < 4)
  | .limpCrossingTimeout _ k => decide (k < 4)
  | .limpReturn _ k => decide (k < 4)
  | .encTransition _ k _ _ _ _ _ => decide (k < 4)
  | .fbLine _ k pair _ => decide (k < 4 ∧ pair < 3)
  | .indexEvent _ k _ => decide (k < 4)
  | .indexMissed _ k => decide (k < 4)
  | .encStandstill _ k => decide (k < 4)
  | .feedbackSelfSample _ d => decide (d < 10)
  | .resolverSamplePair _ k _ _ _ => decide (k < 2)
  | .resExc _ k => decide (k < 2)
  | .resExcRestart _ k => decide (k < 2)
  | .ssiFrameStart _ k _ => decide (k < 4)
  | .ssiStartTimeout _ k => decide (k < 4)
  | .ssiFrameCheck _ k bits _ => decide (k < 4 ∧ bits < 18446744073709551616)
  | .fbReturn _ d => decide (d < 10)
  | .speedLoopTick _ k => decide (k < 4)
  | .snatchDwellEnd _ k => decide (k < 4)
  | .vented _ k => decide (k < 4)
  | .ventedEnd _ k => decide (k < 4)
  | .standstillReached _ k => decide (k < 4)
  | .chopMinOnEnd _ k => decide (k < 2)
  | .chopEnergyUpdate _ => true
  | .linkUv _ k => decide (k < 2)
  | .ecSample _ k _ _ _ => decide (k < 4)
  | .ecLost _ k => decide (k < 4)
  | .ecBack _ k => decide (k < 4)
  | .ringCycleStart _ => true
  | .trayReceived _ p bs frac => decide (p < 2 ∧ bs.length = 367 ∧ frac < 1000000)
  | .viewClose _ => true
  | .ringDelayRequest _ p seq member turn => decide (p < 2 ∧ seq < 256 ∧ member < 16 ∧ turn < 65536)
  | .ringDelayResponse _ p seq member turn _ => decide (p < 2 ∧ seq < 256 ∧ member < 16 ∧ turn < 65536)
  | .pairDown _ p pair => decide (p < 2 ∧ pair < 2)
  | .pairUp _ p pair => decide (p < 2 ∧ pair < 2)
  | .portReady _ p => decide (p < 2)
  | .cycleMasterTakeover _ => true
  | .ringLost _ => true
  | .memberJoining _ => true
  | .joinRampEnd _ => true
  | .leaveRampEnd _ => true
  | .hiveEnWrite _ v => decide (v < 256)
  | .desat _ c => decide (c < 26)
  | .softOffLevelEnd _ c => decide (c < 26)
  | .gateOffDetected _ c => decide (c < 26)
  | .gateStageChange _ c what _ => decide (c < 26 ∧ what < 5)
  | .deadTimeExpired _ c => decide (c < 24)
  | .gateStuck _ c => decide (c < 24)
  | .cellLinkLoss _ g => decide (g < 13)
  | .cellStatusFrame _ g _ _ _ => decide (g < 13)
  | .crossCmd _ g => decide (g < 13)
  | .bootstrap _ g _ => decide (g < 13)
  | .gateSupply _ c _ => decide (c < 26)
  | .chopOc _ k => decide (k < 2)
  | .dgEdge _ p _ => decide (p < 26)
  | .ocBackstop _ b => decide (b < 4)
  | .holdoffRequest _ mask _ => decide (mask < 8192)
  | .holdoffRelease _ g => decide (g < 13)
  | .ascRelease _ k => decide (k < 4)
  | .stoInputChange _ which _ => decide (which < 2)
  | .stoDemand _ => true
  | .stoRelease _ => true
  | .stoDiscrepancy _ => true
  | .ss1Timeout _ => true
  | .precheckPumpDeadline _ k => decide (k < 4)
  | .gateLoopTest _ k _ _ _ => decide (k < 4)
  | .desatTest _ k _ _ => decide (k < 4)
  | .phaseTest _ k off node => decide (k < 4 ∧ off.length = 3 ∧ node.length = 3)
  | .sensingTest _ k zero ref0 ref1 => decide (k < 4 ∧ zero.length = 3 ∧ ref0.length = 4 ∧ ref1.length = 4)
  | .chopperTest _ k _ _ _ _ => decide (k < 4)
  | .precheckBridgeDone _ k => decide (k < 4)
  | .faultWaitExpired _ k => decide (k < 4)
  | .tempWindow _ counts => decide (counts.length = 29) && codes16 counts
  | .tsPlausible _ n => decide (n < 29)
  | .thermalStateChange _ which => decide (which < 2)
  | .thermalSdRelease _ => true
  | .thGraceExpired _ w => decide (w < 5)
  | .thRequestRepeat _ w => decide (w < 5)
  | .thAck _ => true
  | .hold60End _ => true
  | .ntcSample _ k code => decide (k < 8 ∧ code < 65536)
  | .junctionUpdate _ => true
  | .jtCalCmd _ b v => decide (b < 4 ∧ v < 256)
  | .jtPulse _ b _ => decide (b < 4)
  | .jtCalDone _ b => decide (b < 4)
  | .lifeUpdate _ => true
  | .wearSave _ => true
  | .spiWrite _ _ => true
  | .spiRead _ _ => true
  | .spiStatus _ _ => true
  | .openSession _ _ => true
  | .closeSession _ _ => true
  | .heartbeat _ _ => true
  | .claim _ _ => true
  | .release _ _ => true
  | .handover _ _ => true
  | .getParams _ _ => true
  | .setParams _ _ => true
  | .parameterWrite _ pn v => decide (pn < 65536 ∧ v < 18446744073709551616)
  | .getBlock _ _ => true
  | .setBlock _ _ => true
  | .snapshot _ _ => true
  | .enable _ _ => true
  | .disable _ _ => true
  | .setpoint _ _ => true
  | .modeDevice _ _ => true
  | .modeAxis _ _ => true
  | .precheck _ _ => true
  | .quickstop _ _ => true
  | .faultClearAxis _ _ => true
  | .faultClearDevice _ _ => true
  | .subscribe _ _ => true
  | .unsubscribe _ _ => true
  | .foragerLoad _ _ => true
  | .foragerStart _ _ => true
  | .foragerStop _ _ => true
  | .stopDrained _ c => decide (c < 16)
  | .pantryDisarm _ _ => true
  | .pantryArm _ _ => true
  | .pantryTrigger _ _ => true
  | .pantryRead _ _ _ => true
  | .atticRead _ _ => true
  | .atticWrite _ _ => true
  | .atticProgramDone _ _ => true
  | .atticJournal _ _ => true
  | .imageLoad _ _ => true
  | .imageLoadDone _ => true
  | .imageVerify _ _ => true
  | .imageVerifyDone _ => true
  | .imageSwitch _ _ => true
  | .switchChecksDone _ _ => true
  | .standbySynced _ _ => true
  | .newPairCommit _ => true
  | .formerPairSynced _ _ => true
  | .recal _ _ => true
  | .recalDone _ => true
  | .laneSwap _ _ => true
  | .laneSwapDone _ k => decide (k < 4)
  | .hiveLeave _ _ => true
  | .hiveJoin _ _ => true
  | .softReset _ _ => true
  | .sessionIdleTimeout _ n => decide (1 ≤ n ∧ n ≤ 256)
  | .authProofTimeout _ n => decide (1 ≤ n ∧ n ≤ 256)
  | .telemetry _ n => decide (1 ≤ n ∧ n ≤ 256)
  | .completionNotification _ => true
  | .reassemblyTimeout _ => true
  | .electionClose _ => true
  | .handoverLapse _ => true
  | .ownerHeartbeatTimeout _ => true
  | .emergencyDelay _ => true
  | .queueWrite _ q _ dest port => decide (q < 32 ∧ dest < 4294967296 ∧ port < 4)
  | .hallwayAccess _ m _ _ _ _ _ => decide (m < 9)
  | .larderScrub _ _ _ => true
  | .swarmFrameReceived _ p kind id _ _ data _ => decide (p < 4 ∧ kind < 5 ∧ id < 536870912 ∧ data.length ≤ 64)
  | .receiveEntryTake _ q => decide (q < 8)
  | .swarmFrameSent _ p _ _ => decide (p < 4)
  | .swarmTxError _ p err _ => decide (p < 4 ∧ err.kind < 4)
  | .frameLifetimeEnd _ p => decide (p < 4)
  | .busoffReqDelay _ p => decide (p < 4)
  | .sbRecover _ mask => decide (mask < 16)
  | .busOffRecovered _ p => decide (p < 4)
  | .statusFrame _ => true
  | .sbEn _ p v => decide (p < 4 ∧ v < 256)
  | .addrClaimed _ => true
  | .addrReclaim _ => true
  | .basicCycleStart _ => true
  | .combWindowStart _ p => decide (p < 4)
  | .referenceMessage _ p id data _ => decide (p < 4 ∧ id < 536870912 ∧ data.length ≤ 64)
  | .delayRequestSend _ => true
  | .delayRequestMessage _ p id data _ => decide (p < 4 ∧ id < 536870912 ∧ data.length ≤ 64)
  | .delayResponseMessage _ p id data _ => decide (p < 4 ∧ id < 536870912 ∧ data.length ≤ 64)
  | .timeHoldover _ => true
  | .timeLost _ => true
  | .becomeMaster _ => true
  | .masterByRank _ => true
  | .timeSet _ v => decide (v < 18446744073709551616)
  | .swarmSecond _ => true
  | .combWaitEnd _ p => decide (p < 4)
  | .relayResume _ q => decide (q < 4)
  | .endProgram _ c _ => decide (c < 16)
  | .move _ c _ => decide (c < 16)
  | .loop _ c _ => decide (c < 16)
  | .wait _ c _ => decide (c < 16)
  | .signal _ c _ => decide (c < 16)
  | .setxLoad _ c _ => decide (c < 16)
  | .setxAdd _ c _ => decide (c < 16)
  | .setxLoadm _ c _ => decide (c < 16)
  | .setxCopy _ c _ => decide (c < 16)
  | .setxAnd _ c _ => decide (c < 16)
  | .setxPlane _ c _ => decide (c < 16)
  | .shuf _ c _ => decide (c < 16)
  | .crc _ c _ => decide (c < 16)
  | .eventLineRaise _ k => decide (k < 64)
  | .waitTimeout _ c => decide (c < 16)
  | .writeBeatResponse _ c _ => decide (c < 16)
  | .fgDisable _ c v => decide (c < 16 ∧ v < 256)
  | .publishRecord _ k => decide (k < 8)
  | .pantrySample _ c => decide (c < 32)
  | .faultRecordCopy _ j => decide (j < 256)
  | .porchTransaction _ space _ a hchk v dchk _ => decide (space < 4 ∧ a < 256 ∧ hchk < 16 ∧ v < 4294967296 ∧ dchk < 16)
  | .porchIdleReset _ => true
  | .porchStatClear _ v => decide (v < 4294967296)
  | .newChallenge _ => true
  | .verify _ => true
  | .porchVerifyDone _ _ => true
  | .challengeBlockEnd _ => true
  | .relock _ => true
  | .fullHalt _ => true
  | .liveHalt _ => true
  | .haltResume _ => true
  | .haltStep _ => true
  | .standbyResynced _ => true
  | .breakpointHit _ k => decide (k < 8)
  | .watchpointHit _ k _ _ => decide (k < 4)
  | .memData _ _ v _ => decide (v < 4294967296)
  | .regData _ _ v => decide (v < 4294967296)
  | .txlen _ n => decide (n < 4294967296)
  | .txdata _ v => decide (v < 4294967296)
  | .rxdata _ => true
  | .extest x => x.tdi.isEmpty || decide (x.tdi.length = 212)
  | .samplePreload x => x.tdi.isEmpty || decide (x.tdi.length = 212)
  | .clamp _ => true
  | .highz _ => true
  | .idcode _ => true
  | .bypass _ => true
  | .testLogicReset _ => true
  | .supplyMeasure _ _ _ _ _ => true
  | .feedReverse _ x => decide (x < 2)
  | .feedForward _ x _ => decide (x < 2)
  | .carrierPeakSample _ n samples => decide (n < 5) && sampleLists samples
  | .edgeAtGatePin _ c _ => decide (c < 24)
  | .swarmRxError _ p _ => decide (p < 4)
  | .portIntegrated _ p => decide (p < 4)
  | .faultCleared _ code _ => decide (code < 65536)
  | .rejectedPacket _ _ => true

end Sys2Proof
end

