-- ==== Sys2Proof/Tests/Slice0.lean ====
section
/-!
SUPPORT. Tests of this package's own: an ill-formed term for each check of `Instr.wf`, figures of the manual, and for each
statement one theorem with a state and operands that meet the hypotheses of each of its clauses.
-/
namespace Sys2Proof.Tests
set_option Elab.async false
open Sys2Proof Sys2Proof.Machine

/-! ### Small states -/

/-- IDLE with both pairs live. -/
def base : State := { State.reset with dev := { st := .idle, pairA := { live := true }, pairB := { live := true, synced := true }, supplyOk := true } }

/-- Parameter values. -/
def pr (s : State) (l : List (Par × Nat × Int)) : State := l.foldl (fun s e => s.setPar e.1 e.2.2 e.2.1) s

/-- One axis. -/
def ax (s : State) (k : Nat) (a : Axis) : State := s.setAx k a

/-- One bridge for each axis. -/
def wired : State := pr base [(P.bridgeMask, 0, 1), (P.bridgeMask, 1, 2), (P.bridgeMask, 2, 4), (P.bridgeMask, 3, 8)]

/-- One lane. -/
def lane (s : State) (n : Nat) (l : Lane) : State := s.setLane n l

/-- A tray with an empty body and a HIVE_ID. -/
def trayBytes (hive : Nat) : Bytes :=
  let h : Bytes := leBytes 3 0 ++ leBytes 2 hive ++ leBytes 6 0
  h ++ leBytes 2 (crc16 h) ++ List.replicate 354 0#8

/-- The ring on, port 1 up. -/
def tray0 : State := { base with ring := { on := true, right := { up := true, pair0 := true, pair1 := true } } }

/-! ### Packets: session 1 is open on the host SPI port and owns the module -/

def pk (op : Nat) (payload : Bytes) (flags : Nat := 0) : Pkt := parsePkt (packet op flags 1 0 payload none)

/-- The packet is the oldest entry of Q12. -/
def cmd (s : State) (op : Nat) (payload : Bytes) (flags : Nat := 0) : State :=
  { (s.setSess 1 { isOpen := true, proven := true, rank := 1, nextSeq := 0, timeoutMs := 1000 }).setQueue 12 [{ data := packet op flags 1 0 payload none, tag := 3 }] with
    owner := { s.owner with session := 1 } }

def offersB (s : State) (tp : Transport) (c : Cmd) (n : Nat) (p : Pkt) : Bool :=
  s.mayServe tp &&
    (match (s.front tp).1 with
      | some (bs, o) => decide (p = parsePkt bs) && decide (8 ≤ bs.length) && decide (s.headCheck o bs = none)
      | none => false) &&
    decide (p.op = c.op) && c.sub p && decide (p.sess = n) && decide (c.op ≠ 0x01) && (s.sess n).tagOk p && decide (p.seq = (s.sess n).nextSeq)

theorem offers_of {s : State} {tp : Transport} {c : Cmd} {n : Nat} {p : Pkt} (h : offersB s tp c n p = true) : s.Offers tp c n p := by
  unfold offersB at h
  simp only [Bool.and_eq_true, decide_eq_true_eq] at h
  obtain ⟨⟨⟨⟨⟨⟨⟨h1, h2⟩, h3⟩, h4⟩, h5⟩, h6⟩, h7⟩, h8⟩ := h
  refine ⟨h1, ?_, h3, h4, ⟨h5, h6⟩, h7, h8⟩
  split at h2
  · rename_i bs o e
    simp only [Bool.and_eq_true, decide_eq_true_eq] at h2
    exact ⟨bs, o, e, h2.1.1, h2.1.2, h2.2⟩
  · exact absurd h2 (by decide)

theorem accepts_of {s : State} {tp : Transport} {c : Cmd} {n : Nat} {p : Pkt}
    (h : (offersB s tp c n p && c.len p && (decide (c.cls ≠ .write) || decide (s.owner.session = n)) && c.states.contains s.dev.st) = true) :
    s.Accepts tp c n p := by
  simp only [Bool.and_eq_true, Bool.or_eq_true, decide_eq_true_eq] at h
  exact ⟨offers_of h.1.1.1, h.1.1.2, fun e => h.1.2.resolve_left (fun x => x e), h.2⟩

/-! ### A Forager channel at an instruction -/

/-- Channel 15 runs at the start of its area, which holds the two words. -/
def fgs (w1 w2 : Nat) (x : List (Nat × Nat) := []) (f : FgChan := {}) : State :=
  { x.foldl (fun s e => s.setXreg 15 e.1 e.2) ((base.setPar P.fgState 1 15).lwrite (programBase 15) (leBytes 4 w1 ++ leBytes 4 w2)) with forager := [(15, f)] }

theorem fgAt_of {s : State} {c : Nat} {ded : List Nat} {w1 w2 : Nat}
    (h : (decide (4 ≤ c) && decide (c < 16) && decide (s.parN P.fgState c = 1) && (s.fg c).run.isNone && !(s.fg c).stopping &&
      decide (s.parN P.fgPc c + 8 < 4096) && decide (leNat (s.lread (programBase c + s.parN P.fgPc c) 4) = w1) &&
      decide (leNat (s.lread (programBase c + s.parN P.fgPc c + 4) 4) = w2) && decide (s.badWord ded (programBase c + s.parN P.fgPc c) 8 = none) && s.fgGranted c) = true) :
    s.FgAt c ded w1 w2 := by
  simp only [Bool.and_eq_true, decide_eq_true_eq, Bool.not_eq_true', Option.isNone_iff_eq_none] at h
  obtain ⟨⟨⟨⟨⟨⟨⟨⟨⟨h1, h2⟩, h3⟩, h4⟩, h5⟩, h6⟩, h7⟩, h8⟩, h9⟩, h10⟩ := h
  exact ⟨⟨h1, h2⟩, h3, ⟨h4, h5⟩, h10, h6, h7, h8, h9⟩

/-- A parameter that a SET of the owner writes as it is. -/
abbrev isPlain (s : State) (pn : Nat) (q : Par) (i j : Nat) : Prop :=
  findPar pn = some (q, i, j) ∧ q.pn i j = pn ∧ q.acc = .owner ∧ ownRow q = false ∧ s.heldPar q i = false ∧ q ≠ P.combId

/-! ### A wing that passes its checks -/

/-- A wing header for an image of 16 bytes of 0xFF with a given WING_CRC. -/
def head60 (c : Nat) : Bytes :=
  leBytes 4 0x474E4957 ++ leBytes 2 0x0100 ++ leBytes 2 0 ++ leBytes 4 0 ++ leBytes 4 16 ++ leBytes 4 (crc32c (List.replicate 16 0xFF#8)) ++ leBytes 4 c ++
    leBytes 2 0 ++ List.replicate 34 0#8

def headBytes (c : Nat) : Bytes := head60 c ++ leBytes 4 (crc32c (head60 c))

/-- Wing 1 erased but for its header. -/
def winged (s : State) (c : Nat) : State :=
  { s with service := { s.service with pointer := 1, wings := [(1, { factory := false, header := (List.range' 0 64).zip (headBytes c) })] } }

theorem head60_length (c : Nat) : (head60 c).length = 60 := by simp [head60]
theorem headBytes_length (c : Nat) : (headBytes c).length = 64 := by simp [headBytes, head60_length]

theorem memGet_zip (d : Byte) (h : Bytes) (a i : Nat) : memGet d ((List.range' a h.length).zip h) (a + i) = h.getD i d := by
  induction h generalizing a i with
  | nil => rfl
  | cons b r ih =>
    simp only [List.length_cons, List.range'_succ, List.zip_cons_cons, memGet]
    cases i with
    | zero => simp
    | succ i =>
      rw [if_neg (by omega), show a + (i + 1) = a + 1 + i by omega, ih]
      rfl

theorem winged_header (s : State) (c : Nat) : (winged s c).wingHeader 1 = headBytes c := by
  have h : (winged s c).wingHeader 1 = (List.range 64).map fun i => memGet 0xFF#8 ((List.range' 0 (headBytes c).length).zip (headBytes c)) (0 + i) := by
    rw [headBytes_length]
    simp only [Nat.zero_add]
    rfl
  rw [h]
  apply List.ext_getElem
  · simp [headBytes_length]
  · intro i h1 h2
    rw [List.getElem_map, memGet_zip]
    simp [h2]

theorem winged_byte (s : State) (c off : Nat) : (winged s c).wingByte 1 off = 0xFF#8 := rfl

theorem winged_crcGo (s s' : State) (c c' n off v : Nat) : (winged s c).wingCrcGo 1 n off v = (winged s' c').wingCrcGo 1 n off v := by
  induction n generalizing off v with
  | zero => rfl
  | succ n ih => simp only [State.wingCrcGo, winged_byte, ih]

theorem winged_crc (s s' : State) (c c' n : Nat) : (winged s c).wingCrc 1 n = (winged s' c').wingCrc 1 n := by
  simp only [State.wingCrc, winged_crcGo s s' c c']

theorem winged_len (s : State) (c : Nat) : (winged s c).wingLen 1 = 16 := by
  rw [State.wingLen, winged_header]
  simp [headBytes, head60, field, leBytes, leNat]

theorem winged_headOk (s : State) (c : Nat) (hs : s.slot 4 = 0) : (winged s c).headOk 1 = true := by
  have h3 : field (headBytes c) 0x3C 4 = crc32c ((headBytes c).take 0x3C) := by
    have ht : (headBytes c).take 0x3C = head60 c := by rw [headBytes, List.take_left' (head60_length c)]
    have hd : (headBytes c).drop 0x3C = leBytes 4 (crc32c (head60 c)) := by rw [headBytes, List.drop_left' (head60_length c)]
    rw [ht, field, hd, List.take_of_length_le (by simp), leNat_leBytes]
    exact Nat.mod_eq_of_lt (crc32c_lt _)
  have h1 : (winged s c).headerValid 1 = true := by
    simp only [State.headerValid, winged_header, h3, decide_true]
    rw [show field (headBytes c) 0 4 = 0x474E4957 by simp [headBytes, head60, field, leBytes, leNat],
      show field (headBytes c) 4 2 = 0x100 by simp [headBytes, head60, field, leBytes, leNat],
      show field (headBytes c) 12 4 = 16 by simp [headBytes, head60, field, leBytes, leNat],
      show field (headBytes c) 0x18 2 = 0 by simp [headBytes, head60, field, leBytes, leNat],
      show ((headBytes c).drop 0x1A).take 0x22 = List.replicate 34 0#8 by simp [headBytes, head60, leBytes]]
    simp [wingSize]
  have h2 : (winged s c).slot 4 = 0 := hs
  simp [State.headOk, h1, State.versionOk, h2, bitField]

theorem winged_imageOk (s : State) (c : Nat) : (winged s c).imageOk 1 = true := by
  rw [State.imageOk, winged_len, winged_header, winged_crc s {} c 0]
  exact decide_eq_true (show (winged {} 0).wingCrc 1 16 = leNat (leBytes 4 (crc32c (List.replicate 16 0xFF#8))) by decide +kernel)

/-- The wing whose WING_CRC is that of its own 6 MiB. -/
def wholeWing (s : State) : State := winged s ((winged {} 0).wingCrc 1 wingSize)

theorem wholeWing_check (s : State) (hs : s.slot 4 = 0) : (wholeWing s).checkWing 1 = stDone := by
  have h := winged_headOk s ((winged {} 0).wingCrc 1 wingSize) hs
  simp only [State.headOk, Bool.and_eq_true] at h
  have hw : (wholeWing s).wholeOk 1 = true := by
    rw [wholeWing, State.wholeOk, winged_header, winged_crc s {} _ 0]
    have hf : field (headBytes ((winged {} 0).wingCrc 1 wingSize)) 0x14 4 = (winged {} 0).wingCrc 1 wingSize := by
      have hl := wingCrc_lt (winged {} 0) 1 wingSize
      generalize (winged {} 0).wingCrc 1 wingSize = v at hl ⊢
      have hd : ((headBytes v).drop 0x14).take 4 = leBytes 4 v := by simp [headBytes, head60, leBytes]
      rw [field, hd, leNat_leBytes]
      exact Nat.mod_eq_of_lt hl
    rw [hf, decide_eq_true rfl]
  have hi : (wholeWing s).imageOk 1 = true := winged_imageOk s _
  have hv : (wholeWing s).headerValid 1 = true := h.1
  have hn : (wholeWing s).versionOk 1 = true := h.2
  unfold State.checkWing
  simp only [hv, hn, hi, hw, not_true_eq_false, if_false, and_self, if_true]
/-! ### Figures of the manual -/

/-- A property of the next state of an outcome. -/
def after (o : Host.Outcome State Fault Refusal) (f : State → Bool) : Bool :=
  match o with
  | .next t => f t
  | _ => false

/-- The location of the example of chapter 0: tile 3, bank 5, row 0x1A2. -/
theorem test_larder_path : wordPath (larderBase + 3 * 0x100000 + 5 * 0x20000 + 0x1A2 * 8) = "CTL/LARDER/3/5/0x1A2" := by decide +kernel

/-- The GET packet with 20 items of the example of chapter 11 has 54 bytes; data lengths of its frames. -/
theorem test_get_packet_size :
    (packet 0x10 0 1 0 (leBytes 2 20 ++ (List.replicate 20 (leBytes 2 6)).flatten) none).length = 54 ∧
    fdLength 6 = 6 ∧ fdLength 20 = 20 ∧ fdLength 28 = 32 := by decide +kernel

/-- The rows of the example of R651: K = 2, values 1,000, 1,010, 1,023, 1,031. -/
theorem test_pantry_codes : (panCodes 2 0 [] [1000, 1010, 1023, 1031]).1 = [400, 4, 2, 3] := by decide +kernel

/-- SETX X1, LOAD scratch: 0x52000000 0x207BE000 of the first worked program of chapter 15. -/
theorem test_setx_load :
    after (exec (.setxLoad 5 15 []) (fgs 0x52000000 0x207BE000)) (fun t => t.xreg 15 1 == 0x207BE000 && t.parN P.fgPc 15 == 8) = true := by decide +kernel

/-- SETX X1, ADD −48: 0x52400000 0xFFFFFFD0. -/
theorem test_setx_add :
    after (exec (.setxAdd 5 15 []) (fgs 0x52400000 0xFFFFFFD0 [(1, 0x207BE030)])) (fun t => t.xreg 15 1 == 0x207BE000) = true := by decide +kernel

/-- WAIT E4, TIMEOUT 1,000 µs: 0x3003E804. -/
theorem test_wait :
    after (exec (.wait 5 15 []) (fgs 0x3003E804 0)) (fun t => t.parN P.fgState 15 == 2 && (t.fg 15).timeoutAt == some 1000005) = true := by decide +kernel

/-- LOOP FOREVER, BACK 19, at 0x05C: 0x21000013 goes to 0x010. -/
theorem test_loop :
    after (exec (.loop 5 15 []) (((fgs 0 0).setPar P.fgPc 0x5C 15).lwrite (programBase 15 + 0x5C) (leBytes 4 0x21000013)))
      (fun t => t.parN P.fgPc 15 == 0x10) = true := by decide +kernel

/-- SHUF X0 to X1, 4-byte elements, N 4, strides 0x40 and 4: 0x60540004 0x00400004; four beats of 4 bytes are issued. -/
theorem test_shuf :
    after (exec (.shuf 5 15 []) (fgs 0x60540004 0x00400004 [(0, 0x200C0030), (1, 0x207BE000)]))
      (fun t => ((t.fg 15).outstanding.map fun b => b.addr) == [0x207BE000, 0x207BE004, 0x207BE008, 0x207BE00C]) = true := by decide +kernel

/-- SIGNAL E48: 0x40000030. -/
theorem test_signal : after (exec (.signal 5 15 []) (fgs 0x40000030 0)) (fun t => t.parN P.fgPc 15 == 4) = true := by decide +kernel

/-- A transition backward after one forward counts down (R241, example of chapter 6: transition 4). -/
theorem test_encoder_counts :
    after (exec (.encTransition 5 0 true false false 0 1000000) (pr base [(P.encMode, 0, 1)])) (fun t => t.par P.encCount 0 == 1) = true := by decide +kernel

/-- The table gives its rows no bits: no word spells a command (log entry 12). -/
theorem test_no_words : decodeTableWord 32 0 = none ∧ decodeTableWord 8 255 = none := by decide

/-- STO on one input held low for the filter time: every axis is in STO and every cell held off (R391, Table 2.4). -/
theorem test_sto :
    after (exec (.stoDemand 1000000000000) { base with cellar := { causes := [], stoB := true } })
      (fun t => ((upto 4).all fun k => (t.ax k).st == .sto) && (upto 13).all fun g => t.heldOff g) = true := by decide +kernel

/-- A write to a byte and its read; the zero written takes the entry away (R27, log entry 7). -/
theorem test_larder_write : (base.lwrite 0x200C0000 [7, 0]).larder = [(0x200C0000, 7)] ∧ ((base.lwrite 0x200C0000 [7]).lwrite 0x200C0000 [0]).larder = [] := by decide

/-! ### Ill-formed terms -/

theorem test_ill_formed_1 :
    ¬ Instr.wf (.atticLoad 0 [(64, 1)]) ∧
    ¬ Instr.wf (.cellLinkTraining 0 8192 (List.replicate 13 0) (List.replicate 29 0)) ∧
    ¬ Instr.wf (.cellLinkTraining 0 0 (List.replicate 12 0) (List.replicate 29 0)) ∧
    ¬ Instr.wf (.cellLinkTraining 0 0 (List.replicate 13 0) (List.replicate 28 0)) ∧
    ¬ Instr.wf (.cellLinkTraining 0 0 (List.replicate 13 0) (List.replicate 29 65536)) ∧
    ¬ Instr.wf (.sampleEvent 0 5 [] false false) ∧
    ¬ Instr.wf (.sampleEvent 0 0 [([0, 0], [0, 0, 0, 0])] false false) ∧
    ¬ Instr.wf (.shadowDeadline 0 5) ∧
    ¬ Instr.wf (.edgeDispatch 0 5) ∧
    ¬ Instr.wf (.laneMismatch 0 5 false) ∧
    ¬ Instr.wf (.laneSelfTest 0 5 false) ∧
    ¬ Instr.wf (.houseSilent 0 4) ∧
    ¬ Instr.wf (.bridgeImbalance 0 4) ∧
    ¬ Instr.wf (.senseRefCheck 0 4 (List.replicate 3 0) 0) ∧
    ¬ Instr.wf (.senseRefCheck 0 0 (List.replicate 2 0) 0) := by decide +kernel

theorem test_ill_formed_2 :
    ¬ Instr.wf (.selfTriggerConversion 0 4 (List.replicate 3 0) (List.replicate 4 0)) ∧
    ¬ Instr.wf (.selfTriggerConversion 0 0 (List.replicate 2 0) (List.replicate 4 0)) ∧
    ¬ Instr.wf (.selfTriggerConversion 0 0 (List.replicate 3 0) (List.replicate 3 0)) ∧
    ¬ Instr.wf (.selfTriggerConversion 0 0 (List.replicate 3 0) (List.replicate 4 65536)) ∧
    ¬ Instr.wf (.senseSum 0 4) ∧
    ¬ Instr.wf (.senseOffset 0 4 0) ∧
    ¬ Instr.wf (.senseOffset 0 0 3) ∧
    ¬ Instr.wf (.vdcDisagree 0 2) ∧
    ¬ Instr.wf (.phaseOc 0 4 (List.replicate 3 0)) ∧
    ¬ Instr.wf (.phaseOc 0 0 (List.replicate 2 0)) ∧
    ¬ Instr.wf (.sdStream 0 12 0) ∧
    ¬ Instr.wf (.fusionSelfTimed 0 4) ∧
    ¬ Instr.wf (.sourceDropped 0 4 0) ∧
    ¬ Instr.wf (.sourceDropped 0 0 4) ∧
    ¬ Instr.wf (.sourceReadmitted 0 4 0) := by decide +kernel

theorem test_ill_formed_3 :
    ¬ Instr.wf (.sourceReadmitted 0 0 4) ∧
    ¬ Instr.wf (.waggleReversal 0 4) ∧
    ¬ Instr.wf (.scoutSettleTimeout 0 4) ∧
    ¬ Instr.wf (.polarityPulseEnd 0 4 (List.replicate 3 0)) ∧
    ¬ Instr.wf (.polarityPulseEnd 0 0 (List.replicate 2 0)) ∧
    ¬ Instr.wf (.currentDecayed 0 4 []) ∧
    ¬ Instr.wf (.currentDecayed 0 0 [[0, 0]]) ∧
    ¬ Instr.wf (.scoutBackCheckEnd 0 4) ∧
    ¬ Instr.wf (.catchLock 0 4) ∧
    ¬ Instr.wf (.catchNoEmf 0 4) ∧
    ¬ Instr.wf (.catchAttemptTimeout 0 4) ∧
    ¬ Instr.wf (.catchUsedReset 0 4) ∧
    ¬ Instr.wf (.limpCrossingTimeout 0 4) ∧
    ¬ Instr.wf (.limpReturn 0 4) ∧
    ¬ Instr.wf (.encTransition 0 4 false false false 0 0) := by decide +kernel

theorem test_ill_formed_4 :
    ¬ Instr.wf (.fbLine 0 4 0 false) ∧
    ¬ Instr.wf (.fbLine 0 0 3 false) ∧
    ¬ Instr.wf (.indexEvent 0 4 false) ∧
    ¬ Instr.wf (.indexMissed 0 4) ∧
    ¬ Instr.wf (.encStandstill 0 4) ∧
    ¬ Instr.wf (.feedbackSelfSample 0 10) ∧
    ¬ Instr.wf (.resolverSamplePair 0 2 0 0 false) ∧
    ¬ Instr.wf (.resExc 0 2) ∧
    ¬ Instr.wf (.resExcRestart 0 2) ∧
    ¬ Instr.wf (.ssiFrameStart 0 4 false) ∧
    ¬ Instr.wf (.ssiStartTimeout 0 4) ∧
    ¬ Instr.wf (.ssiFrameCheck 0 4 0 0) ∧
    ¬ Instr.wf (.ssiFrameCheck 0 0 18446744073709551616 0) ∧
    ¬ Instr.wf (.fbReturn 0 10) ∧
    ¬ Instr.wf (.speedLoopTick 0 4) := by decide +kernel

theorem test_ill_formed_5 :
    ¬ Instr.wf (.snatchDwellEnd 0 4) ∧
    ¬ Instr.wf (.vented 0 4) ∧
    ¬ Instr.wf (.ventedEnd 0 4) ∧
    ¬ Instr.wf (.standstillReached 0 4) ∧
    ¬ Instr.wf (.chopMinOnEnd 0 2) ∧
    ¬ Instr.wf (.linkUv 0 2) ∧
    ¬ Instr.wf (.ecSample 0 4 0 0 false) ∧
    ¬ Instr.wf (.ecLost 0 4) ∧
    ¬ Instr.wf (.ecBack 0 4) ∧
    ¬ Instr.wf (.trayReceived 0 2 (List.replicate 367 0#8) 0) ∧
    ¬ Instr.wf (.trayReceived 0 0 (List.replicate 366 0#8) 0) ∧
    ¬ Instr.wf (.trayReceived 0 0 (List.replicate 367 0#8) 1000000) ∧
    ¬ Instr.wf (.ringDelayRequest 0 2 0 0 0) ∧
    ¬ Instr.wf (.ringDelayRequest 0 0 256 0 0) ∧
    ¬ Instr.wf (.ringDelayRequest 0 0 0 16 0) := by decide +kernel

theorem test_ill_formed_6 :
    ¬ Instr.wf (.ringDelayRequest 0 0 0 0 65536) ∧
    ¬ Instr.wf (.ringDelayResponse 0 2 0 0 0 0) ∧
    ¬ Instr.wf (.ringDelayResponse 0 0 256 0 0 0) ∧
    ¬ Instr.wf (.ringDelayResponse 0 0 0 16 0 0) ∧
    ¬ Instr.wf (.ringDelayResponse 0 0 0 0 65536 0) ∧
    ¬ Instr.wf (.pairDown 0 2 0) ∧
    ¬ Instr.wf (.pairDown 0 0 2) ∧
    ¬ Instr.wf (.pairUp 0 2 0) ∧
    ¬ Instr.wf (.pairUp 0 0 2) ∧
    ¬ Instr.wf (.portReady 0 2) ∧
    ¬ Instr.wf (.hiveEnWrite 0 256) ∧
    ¬ Instr.wf (.desat 0 26) ∧
    ¬ Instr.wf (.softOffLevelEnd 0 26) ∧
    ¬ Instr.wf (.gateOffDetected 0 26) ∧
    ¬ Instr.wf (.gateStageChange 0 26 0 0) := by decide +kernel

theorem test_ill_formed_7 :
    ¬ Instr.wf (.gateStageChange 0 0 5 0) ∧
    ¬ Instr.wf (.deadTimeExpired 0 24) ∧
    ¬ Instr.wf (.gateStuck 0 24) ∧
    ¬ Instr.wf (.cellLinkLoss 0 13) ∧
    ¬ Instr.wf (.cellStatusFrame 0 13 0 0 0) ∧
    ¬ Instr.wf (.crossCmd 0 13) ∧
    ¬ Instr.wf (.bootstrap 0 13 0) ∧
    ¬ Instr.wf (.gateSupply 0 26 false) ∧
    ¬ Instr.wf (.chopOc 0 2) ∧
    ¬ Instr.wf (.dgEdge 0 26 false) ∧
    ¬ Instr.wf (.ocBackstop 0 4) ∧
    ¬ Instr.wf (.holdoffRequest 0 8192 false) ∧
    ¬ Instr.wf (.holdoffRelease 0 13) ∧
    ¬ Instr.wf (.ascRelease 0 4) ∧
    ¬ Instr.wf (.stoInputChange 0 2 false) := by decide +kernel

theorem test_ill_formed_8 :
    ¬ Instr.wf (.precheckPumpDeadline 0 4) ∧
    ¬ Instr.wf (.gateLoopTest 0 4 false 0 0) ∧
    ¬ Instr.wf (.desatTest 0 4 false false) ∧
    ¬ Instr.wf (.phaseTest 0 4 (List.replicate 3 0) (List.replicate 3 0)) ∧
    ¬ Instr.wf (.phaseTest 0 0 (List.replicate 2 0) (List.replicate 3 0)) ∧
    ¬ Instr.wf (.phaseTest 0 0 (List.replicate 3 0) (List.replicate 2 0)) ∧
    ¬ Instr.wf (.sensingTest 0 4 (List.replicate 3 []) (List.replicate 4 0) (List.replicate 4 0)) ∧
    ¬ Instr.wf (.sensingTest 0 0 (List.replicate 2 []) (List.replicate 4 0) (List.replicate 4 0)) ∧
    ¬ Instr.wf (.sensingTest 0 0 (List.replicate 3 []) (List.replicate 3 0) (List.replicate 4 0)) ∧
    ¬ Instr.wf (.sensingTest 0 0 (List.replicate 3 []) (List.replicate 4 0) (List.replicate 3 0)) ∧
    ¬ Instr.wf (.chopperTest 0 4 false 0 0 false) ∧
    ¬ Instr.wf (.precheckBridgeDone 0 4) ∧
    ¬ Instr.wf (.faultWaitExpired 0 4) ∧
    ¬ Instr.wf (.tempWindow 0 (List.replicate 28 0)) ∧
    ¬ Instr.wf (.tempWindow 0 (List.replicate 29 65536)) := by decide +kernel

theorem test_ill_formed_9 :
    ¬ Instr.wf (.tsPlausible 0 29) ∧
    ¬ Instr.wf (.thermalStateChange 0 2) ∧
    ¬ Instr.wf (.thGraceExpired 0 5) ∧
    ¬ Instr.wf (.thRequestRepeat 0 5) ∧
    ¬ Instr.wf (.ntcSample 0 8 0) ∧
    ¬ Instr.wf (.ntcSample 0 0 65536) ∧
    ¬ Instr.wf (.jtCalCmd 0 4 0) ∧
    ¬ Instr.wf (.jtCalCmd 0 0 256) ∧
    ¬ Instr.wf (.jtPulse 0 4 0) ∧
    ¬ Instr.wf (.jtCalDone 0 4) ∧
    ¬ Instr.wf (.parameterWrite 0 65536 0) ∧
    ¬ Instr.wf (.parameterWrite 0 0 18446744073709551616) ∧
    ¬ Instr.wf (.stopDrained 0 16) ∧
    ¬ Instr.wf (.laneSwapDone 0 4) ∧
    ¬ Instr.wf (.sessionIdleTimeout 0 257) := by decide +kernel

theorem test_ill_formed_10 :
    ¬ Instr.wf (.authProofTimeout 0 257) ∧
    ¬ Instr.wf (.telemetry 0 257) ∧
    ¬ Instr.wf (.queueWrite 0 32 [] 0 0) ∧
    ¬ Instr.wf (.queueWrite 0 0 [] 4294967296 0) ∧
    ¬ Instr.wf (.queueWrite 0 0 [] 0 4) ∧
    ¬ Instr.wf (.hallwayAccess 0 9 0 0 false [] []) ∧
    ¬ Instr.wf (.swarmFrameReceived 0 4 0 0 false false [] { head := 0 }) ∧
    ¬ Instr.wf (.swarmFrameReceived 0 0 5 0 false false [] { head := 0 }) ∧
    ¬ Instr.wf (.swarmFrameReceived 0 0 0 536870912 false false [] { head := 0 }) ∧
    ¬ Instr.wf (.swarmFrameReceived 0 0 0 0 false false (List.replicate 65 0#8) { head := 0 }) ∧
    ¬ Instr.wf (.receiveEntryTake 0 8) ∧
    ¬ Instr.wf (.swarmFrameSent 0 4 0 0) ∧
    ¬ Instr.wf (.swarmTxError 0 4 { kind := 0 } 0) ∧
    ¬ Instr.wf (.swarmTxError 0 0 { kind := 4 } 0) ∧
    ¬ Instr.wf (.frameLifetimeEnd 0 4) := by decide +kernel

theorem test_ill_formed_11 :
    ¬ Instr.wf (.busoffReqDelay 0 4) ∧
    ¬ Instr.wf (.sbRecover 0 16) ∧
    ¬ Instr.wf (.busOffRecovered 0 4) ∧
    ¬ Instr.wf (.sbEn 0 4 0) ∧
    ¬ Instr.wf (.sbEn 0 0 256) ∧
    ¬ Instr.wf (.combWindowStart 0 4) ∧
    ¬ Instr.wf (.referenceMessage 0 4 0 [] { head := 0 }) ∧
    ¬ Instr.wf (.referenceMessage 0 0 536870912 [] { head := 0 }) ∧
    ¬ Instr.wf (.referenceMessage 0 0 0 (List.replicate 65 0#8) { head := 0 }) ∧
    ¬ Instr.wf (.delayRequestMessage 0 4 0 [] { head := 0 }) ∧
    ¬ Instr.wf (.delayRequestMessage 0 0 536870912 [] { head := 0 }) ∧
    ¬ Instr.wf (.delayRequestMessage 0 0 0 (List.replicate 65 0#8) { head := 0 }) ∧
    ¬ Instr.wf (.delayResponseMessage 0 4 0 [] { head := 0 }) ∧
    ¬ Instr.wf (.delayResponseMessage 0 0 536870912 [] { head := 0 }) ∧
    ¬ Instr.wf (.delayResponseMessage 0 0 0 (List.replicate 65 0#8) { head := 0 }) := by decide +kernel

theorem test_ill_formed_12 :
    ¬ Instr.wf (.timeSet 0 18446744073709551616) ∧
    ¬ Instr.wf (.combWaitEnd 0 4) ∧
    ¬ Instr.wf (.relayResume 0 4) ∧
    ¬ Instr.wf (.endProgram 0 16 []) ∧
    ¬ Instr.wf (.move 0 16 []) ∧
    ¬ Instr.wf (.loop 0 16 []) ∧
    ¬ Instr.wf (.wait 0 16 []) ∧
    ¬ Instr.wf (.signal 0 16 []) ∧
    ¬ Instr.wf (.setxLoad 0 16 []) ∧
    ¬ Instr.wf (.setxAdd 0 16 []) ∧
    ¬ Instr.wf (.setxLoadm 0 16 []) ∧
    ¬ Instr.wf (.setxCopy 0 16 []) ∧
    ¬ Instr.wf (.setxAnd 0 16 []) ∧
    ¬ Instr.wf (.setxPlane 0 16 []) ∧
    ¬ Instr.wf (.shuf 0 16 []) := by decide +kernel

theorem test_ill_formed_13 :
    ¬ Instr.wf (.crc 0 16 []) ∧
    ¬ Instr.wf (.eventLineRaise 0 64) ∧
    ¬ Instr.wf (.waitTimeout 0 16) ∧
    ¬ Instr.wf (.writeBeatResponse 0 16 false) ∧
    ¬ Instr.wf (.fgDisable 0 16 0) ∧
    ¬ Instr.wf (.fgDisable 0 0 256) ∧
    ¬ Instr.wf (.publishRecord 0 8) ∧
    ¬ Instr.wf (.pantrySample 0 32) ∧
    ¬ Instr.wf (.faultRecordCopy 0 256) ∧
    ¬ Instr.wf (.porchTransaction 0 4 false 0 0 0 0 false) ∧
    ¬ Instr.wf (.porchTransaction 0 0 false 256 0 0 0 false) ∧
    ¬ Instr.wf (.porchTransaction 0 0 false 0 16 0 0 false) ∧
    ¬ Instr.wf (.porchTransaction 0 0 false 0 0 4294967296 0 false) ∧
    ¬ Instr.wf (.porchTransaction 0 0 false 0 0 0 16 false) ∧
    ¬ Instr.wf (.porchStatClear 0 4294967296) := by decide +kernel

theorem test_ill_formed_14 :
    ¬ Instr.wf (.breakpointHit 0 8) ∧
    ¬ Instr.wf (.watchpointHit 0 4 0 false) ∧
    ¬ Instr.wf (.memData 0 false 4294967296 false) ∧
    ¬ Instr.wf (.regData 0 false 4294967296) ∧
    ¬ Instr.wf (.txlen 0 4294967296) ∧
    ¬ Instr.wf (.txdata 0 4294967296) ∧
    ¬ Instr.wf (.extest { at_ := 0, tdi := [false] }) ∧
    ¬ Instr.wf (.samplePreload { at_ := 0, tdi := [false] }) ∧
    ¬ Instr.wf (.feedReverse 0 2) ∧
    ¬ Instr.wf (.feedForward 0 2 0) ∧
    ¬ Instr.wf (.carrierPeakSample 0 5 []) ∧
    ¬ Instr.wf (.carrierPeakSample 0 0 [([0, 0], [0, 0, 0, 0])]) ∧
    ¬ Instr.wf (.edgeAtGatePin 0 24 false) ∧
    ¬ Instr.wf (.swarmRxError 0 4 false) ∧
    ¬ Instr.wf (.portIntegrated 0 4) := by decide +kernel

theorem test_ill_formed_15 :
    ¬ Instr.wf (.faultCleared 0 65536 0) := by decide +kernel

/-! ### Witnesses -/

theorem witness_EmptyQueueIdles :
    (∃ s : State, s.pending = []) :=
  ⟨base, by decide⟩

theorem witness_HoldOffKept :
    (∃ s t : State, s.HeldSafe ∧ s.pending = [.idcode { at_ := 5 }] ∧ step s = .next t) :=
  ⟨{ base with pending := [.idcode { at_ := 5 }] }, _, by unfold State.HeldSafe; decide, rfl, rfl⟩

theorem witness_LarderFormKept :
    (∃ s t : State, s.LarderWf ∧ s.larder = [(0x20000000, 7)] ∧ step s = .next t) :=
  ⟨{ base with larder := [(0x20000000, 7)], pending := [.idcode { at_ := 5 }] }, _, by unfold State.LarderWf; decide, rfl, rfl⟩

theorem witness_LarderReadAfterWrite :
    (∃ s : State, s.LarderWf) ∧
    (∃ s : State, ∃ a : Nat, ∃ bs : Bytes, ∃ b, s.LarderWf ∧ ((b < a ∨ a + bs.length ≤ b))) :=
  ⟨⟨{ base with larder := [(0x20000000, 7)] }, by unfold State.LarderWf; decide⟩,
    ⟨{ base with larder := [(0x20000000, 7)] }, 0x20000000, [1, 0], 0x20000002, by unfold State.LarderWf; decide⟩⟩

theorem witness_PowerOnAndBrownOut :
    (∃ s0 : State, ∃ τ : Nat, let s := s0.due τ; s.dev.st = .off ∧ s.dev.supplyOk = false) ∧
    (∃ s0 : State, ∃ τ : Nat, let s := s0.due τ; s.dev.supplyOk = true ∧ s.dev.st ≠ .off) :=
  ⟨⟨State.reset, 1000000000000, by decide, by decide⟩,
    ⟨base, 1000000000000, by decide, by decide⟩⟩

theorem witness_BootSteps :
    (∃ s0 : State, ∃ τ : Nat, let s := s0.due τ; s.dev.st = .boot ∧ s.now ≤ τ ∧ s.dev.step = .crystal ∧ s.dev.stepAt + 1000000 ≤ τ ∧ τ ≤ s.dev.stepAt + 5000000) ∧
    (∃ s0 : State, ∃ τ : Nat, let s := s0.due τ; s.dev.st = .boot ∧ s.now ≤ τ ∧ s.dev.step = .crystal ∧ s.dev.stepAt + 5000000 ≤ τ) ∧
    (∃ s0 : State, ∃ τ : Nat, let s := s0.due τ; s.dev.st = .boot ∧ s.now ≤ τ ∧ s.dev.step = .pll) ∧
    (∃ s0 : State, ∃ τ : Nat, let s := s0.due τ; s.dev.st = .boot ∧ s.now ≤ τ ∧ s.dev.step = .selfTest) ∧
    (∃ s0 : State, ∃ τ : Nat, let s := s0.due τ; s.dev.st = .boot ∧ s.now ≤ τ ∧ s.dev.step = .attic) ∧
    (∃ s0 : State, ∃ τ : Nat, let s := s0.due τ; s.dev.st = .boot ∧ s.now ≤ τ ∧ s.dev.step = .larder) ∧
    (∃ s0 : State, ∃ τ : Nat, let s := s0.due τ; s.dev.st = .boot ∧ s.now ≤ τ ∧ s.dev.step = .training) :=
  ⟨⟨{ State.reset with dev := { st := .boot, step := .crystal, stepAt := 7 } }, 5000007, by decide, by decide⟩,
    ⟨{ State.reset with dev := { st := .boot, step := .crystal, stepAt := 7 } }, 5000007, by decide, by decide⟩,
    ⟨{ State.reset with dev := { st := .boot, step := .pll, stepAt := 0 } }, 1000000000000, by decide, by decide⟩,
    ⟨{ State.reset with dev := { st := .boot, step := .selfTest, stepAt := 0 } }, 1000000000000, by decide, by decide⟩,
    ⟨{ State.reset with dev := { st := .boot, step := .attic, stepAt := 0 } }, 1000000000000, by decide, by decide⟩,
    ⟨{ State.reset with dev := { st := .boot, step := .larder, stepAt := 0 } }, 1000000000000, by decide, by decide⟩,
    ⟨{ State.reset with dev := { st := .boot, step := .training, stepAt := 0 } }, 1000000000000, by decide, by decide⟩⟩

theorem witness_BootImages :
    (∃ s0 : State, ∃ τ : Nat, let s := s0.due τ; s.dev.st = .boot ∧ s.dev.step = .wings ∧ s.headOk s.service.pointer = true) ∧
    (∃ s0 : State, ∃ τ : Nat, let s := s0.due τ; s.dev.st = .boot ∧ s.dev.step = .imageCrc ∧ s.imageOk s.dev.wing = true) ∧
    (∃ s0 : State, ∃ τ : Nat, let s := s0.due τ; s.dev.st = .boot ∧ s.dev.step = .lockstep) ∧
    (∃ s0 : State, ∃ τ : Nat, let s := s0.due τ; s.dev.st = .boot ∧ s.dev.step = .retryWait ∧ s.dev.stepAt + 1000000000 ≤ τ) ∧
    (∃ s0 : State, ∃ τ : Nat, let s := s0.due τ; s.dev.st = .boot ∧ s.dev.step = .config) ∧
    (∃ s0 : State, ∃ τ : Nat, let s := s0.due τ; s.dev.st = .boot ∧ s.dev.step = .larder) :=
  ⟨⟨winged { State.reset with dev := { st := .boot, step := .wings } } 0, 0, rfl, rfl, winged_headOk _ 0 rfl⟩,
    ⟨winged { State.reset with dev := { st := .boot, step := .imageCrc, wing := 1 } } 0, 0, rfl, rfl, winged_imageOk _ 0⟩,
    ⟨{ State.reset with dev := { st := .boot, step := .lockstep, stepAt := 0 } }, 1000000000000, by decide, by decide⟩,
    ⟨{ State.reset with dev := { st := .boot, step := .retryWait, stepAt := 7 } }, 1000000007, by decide, by decide⟩,
    ⟨{ State.reset with dev := { st := .boot, step := .config, stepAt := 0 } }, 1000000000000, by decide, by decide⟩,
    ⟨{ State.reset with dev := { st := .boot, step := .larder, stepAt := 0 } }, 1000000000000, by decide, by decide⟩⟩

theorem witness_BootAfterReplyStarts :
    (∃ s0 : State, ∃ τ : Nat, ∃ b : PendingBoot, let s := s0.due τ; s.dev.pendingBoot = some b ∧ s.porch.halt ≠ .full ∧ (((∀ e ∈ s.queue b.queue, e.tag ≠ b.tag) ∨ b.since + 100000000 ≤ τ))) :=
  ⟨{ base with dev := { base.dev with pendingBoot := some { queue := 16, tag := 3, since := 7 } } }, 100000007, { queue := 16, tag := 3, since := 7 }, by decide, by decide⟩

theorem witness_ReferenceEvents :
    (∃ s0 : State, ∃ τ : Nat, let s := s0.due τ; s.dev.st = .idle ∧ 0 ≤ s.par P.clkStatus ∧ bit (s.par P.clkStatus) 0 = false) ∧
    (∃ s0 : State, ∃ τ : Nat, let s := s0.due τ; s.dev.st = .idle ∧ bit (s.par P.clkStatus) 0 = true ∧ bit (s.par P.clkStatus) 1 = false) ∧
    (∃ s0 : State, ∃ τ : Nat, ∃ dev : Int, let s := s0.due τ; s.dev.st = .idle ∧ ((dev < -300 ∨ 300 < dev)) ∧ s.stands 0x0A01 0 = false) :=
  ⟨⟨base, 1000000000000, by decide, by decide⟩,
    ⟨pr base [(P.clkStatus, 0, 1)], 1000000000000, by decide, by decide⟩,
    ⟨base, 1000000000000, -301, by decide, by decide⟩⟩

theorem witness_HousePairs :
    (∃ s0 : State, ∃ τ : Nat, ∃ fw : Bool, let s := s0.due τ; s.dev.st ≠ .off ∧ s.dev.st ≠ .boot ∧ s.porch.halt ≠ .full ∧ (s.pair s.active).live = true ∧ (((s.pair s.standby).live && ((s.pair s.standby).synced || decide (s.porch.halt = .live))) || fw) = true) ∧
    (∃ s0 : State, ∃ τ : Nat, let s := s0.due τ; s.dev.st ≠ .off ∧ s.dev.st ≠ .boot ∧ s.porch.halt ≠ .full ∧ (s.pair s.active).live = true ∧ ((s.pair s.standby).live && ((s.pair s.standby).synced || decide (s.porch.halt = .live))) = false) ∧
    (∃ s0 : State, ∃ τ : Nat, let s := s0.due τ; s.dev.st = .recovery ∧ s.service.switch = none ∧ (s.pair s.active).live = true ∧ (s.pair s.standby).live = false ∧ (s.pair s.standby).stopped = false) ∧
    (∃ s0 : State, ∃ τ : Nat, ∃ t0 : Nat, let s := s0.due τ; s.dev.silentSince = some t0 ∧ t0 + 5000000 ≤ τ ∧ s.now ≤ τ ∧ s.dev.housesStopped = false ∧ s.dev.st ≠ .off ∧ s.dev.st ≠ .boot ∧ (recent τ 3600000000000 s.dev.restarts).length < 3) ∧
    (∃ s0 : State, ∃ τ : Nat, ∃ t0 : Nat, let s := s0.due τ; s.dev.silentSince = some t0 ∧ t0 + 5000000 ≤ τ ∧ s.now ≤ τ ∧ s.dev.housesStopped = false ∧ s.dev.st ≠ .off ∧ s.dev.st ≠ .boot ∧ 3 ≤ (recent τ 3600000000000 s.dev.restarts).length) :=
  ⟨⟨base, 1000000000000, true, by decide, by decide⟩,
    ⟨{ base with dev := { base.dev with pairB := {} } }, 1000000000000, by decide, by decide⟩,
    ⟨{ base with dev := { base.dev with st := .recovery, pairB := {} } }, 1000000000000, by decide, by decide⟩,
    ⟨{ base with dev := { base.dev with silentSince := some 7, restarts := [1, 2] } }, 5000007, 7, by decide, by decide⟩,
    ⟨{ base with dev := { base.dev with silentSince := some 7, restarts := [1, 2, 3] } }, 5000007, 7, by decide, by decide⟩⟩

theorem witness_SampleEventAnswersSnapshots :
    (∃ s0 : State, ∃ τ : Nat, ∃ n : Nat, ∃ k : Nat, let s := s0.due τ; s.seAxis n = some k ∧ (s.lane n).seDue (s.clock τ).now = true) :=
  ⟨(lane wired 3 { running := true }), 1000000000000, 3, 3, by decide, by decide⟩

theorem witness_DeadlineAndDispatch :
    (∃ s0 : State, ∃ τ : Nat, ∃ n : Nat, ∃ k : Nat, let s := s0.due τ; s.seAxis n = some k ∧ s.now ≤ τ ∧ (s.lane n).first = false ∧ (s.lane n).dispatched = false ∧ (s.lane n).before τ 500 = true ∧ (s.lane n).filled = true) ∧
    (∃ s0 : State, ∃ τ : Nat, ∃ n : Nat, ∃ k : Nat, let s := s0.due τ; s.seAxis n = some k ∧ s.now ≤ τ ∧ (s.lane n).first = false ∧ (s.lane n).dispatched = false ∧ (s.lane n).before τ 500 = true ∧ (s.lane n).filled = false ∧ (s.lane n).overruns = 0) ∧
    (∃ s0 : State, ∃ τ : Nat, ∃ n : Nat, ∃ k : Nat, let s := s0.due τ; s.seAxis n = some k ∧ s.now ≤ τ ∧ (s.lane n).first = false ∧ (s.lane n).dispatched = false ∧ (s.lane n).before τ 500 = true ∧ (s.lane n).filled = false ∧ 1 ≤ (s.lane n).overruns ∧ n < 4) ∧
    (∃ s0 : State, ∃ τ : Nat, ∃ n : Nat, ∃ k : Nat, let s := s0.due τ; s.seAxis n = some k ∧ s.now ≤ τ ∧ (s.lane n).first = false ∧ (s.lane n).dispatched = false ∧ (s.lane n).before τ 400 = true ∧ (s.lane n).filled = true) :=
  ⟨⟨(lane wired 3 { running := true, first := false, nextX := 32000000, filled := true }), 999500, 3, 3, by decide, by decide⟩,
    ⟨(lane wired 3 { running := true, first := false, nextX := 32000000 }), 999500, 3, 3, by decide, by decide⟩,
    ⟨(lane wired 3 { running := true, first := false, nextX := 32000000, overruns := 1 }), 999500, 3, 3, by decide, by decide⟩,
    ⟨(lane wired 3 { running := true, first := false, nextX := 32000000, filled := true }), 999600, 3, 3, by decide, by decide⟩⟩

theorem witness_LaneFaults :
    (∃ s0 : State, ∃ τ : Nat, ∃ n : Nat, ∃ k : Nat, let s := s0.due τ; n < 4 ∧ s.laneActive n = true ∧ s.axisOfLane n = some k ∧ s.service.swaps = []) ∧
    (∃ s0 : State, ∃ τ : Nat, ∃ n : Nat, ∃ k : Nat, let s := s0.due τ; n < 4 ∧ s.laneActive n = true ∧ s.axisOfLane n = some k ∧ s.service.swaps = [] ∧ s.par P.laneRole 4 = 2) ∧
    (∃ s0 : State, ∃ τ : Nat, ∃ n : Nat, let s := s0.due τ; n < 4 ∧ (s.lane n).testDue = true) :=
  ⟨⟨(lane wired 3 { running := true }), 1000000000000, 3, 3, by decide, by decide⟩,
    ⟨pr (lane wired 3 { running := true }) [(P.laneRole, 4, 2)], 1000000000000, 3, 3, by decide, by decide⟩,
    ⟨(lane wired 3 { testDue := true }), 1000000000000, 3, by decide, by decide⟩⟩

theorem witness_AxisSupervision :
    (∃ s0 : State, ∃ τ : Nat, ∃ k : Nat, let s := s0.due τ; k < 4 ∧ s.switching k = true ∧ s.freeTurn τ k = true ∧ s.noPair = true ∧ (s.ax k).hearth.takenAt + 5000000 < τ ∧ (s.ax k).hearth.silentTau = none) ∧
    (∃ s0 : State, ∃ τ : Nat, ∃ k : Nat, ∃ t0, let s := s0.due τ; k < 4 ∧ s.switching k = true ∧ s.freeTurn τ k = true ∧ (s.ax k).hearth.balSince = some t0 ∧ t0 + 10000000 ≤ τ) :=
  ⟨⟨{ ax base 3 { st := .running } with dev := { st := .recovery } }, 5000001, 3, by decide, by decide⟩,
    ⟨ax base 3 { st := .running, hearth := { balSince := some 7 } }, 10000007, 3, 7, by decide, by decide⟩⟩

theorem witness_PhaseOvercurrent :
    (∃ s0 : State, ∃ τ : Nat, ∃ b : Nat, ∃ raw : List Int, let s := s0.due τ; b < 4 ∧ (s.clock τ).ocDetect b raw = true ∧ (s.bridge b).oc = false ∧ ((∀ k, k < 4 → s.freeTurn τ k = true))) ∧
    (∃ s0 : State, ∃ τ : Nat, ∃ b : Nat, ∃ raw : List Int, let s := s0.due τ; b < 4 ∧ (s.clock τ).ocDetect b raw = false) :=
  ⟨⟨base, 1000000000000, 3, [0, 40000, 0], by decide, by decide⟩,
    ⟨base, 1000000000000, 3, [], by decide, by decide⟩⟩

theorem witness_SenseFaults :
    (∃ s0 : State, ∃ τ : Nat, ∃ d, ∃ wave, let s := s0.due τ; d < 12 ∧ s.par P.csMode (d / 3) = 1 ∧ (s.clock τ).sdAlive wave = false) ∧
    (∃ s0 : State, ∃ τ : Nat, ∃ d, ∃ wave, let s := s0.due τ; d < 12 ∧ s.par P.csMode (d / 3) = 1 ∧ (s.clock τ).sdAlive wave = true) ∧
    (∃ s0 : State, ∃ τ : Nat, ∃ b, let s := s0.due τ; b < 4 ∧ 8 ≤ (s.bridge b).sumRun) ∧
    (∃ s0 : State, ∃ τ : Nat, ∃ b, ∃ x, let s := s0.due τ; b < 4 ∧ 16 ≤ (s.bridge b).ofsRun.getD x 0) ∧
    (∃ s0 : State, ∃ τ : Nat, ∃ l, let s := s0.due τ; l < 2 ∧ 4 ≤ (s.link l).disagreeRun) :=
  ⟨⟨pr base [(P.csMode, 3, 1)], 1000000000000, 11, 0, by decide, by decide⟩,
    ⟨pr base [(P.csMode, 3, 1)], 1000000000000, 11, 0xFFFFFFFF, by decide, by decide⟩,
    ⟨{ base with bridges := [(3, { sumRun := 8 })] }, 1000000000000, 3, by decide, by decide⟩,
    ⟨{ base with bridges := [(3, { ofsRun := [0, 0, 16] })] }, 1000000000000, 3, 2, by decide, by decide⟩,
    ⟨{ base with links := [(1, { disagreeRun := 4 })] }, 1000000000000, 1, by decide, by decide⟩⟩

theorem witness_SenseReferenceCheck :
    (∃ s0 : State, ∃ τ : Nat, ∃ b : Nat, ∃ k : Nat, ∃ cur : List Int, ∃ volt : Int, let s := s0.due τ; b < 4 ∧ s.axisOfBridge b = some k ∧ s.now ≤ τ ∧ (s.lane (s.laneOf k)).running = true ∧ (s.lane (s.laneOf k)).first = false ∧ (s.lane (s.laneOf k)).periodNo % 64 = 0 ∧ (s.bridge b).refPeriods ≠ (s.lane (s.laneOf k)).periodNo + 1 ∧ τ = ((s.lane (s.laneOf k)).seX + 20 * s.cycOf k) / 32 ∧ volt = 32768 ∧ ((∀ c ∈ cur, c = 16384))) ∧
    (∃ s0 : State, ∃ τ : Nat, ∃ b : Nat, ∃ k : Nat, ∃ volt : Int, let s := s0.due τ; b < 4 ∧ s.axisOfBridge b = some k ∧ s.now ≤ τ ∧ (s.lane (s.laneOf k)).running = true ∧ (s.lane (s.laneOf k)).first = false ∧ (s.lane (s.laneOf k)).periodNo % 64 = 0 ∧ (s.bridge b).refPeriods ≠ (s.lane (s.laneOf k)).periodNo + 1 ∧ τ = ((s.lane (s.laneOf k)).seX + 20 * s.cycOf k) / 32 ∧ 33 < iabs (volt - 32768) ∧ 1 ≤ (s.bridge b).refRun.getD 3 0) :=
  ⟨⟨(lane wired 3 { running := true, first := false, periodNo := 64, half := 16 }), 20, 3, 3, [16384, 16384, 16384], 32768, by decide, by decide⟩,
    ⟨{ lane wired 3 { running := true, first := false, periodNo := 64, half := 16 } with bridges := [(3, { refRun := [0, 0, 0, 1] })] }, 20, 3, 3, 32802, by decide, by decide⟩⟩

theorem witness_OtherConversions :
    (∃ s0 : State, ∃ τ : Nat, ∃ b : Nat, let s := s0.due τ; b < 4 ∧ s.axisOfBridge b = none ∧ (s.bridge b).convAt + 10000 ≤ τ) ∧
    (∃ s0 : State, ∃ τ : Nat, ∃ n : Nat, ∃ k : Nat, let s := s0.due τ; s.seAxis n = some k ∧ s.hp k P.update = 0 ∧ s.now ≤ τ ∧ (s.lane n).first = false ∧ τ = ((s.lane n).seX + 80 * (s.lane n).half) / 32 ∧ ((∀ b, b < 4 → s.parN P.brLink b < 2))) :=
  ⟨⟨pr { base with bridges := [(3, { convAt := 7 })] } [(P.bridgeMask, 3, 0)], 10007, 3, by decide, by decide⟩,
    ⟨(lane wired 3 { running := true, first := false, seX := 64, half := 2 }), 7, 3, 3, by decide, by decide⟩⟩

theorem witness_SourceEvents :
    (∃ s0 : State, ∃ τ : Nat, ∃ k : Nat, ∃ src : Nat, ∃ t0, let s := s0.due τ; k < 4 ∧ src < 4 ∧ ((s.ax k).pos.srcs.getD src {}).outSince = some t0 ∧ ((s.ax k).pos.srcs.getD src {}).dropped = false ∧ t0 + 5000000 ≤ τ) ∧
    (∃ s0 : State, ∃ τ : Nat, ∃ k : Nat, ∃ src : Nat, ∃ t0, let s := s0.due τ; k < 4 ∧ src < 4 ∧ ((s.ax k).pos.srcs.getD src {}).inSince = some t0 ∧ ((s.ax k).pos.srcs.getD src {}).dropped = true ∧ t0 + 1000000000 ≤ τ) ∧
    (∃ s0 : State, ∃ τ : Nat, ∃ k : Nat, ∃ src : Nat, let s := s0.due τ; k < 4 ∧ src < 4 ∧ bit (s.par P.posStatus k) 6 = true ∧ s.hp k P.waggleHalf ≤ ((s.ax k).pos.wagCount : Int)) ∧
    (∃ s0 : State, ∃ τ : Nat, ∃ k : Nat, ∃ src : Nat, let s := s0.due τ; k < 4 ∧ src < 4 ∧ (s.lane (s.laneOf k)).running = false ∧ 0 < (s.bridgesOf k).length ∧ (s.clock τ).fusionDue k = true) :=
  ⟨⟨(ax base 3 { pos := { vm := { outSince := some 7 } } }), 5000007, 3, 3, 7, by decide, by decide⟩,
    ⟨(ax base 3 { pos := { vm := { inSince := some 7, dropped := true } } }), 1000000007, 3, 3, 7, by decide, by decide⟩,
    ⟨pr (ax base 3 { pos := { wagCount := 1000 } }) [(P.posStatus, 3, 64)], 1000000000000, 3, 3, by decide, by decide⟩,
    ⟨wired, 1000000000000, 3, 3, by decide, by decide⟩⟩

theorem witness_ScoutStart :
    (∃ s0 : State, ∃ τ : Nat, ∃ k : Nat, let s := s0.due τ; k < 4 ∧ (s.ax k).pos.proc = .scoutSettle ∧ (s.lane (s.laneOf k)).first = false ∧ (s.ax k).pos.procAt + 50000000 ≤ τ ∧ s.hp k P.scoutTries ≤ s.par P.scoutCount k ∧ s.freeTurn τ k = true) ∧
    (∃ s0 : State, ∃ τ : Nat, ∃ k : Nat, let s := s0.due τ; k < 4 ∧ (s.ax k).pos.proc = .scoutSettle ∧ (s.lane (s.laneOf k)).first = false ∧ (s.ax k).pos.procAt + 50000000 ≤ τ ∧ s.par P.scoutCount k < s.hp k P.scoutTries) ∧
    (∃ s0 : State, ∃ τ : Nat, ∃ k : Nat, ∃ t0, let s := s0.due τ; k < 4 ∧ (s.ax k).pos.proc = .scoutPlus ∧ (s.ax k).pos.pulseAt = some t0 ∧ t0 + (s.hp k P.polTime).toNat * 1000 ≤ τ) ∧
    (∃ s0 : State, ∃ τ : Nat, ∃ k : Nat, let s := s0.due τ; k < 4 ∧ (s.ax k).pos.proc = .scoutBack ∧ 0 ≤ (s.ax k).pos.travel ∧ 0 ≤ s.hp k P.scoutBack ∧ (s.ax k).pos.releaseAt + 2000000000 ≤ τ) :=
  ⟨⟨pr { ax base 3 { pos := { proc := .scoutSettle, procAt := 7 } } with lanes := [(3, { first := false })] } [(P.scoutCount, 3, 100)], 50000007, 3, by decide, by decide⟩,
    ⟨{ ax base 3 { pos := { proc := .scoutSettle, procAt := 7 } } with lanes := [(3, { first := false })] }, 50000007, 3, by decide, by decide⟩,
    ⟨(ax base 3 { pos := { proc := .scoutPlus, pulseAt := some 7 } }), 1000000000000, 3, 7, by decide, by decide⟩,
    ⟨(ax base 3 { pos := { proc := .scoutBack, releaseAt := 7 } }), 2000000007, 3, by decide, by decide⟩⟩

theorem witness_CatchProcedure :
    (∃ s0 : State, ∃ τ : Nat, ∃ k : Nat, ∃ codes, let s := s0.due τ; k < 4 ∧ (s.ax k).pos.proc = .catchDecay ∧ ((s.clock τ).takeCodes (s.bridgesOf k) codes).currentsBelow k (s.hp k P.catchZero) = true) ∧
    (∃ s0 : State, ∃ τ : Nat, ∃ k : Nat, let s := s0.due τ; k < 4 ∧ (((s.ax k).pos.proc = .catchVoltage ∨ (s.ax k).pos.proc = .catchShort)) ∧ 16 ≤ (s.ax k).pos.lockRun) ∧
    (∃ s0 : State, ∃ τ : Nat, ∃ k : Nat, ∃ t0, let s := s0.due τ; k < 4 ∧ (s.ax k).pos.emfLowSince = some t0 ∧ (s.ax k).pos.proc = .catchVoltage ∧ t0 + 2000000 ≤ τ ∧ bit (s.hp k P.posSources) 1 = true ∧ s.hp k P.machine = 0) ∧
    (∃ s0 : State, ∃ τ : Nat, ∃ k : Nat, let s := s0.due τ; k < 4 ∧ (s.ax k).pos.proc = .catchVoltage ∧ (s.ax k).pos.detectAt + 10000000 ≤ τ ∧ s.par P.catchUsed k < s.hp k P.catchTries) ∧
    (∃ s0 : State, ∃ τ : Nat, ∃ k : Nat, let s := s0.due τ; k < 4 ∧ (s.ax k).pos.proc = .catchVoltage ∧ (s.ax k).pos.detectAt + 10000000 ≤ τ ∧ s.hp k P.catchTries ≤ s.par P.catchUsed k ∧ s.freeTurn τ k = true) ∧
    (∃ s0 : State, ∃ τ : Nat, ∃ k : Nat, ∃ t0, let s := s0.due τ; k < 4 ∧ (s.ax k).pos.rampEndAt = some t0 ∧ s.par P.catchUsed k ≠ 0 ∧ bit (s.par P.posStatus k) 0 = true ∧ t0 + 1000000000 ≤ τ) :=
  ⟨⟨(ax base 3 { pos := { proc := .catchDecay } }), 1000000000000, 3, [[]], by decide, by decide⟩,
    ⟨(ax base 3 { pos := { proc := .catchVoltage, lockRun := 16 } }), 1000000000000, 3, by decide, by decide⟩,
    ⟨(ax base 3 { hearth := { cfg := [(P.posSources.pn 3 0, 2)] }, pos := { proc := .catchVoltage, emfLowSince := some 7 } }), 2000007, 3, 7, by decide, by decide⟩,
    ⟨(ax base 3 { pos := { proc := .catchVoltage, detectAt := 7 } }), 10000007, 3, by decide, by decide⟩,
    ⟨pr (ax base 3 { pos := { proc := .catchVoltage, detectAt := 7 } }) [(P.catchUsed, 3, 100)], 10000007, 3, by decide, by decide⟩,
    ⟨pr (ax base 3 { pos := { rampEndAt := some 7 } }) [(P.catchUsed, 3, 1), (P.posStatus, 3, 1)], 1000000007, 3, 7, by decide, by decide⟩⟩

theorem witness_SixStepEvents :
    (∃ s0 : State, ∃ τ : Nat, ∃ k : Nat, let s := s0.due τ; k < 4 ∧ (s.ax k).pos.six = true ∧ (s.ax k).pos.proc = .none ∧ 0 < (s.ax k).pos.interval ∧ 2 * (s.ax k).pos.crossAt + 3 * (s.ax k).pos.interval ≤ 2 * τ ∧ s.par P.catchUsed k < s.hp k P.catchTries) ∧
    (∃ s0 : State, ∃ τ : Nat, ∃ k : Nat, let s := s0.due τ; k < 4 ∧ (s.ax k).st = .limp ∧ (s.clock τ).backFor100 k = true) :=
  ⟨⟨(ax base 3 { pos := { six := true, interval := 2, crossAt := 7 } }), 10, 3, by decide, by decide⟩,
    ⟨(ax base 3 { st := .limp, pos := { sensor := { valid := true, contribSince := some 7, contribAt := some 7 } } }), 100000007, 3, by decide, by decide⟩⟩

theorem witness_EncoderCounts :
    (∃ s0 : State, ∃ τ : Nat, ∃ k : Nat, ∃ hold : Nat, ∃ a : Bool, ∃ b : Bool, let s := s0.due τ; k < 4 ∧ s.fp k P.encMode k = 1 ∧ s.fp k P.encMinEdge k ≤ (hold : Int) ∧ a ≠ (s.enc k).a ∧ b = (s.enc k).b) ∧
    (∃ s0 : State, ∃ τ : Nat, ∃ k : Nat, ∃ hold : Nat, ∃ a : Bool, ∃ b : Bool, let s := s0.due τ; k < 4 ∧ s.fp k P.encMode k = 1 ∧ s.fp k P.encMinEdge k ≤ (hold : Int) ∧ a = (s.enc k).a ∧ b ≠ (s.enc k).b) :=
  ⟨⟨pr { base with encs := [(3, {})] } [(P.encMode, 3, 1)], 1000000000000, 3, 100000000000, true, false, by decide, by decide⟩,
    ⟨pr { base with encs := [(3, {})] } [(P.encMode, 3, 1)], 1000000000000, 3, 100000000000, false, true, by decide, by decide⟩⟩

theorem witness_EncoderIndex :
    (∃ s0 : State, ∃ τ : Nat, ∃ k : Nat, let s := s0.due τ; k < 4 ∧ s.fp k P.encMode k = 1 ∧ s.fp k P.encIndexEn k = 1 ∧ (s.enc k).fb.faulty = false ∧ (s.enc k).lastDir = 1) ∧
    (∃ s0 : State, ∃ τ : Nat, ∃ k : Nat, ∃ c, let s := s0.due τ; k < 4 ∧ s.axisOfIface k = none ∧ s.ifaceSet k = true ∧ (s.enc k).fb.sampleAt + 50000 ≤ τ ∧ (s.enc k).fb.faulty = false ∧ (s.enc k).needRef = true ∧ (s.enc k).idx = [c]) ∧
    (∃ s0 : State, ∃ τ : Nat, ∃ k : Nat, let s := s0.due τ; k < 4 ∧ s.fp k P.encMode k = 1 ∧ s.fp k P.encIndexEn k = 1 ∧ (s.enc k).referenced = true ∧ (s.cpt k : Int) + s.fp k P.encIdxTol k < (s.enc k).travel) ∧
    (∃ s0 : State, ∃ τ : Nat, ∃ k : Nat, let s := s0.due τ; k < 4 ∧ s.fp k P.encMode k ≠ 0 ∧ (s.enc k).still = false ∧ ((s.enc k).lastT : Int) + 1000 * s.fp k P.encStillTime k < τ) :=
  ⟨⟨pr { base with encs := [(3, { lastDir := 1, needRef := true })] } [(P.encMode, 3, 1), (P.encIndexEn, 3, 1)], 1000000000000, 3, by decide, by decide⟩,
    ⟨pr { base with encs := [(3, { needRef := true, idx := [5] })] } [(P.encMode, 3, 1)], 1000000000000, 3, 5, by decide, by decide⟩,
    ⟨pr { base with encs := [(3, { lastDir := 1, referenced := true, travel := 10000000 })] } [(P.encMode, 3, 1), (P.encIndexEn, 3, 1)], 1000000000000, 3, by decide, by decide⟩,
    ⟨pr { base with encs := [(3, { lastT := 7, still := false })] } [(P.encMode, 3, 1)], 1000000000000, 3, by decide, by decide⟩⟩

theorem witness_ResolverEvents :
    (∃ s0 : State, ∃ τ : Nat, ∃ k : Nat, ∃ pos : Bool, let s := s0.due τ; k < 2 ∧ s.ifaceOn (4 + k) = true ∧ (s.res k).excOn = true ∧ (s.clock τ).pairDue k pos = true) ∧
    (∃ s0 : State, ∃ τ : Nat, ∃ k : Nat, let s := s0.due τ; k < 2 ∧ s.ifaceOn (4 + k) = true ∧ (s.res k).excOn = true) ∧
    (∃ s0 : State, ∃ τ : Nat, ∃ k : Nat, let s := s0.due τ; k < 2 ∧ s.ifaceOn (4 + k) = true ∧ (s.res k).excOn = false ∧ (s.res k).fb.faulty = true ∧ (s.res k).excAt + 1000000000 ≤ τ) :=
  ⟨⟨pr { base with ress := [(1, { excOn := true })] } [(P.resEn, 1, 1)], 1000000000000, 1, false, by decide, by decide⟩,
    ⟨pr { base with ress := [(1, { excOn := true })] } [(P.resEn, 1, 1)], 1000000000000, 1, by decide, by decide⟩,
    ⟨pr { base with ress := [(1, { excOn := false, excAt := 7, fb := { faulty := true } })] } [(P.resEn, 1, 1)], 1000000007, 1, by decide, by decide⟩⟩

theorem witness_SsiFrames :
    (∃ s0 : State, ∃ τ : Nat, ∃ k : Nat, ∃ m : Nat, let s := s0.due τ; k < 4 ∧ s.ifaceOn (6 + k) = true ∧ (s.ssi k).busy = false ∧ (s.ssi k).idleAt + s.fpN (6 + k) P.ssiRecovery k * 1000 ≤ τ ∧ (s.clock τ).ssiAhead k = some m ∧ s.par P.ssiEvery k ≤ (s.ssi k).seCount + m) ∧
    (∃ s0 : State, ∃ τ : Nat, ∃ k : Nat, let s := s0.due τ; k < 4 ∧ (s.ssi k).busy = true ∧ (s.ssi k).startAt + s.ssiClk k / 2 + 2000 ≤ τ) ∧
    (∃ s0 : State, ∃ τ : Nat, ∃ k : Nat, ∃ delay, let s := s0.due τ; k < 4 ∧ (s.ssi k).busy = true ∧ s.fp (6 + k) P.ssiEn k = 1 ∧ (s.ssi k).startHigh = false ∧ (s.clock τ).now = (s.ssi k).endAt ∧ delay ≤ 2000) :=
  ⟨⟨pr { base with ssis := [(3, { seCount := 1000 })] } [(P.ssiEn, 3, 1)], 100000000000, 3, 0, by decide, by decide⟩,
    ⟨pr { base with ssis := [(3, { busy := true, startAt := 7 })] } [(P.ssiEn, 3, 1)], 100000000000, 3, by decide, by decide⟩,
    ⟨pr { base with ssis := [(3, { busy := true, endAt := 100000000000 })] } [(P.ssiEn, 3, 1)], 100000000000, 3, 700, by decide, by decide⟩⟩

theorem witness_InterfaceHealth :
    (∃ s0 : State, ∃ τ : Nat, ∃ k, ∃ pair, let s := s0.due τ; k < 4 ∧ s.fp k P.encMode k = 1 ∧ pair < 2) ∧
    (∃ s0 : State, ∃ τ : Nat, ∃ k, ∃ pair, let s := s0.due τ; k < 4 ∧ s.fp k P.encMode k = 1 ∧ pair < 2 ∧ (s.enc k).lineLoss = 2 ^ pair) ∧
    (∃ s0 : State, ∃ τ : Nat, ∃ i, let s := s0.due τ; i < 10 ∧ s.ifaceSet i = true ∧ s.axisOfIface i = none ∧ (s.fb i).sampleAt + 50000 ≤ τ) ∧
    (∃ s0 : State, ∃ τ : Nat, ∃ k, let s := s0.due τ; k < 4 ∧ s.ifaceOn k = true ∧ (s.enc k).fb.faulty = true ∧ s.lineLow k = false ∧ (s.enc k).faults = [] ∧ (s.enc k).fb.clearSince + 1000000000 ≤ τ) :=
  ⟨⟨pr { base with encs := [(3, {})] } [(P.encMode, 3, 1)], 1000000000000, 3, 1, by decide, by decide⟩,
    ⟨pr { base with encs := [(3, { lineLoss := 2 })] } [(P.encMode, 3, 1)], 1000000000000, 3, 1, by decide, by decide⟩,
    ⟨pr { base with encs := [(3, {})] } [(P.encMode, 3, 1)], 1000000000000, 3, by decide, by decide⟩,
    ⟨pr { base with encs := [(3, { fb := { faulty := true, clearSince := 7 } })] } [(P.encMode, 3, 1)], 1000000000000, 3, by decide, by decide⟩⟩

theorem witness_SpeedLoopCommits :
    (∃ s0 : State, ∃ τ : Nat, ∃ k : Nat, let s := s0.due τ; k < 4 ∧ s.coresRun = true ∧ (s.ax k).st = .running ∧ s.par P.thCold ≠ 2 ∧ (s.ax k).speed.uvStop = false ∧ s.freeTurn τ k = true ∧ (s.ax k).speed.tickAt + 1000000000 / max 1 (s.spN k P.speedLoopFreq) ≤ τ) :=
  ⟨(ax base 3 { st := .running }), 1000000000000, 3, by decide, by decide⟩

theorem witness_ShockGuards :
    (∃ s0 : State, ∃ τ : Nat, ∃ k : Nat, ∃ t0 : Nat, let s := s0.due τ; k < 4 ∧ (s.ax k).speed.calmSince = some t0 ∧ (s.ax k).speed.render = true ∧ t0 + s.spN k P.snatchDwell * 1000000 ≤ τ) ∧
    (∃ s0 : State, ∃ τ : Nat, ∃ k : Nat, ∃ t0 : Nat, let s := s0.due τ; k < 4 ∧ (s.ax k).speed.ventLowSince = some t0 ∧ (s.ax k).speed.vented = false ∧ t0 + s.spN k P.ventDetect * 1000000 ≤ τ) ∧
    (∃ s0 : State, ∃ τ : Nat, ∃ k : Nat, ∃ t0 : Nat, let s := s0.due τ; k < 4 ∧ (s.ax k).speed.ventHighSince = some t0 ∧ (s.ax k).speed.vented = true ∧ t0 + s.spN k P.ventDetect * 1000000 ≤ τ) :=
  ⟨⟨(ax base 3 { speed := { calmSince := some 7, render := true } }), 1000000000000, 3, 7, by decide, by decide⟩,
    ⟨(ax base 3 { speed := { ventLowSince := some 7 } }), 1000000000000, 3, 7, by decide, by decide⟩,
    ⟨(ax base 3 { speed := { ventHighSince := some 7, vented := true } }), 1000000000000, 3, 7, by decide, by decide⟩⟩

theorem witness_StopEndsAtStandstill :
    (∃ s0 : State, ∃ τ : Nat, ∃ k : Nat, ∃ t0 : Nat, let s := s0.due τ; k < 4 ∧ (s.ax k).st = .stopping ∧ (s.ax k).speed.zeroSince = some t0 ∧ t0 + s.spN k P.zeroTime * 1000000 ≤ τ ∧ (s.ax k).stopEnd = .ready) ∧
    (∃ s0 : State, ∃ τ : Nat, ∃ k : Nat, ∃ t0 : Nat, let s := s0.due τ; k < 4 ∧ (s.ax k).st = .stopping ∧ (s.ax k).speed.zeroSince = some t0 ∧ t0 + s.spN k P.zeroTime * 1000000 ≤ τ ∧ (s.ax k).stopEnd = .disabled) ∧
    (∃ s0 : State, ∃ τ : Nat, ∃ k : Nat, ∃ t0 : Nat, let s := s0.due τ; k < 4 ∧ (s.ax k).st = .stopping ∧ (s.ax k).speed.zeroSince = some t0 ∧ t0 + s.spN k P.zeroTime * 1000000 ≤ τ ∧ (s.ax k).stopEnd = .sto) :=
  ⟨⟨(ax base 3 { st := .stopping, stopEnd := .ready, speed := { zeroSince := some 7 } }), 1000000000000, 3, 7, by decide, by decide⟩,
    ⟨(ax base 3 { st := .stopping, stopEnd := .disabled, speed := { zeroSince := some 7 } }), 1000000000000, 3, 7, by decide, by decide⟩,
    ⟨(ax base 3 { st := .stopping, stopEnd := .sto, speed := { zeroSince := some 7 } }), 1000000000000, 3, 7, by decide, by decide⟩⟩

theorem witness_LinkEvents :
    (∃ s0 : State, ∃ τ : Nat, ∃ l : Nat, let s := s0.due τ; l < 2 ∧ (s.link l).chopOn = true ∧ (s.link l).chopAt + s.lpN l P.chopMinOn * 1000 ≤ τ ∧ s.par P.linkV l ≤ s.lp l P.chopOff) ∧
    (∃ s0 : State, ∃ τ : Nat, ∃ l : Nat, let s := s0.due τ; l < 2 ∧ s.firmware = true ∧ (s.link l).energyAt + 1000000 ≤ τ) ∧
    (∃ s0 : State, ∃ τ : Nat, ∃ l : Nat, ∃ t0, let s := s0.due τ; l < 2 ∧ (s.link l).uvSince = some t0 ∧ t0 + 1000000 ≤ τ ∧ ((s.axesOnLink l).any fun a => s.switching a) = true) :=
  ⟨⟨pr { base with links := [(1, { chopOn := true, chopAt := 7 })] } [(P.chopOff, 1, 100)], 1000000000000, 1, by decide, by decide⟩,
    ⟨base, 1000000000000, 1, by decide, by decide⟩,
    ⟨pr { ax wired 3 { st := .running } with links := [(1, { uvSince := some 7 })] } [(P.brLink, 3, 1)], 1000007, 1, 7, by decide, by decide⟩⟩

theorem witness_EmergencyPins :
    (∃ s0 : State, ∃ τ : Nat, ∃ k : Nat, ∃ raw, let s := s0.due τ; k < 4 ∧ s.dev.st = .idle ∧ s.par P.ecMode k = 1 ∧ -10500 ≤ raw ∧ raw ≤ 10500) ∧
    (∃ s0 : State, ∃ τ : Nat, ∃ k : Nat, ∃ t0, let s := s0.due τ; k < 4 ∧ (s.ax k).ec.lossSince = some t0 ∧ (s.ax k).ec.lost = false ∧ t0 + s.spN k P.ecLossTime * 1000000 ≤ τ) ∧
    (∃ s0 : State, ∃ τ : Nat, ∃ k : Nat, ∃ t0, let s := s0.due τ; k < 4 ∧ (s.ax k).ec.freeSince = some t0 ∧ (s.ax k).ec.lost = true ∧ t0 + 1000000000 ≤ τ) :=
  ⟨⟨pr base [(P.ecMode, 3, 1)], 100000000000, 3, -10500, by decide, by decide⟩,
    ⟨pr (ax base 3 { st := .emergency, ec := { lossSince := some 7 } }) [(P.ecMode, 3, 1)], 1000000000000, 3, 7, by decide, by decide⟩,
    ⟨pr (ax base 3 { st := .emergency, ec := { freeSince := some 7, lost := true } }) [(P.ecMode, 3, 1)], 1000000007, 3, 7, by decide, by decide⟩⟩

theorem witness_RingCycle :
    (∃ s0 : State, ∃ τ : Nat, let s := s0.due τ; s.ring.on = true ∧ s.ring.boundary < ((s.clock τ).hivePs / 20000000).toNat) ∧
    (∃ s0 : State, ∃ τ : Nat, ∃ p : Nat, ∃ bs : Bytes, let s := s0.due τ; s.ring.on = true ∧ p < 2 ∧ bs.length = 367 ∧ ((s.rport p).pair0 || (s.rport p).pair1) = true ∧ field bs 11 2 = crc16 (bs.take 11) ∧ field bs 3 2 = s.parN P.hiveId ∧ field bs 0 1 / 4 % 4 = s.rpN P.shareMode ∧ (s.rport p).up = true ∧ s.isCycleMaster = false ∧ field bs 1 1 < 16) ∧
    (∃ s0 : State, ∃ τ : Nat, ∃ v : RingView, ∃ vs : List RingView, let s := s0.due τ; s.ring.views = v :: vs ∧ v.startAt + (if v.folded then 23550 else 21000) ≤ τ) :=
  ⟨⟨{ base with ring := { on := true, boundary := 0 } }, 1000000000000, by decide, by decide⟩,
    ⟨tray0, 1000000000000, 1, trayBytes 0, by decide +kernel, by decide +kernel⟩,
    ⟨{ base with ring := { on := true, views := [{ cycle := 5, startAt := 7 }] } }, 21007, { cycle := 5, startAt := 7 }, [], by decide, by decide⟩⟩

theorem witness_ForeignTrayClosesPort :
    (∃ s0 : State, ∃ τ : Nat, ∃ p : Nat, ∃ bs : Bytes, let s := s0.due τ; s.ring.on = true ∧ p < 2 ∧ bs.length = 367 ∧ ((s.rport p).pair0 || (s.rport p).pair1) = true ∧ field bs 11 2 = crc16 (bs.take 11) ∧ field bs 3 2 ≠ s.parN P.hiveId) :=
  ⟨tray0, 1000000000000, 1, trayBytes 9, by decide +kernel, by decide +kernel⟩

theorem witness_RingPorts :
    (∃ s0 : State, ∃ τ : Nat, ∃ p : Nat, let s := s0.due τ; s.ring.on = true ∧ p < 2 ∧ (s.rport p).up = true) ∧
    (∃ s0 : State, ∃ τ : Nat, ∃ p : Nat, let s := s0.due τ; s.ring.on = true ∧ p < 2 ∧ (s.rport p).up = true ∧ (s.rport p).reqOut = true) ∧
    (∃ s0 : State, ∃ τ : Nat, ∃ p : Nat, let s := s0.due τ; s.ring.on = true ∧ p < 2 ∧ (s.rport p).up = true ∧ (s.rport p).pair1 = false) ∧
    (∃ s0 : State, ∃ τ : Nat, ∃ p : Nat, let s := s0.due τ; s.ring.on = true ∧ p < 2 ∧ (s.rport p).up = false ∧ (s.rport p).foreign = none ∧ bit (s.par P.clkStatus) 0 = false ∧ (s.rport p).down0 + 50000 ≤ τ) ∧
    (∃ s0 : State, ∃ τ : Nat, ∃ p : Nat, ∃ m, let s := s0.due τ; s.ring.on = true ∧ p < 2 ∧ (s.rport p).up = true ∧ (s.rport p).upAt + 100000000 ≤ τ ∧ (s.rport p).neighbour = some m ∧ m < 16 ∧ m ≠ s.member) :=
  ⟨⟨{ base with ring := { on := true, right := { up := true } } }, 1000000000000, 1, by decide, by decide⟩,
    ⟨{ base with ring := { on := true, right := { up := true, reqOut := true } } }, 1000000000000, 1, by decide, by decide⟩,
    ⟨{ base with ring := { on := true, right := { up := true, pair0 := true } } }, 1000000000000, 1, by decide, by decide⟩,
    ⟨{ base with ring := { on := true, right := {} } }, 1000000000000, 1, by decide, by decide⟩,
    ⟨{ base with ring := { on := true, right := { up := true, upAt := 7, neighbour := some 15 } } }, 100000007, 1, 15, by decide, by decide⟩⟩

theorem witness_RingMembers :
    (∃ s0 : State, ∃ τ : Nat, let s := s0.due τ; s.ring.on = true ∧ s.isCycleMaster = false ∧ s.ring.headerAt + 30000 ≤ τ ∧ ((∀ e ∈ s.ring.heardAt, s.member ≤ e.1))) ∧
    (∃ s0 : State, ∃ τ : Nat, ∃ t0, let s := s0.due τ; s.ring.on = true ∧ s.ring.bothDownAt = some t0 ∧ s.ring.lost = false ∧ t0 + 60000 ≤ τ) ∧
    (∃ s0 : State, ∃ τ : Nat, let s := s0.due τ; s.ring.on = true ∧ s.par P.hiveState = 1 ∧ (s.ax s.hiveAx).st = .running ∧ bit (s.par P.posStatus s.hiveAx) 2 = false ∧ bit (s.par P.posStatus s.hiveAx) 3 = false ∧ s.ring.hasLeft = false ∧ (s.shares && s.ring.minority) = false) ∧
    (∃ s0 : State, ∃ τ : Nat, let s := s0.due τ; s.ring.on = true ∧ s.par P.hiveState = 2 ∧ s.ring.stateAt + s.rpN P.handoverTime * 1000000 ≤ τ) ∧
    (∃ s0 : State, ∃ τ : Nat, ∃ t0, let s := s0.due τ; s.ring.on = true ∧ s.ring.leaveAt = some t0 ∧ s.par P.hiveState = 5 ∧ t0 + s.rpN P.handoverTime * 1000000 ≤ τ) :=
  ⟨⟨{ base with ring := { on := true, headerAt := 7 } }, 30007, by decide, by decide⟩,
    ⟨{ base with ring := { on := true, bothDownAt := some 7 } }, 60007, 7, by decide, by decide⟩,
    ⟨pr { ax base 0 { st := .running } with ring := { on := true } } [(P.hiveState, 0, 1)], 1000000000000, by decide, by decide⟩,
    ⟨pr { base with ring := { on := true } } [(P.hiveState, 0, 2)], 1000000000000, by decide, by decide⟩,
    ⟨pr { base with ring := { on := true, leaveAt := some 7 } } [(P.hiveState, 0, 5)], 1000000000000, 7, by decide, by decide⟩⟩

theorem witness_HiveEnable :
    (∃ s0 : State, ∃ τ : Nat, let s := s0.due τ; (s.ax s.hiveAx).st = .disabled ∧ s.ring.on = false) ∧
    (∃ s0 : State, ∃ τ : Nat, let s := s0.due τ; (s.ax s.hiveAx).st = .disabled ∧ s.ring.on = true) :=
  ⟨⟨base, 1000000000000, by decide, by decide⟩,
    ⟨{ base with ring := { on := true,  } }, 1000000000000, by decide, by decide⟩⟩

theorem witness_GateChannel :
    (∃ s0 : State, ∃ τ : Nat, ∃ c : Nat, let s := s0.due τ; s.HeldSafe ∧ c < 24 ∧ (s.chan c).soft = .level ∧ (s.chan c).softAt + s.cpN (c / 2) P.softTime * 100 ≤ τ) ∧
    (∃ s0 : State, ∃ τ : Nat, ∃ c : Nat, let s := s0.due τ; s.HeldSafe ∧ c < 24 ∧ (s.chan c).on = true ∧ (s.chan c).cmd = false) ∧
    (∃ s0 : State, ∃ τ : Nat, ∃ c : Nat, let s := s0.due τ; s.HeldSafe ∧ c < 24 ∧ (s.chan c).stage = .s1 ∧ (s.chan c).soft = .none ∧ (s.clock τ).now < (s.chan c).cmdAt + s.cpN (c / 2) P.stageTmax) ∧
    (∃ s0 : State, ∃ τ : Nat, ∃ c : Nat, let s := s0.due τ; s.HeldSafe ∧ c < 24 ∧ (s.chan c).wait.isSome = true ∧ (s.chan (if c % 2 = 0 then c + 1 else c - 1)).on = false ∧ (s.chan (if c % 2 = 0 then c + 1 else c - 1)).offAt + s.gpN (c / 2) P.deadTime ≤ τ ∧ s.refusesOn c = false) :=
  ⟨⟨{ base with chans := [(23, { soft := .level, softAt := 7 })] }, 1000000000000, 23, by unfold State.HeldSafe; decide, by decide, by decide⟩,
    ⟨{ base with chans := [(23, { on := true })] }, 1000000000000, 23, by unfold State.HeldSafe; decide, by decide, by decide⟩,
    ⟨{ base with chans := [(23, { stage := .s1, on := true })] }, 0, 23, by unfold State.HeldSafe; decide, by decide, by decide⟩,
    ⟨{ base with chans := [(23, { wait := some 7 })], cellar := { causes := [] }, cells := [(11, { linkUp := true })] }, 1000000000000, 23, by unfold State.HeldSafe; decide, by decide, by decide⟩⟩

theorem witness_PlacedEdges :
    (∃ s0 : State, ∃ τ : Nat, ∃ c : Nat, ∃ k : Nat, let s := s0.due τ; s.HeldSafe ∧ c < 24 ∧ s.axisOfBridge (c / 6) = some k ∧ (s.lane (s.laneOf k)).running = true ∧ (s.ax k).asc = false ∧ (s.ax k).forcedOff = false ∧ (s.clock τ).edgePlaced (s.laneOf k) c false = true) ∧
    (∃ s0 : State, ∃ τ : Nat, ∃ c : Nat, ∃ k : Nat, let s := s0.due τ; s.HeldSafe ∧ c < 24 ∧ s.axisOfBridge (c / 6) = some k ∧ (s.lane (s.laneOf k)).running = true ∧ (s.ax k).asc = false ∧ (s.ax k).forcedOff = false ∧ (s.clock τ).edgePlaced (s.laneOf k) c true = true ∧ (s.chan (if c % 2 = 0 then c + 1 else c - 1)).cmd = true) ∧
    (∃ s0 : State, ∃ τ : Nat, ∃ c : Nat, ∃ k : Nat, let s := s0.due τ; s.HeldSafe ∧ c < 24 ∧ s.axisOfBridge (c / 6) = some k ∧ (s.lane (s.laneOf k)).running = true ∧ (s.ax k).asc = false ∧ (s.ax k).forcedOff = false ∧ (s.clock τ).edgePlaced (s.laneOf k) c true = true ∧ (s.chan (if c % 2 = 0 then c + 1 else c - 1)).cmd = false ∧ (s.chan c).cmd = false ∧ s.refusesOn c = false ∧ (s.chan (if c % 2 = 0 then c + 1 else c - 1)).on = false ∧ (s.chan (if c % 2 = 0 then c + 1 else c - 1)).offAt + s.gpN (c / 2) P.deadTime ≤ τ) :=
  ⟨⟨{ lane wired 3 { running := true, nextX := 32000000, first := false, half := 2000, halves := [{ endX := 160000, half := 2000, rising := true, words := [(3, [{}, {}, { force := .modulate, compare := 16000 }])] }] } with cellar := { causes := [] }, cells := [(11, { linkUp := true })], chans := [] }, 2500, 23, 3, by unfold State.HeldSafe; decide, by decide, by decide⟩,
    ⟨{ lane wired 3 { running := true, nextX := 32000000, first := false, half := 2000, halves := [{ endX := 160000, half := 2000, rising := false, words := [(3, [{}, {}, { force := .modulate, compare := 16000 }])] }] } with cellar := { causes := [] }, cells := [(11, { linkUp := true })], chans := [(22, { cmd := true })] }, 2500, 23, 3, by unfold State.HeldSafe; decide, by decide, by decide⟩,
    ⟨{ lane wired 3 { running := true, nextX := 32000000, first := false, half := 2000, halves := [{ endX := 160000, half := 2000, rising := false, words := [(3, [{}, {}, { force := .modulate, compare := 16000 }])] }] } with cellar := { causes := [] }, cells := [(11, { linkUp := true })], chans := [] }, 2500, 23, 3, by unfold State.HeldSafe; decide, by decide, by decide⟩⟩

theorem witness_CellFaults :
    (∃ s0 : State, ∃ τ : Nat, ∃ c, let s := s0.due τ; ((∀ k, k < 4 → s.freeTurn τ k = true)) ∧ c < 24 ∧ (s.chan c).on = true ∧ (s.chan c).desat = false ∧ (s.chan c).onAt + s.cpN (c / 2) P.desatBlank ≤ τ) ∧
    (∃ s0 : State, ∃ τ : Nat, ∃ c, let s := s0.due τ; ((∀ k, k < 4 → s.freeTurn τ k = true)) ∧ c < 24 ∧ (s.chan c).wait.isSome = true ∧ (s.chan (if c % 2 = 0 then c + 1 else c - 1)).on = true ∧ (s.chan (if c % 2 = 0 then c + 1 else c - 1)).cmd = false ∧ (s.chan (if c % 2 = 0 then c + 1 else c - 1)).offCmdAt + 10000 ≤ τ) ∧
    (∃ s0 : State, ∃ τ : Nat, ∃ g, let s := s0.due τ; ((∀ k, k < 4 → s.freeTurn τ k = true)) ∧ g < 12 ∧ 2 ≤ (recent (s.clock τ).now 1000000 (s.cell g).cross).length) ∧
    (∃ s0 : State, ∃ τ : Nat, ∃ g, let s := s0.due τ; ((∀ k, k < 4 → s.freeTurn τ k = true)) ∧ g < 13 ∧ (s.cell g).linkUp = true) ∧
    (∃ s0 : State, ∃ τ : Nat, ∃ c, let s := s0.due τ; ((∀ k, k < 4 → s.freeTurn τ k = true)) ∧ c < 24 ∧ c % 2 = 1 ∧ (s.chan c).uv = false) ∧
    (∃ s0 : State, ∃ τ : Nat, ∃ l, let s := s0.due τ; ((∀ k, k < 4 → s.freeTurn τ k = true)) ∧ l < 2 ∧ (s.chan (chopCh l)).on = true) :=
  ⟨⟨{ base with chans := [(23, { on := true })] }, 1000000000000, 23, by decide, by decide⟩,
    ⟨{ base with chans := [(23, { wait := some 7 }), (22, { on := true, offCmdAt := 7 })] }, 10007, 23, by decide, by decide⟩,
    ⟨{ base with cells := [(11, { cross := [999999999999, 999999999998] })] }, 1000000000000, 11, by decide, by decide⟩,
    ⟨{ base with cells := [(12, { linkUp := true })] }, 1000000000000, 12, by decide, by decide⟩,
    ⟨base, 1000000000000, 23, by decide, by decide⟩,
    ⟨{ base with chans := [(25, { on := true })] }, 1000000000000, 1, by decide, by decide⟩⟩

theorem witness_CellSupplies :
    (∃ s0 : State, ∃ τ : Nat, ∃ g, let s := s0.due τ; g < 13 ∧ s.dev.st = .idle) ∧
    (∃ s0 : State, ∃ τ : Nat, ∃ g : Nat, ∃ v : Nat, let s := s0.due τ; g < 12 ∧ (v : Int) < s.gp g P.bootUv) ∧
    (∃ c, c < 24 ∧ c % 2 = 1) ∧
    (∃ p, p < 26) :=
  ⟨⟨base, 1000000000000, 12, by decide, by decide⟩,
    ⟨pr base [(P.bootUv, 3, 100)], 1000000000000, 11, 99, by decide, by decide⟩,
    ⟨23, by decide, by decide⟩,
    ⟨25, by decide⟩⟩

theorem witness_HoldOffCauses :
    (∃ s0 : State, ∃ τ : Nat, let s := s0.due τ; s.noPair = false ∧ ((∀ k, k < 4 → (s.ax k).st = .stopping → (s.ax k).precheck = none))) ∧
    (∃ s0 : State, ∃ τ : Nat, let s := s0.due τ; s.noPair = false) ∧
    (∃ s0 : State, ∃ τ : Nat, ∃ b, let s := s0.due τ; b < 4 ∧ (s.bridge b).oc = true ∧ (s.bridge b).ocAt + 2000 ≤ τ ∧ ((chansOfBridge b).any fun c => (s.chan c).on && decide ((s.chan c).soft = .none)) = true ∧ b ∉ s.cellar.backstop) ∧
    (∃ s0 : State, ∃ τ : Nat, ∃ g, let s := s0.due τ; g < 13 ∧ s.heldOff g = false) :=
  ⟨⟨base, 1000000000000, by decide, by decide⟩,
    ⟨base, 1000000000000, by decide⟩,
    ⟨{ base with chans := [(23, { on := true })], bridges := [(3, { oc := true, ocAt := 7 })] }, 2007, 3, by decide, by decide⟩,
    ⟨{ base with cellar := { causes := [] } }, 1000000000000, 12, by decide, by decide⟩⟩

theorem witness_ActiveShortEnds :
    (∃ s0 : State, ∃ τ : Nat, ∃ k : Nat, ∃ t0 : Nat, let s := s0.due τ; k < 4 ∧ (s.ax k).asc = true ∧ (s.ax k).ascSince = some t0 ∧ t0 + 100000000 ≤ τ) :=
  ⟨(ax base 3 { asc := true, ascSince := some 7 }), 100000007, 3, 7, by decide, by decide⟩

theorem witness_SafeTorqueOff :
    (∃ s0 : State, ∃ τ : Nat, ∃ high, let s := s0.due τ; high ≠ s.cellar.stoA) ∧
    (∃ s0 : State, ∃ τ : Nat, ∃ high, let s := s0.due τ; high ≠ s.cellar.stoB) ∧
    (∃ s0 : State, ∃ τ : Nat, let s := s0.due τ; s.dev.st = .idle ∧ s.cellar.demand = false ∧ s.cellar.stoA = false ∧ s.cellar.stoAAt + s.parN P.stoFilt * 1000 ≤ τ ∧ s.porch.halt = .none ∧ s.par P.ss1En = 0) ∧
    (∃ s0 : State, ∃ τ : Nat, let s := s0.due τ; s.cellar.demand = true ∧ s.cellar.disc = false ∧ s.cellar.stoA = true ∧ s.cellar.stoB = true ∧ max s.cellar.stoAAt s.cellar.stoBAt + s.parN P.stoFilt * 1000 ≤ τ ∧ s.porch.halt = .none) :=
  ⟨⟨base, 1000000000000, true, by decide⟩,
    ⟨base, 1000000000000, true, by decide⟩,
    ⟨{ base with cellar := { stoA := false, stoB := true } }, 1000000000000, by decide, by decide⟩,
    ⟨{ base with cellar := { demand := true, stoA := true, stoB := true } }, 1000000000000, by decide, by decide⟩⟩

theorem witness_CellarTimers :
    (∃ s0 : State, ∃ τ : Nat, ∃ t0, let s := s0.due τ; s.cellar.diffSince = some t0 ∧ s.cellar.disc = false ∧ t0 + s.parN P.stoDiscTime * 1000000 ≤ τ) ∧
    (∃ s0 : State, ∃ τ : Nat, ∃ t0, let s := s0.due τ; s.cellar.ss1 = some t0 ∧ t0 + s.parN P.ss1Time * 1000000 ≤ τ) ∧
    (∃ s0 : State, ∃ τ : Nat, ∃ code, ∃ inst, ∃ f, ∃ t0, ∃ d, let s := s0.due τ; clearDwell code = some d ∧ s.standing.find? (fun f => decide (f.code = code) && decide (f.inst = inst)) = some f ∧ f.okSince = some t0 ∧ t0 + d ≤ τ) ∧
    (∃ code, clearDwell code = none) :=
  ⟨⟨{ base with cellar := { stoA := true, stoB := false, diffSince := some 7 } }, 1000000000000, 7, by decide, by decide⟩,
    ⟨{ base with cellar := { ss1 := some 7 } }, 1000000000000, 7, by decide, by decide⟩,
    ⟨{ base with standing := [{ code := 0x0106, inst := 3, axis := 255, path := "", okSince := some 7 }] }, 10000007, 0x0106, 3, { code := 0x0106, inst := 3, axis := 255, path := "", okSince := some 7 }, 7, 10000000, by decide, by decide⟩,
    ⟨0x0605, by decide⟩⟩

theorem witness_PrecheckSteps :
    (∃ s0 : State, ∃ τ : Nat, ∃ k : Nat, ∃ p : Precheck, let s := s0.due τ; k < 4 ∧ (s.ax k).precheck = some p ∧ p.step = .pump ∧ p.startedAt + 100000000 ≤ τ ∧ ((∀ g ∈ cellsOfBridge p.bridge, s.gp g P.bootWarn ≤ s.par P.bootV g))) ∧
    (∃ s0 : State, ∃ τ : Nat, ∃ k : Nat, ∃ p : Precheck, let s := s0.due τ; k < 4 ∧ (s.ax k).precheck = some p ∧ p.step = .pump ∧ p.startedAt + 100000000 ≤ τ ∧ ((∃ g ∈ cellsOfBridge p.bridge, s.par P.bootV g < s.gp g P.bootWarn))) ∧
    (∃ s0 : State, ∃ τ : Nat, ∃ k : Nat, ∃ p : Precheck, ∃ reached, ∃ ns, let s := s0.due τ; k < 4 ∧ (s.ax k).precheck = some p ∧ p.step = .gateLoop ∧ p.startedAt + (101 + p.item) * 1000000 ≤ τ ∧ reached = true ∧ ns ≤ 5000) ∧
    (∃ s0 : State, ∃ τ : Nat, ∃ k : Nat, ∃ p : Precheck, ∃ reached, ∃ mv, let s := s0.due τ; k < 4 ∧ (s.ax k).precheck = some p ∧ p.step = .gateLoop ∧ p.startedAt + (101 + p.item) * 1000000 ≤ τ ∧ reached = false ∧ mv < 10) ∧
    (∃ s0 : State, ∃ τ : Nat, ∃ k : Nat, ∃ p : Precheck, ∃ reached, ∃ ns, ∃ mv, let s := s0.due τ; k < 4 ∧ (s.ax k).precheck = some p ∧ p.step = .gateLoop ∧ p.startedAt + (101 + p.item) * 1000000 ≤ τ ∧ ((reached = true → 5000 < ns)) ∧ 10 ≤ mv) ∧
    (∃ s0 : State, ∃ τ : Nat, ∃ k : Nat, ∃ p : Precheck, let s := s0.due τ; k < 4 ∧ (s.ax k).precheck = some p ∧ p.step = .desat ∧ p.startedAt + (107 + p.item) * 1000000 ≤ τ) ∧
    (∃ s0 : State, ∃ τ : Nat, ∃ k : Nat, ∃ p : Precheck, ∃ rises, let s := s0.due τ; k < 4 ∧ (s.ax k).precheck = some p ∧ p.step = .desat ∧ p.startedAt + (107 + p.item) * 1000000 ≤ τ ∧ 5000 ≤ s.par P.linkV (s.parN P.brLink p.bridge) ∧ ((p.item % 2 = 0 → rises = true))) ∧
    (∃ s0 : State, ∃ τ : Nat, ∃ k : Nat, ∃ p : Precheck, let s := s0.due τ; k < 4 ∧ (s.ax k).precheck = some p ∧ p.step = .phase ∧ s.par P.linkV (s.parN P.brLink p.bridge) < 5000) ∧
    (∃ s0 : State, ∃ τ : Nat, ∃ k : Nat, ∃ p : Precheck, ∃ node : List Nat, let s := s0.due τ; k < 4 ∧ (s.ax k).precheck = some p ∧ p.step = .phase ∧ 5000 ≤ s.par P.linkV (s.parN P.brLink p.bridge) ∧ p.item ≠ 0 ∧ p.startedAt + (117 + 5 * p.item) * 1000000 ≤ τ ∧ node.getD p.item 0 < 500) ∧
    (∃ s0 : State, ∃ τ : Nat, ∃ k : Nat, ∃ p : Precheck, ∃ zero : List (List Int), let s := s0.due τ; k < 4 ∧ (s.ax k).precheck = some p ∧ p.step = .sensing ∧ p.startedAt + 131000000 ≤ τ ∧ ((∃ x, x < 3 ∧ ∃ c ∈ zero.getD x [], s.par P.ofsTrip < iabs (c - s.par P.ofs p.bridge x)))) ∧
    (∃ s0 : State, ∃ τ : Nat, ∃ k : Nat, ∃ p : Precheck, ∃ zero : List (List Int), ∃ ref0 : List Int, let s := s0.due τ; k < 4 ∧ (s.ax k).precheck = some p ∧ p.step = .sensing ∧ p.startedAt + 131000000 ≤ τ ∧ ((∀ x, x < 3 → ∀ c ∈ zero.getD x [], iabs (c - s.par P.ofs p.bridge x) ≤ s.par P.ofsTrip)) ∧ s.par P.csMode p.bridge = 0 ∧ ((∀ i, i < 4 → iabs (ref0.getD i 0) ≤ 33)) ∧ s.par P.chopEn (s.parN P.brLink p.bridge) = 0) ∧
    (∃ s0 : State, ∃ τ : Nat, ∃ k : Nat, ∃ p : Precheck, ∃ reached, ∃ ns, ∃ mv, let s := s0.due τ; k < 4 ∧ (s.ax k).precheck = some p ∧ p.step = .chopper ∧ p.startedAt + 139000000 ≤ τ ∧ ((reached = true → 5000 < ns)) ∧ 10 ≤ mv) ∧
    (∃ s0 : State, ∃ τ : Nat, ∃ k : Nat, ∃ p : Precheck, let s := s0.due τ; k < 4 ∧ (s.ax k).precheck = some p ∧ p.step = .finish ∧ p.rest = [] ∧ p.emergency = false) :=
  ⟨⟨pr (ax base 3 { precheck := some { bridge := 3, startedAt := 7 } }) [(P.bootWarn, 3, 5), (P.bootV, 9, 5), (P.bootV, 10, 5), (P.bootV, 11, 5)], 100000007, 3, { bridge := 3, startedAt := 7 }, by decide, by decide⟩,
    ⟨pr (ax base 3 { precheck := some { bridge := 3, startedAt := 7 } }) [(P.bootWarn, 3, 5), (P.bootV, 9, 4)], 100000007, 3, { bridge := 3, startedAt := 7 }, by decide, by decide⟩,
    ⟨(ax base 3 { precheck := some { bridge := 3, step := .gateLoop, item := 5 } }), 1000000000000, 3, { bridge := 3, step := .gateLoop, item := 5 }, true, 5000, by decide, by decide⟩,
    ⟨(ax base 3 { precheck := some { bridge := 3, step := .gateLoop, item := 5 } }), 1000000000000, 3, { bridge := 3, step := .gateLoop, item := 5 }, false, 9, by decide, by decide⟩,
    ⟨(ax base 3 { precheck := some { bridge := 3, step := .gateLoop, item := 5 } }), 1000000000000, 3, { bridge := 3, step := .gateLoop, item := 5 }, true, 5001, 10, by decide, by decide⟩,
    ⟨(ax base 3 { precheck := some { bridge := 3, step := .desat, item := 5 } }), 1000000000000, 3, { bridge := 3, step := .desat, item := 5 }, by decide, by decide⟩,
    ⟨pr (ax base 3 { precheck := some { bridge := 3, step := .desat, item := 5 } }) [(P.linkV, 0, 5000)], 1000000000000, 3, { bridge := 3, step := .desat, item := 5 }, true, by decide, by decide⟩,
    ⟨pr (ax base 3 { precheck := some { bridge := 3, step := .phase } }) [(P.linkV, 0, 4999)], 1000000000000, 3, { bridge := 3, step := .phase }, by decide, by decide⟩,
    ⟨pr (ax base 3 { precheck := some { bridge := 3, step := .phase, item := 2 } }) [(P.linkV, 0, 5000)], 1000000000000, 3, { bridge := 3, step := .phase, item := 2 }, [0, 0, 499], by decide, by decide⟩,
    ⟨pr (ax base 3 { precheck := some { bridge := 3, step := .sensing } }) [(P.ofsTrip, 0, 5)], 1000000000000, 3, { bridge := 3, step := .sensing }, [[], [], [6]], by decide, by decide⟩,
    ⟨pr (ax base 3 { precheck := some { bridge := 3, step := .sensing } }) [(P.csMode, 3, 0)], 1000000000000, 3, { bridge := 3, step := .sensing }, [[0], [0], [0]], [33, 33, 33, 33], by decide, by decide⟩,
    ⟨(ax base 3 { precheck := some { bridge := 3, step := .chopper } }), 1000000000000, 3, { bridge := 3, step := .chopper }, false, 0, 10, by decide, by decide⟩,
    ⟨(ax base 3 { precheck := some { bridge := 3, step := .finish } }), 1000000000000, 3, { bridge := 3, step := .finish }, by decide, by decide⟩⟩

theorem witness_FaultWaitEnds :
    (∃ s0 : State, ∃ τ : Nat, ∃ k : Nat, let s := s0.due τ; k < 4 ∧ (s.ax k).st = .faultRetry ∧ s.firmware = true ∧ (s.ax k).retryAt + s.spN k P.faultWait * 1000000 ≤ τ ∧ tget s.cellar.causes 0 3 = 0 ∧ (s.clock τ).causesClear k = true ∧ (s.ax k).retryFrom = .ready) ∧
    (∃ s0 : State, ∃ τ : Nat, ∃ k : Nat, let s := s0.due τ; k < 4 ∧ (s.ax k).st = .faultRetry ∧ s.firmware = true ∧ (s.ax k).retryAt + s.spN k P.faultWait * 1000000 ≤ τ ∧ tget s.cellar.causes 0 3 = 0 ∧ (s.clock τ).causesClear k = false ∧ ((∃ f ∈ s.blocking k, f.code ≠ 0x0801 ∧ f.code ≠ 0x0802)) ∧ s.sp k P.faultTries ≤ ((s.clock τ).triesUsed k).length ∧ s.cellar.demand = false) ∧
    (∃ s0 : State, ∃ τ : Nat, ∃ k : Nat, let s := s0.due τ; k < 4 ∧ (s.ax k).st = .faultRetry ∧ s.firmware = true ∧ (s.ax k).retryAt + s.spN k P.faultWait * 1000000 ≤ τ ∧ tget s.cellar.causes 0 3 = 0 ∧ (s.clock τ).causesClear k = false ∧ ((∃ f ∈ s.blocking k, f.code ≠ 0x0801 ∧ f.code ≠ 0x0802)) ∧ (((s.clock τ).triesUsed k).length : Int) < s.sp k P.faultTries) ∧
    (∃ s0 : State, ∃ τ : Nat, ∃ k : Nat, let s := s0.due τ; k < 4 ∧ (s.ax k).st = .faultRetry ∧ s.firmware = true ∧ (s.ax k).retryAt + s.spN k P.faultWait * 1000000 ≤ τ ∧ tget s.cellar.causes 0 3 ≠ 0 ∧ (s.ax k).retrySd = false) :=
  ⟨⟨(ax base 3 { st := .faultRetry, retryFrom := .ready,  }), 1000000000000, 3, by decide, by decide⟩,
    ⟨pr { (ax base 3 { st := .faultRetry, retryFrom := .ready,  }) with standing := [{ code := 0x0301, inst := 3, axis := 3, path := "" }], bridges := [(3, { oc := true })] } [(P.faultTries, 3, 0)], 1000000000000, 3, by decide, by decide⟩,
    ⟨pr { (ax base 3 { st := .faultRetry, retryFrom := .ready,  }) with standing := [{ code := 0x0301, inst := 3, axis := 3, path := "" }], bridges := [(3, { oc := true })] } [(P.faultTries, 3, 1)], 1000000000000, 3, by decide, by decide⟩,
    ⟨{ (ax base 3 { st := .faultRetry, retryFrom := .ready,  }) with cellar := { causes := [(3, 1)] } }, 1000000000000, 3, by decide, by decide⟩⟩

theorem witness_TemperatureWindow :
    (∃ s0 : State, ∃ τ : Nat, let s := s0.due τ; s.dev.st ≠ .off ∧ s.fanner.windowAt + 100000 ≤ τ) ∧
    (∃ s0 : State, ∃ τ : Nat, ∃ n, let s := s0.due τ; n < 29 ∧ s.broken n = true ∧ 10000 ≤ (s.sensor n).good) :=
  ⟨⟨base, 1000000000000, by decide, by decide⟩,
    ⟨pr { base with fanner := { sensors := [(28, { good := 10000 })] } } [(P.tsBrokenMask, 0, 0x10000000)], 1000000000000, 28, by decide, by decide⟩⟩

theorem witness_ThermalStates :
    (∃ s0 : State, ∃ τ : Nat, ∃ t0, let s := s0.due τ; s.fanner.level.since = some t0 ∧ s.par P.thState < 3 ∧ t0 + 2000000000 ≤ τ) ∧
    (∃ s0 : State, ∃ τ : Nat, ∃ t0, let s := s0.due τ; s.fanner.coldSince = some t0 ∧ t0 + 2000000000 ≤ τ ∧ ((∀ k, k < 4 → s.freeTurn τ k = true))) ∧
    (∃ s0 : State, ∃ τ : Nat, ∃ t0, let s := s0.due τ; s.cellar.coolSince = some t0 ∧ tget s.cellar.causes 0 3 ≠ 0 ∧ s.par P.thState = 3 ∧ t0 + 10000000000 ≤ τ ∧ (recent (s.clock τ).now 3600000000000 s.cellar.releases).length < 3) ∧
    (∃ s0 : State, ∃ τ : Nat, ∃ w, ∃ t0, let s := s0.due τ; w < 5 ∧ (s.levelOf w).graceAt = some t0 ∧ (s.levelOf w).hot = 2 ∧ t0 + s.tpN P.thGrace * 1000000 ≤ τ) ∧
    (∃ s0 : State, ∃ τ : Nat, ∃ w, ∃ t0, let s := s0.due τ; w < 5 ∧ (s.levelOf w).reqAt = some t0 ∧ (s.levelOf w).hot = 2 ∧ s.par P.thAck = 0 ∧ t0 + 1000000000 ≤ τ) ∧
    (∃ s0 : State, ∃ τ : Nat, ∃ u, let s := s0.due τ; s.fanner.hold60 = some u ∧ u ≤ τ) :=
  ⟨⟨{ base with fanner := { level := { since := some 7 } } }, 2000000007, 7, by decide, by decide⟩,
    ⟨{ base with fanner := { coldSince := some 7 } }, 2000000007, 7, by decide, by decide⟩,
    ⟨pr { base with cellar := { coolSince := some 7, causes := [(3, 0x1FFF)] } } [(P.thState, 0, 3)], 10000000007, 7, by decide, by decide⟩,
    ⟨{ base with fanner := { jt := [(3, { hot := 2, graceAt := some 7 })] } }, 1000000000000, 4, 7, by decide, by decide⟩,
    ⟨{ base with fanner := { jt := [(3, { hot := 2, reqAt := some 7 })] } }, 1000000000000, 4, 7, by decide, by decide⟩,
    ⟨{ base with fanner := { hold60 := some 7 } }, 7, 7, by decide, by decide⟩⟩

theorem witness_JunctionAndWear :
    (∃ s0 : State, ∃ τ : Nat, ∃ k, let s := s0.due τ; k < 8 ∧ tget s.fanner.ntcAt 0 k + 10000000 ≤ τ) ∧
    (∃ s0 : State, ∃ τ : Nat, ∃ b, ∃ k, ∃ n, let s := s0.due τ; b < 4 ∧ n < 6 ∧ s.fanner.jtAt + 1000000 ≤ τ ∧ s.bridgeNtc b = some k ∧ s.bridgeSwitches b = false ∧ (s.junction (6 * b + n)).started = false) ∧
    (∃ s0 : State, ∃ τ : Nat, ∃ b, ∃ v, let s := s0.due τ; b < 4 ∧ (v = 1 ∨ v = 2) ∧ (s.clock τ).jtCalRefused b = false ∧ s.fanner.pulse.find? (fun e => e.1 = b) = none) ∧
    (∃ s0 : State, ∃ τ : Nat, ∃ b, let s := s0.due τ; (s.clock τ).jtCalRefused b = true) ∧
    (∃ s0 : State, ∃ τ : Nat, ∃ b, ∃ p, let s := s0.due τ; s.fanner.pulse.find? (fun e => e.1 = b) = some (b, p) ∧ p.failed = false ∧ p.done < 96 ∧ ((p.done = 0 ∨ p.at_ + 10000000 ≤ τ)) ∧ 2 ≤ s.par P.thState) ∧
    (∃ s0 : State, ∃ τ : Nat, ∃ b, ∃ p, ∃ k, let s := s0.due τ; s.fanner.pulse.find? (fun e => e.1 = b) = some (b, p) ∧ p.failed = false ∧ p.done < 96 ∧ ((p.done = 0 ∨ p.at_ + 10000000 ≤ τ)) ∧ s.par P.thState < 2 ∧ s.par P.thLevel = 0 ∧ s.axisOfBridge b = some k ∧ (s.ax k).st = .ready) ∧
    (∃ s0 : State, ∃ τ : Nat, ∃ b, ∃ p, let s := s0.due τ; b < 4 ∧ s.fanner.pulse.find? (fun e => e.1 = b) = some (b, p) ∧ p.failed = true) ∧
    (∃ s0 : State, ∃ τ : Nat, ∃ b, ∃ p, let s := s0.due τ; b < 4 ∧ s.fanner.pulse.find? (fun e => e.1 = b) = some (b, p) ∧ p.failed = false ∧ 96 ≤ p.done ∧ p.point = 1) ∧
    (∃ s0 : State, ∃ τ : Nat, let s := s0.due τ; s.fanner.lifeAt + 1000000000 ≤ τ) ∧
    (∃ s0 : State, ∃ τ : Nat, let s := s0.due τ; s.fanner.wearAt + 86400000000000 ≤ τ) :=
  ⟨⟨{ base with fanner := { ntcAt := [(7, 7)] } }, 10000007, 7, by decide, by decide⟩,
    ⟨pr { base with fanner := { jtAt := 7 } } [(P.brNtc, 3, 7), (P.ntcR25, 7, 1000)], 1000007, 3, 7, 5, by decide, by decide⟩,
    ⟨pr (ax base 3 { st := .ready }) [(P.brNtc, 3, 7), (P.ntcR25, 7, 1000), (P.ntcState, 7, 0), (P.linkV, 0, 5000)], 1000000000000, 3, 2, by decide, by decide⟩,
    ⟨base, 1000000000000, 3, by decide⟩,
    ⟨pr { base with fanner := { pulse := [(3, { point := 1, done := 95, at_ := 7 })] } } [(P.thState, 0, 2)], 10000007, 3, { point := 1, done := 95, at_ := 7 }, by decide, by decide⟩,
    ⟨ax { base with fanner := { pulse := [(3, { point := 1, done := 95, at_ := 7 })] } } 3 { st := .ready }, 10000007, 3, { point := 1, done := 95, at_ := 7 }, 3, by decide, by decide⟩,
    ⟨{ base with fanner := { pulse := [(3, { point := 1, failed := true })] } }, 1000000000000, 3, { point := 1, failed := true }, by decide, by decide⟩,
    ⟨{ base with fanner := { pulse := [(3, { point := 1, done := 96 })] } }, 1000000000000, 3, { point := 1, done := 96 }, by decide, by decide⟩,
    ⟨{ base with fanner := { lifeAt := 7 } }, 1000000007, by decide⟩,
    ⟨{ base with fanner := { wearAt := 7 } }, 86400000000007, by decide⟩⟩

theorem witness_PacketsReadBack :
    (∃ op : Nat, ∃ flags : Nat, ∃ sess : Nat, ∃ seq : Nat, ∃ payload : Bytes, op < 256 ∧ flags < 256 ∧ flags / 16 % 2 = 0 ∧ sess < 65536 ∧ seq < 65536 ∧ payload.length ≤ 1024) ∧
    (∃ op : Nat, ∃ flags : Nat, ∃ sess : Nat, ∃ seq : Nat, ∃ payload : Bytes, ∃ key : Option Bytes, ∃ k, op < 256 ∧ flags < 256 ∧ flags / 16 % 2 = 0 ∧ sess < 65536 ∧ seq < 65536 ∧ payload.length ≤ 1024 ∧ key = some k) :=
  ⟨⟨255, 239, 65535, 65535, List.replicate 1024 0#8, by decide +kernel, by decide +kernel⟩,
    ⟨255, 239, 65535, 65535, List.replicate 1024 0#8, some [], [], by decide +kernel, by decide +kernel⟩⟩

theorem witness_PacketRefusals :
    (∃ s : State, ∃ τ : Nat, ∃ tp : Transport, ∃ i : Instr, ∃ c : Cmd, ∃ n : Nat, ∃ p : Pkt, PacketRow τ tp i c ∧ (s.at τ).Offers tp c n p ∧ c.len p = false) ∧
    (∃ s : State, ∃ τ : Nat, ∃ tp : Transport, ∃ i : Instr, ∃ c : Cmd, ∃ n : Nat, ∃ p : Pkt, PacketRow τ tp i c ∧ (s.at τ).Offers tp c n p ∧ c.len p = true ∧ c.cls = .write ∧ s.owner.session ≠ n) ∧
    (∃ s : State, ∃ τ : Nat, ∃ tp : Transport, ∃ i : Instr, ∃ c : Cmd, ∃ n : Nat, ∃ p : Pkt, PacketRow τ tp i c ∧ (s.at τ).Offers tp c n p ∧ c.len p = true ∧ (c.cls = .write → s.owner.session = n) ∧ c.states.contains s.dev.st = false) :=
  ⟨⟨cmd base 0x02 [0], 1000000000000, .spi, .closeSession 1000000000000 .spi, cmdClose, 1, pk 0x02 [0], by simp [PacketRow], offers_of (by decide +kernel), by decide⟩,
    ⟨{ cmd base 0x21 [3] with owner := {} }, 1000000000000, .spi, .disable 1000000000000 .spi, cmdDisable, 1, pk 0x21 [3], by simp [PacketRow], offers_of (by decide +kernel), by decide, by decide, by decide⟩,
    ⟨{ cmd base 0x20 [3] with dev := { base.dev with st := .recovery } }, 1000000000000, .spi, .enable 1000000000000 .spi, cmdEnable, 1, pk 0x20 [3], by simp [PacketRow], offers_of (by decide +kernel), by decide, by decide, by decide⟩⟩

theorem witness_SessionCommands :
    (∃ s0 : State, ∃ τ : Nat, ∃ tp : Transport, ∃ n : Nat, ∃ p : Pkt, let s := s0.due τ; (s.clock τ).Accepts tp cmdClose n p) ∧
    (∃ s0 : State, ∃ τ : Nat, ∃ tp : Transport, ∃ n : Nat, ∃ p : Pkt, let s := s0.due τ; (s.clock τ).Accepts tp cmdHeartbeat n p) ∧
    (∃ s0 : State, ∃ τ : Nat, ∃ tp : Transport, ∃ n : Nat, ∃ p : Pkt, let s := s0.due τ; (s.clock τ).Accepts tp cmdClaim n p ∧ s.loader = false ∧ s.owner.session = 0 ∧ 1 ≤ (s.sess n).rank ∧ s.claiming n = false ∧ ((∀ e, s.owner.election = some e → (s.clock τ).houseNow < e.at_ + ms 50))) ∧
    (∃ s0 : State, ∃ τ : Nat, ∃ tp : Transport, ∃ n : Nat, ∃ p : Pkt, let s := s0.due τ; (s.clock τ).Accepts tp cmdRelease n p) ∧
    (∃ s0 : State, ∃ τ : Nat, ∃ tp : Transport, ∃ n : Nat, ∃ p : Pkt, let s := s0.due τ; (s.clock τ).Accepts tp cmdHandover n p ∧ s.owner.offer = none ∧ field p.payload 0 2 ≠ n ∧ (s.sess (field p.payload 0 2)).isOpen = true ∧ 1 ≤ (s.sess (field p.payload 0 2)).rank ∧ (s.sess (field p.payload 0 2)).proven = true) ∧
    (∃ s0 : State, ∃ τ : Nat, ∃ tp : Transport, ∃ n : Nat, ∃ p : Pkt, let s := s0.due τ; (s.clock τ).Accepts tp cmdSubscribe n p ∧ field p.payload 0 4 < 0x400 ∧ field p.payload 4 2 ≤ 60000 ∧ field p.payload 6 1 ≤ 16 ∧ ((∀ pn ∈ pnsAt p.payload 8 (field p.payload 6 1), (findPar pn).isSome = true))) ∧
    (∃ s0 : State, ∃ τ : Nat, ∃ tp : Transport, ∃ n : Nat, ∃ p : Pkt, let s := s0.due τ; (s.clock τ).Accepts tp cmdUnsubscribe n p) ∧
    (∃ s0 : State, ∃ τ : Nat, ∃ tp : Transport, ∃ p : Pkt, ∃ bs : Bytes, ∃ o, ∃ m, let s := s0.due τ; (s.clock τ).mayServe tp = true ∧ ((s.clock τ).front tp).1 = some (bs, o) ∧ p = parsePkt bs ∧ 8 ≤ bs.length ∧ (s.clock τ).headCheck o bs = none ∧ p.op = 0x01 ∧ p.auth = false ∧ (s.clock τ).openAgain o p = none ∧ p.payload.length = 28 ∧ field p.payload 8 1 = 0 ∧ field p.payload 10 2 ≤ 600 ∧ s.freeSession = some m) ∧
    (∃ s0 : State, ∃ τ : Nat, ∃ tp : Transport, ∃ bs : Bytes, ∃ o, ∃ st, let s := s0.due τ; (s.clock τ).mayServe tp = true ∧ ((s.clock τ).front tp).1 = some (bs, o) ∧ 8 ≤ bs.length ∧ (s.clock τ).headCheck o bs = some st) :=
  ⟨⟨cmd (base) 0x02 ([]), 1000000000000, .spi, 1, pk 0x02 ([]), accepts_of (by decide +kernel)⟩,
    ⟨cmd (base) 0x03 ([]), 1000000000000, .spi, 1, pk 0x03 ([]), accepts_of (by decide +kernel)⟩,
    ⟨{ cmd (base) 0x04 ([]) with owner := {} }, 1000000000000, .spi, 1, pk 0x04 ([]), accepts_of (by decide +kernel), by decide, by decide⟩,
    ⟨cmd (base) 0x05 ([]), 1000000000000, .spi, 1, pk 0x05 ([]), accepts_of (by decide +kernel)⟩,
    ⟨(cmd (base) 0x06 (leBytes 2 2 ++ leBytes 2 0)).setSess 2 { isOpen := true, rank := 1, proven := true }, 1000000000000, .spi, 1, pk 0x06 (leBytes 2 2 ++ leBytes 2 0), accepts_of (by decide +kernel), by decide, by decide⟩,
    ⟨cmd (base) 0x30 (leBytes 4 0x3FF ++ leBytes 2 60000 ++ leBytes 1 1 ++ leBytes 1 0 ++ leBytes 2 0x0006), 1000000000000, .spi, 1, pk 0x30 (leBytes 4 0x3FF ++ leBytes 2 60000 ++ leBytes 1 1 ++ leBytes 1 0 ++ leBytes 2 0x0006), accepts_of (by decide +kernel), by decide, by decide⟩,
    ⟨cmd (base) 0x31 (leBytes 4 0x3FF ++ leBytes 1 1 ++ leBytes 1 0 ++ leBytes 2 0), 1000000000000, .spi, 1, pk 0x31 (leBytes 4 0x3FF ++ leBytes 1 1 ++ leBytes 1 0 ++ leBytes 2 0), accepts_of (by decide +kernel)⟩,
    ⟨base.setQueue 12 [{ data := packet 0x01 0 0 0 (leBytes 8 5 ++ leBytes 2 0 ++ leBytes 2 600 ++ leBytes 16 0) none, tag := 3 }], 1000000000000, .spi, parsePkt (packet 0x01 0 0 0 (leBytes 8 5 ++ leBytes 2 0 ++ leBytes 2 600 ++ leBytes 16 0) none), packet 0x01 0 0 0 (leBytes 8 5 ++ leBytes 2 0 ++ leBytes 2 600 ++ leBytes 16 0) none, ((base.setQueue 12 [{ data := packet 0x01 0 0 0 (leBytes 8 5 ++ leBytes 2 0 ++ leBytes 2 600 ++ leBytes 16 0) none, tag := 3 }]).front .spi).1.get (by decide) |>.2, 1, by decide +kernel, by decide +kernel⟩,
    ⟨base.setQueue 12 [{ data := [1, 2, 3, 4, 5, 6, 7, 8, 9], tag := 3 }], 1000000000000, .spi, [1, 2, 3, 4, 5, 6, 7, 8, 9], ((base.setQueue 12 [{ data := [1, 2, 3, 4, 5, 6, 7, 8, 9], tag := 3 }]).front .spi).1.get (by decide) |>.2, stBadLength, by decide +kernel, by decide +kernel⟩⟩

theorem witness_ParameterCommands :
    (∃ s0 : State, ∃ τ : Nat, ∃ tp : Transport, ∃ n : Nat, ∃ p : Pkt, let s := s0.due τ; (s.clock τ).Accepts tp cmdGet n p ∧ 1 ≤ field p.payload 0 2 ∧ field p.payload 0 2 ≤ 85) ∧
    (∃ s0 : State, ∃ τ : Nat, ∃ tp : Transport, ∃ n : Nat, ∃ p : Pkt, let s := s0.due τ; (s.clock τ).Accepts tp cmdGet n p ∧ (field p.payload 0 2 = 0 ∨ 85 < field p.payload 0 2)) ∧
    (∃ s0 : State, ∃ τ : Nat, ∃ tp : Transport, ∃ n : Nat, ∃ p : Pkt, let s := s0.due τ; (s.clock τ).Accepts tp cmdGetBlock n p ∧ 1 ≤ field p.payload 2 2 ∧ field p.payload 2 2 ≤ 4096 ∧ field p.payload 0 2 + field p.payload 2 2 ≤ 0x10000) ∧
    (∃ s0 : State, ∃ τ : Nat, ∃ tp : Transport, ∃ n : Nat, ∃ p : Pkt, let s := s0.due τ; (s.clock τ).Accepts tp cmdGetBlock n p ∧ (field p.payload 2 2 = 0 ∨ 4096 < field p.payload 2 2)) ∧
    (∃ s0 : State, ∃ τ : Nat, ∃ tp : Transport, ∃ n : Nat, ∃ p : Pkt, let s := s0.due τ; (s.clock τ).Accepts tp cmdSnapshot n p ∧ 1 ≤ field p.payload 2 2 ∧ field p.payload 2 2 ≤ 84 ∧ field p.payload 0 1 = 0) ∧
    (∃ s0 : State, ∃ τ : Nat, ∃ tp : Transport, ∃ n : Nat, ∃ p : Pkt, let s := s0.due τ; (s.clock τ).Accepts tp cmdSnapshot n p ∧ 1 ≤ field p.payload 2 2 ∧ field p.payload 2 2 ≤ 84 ∧ 1 ≤ field p.payload 0 1 ∧ field p.payload 0 1 ≤ 4) ∧
    (∃ s0 : State, ∃ τ : Nat, ∃ tp : Transport, ∃ n : Nat, ∃ p : Pkt, ∃ i, ∃ st, let s := s0.due τ; (s.clock τ).Accepts tp cmdSet n p ∧ 1 ≤ field p.payload 0 2 ∧ field p.payload 0 2 ≤ 85 ∧ (s.clock τ).firstBad ((upto (field p.payload 0 2)).map fun i => (field p.payload (4 + 12 * i) 2, field p.payload (8 + 12 * i) 8)) = some (i, st)) ∧
    (∃ s0 : State, ∃ τ : Nat, ∃ tp : Transport, ∃ n : Nat, ∃ p : Pkt, let s := s0.due τ; (s.clock τ).Accepts tp cmdSet n p ∧ 1 ≤ field p.payload 0 2 ∧ field p.payload 0 2 ≤ 85 ∧ (s.clock τ).firstBad ((upto (field p.payload 0 2)).map fun i => (field p.payload (4 + 12 * i) 2, field p.payload (8 + 12 * i) 8)) = none) ∧
    (∃ s0 : State, ∃ τ : Nat, ∃ tp : Transport, ∃ n : Nat, ∃ p : Pkt, ∃ pn, ∃ v, ∃ q, ∃ i, ∃ j, let s := s0.due τ; (s.clock τ).Accepts tp cmdSet n p ∧ 1 ≤ field p.payload 0 2 ∧ field p.payload 0 2 ≤ 85 ∧ ((upto (field p.payload 0 2)).map fun i => (field p.payload (4 + 12 * i) 2, field p.payload (8 + 12 * i) 8)) = [(pn, v)] ∧ (s.clock τ).firstBad ((upto (field p.payload 0 2)).map fun i => (field p.payload (4 + 12 * i) 2, field p.payload (8 + 12 * i) 8)) = none ∧ isPlain s pn q i j) ∧
    (∃ s0 : State, ∃ τ : Nat, ∃ pn, ∃ v, ∃ q, ∃ i, ∃ j, let s := s0.due τ; isPlain s pn q i j ∧ (s.clock τ).firstBad [(pn, v)] = none) ∧
    (∃ s0 : State, ∃ τ : Nat, ∃ pn, ∃ v, ∃ q, ∃ i, ∃ j, let s := s0.due τ; isPlain s pn q i j ∧ ((s.clock τ).firstBad [(pn, v)]).isSome = true) ∧
    (∃ s0 : State, ∃ τ : Nat, ∃ tp : Transport, ∃ n : Nat, ∃ p : Pkt, let s := s0.due τ; (s.clock τ).Accepts tp cmdSetBlock n p ∧ field p.payload 2 2 = 0) ∧
    (∃ s0 : State, ∃ τ : Nat, ∃ tp : Transport, ∃ n : Nat, ∃ p : Pkt, let s := s0.due τ; (s.clock τ).Accepts tp cmdSetBlock n p ∧ (s.sess n).block = none ∧ 1 ≤ field p.payload 2 2 ∧ field p.payload 2 2 ≤ 127 ∧ field p.payload 4 2 ≤ 4096 ∧ field p.payload 2 2 ≤ field p.payload 4 2 ∧ p.more = true) :=
  ⟨⟨cmd (base) 0x10 (leBytes 2 85 ++ (List.replicate 85 (leBytes 2 6)).flatten), 1000000000000, .spi, 1, pk 0x10 (leBytes 2 85 ++ (List.replicate 85 (leBytes 2 6)).flatten), accepts_of (by decide +kernel), by decide +kernel, by decide +kernel⟩,
    ⟨cmd (base) 0x10 (leBytes 2 0), 1000000000000, .spi, 1, pk 0x10 (leBytes 2 0), accepts_of (by decide +kernel), by decide⟩,
    ⟨cmd (base) 0x12 (leBytes 2 0xF000 ++ leBytes 2 4096), 1000000000000, .spi, 1, pk 0x12 (leBytes 2 0xF000 ++ leBytes 2 4096), accepts_of (by decide +kernel), by decide, by decide⟩,
    ⟨cmd (base) 0x12 (leBytes 2 0 ++ leBytes 2 4097), 1000000000000, .spi, 1, pk 0x12 (leBytes 2 0 ++ leBytes 2 4097), accepts_of (by decide +kernel), by decide⟩,
    ⟨cmd (base) 0x14 (leBytes 1 0 ++ leBytes 1 0 ++ leBytes 2 1 ++ leBytes 2 6), 1000000000000, .spi, 1, pk 0x14 (leBytes 1 0 ++ leBytes 1 0 ++ leBytes 2 1 ++ leBytes 2 6), accepts_of (by decide +kernel), by decide, by decide⟩,
    ⟨cmd (base) 0x14 (leBytes 1 4 ++ leBytes 1 0 ++ leBytes 2 1 ++ leBytes 2 6), 1000000000000, .spi, 1, pk 0x14 (leBytes 1 4 ++ leBytes 1 0 ++ leBytes 2 1 ++ leBytes 2 6), accepts_of (by decide +kernel), by decide, by decide⟩,
    ⟨cmd (base) 0x11 (leBytes 2 1 ++ leBytes 2 0 ++ leBytes 2 0x0006 ++ leBytes 2 0 ++ leBytes 8 1), 1000000000000, .spi, 1, pk 0x11 (leBytes 2 1 ++ leBytes 2 0 ++ leBytes 2 0x0006 ++ leBytes 2 0 ++ leBytes 8 1), 0, stRange, accepts_of (by decide +kernel), by decide, by decide⟩,
    ⟨cmd (base) 0x11 (leBytes 2 1 ++ leBytes 2 0 ++ leBytes 2 0x6106 ++ leBytes 2 0 ++ leBytes 8 1000), 1000000000000, .spi, 1, pk 0x11 (leBytes 2 1 ++ leBytes 2 0 ++ leBytes 2 0x6106 ++ leBytes 2 0 ++ leBytes 8 1000), accepts_of (by decide +kernel), by decide, by decide⟩,
    ⟨cmd base 0x11 (leBytes 2 1 ++ leBytes 2 0 ++ leBytes 2 0x6106 ++ leBytes 2 0 ++ leBytes 8 1000), 1000000000000, .spi, 1, pk 0x11 (leBytes 2 1 ++ leBytes 2 0 ++ leBytes 2 0x6106 ++ leBytes 2 0 ++ leBytes 8 1000), 0x6106, 1000, P.encStillTime, 0, 0, accepts_of (by decide +kernel), by decide, by decide⟩,
    ⟨base, 1000000000000, 0x6106, 10000000, P.encStillTime, 0, 0, by decide, by decide⟩,
    ⟨base, 1000000000000, 0x6106, 999, P.encStillTime, 0, 0, by decide, by decide⟩,
    ⟨cmd (base) 0x13 (leBytes 2 0x6106 ++ leBytes 2 0 ++ leBytes 2 1 ++ leBytes 2 0), 1000000000000, .spi, 1, pk 0x13 (leBytes 2 0x6106 ++ leBytes 2 0 ++ leBytes 2 1 ++ leBytes 2 0), accepts_of (by decide +kernel), by decide⟩,
    ⟨cmd (base) 0x13 (leBytes 2 0x6106 ++ leBytes 2 1 ++ leBytes 2 2 ++ leBytes 2 0 ++ leBytes 8 1000) 0x20, 1000000000000, .spi, 1, pk 0x13 (leBytes 2 0x6106 ++ leBytes 2 1 ++ leBytes 2 2 ++ leBytes 2 0 ++ leBytes 8 1000) 0x20, accepts_of (by decide +kernel), by decide, by decide⟩⟩

theorem witness_AxisCommands :
    (∃ s0 : State, ∃ τ : Nat, ∃ tp : Transport, ∃ n : Nat, ∃ p : Pkt, ∃ r, let s := s0.due τ; (s.clock τ).Accepts tp cmdPrecheck n p ∧ (field p.payload 0 1) < 4 ∧ s.axisRefused (field p.payload 0 1) = some r) ∧
    (∃ s0 : State, ∃ τ : Nat, ∃ tp : Transport, ∃ n : Nat, ∃ p : Pkt, ∃ b, ∃ rest, let s := s0.due τ; (s.clock τ).Accepts tp cmdPrecheck n p ∧ (field p.payload 0 1) < 4 ∧ s.axisRefused (field p.payload 0 1) = none ∧ (s.ax (field p.payload 0 1)).st = .disabled ∧ s.bridgesOf (field p.payload 0 1) = b :: rest ∧ s.configFault (field p.payload 0 1) = none ∧ ((∀ g ∈ cellsOfBridge b, (s.cell g).linkUp = true ∧ (s.chan (loCh g)).uv = false))) ∧
    (∃ s0 : State, ∃ τ : Nat, ∃ tp : Transport, ∃ n : Nat, ∃ p : Pkt, ∃ r, let s := s0.due τ; (s.clock τ).Accepts tp cmdEnable n p ∧ (field p.payload 0 1) < 4 ∧ (s.ax (field p.payload 0 1)).st ≠ .emergency ∧ s.axisRefused (field p.payload 0 1) = some r) ∧
    (∃ s0 : State, ∃ τ : Nat, ∃ tp : Transport, ∃ n : Nat, ∃ p : Pkt, ∃ row, let s := s0.due τ; (s.clock τ).Accepts tp cmdEnable n p ∧ (field p.payload 0 1) < 4 ∧ (s.ax (field p.payload 0 1)).st ≠ .emergency ∧ s.axisRefused (field p.payload 0 1) = none ∧ (s.clock τ).startMethod (field p.payload 0 1) = some row ∧ (s.ax (field p.payload 0 1)).st = .ready) ∧
    (∃ s0 : State, ∃ τ : Nat, ∃ tp : Transport, ∃ n : Nat, ∃ p : Pkt, let s := s0.due τ; (s.clock τ).Accepts tp cmdDisable n p ∧ (field p.payload 0 1) < 4 ∧ (s.ax (field p.payload 0 1)).st = .ready) ∧
    (∃ s0 : State, ∃ τ : Nat, ∃ tp : Transport, ∃ n : Nat, ∃ p : Pkt, let s := s0.due τ; (s.clock τ).Accepts tp cmdDisable n p ∧ (field p.payload 0 1) < 4 ∧ (s.ax (field p.payload 0 1)).st = .running ∧ s.freeTurn τ (field p.payload 0 1) = true) ∧
    (∃ s0 : State, ∃ τ : Nat, ∃ tp : Transport, ∃ n : Nat, ∃ p : Pkt, let s := s0.due τ; (s.clock τ).Accepts tp cmdQuickstop n p ∧ (field p.payload 0 1) < 4 ∧ (s.ax (field p.payload 0 1)).st = .running ∧ s.freeTurn τ (field p.payload 0 1) = true) ∧
    (∃ s0 : State, ∃ τ : Nat, ∃ tp : Transport, ∃ n : Nat, ∃ p : Pkt, let s := s0.due τ; (s.clock τ).Accepts tp cmdQuickstop n p ∧ (field p.payload 0 1) < 4 ∧ (s.ax (field p.payload 0 1)).st = .ready) ∧
    (∃ s0 : State, ∃ τ : Nat, ∃ tp : Transport, ∃ n : Nat, ∃ p : Pkt, let s := s0.due τ; (s.clock τ).Accepts tp cmdSetpoint n p ∧ (field p.payload 0 1) < 4 ∧ (s.ax (field p.payload 0 1)).st = .emergency) ∧
    (∃ s0 : State, ∃ τ : Nat, ∃ tp : Transport, ∃ n : Nat, ∃ p : Pkt, let s := s0.due τ; (s.clock τ).Accepts tp cmdSetpoint n p ∧ (field p.payload 0 1) < 4 ∧ (s.ax (field p.payload 0 1)).st ≠ .emergency) ∧
    (∃ s0 : State, ∃ τ : Nat, ∃ tp : Transport, ∃ n : Nat, ∃ p : Pkt, let s := s0.due τ; (s.clock τ).Accepts tp cmdModeAxis n p ∧ (field p.payload 0 1) < 4 ∧ 3 < (field p.payload 1 1)) ∧
    (∃ s0 : State, ∃ τ : Nat, ∃ tp : Transport, ∃ n : Nat, ∃ p : Pkt, let s := s0.due τ; (s.clock τ).Accepts tp cmdModeAxis n p ∧ (field p.payload 0 1) < 4 ∧ (field p.payload 1 1) ≤ 3 ∧ (s.clock τ).firstBad [(P.ctrlMode.pn (field p.payload 0 1) 0, (field p.payload 1 1) / 2), (P.axisCmd.pn (field p.payload 0 1) 0, (field p.payload 1 1) % 2)] = none) ∧
    (∃ s0 : State, ∃ τ : Nat, ∃ tp : Transport, ∃ n : Nat, ∃ p : Pkt, let s := s0.due τ; (s.clock τ).Accepts tp cmdModeDevice n p ∧ s.dev.st = .idle ∧ (field p.payload 1 1) = 3 ∧ ((∀ j, j < 4 → (s.ax j).st.testOk = true))) ∧
    (∃ s0 : State, ∃ τ : Nat, ∃ tp : Transport, ∃ n : Nat, ∃ p : Pkt, let s := s0.due τ; (s.clock τ).Accepts tp cmdModeDevice n p ∧ s.dev.st = .idle ∧ (field p.payload 1 1) = 5) ∧
    (∃ s0 : State, ∃ τ : Nat, ∃ tp : Transport, ∃ n : Nat, ∃ p : Pkt, let s := s0.due τ; (s.clock τ).Accepts tp cmdModeDevice n p ∧ s.dev.st = .idle ∧ (field p.payload 1 1) ≠ 2 ∧ (field p.payload 1 1) ≠ 3 ∧ (field p.payload 1 1) ≠ 5) ∧
    (∃ s0 : State, ∃ τ : Nat, ∃ tp : Transport, ∃ n : Nat, ∃ p : Pkt, let s := s0.due τ; (s.clock τ).Accepts tp cmdFaultClearAxis n p ∧ (field p.payload 0 1) < 4 ∧ (s.link (s.linkOf (field p.payload 0 1))).chopFault = false ∧ s.cellar.backstop = [] ∧ (s.ax (field p.payload 0 1)).st ≠ .faultLatched) ∧
    (∃ s0 : State, ∃ τ : Nat, ∃ tp : Transport, ∃ n : Nat, ∃ p : Pkt, let s := s0.due τ; (s.clock τ).Accepts tp cmdFaultClearAxis n p ∧ (field p.payload 0 1) < 4 ∧ (s.link (s.linkOf (field p.payload 0 1))).chopFault = false ∧ s.cellar.backstop = [] ∧ (s.ax (field p.payload 0 1)).st = .faultLatched ∧ (s.clock τ).causesClear (field p.payload 0 1) = true ∧ s.freeTurn τ (field p.payload 0 1) = true) ∧
    (∃ s0 : State, ∃ τ : Nat, ∃ tp : Transport, ∃ n : Nat, ∃ p : Pkt, let s := s0.due τ; (s.clock τ).Accepts tp cmdFaultClearAxis n p ∧ (field p.payload 0 1) < 4 ∧ (s.link (s.linkOf (field p.payload 0 1))).chopFault = false ∧ s.cellar.backstop = [] ∧ (s.ax (field p.payload 0 1)).st = .faultLatched ∧ (s.clock τ).causesClear (field p.payload 0 1) = false) ∧
    (∃ s0 : State, ∃ τ : Nat, ∃ tp : Transport, ∃ n : Nat, ∃ p : Pkt, let s := s0.due τ; (s.clock τ).Accepts tp cmdFaultClearDevice n p ∧ s.dev.st ≠ .recovery) ∧
    (∃ s0 : State, ∃ τ : Nat, ∃ tp : Transport, ∃ n : Nat, ∃ p : Pkt, let s := s0.due τ; (s.clock τ).Accepts tp cmdFaultClearDevice n p ∧ s.dev.st = .recovery ∧ (s.pair s.active).live = true ∧ s.standbyOk = true) ∧
    (∃ s0 : State, ∃ τ : Nat, ∃ tp : Transport, ∃ n : Nat, ∃ p : Pkt, let s := s0.due τ; (s.clock τ).Accepts tp cmdFaultClearDevice n p ∧ s.dev.st = .recovery ∧ s.standbyOk = false) :=
  ⟨⟨cmd (ax base 3 { st := .sto }) 0x24 ([3]), 1000000000000, .spi, 1, pk 0x24 ([3]), stStoActive, accepts_of (by decide +kernel), by decide, by decide⟩,
    ⟨{ pr (cmd (ax base 3 {}) 0x24 ([3])) [(P.posSources, 3, 2), (P.waggleKs, 3, 1)] with cells := [(9, { linkUp := true }), (10, { linkUp := true }), (11, { linkUp := true })] }, 1000000000000, .spi, 1, pk 0x24 ([3]), 3, [], accepts_of (by decide +kernel), by decide, by decide⟩,
    ⟨cmd (ax base 3 { st := .sto }) 0x20 ([3]), 1000000000000, .spi, 1, pk 0x20 ([3]), stStoActive, accepts_of (by decide +kernel), by decide, by decide⟩,
    ⟨pr (cmd (ax base 3 { st := .ready, pos := { vm := { valid := true } } }) 0x20 ([3])) [(P.posSources, 3, 8)], 1000000000000, .spi, 1, pk 0x20 ([3]), 3, accepts_of (by decide +kernel), by decide, by decide⟩,
    ⟨cmd (ax base 3 { st := .ready }) 0x21 ([3]), 1000000000000, .spi, 1, pk 0x21 ([3]), accepts_of (by decide +kernel), by decide, by decide⟩,
    ⟨cmd (ax base 3 { st := .running }) 0x21 ([3]), 1000000000000, .spi, 1, pk 0x21 ([3]), accepts_of (by decide +kernel), by decide, by decide⟩,
    ⟨cmd (ax base 3 { st := .running }) 0x25 ([3]), 1000000000000, .spi, 1, pk 0x25 ([3]), accepts_of (by decide +kernel), by decide, by decide⟩,
    ⟨cmd (ax base 3 { st := .ready }) 0x25 ([3]), 1000000000000, .spi, 1, pk 0x25 ([3]), accepts_of (by decide +kernel), by decide, by decide⟩,
    ⟨cmd (ax base 3 { st := .emergency }) 0x22 ([3, 0, 0, 0, 0, 0, 0, 0]), 1000000000000, .spi, 1, pk 0x22 ([3, 0, 0, 0, 0, 0, 0, 0]), accepts_of (by decide +kernel), by decide, by decide⟩,
    ⟨cmd (ax base 3 { st := .running }) 0x22 ([3, 0, 0, 0, 0, 0, 0, 0]), 1000000000000, .spi, 1, pk 0x22 ([3, 0, 0, 0, 0, 0, 0, 0]), accepts_of (by decide +kernel), by decide, by decide⟩,
    ⟨cmd (ax base 3 {}) 0x23 ([3, 4]), 1000000000000, .spi, 1, pk 0x23 ([3, 4]), accepts_of (by decide +kernel), by decide, by decide⟩,
    ⟨cmd (ax base 3 {}) 0x23 ([3, 3]), 1000000000000, .spi, 1, pk 0x23 ([3, 3]), accepts_of (by decide +kernel), by decide, by decide⟩,
    ⟨cmd (ax base 3 {}) 0x23 ([255, 3]), 1000000000000, .spi, 1, pk 0x23 ([255, 3]), accepts_of (by decide +kernel), by decide, by decide⟩,
    ⟨cmd (ax base 3 {}) 0x23 ([255, 5]), 1000000000000, .spi, 1, pk 0x23 ([255, 5]), accepts_of (by decide +kernel), by decide, by decide⟩,
    ⟨cmd (ax base 3 {}) 0x23 ([255, 4]), 1000000000000, .spi, 1, pk 0x23 ([255, 4]), accepts_of (by decide +kernel), by decide, by decide⟩,
    ⟨cmd (ax base 3 {}) 0x26 ([3]), 1000000000000, .spi, 1, pk 0x26 ([3]), accepts_of (by decide +kernel), by decide, by decide⟩,
    ⟨cmd (ax base 3 { st := .faultLatched }) 0x26 ([3]), 1000000000000, .spi, 1, pk 0x26 ([3]), accepts_of (by decide +kernel), by decide, by decide⟩,
    ⟨{ cmd (ax base 3 { st := .faultLatched }) 0x26 ([3]) with standing := [{ code := 0x0301, inst := 3, axis := 3, path := "" }], bridges := [(3, { oc := true })] }, 1000000000000, .spi, 1, pk 0x26 ([3]), accepts_of (by decide +kernel), by decide, by decide⟩,
    ⟨cmd (ax base 3 {}) 0x26 ([255]), 1000000000000, .spi, 1, pk 0x26 ([255]), accepts_of (by decide +kernel), by decide⟩,
    ⟨{ cmd (ax base 3 {}) 0x26 ([255]) with dev := { base.dev with st := .recovery } }, 1000000000000, .spi, 1, pk 0x26 ([255]), accepts_of (by decide +kernel), by decide, by decide⟩,
    ⟨{ cmd (ax base 3 {}) 0x26 ([255]) with dev := { base.dev with st := .recovery, pairB := {} } }, 1000000000000, .spi, 1, pk 0x26 ([255]), accepts_of (by decide +kernel), by decide, by decide⟩⟩

theorem witness_StoreCommands :
    (∃ s0 : State, ∃ τ : Nat, ∃ tp : Transport, ∃ n : Nat, ∃ p : Pkt, let s := s0.due τ; (s.clock τ).Accepts tp cmdForagerLoad n p ∧ 4 ≤ (field p.payload 0 1) ∧ (field p.payload 0 1) ≤ 15 ∧ (field p.payload 2 2) % 4 = 0 ∧ (field p.payload 2 2) + (p.payload.length - 4) ≤ 4096 ∧ s.par P.fgState (field p.payload 0 1) = 0 ∧ s.LarderWf) ∧
    (∃ s0 : State, ∃ τ : Nat, ∃ tp : Transport, ∃ n : Nat, ∃ p : Pkt, let s := s0.due τ; (s.clock τ).Accepts tp cmdForagerLoad n p ∧ 4 ≤ (field p.payload 0 1) ∧ (field p.payload 0 1) ≤ 15 ∧ (field p.payload 2 2) % 4 = 0 ∧ (field p.payload 2 2) + (p.payload.length - 4) ≤ 4096 ∧ s.par P.fgState (field p.payload 0 1) = 1) ∧
    (∃ s0 : State, ∃ τ : Nat, ∃ tp : Transport, ∃ n : Nat, ∃ p : Pkt, let s := s0.due τ; (s.clock τ).Accepts tp cmdForagerLoad n p ∧ ((field p.payload 0 1) < 4 ∨ 15 < (field p.payload 0 1))) ∧
    (∃ s0 : State, ∃ τ : Nat, ∃ tp : Transport, ∃ n : Nat, ∃ p : Pkt, let s := s0.due τ; (s.clock τ).Accepts tp cmdForagerStart n p ∧ (field p.payload 0 2) % 16 = 0) ∧
    (∃ s0 : State, ∃ τ : Nat, ∃ tp : Transport, ∃ n : Nat, ∃ p : Pkt, let s := s0.due τ; (s.clock τ).Accepts tp cmdForagerStart n p ∧ (field p.payload 0 2) % 16 ≠ 0) ∧
    (∃ s0 : State, ∃ τ : Nat, ∃ tp : Transport, ∃ n : Nat, ∃ p : Pkt, let s := s0.due τ; (s.clock τ).Accepts tp cmdForagerStop n p) ∧
    (∃ s0 : State, ∃ τ : Nat, ∃ tp : Transport, ∃ n : Nat, ∃ p : Pkt, let s := s0.due τ; (s.clock τ).Accepts tp cmdPantryDisarm n p) ∧
    (∃ s0 : State, ∃ τ : Nat, ∃ tp : Transport, ∃ n : Nat, ∃ p : Pkt, let s := s0.due τ; (s.clock τ).Accepts tp cmdPantryArm n p ∧ (field p.payload 0 1) = 1) ∧
    (∃ s0 : State, ∃ τ : Nat, ∃ tp : Transport, ∃ n : Nat, ∃ p : Pkt, let s := s0.due τ; (s.clock τ).Accepts tp cmdPantryArm n p ∧ 2 < (field p.payload 0 1)) ∧
    (∃ s0 : State, ∃ τ : Nat, ∃ tp : Transport, ∃ n : Nat, ∃ p : Pkt, let s := s0.due τ; (s.clock τ).Accepts tp cmdPantryTrigger n p ∧ s.par P.panState = 0) ∧
    (∃ s0 : State, ∃ τ : Nat, ∃ tp : Transport, ∃ n : Nat, ∃ p : Pkt, let s := s0.due τ; (s.clock τ).Accepts tp cmdPantryTrigger n p ∧ s.par P.panState = 1) ∧
    (∃ s0 : State, ∃ τ : Nat, ∃ tp : Transport, ∃ n : Nat, ∃ p : Pkt, ∃ ded : List Nat, let s := s0.due τ; (s.clock τ).Accepts tp (cmdPantryRead ded) n p ∧ 1 < (field p.payload 0 1)) ∧
    (∃ s0 : State, ∃ τ : Nat, ∃ tp : Transport, ∃ n : Nat, ∃ p : Pkt, ∃ ded : List Nat, let s := s0.due τ; (s.clock τ).Accepts tp (cmdPantryRead ded) n p ∧ (field p.payload 0 1) = 0 ∧ s.panOn = true) ∧
    (∃ s0 : State, ∃ τ : Nat, ∃ tp : Transport, ∃ n : Nat, ∃ p : Pkt, ∃ ded : List Nat, let s := s0.due τ; (s.clock τ).Accepts tp (cmdPantryRead ded) n p ∧ (field p.payload 0 1) = 0 ∧ s.panOn = false ∧ s.pantry.made = true ∧ ded = [] ∧ field p.payload 4 4 = 0 ∧ field p.payload 8 4 = 16) ∧
    (∃ s0 : State, ∃ τ : Nat, ∃ tp : Transport, ∃ n : Nat, ∃ p : Pkt, let s := s0.due τ; (s.clock τ).Accepts tp cmdAtticRead n p) ∧
    (∃ s0 : State, ∃ τ : Nat, ∃ tp : Transport, ∃ n : Nat, ∃ p : Pkt, let s := s0.due τ; (s.clock τ).Accepts tp cmdAtticJournal n p) ∧
    (∃ s0 : State, ∃ τ : Nat, ∃ tp : Transport, ∃ n : Nat, ∃ p : Pkt, let s := s0.due τ; (s.clock τ).Accepts tp cmdAtticWrite n p ∧ s.judgeAttic n (field p.payload 0 1) (field p.payload 8 8) ≠ stAccepted) ∧
    (∃ s0 : State, ∃ τ : Nat, ∃ tp : Transport, ∃ n : Nat, ∃ p : Pkt, ∃ g, let s := s0.due τ; (s.clock τ).Accepts tp cmdAtticWrite n p ∧ s.judgeAttic n (field p.payload 0 1) (field p.payload 8 8) = stAccepted ∧ ((s.newestGen (field p.payload 0 1) = 0 ∨ (s.gen (field p.payload 0 1) (s.newestGen (field p.payload 0 1))).value ≠ field p.payload 8 8)) ∧ s.erasedGen (field p.payload 0 1) = some g) ∧
    (∃ s0 : State, ∃ τ : Nat, ∃ j, let s := s0.due τ; s.attic.job = some j) ∧
    (∃ s0 : State, ∃ τ : Nat, ∃ j, let s := s0.due τ; s.attic.job = some j ∧ j.retried = true) :=
  ⟨⟨cmd (base) 0x40 (leBytes 1 15 ++ leBytes 1 0 ++ leBytes 2 4092 ++ leBytes 4 7), 1000000000000, .spi, 1, pk 0x40 (leBytes 1 15 ++ leBytes 1 0 ++ leBytes 2 4092 ++ leBytes 4 7), accepts_of (by decide +kernel), by decide, by decide, by decide, by decide, by decide, by unfold State.LarderWf; decide⟩,
    ⟨cmd (base.setPar P.fgState 1 15) 0x40 (leBytes 1 15 ++ leBytes 1 0 ++ leBytes 2 4092 ++ leBytes 4 7), 1000000000000, .spi, 1, pk 0x40 (leBytes 1 15 ++ leBytes 1 0 ++ leBytes 2 4092 ++ leBytes 4 7), accepts_of (by decide +kernel), by decide, by decide⟩,
    ⟨cmd (base) 0x40 (leBytes 1 3 ++ leBytes 1 0 ++ leBytes 2 0), 1000000000000, .spi, 1, pk 0x40 (leBytes 1 3 ++ leBytes 1 0 ++ leBytes 2 0), accepts_of (by decide +kernel), by decide⟩,
    ⟨cmd (base) 0x41 (leBytes 2 0xFFF0), 1000000000000, .spi, 1, pk 0x41 (leBytes 2 0xFFF0), accepts_of (by decide +kernel), by decide⟩,
    ⟨cmd (base) 0x41 (leBytes 2 0x0008), 1000000000000, .spi, 1, pk 0x41 (leBytes 2 0x0008), accepts_of (by decide +kernel), by decide⟩,
    ⟨cmd (base) 0x42 (leBytes 2 0xFFFF), 1000000000000, .spi, 1, pk 0x42 (leBytes 2 0xFFFF), accepts_of (by decide +kernel)⟩,
    ⟨cmd (base) 0x50 (leBytes 2 0), 1000000000000, .spi, 1, pk 0x50 (leBytes 2 0), accepts_of (by decide +kernel)⟩,
    ⟨cmd (base) 0x50 (leBytes 2 1), 1000000000000, .spi, 1, pk 0x50 (leBytes 2 1), accepts_of (by decide +kernel), by decide⟩,
    ⟨cmd (base) 0x50 (leBytes 2 3), 1000000000000, .spi, 1, pk 0x50 (leBytes 2 3), accepts_of (by decide +kernel), by decide⟩,
    ⟨cmd (base) 0x50 (leBytes 2 2), 1000000000000, .spi, 1, pk 0x50 (leBytes 2 2), accepts_of (by decide +kernel), by decide⟩,
    ⟨cmd (pr base [(P.panState, 0, 1)]) 0x50 (leBytes 2 2), 1000000000000, .spi, 1, pk 0x50 (leBytes 2 2), accepts_of (by decide +kernel), by decide⟩,
    ⟨cmd (base) 0x51 (leBytes 1 2 ++ leBytes 3 0 ++ leBytes 4 0 ++ leBytes 4 16), 1000000000000, .spi, 1, pk 0x51 (leBytes 1 2 ++ leBytes 3 0 ++ leBytes 4 0 ++ leBytes 4 16), [], accepts_of (by decide +kernel), by decide⟩,
    ⟨cmd (pr base [(P.panState, 0, 2)]) 0x51 (leBytes 1 0 ++ leBytes 3 0 ++ leBytes 4 0 ++ leBytes 4 16), 1000000000000, .spi, 1, pk 0x51 (leBytes 1 0 ++ leBytes 3 0 ++ leBytes 4 0 ++ leBytes 4 16), [], accepts_of (by decide +kernel), by decide, by decide⟩,
    ⟨{ cmd (base) 0x51 (leBytes 1 0 ++ leBytes 3 0 ++ leBytes 4 0 ++ leBytes 4 16) with pantry := { made := true } }, 1000000000000, .spi, 1, pk 0x51 (leBytes 1 0 ++ leBytes 3 0 ++ leBytes 4 0 ++ leBytes 4 16), [], accepts_of (by decide +kernel), by decide, by decide⟩,
    ⟨cmd (base) 0x60 ([63, 0]), 1000000000000, .spi, 1, pk 0x60 ([63, 0]), accepts_of (by decide +kernel)⟩,
    ⟨cmd (base) 0x62 ([63, 0]), 1000000000000, .spi, 1, pk 0x62 ([63, 0]), accepts_of (by decide +kernel)⟩,
    ⟨cmd (base) 0x61 (leBytes 1 9 ++ leBytes 3 0 ++ leBytes 4 0 ++ leBytes 8 5), 1000000000000, .spi, 1, pk 0x61 (leBytes 1 9 ++ leBytes 3 0 ++ leBytes 4 0 ++ leBytes 8 5), accepts_of (by decide +kernel), by decide⟩,
    ⟨cmd (pr base [(P.vsupV, 0, 1800)]) 0x61 (leBytes 1 9 ++ leBytes 3 0 ++ leBytes 4 0 ++ leBytes 8 5), 1000000000000, .spi, 1, pk 0x61 (leBytes 1 9 ++ leBytes 3 0 ++ leBytes 4 0 ++ leBytes 8 5), 1, accepts_of (by decide +kernel), by decide, by decide⟩,
    ⟨{ base with attic := { job := some { slot := 9, gen := 1, value := 5, sess := 1, seq := 0, at_ := 7, client := 0 } } }, 1000000000000, { slot := 9, gen := 1, value := 5, sess := 1, seq := 0, at_ := 7, client := 0 }, by decide⟩,
    ⟨{ base with attic := { job := some { slot := 9, gen := 1, value := 5, sess := 1, seq := 0, at_ := 7, client := 0, retried := true } } }, 1000000000000, { slot := 9, gen := 1, value := 5, sess := 1, seq := 0, at_ := 7, client := 0, retried := true }, by decide, by decide⟩⟩

theorem witness_ServiceCommands :
    (∃ s0 : State, ∃ τ : Nat, ∃ tp : Transport, ∃ n : Nat, ∃ p : Pkt, let s := s0.due τ; (s.clock τ).Accepts tp cmdImageLoad n p ∧ (field p.payload 0 1) < 2 ∧ field p.payload 4 4 % 16 = 0 ∧ field p.payload 4 4 + (p.payload.length - 8) ≤ 0x600040 ∧ s.wingRuns (field p.payload 0 1) = true) ∧
    (∃ s0 : State, ∃ τ : Nat, ∃ tp : Transport, ∃ n : Nat, ∃ p : Pkt, let s := s0.due τ; (s.clock τ).Accepts tp cmdImageLoad n p ∧ (field p.payload 0 1) < 2 ∧ field p.payload 4 4 % 16 = 0 ∧ field p.payload 4 4 + (p.payload.length - 8) ≤ 0x600040 ∧ s.wingRuns (field p.payload 0 1) = false ∧ s.service.load = none ∧ s.service.verify = none ∧ s.service.switch = none ∧ s.tooCold = false ∧ field p.payload 4 4 = 0 ∧ (s.wing (field p.payload 0 1)).erases < 10000) ∧
    (∃ s0 : State, ∃ τ : Nat, ∃ tp : Transport, ∃ n : Nat, ∃ p : Pkt, let s := s0.due τ; (s.clock τ).Accepts tp cmdImageVerify n p ∧ (field p.payload 0 1) < 2 ∧ s.service.verify = none) ∧
    (∃ s0 : State, ∃ τ : Nat, ∃ tp : Transport, ∃ n : Nat, ∃ p : Pkt, let s := s0.due τ; (s.clock τ).Accepts tp cmdImageVerify n p ∧ (field p.payload 0 1) < 2 ∧ s.service.verify ≠ none) ∧
    (∃ s0 : State, ∃ τ : Nat, ∃ tp : Transport, ∃ n : Nat, ∃ p : Pkt, let s := s0.due τ; (s.clock τ).Accepts tp cmdImageSwitch n p ∧ (field p.payload 0 1) < 2 ∧ (field p.payload 1 1) = 0 ∧ s.service.switch = none ∧ s.service.load = none ∧ s.tooCold = false) ∧
    (∃ s0 : State, ∃ τ : Nat, ∃ tp : Transport, ∃ n : Nat, ∃ p : Pkt, let s := s0.due τ; (s.clock τ).Accepts tp cmdRecal n p ∧ (field p.payload 0 1) < 4 ∧ s.service.recal = none ∧ s.recalRefused (field p.payload 0 1) = none) ∧
    (∃ s0 : State, ∃ τ : Nat, ∃ tp : Transport, ∃ n : Nat, ∃ p : Pkt, let s := s0.due τ; (s.clock τ).Accepts tp cmdRecal n p ∧ (field p.payload 0 1) < 4 ∧ s.service.recal = none ∧ s.recalRefused (field p.payload 0 1) ≠ none) ∧
    (∃ s0 : State, ∃ τ : Nat, ∃ tp : Transport, ∃ n : Nat, ∃ p : Pkt, let s := s0.due τ; (s.clock τ).Accepts tp cmdLaneSwap n p ∧ (4 ≤ (field p.payload 0 1) ∨ 5 ≤ (field p.payload 1 1))) ∧
    (∃ s0 : State, ∃ τ : Nat, ∃ tp : Transport, ∃ n : Nat, ∃ p : Pkt, let s := s0.due τ; (s.clock τ).Accepts tp cmdLaneSwap n p ∧ (field p.payload 0 1) < 4 ∧ (field p.payload 1 1) < 5 ∧ s.findOp 0x74 (field p.payload 0 1) = none ∧ s.laneFree (field p.payload 0 1) (field p.payload 1 1) = true ∧ s.service.swaps = [] ∧ s.switching (field p.payload 0 1) = true) ∧
    (∃ s0 : State, ∃ τ : Nat, ∃ tp : Transport, ∃ n : Nat, ∃ p : Pkt, let s := s0.due τ; (s.clock τ).Accepts tp cmdHiveLeave n p ∧ s.findOp 0x75 0 = none ∧ s.par P.hiveState = 3) ∧
    (∃ s0 : State, ∃ τ : Nat, ∃ tp : Transport, ∃ n : Nat, ∃ p : Pkt, let s := s0.due τ; (s.clock τ).Accepts tp cmdHiveJoin n p ∧ s.findOp 0x76 0 = none ∧ s.par P.hiveState = 6) ∧
    (∃ s0 : State, ∃ τ : Nat, ∃ tp : Transport, ∃ n : Nat, ∃ p : Pkt, let s := s0.due τ; (s.clock τ).Accepts tp cmdSoftReset n p ∧ field p.payload 0 4 = 0xA55A) ∧
    (∃ s0 : State, ∃ τ : Nat, ∃ tp : Transport, ∃ n : Nat, ∃ p : Pkt, let s := s0.due τ; (s.clock τ).Accepts tp cmdSoftReset n p ∧ field p.payload 0 4 ≠ 0xA55A) :=
  ⟨⟨cmd ({ base with dev := { base.dev with st := .service, pairA := { live := true, wing := 0 }, pairB := { live := true, synced := true, wing := 0 } } }) 0x70 (leBytes 1 0 ++ leBytes 3 0 ++ leBytes 4 0x600030 ++ leBytes 16 0), 1000000000000, .spi, 1, pk 0x70 (leBytes 1 0 ++ leBytes 3 0 ++ leBytes 4 0x600030 ++ leBytes 16 0), accepts_of (by decide +kernel), by decide, by decide⟩,
    ⟨cmd ({ base with dev := { base.dev with st := .service, pairA := { live := true, wing := 0 }, pairB := { live := true, synced := true, wing := 0 } } }) 0x70 (leBytes 1 1 ++ leBytes 3 0 ++ leBytes 4 0 ++ leBytes 16 0), 1000000000000, .spi, 1, pk 0x70 (leBytes 1 1 ++ leBytes 3 0 ++ leBytes 4 0 ++ leBytes 16 0), accepts_of (by decide +kernel), by decide, by decide⟩,
    ⟨cmd ({ base with dev := { base.dev with st := .service } }) 0x71 ([1]), 1000000000000, .spi, 1, pk 0x71 ([1]), accepts_of (by decide +kernel), by decide, by decide⟩,
    ⟨{ cmd ({ base with dev := { base.dev with st := .service } }) 0x71 ([1]) with service := { verify := some 1 } }, 1000000000000, .spi, 1, pk 0x71 ([1]), accepts_of (by decide +kernel), by decide, by decide⟩,
    ⟨cmd ({ base with dev := { base.dev with st := .service } }) 0x72 ([1, 0]), 1000000000000, .spi, 1, pk 0x72 ([1, 0]), accepts_of (by decide +kernel), by decide, by decide⟩,
    ⟨cmd ({ base with dev := { base.dev with st := .service } }) 0x73 ([3, 0]), 1000000000000, .spi, 1, pk 0x73 ([3, 0]), accepts_of (by decide +kernel), by decide, by decide⟩,
    ⟨{ cmd ({ base with dev := { base.dev with st := .service } }) 0x73 ([3, 0]) with standing := [{ code := 0x0304, inst := 3, axis := 3, path := "" }] }, 1000000000000, .spi, 1, pk 0x73 ([3, 0]), accepts_of (by decide +kernel), by decide, by decide⟩,
    ⟨cmd ({ base with dev := { base.dev with st := .service } }) 0x74 ([4, 4]), 1000000000000, .spi, 1, pk 0x74 ([4, 4]), accepts_of (by decide +kernel), by decide⟩,
    ⟨cmd (pr (ax ({ base with dev := { base.dev with st := .service } }) 3 { st := .running }) [(P.laneRole, 4, 2)]) 0x74 ([3, 4]), 1000000000000, .spi, 1, pk 0x74 ([3, 4]), accepts_of (by decide +kernel), by decide, by decide⟩,
    ⟨cmd (pr ({ base with dev := { base.dev with st := .service } }) [(P.hiveState, 0, 3)]) 0x75 ([]), 1000000000000, .spi, 1, pk 0x75 ([]), accepts_of (by decide +kernel), by decide, by decide⟩,
    ⟨cmd (pr ({ base with dev := { base.dev with st := .service } }) [(P.hiveState, 0, 6)]) 0x76 ([]), 1000000000000, .spi, 1, pk 0x76 ([]), accepts_of (by decide +kernel), by decide, by decide⟩,
    ⟨cmd ({ base with dev := { base.dev with st := .service } }) 0x7F (leBytes 4 0xA55A), 1000000000000, .spi, 1, pk 0x7F (leBytes 4 0xA55A), accepts_of (by decide +kernel), by decide⟩,
    ⟨cmd ({ base with dev := { base.dev with st := .service } }) 0x7F (leBytes 4 0xA55B), 1000000000000, .spi, 1, pk 0x7F (leBytes 4 0xA55B), accepts_of (by decide +kernel), by decide⟩⟩

theorem witness_ServiceEnds :
    (∃ s0 : State, ∃ τ : Nat, ∃ j, let s := s0.due τ; s.service.load = some j) ∧
    (∃ s0 : State, ∃ τ : Nat, ∃ w, let s := s0.due τ; s.service.verify = some w) ∧
    (∃ s0 : State, ∃ τ : Nat, ∃ x, let s := s0.due τ; s.service.switch = some x ∧ x.phase = .checks ∧ (s.pair s.active).live = true ∧ s.checkWing x.wing ≠ stDone) ∧
    (∃ s0 : State, ∃ τ : Nat, ∃ x : Switch, let s := s0.due τ; s.service.switch = some x ∧ x.phase = .checks ∧ (s.pair s.active).live = true ∧ s.checkWing x.wing = stDone ∧ s.runWing.map s.wingCkpt = some (s.wingCkpt x.wing)) ∧
    (∃ s0 : State, ∃ τ : Nat, ∃ x, let s := s0.due τ; s.service.switch = some x ∧ x.phase = .sync ∧ (s.pair s.active).live = true) ∧
    (∃ s0 : State, ∃ τ : Nat, ∃ x, let s := s0.due τ; s.service.switch = some x ∧ x.phase = .commit ∧ (s.pair s.active).live = true ∧ x.trial = true) ∧
    (∃ s0 : State, ∃ τ : Nat, ∃ x, let s := s0.due τ; s.service.switch = some x ∧ x.phase = .commit ∧ (s.pair s.active).live = true ∧ x.trial = false) ∧
    (∃ s0 : State, ∃ τ : Nat, ∃ x, let s := s0.due τ; s.service.switch = some x ∧ x.phase = .former ∧ (s.pair s.active).live = true) ∧
    (∃ s0 : State, ∃ τ : Nat, ∃ b, let s := s0.due τ; s.service.recal = some b ∧ b < 4 ∧ s.service.recalFolded = true) ∧
    (∃ s0 : State, ∃ τ : Nat, ∃ k, ∃ x, let s := s0.due τ; s.service.swaps.find? (fun x => decide (x.axis = k)) = some x ∧ x.at_ < (s.lane x.src).periodNo ∧ s.laneFree k x.dst = false) ∧
    (∃ s0 : State, ∃ τ : Nat, ∃ k, ∃ x, let s := s0.due τ; s.service.swaps.find? (fun x => decide (x.axis = k)) = some x ∧ x.at_ < (s.lane x.src).periodNo ∧ s.laneFree k x.dst = true ∧ s.laneOf k ≠ x.dst) :=
  ⟨⟨{ base with service := { load := some ⟨1, 1, 0, 7⟩ } }, 1000000000000, ⟨1, 1, 0, 7⟩, by decide⟩,
    ⟨{ base with service := { verify := some 1 } }, 1000000000000, 1, by decide⟩,
    ⟨{ base with service := { wings := [(1, { factory := false })], switch := some { wing := 1, trial := true, phase := .checks } } }, 1000000000000, { wing := 1, trial := true, phase := .checks }, by decide +kernel, by decide +kernel⟩,
    ⟨wholeWing { base with dev := { base.dev with pairA := { live := true, wing := 1 } }, service := { switch := some { wing := 1, trial := true, phase := .checks } } }, 0, { wing := 1, trial := true, phase := .checks }, rfl, rfl, rfl, wholeWing_check _ rfl, rfl⟩,
    ⟨{ base with service := { switch := some { wing := 1, trial := true, phase := .sync } } }, 1000000000000, { wing := 1, trial := true, phase := .sync }, by decide, by decide⟩,
    ⟨{ base with service := { switch := some { wing := 1, trial := true, phase := .commit } } }, 1000000000000, { wing := 1, trial := true, phase := .commit }, by decide, by decide⟩,
    ⟨{ base with service := { switch := some { wing := 1, trial := false, phase := .commit } } }, 1000000000000, { wing := 1, trial := false, phase := .commit }, by decide, by decide⟩,
    ⟨{ base with service := { switch := some { wing := 1, trial := true, phase := .former } } }, 1000000000000, { wing := 1, trial := true, phase := .former }, by decide, by decide⟩,
    ⟨{ base with service := { recal := some 3, recalFolded := true } }, 1000000000000, 3, by decide, by decide⟩,
    ⟨pr (lane ({ base with service := { swaps := [{ axis := 3, src := 3, dst := 4, at_ := 5 }] } }) 3 { periodNo := 6 }) [(P.laneRole, 4, 1)], 1000000000000, 3, { axis := 3, src := 3, dst := 4, at_ := 5 }, by decide, by decide⟩,
    ⟨pr (lane ({ base with service := { swaps := [{ axis := 3, src := 3, dst := 4, at_ := 5 }] } }) 3 { periodNo := 6 }) [(P.laneRole, 4, 2)], 1000000000000, 3, { axis := 3, src := 3, dst := 4, at_ := 5 }, by decide, by decide⟩⟩

theorem witness_SessionTimes :
    (∃ s0 : State, ∃ τ : Nat, ∃ n, let s := s0.due τ; s.serving = true ∧ (s.sess n).isOpen = true ∧ (s.sess n).idleAt + ms (s.sess n).timeoutMs ≤ (s.clock τ).houseNow) ∧
    (∃ s0 : State, ∃ τ : Nat, ∃ n, let s := s0.due τ; s.serving = true ∧ (s.sess n).isOpen = true ∧ (s.sess n).auth = true ∧ (s.sess n).proven = false ∧ (s.sess n).openedAt + ms 1000 ≤ (s.clock τ).houseNow) ∧
    (∃ s0 : State, ∃ τ : Nat, ∃ n, let s := s0.due τ; s.firmware = true ∧ (s.sess n).isOpen = true ∧ (s.sess n).telPns ≠ [] ∧ 0 < (s.sess n).telPeriod ∧ (s.sess n).telAt + ms (s.sess n).telPeriod ≤ (s.clock τ).houseNow) ∧
    (∃ s0 : State, ∃ τ : Nat, ∃ w, let s := s0.due τ; s.serving = true ∧ s.waiting = [w] ∧ w.run = false ∧ sendSize (s.sess w.sess) w.packet ≤ s.freeBytes (outQ (s.sess w.sess).transport)) ∧
    (∃ s0 : State, ∃ τ : Nat, ∃ e, ∃ n, let s := s0.due τ; s.owner.election = some e ∧ s.firmware = true ∧ e.at_ + ms 50 ≤ (s.clock τ).houseNow ∧ s.winnerOf e.claims = some n) ∧
    (∃ s0 : State, ∃ τ : Nat, ∃ o, let s := s0.due τ; s.owner.offer = some o ∧ s.serving = true ∧ o.at_ + ms 1000 ≤ (s.clock τ).houseNow) ∧
    (∃ s0 : State, ∃ τ : Nat, let s := s0.due τ; s.serving = true ∧ s.owner.session ≠ 0 ∧ s.owner.hbAt + ms (s.parN P.heartbeatTo) ≤ (s.clock τ).houseNow) ∧
    (∃ s0 : State, ∃ τ : Nat, ∃ t0, let s := s0.due τ; s.owner.ownerlessAt = some t0 ∧ s.firmware = true ∧ s.owner.delayed = false ∧ s.owner.session = 0 ∧ t0 + ms (s.parN P.emergDelay) ≤ (s.clock τ).houseNow ∧ ((∀ j, j < 4 → (s.ax j).st ≠ .disabled ∧ s.freeTurn τ j = true))) :=
  ⟨⟨{ base.setSess 256 { isOpen := true, idleAt := 7, timeoutMs := 100 } with owner := {  } }, 100000007, 256, by decide, by decide⟩,
    ⟨{ base.setSess 256 { isOpen := true, auth := true, openedAt := 7 } with owner := {  } }, 1000000007, 256, by decide, by decide⟩,
    ⟨{ base.setSess 256 { isOpen := true, telPns := [6], telPeriod := 100, telAt := 7 } with owner := {  } }, 100000007, 256, by decide, by decide⟩,
    ⟨{ base with waiting := [{ sess := 1, packet := [] }] }, 1000000000000, { sess := 1, packet := [] }, by decide, by decide⟩,
    ⟨{ base.setSess 256 { isOpen := true, rank := 1 } with owner := { election := some { at_ := 7, claims := [(256, 0)] } } }, 50000007, { at_ := 7, claims := [(256, 0)] }, 256, by decide, by decide⟩,
    ⟨{ base.setSess 256 { isOpen := true,  } with owner := { offer := some { target := 2, at_ := 7, sess := 256, seq := 0 } } }, 1000000007, { target := 2, at_ := 7, sess := 256, seq := 0 }, by decide, by decide⟩,
    ⟨{ base.setSess 256 { isOpen := true,  } with owner := { session := 256, hbAt := 7 } }, 1000000000000, by decide, by decide⟩,
    ⟨{ ax (ax (ax (ax base 0 { st := .ready }) 1 { st := .ready }) 2 { st := .ready }) 3 { st := .running } with owner := { ownerlessAt := some 7 } }, 1000000000000, 7, by decide, by decide⟩⟩

theorem witness_HostPort :
    (∃ s0 : State, ∃ τ : Nat, ∃ bs : Bytes, let s := s0.due τ; s.dev.st ≠ .off ∧ s.answers = true ∧ 8 ≤ bs.length ∧ entrySize bs.length ≤ s.freeBytes 12) ∧
    (∃ s0 : State, ∃ τ : Nat, ∃ bs : Bytes, let s := s0.due τ; s.dev.st ≠ .off ∧ s.answers = true ∧ bs.length < 8) ∧
    (∃ s0 : State, ∃ τ : Nat, ∃ e, ∃ rest, ∃ n, let s := s0.due τ; s.dev.st ≠ .off ∧ s.answers = true ∧ s.queue 16 = e :: rest ∧ e.data ≠ [] ∧ s.waiting = [] ∧ e.data.length + 3 ≤ n) ∧
    (∃ s0 : State, ∃ τ : Nat, ∃ e, ∃ rest, ∃ n, let s := s0.due τ; s.dev.st ≠ .off ∧ s.answers = true ∧ s.queue 16 = e :: rest ∧ e.data ≠ [] ∧ s.waiting = [] ∧ n < e.data.length + 3) ∧
    (∃ s0 : State, ∃ τ : Nat, ∃ bs : Bytes, let s := s0.due τ; s.dev.st ≠ .off ∧ s.answers = true ∧ bs.head? = some 3#8 ∧ 5 ≤ bs.length) ∧
    (∃ s0 : State, ∃ τ : Nat, ∃ c, let s := s0.due τ; s.dev.st ≠ .off ∧ s.answers = true ∧ c ≠ 1#8 ∧ c ≠ 2#8 ∧ c ≠ 3#8) ∧
    (∃ s0 : State, ∃ τ : Nat, ∃ q, ∃ data : Bytes, let s := s0.due τ; s.dev.st ≠ .off ∧ 12 ≤ q ∧ q < 20 ∧ q ≠ 17 ∧ entrySize data.length ≤ s.freeBytes q) ∧
    (∃ s0 : State, ∃ τ : Nat, ∃ q, ∃ data : Bytes, let s := s0.due τ; s.dev.st ≠ .off ∧ (q < 8 ∨ 20 ≤ q) ∧ q < 32 ∧ entrySize data.length ≤ s.freeBytes q) :=
  ⟨⟨base, 1000000000000, [1, 2, 3, 4, 5, 6, 7, 8], by decide, by decide⟩,
    ⟨base, 1000000000000, [1, 2, 3, 4, 5, 6, 7], by decide, by decide⟩,
    ⟨base.setQueue 16 [{ data := [1, 2] }], 1000000000000, { data := [1, 2] }, [], 5, by decide, by decide⟩,
    ⟨base.setQueue 16 [{ data := [1, 2] }], 1000000000000, { data := [1, 2] }, [], 4, by decide, by decide⟩,
    ⟨base, 1000000000000, [3, 0, 0, 0, 0], by decide, by decide⟩,
    ⟨base, 1000000000000, 9, by decide, by decide⟩,
    ⟨base, 1000000000000, 19, [1], by decide, by decide⟩,
    ⟨base, 1000000000000, 31, [1], by decide, by decide⟩⟩

theorem witness_SwarmFrames :
    (∃ s0 : State, ∃ τ : Nat, ∃ p : Nat, ∃ kind, let s := s0.due τ; p < 4 ∧ s.sbActive p = true ∧ s.parN P.tec p ≤ 255 ∧ s.parN P.rec p ≤ 127 ∧ s.par P.rxFrames p < 4294967295 ∧ (kind = 2 ∨ kind = 3) ∧ s.par P.ignored p < 4294967295) ∧
    (∃ s0 : State, ∃ τ : Nat, ∃ p : Nat, let s := s0.due τ; p < 4 ∧ s.sbActive p = true ∧ s.parN P.tec p ≤ 255 ∧ s.parN P.rec p ≤ 127 ∧ s.par P.rxFrames p < 4294967295) ∧
    (∃ s0 : State, ∃ τ : Nat, ∃ p : Nat, ∃ id : Nat, ∃ data : Bytes, let s := s0.due τ; p < 4 ∧ s.sbActive p = true ∧ s.parN P.tec p ≤ 255 ∧ s.parN P.rec p ≤ 127 ∧ s.par P.rxFrames p < 4294967295 ∧ idClass (id % 0x20000000) = 4 ∧ s.held = true ∧ data.length ≤ 64 ∧ field data 0 2 % 16384 = s.parN P.addrHeld ∧ field data 3 1 = 0x80 ∧ s.swarm.xfers = [] ∧ entrySize (trimPacket (data.drop 4)).length ≤ s.freeBytes 13) ∧
    (∃ s0 : State, ∃ τ : Nat, ∃ p : Nat, let s := s0.due τ; p < 4 ∧ s.sbActive p = true) ∧
    (∃ s0 : State, ∃ τ : Nat, ∃ p : Nat, let s := s0.due τ; p < 4 ∧ s.sbActive p = false) ∧
    (∃ p : Nat, ∃ q, p < 4 ∧ q < 8) ∧
    (∃ s0 : State, ∃ τ : Nat, ∃ p : Nat, ∃ dur : Nat, ∃ f, let s := s0.due τ; p < 4 ∧ (s.clock τ).offered p (2 * (s.clock τ).now - 25 * dur) = some f ∧ s.par P.txFrames p < 4294967295) ∧
    (∃ s0 : State, ∃ τ : Nat, ∃ p : Nat, ∃ dur : Nat, let s := s0.due τ; p < 4 ∧ (s.clock τ).offered p (2 * (s.clock τ).now - 25 * dur) = none ∧ s.waiting = []) ∧
    (∃ s0 : State, ∃ τ : Nat, ∃ p : Nat, ∃ dur : Nat, ∃ f, let s := s0.due τ; p < 4 ∧ (s.clock τ).offered p (2 * (s.clock τ).now - 25 * dur) = some f) ∧
    (∃ s0 : State, ∃ τ : Nat, ∃ p : Nat, ∃ dur : Nat, ∃ f, let s := s0.due τ; p < 4 ∧ (s.clock τ).offered p (2 * (s.clock τ).now - 25 * dur) = some f ∧ s.parN P.tec p + 8 ≤ 255) ∧
    (∃ s0 : State, ∃ τ : Nat, ∃ p : Nat, let s := s0.due τ; p < 4 ∧ s.sbActive p = true ∧ s.parN P.tec p ≤ 255) ∧
    (∃ s0 : State, ∃ τ : Nat, ∃ p : Nat, ∃ f, ∃ e, let s := s0.due τ; p < 4 ∧ f ∈ (s.sb p).frames ∧ f.endAt = some e ∧ e ≤ τ) :=
  ⟨⟨pr base [(P.sbState, 3, 2)], 1000000000000, 3, 3, by decide, by decide⟩,
    ⟨pr base [(P.sbState, 3, 2)], 1000000000000, 3, by decide, by decide⟩,
    ⟨pr base [(P.sbState, 3, 2), (P.addrState, 0, 2), (P.addrHeld, 0, 5)], 1000000000000, 3, 0x800485, leBytes 2 5 ++ leBytes 1 1 ++ leBytes 1 0x80 ++ List.replicate 60 0#8, by decide, by decide⟩,
    ⟨pr base [(P.sbState, 3, 2)], 1000000000000, 3, by decide, by decide⟩,
    ⟨base, 1000000000000, 3, by decide, by decide⟩,
    ⟨3, 7, by decide, by decide⟩,
    ⟨{ pr base [(P.sbEn, 3, 1), (P.sbState, 3, 2), (P.addrState, 0, 2), (P.addrHeld, 0, 5)] with swarm := { ports := [(3, { frames := [{ tag := 5, id := 0x08000005, at_ := 5, endAt := none, own := true, xfer := none, last := true, copyOf := none }] })] } }, 1000000000000, 3, 100, { tag := 5, id := 0x08000005, at_ := 5, endAt := none, own := true, xfer := none, last := true, copyOf := none }, by decide, by decide⟩,
    ⟨base, 1000000000000, 3, 0, by decide, by decide⟩,
    ⟨{ pr base [(P.sbEn, 3, 1), (P.sbState, 3, 2), (P.addrState, 0, 2), (P.addrHeld, 0, 5)] with swarm := { ports := [(3, { frames := [{ tag := 5, id := 0x08000005, at_ := 5, endAt := none, own := true, xfer := none, last := true, copyOf := none }] })] } }, 1000000000000, 3, 100, { tag := 5, id := 0x08000005, at_ := 5, endAt := none, own := true, xfer := none, last := true, copyOf := none }, by decide, by decide⟩,
    ⟨{ pr base [(P.sbEn, 3, 1), (P.sbState, 3, 2), (P.addrState, 0, 2), (P.addrHeld, 0, 5)] with swarm := { ports := [(3, { frames := [{ tag := 5, id := 0x08000005, at_ := 5, endAt := none, own := true, xfer := none, last := true, copyOf := none }] })] } }, 1000000000000, 3, 100, { tag := 5, id := 0x08000005, at_ := 5, endAt := none, own := true, xfer := none, last := true, copyOf := none }, by decide, by decide⟩,
    ⟨pr base [(P.sbState, 3, 2)], 1000000000000, 3, by decide, by decide⟩,
    ⟨{ pr base [(P.sbEn, 3, 1), (P.sbState, 3, 2), (P.addrState, 0, 2), (P.addrHeld, 0, 5)] with swarm := { ports := [(3, { frames := [{ tag := 5, id := 0x08000005, at_ := 5, endAt := some 7, own := true, xfer := none, last := true, copyOf := none }] })] } }, 7, 3, { tag := 5, id := 0x08000005, at_ := 5, endAt := some 7, own := true, xfer := none, last := true, copyOf := none }, 7, by decide, by decide⟩⟩

theorem witness_SwarmPortsAndAddress :
    (∃ s0 : State, ∃ τ : Nat, ∃ p : Nat, let s := s0.due τ; p < 4 ∧ s.par P.sbState p = 1) ∧
    (∃ s0 : State, ∃ τ : Nat, ∃ p : Nat, let s := s0.due τ; p < 4 ∧ s.firmware = true ∧ s.par P.sbState p = 4 ∧ s.parN P.busoffReqDelay ≠ 0 ∧ (s.sb p).busOffAt + s.parN P.busoffReqDelay * 1000000 ≤ τ) ∧
    (∃ s0 : State, ∃ τ : Nat, ∃ p : Nat, ∃ mask, let s := s0.due τ; p < 4 ∧ mask / 2 ^ p % 2 = 1 ∧ s.par P.sbState p = 4) ∧
    (∃ s0 : State, ∃ τ : Nat, ∃ p : Nat, let s := s0.due τ; p < 4 ∧ s.par P.sbState p ≠ 4) ∧
    (∃ s0 : State, ∃ τ : Nat, ∃ p : Nat, let s := s0.due τ; p < 4 ∧ s.par P.sbState p = 5 ∧ (s.sb p).countAt + 1408 * s.nomBit p * 25 / 2 ≤ τ) ∧
    (∃ s0 : State, ∃ τ : Nat, ∃ p : Nat, let s := s0.due τ; p < 4 ∧ s.timingOk p = true ∧ s.par P.sbState p = 0) ∧
    (∃ s0 : State, ∃ τ : Nat, ∃ p : Nat, let s := s0.due τ; p < 4 ∧ s.timingOk p = false) ∧
    (∃ s0 : State, ∃ τ : Nat, ∃ p : Nat, let s := s0.due τ; p < 4 ∧ s.par P.sbState p ≠ 0) ∧
    (∃ s0 : State, ∃ τ : Nat, ∃ p : Nat, ∃ t0, let s := s0.due τ; p < 4 ∧ s.swarm.claimAt = some t0 ∧ s.par P.addrState = 1 ∧ t0 + s.parN P.claimWait * 1000000 ≤ τ) ∧
    (∃ s0 : State, ∃ τ : Nat, ∃ p : Nat, ∃ a, let s := s0.due τ; p < 4 ∧ s.swarm.nextAddr = some a ∧ s.par P.sbState p ≠ 0 ∧ s.parN P.sbSegment p = a / 128) ∧
    (∃ s0 : State, ∃ τ : Nat, ∃ p : Nat, let s := s0.due τ; p < 4 ∧ s.parN P.statusPeriod ≠ 0 ∧ s.swarm.statusAt + s.parN P.statusPeriod * 1000000 ≤ τ ∧ s.dev.st = .idle) :=
  ⟨⟨pr base [(P.sbState, 3, 1)], 1000000000000, 3, by decide, by decide⟩,
    ⟨pr base [(P.sbState, 3, 4), (P.busoffReqDelay, 0, 1)], 1000000000000, 3, by decide, by decide⟩,
    ⟨pr base [(P.sbState, 3, 4)], 1000000000000, 3, 8, by decide, by decide⟩,
    ⟨pr base [(P.sbState, 3, 2)], 1000000000000, 3, by decide, by decide⟩,
    ⟨pr base [(P.sbState, 3, 5)], 1000000000000, 3, by decide, by decide⟩,
    ⟨base, 1000000000000, 3, by decide, by decide⟩,
    ⟨pr base [(P.nsjw, 3, 1000)], 1000000000000, 3, by decide, by decide⟩,
    ⟨pr base [(P.sbState, 3, 2)], 1000000000000, 3, by decide, by decide⟩,
    ⟨pr { base with swarm := { claimAt := some 7 } } [(P.addrState, 0, 1)], 1000000000000, 3, 7, by decide, by decide⟩,
    ⟨pr { base with swarm := { nextAddr := some 128 } } [(P.sbState, 3, 2), (P.sbSegment, 3, 1)], 1000000000000, 3, 128, by decide, by decide⟩,
    ⟨pr base [(P.statusPeriod, 0, 1)], 1000000000000, 3, by decide, by decide⟩⟩

theorem witness_SwarmTime :
    (∃ s0 : State, ∃ τ : Nat, let s := s0.due τ; s.timeValid = true ∧ s.swarm.cycleNo < s.cycleAt (s.clock τ).swarmNow ∧ s.swarm.pendingSet = none) ∧
    (∃ s0 : State, ∃ τ : Nat, ∃ v, let s := s0.due τ; s.timeValid = true ∧ s.swarm.cycleNo < s.cycleAt (s.clock τ).swarmNow ∧ s.swarm.pendingSet = some v) ∧
    (∃ s0 : State, ∃ τ : Nat, ∃ p : Nat, ∃ id : Nat, ∃ data : Bytes, let s := s0.due τ; p < 4 ∧ s.sbActive p = true ∧ s.parN P.tec p ≤ 255 ∧ s.parN P.rec p ≤ 127 ∧ id < 0x20000000 ∧ idClass id = 1 ∧ 20 ≤ data.length ∧ data.length ≤ 64 ∧ idSource id / 128 = s.parN P.sbSegment p ∧ s.par P.addrState = 0 ∧ s.par P.timeState = 0 ∧ s.swarm.refs = []) ∧
    (∃ id, idClass id ≠ 1) ∧
    (∃ s0 : State, ∃ τ : Nat, ∃ p : Nat, ∃ id : Nat, let s := s0.due τ; p < 4 ∧ s.sbActive p = true ∧ s.parN P.tec p ≤ 255 ∧ s.parN P.rec p ≤ 127 ∧ s.par P.rxFrames p < 4294967295 ∧ idClass id = 2 ∧ idDetail id = 0) ∧
    (∃ s0 : State, ∃ τ : Nat, ∃ p : Nat, ∃ id : Nat, ∃ data : Bytes, let s := s0.due τ; p < 4 ∧ s.sbActive p = true ∧ s.parN P.tec p ≤ 255 ∧ s.parN P.rec p ≤ 127 ∧ s.par P.rxFrames p < 4294967295 ∧ idClass id = 2 ∧ idDetail id = 0 ∧ id < 0x20000000 ∧ data.length = 16 ∧ field data 0 2 = s.parN P.addrHeld ∧ s.held = true ∧ s.timeValid = true ∧ ((s.par P.timeState = 4 ∧ p ∈ s.bcastPorts) ∨ (s.relaysOn p = true ∧ (s.sb p).stopped = false)) ∧ entrySize 24 ≤ s.freeBytes (8 + p) ∧ (127 < s.parN P.tec p ↔ s.par P.sbState p = 3)) ∧
    (∃ s0 : State, ∃ τ : Nat, ∃ p : Nat, ∃ id : Nat, ∃ data : Bytes, ∃ tx, let s := s0.due τ; p < 4 ∧ s.sbActive p = true ∧ s.parN P.tec p ≤ 255 ∧ s.parN P.rec p ≤ 127 ∧ s.par P.rxFrames p < 4294967295 ∧ idClass id = 2 ∧ idDetail id = 1 ∧ id < 0x20000000 ∧ 24 ≤ data.length ∧ data.length ≤ 64 ∧ s.held = true ∧ field data 0 2 = s.parN P.addrHeld ∧ (s.sb p).reqStamp = some tx ∧ field data 2 1 = (s.sb p).delaySeq ∧ idSource id = s.parN P.timeSource ∧ p = s.swarm.upstream) ∧
    (∃ s0 : State, ∃ τ : Nat, let s := s0.due τ; s.held = true ∧ (s.par P.timeState = 1 ∨ s.par P.timeState = 2) ∧ s.sbOn s.swarm.upstream = true ∧ s.swarm.delayAt + s.parN P.delayInterval * 1000000 ≤ τ) ∧
    (∃ s0 : State, ∃ τ : Nat, let s := s0.due τ; (s.par P.timeState = 1 ∨ s.par P.timeState = 2) ∧ s.swarm.lastRefAt + s.cyclesNs 3 ≤ τ) ∧
    (∃ s0 : State, ∃ τ : Nat, let s := s0.due τ; s.par P.timeState = 3 ∧ s.swarm.holdoverAt + s.parN P.holdoverMax * 1000000 ≤ τ) ∧
    (∃ s0 : State, ∃ τ : Nat, let s := s0.due τ; s.potential = true ∧ s.par P.timeState = 0 ∧ max s.swarm.betterAt s.swarm.heldAt + s.cyclesNs (2 + s.parN P.tmRank) ≤ τ) ∧
    (∃ s0 : State, ∃ τ : Nat, ∃ r, let s := s0.due τ; s.potential = true ∧ s.par P.timeState = 2 ∧ (s.clock τ).followed = some r ∧ keyLt s.ownKey r.key = true ∧ 16 ≤ s.swarm.worse) ∧
    (∃ s0 : State, ∃ τ : Nat, let s := s0.due τ; s.par P.timeState = 4) ∧
    (∃ s0 : State, ∃ τ : Nat, let s := s0.due τ; s.par P.timeState ≠ 4) ∧
    (∃ s0 : State, ∃ τ : Nat, let s := s0.due τ; s.timeValid = true ∧ s.swarm.second < ((s.clock τ).swarmNow / 65536000000).toNat) :=
  ⟨⟨pr { base with swarm := {  } } [(P.timeState, 0, 1)], 100000000000000, by decide, by decide⟩,
    ⟨pr { base with swarm := { pendingSet := some 5 } } [(P.timeState, 0, 1)], 100000000000000, 5, by decide, by decide⟩,
    ⟨pr base [(P.sbState, 3, 2), (P.sbSegment, 3, 0)], 1000000000000, 3, 0x200480, List.replicate 64 0#8, by decide, by decide⟩,
    ⟨0x400480, by decide⟩,
    ⟨pr base [(P.sbState, 3, 2)], 1000000000000, 3, 0x400480, by decide, by decide⟩,
    ⟨pr base [(P.sbState, 3, 2), (P.sbSegment, 3, 0), (P.addrState, 0, 2), (P.addrHeld, 0, 5), (P.timeState, 0, 4)], 1000000000000, 3, 0x400480, leBytes 2 5 ++ List.replicate 14 0#8, by decide, by decide⟩,
    ⟨{ pr base [(P.sbState, 3, 2), (P.addrState, 0, 2), (P.addrHeld, 0, 5), (P.timeSource, 0, 9)] with swarm := { upstream := 3, ports := [(3, { reqStamp := some 7, delaySeq := 8 })] } }, 1000000000000, 3, 0x400481, leBytes 2 5 ++ leBytes 1 8 ++ leBytes 21 0, 7, by decide, by decide⟩,
    ⟨pr base [(P.addrState, 0, 2), (P.timeState, 0, 2), (P.sbState, 0, 2)], 1000000000000, by decide, by decide⟩,
    ⟨pr base [(P.timeState, 0, 2)], 1000000000000, by decide, by decide⟩,
    ⟨pr base [(P.timeState, 0, 3)], 100000000000000, by decide, by decide⟩,
    ⟨pr base [(P.tmRank, 0, 8), (P.addrState, 0, 2)], 1000000000000, by decide, by decide⟩,
    ⟨{ pr base [(P.tmRank, 0, 1), (P.addrState, 0, 2), (P.timeState, 0, 2)] with swarm := { worse := 16, refs := [{ rank := 2, hops := 0, source := 9, master := 9, port := 0, at_ := 1000000000000 }] } }, 1000000000000, { rank := 2, hops := 0, source := 9, master := 9, port := 0, at_ := 1000000000000 }, by decide, by decide⟩,
    ⟨pr base [(P.timeState, 0, 4)], 1000000000000, by decide⟩,
    ⟨base, 1000000000000, by decide⟩,
    ⟨pr { base with swarm := {  } } [(P.timeState, 0, 1)], 100000000000000, by decide, by decide⟩⟩

theorem witness_CombAndRelay :
    (∃ s0 : State, ∃ τ : Nat, ∃ p : Nat, let s := s0.due τ; p < 4 ∧ s.combState p = 1 ∧ (s.sb p).win = none) ∧
    (∃ s0 : State, ∃ τ : Nat, ∃ p : Nat, let s := s0.due τ; p < 4 ∧ s.combState p ≠ 1) ∧
    (∃ s0 : State, ∃ τ : Nat, ∃ p : Nat, let s := s0.due τ; p < 4 ∧ s.combState p = 4 ∧ (s.sb p).enabledAt + s.parN P.holdoverMax * 1000000 ≤ τ) ∧
    (∃ s0 : State, ∃ τ : Nat, ∃ p : Nat, ∃ t0, let s := s0.due τ; p < 4 ∧ (s.sb p).betterAt = some t0 ∧ (s.sb p).stopped = true ∧ t0 + s.cyclesNs 3 ≤ τ) :=
  ⟨⟨{ pr base [(P.sbState, 3, 2), (P.combEn, 0, 8), (P.timeState, 0, 2)] with swarm := { ports := [(3, {  })] } }, 1000000000000, 3, by decide, by decide⟩,
    ⟨base, 1000000000000, 3, by decide, by decide⟩,
    ⟨{ pr base [(P.sbState, 3, 2), (P.combEn, 0, 8)] with swarm := { ports := [(3, { enabledAt := 7 })] } }, 100000000000000, 3, by decide, by decide⟩,
    ⟨{ pr base [(P.sbState, 3, 2), (P.combEn, 0, 8)] with swarm := { ports := [(3, { betterAt := some 7, stopped := true })] } }, 1000000000000, 3, 7, by decide, by decide⟩⟩

theorem witness_ForagerControl :
    (∃ s0 : State, ∃ τ : Nat, ∃ c : Nat, ∃ w1 : Nat, ∃ w2 : Nat, ∃ ded : List Nat, let s := s0.due τ; s.FgAt c ded w1 w2 ∧ w1 / 0x10000000 = 0 ∧ fbits w1 27 0 = 0) ∧
    (∃ s0 : State, ∃ τ : Nat, ∃ c : Nat, ∃ w1 : Nat, ∃ w2 : Nat, ∃ ded : List Nat, let s := s0.due τ; s.FgAt c ded w1 w2 ∧ w1 / 0x10000000 = 0 ∧ fbits w1 27 0 ≠ 0) ∧
    (∃ s0 : State, ∃ τ : Nat, ∃ c : Nat, ∃ w1 : Nat, ∃ w2 : Nat, ∃ ded : List Nat, let s := s0.due τ; s.FgAt c ded w1 w2 ∧ w1 / 0x10000000 = 2 ∧ fbits w1 23 10 = 0 ∧ 1 ≤ fbits w1 9 0 ∧ 4 * fbits w1 9 0 ≤ (s.parN P.fgPc c) ∧ fbits w1 24 24 = 1) ∧
    (∃ s0 : State, ∃ τ : Nat, ∃ c : Nat, ∃ w1 : Nat, ∃ w2 : Nat, ∃ ded : List Nat, let s := s0.due τ; s.FgAt c ded w1 w2 ∧ w1 / 0x10000000 = 2 ∧ fbits w1 23 10 = 0 ∧ 1 ≤ fbits w1 9 0 ∧ 4 * fbits w1 9 0 ≤ (s.parN P.fgPc c) ∧ fbits w1 24 24 = 0 ∧ s.parN P.fgX c (fbits w1 27 25) = 1) ∧
    (∃ s0 : State, ∃ τ : Nat, ∃ c : Nat, ∃ w1 : Nat, ∃ w2 : Nat, ∃ ded : List Nat, let s := s0.due τ; s.FgAt c ded w1 w2 ∧ w1 / 0x10000000 = 2 ∧ fbits w1 23 10 = 0 ∧ 1 ≤ fbits w1 9 0 ∧ 4 * fbits w1 9 0 ≤ (s.parN P.fgPc c) ∧ fbits w1 24 24 = 0 ∧ s.parN P.fgX c (fbits w1 27 25) = 0) ∧
    (∃ s0 : State, ∃ τ : Nat, ∃ c : Nat, ∃ w1 : Nat, ∃ w2 : Nat, ∃ ded : List Nat, let s := s0.due τ; s.FgAt c ded w1 w2 ∧ w1 / 0x10000000 = 3 ∧ fbits w1 27 22 = 0 ∧ fbits w1 7 6 = 0 ∧ fbits w1 5 0 < 37 ∧ (s.fg c).latches / 2 ^ fbits w1 5 0 % 2 = 1) ∧
    (∃ s0 : State, ∃ τ : Nat, ∃ c : Nat, ∃ w1 : Nat, ∃ w2 : Nat, ∃ ded : List Nat, let s := s0.due τ; s.FgAt c ded w1 w2 ∧ w1 / 0x10000000 = 3 ∧ fbits w1 27 22 = 0 ∧ fbits w1 7 6 = 0 ∧ fbits w1 5 0 < 37 ∧ (s.fg c).latches / 2 ^ fbits w1 5 0 % 2 = 0) ∧
    (∃ s0 : State, ∃ τ : Nat, ∃ c : Nat, ∃ w1 : Nat, ∃ w2 : Nat, ∃ ded : List Nat, let s := s0.due τ; s.FgAt c ded w1 w2 ∧ w1 / 0x10000000 = 4 ∧ fbits w1 27 6 = 0 ∧ 48 ≤ fbits w1 5 0) ∧
    (∃ s0 : State, ∃ τ : Nat, ∃ c : Nat, ∃ w1 : Nat, ∃ w2 : Nat, ∃ ded : List Nat, let s := s0.due τ; s.FgAt c ded w1 w2 ∧ w1 / 0x10000000 = 5 ∧ fbits w1 18 0 = 0 ∧ fbits w1 24 22 = 3) ∧
    (∃ s0 : State, ∃ τ : Nat, ∃ c : Nat, ∃ w1 : Nat, ∃ w2 : Nat, ∃ ded : List Nat, let s := s0.due τ; s.FgAt c ded w1 w2 ∧ w1 / 0x10000000 = 5 ∧ fbits w1 18 0 = 0 ∧ fbits w1 21 19 = 0 ∧ fbits w1 24 22 = 0) ∧
    (∃ s0 : State, ∃ τ : Nat, ∃ c : Nat, ∃ w1 : Nat, ∃ w2 : Nat, ∃ ded : List Nat, let s := s0.due τ; s.FgAt c ded w1 w2 ∧ w1 / 0x10000000 = 5 ∧ fbits w1 18 0 = 0 ∧ fbits w1 21 19 = 0 ∧ fbits w1 24 22 = 1) ∧
    (∃ s0 : State, ∃ τ : Nat, ∃ c : Nat, ∃ w1 : Nat, ∃ w2 : Nat, ∃ ded : List Nat, let s := s0.due τ; s.FgAt c ded w1 w2 ∧ w1 / 0x10000000 = 5 ∧ fbits w1 18 0 = 0 ∧ fbits w1 21 19 = 0 ∧ fbits w1 24 22 = 2 ∧ mayReach 3 w2 4 false = true ∧ s.badWord ded w2 4 = none ∧ ((∀ i, i < 4 → regionOf (w2 + i) = .working))) ∧
    (∃ s0 : State, ∃ τ : Nat, ∃ c : Nat, ∃ w1 : Nat, ∃ w2 : Nat, ∃ ded : List Nat, let s := s0.due τ; s.FgAt c ded w1 w2 ∧ w1 / 0x10000000 = 5 ∧ fbits w1 18 0 = 0 ∧ fbits w1 21 19 = 0 ∧ fbits w1 24 22 = 2 ∧ mayReach 3 w2 4 false = false) ∧
    (∃ s0 : State, ∃ τ : Nat, ∃ c : Nat, ∃ w1 : Nat, ∃ w2 : Nat, ∃ ded : List Nat, let s := s0.due τ; s.FgAt c ded w1 w2 ∧ w1 / 0x10000000 = 5 ∧ fbits w1 18 0 = 0 ∧ fbits w1 21 19 = 0 ∧ fbits w1 24 22 = 4) ∧
    (∃ s0 : State, ∃ τ : Nat, ∃ c : Nat, ∃ w1 : Nat, ∃ w2 : Nat, ∃ ded : List Nat, ∃ a, let s := s0.due τ; s.FgAt c ded w1 w2 ∧ w1 / 0x10000000 = 5 ∧ fbits w1 18 0 = 0 ∧ fbits w1 21 19 = 0 ∧ fbits w1 24 22 = 5 ∧ s.planeAt.find? (fun e => decide (e.1 = w2 % 4)) = some (w2 % 4, a)) :=
  ⟨⟨fgs 0x00000000 0x00000000 [] {}, 1000000000000, 15, 0x00000000, 0x00000000, [], fgAt_of (by decide +kernel), by decide, by decide⟩,
    ⟨fgs 0x00000001 0x00000000 [] {}, 1000000000000, 15, 0x00000001, 0x00000000, [], fgAt_of (by decide +kernel), by decide, by decide⟩,
    ⟨((fgs 0 0 []).setPar P.fgPc 4 15).lwrite (programBase 15 + 4) (leBytes 4 0x2F000001), 1000000000000, 15, 0x2F000001, 0, [], fgAt_of (by decide +kernel), by decide, by decide⟩,
    ⟨((fgs 0 0 [(7, 1)]).setPar P.fgPc 4 15).lwrite (programBase 15 + 4) (leBytes 4 0x2E000001), 1000000000000, 15, 0x2E000001, 0, [], fgAt_of (by decide +kernel), by decide, by decide⟩,
    ⟨((fgs 0 0 []).setPar P.fgPc 4 15).lwrite (programBase 15 + 4) (leBytes 4 0x2E000001), 1000000000000, 15, 0x2E000001, 0, [], fgAt_of (by decide +kernel), by decide, by decide⟩,
    ⟨fgs 0x30000024 0x00000000 [] { latches := 0x1000000000 }, 1000000000000, 15, 0x30000024, 0x00000000, [], fgAt_of (by decide +kernel), by decide, by decide⟩,
    ⟨fgs 0x30000024 0x00000000 [] {}, 1000000000000, 15, 0x30000024, 0x00000000, [], fgAt_of (by decide +kernel), by decide, by decide⟩,
    ⟨fgs 0x4000003F 0x00000000 [] {}, 1000000000000, 15, 0x4000003F, 0x00000000, [], fgAt_of (by decide +kernel), by decide, by decide⟩,
    ⟨fgs 0x5EC00000 0x00000000 [] {}, 1000000000000, 15, 0x5EC00000, 0x00000000, [], fgAt_of (by decide +kernel), by decide, by decide⟩,
    ⟨fgs 0x5E000000 0xFFFFFFFF [] {}, 1000000000000, 15, 0x5E000000, 0xFFFFFFFF, [], fgAt_of (by decide +kernel), by decide, by decide⟩,
    ⟨fgs 0x5E400000 0x00000001 [(7, 4294967295)] {}, 1000000000000, 15, 0x5E400000, 0x00000001, [], fgAt_of (by decide +kernel), by decide, by decide⟩,
    ⟨fgs 0x5E800000 0x207BFFFC [] {}, 1000000000000, 15, 0x5E800000, 0x207BFFFC, [], fgAt_of (by decide +kernel), by decide, by decide⟩,
    ⟨fgs 0x5E800000 0x20800000 [] {}, 1000000000000, 15, 0x5E800000, 0x20800000, [], fgAt_of (by decide +kernel), by decide, by decide⟩,
    ⟨fgs 0x5F000000 0x00000005 [] {}, 1000000000000, 15, 0x5F000000, 0x00000005, [], fgAt_of (by decide +kernel), by decide, by decide⟩,
    ⟨{ fgs 0x5F400000 0x00000003 [] {} with planeAt := [(3, 7)] }, 1000000000000, 15, 0x5F400000, 0x00000003, [], 7, fgAt_of (by decide +kernel), by decide, by decide⟩⟩

theorem witness_ForagerTransfers :
    (∃ s0 : State, ∃ τ : Nat, ∃ c : Nat, ∃ w1 : Nat, ∃ w2 : Nat, ∃ ded : List Nat, let s := s0.due τ; s.FgAt c ded w1 w2 ∧ w1 / 0x10000000 = 1 ∧ ((mvLen w1) < 4 ∨ (mvLen w1) % 4 ≠ 0)) ∧
    (∃ s0 : State, ∃ τ : Nat, ∃ c : Nat, ∃ w1 : Nat, ∃ w2 : Nat, ∃ ded : List Nat, let s := s0.due τ; s.FgAt c ded w1 w2 ∧ w1 / 0x10000000 = 1 ∧ fbits w1 19 13 = 0 ∧ 4 ≤ (mvLen w1) ∧ (mvLen w1) ≤ 4096 ∧ (mvLen w1) % 4 = 0 ∧ (s.parN P.fgX c (mvXs w1)) % 4 ≠ 0) ∧
    (∃ s0 : State, ∃ τ : Nat, ∃ c : Nat, ∃ w1 : Nat, ∃ w2 : Nat, ∃ ded : List Nat, let s := s0.due τ; s.FgAt c ded w1 w2 ∧ w1 / 0x10000000 = 1 ∧ fbits w1 19 13 = 0 ∧ 4 ≤ (mvLen w1) ∧ (mvLen w1) ≤ 4096 ∧ (mvLen w1) % 4 = 0 ∧ (s.parN P.fgX c (mvXs w1)) % 4 = 0 ∧ (s.parN P.fgX c (mvXd w1)) % 4 = 0 ∧ mayReach 3 (s.parN P.fgX c (mvXs w1)) (min 256 (mvLen w1)) false = true ∧ s.badWord ded (s.parN P.fgX c (mvXs w1)) (min 256 (mvLen w1)) = none ∧ mayReach 3 (s.parN P.fgX c (mvXd w1)) (min 256 (mvLen w1)) true = true) ∧
    (∃ s0 : State, ∃ τ : Nat, ∃ c : Nat, ∃ w1 : Nat, ∃ w2 : Nat, ∃ ded : List Nat, let s := s0.due τ; s.FgAt c ded w1 w2 ∧ w1 / 0x10000000 = 6 ∧ (fbits w1 11 0) = 0) ∧
    (∃ s0 : State, ∃ τ : Nat, ∃ c : Nat, ∃ w1 : Nat, ∃ w2 : Nat, ∃ ded : List Nat, let s := s0.due τ; s.FgAt c ded w1 w2 ∧ w1 / 0x10000000 = 6 ∧ fbits w1 17 12 = 0 ∧ 1 ≤ (fbits w1 11 0) ∧ (s.parN P.fgX c (mvXs w1)) % min (shSize w1) 4 ≠ 0) ∧
    (∃ s0 : State, ∃ τ : Nat, ∃ c : Nat, ∃ w1 : Nat, ∃ w2 : Nat, ∃ ded : List Nat, let s := s0.due τ; s.FgAt c ded w1 w2 ∧ w1 / 0x10000000 = 6 ∧ fbits w1 17 12 = 0 ∧ 1 ≤ (fbits w1 11 0) ∧ (s.parN P.fgX c (mvXs w1)) % min (shSize w1) 4 = 0 ∧ (s.parN P.fgX c (mvXd w1)) % min (shSize w1) 4 = 0 ∧ fbits w2 31 16 % min (shSize w1) 4 = 0 ∧ fbits w2 15 0 % min (shSize w1) 4 = 0 ∧ ((∀ i, i < min (256 / (shSize w1)) (fbits w1 11 0) → mayReach 3 (((s.parN P.fgX c (mvXs w1)) + i * fbits w2 31 16) % 4294967296) (shSize w1) false = true ∧ s.badWord ded (((s.parN P.fgX c (mvXs w1)) + i * fbits w2 31 16) % 4294967296) (shSize w1) = none ∧ mayReach 3 (((s.parN P.fgX c (mvXd w1)) + i * fbits w2 15 0) % 4294967296) (shSize w1) true = true))) ∧
    (∃ s0 : State, ∃ τ : Nat, ∃ c : Nat, ∃ w1 : Nat, ∃ w2 : Nat, ∃ ded : List Nat, let s := s0.due τ; s.FgAt c ded w1 w2 ∧ w1 / 0x10000000 = 7 ∧ fbits w1 18 13 = 0 ∧ (mvLen w1) ≤ 4096 ∧ (mvLen w1) % 4 = 0 ∧ s.dev.st = .idle) ∧
    (∃ s0 : State, ∃ τ : Nat, ∃ c : Nat, ∃ w1 : Nat, ∃ w2 : Nat, ∃ ded : List Nat, let s := s0.due τ; s.FgAt c ded w1 w2 ∧ w1 / 0x10000000 = 7 ∧ fbits w1 18 13 = 0 ∧ (mvLen w1) ≤ 4096 ∧ (mvLen w1) % 4 = 0 ∧ s.dev.st = .test ∧ 4 ≤ (mvLen w1) ∧ fbits w1 20 19 = 0 ∧ fbits w1 21 21 = 1 ∧ mayReach 3 (s.parN P.fgX c (mvXs w1)) (min 256 (mvLen w1)) false = true ∧ s.badWord ded (s.parN P.fgX c (mvXs w1)) (min 256 (mvLen w1)) = none ∧ ((∀ i, i < (min 256 (mvLen w1)) → regionOf ((s.parN P.fgX c (mvXs w1)) + i) = .working))) :=
  ⟨⟨fgs 0x1DC00002 0x00000000 [] {}, 1000000000000, 15, 0x1DC00002, 0x00000000, [], fgAt_of (by decide +kernel), by decide, by decide⟩,
    ⟨fgs 0x1DC01000 0x00000000 [(6, 0x200C0001), (7, 0x200C1000)] {}, 1000000000000, 15, 0x1DC01000, 0x00000000, [], fgAt_of (by decide +kernel), by decide, by decide⟩,
    ⟨fgs 0x1DC01000 0x00000000 [(6, 0x200C0000), (7, 0x200C1000)] {}, 1000000000000, 15, 0x1DC01000, 0x00000000, [], fgAt_of (by decide +kernel), by decide +kernel, by decide +kernel⟩,
    ⟨fgs 0x6DC00000 0x00000000 [] {}, 1000000000000, 15, 0x6DC00000, 0x00000000, [], fgAt_of (by decide +kernel), by decide, by decide⟩,
    ⟨fgs 0x6DD00FFF 0x00000000 [(6, 0x200C0001), (7, 0x200C1000)] {}, 1000000000000, 15, 0x6DD00FFF, 0x00000000, [], fgAt_of (by decide +kernel), by decide, by decide⟩,
    ⟨fgs 0x6DD00FFF 0x00040004 [(6, 0x200C0000), (7, 0x200D0000)] {}, 1000000000000, 15, 0x6DD00FFF, 0x00040004, [], fgAt_of (by decide +kernel), by decide, by decide⟩,
    ⟨fgs 0x7C000004 0x00000000 [] {}, 1000000000000, 15, 0x7C000004, 0x00000000, [], fgAt_of (by decide +kernel), by decide, by decide⟩,
    ⟨{ fgs 0x7C200004 0x00000000 [(6, 0x200C0000), (7, 0x00000000)] {} with dev := { base.dev with st := .test } }, 1000000000000, 15, 0x7C200004, 0x00000000, [], fgAt_of (by decide +kernel), by decide, by decide⟩⟩

theorem witness_ForagerEvents :
    (∃ s0 : State, ∃ τ : Nat, ∃ c : Nat, ∃ k, let s := s0.due τ; 4 ≤ c ∧ c < 16 ∧ k < 37 ∧ s.parN P.fgState c = 1) ∧
    (∃ c : Nat, ∃ k, 4 ≤ c ∧ c < 16 ∧ 37 ≤ k ∧ k ≤ 47) ∧
    (∃ s0 : State, ∃ τ : Nat, ∃ c : Nat, ∃ u, let s := s0.due τ; 4 ≤ c ∧ c < 16 ∧ s.parN P.fgState c = 2 ∧ (s.fg c).timeoutAt = some u ∧ u ≤ τ) ∧
    (∃ s0 : State, ∃ τ : Nat, ∃ c : Nat, ∃ b, ∃ b', ∃ rest, let s := s0.due τ; 4 ≤ c ∧ c < 16 ∧ (s.fg c).outstanding = b :: b' :: rest ∧ s.LarderWf ∧ larderBase ≤ b.addr ∧ regionOf b.addr = .working) ∧
    (∃ s0 : State, ∃ τ : Nat, ∃ c : Nat, ∃ b, ∃ b', ∃ rest, let s := s0.due τ; 4 ≤ c ∧ c < 16 ∧ (s.fg c).outstanding = b :: b' :: rest ∧ (s.fg c).stopping = false ∧ (s.fg c).failing = false ∧ b.tries < s.parN P.fgRetry c) ∧
    (∃ s0 : State, ∃ τ : Nat, ∃ c : Nat, ∃ b, ∃ b', ∃ rest, let s := s0.due τ; 4 ≤ c ∧ c < 16 ∧ (s.fg c).outstanding = b :: b' :: rest ∧ (s.fg c).stopping = false ∧ (s.fg c).failing = false ∧ s.parN P.fgRetry c ≤ b.tries) ∧
    (∃ s0 : State, ∃ τ : Nat, ∃ c : Nat, let s := s0.due τ; 4 ≤ c ∧ c < 16 ∧ (s.fg c).stopping = true ∧ (s.fg c).outstanding = []) ∧
    (∃ s0 : State, ∃ τ : Nat, ∃ c : Nat, let s := s0.due τ; 4 ≤ c ∧ c < 16 ∧ s.par P.fgDisable c = 0 ∧ s.parN P.fgState c = 1) ∧
    (∃ s0 : State, ∃ τ : Nat, ∃ c : Nat, let s := s0.due τ; 4 ≤ c ∧ c < 16 ∧ s.parN P.fgState c = 3 ∧ (s.fg c).stopping = false ∧ (s.fg c).resume = 1 ∧ (s.fg c).run = none) ∧
    (∃ s0 : State, ∃ τ : Nat, ∃ c : Nat, ∃ k, let s := s0.due τ; 4 ≤ c ∧ c < 16 ∧ k < 8 ∧ s.parN P.pubPeriod k ≠ 0 ∧ s.parN P.pubN k ≠ 0 ∧ s.firmware = true ∧ pubDue k (s.clock τ) = true ∧ s.LarderWf ∧ 0 ≤ s.par P.pubSeq k ∧ s.par P.pubSeq k < 4294967295) :=
  ⟨⟨{ pr base [(P.fgState, 15, 1)] with forager := [(15, {  })] }, 1000000000000, 15, 36, by decide, by decide⟩,
    ⟨15, 47, by decide, by decide⟩,
    ⟨{ pr base [(P.fgState, 15, 2)] with forager := [(15, { timeoutAt := some 7 })] }, 7, 15, 7, by decide, by decide⟩,
    ⟨{ pr base [(P.fgState, 15, 1)] with forager := [(15, { outstanding := [⟨0x207BFFFF, [1], 0⟩, ⟨0x200C0000, [1], 0⟩] })] }, 1000000000000, 15, ⟨0x207BFFFF, [1], 0⟩, ⟨0x200C0000, [1], 0⟩, [], by decide, by decide, by decide, by unfold State.LarderWf; decide, by decide, by decide⟩,
    ⟨{ pr base [(P.fgRetry, 15, 1)] with forager := [(15, { outstanding := [⟨0x207BFFFF, [1], 0⟩, ⟨0x200C0000, [1], 0⟩] })] }, 1000000000000, 15, ⟨0x207BFFFF, [1], 0⟩, ⟨0x200C0000, [1], 0⟩, [], by decide, by decide⟩,
    ⟨{ pr base [(P.fgRetry, 15, 1)] with forager := [(15, { outstanding := [⟨0x207BFFFF, [1], 1⟩, ⟨0x200C0000, [1], 0⟩] })] }, 1000000000000, 15, ⟨0x207BFFFF, [1], 1⟩, ⟨0x200C0000, [1], 0⟩, [], by decide, by decide⟩,
    ⟨{ pr base [(P.fgState, 15, 1)] with forager := [(15, { stopping := true })] }, 1000000000000, 15, by decide, by decide⟩,
    ⟨{ pr base [(P.fgState, 15, 1)] with forager := [(15, {  })] }, 1000000000000, 15, by decide, by decide⟩,
    ⟨{ pr base [(P.fgState, 15, 3)] with forager := [(15, { resume := 1 })] }, 1000000000000, 15, by decide, by decide⟩,
    ⟨pr base [(P.pubPeriod, 7, 1), (P.pubN, 7, 1)], 1000000000000, 15, 7, by decide, by decide, by decide, by decide, by decide, by decide, by decide, by unfold State.LarderWf; decide, by decide, by decide⟩⟩

theorem witness_LarderAndPantry :
    (∃ s0 : State, ∃ τ : Nat, ∃ m, ∃ a, ∃ bs : Bytes, let s := s0.due τ; s.dev.st ≠ .off ∧ s.LarderWf ∧ 1 ≤ bs.length ∧ mayReach m a bs.length true = true ∧ (s.clock τ).mayNow m a bs.length true = true ∧ regionOf a = .working) ∧
    (∃ m, ∃ a, ∃ n, ∃ wr, ∃ bs : Bytes, mayReach m a (if wr then bs.length else n) wr = false) ∧
    (∃ s0 : State, ∃ τ : Nat, ∃ m, ∃ a, ∃ n, let s := s0.due τ; s.dev.st ≠ .off ∧ 1 ≤ n ∧ mayReach m a n false = true ∧ (s.clock τ).mayNow m a n false = true ∧ s.badWord [] a n = none ∧ ((∀ i, i < n → regionOf (a + i) = .working))) ∧
    (∃ s0 : State, ∃ τ : Nat, ∃ w, ∃ bad : List Nat, let s := s0.due τ; s.dev.st ≠ .off ∧ inLarder w = true ∧ 2 ≤ bad.length ∧ regionOf (wordOf w) = .working) ∧
    (∃ bad : List Nat, bad.length < 2) ∧
    (∃ s0 : State, ∃ τ : Nat, ∃ c, let s := s0.due τ; (s.clock τ).panDue c = true ∧ (s.panChan c).block.length < 15) ∧
    (∃ s0 : State, ∃ τ : Nat, ∃ c, let s := s0.due τ; (s.clock τ).panDue c = false) ∧
    (∃ s0 : State, ∃ τ : Nat, ∃ j, ∃ e, let s := s0.due τ; s.faultRing.find? (fun e => decide (e.1 = j)) = some (j, e) ∧ e.dirty = true ∧ s.firmware = true) :=
  ⟨⟨base, 1000000000000, 0, 0x207BFFFF, [1], by decide, by unfold State.LarderWf; decide, by decide, by decide⟩,
    ⟨4, 0x20800000, 1, false, [], by decide⟩,
    ⟨base, 1000000000000, 0, 0x207BFFFC, 4, by decide, by decide⟩,
    ⟨base, 1000000000000, 0x207BFFFF, [0, 71], by decide, by decide⟩,
    ⟨[0], by decide⟩,
    ⟨pr { base with pantry := { chans := [(15, { src := 0x10000006, pace := 0x80000000 })] } } [(P.panState, 0, 1)], 0, 15, by decide, by decide⟩,
    ⟨base, 1000000000000, 15, by decide⟩,
    ⟨{ base with faultRing := [(15, { dirty := true })] }, 1000000000000, 15, { dirty := true }, by decide, by decide⟩⟩

theorem witness_Supply :
    (∃ s0 : State, ∃ τ : Nat, let s := s0.due τ; s.dev.st ≠ .off ∧ (s.clock τ).supplyDue = true) ∧
    (∃ s0 : State, ∃ τ : Nat, ∃ x, let s := s0.due τ; x < 2 ∧ s.feedsRun = true) ∧
    (∃ s0 : State, ∃ τ : Nat, ∃ x, ∃ vin : Int, let s := s0.due τ; x < 2 ∧ s.feedsRun = true ∧ 0 ≤ vin) ∧
    (∃ vin : Int, vin < 0) :=
  ⟨⟨base, 1000000000000, by decide, by decide⟩,
    ⟨base, 1000000000000, 1, by decide, by decide⟩,
    ⟨base, 1000000000000, 1, 0, by decide, by decide⟩,
    ⟨-1, by decide⟩⟩

theorem witness_PorchTransactions :
    (∃ s0 : State, ∃ τ : Nat, ∃ space, ∃ wr, ∃ a, ∃ hchk, let s := s0.due τ; s.answers = true ∧ hchk ≠ hchkOf (space % 4) wr (a % 256)) ∧
    (∃ s0 : State, ∃ τ : Nat, let s := s0.due τ; s.answers = true) ∧
    (∃ s0 : State, ∃ τ : Nat, let s := s0.due τ; s.answers = true ∧ s.porch.unlocked = false) ∧
    (∃ s0 : State, ∃ τ : Nat, let s := s0.due τ; s.answers = true ∧ s.porch.unlocked = true ∧ mayReach 8 s.porch.memAddr 4 false = true ∧ s.badWord [] s.porch.memAddr 4 = none) ∧
    (∃ s0 : State, ∃ τ : Nat, let s := s0.due τ; s.answers = true ∧ s.porch.unlocked = true ∧ mayReach 8 s.porch.memAddr 4 false = true ∧ s.badWord [] s.porch.memAddr 4 = none ∧ s.porch.halt ≠ .full) ∧
    (∃ s0 : State, ∃ τ : Nat, ∃ v, let s := s0.due τ; s.answers = true ∧ s.porch.unlocked = true ∧ mayReach 8 s.porch.memAddr 4 false = true ∧ s.badWord [] s.porch.memAddr 4 = none ∧ v < 2 ^ 32 ∧ s.porch.halt = .full ∧ s.LarderWf ∧ mayReach 8 s.porch.memAddr 4 true = true ∧ regionOf s.porch.memAddr = .working) ∧
    (∃ s0 : State, ∃ τ : Nat, ∃ v, let s := s0.due τ; s.answers = true ∧ v < 2 ^ 32 ∧ s.porch.unlocked = true ∧ s.porch.regSel < 34 ∧ s.porch.halt = .full) ∧
    (∃ s0 : State, ∃ τ : Nat, ∃ v, let s := s0.due τ; s.answers = true ∧ v < 2 ^ 32 ∧ s.porch.unlocked = true ∧ s.porch.regSel < 34 ∧ s.porch.halt ≠ .full) ∧
    (∃ s0 : State, ∃ τ : Nat, ∃ n, let s := s0.due τ; s.answers = true ∧ 12 ≤ n ∧ n ≤ 1044 ∧ entrySize n ≤ s.freeBytes 15) ∧
    (∃ s0 : State, ∃ τ : Nat, ∃ n, let s := s0.due τ; s.answers = true ∧ (n < 12 ∨ 1044 < n) ∧ n < 2 ^ 32) ∧
    (∃ s0 : State, ∃ τ : Nat, ∃ v, let s := s0.due τ; s.answers = true ∧ v < 2 ^ 32 ∧ s.porch.txBuf.length + 4 < s.porch.txLen) ∧
    (∃ s0 : State, ∃ τ : Nat, ∃ v, let s := s0.due τ; s.answers = true ∧ v < 2 ^ 32 ∧ 0 < s.porch.txLen ∧ s.porch.txLen ≤ s.porch.txBuf.length + 4 ∧ s.dev.housesStopped = false ∧ entrySize s.porch.txLen ≤ s.freeBytes 15) ∧
    (∃ s0 : State, ∃ τ : Nat, ∃ e, ∃ rest, let s := s0.due τ; s.answers = true ∧ s.queue 19 = e :: rest ∧ s.porch.rxPos + 4 < e.data.length) ∧
    (∃ s0 : State, ∃ τ : Nat, ∃ e, ∃ rest, let s := s0.due τ; s.answers = true ∧ s.queue 19 = e :: rest ∧ e.data.length ≤ s.porch.rxPos + 4 ∧ s.waiting = []) ∧
    (∃ s0 : State, ∃ τ : Nat, let s := s0.due τ; s.answers = true) ∧
    (∃ s0 : State, ∃ τ : Nat, ∃ v, ∃ k, let s := s0.due τ; s.answers = true ∧ v < 2 ^ 32 ∧ 5 ≤ k ∧ k < 8 ∧ v / 2 ^ k % 2 = 1) :=
  ⟨⟨base, 1000000000000, 3, true, 255, hchkOf (3 % 4) true (255 % 256) + 1, by decide, by decide⟩,
    ⟨base, 1000000000000, by decide⟩,
    ⟨base, 1000000000000, by decide, by decide⟩,
    ⟨{ base with porch := { unlocked := true, memAddr := 0x207FFFFC } }, 1000000000000, by decide, by decide⟩,
    ⟨{ base with porch := { unlocked := true, memAddr := 0x207FFFFC } }, 1000000000000, by decide, by decide⟩,
    ⟨{ base with porch := { unlocked := true, halt := .full, memAddr := 0x207BFFFC } }, 1000000000000, 4294967295, by decide, by decide, by decide, by decide, by decide, by decide, by unfold State.LarderWf; decide, by decide, by decide⟩,
    ⟨{ base with porch := { unlocked := true, halt := .full, regSel := 33 } }, 1000000000000, 4294967295, by decide, by decide⟩,
    ⟨{ base with porch := { unlocked := true, regSel := 33 } }, 1000000000000, 4294967295, by decide, by decide⟩,
    ⟨base, 1000000000000, 1044, by decide, by decide⟩,
    ⟨base, 1000000000000, 1045, by decide, by decide⟩,
    ⟨{ base with porch := { txLen := 12, txBuf := [1, 2, 3, 4] } }, 1000000000000, 4294967295, by decide, by decide⟩,
    ⟨{ base with porch := { txLen := 12, txBuf := [1, 2, 3, 4, 5, 6, 7, 8] } }, 1000000000000, 4294967295, by decide, by decide⟩,
    ⟨base.setQueue 19 [{ data := [1, 2, 3, 4, 5] }], 1000000000000, { data := [1, 2, 3, 4, 5] }, [], by decide, by decide⟩,
    ⟨base.setQueue 19 [{ data := [1, 2, 3, 4] }], 1000000000000, { data := [1, 2, 3, 4] }, [], by decide, by decide⟩,
    ⟨base, 1000000000000, by decide⟩,
    ⟨base, 1000000000000, 128, 7, by decide, by decide⟩⟩

theorem witness_PorchLockAndHalts :
    (∃ s0 : State, ∃ τ : Nat, let s := s0.due τ; s.answers = true ∧ s.lockActs = true ∧ s.porch.blockedTill = none) ∧
    (∃ s0 : State, ∃ τ : Nat, let s := s0.due τ; s.answers = true ∧ s.lockActs = true ∧ s.porch.current = true ∧ s.porch.verifying = false) ∧
    (∃ s0 : State, ∃ τ : Nat, let s := s0.due τ; s.answers = true ∧ s.porch.verifying = true ∧ s.porch.keyOk = true ∧ s.par P.porchUnlocks < 4294967295) ∧
    (∃ s0 : State, ∃ τ : Nat, let s := s0.due τ; s.answers = true ∧ s.porch.verifying = true) ∧
    (∃ s0 : State, ∃ τ : Nat, ∃ u, let s := s0.due τ; s.answers = true ∧ s.porch.blockedTill = some u ∧ u ≤ τ) ∧
    (∃ s0 : State, ∃ τ : Nat, let s := s0.due τ; s.answers = true ∧ s.lockActs = true ∧ s.porch.halt = .none) ∧
    (∃ s0 : State, ∃ τ : Nat, let s := s0.due τ; s.answers = true ∧ s.porch.unlocked = true ∧ s.haltAllowed = true) ∧
    (∃ s0 : State, ∃ τ : Nat, let s := s0.due τ; s.answers = true ∧ s.porch.unlocked = true ∧ s.haltAllowed = false) ∧
    (∃ s0 : State, ∃ τ : Nat, let s := s0.due τ; s.answers = true ∧ s.porch.unlocked = true ∧ s.firmware = true ∧ s.porch.halt = .none ∧ s.standbyOk = true) ∧
    (∃ s0 : State, ∃ τ : Nat, let s := s0.due τ; s.answers = true ∧ s.porch.unlocked = true ∧ s.porch.halt = .live) ∧
    (∃ s0 : State, ∃ τ : Nat, let s := s0.due τ; s.answers = true ∧ s.porch.unlocked = true ∧ s.porch.halt = .full ∧ s.porch.later = []) ∧
    (∃ s0 : State, ∃ τ : Nat, let s := s0.due τ; s.answers = true ∧ s.porch.unlocked = true ∧ s.porch.halt = .full) ∧
    (∃ s0 : State, ∃ τ : Nat, let s := s0.due τ; s.answers = true ∧ s.porch.unlocked = true ∧ s.porch.halt ≠ .full) ∧
    (∃ s0 : State, ∃ τ : Nat, let s := s0.due τ; s.answers = true ∧ s.porch.unlocked = false) ∧
    (∃ s0 : State, ∃ τ : Nat, let s := s0.due τ; s.answers = true ∧ s.porch.resync = true ∧ (s.pair s.active).live = true) ∧
    (∃ s0 : State, ∃ τ : Nat, ∃ k, let s := s0.due τ; s.answers = true ∧ k < 8 ∧ tget s.porch.bps 0 k % 2 = 1 ∧ s.porch.unlocked = true ∧ s.haltAllowed = true) ∧
    (∃ s0 : State, ∃ τ : Nat, ∃ k, ∃ a, let s := s0.due τ; s.answers = true ∧ k < 4 ∧ s.porch.unlocked = true ∧ s.serving = true ∧ s.haltAllowed = false ∧ tget s.porch.wpCtrl 0 k % 2 = 1 ∧ 2 ≤ tget s.porch.wpCtrl 0 k / 16 ∧ tget s.porch.wpCtrl 0 k / 16 ≤ 12 ∧ a / 2 ^ (tget s.porch.wpCtrl 0 k / 16) = tget s.porch.wpAddr 0 k / 2 ^ (tget s.porch.wpCtrl 0 k / 16) ∧ inLarder a = true ∧ s.porch.stat / 32 % 2 = 0) :=
  ⟨⟨{ base with params := [(P.orderVariant.pn 0 0, 0)], attic := { mirror := [(9, 5)] }, porch := {  } }, 1000000000000, by decide, by decide⟩,
    ⟨{ base with params := [(P.orderVariant.pn 0 0, 0)], attic := { mirror := [(9, 5)] }, porch := { current := true } }, 1000000000000, by decide, by decide⟩,
    ⟨{ base with porch := { verifying := true, keyOk := true } }, 1000000000000, by decide, by decide⟩,
    ⟨{ base with porch := { verifying := true } }, 1000000000000, by decide, by decide⟩,
    ⟨{ base with porch := { blockedTill := some 7 } }, 7, 7, by decide, by decide⟩,
    ⟨{ base with params := [(P.orderVariant.pn 0 0, 0)], attic := { mirror := [(9, 5)] }, porch := {  } }, 1000000000000, by decide, by decide⟩,
    ⟨{ base with porch := { unlocked := true } }, 1000000000000, by decide, by decide⟩,
    ⟨{ ax base 3 { st := .running } with porch := { unlocked := true } }, 1000000000000, by decide, by decide⟩,
    ⟨{ base with porch := { unlocked := true } }, 1000000000000, by decide, by decide⟩,
    ⟨{ base with porch := { unlocked := true, halt := .live } }, 1000000000000, by decide, by decide⟩,
    ⟨{ base with porch := { unlocked := true, halt := .full } }, 1000000000000, by decide, by decide⟩,
    ⟨{ base with porch := { unlocked := true, halt := .full } }, 1000000000000, by decide, by decide⟩,
    ⟨{ base with porch := { unlocked := true } }, 1000000000000, by decide, by decide⟩,
    ⟨base, 1000000000000, by decide, by decide⟩,
    ⟨{ base with porch := { resync := true } }, 1000000000000, by decide, by decide⟩,
    ⟨{ base with porch := { unlocked := true, bps := [(7, 1)] } }, 1000000000000, 7, by decide, by decide⟩,
    ⟨{ ax base 3 { st := .running } with porch := { unlocked := true, wpAddr := [(3, 0x207BFFFC)], wpCtrl := [(3, 0xC1)] } }, 1000000000000, 3, 0x207BF000, by decide, by decide⟩⟩

theorem witness_BoundaryScan :
    (∃ s0 : State, ∃ x : Scan, let s := s0.due x.at_; s.dev.supplyOk = true) ∧
    (∃ s0 : State, ∃ x : Scan, let s := s0.due x.at_; s.dev.supplyOk = true ∧ s.dev.st ≠ .off) ∧
    (∃ s0 : State, ∃ x : Scan, let s := s0.due x.at_; s.dev.supplyOk = false) ∧
    (∃ s0 : State, ∃ τ : Nat, let s := s0.due τ; s.dev.scanReset = false) ∧
    (∃ s0 : State, ∃ τ : Nat, let s := s0.due τ; s.dev.scanReset = true ∧ s.dev.supplyOk = true) :=
  ⟨⟨base, { at_ := 5 }, by decide⟩,
    ⟨base, { at_ := 5 }, by decide, by decide⟩,
    ⟨State.reset, { at_ := 5 }, by decide⟩,
    ⟨base, 1000000000000, by decide⟩,
    ⟨{ base with dev := { base.dev with scanReset := true } }, 1000000000000, by decide, by decide⟩⟩

theorem witness_StoresFrame :
    (∃ c : Instr, ∃ s0 : State, ∃ t : State, exec c s0 = .next t) :=
  ⟨.samplePreload { at_ := 5 }, base, _, rfl⟩

theorem witness_InputsFrame :
    (∃ c : Instr, ∃ s0 : State, ∃ t : State, exec c s0 = .next t) :=
  ⟨.samplePreload { at_ := 5 }, base, _, rfl⟩

theorem witness_LarderFrame :
    (∃ c : Instr, ∃ s0 : State, ∃ t : State, exec c s0 = .next t) :=
  ⟨.samplePreload { at_ := 5 }, base, _, rfl⟩

theorem witness_FaultClearEndsRecovery :
    (∃ s0 : State, ∃ τ : Nat, ∃ tp : Transport, ∃ n : Nat, ∃ p : Pkt, let s := s0.due τ; (s.clock τ).Accepts tp cmdFaultClearDevice n p ∧ s.dev.st = .recovery ∧ ((s.pair 0).live = true ∧ (s.pair 1).live = true ∧ (s.pair s.standby).synced = true)) ∧
    (∃ s0 : State, ∃ τ : Nat, ∃ tp : Transport, ∃ n : Nat, ∃ p : Pkt, let s := s0.due τ; (s.clock τ).Accepts tp cmdFaultClearDevice n p ∧ s.dev.st = .recovery ∧ (¬ ((s.pair 0).live = true ∧ (s.pair 1).live = true ∧ (s.pair s.standby).synced = true))) :=
  ⟨⟨{ cmd (base) 0x26 ([255]) with dev := { base.dev with st := .recovery } }, 1000000000000, .spi, 1, pk 0x26 ([255]), accepts_of (by decide +kernel), by decide, by decide⟩,
    ⟨{ cmd (base) 0x26 ([255]) with dev := { base.dev with st := .recovery, pairB := {} } }, 1000000000000, .spi, 1, pk 0x26 ([255]), accepts_of (by decide +kernel), by decide, by decide⟩⟩

theorem witness_OneHandoverOffer :
    (∃ s0 : State, ∃ τ : Nat, ∃ tp : Transport, ∃ n : Nat, ∃ p : Pkt, ∃ o : Offer, let s := s0.due τ; (s.clock τ).Accepts tp cmdHandover n p ∧ s.owner.offer = some o) :=
  ⟨{ cmd (base) 0x06 (leBytes 2 2 ++ leBytes 2 0) with owner := { session := 1, offer := some { target := 2, at_ := 7, sess := 1, seq := 0 } } }, 1000000000000, .spi, 1, pk 0x06 (leBytes 2 2 ++ leBytes 2 0), { target := 2, at_ := 7, sess := 1, seq := 0 }, accepts_of (by decide +kernel), by decide⟩

theorem witness_TakeoverKeepsStates :
    (∃ s0 : State, ∃ τ : Nat, ∃ n : Nat, ∃ k : Nat, let s := s0.due τ; n < 4 ∧ s.axisOfLane n = some k ∧ s.par P.laneRole 4 = 2 ∧ s.laneActive n = true) ∧
    (∃ s0 : State, ∃ τ : Nat, ∃ n : Nat, ∃ k : Nat, let s := s0.due τ; n < 4 ∧ s.axisOfLane n = some k ∧ s.par P.laneRole 4 = 2 ∧ s.seAxis n = some k ∧ s.now ≤ τ ∧ (s.lane n).first = false ∧ (s.lane n).dispatched = false ∧ (s.lane n).filled = false ∧ 1 ≤ (s.lane n).overruns ∧ (s.lane n).before τ 500 = true) :=
  ⟨⟨pr (lane wired 3 { running := true }) [(P.laneRole, 4, 2)], 1000000000000, 3, 3, by decide, by decide⟩,
    ⟨pr (lane wired 3 { running := true, first := false, nextX := 32000000, overruns := 1 }) [(P.laneRole, 4, 2)], 999500, 3, 3, by decide, by decide⟩⟩

theorem witness_ForagerStopDrains :
    (∃ s0 : State, ∃ τ : Nat, ∃ c : Nat, ∃ tp, ∃ n, ∃ p, let s := s0.due τ; (s.clock τ).Accepts tp cmdForagerStop n p ∧ 4 ≤ c ∧ c < 16 ∧ field p.payload 0 2 / 2 ^ c % 2 = 1 ∧ 1 ≤ s.parN P.fgState c ∧ s.parN P.fgState c ≤ 3) ∧
    (∃ s0 : State, ∃ τ : Nat, ∃ c : Nat, ∃ b, ∃ rest, let s := s0.due τ; 4 ≤ c ∧ c < 16 ∧ (s.fg c).stopping = true ∧ (s.fg c).outstanding = b :: rest ∧ s.par P.fgRetried c < 4294967295) ∧
    (∃ s0 : State, ∃ τ : Nat, ∃ c : Nat, ∃ b, ∃ rest, let s := s0.due τ; 4 ≤ c ∧ c < 16 ∧ (s.fg c).stopping = true ∧ (s.fg c).outstanding = b :: rest) ∧
    (∃ s0 : State, ∃ τ : Nat, ∃ c : Nat, let s := s0.due τ; 4 ≤ c ∧ c < 16 ∧ (s.fg c).stopping = true ∧ (s.fg c).outstanding = []) :=
  ⟨⟨cmd (base.setPar P.fgState 3 15) 0x42 (leBytes 2 0x8000), 1000000000000, 15, .spi, 1, pk 0x42 (leBytes 2 0x8000), accepts_of (by decide +kernel), by decide, by decide⟩,
    ⟨{ pr base [(P.fgState, 15, 1)] with forager := [(15, { stopping := true, outstanding := [⟨0x207BFFFF, [1], 0⟩] })] }, 1000000000000, 15, ⟨0x207BFFFF, [1], 0⟩, [], by decide, by decide⟩,
    ⟨{ pr base [(P.fgState, 15, 1)] with forager := [(15, { stopping := true, outstanding := [⟨0x207BFFFF, [1], 0⟩] })] }, 1000000000000, 15, ⟨0x207BFFFF, [1], 0⟩, [], by decide, by decide⟩,
    ⟨{ pr base [(P.fgState, 15, 1)] with forager := [(15, { stopping := true })] }, 1000000000000, 15, by decide, by decide⟩⟩

end Sys2Proof.Tests
end

section
/-!
SUPPORT. How an accepted command packet is served (Table 11.3): taking and sending packets leave the session table and the other
parameters alone, the row's effect runs on a state that differs from the present one in named parts only, and a status answers it.
-/
namespace Sys2Proof.Machine

/-! ### Sending leaves the session table alone -/

@[simp] theorem State.incPar_sessions (s : State) (p : Par) (i j n : Nat) : (s.incPar p i j n).sessions = s.sessions := by
  unfold State.incPar
  dsimp only
  split <;> rfl

@[simp] theorem State.push_sessions (s : State) (q : Nat) (data : Bytes) (dest port : Nat) : (s.push q data dest port).sessions = s.sessions := by
  unfold State.push
  split
  · rfl
  · exact State.incPar_sessions ..

@[simp] theorem State.txPut_sessions (s : State) (p id : Nat) (data : Bytes) (own : Bool) (xfer : Option Nat) (last : Bool) (copyOf : Option (Nat × Nat)) :
    (s.txPut p id data own xfer last copyOf).sessions = s.sessions := by
  unfold State.txPut
  dsimp only
  split <;> exact State.push_sessions ..

/-- What each step of a fold keeps, the fold keeps. -/
theorem foldl_keeps {α β : Type} (g : State → β) (f : State → α → State) (h : ∀ s a, g (f s a) = g s) (l : List α) (s : State) :
    g (l.foldl f s) = g s :=
  List.foldlRecOn (motive := fun x : State => g x = g s) l f rfl fun x hx a _ => (h x a).trans hx

@[simp] theorem State.feedOne_sessions (s : State) (e : Entry) : (s.feedOne e).sessions = s.sessions := by
  unfold State.feedOne
  split
  · rfl
  · split
    · rfl
    · split
      · rfl
      · dsimp only
        split
        · exact foldl_keeps State.sessions _ (fun _ _ => State.txPut_sessions ..) _ _
        · rfl

@[simp] theorem State.swarmFeed_sessions (s : State) : s.swarmFeed.sessions = s.sessions :=
  foldl_keeps State.sessions _ (fun s e => s.feedOne_sessions e) _ _

@[simp] theorem State.send_sessions (s : State) (x : Session) (p : Bytes) : (s.send x p).sessions = s.sessions := by
  unfold State.send
  split
  · exact foldl_keeps State.sessions _ (fun _ _ => State.push_sessions ..) _ _
  · simp
  · simp

@[simp] theorem State.sendMark_sessions (s : State) (x : Session) (p : Bytes) (boot : Bool) : (s.sendMark x p boot).sessions = s.sessions := by
  unfold State.sendMark
  dsimp only
  split <;> exact State.send_sessions ..

@[simp] theorem State.sendOrWait_sessions (s : State) (n : Nat) (p : Bytes) (boot run : Bool) : (s.sendOrWait n p boot run).sessions = s.sessions := by
  unfold State.sendOrWait
  dsimp only
  split
  · exact State.sendMark_sessions ..
  · rfl

theorem State.sess_congr {a b : State} (h : a.sessions = b.sessions) (n : Nat) : a.sess n = b.sess n := by
  unfold State.sess
  rw [h]

/-! ### Notifications keep what commands are answered by -/

/-- The sequence number that a session's next command carries and the key of its packets (R454, R455). -/
def Session.seqAndKey (x : Session) : Nat × Option Bytes := (x.nextSeq, x.tagKey)

theorem State.setSess_seqAndKey (s : State) (m : Nat) (x : Session) (h : x.seqAndKey = (s.sess m).seqAndKey) (n : Nat) :
    ((s.setSess m x).sess n).seqAndKey = (s.sess n).seqAndKey := by
  by_cases e : m = n
  · subst e
    rw [State.sess_setSess_same, h]
  · rw [State.sess_setSess_other _ _ _ _ e]

theorem State.notifyTo_seqAndKey (s : State) (m cls subj ev : Nat) (data : Bytes) (n : Nat) :
    ((s.notifyTo m cls subj ev data).sess n).seqAndKey = (s.sess n).seqAndKey := by
  unfold State.notifyTo
  dsimp only
  split
  · rw [State.sess_congr (State.send_sessions ..)]
    refine State.setSess_seqAndKey _ _ _ ?_ _
    rfl
  · rw [State.sess_congr (State.incPar_sessions ..)]
    refine State.setSess_seqAndKey _ _ _ ?_ _
    rfl

theorem State.notify_seqAndKey (s : State) (cls pos subj : Nat) (data : Bytes) (n : Nat) :
    ((s.notify cls pos subj data).sess n).seqAndKey = (s.sess n).seqAndKey := by
  refine foldl_keeps (fun x => (x.sess n).seqAndKey) _ (fun x m => ?_) _ s
  split
  · exact State.notifyTo_seqAndKey ..
  · rfl

theorem State.recordClear_sessions (s : State) (code subj : Nat) (path : String) : (s.recordClear code subj path).sessions = s.sessions := by
  unfold State.recordClear
  split <;> rfl

/-! ### What the end of a fault and a change of the device state leave -/

theorem State.unstand_seqAndKey (s : State) (f : Standing) (n : Nat) : ((s.unstand f).sess n).seqAndKey = (s.sess n).seqAndKey := by
  unfold State.unstand
  rw [State.notify_seqAndKey, State.sess_congr (State.recordClear_sessions ..)]
  rfl

theorem State.unstandCode_seqAndKey (s : State) (code inst n : Nat) : ((s.unstandCode code inst).sess n).seqAndKey = (s.sess n).seqAndKey :=
  foldl_keeps (fun x => (x.sess n).seqAndKey) _ (fun x f => x.unstand_seqAndKey f n) _ s

theorem State.moveDev_seqAndKey (s : State) (st : DevState) (n : Nat) : ((s.moveDev st).sess n).seqAndKey = (s.sess n).seqAndKey :=
  State.notify_seqAndKey ..

theorem axes_of_quiet {a b : State} (h : a.quiet = b.quiet) : a.axes = b.axes := (congrArg State.axes h :)
theorem devState_of_quiet {a b : State} (h : a.quiet = b.quiet) : a.dev.st = b.dev.st := (congrArg (fun s : State => s.dev.st) h :)
theorem pair_of_quiet {a b : State} (h : a.quiet = b.quiet) (k : Nat) : a.pair k = b.pair k := (congrArg (fun s : State => s.pair k) h :)

theorem State.unstand_quiet (s : State) (f : Standing) :
    (s.unstand f).quiet = ({ s with standing := s.standing.filter fun g => decide (g ≠ f) } : State).quiet := by
  unfold State.unstand
  simp

theorem State.unstandCode_axes (s : State) (code inst : Nat) : (s.unstandCode code inst).axes = s.axes :=
  foldl_keeps State.axes _ (fun x f => (axes_of_quiet (x.unstand_quiet f) :)) _ s

theorem State.moveDev_quiet (s : State) (st : DevState) : (s.moveDev st).quiet = ({ s with dev := { s.dev with st := st } } : State).quiet :=
  State.notify_quiet ..

@[simp] theorem State.moveDev_axes (s : State) (st : DevState) : (s.moveDev st).axes = s.axes := (axes_of_quiet (s.moveDev_quiet st) :)
@[simp] theorem State.moveDev_devState (s : State) (st : DevState) : (s.moveDev st).dev.st = st := (devState_of_quiet (s.moveDev_quiet st) :)

/-! ### Taking the oldest packet of a transport -/

/-- A counter's step leaves the other parameters alone. -/
theorem State.incPar_par_other (s : State) (p q : Par) (i j n k l : Nat) (h : p.pn i j ≠ q.pn k l) :
    (s.incPar p i j n).par q k l = s.par q k l := by
  unfold State.incPar
  dsimp only
  split <;> exact State.par_setPar_other _ _ _ _ _ _ _ _ h

/-- A view of the state that shows nothing of what taking a packet changes: queues, turn, transfers and their counter (R468, R476). -/
structure TakeBlind {β : Type} (g : State → β) : Prop where
  queues : ∀ (s : State) (x : Tab (List Entry)), g { s with queues := x } = g s
  turn : ∀ (s : State) (x : Nat), g { s with servedLast := x } = g s
  transfers : ∀ (s : State) (x : Swarm), g { s with swarm := x } = g s
  drops : ∀ s : State, g (s.incPar P.reasmDrops) = g s

theorem takeBlind_sessions : TakeBlind State.sessions := ⟨fun _ _ => rfl, fun _ _ => rfl, fun _ _ => rfl, fun _ => State.incPar_sessions ..⟩

/-- Every parameter but REASM_DROPS is such a view. -/
theorem takeBlind_par {q : Par} {k l : Nat} (h : P.reasmDrops.pn 0 0 ≠ q.pn k l) : TakeBlind fun s => s.par q k l :=
  ⟨fun _ _ => rfl, fun _ _ => rfl, fun _ _ => rfl, fun s => s.incPar_par_other _ _ _ _ _ _ _ h⟩

theorem TakeBlind.segment {β : Type} {g : State → β} (hg : TakeBlind g) (s : State) (ring : Bool) (p src tag seg now : Nat) (bs : Bytes) :
    g (s.segment ring p src tag seg now bs).1 = g s := by
  unfold State.segment
  dsimp only
  repeat' split
  all_goals simp only [hg.transfers, hg.drops]

theorem TakeBlind.pop {β : Type} {g : State → β} (hg : TakeBlind g) (s : State) (q : Nat) : g (s.pop q) = g s := hg.queues ..

theorem TakeBlind.ringPull {β : Type} {g : State → β} (hg : TakeBlind g) (s : State) (n : Nat) : g (s.ringPull n).2 = g s := by
  induction n generalizing s with
  | zero => rfl
  | succ n ih =>
    unfold State.ringPull
    split
    · rfl
    · dsimp only
      split
      · rw [hg.segment, hg.pop]
      · rw [ih, hg.segment, hg.pop]

theorem TakeBlind.served {β : Type} {g : State → β} (hg : TakeBlind g) (s : State) (tp : Transport) : g (s.served tp) = g s := by
  unfold State.served
  split
  · rfl
  · exact hg.turn ..

theorem TakeBlind.front {β : Type} {g : State → β} (hg : TakeBlind g) (s : State) (tp : Transport) : g (s.front tp).2 = g s := by
  rw [← hg.served s tp]
  unfold State.front
  dsimp only
  split
  · exact hg.ringPull ..
  · split
    · rfl
    · exact hg.pop ..

/-! ### An accepted packet (Table 11.3, steps 5 to 10) -/

/-- The state that the row's effect acts on: the packet has passed step 5 and has used up its sequence number. -/
def State.begun (s : State) (c : Cmd) (o : Origin) (p : Pkt) : State :=
  let s' := s.touch p.sess o
  s'.setSess p.sess { s'.sess p.sess with
    nextSeq := ((s.sess p.sess).nextSeq + 1) % 65536
    block := if p.op = 0x13 ∧ c.len p ∧ s'.owner.session = p.sess ∧ c.states.contains s'.dev.st then (s.sess p.sess).block else none }

/-- What an answer of a row leaves: its state with the reply sent and retained, and what follows the reply. -/
def Ans.sent (a : Ans) (p : Pkt) : State := a.after (if a.payloads = [] then a.st else a.st.replyRun p.sess p.op p.seq a.payloads a.boot)

theorem State.serveSession_of_sequence {s : State} {p : Pkt} (c : Cmd) (o : Origin) (htag : (s.sess p.sess).tagOk p = true)
    (hseq : p.seq = (s.sess p.sess).nextSeq) : s.serveSession c o p = ((s.begun c o p).execute c p.sess p).sent p := by
  refine (if_neg (not_not.mpr htag)).trans ?_
  exact if_neg (not_not.mpr hseq)

theorem State.touch_sessions (s : State) (n : Nat) (o : Origin) : (s.touch n o).sessions =
    (s.setSess n { s.sess n with idleAt := s.houseNow, liveAt := some s.houseNow, proven := true, port := o.port }).sessions := by
  unfold State.touch
  dsimp only
  split <;> rfl

theorem State.touch_tagKey (s : State) (n : Nat) (o : Origin) : ((s.touch n o).sess n).tagKey = (s.sess n).tagKey := by
  rw [State.sess_congr (s.touch_sessions n o), State.sess_setSess_same]
  rfl

/-- Of the owner, step 5 moves the heartbeat alone. -/
theorem State.touch_owner (s : State) (n : Nat) (o : Origin) : (s.touch n o).owner.session = s.owner.session := by
  unfold State.touch
  dsimp only
  split <;> rfl

theorem State.touch_params (s : State) (n : Nat) (o : Origin) : (s.touch n o).params = s.params := by
  unfold State.touch
  dsimp only
  split <;> rfl

theorem State.touch_quiet (s : State) (n : Nat) (o : Origin) : ({ s.touch n o with owner := s.owner } : State).quiet = s.quiet := by
  unfold State.touch
  dsimp only
  split <;> rfl

/-- A state x that s and its accepted packet p of session n leave to the row's effect: the sequence number is used up, and of the rest
only the owner's heartbeat and the parts that `State.quiet` leaves out can have moved, no parameter but REASM_DROPS among them. -/
structure State.Readies (s : State) (n : Nat) (p : Pkt) (x : State) : Prop where
  nextSeq : (x.sess n).nextSeq = (p.seq + 1) % 65536
  tagKey : (x.sess n).tagKey = (s.sess n).tagKey
  owner : x.owner.session = s.owner.session
  rest : ({ x with owner := s.owner } : State).quiet = s.quiet
  params : ∀ (q : Par) (k l : Nat), P.reasmDrops.pn 0 0 ≠ q.pn k l → x.par q k l = s.par q k l

theorem State.Readies.axes_eq {s x : State} {n : Nat} {p : Pkt} (h : s.Readies n p x) : x.axes = s.axes := (axes_of_quiet h.rest :)
theorem State.Readies.devState_eq {s x : State} {n : Nat} {p : Pkt} (h : s.Readies n p x) : x.dev.st = s.dev.st := (devState_of_quiet h.rest :)
theorem State.Readies.pair_eq {s x : State} {n : Nat} {p : Pkt} (h : s.Readies n p x) (k : Nat) : x.pair k = s.pair k := (pair_of_quiet h.rest k :)
theorem State.Readies.active_eq {s x : State} {n : Nat} {p : Pkt} (h : s.Readies n p x) : x.active = s.active :=
  congrArg Int.toNat (h.params P.activePair 0 0 (by decide))

theorem State.begun_readies {s : State} {p : Pkt} (c : Cmd) (o : Origin) (hseq : p.seq = (s.sess p.sess).nextSeq) :
    s.Readies p.sess p (s.begun c o p) where
  nextSeq := by
    rw [hseq]
    exact congrArg Session.nextSeq (State.sess_setSess_same ..)
  tagKey := (congrArg Session.tagKey (State.sess_setSess_same ..)).trans (s.touch_tagKey p.sess o)
  owner := s.touch_owner p.sess o
  rest := s.touch_quiet p.sess o
  params q k l _ := congrArg (fun t => tget t (q.dflt.value k l) (q.pn k l)) (s.touch_params p.sess o)

/-- What stands ready once the packet is taken stands ready of the state it was taken in. -/
theorem State.Readies.of_front {s x : State} {tp : Transport} {n : Nat} {p : Pkt} (h : (s.front tp).2.Readies n p x) : s.Readies n p x where
  nextSeq := h.nextSeq
  tagKey := h.tagKey.trans (congrArg Session.tagKey (State.sess_congr (takeBlind_sessions.front s tp) n))
  owner := h.owner.trans (congrArg (fun y : State => y.owner.session) (s.front_quiet tp) :)
  rest := by
    have howner : (s.front tp).2.owner = s.owner := (congrArg State.owner (s.front_quiet tp) :)
    rw [← s.front_quiet tp, ← h.rest, howner]
  params q k l hq := (h.params q k l hq).trans ((takeBlind_par hq).front s tp)

/-- Steps 7 to 9 passed, the row's effect runs. -/
theorem State.execute_of_passes {s : State} {c : Cmd} {n : Nat} {p : Pkt} (hlen : c.len p = true) (howner : c.cls = .write → s.owner.session = n)
    (hstate : c.states.contains s.dev.st = true) : s.execute c n p = c.run s n p := by
  unfold State.execute
  rw [if_neg (not_not.mpr hlen), if_neg fun h => h.2 (howner h.1), if_neg (not_not.mpr hstate)]

/-- A packet that passes steps 1 to 4 is served in its session. -/
theorem State.serve_of_offers {s : State} {tp : Transport} {c : Cmd} {n : Nat} {p : Pkt} (h : s.Offers tp c n p) :
    ∃ o, s.serve tp c = (s.front tp).2.serveSession c o p := by
  obtain ⟨bs, o, hfront, rfl, hlen, hhead⟩ := h.front
  refine ⟨o, ?_⟩
  unfold State.serve
  rw [if_neg (not_not.mpr h.taken)]
  dsimp only
  rw [hfront]
  refine if_neg ?_
  simp [hhead, h.opcode, h.row, Nat.not_lt.mpr hlen]

/-- An accepted packet is answered by its row, run on a state ready for it. -/
theorem State.serve_of_accepts {s : State} {tp : Transport} {c : Cmd} {n : Nat} {p : Pkt} (h : s.Accepts tp c n p) :
    ∃ x, s.Readies n p x ∧ s.serve tp c = (c.run x n p).sent p := by
  obtain ⟨o, ho⟩ := State.serve_of_offers h.offers
  obtain ⟨rfl, -⟩ := h.offers.session
  have hsess : (s.front tp).2.sess p.sess = s.sess p.sess := State.sess_congr (takeBlind_sessions.front s tp) _
  have hseq : p.seq = ((s.front tp).2.sess p.sess).nextSeq := by rw [hsess, h.offers.sequence]
  have hready := (State.begun_readies c o hseq).of_front
  refine ⟨_, hready, ?_⟩
  rw [ho, State.serveSession_of_sequence c o (hsess ▸ h.offers.tag) hseq,
    State.execute_of_passes h.length (fun hw => hready.owner.trans (h.owner hw)) (hready.devState_eq ▸ h.state)]

/-! ### The reply -/

/-- A packet's sequence number has 16 bits. -/
theorem parsePkt_seq_lt (bs : Bytes) : (parsePkt bs).seq < 65536 :=
  Nat.lt_of_lt_of_le (leNat_lt _) (Nat.pow_le_pow_right (by decide) (List.length_take_le 2 _))

/-- A session after the reply to its command of a sequence number: the reply is retained before those it had, of the last four. -/
theorem State.replyRun_sess (s : State) (n op seq : Nat) (ps : List Bytes) (boot : Bool) :
    (s.replyRun n op seq ps boot).sess n = { s.sess n with
      retained := (⟨seq, replyPackets op n seq (s.sess n).tagKey ps, s.replyPtr.1⟩ :: (s.sess n).retained.filter fun r => decide (r.seq ≠ seq)).filter
        fun (r : Retained) => decide (1 ≤ ((s.sess n).nextSeq + 65536 - r.seq) % 65536) && decide (((s.sess n).nextSeq + 65536 - r.seq) % 65536 ≤ 4) } := by
  unfold State.replyRun
  dsimp only
  rw [State.sess_congr (foldl_keeps State.sessions _ (fun _ _ => State.sendOrWait_sessions ..) _ _), State.sess_setSess_same]

/-- The reply of a command whose sequence number is the last one used up answers it. -/
theorem State.replyRun_answers {s y : State} {n : Nat} {p : Pkt} (hseq : p.seq < 65536) (hnext : (y.sess n).nextSeq = (p.seq + 1) % 65536)
    (hkey : (y.sess n).tagKey = (s.sess n).tagKey) (ps : List Bytes) (boot : Bool) : s.Answers (y.replyRun n p.op p.seq ps boot) n p ps := by
  have hback : ((p.seq + 1) % 65536 + 65536 - p.seq) % 65536 = 1 := by omega
  unfold State.Answers
  rw [State.replyRun_sess]
  simp [hnext, hkey, hback]

/-- A row that answers a status and keeps the session's number and key answers the packet with it; what its effect did stays done. -/
theorem State.serve_ansStatus {s : State} {tp : Transport} {c : Cmd} {n : Nat} {p : Pkt} (h : s.Accepts tp c n p) :
    ∃ x, s.Readies n p x ∧ ∀ y status, c.run x n p = ansStatus y status → (y.sess n).seqAndKey = (x.sess n).seqAndKey →
      s.AnswersStatus (s.serve tp c) n p status ∧ (s.serve tp c).quiet = y.quiet := by
  obtain ⟨x, hx, hserve⟩ := State.serve_of_accepts h
  refine ⟨x, hx, fun y status hrun hkeep => ?_⟩
  obtain ⟨bs, -, -, hp, -⟩ := h.offers.front
  have hseq : p.seq < 65536 := hp ▸ parsePkt_seq_lt bs
  obtain ⟨hnext, hkey⟩ := Prod.mk.inj hkeep
  have hsent : s.serve tp c = y.replyRun n p.op p.seq [leBytes 1 status] := by
    rw [hserve, hrun, ← h.offers.session.1]
    rfl
  rw [hsent]
  exact ⟨State.replyRun_answers hseq (hnext.trans hx.nextSeq) (hkey.trans hx.tagKey) _ _, State.replyRun_quiet ..⟩

/-- What a session's command is answered with stays when its meaning ends. -/
theorem State.Answers.of_ends {s x t : State} {n : Nat} {p : Pkt} {ps : List Bytes} (h : s.Answers x n p ps) (ht : Ends x t) :
    s.Answers t n p ps := by
  unfold State.Answers
  rw [ht.sess_eq]
  exact h

end Sys2Proof.Machine
end

section
/-!
FAULT_CLEAR of the device (R65): when it ends RECOVERY, and what it leaves.
-/
namespace Sys2Proof.Machine

/-- The condition of R65: the active pair is live and the standby ready when both pairs are live and the standby pair is synchronised,
whichever pair is active. -/
theorem State.recoveryEnds_iff (s : State) : ((s.pair s.active).live = true ∧ s.standbyOk = true) ↔
    ((s.pair 0).live = true ∧ (s.pair 1).live = true ∧ (s.pair s.standby).synced = true) := by
  unfold State.standbyOk State.standby
  rw [Bool.and_eq_true]
  cases s.active with
  | zero => exact Iff.rfl
  | succ a =>
    have hstandby : 1 - (a + 1) = 0 := by omega
    have hactive : s.pair (a + 1) = s.pair 1 := rfl
    rw [hstandby, hactive]
    exact and_left_comm

/-- FAULT_CLEAR in RECOVERY under the condition of R65 answers DONE, and the device is IDLE. -/
theorem State.clearDevice_of_ready {s : State} (hst : s.dev.st = .recovery) (hready : (s.pair s.active).live = true ∧ s.standbyOk = true) :
    ∃ y, s.clearDevice = ansStatus y stDone ∧ y.dev.st = .idle ∧ y.axes = s.axes ∧ ∀ n, (y.sess n).seqAndKey = (s.sess n).seqAndKey := by
  refine ⟨((((s.unstandCode 0x0A03 0).unstandCode 0x0A03 1).setPar P.recoveryCause 0).moveDev .idle), ?_, ?_, ?_, fun n => ?_⟩
  · unfold State.clearDevice
    rw [if_neg (not_not.mpr hst), if_pos hready]
  · exact State.moveDev_devState ..
  · rw [State.moveDev_axes, State.setPar_axes, State.unstandCode_axes, State.unstandCode_axes]
  · rw [State.moveDev_seqAndKey, State.sess_setPar, State.unstandCode_seqAndKey, State.unstandCode_seqAndKey]

/-- In any other condition it answers FAULT_ACTIVE, and nothing happens. -/
theorem State.clearDevice_of_not_ready {s : State} (hst : s.dev.st = .recovery)
    (hready : ¬ ((s.pair s.active).live = true ∧ s.standbyOk = true)) : s.clearDevice = ansStatus s stFaultActive := by
  unfold State.clearDevice
  rw [if_neg (not_not.mpr hst), if_neg hready]

/-- The state that a packet readies fulfils the condition of R65 where the present one does. -/
theorem State.Readies.recoveryEnds_iff {s x : State} {n : Nat} {p : Pkt} (h : s.Readies n p x) :
    ((x.pair x.active).live = true ∧ x.standbyOk = true) ↔
      ((s.pair 0).live = true ∧ (s.pair 1).live = true ∧ (s.pair s.standby).synced = true) := by
  rw [State.recoveryEnds_iff]
  simp only [State.standby, h.active_eq, h.pair_eq]

/-- Settles O57: the accepted packet runs the effect of FAULT_CLEAR on a state with the same pairs, and R65's condition decides its answer. -/
theorem faultClearEndsRecovery : Obligations.FaultClearEndsRecovery := by
  unfold Obligations.FaultClearEndsRecovery
  intro s0 τ tp n p s hacc hst
  obtain ⟨x, hx, hserve⟩ := State.serve_ansStatus hacc
  have hrecovery : x.dev.st = .recovery := hx.devState_eq.trans hst
  have hdoes : ∀ y status, x.clearDevice = ansStatus y status → (y.sess n).seqAndKey = (x.sess n).seqAndKey → y.axes = x.axes →
      Does (.faultClearDevice τ tp) s0 fun t => s.AnswersStatus t n p status ∧ t.dev.st = y.dev.st ∧ t.axes = s.axes := by
    intro y status hrun hkeep haxes
    obtain ⟨hanswer, hquiet⟩ := hserve y status hrun hkeep
    exact Does.of_answer rfl fun t ht => ⟨hanswer.of_ends ht, (congrArg Dev.st ht.dev).trans (devState_of_quiet hquiet),
      ht.axes.trans ((axes_of_quiet hquiet).trans (haxes.trans hx.axes_eq))⟩
  refine ⟨fun hready => ?_, fun hready => ?_⟩
  · obtain ⟨y, hrun, hidle, haxes, hkeep⟩ := State.clearDevice_of_ready hrecovery (hx.recoveryEnds_iff.mpr hready)
    exact hidle ▸ hdoes y stDone hrun (hkeep n) haxes
  · have hrun := State.clearDevice_of_not_ready hrecovery fun h => hready (hx.recoveryEnds_iff.mp h)
    exact hrecovery ▸ hdoes x stFaultActive hrun rfl rfl

end Sys2Proof.Machine
end

section
/-!
SUPPORT. What a packet that the module sends can change (R36, R469, R484 to R486): the queues and the traffic of the transports, sessions,
waiting packets, operations in progress, and the two counters of packets that found no room.
-/
namespace Sys2Proof.Machine

/-- A view of the state that shows nothing of what sending a packet changes. -/
structure SendBlind {β : Type} (g : State → β) : Prop where
  queues : ∀ (s : State) (x : Tab (List Entry)) (tag : Nat), g { s with queues := x, nextTag := tag } = g s
  ring : ∀ (s : State) (x : Ring), g { s with ring := x } = g s
  swarm : ∀ (s : State) (x : Swarm), g { s with swarm := x } = g s
  sessions : ∀ (s : State) (x : Tab Session), g { s with sessions := x } = g s
  waiting : ∀ (s : State) (x : List Waiting), g { s with waiting := x } = g s
  ops : ∀ (s : State) (x : List Op), g { s with ops := x } = g s
  boot : ∀ (s : State) (x : Option PendingBoot), g { s with dev := { s.dev with pendingBoot := x } } = g s
  overflow : ∀ (s : State) (q : Nat), g (s.incPar P.qOverflow q) = g s
  drops : ∀ s : State, g (s.incPar P.notifDrops) = g s

/-- Every parameter but the two counters is such a view. -/
theorem sendBlind_par {q : Par} {k l : Nat} (hoverflow : ∀ i, P.qOverflow.pn i 0 ≠ q.pn k l) (hdrops : P.notifDrops.pn 0 0 ≠ q.pn k l) :
    SendBlind fun s => s.par q k l where
  queues _ _ _ := rfl
  ring _ _ := rfl
  swarm _ _ := rfl
  sessions _ _ := rfl
  waiting _ _ := rfl
  ops _ _ := rfl
  boot _ _ := rfl
  overflow s i := s.incPar_par_other _ _ _ _ _ _ _ (hoverflow i)
  drops s := s.incPar_par_other _ _ _ _ _ _ _ hdrops

section
variable {β : Type} {g : State → β} (hg : SendBlind g)
include hg

theorem SendBlind.push (s : State) (q : Nat) (data : Bytes) (dest port : Nat) : g (s.push q data dest port) = g s := by
  unfold State.push
  split
  · exact hg.queues s ..
  · exact hg.overflow ..

theorem SendBlind.txPut (s : State) (p id : Nat) (data : Bytes) (own : Bool) (xfer : Option Nat) (last : Bool) (copyOf : Option (Nat × Nat)) :
    g (s.txPut p id data own xfer last copyOf) = g s := by
  unfold State.txPut
  dsimp only
  split
  · exact (hg.swarm ..).trans (hg.push ..)
  · exact hg.push ..

theorem SendBlind.feedOne (s : State) (e : Entry) : g (s.feedOne e) = g s := by
  unfold State.feedOne
  split
  · rfl
  · split
    · rfl
    · split
      · exact hg.queues ..
      · dsimp only
        split
        · exact (foldl_keeps g _ (fun _ _ => hg.txPut ..) _ _).trans (hg.swarm ..)
        · rfl

theorem SendBlind.swarmFeed (s : State) : g s.swarmFeed = g s :=
  foldl_keeps g _ (fun x e => hg.feedOne x e) _ _

theorem SendBlind.send (s : State) (x : Session) (p : Bytes) : g (s.send x p) = g s := by
  unfold State.send
  split
  · exact (foldl_keeps g _ (fun _ _ => hg.push ..) _ _).trans (hg.ring ..)
  · exact (hg.swarmFeed _).trans (hg.push ..)
  · exact hg.push ..

theorem SendBlind.sendOrWait (s : State) (n : Nat) (p : Bytes) (boot run : Bool) : g (s.sendOrWait n p boot run) = g s := by
  unfold State.sendOrWait State.sendMark
  dsimp only
  split
  · split
    · exact (hg.boot ..).trans (hg.send ..)
    · exact hg.send ..
  · exact hg.waiting ..

theorem SendBlind.endOp (s : State) (opcode target status : Nat) (extra : Bytes) : g (s.endOp opcode target status extra) = g s := by
  unfold State.endOp State.complete
  split
  · rfl
  · dsimp only
    split
    · exact (hg.sendOrWait ..).trans (hg.ops ..)
    · exact hg.ops ..

theorem SendBlind.notifyTo (s : State) (n cls subj ev : Nat) (data : Bytes) : g (s.notifyTo n cls subj ev data) = g s := by
  unfold State.notifyTo
  dsimp only
  split
  · exact (hg.send ..).trans (hg.sessions ..)
  · exact (hg.drops _).trans (hg.sessions ..)

theorem SendBlind.notify (s : State) (cls pos subj : Nat) (data : Bytes) : g (s.notify cls pos subj data) = g s := by
  refine foldl_keeps g _ (fun x n => ?_) _ s
  split
  · exact hg.notifyTo ..
  · rfl

end

end Sys2Proof.Machine
end

section
/-!
A lane takeover (R143): the fault of an axis's lane while L4 is the spare has L4 replace the lane, and moves neither the device nor an axis.
-/
namespace Sys2Proof.Machine

/-! ### The device state and the axis states -/

/-- The device state and the state of each axis (Tables 2.1 and 2.11). -/
def State.states (s : State) : DevState × (Nat → AxState) := (s.dev.st, fun j => (s.ax j).st)

theorem states_of_quiet {a b : State} (h : a.quiet = b.quiet) : a.states = b.states := (congrArg State.states h :)

@[simp] theorem State.setPar_states (s : State) (p : Par) (v : Int) (i j : Nat) : (s.setPar p v i j).states = s.states := rfl
@[simp] theorem State.setBit_states (s : State) (p : Par) (m : Nat) (b : Bool) (i j : Nat) : (s.setBit p m b i j).states = s.states := rfl
@[simp] theorem State.setLane_states (s : State) (n : Nat) (l : Lane) : (s.setLane n l).states = s.states := rfl
@[simp] theorem State.draw_states (s : State) (w : Nat) : (s.draw w).2.states = s.states := rfl
@[simp] theorem State.incPar_states (s : State) (p : Par) (i j n : Nat) : (s.incPar p i j n).states = s.states :=
  states_of_quiet (s.incPar_quiet p i j n)
@[simp] theorem State.notify_states (s : State) (cls pos subj : Nat) (data : Bytes) : (s.notify cls pos subj data).states = s.states :=
  states_of_quiet (State.notify_quiet ..)

theorem State.modAx_states (s : State) (k : Nat) (f : Axis → Axis) (hf : ∀ a, (f a).st = a.st) : (s.modAx k f).states = s.states := by
  refine Prod.ext rfl (funext fun j => ?_)
  by_cases hkj : k = j
  · subst hkj
    exact (congrArg Axis.st (State.ax_modAx_same ..)).trans (hf _)
  · exact congrArg Axis.st (s.ax_setAx_other k j _ hkj)

theorem Ends.states_eq {x t : State} (h : Ends x t) : t.states = x.states := by
  simp only [State.states, State.ax, h.dev, h.axes]

/-! ### Whom a lane serves -/

/-- The axis of a lane depends on the axes, on their LANE and on SPARE_FOR alone (R87, Table 3.6). -/
theorem State.axisOfLane_congr {a b : State} (haxes : a.axes = b.axes) (hspare : a.par P.spareFor = b.par P.spareFor)
    (hlane : ∀ k, a.par P.lane k = b.par P.lane k) (n : Nat) : a.axisOfLane n = b.axisOfLane n := by
  have hswitching : a.switching = b.switching := funext fun k => by simp only [State.switching, State.ax, haxes]
  have hlaneOf : a.laneOf = b.laneOf := funext fun k => by
    unfold State.laneOf State.parN
    rw [hspare, hlane]
  unfold State.axisOfLane State.serving4
  rw [hswitching, hlaneOf]

/-- What a takeover goes by: lane n serves axis k, and L4 is the spare (Table 3.6). -/
structure State.SpareReady (s : State) (n k : Nat) : Prop where
  serves : s.axisOfLane n = some k
  spare : s.par P.laneRole 4 = 2

theorem State.SpareReady.congr {a b : State} {n k : Nat} (h : b.SpareReady n k) (haxes : a.axes = b.axes)
    (hspare : a.par P.spareFor = b.par P.spareFor) (hlane : ∀ j, a.par P.lane j = b.par P.lane j)
    (hrole : a.par P.laneRole 4 = b.par P.laneRole 4) : a.SpareReady n k :=
  ⟨(State.axisOfLane_congr haxes hspare hlane n).trans h.serves, hrole.trans h.spare⟩

theorem State.SpareReady.setLane {s : State} {n k : Nat} (h : s.SpareReady n k) (m : Nat) (l : Lane) : (s.setLane m l).SpareReady n k :=
  h.congr rfl rfl (fun _ => rfl) rfl

/-- A bit of another parameter written leaves it. -/
theorem State.SpareReady.setBit {s : State} {n k : Nat} (h : s.SpareReady n k) (q : Par) (m : Nat) (b : Bool) (i : Nat)
    (hspare : q.pn i 0 ≠ P.spareFor.pn 0 0) (hlane : ∀ j, q.pn i 0 ≠ P.lane.pn j 0) (hrole : q.pn i 0 ≠ P.laneRole.pn 4 0) :
    (s.setBit q m b i).SpareReady n k :=
  h.congr rfl (s.par_setPar_other _ _ _ _ _ _ _ hspare) (fun j => s.par_setPar_other _ _ _ _ _ _ _ (hlane j)) (s.par_setPar_other _ _ _ _ _ _ _ hrole)

/-- So does another counter's step. -/
theorem State.SpareReady.incPar {s : State} {n k : Nat} (h : s.SpareReady n k) (q : Par) (i : Nat)
    (hspare : q.pn i 0 ≠ P.spareFor.pn 0 0) (hlane : ∀ j, q.pn i 0 ≠ P.lane.pn j 0) (hrole : q.pn i 0 ≠ P.laneRole.pn 4 0) :
    (s.incPar q i).SpareReady n k :=
  h.congr (axes_of_quiet (s.incPar_quiet q i)) (s.incPar_par_other _ _ _ _ _ _ _ hspare) (fun j => s.incPar_par_other _ _ _ _ _ _ _ (hlane j))
    (s.incPar_par_other _ _ _ _ _ _ _ hrole)

/-! ### A lane fault of an axis whose lane is replaced -/

theorem State.swapsEnd_states (s : State) (n : Nat) : (s.swapsEnd n).states = s.states :=
  (foldl_keeps State.states _ (fun x _ => states_of_quiet (x.endOp_quiet ..)) _ _).trans rfl

theorem State.swapsEnd_axes (s : State) (n : Nat) : (s.swapsEnd n).axes = s.axes :=
  (foldl_keeps State.axes _ (fun x _ => axes_of_quiet (x.endOp_quiet ..)) _ _).trans rfl

theorem State.swapsEnd_par (s : State) (n : Nat) {q : Par} {i j : Nat} (hq : SendBlind fun s => s.par q i j) :
    (s.swapsEnd n).par q i j = s.par q i j :=
  (foldl_keeps (fun s => s.par q i j) _ (fun x _ => hq.endOp x ..) _ _).trans rfl

theorem sendBlind_spareFor : SendBlind fun s => s.par P.spareFor :=
  sendBlind_par (fun i => by simp only [Par.pn, P.qOverflow, P.spareFor]; omega) (by decide)

theorem sendBlind_laneRole : SendBlind fun s => s.par P.laneRole 4 :=
  sendBlind_par (fun i => by simp only [Par.pn, P.qOverflow, P.laneRole]; omega) (by decide)

theorem sendBlind_lane (k : Nat) : SendBlind fun s => s.par P.lane k :=
  sendBlind_par (fun i => by simp only [Par.pn, P.qOverflow, P.lane]; omega) (by simp only [Par.pn, P.notifDrops, P.lane]; omega)

theorem State.SpareReady.swapsEnd {s : State} {n k : Nat} (h : s.SpareReady n k) (m : Nat) : (s.swapsEnd m).SpareReady n k :=
  h.congr (s.swapsEnd_axes m) (s.swapsEnd_par m sendBlind_spareFor) (fun j => s.swapsEnd_par m (sendBlind_lane j))
    (s.swapsEnd_par m sendBlind_laneRole)

theorem State.stand_states (s : State) (f : Standing) : (s.stand f).states = s.states := by
  unfold State.stand
  dsimp only
  split <;> rfl

theorem State.enterRecord_states (s : State) (code k inst safe : Nat) (path : String) (pre : Bool) :
    (s.enterRecord code k inst safe path pre).states = s.states := by
  unfold State.enterRecord
  rw [State.stand_states, State.setPar_states]
  exact states_of_quiet (State.report_quiet ..)

/-- A fault whose row of Table 9.9 has no safe state and moves no axis is recorded, and changes no state. -/
theorem State.raiseOn_states {code : Nat} {hard : Bool} (hrow : faultRow code hard = (0, .unchanged)) (s : State) (k inst : Nat) (path : String) :
    (s.raiseOn code k inst path hard).states = s.states := by
  unfold State.raiseOn
  rw [hrow]
  refine (states_of_quiet (State.markLatched_quiet ..)).trans ?_
  exact State.enterRecord_states ..

/-- The codes of a lane fault that L4 makes good change no state (Table 9.9). -/
theorem State.raiseLane_states (s : State) (overrun : Bool) (k inst : Nat) (path : String) :
    (s.raiseLane overrun k inst path false).states = s.states := by
  unfold State.raiseLane
  rw [State.raiseOn_states (code := 0x0201) (hard := false) rfl]
  cases overrun with
  | false => rfl
  | true => exact State.raiseOn_states (code := 0x0202) (hard := false) rfl ..

/-- L4 goes on from the lane's state record, which holds no state of the axis (R139, Table 3.6). -/
theorem State.takeover_states (s : State) (n k : Nat) (again : Bool) : (s.takeover n k again).states = s.states := by
  unfold State.takeover
  dsimp only
  rw [State.notify_states, State.setBit_states, State.setPar_states, State.setPar_states, State.setPar_states, State.setPar_states,
    State.draw_states, State.modAx_states, State.setLane_states, State.setLane_states]
  exact fun _ => rfl

theorem State.takeover_spareFor (s : State) (n k : Nat) (again : Bool) : (s.takeover n k again).par P.spareFor = n := by
  unfold State.takeover
  refine (sendBlind_spareFor.notify ..).trans ?_
  refine (State.par_setPar_other _ _ _ _ _ _ _ _ ?_).trans ((State.par_setPar_other _ _ _ _ _ _ _ _ (by decide)).trans (State.par_setPar_same ..))
  simp only [Par.pn, P.coldFlags, P.spareFor]
  omega

/-- The fault of a lane that the spare replaces: the swaps of the lane end, its codes are recorded, and L4 takes it over (R137, R141). -/
theorem State.laneFault_of_spare {s : State} {n k : Nat} (h : s.SpareReady n k) (hn : n < 4) (overrun again : Bool) :
    ∃ x : State, x.states = s.states ∧ s.laneFault n overrun again = x.takeover n k again := by
  have hready := (h.swapsEnd n).setBit P.laneFaults (3 * n + if overrun then 1 else 0) true 0 (by decide)
    (fun j => by simp only [Par.pn, P.laneFaults, P.lane]; omega) (by decide)
  unfold State.laneFault
  rw [if_neg (by omega), hready.serves]
  dsimp only
  rw [if_pos hready.spare]
  exact ⟨_, (State.raiseLane_states ..).trans ((State.setBit_states ..).trans (s.swapsEnd_states n)), rfl⟩

/-- Whichever way the lane fails, L4 replaces it, and the device and the axes are in the states they were in. -/
theorem State.laneFault_takesOver {s : State} {n k : Nat} (h : s.SpareReady n k) (hn : n < 4) (overrun again : Bool) :
    (s.laneFault n overrun again).par P.spareFor = n ∧ (s.laneFault n overrun again).states = s.states := by
  obtain ⟨x, hstates, hfault⟩ := State.laneFault_of_spare h hn overrun again
  rw [hfault]
  exact ⟨x.takeover_spareFor n k again, (x.takeover_states n k again).trans hstates⟩

/-! ### The two ways a lane fails -/

theorem laneMismatch_of_active {s : State} {n : Nat} (hn : n < 4) (hactive : s.laneActive n = true) (again : Bool) :
    laneMismatch n again s = s.laneFault n false again :=
  if_pos ⟨by omega, .inl hactive⟩

/-- A lane that misses its deadline for the second time in a row fails by its overrun (R41, R42); the words, the counter and the status of
that period change no state, and nothing that a takeover goes by. -/
theorem shadowDeadline_of_overrun {s : State} {n k : Nat} (hserve : s.seAxis n = some k) (hfirst : (s.lane n).first = false)
    (hdispatched : (s.lane n).dispatched = false) (hfilled : (s.lane n).filled = false) (hruns : 1 ≤ (s.lane n).overruns)
    (hbefore : (s.lane n).before s.now 500 = true) (h : s.SpareReady n k) :
    ∃ x : State, x.SpareReady n k ∧ x.states = s.states ∧ shadowDeadline n s = x.laneFault n true false := by
  unfold shadowDeadline
  rw [hserve]
  dsimp only
  rw [if_neg (by simp [hfirst, hdispatched, hbefore]), if_neg (by simp [hfilled]), if_pos (by omega)]
  refine ⟨_, ?_, ?_, rfl⟩
  · refine (((h.setLane n _).incPar P.overrunCount k ?_ ?_ ?_).setBit P.ctrlStatus 6 true k ?_ ?_ ?_)
    all_goals simp only [Par.pn, P.overrunCount, P.ctrlStatus, P.spareFor, P.lane, P.laneRole]; omega
  · rw [State.setBit_states, State.incPar_states, State.setLane_states]

/-! ### R143 -/

/-- Settles O59: a lane of an axis that fails while L4 is the spare ends in the takeover, which holds no state of the axis or the device. -/
theorem takeoverKeepsStates : Obligations.TakeoverKeepsStates := by
  unfold Obligations.TakeoverKeepsStates
  intro s0 τ n k s hn hserves hspare kept
  have hready : (s.clock τ).SpareReady n k := ⟨hserves, hspare⟩
  have hdoes : ∀ (c : Instr) (x : State) (overrun again : Bool), x.SpareReady n k → x.states = s.states →
      exec c s0 = answer s0 (x.laneFault n overrun again) → Does c s0 fun t => t.parN P.spareFor = n ∧ kept t := by
    intro c x overrun again hx hstates hexec
    obtain ⟨hreplaces, hfault⟩ := State.laneFault_takesOver hx hn overrun again
    refine Does.of_answer hexec fun t ht => ?_
    obtain ⟨hdev, haxes⟩ := Prod.mk.inj (ht.states_eq.trans (hfault.trans hstates))
    exact ⟨(ht.parN_eq ..).trans (congrArg Int.toNat hreplaces), hdev, fun j _ => congrFun haxes j⟩
  refine ⟨fun hactive again => ?_, fun hserve hnow hfirst hdispatched hfilled hruns hbefore => ?_⟩
  · have hmismatch := laneMismatch_of_active (s := s.clock τ) hn hactive again
    exact hdoes _ _ false again hready rfl (congrArg (answer s0) hmismatch)
  · have hdue : ((s.clock τ).lane n).before (s.clock τ).now 500 = true := by
      rw [State.clock_now, Nat.max_eq_right hnow]
      exact hbefore
    obtain ⟨x, hx, hstates, hdeadline⟩ := shadowDeadline_of_overrun (s := s.clock τ) hserve hfirst hdispatched hfilled hruns hdue hready
    exact hdoes _ x true false hx hstates (congrArg (answer s0) hdeadline)

end Sys2Proof.Machine
end

section
/-!
A HANDOVER while an offer is open (R499): it is answered BUSY, and of the owner it moves the heartbeat alone.
-/
namespace Sys2Proof.Machine

/-! ### What an accepted packet leaves of the owner -/

/-- The same ownership, election and offer; the owner's heartbeat timer may have been restarted (R500). -/
def Owner.SameButHeartbeat (a b : Owner) : Prop := b = { a with hbAt := b.hbAt }

theorem Owner.SameButHeartbeat.offer_eq {a b : Owner} (h : a.SameButHeartbeat b) : b.offer = a.offer := (congrArg Owner.offer h :)
theorem Owner.SameButHeartbeat.session_eq {a b : Owner} (h : a.SameButHeartbeat b) : b.session = a.session := (congrArg Owner.session h :)

theorem State.touch_sameButHeartbeat (s : State) (n : Nat) (o : Origin) : s.owner.SameButHeartbeat (s.touch n o).owner := by
  unfold State.touch
  dsimp only
  split <;> rfl

theorem State.front_owner (s : State) (tp : Transport) : (s.front tp).2.owner = s.owner := (congrArg State.owner (s.front_quiet tp) :)

/-- An accepted packet's row runs on a ready state with the present election and offer, which `State.serve_of_accepts` does not tell. -/
theorem State.serve_of_accepts_owner {s : State} {tp : Transport} {c : Cmd} {n : Nat} {p : Pkt} (h : s.Accepts tp c n p) :
    ∃ x, s.Readies n p x ∧ s.owner.SameButHeartbeat x.owner ∧ s.serve tp c = (c.run x n p).sent p := by
  obtain ⟨o, hserve⟩ := State.serve_of_offers h.offers
  obtain ⟨rfl, -⟩ := h.offers.session
  have hsess : (s.front tp).2.sess p.sess = s.sess p.sess := State.sess_congr (takeBlind_sessions.front s tp) _
  have hseq : p.seq = ((s.front tp).2.sess p.sess).nextSeq := by rw [hsess, h.offers.sequence]
  have hready := (State.begun_readies c o hseq).of_front
  refine ⟨_, hready, s.front_owner tp ▸ (s.front tp).2.touch_sameButHeartbeat p.sess o, ?_⟩
  rw [hserve, State.serveSession_of_sequence c o (hsess ▸ h.offers.tag) hseq,
    State.execute_of_passes h.length (fun hw => hready.owner.trans (h.owner hw)) (hready.devState_eq ▸ h.state)]

/-- A row that only answers a status, whenever the owner is the present one, does nothing else: it moves the heartbeat of the owner at
most, and no part outside the traffic, the sessions and the parameters. -/
theorem State.serve_statusAlone {s : State} {tp : Transport} {c : Cmd} {n : Nat} {p : Pkt} {status : Nat} (h : s.Accepts tp c n p)
    (hrun : ∀ x : State, s.owner.SameButHeartbeat x.owner → c.run x n p = ansStatus x status) :
    s.AnswersStatus (s.serve tp c) n p status ∧ s.owner.SameButHeartbeat (s.serve tp c).owner ∧ (s.serve tp c).axes = s.axes := by
  obtain ⟨x, hx, howner, hserve⟩ := State.serve_of_accepts_owner h
  obtain ⟨bs, -, -, hp, -⟩ := h.offers.front
  have hseq : p.seq < 65536 := hp ▸ parsePkt_seq_lt bs
  have hsent : s.serve tp c = x.replyRun n p.op p.seq [leBytes 1 status] := by
    rw [hserve, hrun x howner, ← h.offers.session.1]
    rfl
  have hquiet : (s.serve tp c).quiet = x.quiet := hsent ▸ State.replyRun_quiet ..
  have hsame : (s.serve tp c).owner = x.owner := (congrArg State.owner hquiet :)
  exact ⟨hsent ▸ State.replyRun_answers hseq hx.nextSeq hx.tagKey _ _, hsame.symm ▸ howner, (axes_of_quiet hquiet).trans hx.axes_eq⟩

/-! ### R499 -/

theorem cmdHandover_run_of_open {x : State} {o : Offer} (hopen : x.owner.offer = some o) (n : Nat) (p : Pkt) :
    cmdHandover.run x n p = ansStatus x stBusy :=
  if_pos (by rw [hopen]; rfl)

/-- Settles O58: the offer is still open when the accepted packet's row runs, which then answers BUSY and changes nothing of the offer. -/
theorem oneHandoverOffer : Obligations.OneHandoverOffer := by
  unfold Obligations.OneHandoverOffer
  intro s0 τ tp n p o s hacc hopen
  obtain ⟨hanswer, howner, haxes⟩ := State.serve_statusAlone hacc fun x hx =>
    cmdHandover_run_of_open (hx.offer_eq.trans hopen) n p
  refine Does.of_answer rfl fun t ht => ⟨hanswer.of_ends ht, ?_, ?_, ht.axes.trans haxes⟩
  · exact (congrArg Owner.offer ht.owner).trans (howner.offer_eq.trans hopen)
  · exact (congrArg Owner.session ht.owner).trans howner.session_eq

end Sys2Proof.Machine
end

section
/-!
FORAGER_STOP (R611): the named channels issue no further beat, their write responses are awaited, and each goes to IDLE when they are in.
-/
namespace Sys2Proof.Machine

/-! ### What a statement about one channel reads -/

/-- A Forager channel with its FG_BEATS and its FG_STATE (Table 15.11). -/
def State.channel (s : State) (c : Nat) : FgChan × Int × Int := (s.fg c, s.par P.fgBeats c, s.par P.fgState c)

theorem State.fg_of_channel {s t : State} {c : Nat} (h : t.channel c = s.channel c) : t.fg c = s.fg c := congrArg (·.1) h
theorem State.fgBeats_of_channel {s t : State} {c : Nat} (h : t.channel c = s.channel c) : t.par P.fgBeats c = s.par P.fgBeats c :=
  congrArg (·.2.1) h
theorem State.fgState_of_channel {s t : State} {c : Nat} (h : t.channel c = s.channel c) : t.par P.fgState c = s.par P.fgState c :=
  congrArg (·.2.2) h

theorem Ends.channel_eq {x t : State} (h : Ends x t) (c : Nat) : t.channel c = x.channel c := by
  simp only [State.channel, h.fg_eq, h.par_eq]

theorem State.fg_setFg_same (s : State) (c : Nat) (x : FgChan) : (s.setFg c x).fg c = x := tget_tset_same ..

theorem State.fg_incPar (s : State) (p : Par) (i j n c : Nat) : (s.incPar p i j n).fg c = s.fg c := by
  unfold State.incPar
  dsimp only
  split <;> rfl

theorem State.incPar_larder (s : State) (p : Par) (i j n : Nat) : (s.incPar p i j n).larder = s.larder :=
  (congrArg State.larder (s.incPar_quiet p i j n) :)

/-- A counter below its last value counts one (log entry 6). -/
theorem State.par_incPar_same {s : State} {p : Par} {i j : Nat} (h : s.par p i j < 4294967295) :
    (s.incPar p i j).par p i j = s.par p i j + 1 := by
  have hroom : s.par p i j + (1 : Nat) < 4294967296 := by omega
  unfold State.incPar
  dsimp only
  rw [if_pos hroom, State.par_setPar_same]
  rfl

theorem State.channel_setFg_other (s : State) (k c : Nat) (x : FgChan) (h : k ≠ c) : (s.setFg k x).channel c = s.channel c :=
  congrArg (·, s.par P.fgBeats c, s.par P.fgState c) (tget_tset_other _ _ _ _ _ h)

theorem State.channel_setPar_other (s : State) (p : Par) (v : Int) (i j c : Nat) (hbeats : p.pn i j ≠ P.fgBeats.pn c 0)
    (hstate : p.pn i j ≠ P.fgState.pn c 0) : (s.setPar p v i j).channel c = s.channel c :=
  congrArg (s.fg c, ·) (Prod.ext (s.par_setPar_other _ _ _ _ _ _ _ hbeats) (s.par_setPar_other _ _ _ _ _ _ _ hstate))

theorem State.channel_incPar_other (s : State) (p : Par) (i j n c : Nat) (hbeats : p.pn i j ≠ P.fgBeats.pn c 0)
    (hstate : p.pn i j ≠ P.fgState.pn c 0) : (s.incPar p i j n).channel c = s.channel c :=
  Prod.ext (s.fg_incPar ..) (Prod.ext (s.incPar_par_other _ _ _ _ _ _ _ hbeats) (s.incPar_par_other _ _ _ _ _ _ _ hstate))

/-! ### Traffic leaves a channel alone -/

theorem takeBlind_channel {c : Nat} (hc : c < 16) : TakeBlind fun s => s.channel c where
  queues _ _ := rfl
  turn _ _ := rfl
  transfers _ _ := rfl
  drops s := s.channel_incPar_other _ _ _ _ _ (by simp only [Par.pn, P.reasmDrops, P.fgBeats]; omega)
    (by simp only [Par.pn, P.reasmDrops, P.fgState]; omega)

theorem sendBlind_channel {c : Nat} (hc : c < 16) : SendBlind fun s => s.channel c where
  queues _ _ _ := rfl
  ring _ _ := rfl
  swarm _ _ := rfl
  sessions _ _ := rfl
  waiting _ _ := rfl
  ops _ _ := rfl
  boot _ _ := rfl
  overflow s q := s.channel_incPar_other _ _ _ _ _ (by simp only [Par.pn, P.qOverflow, P.fgBeats]; omega)
    (by simp only [Par.pn, P.qOverflow, P.fgState]; omega)
  drops s := s.channel_incPar_other _ _ _ _ _ (by simp only [Par.pn, P.notifDrops, P.fgBeats]; omega)
    (by simp only [Par.pn, P.notifDrops, P.fgState]; omega)

/-- A reply is a send, but for the free value that places it (log entry 115). -/
theorem SendBlind.replyRun {β : Type} {g : State → β} (hg : SendBlind g) (hfree : ∀ (s : State) (n : Nat), g { s with free := n } = g s)
    (s : State) (n op seq : Nat) (ps : List Bytes) (boot : Bool) : g (s.replyRun n op seq ps boot) = g s := by
  unfold State.replyRun
  dsimp only
  exact (foldl_keeps g _ (fun _ _ => hg.sendOrWait ..) _ _).trans ((hg.sessions ..).trans (hfree s _))

/-- An accepted packet's row runs on the state `State.begun` of the packet taken, which tells more of it than `State.Readies`. -/
theorem State.serve_of_accepts_begun {s : State} {tp : Transport} {c : Cmd} {n : Nat} {p : Pkt} (h : s.Accepts tp c n p) :
    ∃ o, s.serve tp c = (c.run ((s.front tp).2.begun c o p) n p).sent p := by
  obtain ⟨o, hserve⟩ := State.serve_of_offers h.offers
  obtain ⟨rfl, -⟩ := h.offers.session
  have hsess : (s.front tp).2.sess p.sess = s.sess p.sess := State.sess_congr (takeBlind_sessions.front s tp) _
  have hseq : p.seq = ((s.front tp).2.sess p.sess).nextSeq := by rw [hsess, h.offers.sequence]
  have hready := (State.begun_readies c o hseq).of_front
  refine ⟨o, ?_⟩
  rw [hserve, State.serveSession_of_sequence c o (hsess ▸ h.offers.tag) hseq,
    State.execute_of_passes h.length (fun hw => hready.owner.trans (h.owner hw)) (hready.devState_eq ▸ h.state)]

theorem State.begun_channel (s : State) (r : Cmd) (o : Origin) (p : Pkt) (c : Nat) : (s.begun r o p).channel c = s.channel c := by
  unfold State.begun State.touch
  dsimp only
  split <;> rfl

/-- A row that answers a status leaves a channel as its effect does, on a state with the present channel. -/
theorem State.serve_channel {s : State} {tp : Transport} {r : Cmd} {n : Nat} {p : Pkt} {status : Nat} {f : State → State}
    (h : s.Accepts tp r n p) (hrun : ∀ x, r.run x n p = ansStatus (f x) status) {c : Nat} (hc : c < 16) :
    ∃ x : State, x.channel c = s.channel c ∧ (s.serve tp r).channel c = (f x).channel c := by
  obtain ⟨o, hserve⟩ := State.serve_of_accepts_begun h
  refine ⟨(s.front tp).2.begun r o p, (State.begun_channel ..).trans ((takeBlind_channel hc).front s tp), ?_⟩
  rw [hserve, hrun]
  exact (sendBlind_channel hc).replyRun (fun _ _ => rfl) ..

/-! ### A beat that lands leaves a channel alone -/

theorem State.recordClear_channel (s : State) (code subj : Nat) (path : String) (c : Nat) :
    (s.recordClear code subj path).channel c = s.channel c := by
  unfold State.recordClear
  split <;> rfl

theorem State.writeEntry_channel (s : State) (n off : Nat) (bs : Bytes) (c : Nat) : (s.writeEntry n off bs).channel c = s.channel c := by
  unfold State.writeEntry
  dsimp only
  split
  · rfl
  · split <;> rfl

theorem State.writeTable_channel (s : State) (a : Nat) (bs : Bytes) (f c : Nat) : (s.writeTable a bs f).channel c = s.channel c := by
  induction f generalizing s a bs with
  | zero => rfl
  | succ f ih =>
    unfold State.writeTable
    split
    · rfl
    · exact (ih ..).trans (State.writeEntry_channel ..)

/-- What a write through the Hallway does, by its region: nothing, a write of the session table, or a store of bytes. The function is
unfolded under an equation of its own, before it is applied: the kernel would otherwise evaluate the region of an unknown address, which
takes the base of the Larder in unary steps. -/
theorem State.hwrite_cases (s : State) (a : Nat) (bs : Bytes) :
    s.hwrite a bs = s ∨ s.hwrite a bs = s.writeTable a bs (bs.length + 1) ∨ s.hwrite a bs = s.lstore a bs := by
  generalize hunfold : State.hwrite = w
  delta State.hwrite at hunfold
  subst hunfold
  beta_reduce
  split
  · exact .inl rfl
  · exact .inl rfl
  · exact .inr (.inl rfl)
  · exact .inr (.inr rfl)

section
variable {c : Nat} (hc : c < 16)
include hc

theorem State.unstand_channel (s : State) (f : Standing) : (s.unstand f).channel c = s.channel c := by
  unfold State.unstand
  dsimp only
  exact ((sendBlind_channel hc).notify ..).trans (State.recordClear_channel ..)

theorem State.unstandCode_channel (s : State) (code inst : Nat) : (s.unstandCode code inst).channel c = s.channel c :=
  foldl_keeps (fun x => x.channel c) _ (fun x f => x.unstand_channel hc f) _ s

theorem State.wordRewritten_channel (s : State) (w : Nat) : (s.wordRewritten w).channel c = s.channel c := by
  unfold State.wordRewritten
  split
  · exact State.unstandCode_channel hc ..
  · rfl

theorem State.lstore_channel (s : State) (a : Nat) (bs : Bytes) : (s.lstore a bs).channel c = s.channel c := by
  refine foldl_keeps (fun x => x.channel c) _ (fun x w => ?_) _ (s.lwrite a bs)
  split
  · exact State.wordRewritten_channel hc ..
  · rfl

theorem State.hwrite_channel (s : State) (a : Nat) (bs : Bytes) : (s.hwrite a bs).channel c = s.channel c := by
  obtain h | h | h := s.hwrite_cases a bs
  · rw [h]
  · rw [h, State.writeTable_channel]
  · rw [h, State.lstore_channel hc]

theorem State.beatLands_channel (s : State) (b : FgBeat) : (s.beatLands b).channel c = s.channel c := by
  unfold State.beatLands
  split
  · rfl
  · exact State.hwrite_channel hc ..

end

/-! ### FORAGER_STOP of one channel -/

theorem State.fgIdle_fgBeats {c : Nat} (hc : c < 16) (s : State) : (s.fgIdle c).par P.fgBeats c = s.par P.fgBeats c := by
  unfold State.fgIdle
  refine (State.par_setPar_other _ _ _ _ _ _ _ _ ?_).trans (State.par_setPar_other _ _ _ _ _ _ _ _ ?_)
  · simp only [Par.pn, P.fgStatus, P.fgBeats]; omega
  · simp only [Par.pn, P.fgState, P.fgBeats]; omega

theorem State.fgIdle_fgState (s : State) (c : Nat) : (s.fgIdle c).par P.fgState c = 0 := by
  unfold State.fgIdle
  refine (State.par_setPar_other _ _ _ _ _ _ _ _ ?_).trans (State.par_setPar_same ..)
  simp only [Par.pn, P.fgStatus, P.fgState]
  omega

theorem State.fgIdle_fg (s : State) (c : Nat) : ((s.fgIdle c).fg c).staging = [] ∧ ((s.fgIdle c).fg c).stopping = false := by
  have hfg : (s.fgIdle c).fg c = _ := State.fg_setFg_same ..
  rw [hfg]
  exact ⟨rfl, rfl⟩

theorem State.fgIdle_channel_other {k c : Nat} (hk : k < 16) (hkc : k ≠ c) (s : State) : (s.fgIdle k).channel c = s.channel c := by
  unfold State.fgIdle
  refine (State.channel_setPar_other _ _ _ _ _ _ ?_ ?_).trans
    ((State.channel_setPar_other _ _ _ _ _ _ ?_ ?_).trans (State.channel_setFg_other _ _ _ _ hkc))
  all_goals simp only [Par.pn, P.fgStatus, P.fgState, P.fgBeats]; omega

theorem State.fgStop_channel_other {k c : Nat} (hk : k < 16) (hkc : k ≠ c) (s : State) : (s.fgStop k).channel c = s.channel c := by
  unfold State.fgStop
  split
  · rfl
  · refine State.channel_setPar_other _ _ _ _ _ _ ?_ ?_
    all_goals simp only [Par.pn, P.fgState, P.fgBeats]; omega
  · split
    · exact State.fgIdle_channel_other hk hkc s
    · exact State.channel_setFg_other _ _ _ _ hkc

/-- A channel that runs, waits or is paused drains first, or is IDLE at once where no response is out (R611, Table 15.10). -/
theorem State.fgStop_of_started {s : State} {c : Nat} (hlo : 1 ≤ s.parN P.fgState c) (hhi : s.parN P.fgState c ≤ 3) :
    s.fgStop c = if (s.fg c).outstanding.isEmpty then s.fgIdle c
      else s.setFg c { s.fg c with stopping := true, wait := .none, timeoutAt := none, timeoutLeft := none } := by
  unfold State.fgStop
  split
  · omega
  · omega
  · rfl

theorem State.fgStop_fgBeats {s : State} {c : Nat} (hc : c < 16) (hlo : 1 ≤ s.parN P.fgState c) (hhi : s.parN P.fgState c ≤ 3) :
    (s.fgStop c).par P.fgBeats c = s.par P.fgBeats c := by
  rw [State.fgStop_of_started hlo hhi]
  split
  · exact State.fgIdle_fgBeats hc s
  · rfl

theorem State.fgStop_drains {s : State} {c : Nat} (hlo : 1 ≤ s.parN P.fgState c) (hhi : s.parN P.fgState c ≤ 3)
    (hout : (s.fg c).outstanding ≠ []) :
    ((s.fgStop c).fg c).stopping = true ∧ ((s.fgStop c).fg c).outstanding = (s.fg c).outstanding := by
  rw [State.fgStop_of_started hlo hhi, if_neg (by simpa using hout), State.fg_setFg_same]
  exact ⟨rfl, rfl⟩

theorem State.fgStop_idles {s : State} {c : Nat} (hlo : 1 ≤ s.parN P.fgState c) (hhi : s.parN P.fgState c ≤ 3)
    (hout : (s.fg c).outstanding = []) : (s.fgStop c).par P.fgState c = 0 ∧ ((s.fgStop c).fg c).staging = [] := by
  rw [State.fgStop_of_started hlo hhi, if_pos (by rw [hout]; rfl)]
  exact ⟨s.fgIdle_fgState c, (s.fgIdle_fg c).1⟩

/-! ### FORAGER_STOP of the channels of its mask -/

/-- A view that the steps of all other indexes keep is, after all of them, what index c makes of it. -/
theorem each_once {β : Type} (g : State → β) (f : Nat → State → State) {ks : List Nat} {c : Nat} (hdup : ks.Nodup) (hc : c ∈ ks)
    (hother : ∀ k ∈ ks, k ≠ c → ∀ s, g (f k s) = g s) (s : State) : ∃ x, g x = g s ∧ g (each ks s f) = g (f c x) := by
  have hkeep : ∀ l : List Nat, l ⊆ ks → c ∉ l → ∀ y, g (each l y f) = g y := fun l hl hcl y =>
    List.foldlRecOn (motive := fun x : State => g x = g y) l _ rfl fun x hx k hk =>
      (hother k (hl hk) (fun e => hcl (e ▸ hk)) x).trans hx
  obtain ⟨before, after, rfl⟩ := List.append_of_mem hc
  obtain ⟨hfresh, -⟩ := List.nodup_cons.mp (List.nodup_middle.mp hdup)
  rw [List.mem_append, not_or] at hfresh
  obtain ⟨hbefore, hafter⟩ := hfresh
  refine ⟨each before s f, hkeep before (List.subset_append_left ..) hbefore s, ?_⟩
  have hsplit : each (before ++ c :: after) s f = each after (f c (each before s f)) f := by
    simp only [each, List.foldl_append, List.foldl_cons]
  rw [hsplit]
  exact hkeep after (fun k hk => by simp [hk]) hafter _

/-- The channels that FORAGER_STOP names: those of its mask from F4 on. -/
def stopMask (m : Nat) : List Nat := (bitsOf 16 m).filter fun c => decide (4 ≤ c)

theorem mem_stopMask {m c : Nat} : c ∈ stopMask m ↔ 4 ≤ c ∧ c < 16 ∧ m / 2 ^ c % 2 = 1 := by
  simp [stopMask, bitsOf, upto, and_left_comm]

theorem stopMask_nodup (m : Nat) : (stopMask m).Nodup := (List.nodup_range.filter _).filter _

/-- An accepted FORAGER_STOP leaves a channel that its mask names as the stop of that channel alone does. -/
theorem State.serve_foragerStop_channel {s : State} {tp : Transport} {n : Nat} {p : Pkt} {c : Nat}
    (hacc : s.Accepts tp cmdForagerStop n p) (hlo : 4 ≤ c) (hhi : c < 16) (hbit : field p.payload 0 2 / 2 ^ c % 2 = 1) :
    ∃ x : State, x.channel c = s.channel c ∧ (s.serve tp cmdForagerStop).channel c = (x.fgStop c).channel c := by
  obtain ⟨x, hx, hserve⟩ := State.serve_channel hacc
    (f := fun x : State => each (stopMask (field p.payload 0 2)) x fun k s => s.fgStop k) (fun _ => rfl) hhi
  obtain ⟨y, hy, heach⟩ := each_once (fun s : State => s.channel c) (fun k s => s.fgStop k) (stopMask_nodup _) (mem_stopMask.mpr ⟨hlo, hhi, hbit⟩)
    (fun k hk hkc s => State.fgStop_channel_other (mem_stopMask.mp hk).2.1 hkc s) x
  exact ⟨y, hy.trans hx, hserve.trans heach⟩

/-! ### The responses of a channel that drains -/

/-- A write that fails while its channel drains is counted and not sent again. -/
theorem writeBeatResponse_of_stopping_failed {s : State} {c : Nat} {b : FgBeat} {rest : List FgBeat} (hstop : (s.fg c).stopping = true)
    (hout : (s.fg c).outstanding = b :: rest) :
    writeBeatResponse c false s = (s.setFg c { s.fg c with outstanding := rest }).incPar P.fgRetried c := by
  unfold writeBeatResponse
  dsimp only
  rw [hout]
  simp [hstop]

/-- A write that succeeds while its channel drains lands, and the channel does not go on. -/
theorem writeBeatResponse_of_stopping_ok {s : State} {c : Nat} {b : FgBeat} {rest : List FgBeat} (hstop : (s.fg c).stopping = true)
    (hout : (s.fg c).outstanding = b :: rest) :
    writeBeatResponse c true s = (s.setFg c { s.fg c with outstanding := rest }).beatLands b := by
  unfold writeBeatResponse
  dsimp only
  rw [hout]
  simp [hstop]

theorem stopDrained_of_drained {s : State} {c : Nat} (hstop : (s.fg c).stopping = true) (hout : (s.fg c).outstanding = []) :
    stopDrained c s = s.fgIdle c :=
  if_pos ⟨hstop, by rw [hout]; rfl⟩

/-! ### R611 -/

/-- Settles O60: each of the three rows acts on the named channel by one of the equations above, and neither the traffic of the packet
nor a beat that lands touches a channel. -/
theorem foragerStopDrains : Obligations.ForagerStopDrains := by
  unfold Obligations.ForagerStopDrains
  intro s0 τ c s hlo hhi
  refine ⟨fun tp n p hacc hbit h1 h3 => ?_, fun b rest hstop hout hroom => ?_, fun b rest hstop hout => ?_, fun hstop hout => ?_⟩
  · obtain ⟨x, hx, hserve⟩ := State.serve_foragerStop_channel hacc hlo hhi hbit
    have hfg : x.fg c = s.fg c := State.fg_of_channel hx
    have hstate : x.parN P.fgState c = s.parN P.fgState c := congrArg Int.toNat (State.fgState_of_channel hx)
    rw [← hstate] at h1 h3
    refine Does.of_answer rfl fun t ht => ?_
    have hstopped : t.channel c = (x.fgStop c).channel c := (ht.channel_eq c).trans hserve
    rw [State.fg_of_channel hstopped, State.fgBeats_of_channel hstopped, State.fgState_of_channel hstopped, ← hfg]
    exact ⟨(State.fgStop_fgBeats hhi h1 h3).trans (State.fgBeats_of_channel hx), State.fgStop_drains h1 h3, State.fgStop_idles h1 h3⟩
  · have hfailed := writeBeatResponse_of_stopping_failed (s := s.clock τ) hstop hout
    refine Does.of_answer (congrArg (answer s0) hfailed) fun t ht => ?_
    rw [ht.fg_eq, ht.par_eq, ht.par_eq, ht.larder, State.fg_incPar, State.fg_setFg_same]
    refine ⟨rfl, State.par_incPar_same hroom, State.incPar_par_other _ _ _ _ _ _ _ _ ?_, hstop, State.incPar_larder ..⟩
    simp only [Par.pn, P.fgRetried, P.fgBeats]
    omega
  · have hlands := writeBeatResponse_of_stopping_ok (s := s.clock τ) hstop hout
    refine Does.of_answer (congrArg (answer s0) hlands) fun t ht => ?_
    have hkept := (ht.channel_eq c).trans (State.beatLands_channel hhi ..)
    rw [State.fg_of_channel hkept, State.fgBeats_of_channel hkept, State.fg_setFg_same]
    exact ⟨rfl, rfl, hstop⟩
  · have hidle := stopDrained_of_drained (s := s.clock τ) hstop hout
    refine Does.of_answer (congrArg (answer s0) hidle) fun t ht => ?_
    rw [ht.fg_eq, ht.par_eq]
    exact ⟨State.fgIdle_fgState .., State.fgIdle_fg ..⟩

end Sys2Proof.Machine
end

section
/-!
THEOREMS. The step over the queue and the two invariants of the hold-off: every command ends in the answer of its meaning
(`exec_answer`), and an answer has the hold-off lines in effect (`answer_held`).
-/
namespace Sys2Proof.Machine

/-- Settles O1: both clauses are the two branches of `step`. -/
theorem stepRunsFront : Obligations.StepRunsFront :=
  ⟨fun _ _ _ => rfl, fun s h => by unfold step; rw [h]⟩

/-- Settles O2: every command ends in an answer, and an answer gives the queue back. -/
theorem everyCommandCompletes : Obligations.EveryCommandCompletes := fun c s =>
  let ⟨_, hx⟩ := exec_answer c s
  ⟨_, hx, rfl⟩

/-- Settles O3: an idle step changes nothing, and what a command answers has been interlocked. -/
theorem holdOffKept : Obligations.HoldOffKept := by
  intro s t hs h
  unfold step at h
  split at h
  · cases h
    exact hs
  · next c rest _ =>
    obtain ⟨x, hx⟩ := exec_answer c { s with pending := rest }
    exact answer_held _ x t (hx ▸ h)

/-- Settles O4: at reset no channel is commanded on, the Larder lists no byte, and every cell has a cause. -/
theorem resetIsSafe : Obligations.ResetIsSafe := by
  refine ⟨fun _ _ _ => rfl, rfl, fun g hg => ?_⟩
  decide +revert

/-- Settles O6, by the laws of byte memories in canonical form. -/
theorem larderReadAfterWrite : Obligations.LarderReadAfterWrite := fun s a bs h =>
  ⟨s.lread_lwrite a bs h, s.lwrite_wf a bs h, fun b hb => s.byteAt_lwrite_other a bs b h hb⟩

end Sys2Proof.Machine
end

section
/-!
THEOREMS. Two frames of commands leave a row out: the lane that a return from FAULT_WAIT starts anew forgets its state record, and
the conversion that finds a pulse's current reached ends the pulse.
-/
namespace Sys2Proof.Tests
open Sys2Proof.Machine

/-- Axis 0 waits to return to RUNNING, and its lane has kept a state record. -/
def retryingWithRecord : State := { ax wired 0 { st := .faultRetry, retryFrom := .running } with records := [(0, {})] }

/-- A pulse of the pulse test runs on bridge 0. -/
def pulsing : State := { base with fanner := { pulse := [(0, { point := 1, pulse := some (0, 20000) })] } }

end Sys2Proof.Tests

namespace Sys2Proof.Machine
open Sys2Proof.Tests

/-- What a run of a command was seen to end in holds of the state it answers. -/
theorem of_after {c : Instr} {s t : State} {f : State → Bool} (h : after (exec c s) f = true) (ht : exec c s = .next t) : f t = true := by
  rwa [ht] at h

theorem faultWaitExpired_drops_record :
    after (exec (.faultWaitExpired 1000000000000 0) retryingWithRecord) (fun t => decide (t.records = [])) = true := by
  decide +kernel

theorem selfTrigger_ends_pulse :
    after (exec (.selfTriggerConversion 10000 0 [32767, 0, -32768] [0, 0, 0, 0]) pulsing)
      (fun t => decide (t.fanner.pulse = [(0, { point := 1, pulse := none })])) = true := by
  decide +kernel

/-- Refutes O54: FAULT_WAIT_EXPIRED is not among the commands that may change the state records, and it starts the lane of an axis that
returns to RUNNING, which forgets the record that the lane has kept. -/
theorem not_storesFrame : ¬ Obligations.StoresFrame := by
  unfold Obligations.StoresFrame
  intro h
  obtain ⟨t, ht, -⟩ := everyCommandCompletes (.faultWaitExpired 1000000000000 0) retryingWithRecord
  obtain ⟨-, -, -, hrec | hrestarts | hnamed, -⟩ := h _ _ t ht
  · have hdropped : t.records = [] := of_decide_eq_true (of_after faultWaitExpired_drops_record ht)
    have hkept : (retryingWithRecord.due 1000000000000).records = [(0, {})] := by decide +kernel
    exact List.cons_ne_nil _ _ (hkept.symm.trans (hrec.symm.trans hdropped))
  · simp [Restarts] at hrestarts
  · exact absurd hnamed (by decide)

/-- Refutes O55: SELF_TRIGGER_CONVERSION is not among the commands that may change the Fanner, and the conversion in which a pulse's
current is reached ends the pulse (R439). -/
theorem not_inputsFrame : ¬ Obligations.InputsFrame := by
  unfold Obligations.InputsFrame
  intro h
  obtain ⟨t, ht, -⟩ := everyCommandCompletes (.selfTriggerConversion 10000 0 [32767, 0, -32768] [0, 0, 0, 0]) pulsing
  obtain ⟨-, -, -, -, hfan | hrestarts | hnamed⟩ := h _ _ t ht
  · have hended : t.fanner.pulse = [(0, { point := 1, pulse := none })] := of_decide_eq_true (of_after selfTrigger_ends_pulse ht)
    have hruns : (pulsing.due 10000).fanner.pulse = [(0, { point := 1, pulse := some (0, 20000) })] := by decide +kernel
    have hsame : t.fanner.pulse = (pulsing.due 10000).fanner.pulse := congrArg Fanner.pulse hfan
    rw [hended, hruns] at hsame
    exact absurd hsame (by decide)
  · simp [Restarts] at hrestarts
  · exact absurd hnamed (by decide)

end Sys2Proof.Machine
end

section
/-!
SUPPORT. What moves an axis: the functions that change the axes, their lanes and bridges, the gate cells with their channels and causes,
the standing faults, and what a quiet function changes, and nothing else. The laws are stated of `quiet.unmoved`, so that the laws of
the quiet functions rewrite inside them.
-/
namespace Sys2Proof.Machine

/-- The state without the axes, their lanes and bridges, the cells with their channels and causes, and the standing faults. -/
def State.unmoved (s : State) : State :=
  { s with axes := [], lanes := [], bridges := [], chans := [], cells := [], cellar := {}, standing := [] }

@[simp ↓] theorem still_ite (c : Prop) [Decidable c] (a b : State) (h : a.quiet.unmoved = b.quiet.unmoved) :
    (if c then a else b).quiet.unmoved = b.quiet.unmoved := by
  split
  · exact h
  · rfl

theorem still_ite_trans {c : Prop} [Decidable c] {a b x : State} (h : a.quiet.unmoved = b.quiet.unmoved) (hb : b.quiet.unmoved = x) :
    (if c then a else b).quiet.unmoved = x := (still_ite c a b h).trans hb

@[simp ↓] theorem foldl_still {α : Type} (f : State → α → State) (l : List α) (s : State)
    (h : ∀ s x, (f s x).quiet.unmoved = s.quiet.unmoved) : (l.foldl f s).quiet.unmoved = s.quiet.unmoved :=
  foldl_keeps (fun x => x.quiet.unmoved) f h l s

@[simp ↓] theorem each_still (ks : List Nat) (s : State) (f : Nat → State → State) (h : ∀ k s, (f k s).quiet.unmoved = s.quiet.unmoved) :
    (each ks s f).quiet.unmoved = s.quiet.unmoved := foldl_still _ ks s fun s k => h k s

theorem foldl_snd_still {α β : Type} (f : β × State → α → β × State) (l : List α) (a : β × State)
    (h : ∀ a x, (f a x).2.quiet.unmoved = a.2.quiet.unmoved) : (l.foldl f a).2.quiet.unmoved = a.2.quiet.unmoved := by
  induction l generalizing a with
  | nil => rfl
  | cons x l ih => rw [List.foldl_cons, ih, h]

theorem foldl_fst_still {α β : Type} (f : State × β → α → State × β) (l : List α) (a : State × β)
    (h : ∀ a x, (f a x).1.quiet.unmoved = a.1.quiet.unmoved) : (l.foldl f a).1.quiet.unmoved = a.1.quiet.unmoved := by
  induction l generalizing a with
  | nil => rfl
  | cons x l ih => rw [List.foldl_cons, ih, h]

@[simp ↓] theorem still_upd_axes (s : State) (x : Tab Axis) : ({ s with axes := x } : State).quiet.unmoved = s.quiet.unmoved := rfl
@[simp ↓] theorem still_upd_lanes (s : State) (x : Tab Lane) : ({ s with lanes := x } : State).quiet.unmoved = s.quiet.unmoved := rfl
@[simp ↓] theorem still_upd_bridges (s : State) (x : Tab Bridge) : ({ s with bridges := x } : State).quiet.unmoved = s.quiet.unmoved := rfl
@[simp ↓] theorem still_upd_chans (s : State) (x : Tab Chan) : ({ s with chans := x } : State).quiet.unmoved = s.quiet.unmoved := rfl
@[simp ↓] theorem still_upd_cells (s : State) (x : Tab Cell) : ({ s with cells := x } : State).quiet.unmoved = s.quiet.unmoved := rfl
@[simp ↓] theorem still_upd_cellar (s : State) (x : Cellar) : ({ s with cellar := x } : State).quiet.unmoved = s.quiet.unmoved := rfl
@[simp ↓] theorem still_upd_standing (s : State) (x : List Standing) : ({ s with standing := x } : State).quiet.unmoved = s.quiet.unmoved := rfl

@[simp ↓] theorem State.draw_still (s : State) (w : Nat) : (s.draw w).2.quiet.unmoved = s.quiet.unmoved := by
  rfl

@[simp ↓] theorem State.setAx_still (s : State) (k : Nat) (a : Axis) : (s.setAx k a).quiet.unmoved = s.quiet.unmoved := by
  rfl

@[simp ↓] theorem State.modAx_still (s : State) (k : Nat) (f : Axis → Axis) : (s.modAx k f).quiet.unmoved = s.quiet.unmoved := by
  rfl

@[simp ↓] theorem State.setLane_still (s : State) (n : Nat) (l : Lane) : (s.setLane n l).quiet.unmoved = s.quiet.unmoved := by
  rfl

@[simp ↓] theorem State.setBridge_still (s : State) (b : Nat) (x : Bridge) : (s.setBridge b x).quiet.unmoved = s.quiet.unmoved := by
  rfl

@[simp ↓] theorem State.setChan_still (s : State) (c : Nat) (x : Chan) : (s.setChan c x).quiet.unmoved = s.quiet.unmoved := by
  rfl

@[simp ↓] theorem State.setCell_still (s : State) (g : Nat) (x : Cell) : (s.setCell g x).quiet.unmoved = s.quiet.unmoved := by
  rfl

@[simp ↓] theorem State.bootNow_still (s : State) : s.bootNow.quiet.unmoved = s.quiet.unmoved := by
  rfl

@[simp ↓] theorem State.putChan_still (s : State) (c : Nat) (x : Chan) : (s.putChan c x).quiet.unmoved = s.quiet.unmoved := by
  rfl

@[simp ↓] theorem State.softOff_still (s : State) (c : Nat) (latch : Bool := true) :
    (s.softOff c latch).quiet.unmoved = s.quiet.unmoved := by
  unfold State.softOff
  simp

@[simp ↓] theorem State.turnOff_still (s : State) (c : Nat) : (s.turnOff c).quiet.unmoved = s.quiet.unmoved := by
  unfold State.turnOff
  simp

@[simp ↓] theorem State.interlock_still (s : State) : s.interlock.quiet.unmoved = s.quiet.unmoved := by
  unfold State.interlock
  simp

@[simp ↓] theorem State.turnOn_still (s : State) (c : Nat) : (s.turnOn c).quiet.unmoved = s.quiet.unmoved := by
  unfold State.turnOn
  (repeat' split) <;> simp

@[simp ↓] theorem State.stopLane_still (s : State) (k : Nat) : (s.stopLane k).quiet.unmoved = s.quiet.unmoved := by
  unfold State.stopLane
  simp

@[simp ↓] theorem State.axisOff_still (s : State) (k : Nat) : (s.axisOff k).quiet.unmoved = s.quiet.unmoved := by
  unfold State.axisOff
  simp

@[simp ↓] theorem State.axisSoft_still (s : State) (k : Nat) : (s.axisSoft k).quiet.unmoved = s.quiet.unmoved := by
  unfold State.axisSoft
  simp

@[simp ↓] theorem State.endEpisode_still (s : State) (k : Nat) (f : Axis → Axis) : (s.endEpisode k f).quiet.unmoved = s.quiet.unmoved := by
  rfl

@[simp ↓] theorem State.arb_still (s : State) (k rank : Nat) : (s.arb k rank).1.quiet.unmoved = s.quiet.unmoved := by
  unfold State.arb
  dsimp only
  (repeat' split) <;> simp

@[simp ↓] theorem State.settle_still (s : State) (k : Nat) : (s.settle k).quiet.unmoved = s.quiet.unmoved := by
  rfl

@[simp ↓] theorem State.stand_still (s : State) (f : Standing) : (s.stand f).quiet.unmoved = s.quiet.unmoved := by
  unfold State.stand
  dsimp only
  split <;> simp

@[simp ↓] theorem State.unstandCode_still (s : State) (code inst : Nat) : (s.unstandCode code inst).quiet.unmoved = s.quiet.unmoved := by
  unfold State.unstandCode
  simp only [↓foldl_still, implies_true, ↓still_upd_standing, ↓State.unstand_quiet]

@[simp ↓] theorem State.silentEnds_still (s : State) (k : Nat) : (s.silentEnds k).quiet.unmoved = s.quiet.unmoved := by
  unfold State.silentEnds
  simp

@[simp ↓] theorem State.moveAxis_still (s : State) (k : Nat) (st : AxState) : (s.moveAxis k st).quiet.unmoved = s.quiet.unmoved := by
  unfold State.moveAxis
  simp

@[simp ↓] theorem State.testCurrent_still (s : State) (p : Precheck) (on : Bool) :
    (s.testCurrent p on).quiet.unmoved = s.quiet.unmoved := by
  unfold State.testCurrent
  split <;> simp

@[simp ↓] theorem State.endPrecheckCells_still (s : State) (k : Nat) : (s.endPrecheckCells k).quiet.unmoved = s.quiet.unmoved := by
  unfold State.endPrecheckCells
  split <;> simp

@[simp ↓] theorem State.endPrecheck_still (s : State) (k status : Nat) : (s.endPrecheck k status).quiet.unmoved = s.quiet.unmoved := by
  unfold State.endPrecheck
  simp

@[simp ↓] theorem State.toIdle_still (s : State) (k : Nat) (st : AxState) : (s.toIdle k st).quiet.unmoved = s.quiet.unmoved := by
  unfold State.toIdle
  simp

@[simp ↓] theorem State.enterSto_still (s : State) (k : Nat) : (s.enterSto k).quiet.unmoved = s.quiet.unmoved := by
  unfold State.enterSto
  simp

@[simp ↓] theorem State.holdCells_still (s : State) (cause : Nat) (cells : List Nat) :
    (s.holdCells cause cells).quiet.unmoved = s.quiet.unmoved := by
  unfold State.holdCells
  simp

@[simp ↓] theorem State.heldAxis_still (s : State) (k : Nat) : (s.heldAxis k).quiet.unmoved = s.quiet.unmoved := by
  unfold State.heldAxis
  split <;> simp

@[simp ↓] theorem State.ss1Chopper_still (s : State) : s.ss1Chopper.quiet.unmoved = s.quiet.unmoved := by
  unfold State.ss1Chopper
  simp

@[simp ↓] theorem State.holdOff_still (s : State) (cause : Nat) (cells : List Nat) :
    (s.holdOff cause cells).quiet.unmoved = s.quiet.unmoved := by
  unfold State.holdOff
  simp

@[simp ↓] theorem State.dropCause_still (s : State) (cause : Nat) : (s.dropCause cause).quiet.unmoved = s.quiet.unmoved := by
  rfl

@[simp ↓] theorem State.applySafe_still (s : State) (k safe code : Nat) : (s.applySafe k safe code).quiet.unmoved = s.quiet.unmoved := by
  unfold State.applySafe
  dsimp only
  (repeat' split) <;> simp

@[simp ↓] theorem State.faultState_still (s : State) (k : Nat) (st : AxState) : (s.faultState k st).quiet.unmoved = s.quiet.unmoved := by
  unfold State.faultState
  simp only [↓still_ite, ↓State.axisOff_still, ↓State.endEpisode_still, ↓State.endOp_quiet, ↓State.endPrecheckCells_still,
      ↓State.enterSto_still, ↓State.holdCells_still, ↓State.moveAxis_still, ↓State.ss1Chopper_still, ↓State.stopLane_still]

@[simp ↓] theorem State.enterFault_still (s : State) (k : Nat) (retry counted pre : Bool) :
    (s.enterFault k retry counted pre).quiet.unmoved = s.quiet.unmoved := by
  unfold State.enterFault
  dsimp only
  split <;> simp

@[simp ↓] theorem State.dropProc_still (s : State) (k : Nat) : (s.dropProc k).quiet.unmoved = s.quiet.unmoved := by
  unfold State.dropProc
  simp

@[simp ↓] theorem State.quickFault_still (s : State) (k : Nat) (retry counted : Bool) :
    (s.quickFault k retry counted).quiet.unmoved = s.quiet.unmoved := by
  unfold State.quickFault
  dsimp only
  (repeat' split) <;> simp

@[simp ↓] theorem State.react_still (s : State) (k : Nat) (r : React) (pre : Bool) : (s.react k r pre).quiet.unmoved = s.quiet.unmoved := by
  unfold State.react
  (repeat' split) <;> simp

@[simp ↓] theorem State.arbReact_still (s : State) (k : Nat) (r : React) (pre : Bool) :
    (s.arbReact k r pre).1.quiet.unmoved = s.quiet.unmoved := by
  unfold State.arbReact
  dsimp only
  (repeat' split) <;> simp

@[simp ↓] theorem State.enterRecord_still (s : State) (code k inst safe : Nat) (path : String) (pre : Bool) :
    (s.enterRecord code k inst safe path pre).quiet.unmoved = s.quiet.unmoved := by
  unfold State.enterRecord
  simp

@[simp ↓] theorem State.raiseOn_still (s : State) (code k inst : Nat) (path : String) (hard : Bool := true) (pre : Bool := false) :
    (s.raiseOn code k inst path hard pre).quiet.unmoved = s.quiet.unmoved := by
  unfold State.raiseOn
  dsimp only
  split <;> simp

@[simp ↓] theorem State.raiseAll_still (s : State) (code : Nat) (ks : List Nat) (inst : Nat) (path : String) (hard : Bool := true) :
    (s.raiseAll code ks inst path hard).quiet.unmoved = s.quiet.unmoved := by
  unfold State.raiseAll
  split <;> simp

@[simp ↓] theorem State.raiseModule_still (s : State) (code inst : Nat) (path : String) :
    (s.raiseModule code inst path).quiet.unmoved = s.quiet.unmoved := by
  unfold State.raiseModule
  simp

@[simp ↓] theorem State.clearing_still (s : State) (code inst : Nat) (ok : Bool) :
    (s.clearing code inst ok).quiet.unmoved = s.quiet.unmoved := by
  rfl

@[simp ↓] theorem State.freeChans_still (s : State) (cs : List Nat) : (s.freeChans cs).quiet.unmoved = s.quiet.unmoved := by
  unfold State.freeChans
  simp

@[simp ↓] theorem State.clearAxis_still (s : State) (k : Nat) : (s.clearAxis k).quiet.unmoved = s.quiet.unmoved := by
  unfold State.clearAxis
  simp only [↓foldl_still, implies_true, ↓still_upd_standing, ↓State.freeChans_still, ↓State.modAx_still, ↓State.unstand_quiet]

@[simp ↓] theorem State.freed_still (s : State) (f : Standing) : (s.freed f).quiet.unmoved = s.quiet.unmoved := by
  unfold State.freed
  simp

@[simp ↓] theorem State.idleClear_still (s : State) (code inst : Nat) : (s.idleClear code inst).quiet.unmoved = s.quiet.unmoved := by
  unfold State.idleClear
  simp only [↓foldl_still, implies_true, ↓still_upd_standing, ↓State.freed_still, ↓State.unstand_quiet]

@[simp ↓] theorem State.stoEnd_still (s : State) (k : Nat) : (s.stoEnd k).quiet.unmoved = s.quiet.unmoved := by
  unfold State.stoEnd
  simp

@[simp ↓] theorem State.endStop_still (s : State) (k : Nat) : (s.endStop k).quiet.unmoved = s.quiet.unmoved := by
  unfold State.endStop
  dsimp only
  split <;> simp

@[simp ↓] theorem State.beginStop_still (s : State) (k : Nat) (kind : StopKind) (fin : StopEnd) :
    (s.beginStop k kind fin).quiet.unmoved = s.quiet.unmoved := by
  unfold State.beginStop
  simp

@[simp ↓] theorem State.zeroTrack_still (s : State) (k : Nat) : (s.zeroTrack k).quiet.unmoved = s.quiet.unmoved := by
  rfl

@[simp ↓] theorem State.portUp_still (s : State) (p : Nat) : (s.portUp p).quiet.unmoved = s.quiet.unmoved := by
  unfold State.portUp
  dsimp only
  (repeat' split) <;> simp

@[simp ↓] theorem State.hiveStop_still (s : State) : s.hiveStop.quiet.unmoved = s.quiet.unmoved := by
  unfold State.hiveStop
  simp

@[simp ↓] theorem State.hiveEffect_still (s : State) : s.hiveEffect.quiet.unmoved = s.quiet.unmoved := by
  unfold State.hiveEffect
  simp

@[simp ↓] theorem State.correct_still (s : State) (theta : Int) : (s.correct theta).quiet.unmoved = s.quiet.unmoved := by
  unfold State.correct
  dsimp only
  split <;> simp only [↓still_ite, ↓quiet_upd_swarm_queues, ↓State.busEvent_quiet, ↓State.clockJump_quiet, ↓State.clockSet_quiet,
      ↓State.incPar_quiet, ↓State.setPar_quiet, ↓State.setTimeState_quiet, ↓State.timeBegins_quiet]

@[simp ↓] theorem State.reference_still (s : State) (p id : Nat) (data : Bytes) (h : Int) :
    (s.reference p id data h).quiet.unmoved = s.quiet.unmoved := by
  unfold State.reference
  extract_lets +onlyGivenNames src r s1 keep better
  split
  · rfl
  · extract_lets +onlyGivenNames _ s2 _ s3
    have h1 : s1.quiet.unmoved = s.quiet.unmoved := congrArg State.unmoved (State.combMatch_quiet ..)
    have h3 : s3.quiet.unmoved = s.quiet.unmoved :=
      still_ite_trans (congrArg State.unmoved (State.setSb_quiet s2 p { s2.sb p with betterAt := some s2.now })) h1
    split
    · exact h3
    · extract_lets +onlyGivenNames _ s4
      have h4 : s4.quiet.unmoved = s.quiet.unmoved := still_ite_trans (by simp) h3
      split
      · split
        · simp [h4]
        · exact h4
      · exact h4

@[simp ↓] theorem addrClaimed_still (s : State) : (addrClaimed s).quiet.unmoved = s.quiet.unmoved := by
  unfold addrClaimed
  split <;> simp

@[simp ↓] theorem State.busOff_still (s : State) (p : Nat) : (s.busOff p).quiet.unmoved = s.quiet.unmoved := by
  unfold State.busOff
  simp only [↓still_ite, ↓quiet_upd_swarm_queues, ↓State.copyEmerg_quiet, ↓State.countBits_quiet, ↓State.errEvent_quiet,
      ↓State.incPar_quiet, ↓State.raiseModule_still, ↓State.setPar_quiet, ↓State.setSb_quiet]

@[simp ↓] theorem State.setCounters_still (s : State) (p tec rx : Nat) : (s.setCounters p tec rx).quiet.unmoved = s.quiet.unmoved := by
  unfold State.setCounters
  simp

@[simp ↓] theorem State.recvGood_still (s : State) (p : Nat) : (s.recvGood p).quiet.unmoved = s.quiet.unmoved := by
  unfold State.recvGood
  simp

@[simp ↓] theorem State.dataFrame_still (s : State) (p id flags : Nat) (data : Bytes) (h : Int) :
    (s.dataFrame p id flags data h).quiet.unmoved = s.quiet.unmoved := by
  unfold State.dataFrame
  dsimp only
  (repeat' split) <;> simp

@[simp ↓] theorem frameReceived_still (p kind id : Nat) (brs esi : Bool) (data : Bytes) (rx : RxBits) (s : State) :
    (frameReceived p kind id brs esi data rx s).quiet.unmoved = s.quiet.unmoved := by
  unfold frameReceived
  split <;> simp

@[simp ↓] theorem classReceived_still (cls : Nat) (detail : Option Nat) (p id : Nat) (data : Bytes) (rx : RxBits) (s : State) :
    (classReceived cls detail p id data rx s).quiet.unmoved = s.quiet.unmoved := by
  unfold classReceived
  simp

@[simp ↓] theorem State.measureTdc_still (s : State) (p : Nat) (h : Int) (tdc : Nat) :
    (s.measureTdc p h tdc).quiet.unmoved = s.quiet.unmoved := by
  unfold State.measureTdc
  simp

@[simp ↓] theorem frameSent_still (p dur tdc : Nat) (s : State) : (frameSent p dur tdc s).quiet.unmoved = s.quiet.unmoved := by
  unfold frameSent
  dsimp only
  (repeat' split) <;> simp

@[simp ↓] theorem State.identTwin_still (s : State) (p id : Nat) : (s.identTwin p id).quiet.unmoved = s.quiet.unmoved := by
  unfold State.identTwin
  simp

@[simp ↓] theorem txError_still (p : Nat) (err : TxErr) (dur : Nat) (s : State) : (txError p err dur s).quiet.unmoved = s.quiet.unmoved := by
  unfold txError
  dsimp only
  (repeat' split) <;> simp

@[simp ↓] theorem rxError_still (p : Nat) (by8 : Bool) (s : State) : (rxError p by8 s).quiet.unmoved = s.quiet.unmoved := by
  unfold rxError
  simp

@[simp ↓] theorem busOffRecovered_still (p : Nat) (s : State) : (busOffRecovered p s).quiet.unmoved = s.quiet.unmoved := by
  unfold busOffRecovered
  simp

@[simp ↓] theorem State.sbStop_still (s : State) (p : Nat) : (s.sbStop p).quiet.unmoved = s.quiet.unmoved := by
  unfold State.sbStop
  simp

@[simp ↓] theorem sbEnWrite_still (p v : Nat) (s : State) : (sbEnWrite p v s).quiet.unmoved = s.quiet.unmoved := by
  unfold sbEnWrite
  split <;> simp

@[simp ↓] theorem State.activate_still (s : State) (p : Nat) : (s.activate p).quiet.unmoved = s.quiet.unmoved := by
  unfold State.activate
  simp

@[simp ↓] theorem State.spoilLane_still (s : State) (n : Nat) : (s.spoilLane n).quiet.unmoved = s.quiet.unmoved := by
  rfl

/-- A byte read changes nothing, or draws one free value. Before the cases of its region the region function is made a variable: the kernel
would otherwise compute it at the address. -/
theorem State.hbyte_after (f : State → Nat → Byte × State) (hf : f = State.hbyte) (s : State) (a : Nat) : (f s a).2 = s ∨ (f s a).2 = (s.draw 8).2 := by
  delta State.hbyte at hf
  generalize regionOf = r at hf
  as_aux_lemma =>
    subst hf
    dsimp only
    cases r a
    case queue => exact .inr rfl
    case image => exact .inr rfl
    all_goals exact .inl rfl

@[simp ↓] theorem State.hbyte_still (s : State) (a : Nat) : (s.hbyte a).2.quiet.unmoved = s.quiet.unmoved := by
  obtain h | h := State.hbyte_after _ rfl s a
  · rw [h]
  · rw [h, State.draw_still]

@[simp ↓] theorem State.hread_still (s : State) (a n : Nat) : (s.hread a n).2.quiet.unmoved = s.quiet.unmoved := by
  induction n generalizing s a with
  | zero => rfl
  | succ n ih =>
    rw [State.hread]
    exact (ih _ _).trans (State.hbyte_still s a)

@[simp ↓] theorem State.fgServe_still (s : State) (c : Nat) : (s.fgServe c).quiet.unmoved = s.quiet.unmoved := by
  rfl

@[simp ↓] theorem State.entryHeader_still (s : State) (e : Entry) : (s.entryHeader e).2.quiet.unmoved = s.quiet.unmoved := by
  unfold State.entryHeader
  split <;> simp

@[simp ↓] theorem State.flashByte_still (s : State) (a : Nat) : (s.flashByte a).2.quiet.unmoved = s.quiet.unmoved := by
  unfold State.flashByte
  split
  · rfl
  · split
    · rfl
    · exact s.draw_still 8

@[simp ↓] theorem State.flashRead_still (s : State) (a n : Nat) : (s.flashRead a n).2.quiet.unmoved = s.quiet.unmoved := by
  induction n generalizing s a with
  | zero => rfl
  | succ n ih =>
    rw [State.flashRead]
    exact (ih _ _).trans (State.flashByte_still s a)

@[simp ↓] theorem State.crcFinish_still (s : State) (c : Nat) (r : FgRun) : (s.crcFinish c r).quiet.unmoved = s.quiet.unmoved := by
  unfold State.crcFinish
  simp

@[simp ↓] theorem State.carrierError_still (s : State) (c : Nat) : (s.carrierError c).quiet.unmoved = s.quiet.unmoved := by
  unfold State.carrierError
  simp

@[simp ↓] theorem State.calOffset_still (s : State) (b x : Nat) (code : Int) : (s.calOffset b x code).quiet.unmoved = s.quiet.unmoved := by
  unfold State.calOffset
  simp only [↓still_ite, ↓State.setBridge_still, ↓State.setPar_quiet, ↓State.unstandCode_still]

@[simp ↓] theorem State.linkOv_still (s : State) (k : Nat) : (s.linkOv k).quiet.unmoved = s.quiet.unmoved := by
  unfold State.linkOv
  simp

@[simp ↓] theorem State.newReference_still (s : State) (k : Nat) (corr : Int) :
    (s.newReference k corr).quiet.unmoved = s.quiet.unmoved := by
  unfold State.newReference
  split <;> simp

@[simp ↓] theorem State.addSats_still (s : State) (k n : Nat) : (s.addSats k n).quiet.unmoved = s.quiet.unmoved := by
  unfold State.addSats
  simp

@[simp ↓] theorem State.calc_still {α : Type} (s : State) (k : Nat) (c : Calc α) : (s.calc k c).2.quiet.unmoved = s.quiet.unmoved := by
  unfold State.calc
  simp

@[simp ↓] theorem State.vmUpdate_still (s : State) (k : Nat) : (s.vmUpdate k).quiet.unmoved = s.quiet.unmoved := by
  unfold State.vmUpdate
  simp

@[simp ↓] theorem State.fuse_still (s : State) (k cyc : Nat) (hold rest : Bool) :
    (s.fuse k cyc hold rest).quiet.unmoved = s.quiet.unmoved := by
  unfold State.fuse
  extract_lets +onlyGivenNames was s1 s2 s3 p wasCold vs thp0 thp nu inGate gated c sw e wn0 clampBw wn theta wi den
  have h2 : s2.quiet.unmoved = s.quiet.unmoved := still_ite_trans (congrArg State.unmoved (State.posEvent_quiet ..)) (State.modAx_still ..)
  have h3 : s3.quiet.unmoved = s.quiet.unmoved := by
    rw [← h2]
    simp only [s3]
    split
    · exact congrArg State.unmoved (State.setBit_quiet s2 _ _ _ _ _)
    · rfl
  have hcalc := State.calc_still s3 k (satTo s32lo s32hi (rdiv (wi * 10000000000000) den))
  split
  next we s4 heq =>
    rw [heq] at hcalc
    have h4 : s4.quiet.unmoved = s.quiet.unmoved := hcalc.trans h3
    extract_lets +onlyGivenNames iface sensorIn rep imposed
    clear_value imposed rep sensorIn iface
    split
    dsimp only
    simp only [State.setBit_quiet, State.setPar_quiet]
    refine still_ite_trans ?_ ((State.modAx_still ..).trans h4)
    cases iface with
    | some i => simp only [↓State.modAx_still, State.setBit_quiet, State.setPar_quiet]
    | none => rfl

@[simp ↓] theorem sourceDropped_still (k src : Nat) (s : State) : (sourceDropped k src s).quiet.unmoved = s.quiet.unmoved := by
  unfold sourceDropped
  dsimp only
  split <;> simp

@[simp ↓] theorem sourceReadmitted_still (k src : Nat) (s : State) : (sourceReadmitted k src s).quiet.unmoved = s.quiet.unmoved := by
  unfold sourceReadmitted
  dsimp only
  split <;> simp

@[simp ↓] theorem waggleReversal_still (k : Nat) (s : State) : (waggleReversal k s).quiet.unmoved = s.quiet.unmoved := by
  unfold waggleReversal
  simp

@[simp ↓] theorem State.setProc_still (s : State) (k : Nat) (f : AxPos → AxPos) : (s.setProc k f).quiet.unmoved = s.quiet.unmoved := by
  unfold State.setProc
  simp

@[simp ↓] theorem State.scoutTry_still (s : State) (k : Nat) (volt : Int) : (s.scoutTry k volt).quiet.unmoved = s.quiet.unmoved := by
  unfold State.scoutTry
  simp

@[simp ↓] theorem State.startBy_still (s : State) (k row : Nat) : (s.startBy k row).quiet.unmoved = s.quiet.unmoved := by
  unfold State.startBy
  split <;> simp

@[simp ↓] theorem State.posLost_still (s : State) (k : Nat) : (s.posLost k).quiet.unmoved = s.quiet.unmoved := by
  unfold State.posLost
  simp

@[simp ↓] theorem State.catchStart_still (s : State) (k : Nat) (again : Bool := false) :
    (s.catchStart k again).quiet.unmoved = s.quiet.unmoved := by
  unfold State.catchStart
  simp

@[simp ↓] theorem State.catchNext_still (s : State) (k : Nat) (again : Bool := false) :
    (s.catchNext k again).quiet.unmoved = s.quiet.unmoved := by
  unfold State.catchNext
  simp

@[simp ↓] theorem State.lossOfSync_still (s : State) (k cause : Nat) : (s.lossOfSync k cause).quiet.unmoved = s.quiet.unmoved := by
  unfold State.lossOfSync
  simp

@[simp ↓] theorem catchLock_still (k : Nat) (s : State) : (catchLock k s).quiet.unmoved = s.quiet.unmoved := by
  unfold catchLock
  simp

@[simp ↓] theorem catchNoEmf_still (k : Nat) (s : State) : (catchNoEmf k s).quiet.unmoved = s.quiet.unmoved := by
  unfold catchNoEmf
  dsimp only
  split <;> simp

@[simp ↓] theorem catchTimeout_still (k : Nat) (s : State) : (catchTimeout k s).quiet.unmoved = s.quiet.unmoved := by
  unfold catchTimeout
  simp

@[simp ↓] theorem catchUsedReset_still (k : Nat) (s : State) : (catchUsedReset k s).quiet.unmoved = s.quiet.unmoved := by
  unfold catchUsedReset
  split <;> simp

@[simp ↓] theorem State.scoutFail_still (s : State) (k : Nat) : (s.scoutFail k).quiet.unmoved = s.quiet.unmoved := by
  unfold State.scoutFail
  simp

@[simp ↓] theorem State.switchesOff_still (s : State) (k : Nat) : (s.switchesOff k).quiet.unmoved = s.quiet.unmoved := by
  unfold State.switchesOff
  simp

@[simp ↓] theorem State.scoutTryFailed_still (s : State) (k : Nat) : (s.scoutTryFailed k).quiet.unmoved = s.quiet.unmoved := by
  unfold State.scoutTryFailed
  simp

@[simp ↓] theorem scoutSettleTimeout_still (k : Nat) (s : State) : (scoutSettleTimeout k s).quiet.unmoved = s.quiet.unmoved := by
  unfold scoutSettleTimeout
  simp

@[simp ↓] theorem polarityPulseEnd_still (k : Nat) (raw : List Int) (s : State) : (polarityPulseEnd k raw s).quiet.unmoved = s.quiet.unmoved := by
  unfold polarityPulseEnd
  dsimp only
  (repeat' split) <;> simp only [↓State.setBit_quiet, ↓State.setPar_quiet, ↓State.setProc_still, ↓State.switchesOff_still]

@[simp ↓] theorem State.takeCodes_still (s : State) (bs : List Nat) (codes : List (List Int)) :
    (s.takeCodes bs codes).quiet.unmoved = s.quiet.unmoved := by
  unfold State.takeCodes
  simp

@[simp ↓] theorem currentDecayed_still (k : Nat) (codes : List (List Int)) (s : State) :
    (currentDecayed k codes s).quiet.unmoved = s.quiet.unmoved := by
  unfold currentDecayed
  dsimp only
  (repeat' split) <;> simp

@[simp ↓] theorem scoutBackEnd_still (k : Nat) (s : State) : (scoutBackEnd k s).quiet.unmoved = s.quiet.unmoved := by
  unfold scoutBackEnd
  dsimp only
  split <;> simp

@[simp ↓] theorem limpCrossingTimeout_still (k : Nat) (s : State) : (limpCrossingTimeout k s).quiet.unmoved = s.quiet.unmoved := by
  unfold limpCrossingTimeout
  simp

@[simp ↓] theorem limpReturn_still (k : Nat) (s : State) : (limpReturn k s).quiet.unmoved = s.quiet.unmoved := by
  unfold limpReturn
  simp

@[simp ↓] theorem State.seOpen_still (s : State) (n k : Nat) : (s.seOpen n k).quiet.unmoved = s.quiet.unmoved := by
  unfold State.seOpen
  simp only [↓still_ite, ↓foldl_still, implies_true, ↓State.modAx_still, ↓State.reportCarrier_quiet, ↓State.setBridge_still,
      ↓State.setLane_still]

@[simp ↓] theorem State.calPeak_still (s : State) (b half : Nat) (w : Words) (codes : List Int) (rawV : List Nat) :
    (s.calPeak b half w codes rawV).quiet.unmoved = s.quiet.unmoved := by
  refine foldl_still _ _ _ fun s x => ?_
  dsimp only
  split
  · rw [State.calVgain_quiet]
    exact still_ite _ _ _ (State.calOffset_still ..)
  · rfl

@[simp ↓] theorem State.calIdle_still (s : State) (b : Nat) (codes v : List Int) (vdc : Int) :
    (s.calIdle b codes v vdc).quiet.unmoved = s.quiet.unmoved := by
  unfold State.calIdle
  simp

@[simp ↓] theorem State.senseBridge_still (s : State) (k b : Nat) (peak : Bool) (half : Nat) (w : Words) (raw : List Int) (rawV : List Nat) :
    (s.senseBridge k b peak half w raw rawV).quiet.unmoved = s.quiet.unmoved := by
  unfold State.senseBridge
  (repeat' split) <;> simp

@[simp ↓] theorem State.spareLost_still (s : State) : s.spareLost.quiet.unmoved = s.quiet.unmoved := by
  unfold State.spareLost
  simp

@[simp ↓] theorem State.takeover_still (s : State) (n k : Nat) (again : Bool) : (s.takeover n k again).quiet.unmoved = s.quiet.unmoved := by
  unfold State.takeover
  simp

@[simp ↓] theorem State.raiseLane_still (s : State) (overrun : Bool) (k inst : Nat) (path : String) (hard : Bool := true) :
    (s.raiseLane overrun k inst path hard).quiet.unmoved = s.quiet.unmoved := by
  unfold State.raiseLane
  simp

@[simp ↓] theorem edgeDispatch_still (n : Nat) (s : State) : (edgeDispatch n s).quiet.unmoved = s.quiet.unmoved := by
  unfold edgeDispatch
  split <;> simp

@[simp ↓] theorem laneSelfTest_still (n : Nat) (pass : Bool) (s : State) : (laneSelfTest n pass s).quiet.unmoved = s.quiet.unmoved := by
  unfold laneSelfTest
  simp

@[simp ↓] theorem houseSilent_still (k : Nat) (s : State) : (houseSilent k s).quiet.unmoved = s.quiet.unmoved := by
  unfold houseSilent
  dsimp only
  split <;> simp

@[simp ↓] theorem bridgeImbalance_still (k : Nat) (s : State) : (bridgeImbalance k s).quiet.unmoved = s.quiet.unmoved := by
  unfold bridgeImbalance
  split <;> simp

@[simp ↓] theorem State.senseFault_still (s : State) (code b : Nat) (hard : Bool := true) :
    (s.senseFault code b hard).quiet.unmoved = s.quiet.unmoved := by
  unfold State.senseFault
  simp

@[simp ↓] theorem phaseOc_still (b : Nat) (raw : List Int) (s : State) : (phaseOc b raw s).quiet.unmoved = s.quiet.unmoved := by
  unfold phaseOc
  simp

@[simp ↓] theorem sdStream_still (i wave : Nat) (s : State) : (sdStream i wave s).quiet.unmoved = s.quiet.unmoved := by
  unfold sdStream
  dsimp only
  split <;> simp

@[simp ↓] theorem senseSum_still (b : Nat) (s : State) : (senseSum b s).quiet.unmoved = s.quiet.unmoved := by
  unfold senseSum
  simp

@[simp ↓] theorem senseOffset_still (b x : Nat) (s : State) : (senseOffset b x s).quiet.unmoved = s.quiet.unmoved := by
  unfold senseOffset
  simp

@[simp ↓] theorem senseRefCheck_still (b : Nat) (cur : List Int) (volt : Int) (s : State) :
    (senseRefCheck b cur volt s).quiet.unmoved = s.quiet.unmoved := by
  unfold senseRefCheck
  split <;> simp

@[simp ↓] theorem vdcDisagree_still (k : Nat) (s : State) : (vdcDisagree k s).quiet.unmoved = s.quiet.unmoved := by
  unfold vdcDisagree
  simp

@[simp ↓] theorem State.ascTrack_still (s : State) (k : Nat) : (s.ascTrack k).quiet.unmoved = s.quiet.unmoved := by
  rfl

@[simp ↓] theorem State.thermalAxes_still (s : State) (latched : Bool) : (s.thermalAxes latched).quiet.unmoved = s.quiet.unmoved := by
  unfold State.thermalAxes
  simp

@[simp ↓] theorem State.storePoint_still (s : State) (b j point vgl : Nat) :
    (s.storePoint b j point vgl).1.quiet.unmoved = s.quiet.unmoved := by
  unfold State.storePoint
  dsimp only
  (repeat' split) <;> simp only [↓State.setPar_quiet]

@[simp ↓] theorem State.cellFault_still (s : State) (code g inst : Nat) (path : String) :
    (s.cellFault code g inst path).quiet.unmoved = s.quiet.unmoved := by
  unfold State.cellFault
  split <;> simp

@[simp ↓] theorem softOffLevelEnd_still (c : Nat) (s : State) : (softOffLevelEnd c s).quiet.unmoved = s.quiet.unmoved := by
  unfold softOffLevelEnd
  simp

@[simp ↓] theorem gateOffDetected_still (c : Nat) (s : State) : (gateOffDetected c s).quiet.unmoved = s.quiet.unmoved := by
  unfold gateOffDetected
  simp

@[simp ↓] theorem gateStageChange_still (c what plateau : Nat) (s : State) :
    (gateStageChange c what plateau s).quiet.unmoved = s.quiet.unmoved := by
  unfold gateStageChange
  dsimp only
  (repeat' split) <;> simp

@[simp ↓] theorem deadTimeExpired_still (c : Nat) (s : State) : (deadTimeExpired c s).quiet.unmoved = s.quiet.unmoved := by
  unfold deadTimeExpired
  simp

@[simp ↓] theorem gateStuck_still (c : Nat) (s : State) : (gateStuck c s).quiet.unmoved = s.quiet.unmoved := by
  unfold gateStuck
  simp

@[simp ↓] theorem edgeAtGatePin_still (c : Nat) (on : Bool) (s : State) : (edgeAtGatePin c on s).quiet.unmoved = s.quiet.unmoved := by
  unfold edgeAtGatePin
  (repeat' split) <;> simp

@[simp ↓] theorem crossCmd_still (g : Nat) (s : State) : (crossCmd g s).quiet.unmoved = s.quiet.unmoved := by
  unfold crossCmd
  simp

@[simp ↓] theorem State.dgFollow_still (s : State) (c : Nat) : (s.dgFollow c).quiet.unmoved = s.quiet.unmoved := by
  unfold State.dgFollow
  simp

@[simp ↓] theorem dgEdge_still (p : Nat) (high : Bool) (s : State) : (dgEdge p high s).quiet.unmoved = s.quiet.unmoved := by
  unfold dgEdge
  (repeat' split) <;> simp

@[simp ↓] theorem bootstrapUv_still (g v : Nat) (s : State) : (bootstrapUv g v s).quiet.unmoved = s.quiet.unmoved := by
  unfold bootstrapUv
  dsimp only
  (repeat' split) <;> simp

@[simp ↓] theorem ocBackstop_still (b : Nat) (s : State) : (ocBackstop b s).quiet.unmoved = s.quiet.unmoved := by
  unfold ocBackstop
  simp

@[simp ↓] theorem holdoffRequest_still (mask : Nat) (on : Bool) (s : State) : (holdoffRequest mask on s).quiet.unmoved = s.quiet.unmoved := by
  unfold holdoffRequest
  (repeat' split) <;> simp

@[simp ↓] theorem ascEnd_still (k : Nat) (s : State) : (ascEnd k s).quiet.unmoved = s.quiet.unmoved := by
  unfold ascEnd
  split <;> simp

@[simp ↓] theorem stoInputChange_still (which : Nat) (high : Bool) (s : State) :
    (stoInputChange which high s).quiet.unmoved = s.quiet.unmoved := by
  rfl

@[simp ↓] theorem State.stoAxes_still (s : State) : s.stoAxes.quiet.unmoved = s.quiet.unmoved := by
  unfold State.stoAxes
  extract_lets +onlyGivenNames s1 s2 s3
  have h1 : s1.quiet.unmoved = s.quiet.unmoved := by simp [s1]
  split
  · refine (State.ss1Chopper_still ..).trans ((each_still _ _ _ fun k s => ?_).trans h1)
    dsimp only
    split <;> simp
  · refine (each_still _ _ _ fun k s => State.enterSto_still ..).trans ((State.holdOff_still ..).trans ?_)
    exact (each_still _ _ _ fun k s => State.arb_still ..).trans h1

@[simp ↓] theorem State.stoLeave_still (s : State) : s.stoLeave.quiet.unmoved = s.quiet.unmoved := by
  unfold State.stoLeave
  simp

@[simp ↓] theorem State.discAxes_still (s : State) : s.discAxes.quiet.unmoved = s.quiet.unmoved := by
  unfold State.discAxes
  simp

@[simp ↓] theorem State.timeoutAxes_still (s : State) : s.timeoutAxes.quiet.unmoved = s.quiet.unmoved := by
  unfold State.timeoutAxes
  simp

@[simp ↓] theorem State.payLate_still (s : State) (l : Late) : (s.payLate l).quiet.unmoved = s.quiet.unmoved := by
  unfold State.payLate
  split <;> simp only [↓still_ite, ↓foldl_still, ↓each_still, implies_true, ↓still_upd_standing, ↓State.discAxes_still,
      ↓State.emergency_quiet, ↓State.enterSto_still, ↓State.stoLeave_still, ↓State.thermalAxes_still, ↓State.timeoutAxes_still,
      ↓State.unstandCode_still, ↓State.unstand_quiet]

@[simp ↓] theorem State.foreignEnd_still (s : State) (port : Nat) : (s.foreignEnd port).quiet.unmoved = s.quiet.unmoved := by
  unfold State.foreignEnd
  simp

@[simp ↓] theorem faultCleared_still (code inst : Nat) (s : State) : (faultCleared code inst s).quiet.unmoved = s.quiet.unmoved := by
  unfold faultCleared
  (repeat' split) <;> simp

@[simp ↓] theorem State.preFails_still (s : State) (k bitNo : Nat) (fs : List (Nat × Nat × String)) (hard : Bool := true) :
    (s.preFails k bitNo fs hard).quiet.unmoved = s.quiet.unmoved := by
  unfold State.preFails
  split <;> simp

@[simp ↓] theorem State.preFail_still (s : State) (k bitNo code inst : Nat) (path : String) :
    (s.preFail k bitNo code inst path).quiet.unmoved = s.quiet.unmoved := by
  unfold State.preFail
  simp

@[simp ↓] theorem State.startBridge_still (s : State) (k : Nat) (p : Precheck) : (s.startBridge k p).quiet.unmoved = s.quiet.unmoved := by
  unfold State.startBridge
  dsimp only
  split <;> simp

@[simp ↓] theorem State.beginDiag_still (s : State) (k : Nat) (emg : Bool) : (s.beginDiag k emg).quiet.unmoved = s.quiet.unmoved := by
  unfold State.beginDiag
  dsimp only
  (repeat' split) <;> simp

@[simp ↓] theorem State.preStep_still (s : State) (k : Nat) (f : Precheck → Precheck) :
    (s.preStep k f).quiet.unmoved = s.quiet.unmoved := by
  unfold State.preStep
  split <;> simp

@[simp ↓] theorem precheckPumpDeadline_still (k : Nat) (s : State) : (precheckPumpDeadline k s).quiet.unmoved = s.quiet.unmoved := by
  unfold precheckPumpDeadline
  (repeat' split) <;> simp

@[simp ↓] theorem gateLoopTest_still (k : Nat) (reached : Bool) (ns mv : Nat) (s : State) :
    (gateLoopTest k reached ns mv s).quiet.unmoved = s.quiet.unmoved := by
  unfold gateLoopTest
  (repeat' split) <;> simp

@[simp ↓] theorem desatTest_still (k : Nat) (trips rises : Bool) (s : State) : (desatTest k trips rises s).quiet.unmoved = s.quiet.unmoved := by
  unfold desatTest
  split <;> simp

@[simp ↓] theorem phaseTest_still (k : Nat) (off node : List Nat) (s : State) : (phaseTest k off node s).quiet.unmoved = s.quiet.unmoved := by
  unfold phaseTest
  (repeat' split) <;> simp

@[simp ↓] theorem sensingTest_still (k : Nat) (zero : List (List Int)) (ref0 ref1 : List Int) (s : State) :
    (sensingTest k zero ref0 ref1 s).quiet.unmoved = s.quiet.unmoved := by
  unfold sensingTest
  dsimp only
  (repeat' split) <;> simp

@[simp ↓] theorem chopperTest_still (k : Nat) (reached : Bool) (ns mv : Nat) (trips : Bool) (s : State) :
    (chopperTest k reached ns mv trips s).quiet.unmoved = s.quiet.unmoved := by
  unfold chopperTest
  (repeat' split) <;> simp

@[simp ↓] theorem precheckBridgeDone_still (k : Nat) (s : State) : (precheckBridgeDone k s).quiet.unmoved = s.quiet.unmoved := by
  unfold precheckBridgeDone
  (repeat' split) <;> simp

@[simp ↓] theorem State.i2tUpdate_still (s : State) (k : Nat) : (s.i2tUpdate k).quiet.unmoved = s.quiet.unmoved := by
  unfold State.i2tUpdate
  simp

@[simp ↓] theorem State.ventilate_still (s : State) (k : Nat) (w : Int) (act : Bool) (sp : AxSpeed) :
    (s.ventilate k w act sp).2.quiet.unmoved = s.quiet.unmoved := by
  unfold State.ventilate
  dsimp only
  (repeat' split) <;> simp

@[simp ↓] theorem State.uvTick_still (s : State) (k : Nat) : (s.uvTick k).quiet.unmoved = s.quiet.unmoved := by
  unfold State.uvTick
  dsimp only
  (repeat' split) <;> simp

@[simp ↓] theorem snatchDwellEnd_still (k : Nat) (s : State) : (snatchDwellEnd k s).quiet.unmoved = s.quiet.unmoved := by
  unfold snatchDwellEnd
  dsimp only
  split <;> simp

@[simp ↓] theorem ventSet_still (k : Nat) (s : State) : (ventSet k s).quiet.unmoved = s.quiet.unmoved := by
  unfold ventSet
  dsimp only
  split <;> simp

@[simp ↓] theorem ventEnd_still (k : Nat) (s : State) : (ventEnd k s).quiet.unmoved = s.quiet.unmoved := by
  unfold ventEnd
  dsimp only
  split <;> simp

@[simp ↓] theorem standstillReached_still (k : Nat) (s : State) : (standstillReached k s).quiet.unmoved = s.quiet.unmoved := by
  unfold standstillReached
  dsimp only
  split <;> simp

@[simp ↓] theorem State.uvRaise_still (s : State) (l k : Nat) : (s.uvRaise l k).quiet.unmoved = s.quiet.unmoved := by
  unfold State.uvRaise
  simp

@[simp ↓] theorem linkUv_still (k : Nat) (s : State) : (linkUv k s).quiet.unmoved = s.quiet.unmoved := by
  unfold linkUv
  split <;> simp

@[simp ↓] theorem State.emgDiagnose_still (s : State) (k : Nat) : (s.emgDiagnose k).quiet.unmoved = s.quiet.unmoved := by
  unfold State.emgDiagnose
  simp

@[simp ↓] theorem State.enterEmergency_still (s : State) (k : Nat) : (s.enterEmergency k).quiet.unmoved = s.quiet.unmoved := by
  unfold State.enterEmergency
  split <;> simp

@[simp ↓] theorem ecLost_still (k : Nat) (s : State) : (ecLost k s).quiet.unmoved = s.quiet.unmoved := by
  unfold ecLost
  dsimp only
  split <;> simp

@[simp ↓] theorem ecBack_still (k : Nat) (s : State) : (ecBack k s).quiet.unmoved = s.quiet.unmoved := by
  unfold ecBack
  dsimp only
  (repeat' split) <;> simp

@[simp ↓] theorem State.toHive_still (s : State) (x scale : Int) : (s.toHive x scale).2.quiet.unmoved = s.quiet.unmoved := by
  unfold State.toHive
  split <;> simp

@[simp ↓] theorem State.toAvail_still (s : State) (x scale : Int) : (s.toAvail x scale).2.quiet.unmoved = s.quiet.unmoved := by
  unfold State.toAvail
  split <;> simp

@[simp ↓] theorem State.avail_still (s : State) : s.avail.2.quiet.unmoved = s.quiet.unmoved := by
  unfold State.avail
  split <;> simp

@[simp ↓] theorem State.ownSlot_still (s : State) (cyc : Nat) : (s.ownSlot cyc).2.quiet.unmoved = s.quiet.unmoved := by
  unfold State.ownSlot
  dsimp only
  split <;> simp

@[simp ↓] theorem State.takeMsg_still (s : State) (cyc : Nat) : (s.takeMsg cyc).2.quiet.unmoved = s.quiet.unmoved := by
  unfold State.takeMsg
  (repeat' split) <;> rfl

@[simp ↓] theorem State.writeTray_still (s : State) (cyc : Nat) (bs : Bytes) : (s.writeTray cyc bs).2.quiet.unmoved = s.quiet.unmoved := by
  unfold State.writeTray
  dsimp only
  (repeat' split) <;> simp

@[simp ↓] theorem State.enterFallback_still (s : State) (tm : Bool) : (s.enterFallback tm).quiet.unmoved = s.quiet.unmoved := by
  unfold State.enterFallback
  dsimp only
  split <;> simp

@[simp ↓] theorem State.setTorqueMaster_still (s : State) (m n : Nat) : (s.setTorqueMaster m n).quiet.unmoved = s.quiet.unmoved := by
  unfold State.setTorqueMaster
  simp

@[simp ↓] theorem State.chooseMaster_still (s : State) : s.chooseMaster.2.quiet.unmoved = s.quiet.unmoved := by
  unfold State.chooseMaster
  extract_lets ok cur
  split
  · rfl
  · split
    · rfl
    · refine foldl_snd_still _ _ _ fun a m => ?_
      dsimp only
      have hr : (if m = s.member then (s.rpN P.hiveRank, a.2) else a.2.draw 4).2.quiet.unmoved = a.2.quiet.unmoved := by split <;> rfl
      generalize (if m = s.member then (s.rpN P.hiveRank, a.2) else a.2.draw 4) = r at hr ⊢
      split
      · exact hr
      · split
        · split <;> exact hr
        · exact hr

@[simp ↓] theorem State.delayRequests_still (s : State) : s.delayRequests.quiet.unmoved = s.quiet.unmoved := by
  unfold State.delayRequests
  simp

@[simp ↓] theorem State.startTrays_still (s : State) (cyc : Nat) : (s.startTrays cyc).quiet.unmoved = s.quiet.unmoved := by
  unfold State.startTrays
  simp

@[simp ↓] theorem ringCycleStart_still (s : State) : (ringCycleStart s).quiet.unmoved = s.quiet.unmoved := by
  unfold ringCycleStart
  dsimp only
  split <;> simp

@[simp ↓] theorem State.foreignTray_still (s : State) (p : Nat) : (s.foreignTray p).quiet.unmoved = s.quiet.unmoved := by
  unfold State.foreignTray
  split <;> simp

@[simp ↓] theorem State.dupCheck_still (s : State) (cyc : Nat) (d : Bytes) (good : Bool) :
    (s.dupCheck cyc d good).quiet.unmoved = s.quiet.unmoved := by
  unfold State.dupCheck
  simp

@[simp ↓] theorem State.dupEnd_still (s : State) (v : RingView) : (s.dupEnd v).quiet.unmoved = s.quiet.unmoved := by
  unfold State.dupEnd
  dsimp only
  (repeat' split) <;> simp

@[simp ↓] theorem State.takeSlots_still (s : State) (bs : Bytes) (v : RingView) (west : Bool) :
    (s.takeSlots bs v west).2.quiet.unmoved = s.quiet.unmoved := by
  refine foldl_snd_still _ _ _ fun a m => ?_
  dsimp only
  split
  · simp
  · split <;> rfl

@[simp ↓] theorem State.takeMessage_still (s : State) (bs : Bytes) (v : RingView) :
    (s.takeMessage bs v).2.quiet.unmoved = s.quiet.unmoved := by
  unfold State.takeMessage
  dsimp only
  (repeat' split) <;> simp

@[simp ↓] theorem State.takeHeader_still (s : State) (cm tm cyc : Nat) (folded : Bool) (err : Int) :
    (s.takeHeader cm tm cyc folded err).1.quiet.unmoved = s.quiet.unmoved := by
  unfold State.takeHeader
  dsimp only
  (repeat' split) <;> simp

@[simp ↓] theorem State.forwardTray_still (s : State) (p q cyc : Nat) (bs : Bytes) :
    (s.forwardTray p q cyc bs).quiet.unmoved = s.quiet.unmoved := by
  unfold State.forwardTray
  simp

@[simp ↓] theorem State.acceptTray_still (s : State) (p : Nat) (bs : Bytes) (arr : Nat) :
    (s.acceptTray p bs arr).quiet.unmoved = s.quiet.unmoved := by
  unfold State.acceptTray
  extract_lets +onlyGivenNames flags cm tm cyc sum west sentOut folded own d err _ s1
  have h1 : s1.quiet.unmoved = s.quiet.unmoved := rfl
  split
  next s2 jumped heq =>
    have h2 : s2.quiet.unmoved = s.quiet.unmoved := by
      split at heq
      · cases heq
        exact h1
      · have := State.takeHeader_still s1 cm tm cyc folded err
        rw [heq] at this
        exact this.trans h1
    extract_lets +onlyGivenNames _ s3 err2 v1 first v2 od good intact s4 v3
    have h4 : s4.quiet.unmoved = s.quiet.unmoved := (State.dupCheck_still ..).trans (still_ite_trans rfl h2)
    have hslots := State.takeSlots_still s4 bs v3 west
    split
    next v4 s5 heq5 =>
      rw [heq5] at hslots
      have hmsg := State.takeMessage_still s5 bs v4
      split
      next v5 s6 heq6 =>
        rw [heq6] at hmsg
        extract_lets +onlyGivenNames _ s7 s8
        have h7 : s7.quiet.unmoved = s.quiet.unmoved := still_ite_trans (by simp) (hmsg.trans (hslots.trans h4))
        have h8 : s8.quiet.unmoved = s.quiet.unmoved := still_ite_trans (State.delayRequests_still ..) h7
        split
        · exact (congrArg State.unmoved (State.setView_quiet ..)).trans h8
        · exact (congrArg State.unmoved (State.setView_quiet ..)).trans ((State.forwardTray_still ..).trans h8)

@[simp ↓] theorem State.passTray_still (s : State) (p : Nat) (bs : Bytes) : (s.passTray p bs).quiet.unmoved = s.quiet.unmoved := by
  unfold State.passTray
  dsimp only
  split <;> simp

@[simp ↓] theorem trayReceived_still (p : Nat) (bs : Bytes) (frac : Nat) (s : State) :
    (trayReceived p bs frac s).quiet.unmoved = s.quiet.unmoved := by
  unfold trayReceived
  dsimp only
  (repeat' split) <;> simp

@[simp ↓] theorem State.closeSync_still (s : State) (err : Int) : (s.closeSync err).quiet.unmoved = s.quiet.unmoved := by
  unfold State.closeSync
  split <;> simp

@[simp ↓] theorem pairUp_still (p pair : Nat) (s : State) : (pairUp p pair s).quiet.unmoved = s.quiet.unmoved := by
  unfold pairUp
  simp

@[simp ↓] theorem ringLost_still (s : State) : (ringLost s).quiet.unmoved = s.quiet.unmoved := by
  unfold ringLost
  dsimp only
  (repeat' split) <;> simp

@[simp ↓] theorem State.hiveEnSet_still (s : State) (v : Nat) : (s.hiveEnSet v).quiet.unmoved = s.quiet.unmoved := by
  unfold State.hiveEnSet
  simp

@[simp ↓] theorem hiveEnWrite_still (v : Nat) (s : State) : (hiveEnWrite v s).quiet.unmoved = s.quiet.unmoved := by
  unfold hiveEnWrite
  simp

@[simp ↓] theorem State.keepBridge_still (s : State) (p : Par) (i j : Nat) : (s.keepBridge p i j).quiet.unmoved = s.quiet.unmoved := by
  unfold State.keepBridge
  simp

@[simp ↓] theorem State.ownerStop_still (s : State) (k : Nat) (kind : StopKind) (fin : StopEnd) :
    (s.ownerStop k kind fin).quiet.unmoved = s.quiet.unmoved := by
  unfold State.ownerStop
  simp

@[simp ↓] theorem State.disableAxis_still (s : State) (k : Nat) : (s.disableAxis k).quiet.unmoved = s.quiet.unmoved := by
  unfold State.disableAxis
  split <;> simp

@[simp ↓] theorem State.quickstopAxis_still (s : State) (k : Nat) : (s.quickstopAxis k).quiet.unmoved = s.quiet.unmoved := by
  unfold State.quickstopAxis
  split <;> simp

@[simp ↓] theorem State.clearBackstop_still (s : State) (b : Nat) : (s.clearBackstop b).quiet.unmoved = s.quiet.unmoved := by
  unfold State.clearBackstop
  simp

@[simp ↓] theorem State.panSource_still (s : State) (x : PanChan) : (s.panSource x).2.quiet.unmoved = s.quiet.unmoved := by
  unfold State.panSource
  (repeat' split) <;> simp

@[simp ↓] theorem pantrySample_still (c : Nat) (s : State) : (pantrySample c s).quiet.unmoved = s.quiet.unmoved := by
  unfold pantrySample
  simp

@[simp ↓] theorem State.keepRecords_still (s old : State) : (s.keepRecords old).quiet.unmoved = s.quiet.unmoved := rfl

@[simp ↓] theorem State.stoAtBoot_still (s : State) (count : Nat) : (s.stoAtBoot count).quiet.unmoved = s.quiet.unmoved := by
  rfl

@[simp ↓] theorem State.loadPar_still (s : State) (pn : Nat) (v : Int) : (s.loadPar pn v).quiet.unmoved = s.quiet.unmoved := by
  unfold State.loadPar
  split <;> simp

@[simp ↓] theorem referenceLost_still (s : State) : (referenceLost s).quiet.unmoved = s.quiet.unmoved := by
  unfold referenceLost
  simp only [↓still_ite, ↓quiet_upd_swarm_queues, ↓State.endTimePart_quiet, ↓State.notify_quiet, ↓State.ringSilence_quiet,
      ↓State.setBit_quiet]

@[simp ↓] theorem crystalBack_still (s : State) : (crystalBack s).quiet.unmoved = s.quiet.unmoved := by
  unfold crystalBack
  simp

@[simp ↓] theorem clockCheck_still (dev : Int) (s : State) : (clockCheck dev s).quiet.unmoved = s.quiet.unmoved := by
  unfold clockCheck
  simp

@[simp ↓] theorem State.drawRegs_still (s : State) : s.drawRegs.2.quiet.unmoved = s.quiet.unmoved := foldl_snd_still _ _ _ fun _ _ => rfl

@[simp ↓] theorem State.cellSees_still (s : State) (high : List Land) (l : Option Land) :
    (s.cellSees high l).2.quiet.unmoved = s.quiet.unmoved := by
  unfold State.cellSees
  (repeat' split) <;> simp

@[simp ↓] theorem telemetry_still (n : Nat) (s : State) : (telemetry n s).quiet.unmoved = s.quiet.unmoved := by
  unfold telemetry
  simp

@[simp ↓] theorem State.stageOut_still (s : State) (part : Bytes) : (s.stageOut part).quiet.unmoved = s.quiet.unmoved := by
  unfold State.stageOut
  simp

end Sys2Proof.Machine
end

section
/-!
SUPPORT. The functions that leave the Larder as it is, beside the quiet ones and those that move an axis. The laws are stated of
`quiet.unmoved.larder`, so that the laws of those two rewrite inside them.
-/
namespace Sys2Proof.Machine

/-- A state written with another's Larder has that Larder. -/
@[simp ↓] theorem larder_lit (x : State) (now dev params eccErrs queues nextTag axes lanes records copies bridges links encs ress ssis chans cells cellar
    standing sessions owner ops waiting servedLast fgLast nonces snaps attic faultRing forager planeAt pubAt fanner ring swarm pantry service porch feeds
    hallData spiOut config wear free pending) :
    (State.mk now dev params x.larder eccErrs queues nextTag axes lanes records copies bridges links encs ress ssis chans cells cellar standing sessions
      owner ops waiting servedLast fgLast nonces snaps attic faultRing forager planeAt pubAt fanner ring swarm pantry service porch feeds hallData spiOut
      config wear free pending).quiet.unmoved.larder = x.quiet.unmoved.larder := rfl

@[simp ↓] theorem larder_ite (c : Prop) [Decidable c] (a b : State) (h : a.quiet.unmoved.larder = b.quiet.unmoved.larder) :
    (if c then a else b).quiet.unmoved.larder = b.quiet.unmoved.larder := by
  split
  · exact h
  · rfl

theorem larder_ite_trans {c : Prop} [Decidable c] {a b : State} {x : List Host.Cell} (h : a.quiet.unmoved.larder = b.quiet.unmoved.larder)
    (hb : b.quiet.unmoved.larder = x) : (if c then a else b).quiet.unmoved.larder = x := (larder_ite c a b h).trans hb

@[simp ↓] theorem foldl_larder {α : Type} (f : State → α → State) (l : List α) (s : State)
    (h : ∀ s x, (f s x).quiet.unmoved.larder = s.quiet.unmoved.larder) : (l.foldl f s).quiet.unmoved.larder = s.quiet.unmoved.larder :=
  foldl_keeps (fun x => x.quiet.unmoved.larder) f h l s

@[simp ↓] theorem each_larder (ks : List Nat) (s : State) (f : Nat → State → State)
    (h : ∀ k s, (f k s).quiet.unmoved.larder = s.quiet.unmoved.larder) : (each ks s f).quiet.unmoved.larder = s.quiet.unmoved.larder :=
  foldl_larder _ ks s fun s k => h k s

theorem foldl_snd_larder {α β : Type} (f : β × State → α → β × State) (l : List α) (a : β × State)
    (h : ∀ a x, (f a x).2.quiet.unmoved.larder = a.2.quiet.unmoved.larder) :
    (l.foldl f a).2.quiet.unmoved.larder = a.2.quiet.unmoved.larder := by
  induction l generalizing a with
  | nil => rfl
  | cons x l ih => rw [List.foldl_cons, ih, h]

theorem foldl_fst_larder {α β : Type} (f : State × β → α → State × β) (l : List α) (a : State × β)
    (h : ∀ a x, (f a x).1.quiet.unmoved.larder = a.1.quiet.unmoved.larder) :
    (l.foldl f a).1.quiet.unmoved.larder = a.1.quiet.unmoved.larder := by
  induction l generalizing a with
  | nil => rfl
  | cons x l ih => rw [List.foldl_cons, ih, h]

/-- What the boundary scan does keeps the Larder where the port's instruction does. -/
@[simp ↓] theorem State.tap_larderKept (s : State) (f : State → State) (h : (f s).quiet.unmoved.larder = s.quiet.unmoved.larder) :
    (s.tap f).quiet.unmoved.larder = s.quiet.unmoved.larder := by
  unfold State.tap
  exact larder_ite s.tapOn (f s) s h

@[simp ↓] theorem State.setLink_larderKept (s : State) (k : Nat) (x : Link) :
    (s.setLink k x).quiet.unmoved.larder = s.quiet.unmoved.larder := by
  rfl

@[simp ↓] theorem State.setEnc_larderKept (s : State) (k : Nat) (x : Enc) :
    (s.setEnc k x).quiet.unmoved.larder = s.quiet.unmoved.larder := by
  rfl

@[simp ↓] theorem State.setRes_larderKept (s : State) (k : Nat) (x : Res) :
    (s.setRes k x).quiet.unmoved.larder = s.quiet.unmoved.larder := by
  rfl

@[simp ↓] theorem State.setSsi_larderKept (s : State) (k : Nat) (x : Ssi) :
    (s.setSsi k x).quiet.unmoved.larder = s.quiet.unmoved.larder := by
  rfl

@[simp ↓] theorem State.clock_larderKept (s : State) (t : Nat) : (s.clock t).quiet.unmoved.larder = s.quiet.unmoved.larder := by
  rfl

@[simp ↓] theorem State.takeCfg_larderKept (s : State) (k : Nat) (cfg : Tab Int) :
    (s.takeCfg k cfg).quiet.unmoved.larder = s.quiet.unmoved.larder := by
  rfl

@[simp ↓] theorem State.copyLanes_larderKept (s : State) : s.copyLanes.quiet.unmoved.larder = s.quiet.unmoved.larder := by
  rfl

@[simp ↓] theorem State.startLane_larderKept (s : State) (k : Nat) : (s.startLane k).quiet.unmoved.larder = s.quiet.unmoved.larder := by
  unfold State.startLane
  simp

@[simp ↓] theorem State.owe_larderKept (s : State) (l : Late) : (s.owe l).quiet.unmoved.larder = s.quiet.unmoved.larder := by
  rfl

@[simp ↓] theorem State.orOwe_larderKept (s : State) (l : Late) (f : State → State) (hf : (f s).quiet.unmoved.larder = s.quiet.unmoved.larder) :
    (s.orOwe l f).quiet.unmoved.larder = s.quiet.unmoved.larder := by
  unfold State.orOwe
  split
  · exact State.owe_larderKept s l
  · exact hf

@[simp ↓] theorem State.setGen_larderKept (s : State) (slot g : Nat) (x : Gen) :
    (s.setGen slot g x).quiet.unmoved.larder = s.quiet.unmoved.larder := by
  rfl

@[simp ↓] theorem State.setWing_larderKept (s : State) (w : Nat) (x : Wing) :
    (s.setWing w x).quiet.unmoved.larder = s.quiet.unmoved.larder := by
  rfl

@[simp ↓] theorem State.setPair_larderKept (s : State) (p : Nat) (x : Pair) :
    (s.setPair p x).quiet.unmoved.larder = s.quiet.unmoved.larder := by
  unfold State.setPair
  split <;> simp

@[simp ↓] theorem State.answerSnaps_larderKept (s : State) (k period : Nat) :
    (s.answerSnaps k period).quiet.unmoved.larder = s.quiet.unmoved.larder := by
  unfold State.answerSnaps
  simp

@[simp ↓] theorem State.endLoad_larderKept (s : State) (status : Nat) (wingState : Nat) :
    (s.endLoad status wingState).quiet.unmoved.larder = s.quiet.unmoved.larder := by
  unfold State.endLoad
  split <;> simp

@[simp ↓] theorem State.endService_larderKept (s : State) : s.endService.quiet.unmoved.larder = s.quiet.unmoved.larder := by
  unfold State.endService
  dsimp only
  (repeat' split) <;> simp

@[simp ↓] theorem State.enterRecovery_larderKept (s : State) (cause : Nat) :
    (s.enterRecovery cause).quiet.unmoved.larder = s.quiet.unmoved.larder := by
  unfold State.enterRecovery
  simp only [↓larder_lit, ↓larder_ite, ↓State.endService_larderKept, ↓State.moveDev_quiet, ↓State.setPar_quiet]

@[simp ↓] theorem State.coreFault_larderKept (s : State) (fw : Bool) (raise : Bool := true) :
    (s.coreFault fw raise).quiet.unmoved.larder = s.quiet.unmoved.larder := by
  unfold State.coreFault
  simp

@[simp ↓] theorem State.startStandby_larderKept (s : State) (p : Nat) :
    (s.startStandby p).quiet.unmoved.larder = s.quiet.unmoved.larder := by
  unfold State.startStandby
  simp

@[simp ↓] theorem pairRestart_larderKept (ok : Bool) (s : State) : (pairRestart ok s).quiet.unmoved.larder = s.quiet.unmoved.larder := by
  unfold pairRestart
  simp

@[simp ↓] theorem cellarRestart_larderKept (s : State) : (cellarRestart s).quiet.unmoved.larder = s.quiet.unmoved.larder := by
  unfold cellarRestart
  dsimp only
  (repeat' split) <;> simp

@[simp ↓] theorem State.wordRewritten_larderKept (s : State) (w : Nat) :
    (s.wordRewritten w).quiet.unmoved.larder = s.quiet.unmoved.larder := by
  unfold State.wordRewritten
  simp

theorem larderDed_aux (f : State → Nat → List Nat → State) (hf : f = State.larderDed) (s : State) (w : Nat) (bits : List Nat) :
    (f s w bits).quiet.unmoved.larder = s.quiet.unmoved.larder := by
  delta State.larderDed at hf
  generalize regionOf = r at hf
  as_aux_lemma =>
    subst hf
    dsimp only
    split <;> simp

@[simp ↓] theorem State.larderDed_larderKept (s : State) (w : Nat) (bits : List Nat) :
    (s.larderDed w bits).quiet.unmoved.larder = s.quiet.unmoved.larder := larderDed_aux _ rfl s w bits

@[simp ↓] theorem State.writeEntry_larderKept (s : State) (n off : Nat) (bs : Bytes) :
    (s.writeEntry n off bs).quiet.unmoved.larder = s.quiet.unmoved.larder := by
  unfold State.writeEntry
  simp

@[simp ↓] theorem State.writeTable_larderKept (s : State) (a : Nat) (bs : Bytes) (f : Nat) :
    (s.writeTable a bs f).quiet.unmoved.larder = s.quiet.unmoved.larder := by
  induction f generalizing s a bs with
  | zero => rfl
  | succ f ih =>
    unfold State.writeTable
    split
    · rfl
    · exact (ih ..).trans (State.writeEntry_larderKept ..)

@[simp ↓] theorem State.returns_larderKept (s : State) (bs : Bytes) : (s.returns bs).quiet.unmoved.larder = s.quiet.unmoved.larder := by
  rfl

@[simp ↓] theorem larderScrub_larderKept (w : Nat) (bad : List Nat) (s : State) :
    (larderScrub w bad s).quiet.unmoved.larder = s.quiet.unmoved.larder := by
  unfold larderScrub
  simp

@[simp ↓] theorem State.fgRunInstr_larderKept (s : State) (c : Nat) (ded : List Nat) (want : Nat → Bool) (f : Nat → Nat → State → State)
    (hf : ∀ a b s, (f a b s).quiet.unmoved.larder = s.quiet.unmoved.larder) :
    (s.fgRunInstr c ded want f).quiet.unmoved.larder = s.quiet.unmoved.larder := by
  unfold State.fgRunInstr
  dsimp only
  repeat' split
  all_goals simp only [↓State.fgHalt_quiet, ↓State.larderDed_larderKept, hf, ↓State.fgServe_still]

/-- The state a read of a channel leaves. -/
def FgRead.state : FgRead → State
  | .ok _ s => s
  | .halt s => s

@[simp] theorem FgRead.state_ok (bs : Bytes) (s : State) : (FgRead.ok bs s).state = s := rfl
@[simp] theorem FgRead.state_halt (s : State) : (FgRead.halt s).state = s := rfl

theorem fgRead_aux (f : State → Nat → List Nat → Nat → Nat → FgRead) (hf : f = State.fgRead) (s : State) (c : Nat) (ded : List Nat) (a n : Nat) :
    (f s c ded a n).state.quiet.unmoved.larder = s.quiet.unmoved.larder := by
  delta State.fgRead at hf
  generalize mayReach = m at hf
  as_aux_lemma =>
    subst hf
    beta_reduce
    extract_lets x
    have hx : x.quiet.unmoved.larder = s.quiet.unmoved.larder := by simp only [x, State.incPar_quiet]
    rw [← hx]
    split
    · rw [FgRead.state_halt, State.fgAccess_quiet]
    · split
      · rw [FgRead.state_halt, State.fgHalt_quiet, State.larderDed_larderKept]
      · rw [FgRead.state_ok, State.hread_still]

theorem State.fgRead_larderKept (s : State) (c : Nat) (ded : List Nat) (a n : Nat) :
    (s.fgRead c ded a n).state.quiet.unmoved.larder = s.quiet.unmoved.larder := fgRead_aux _ rfl s c ded a n

theorem State.crcData_larderKept (s : State) (c : Nat) (ded : List Nat) (a n : Nat) :
    (s.crcData c ded a n).state.quiet.unmoved.larder = s.quiet.unmoved.larder := by
  unfold State.crcData
  split
  · rfl
  · split
    · simp only [FgRead.state_ok, State.flashRead_still, State.incPar_quiet]
    · exact State.fgRead_larderKept ..

@[simp ↓] theorem fgLoadm_larderKept (c : Nat) (ded : List Nat) (w1 w2 : Nat) (s : State) :
    (fgLoadm c ded w1 w2 s).quiet.unmoved.larder = s.quiet.unmoved.larder := by
  unfold fgLoadm
  split
  · exact congrArg (fun x => x.unmoved.larder) (State.fgHalt_quiet ..)
  · have h := State.fgRead_larderKept s c ded w2 4
    split
    · next s' heq => rwa [heq] at h
    · next bs s' heq =>
      rw [heq] at h
      exact (congrArg (fun x => x.unmoved.larder) (fgSetx_quiet ..)).trans h

@[simp ↓] theorem State.crcChunk_larderKept (s : State) (c : Nat) (ded : List Nat) (r : FgRun) :
    (s.crcChunk c ded r).quiet.unmoved.larder = s.quiet.unmoved.larder := by
  unfold State.crcChunk
  split
  · exact congrArg (fun x => x.unmoved.larder) (State.fgHalt_quiet ..)
  · extract_lets +onlyGivenNames n
    have h := State.crcData_larderKept s c ded (s.xreg c (fbits r.w1 27 25) + r.done) n
    split
    · next s' heq => rwa [heq] at h
    · next bs s' heq =>
      rw [heq] at h
      dsimp only
      split
      · exact h
      · exact (congrArg State.larder (State.crcFinish_still ..)).trans h

@[simp ↓] theorem fgCrc_larderKept (c : Nat) (ded : List Nat) (w1 _w2 : Nat) (s : State) :
    (fgCrc c ded w1 _w2 s).quiet.unmoved.larder = s.quiet.unmoved.larder := by
  unfold fgCrc
  simp

@[simp ↓] theorem crcStep_larderKept (c : Nat) (ded : List Nat) (s : State) :
    (crcStep c ded s).quiet.unmoved.larder = s.quiet.unmoved.larder := by
  unfold crcStep
  split <;> simp

@[simp ↓] theorem State.linkSample_larderKept (s : State) (b : Nat) (code : Nat) :
    (s.linkSample b code).quiet.unmoved.larder = s.quiet.unmoved.larder := by
  unfold State.linkSample
  simp

@[simp ↓] theorem State.chopCmd_larderKept (s : State) (k : Nat) (on : Bool) :
    (s.chopCmd k on).quiet.unmoved.larder = s.quiet.unmoved.larder := by
  unfold State.chopCmd
  dsimp only
  (repeat' split) <;> simp

@[simp ↓] theorem State.chopControl_larderKept (s : State) (k : Nat) : (s.chopControl k).quiet.unmoved.larder = s.quiet.unmoved.larder := by
  unfold State.chopControl
  split <;> simp

@[simp ↓] theorem State.chopFault_larderKept (s : State) (k : Nat) (path : String) :
    (s.chopFault k path).quiet.unmoved.larder = s.quiet.unmoved.larder := by
  unfold State.chopFault
  simp

@[simp ↓] theorem State.linkPeriod_larderKept (s : State) (k : Nat) : (s.linkPeriod k).quiet.unmoved.larder = s.quiet.unmoved.larder := by
  unfold State.linkPeriod
  simp

@[simp ↓] theorem State.linkStage_larderKept (s : State) (b : Nat) (code : Nat) (ends : Bool) :
    (s.linkStage b code ends).quiet.unmoved.larder = s.quiet.unmoved.larder := by
  unfold State.linkStage
  simp

@[simp ↓] theorem State.pulseOn_larderKept (s : State) (b n : Nat) : (s.pulseOn b n).quiet.unmoved.larder = s.quiet.unmoved.larder := by
  unfold State.pulseOn
  simp

@[simp ↓] theorem State.pulseOff_larderKept (s : State) (b : Nat) : (s.pulseOff b).quiet.unmoved.larder = s.quiet.unmoved.larder := by
  unfold State.pulseOff
  split <;> simp

@[simp ↓] theorem State.pulseReach_larderKept (s : State) (b : Nat) : (s.pulseReach b).quiet.unmoved.larder = s.quiet.unmoved.larder := by
  unfold State.pulseReach
  split <;> simp

@[simp ↓] theorem State.setFb_larderKept (s : State) (i : Nat) (f : FbCommon) :
    (s.setFb i f).quiet.unmoved.larder = s.quiet.unmoved.larder := by
  unfold State.setFb
  simp

@[simp ↓] theorem State.drive_larderKept (s : State) (k : Nat) : (s.drive k).quiet.unmoved.larder = s.quiet.unmoved.larder := by
  unfold State.drive
  simp

@[simp ↓] theorem State.takeFbCfg_larderKept (s : State) (i : Nat) : (s.takeFbCfg i).quiet.unmoved.larder = s.quiet.unmoved.larder := by
  unfold State.takeFbCfg
  simp

@[simp ↓] theorem State.declareFaulty_larderKept (s : State) (i code : Nat) :
    (s.declareFaulty i code).quiet.unmoved.larder = s.quiet.unmoved.larder := by
  unfold State.declareFaulty
  simp

@[simp ↓] theorem State.edgeFault_larderKept (s : State) (k : Nat) : (s.edgeFault k).quiet.unmoved.larder = s.quiet.unmoved.larder := by
  unfold State.edgeFault
  simp

@[simp ↓] theorem State.encMotion_larderKept (s : State) (k : Nat) (d : Int) (stamp : Nat) :
    (s.encMotion k d stamp).quiet.unmoved.larder = s.quiet.unmoved.larder := by
  rfl

@[simp ↓] theorem encTransition_larderKept (k : Nat) (a b z : Bool) (stamp hold : Nat) (s : State) :
    (encTransition k a b z stamp hold s).quiet.unmoved.larder = s.quiet.unmoved.larder := by
  unfold encTransition
  dsimp only
  (repeat' split) <;> simp

@[simp ↓] theorem fbLine_larderKept (k pair : Nat) (low : Bool) (s : State) :
    (fbLine k pair low s).quiet.unmoved.larder = s.quiet.unmoved.larder := by
  unfold fbLine
  split <;> simp

@[simp ↓] theorem State.decideIndex_larderKept (s : State) (k : Nat) (count : Int) :
    (s.decideIndex k count).quiet.unmoved.larder = s.quiet.unmoved.larder := by
  unfold State.decideIndex
  dsimp only
  split <;> simp

@[simp ↓] theorem indexEvent_larderKept (k : Nat) (rising : Bool) (s : State) :
    (indexEvent k rising s).quiet.unmoved.larder = s.quiet.unmoved.larder := by
  unfold indexEvent
  simp

@[simp ↓] theorem State.applyIndex_larderKept (s : State) (k : Nat) : (s.applyIndex k).quiet.unmoved.larder = s.quiet.unmoved.larder := by
  unfold State.applyIndex
  dsimp only
  split
  · exact State.setEnc_larderKept ..
  · rw [foldl_fst_larder _ _ _ fun a x => State.decideIndex_larderKept .., State.setEnc_larderKept]

@[simp ↓] theorem indexMissed_larderKept (k : Nat) (s : State) : (indexMissed k s).quiet.unmoved.larder = s.quiet.unmoved.larder := by
  unfold indexMissed
  simp

@[simp ↓] theorem encStandstill_larderKept (k : Nat) (s : State) : (encStandstill k s).quiet.unmoved.larder = s.quiet.unmoved.larder := by
  unfold encStandstill
  simp

@[simp ↓] theorem State.encSample_larderKept (s : State) (k tSE prev : Nat) :
    (s.encSample k tSE prev).quiet.unmoved.larder = s.quiet.unmoved.larder := by
  unfold State.encSample
  simp only [↓larder_ite, ↓State.applyIndex_larderKept, ↓State.coldSpeed_quiet, ↓State.declareFaulty_larderKept, ↓State.setEnc_larderKept,
      ↓State.setPar_quiet, ↓State.takeFbCfg_larderKept]

@[simp ↓] theorem resolverPair_larderKept (k : Nat) (sinC cosC : Int) (pos : Bool) (s : State) :
    (resolverPair k sinC cosC pos s).quiet.unmoved.larder = s.quiet.unmoved.larder := by
  unfold resolverPair
  simp

@[simp ↓] theorem resExc_larderKept (k : Nat) (s : State) : (resExc k s).quiet.unmoved.larder = s.quiet.unmoved.larder := by
  unfold resExc
  simp

@[simp ↓] theorem resExcRestart_larderKept (k : Nat) (s : State) : (resExcRestart k s).quiet.unmoved.larder = s.quiet.unmoved.larder := by
  unfold resExcRestart
  simp

@[simp ↓] theorem State.resSample_larderKept (s : State) (k tSE : Nat) :
    (s.resSample k tSE).quiet.unmoved.larder = s.quiet.unmoved.larder := by
  unfold State.resSample
  simp

@[simp ↓] theorem ssiFrameStart_larderKept (k : Nat) (high : Bool) (s : State) :
    (ssiFrameStart k high s).quiet.unmoved.larder = s.quiet.unmoved.larder := by
  unfold ssiFrameStart
  split <;> simp

@[simp ↓] theorem State.ssiBad_larderKept (s : State) (k : Nat) : (s.ssiBad k).quiet.unmoved.larder = s.quiet.unmoved.larder := by
  unfold State.ssiBad
  simp

@[simp ↓] theorem ssiTimeout_larderKept (k : Nat) (s : State) : (ssiTimeout k s).quiet.unmoved.larder = s.quiet.unmoved.larder := by
  unfold ssiTimeout
  simp

@[simp ↓] theorem ssiFrameCheck_larderKept (k wave delay : Nat) (s : State) :
    (ssiFrameCheck k wave delay s).quiet.unmoved.larder = s.quiet.unmoved.larder := by
  unfold ssiFrameCheck
  split <;> simp

@[simp ↓] theorem State.ssiSample_larderKept (s : State) (k tSE period : Nat) :
    (s.ssiSample k tSE period).quiet.unmoved.larder = s.quiet.unmoved.larder := by
  unfold State.ssiSample
  simp

@[simp ↓] theorem State.fbSample_larderKept (s : State) (i tSE period : Nat) :
    (s.fbSample i tSE period).quiet.unmoved.larder = s.quiet.unmoved.larder := by
  unfold State.fbSample
  simp

@[simp ↓] theorem feedbackSelfSample_larderKept (i : Nat) (s : State) :
    (feedbackSelfSample i s).quiet.unmoved.larder = s.quiet.unmoved.larder := by
  unfold feedbackSelfSample
  (repeat' split) <;> simp

@[simp ↓] theorem fbReturn_larderKept (i : Nat) (s : State) : (fbReturn i s).quiet.unmoved.larder = s.quiet.unmoved.larder := by
  unfold fbReturn
  dsimp only
  (repeat' split) <;> simp only [↓larder_lit, ↓foldl_larder, implies_true, ↓State.modAx_still, ↓State.setEnc_larderKept,
      ↓State.setFb_larderKept, ↓State.setRes_larderKept, ↓State.setSsi_larderKept, ↓State.unstand_quiet]

@[simp ↓] theorem State.saveRecord_larderKept (s : State) (n k : Nat) :
    (s.saveRecord n k).quiet.unmoved.larder = s.quiet.unmoved.larder := by
  unfold State.saveRecord
  split <;> simp

@[simp ↓] theorem fusionSelfTimed_larderKept (k : Nat) (s : State) : (fusionSelfTimed k s).quiet.unmoved.larder = s.quiet.unmoved.larder := by
  unfold fusionSelfTimed
  simp

@[simp ↓] theorem State.linkAtSe_larderKept (s : State) (n k b code : Nat) :
    (s.linkAtSe n k b code).quiet.unmoved.larder = s.quiet.unmoved.larder := by
  unfold State.linkAtSe
  simp

@[simp ↓] theorem State.foldRecal_larderKept (s : State) (b : Nat) : (s.foldRecal b).quiet.unmoved.larder = s.quiet.unmoved.larder := by
  unfold State.foldRecal
  (repeat' split) <;> simp

@[simp ↓] theorem sampleEvent_larderKept (n : Nat) (samples : List (List Int × List Nat)) (computed spareOk : Bool) (s : State) :
    (sampleEvent n samples computed spareOk s).quiet.unmoved.larder = s.quiet.unmoved.larder := by
  unfold sampleEvent
  dsimp only
  (repeat' split) <;> simp

@[simp ↓] theorem State.swapsEnd_larderKept (s : State) (n : Nat) : (s.swapsEnd n).quiet.unmoved.larder = s.quiet.unmoved.larder := by
  unfold State.swapsEnd
  simp

@[simp ↓] theorem State.laneFault_larderKept (s : State) (n : Nat) (overrun again : Bool) :
    (s.laneFault n overrun again).quiet.unmoved.larder = s.quiet.unmoved.larder := by
  unfold State.laneFault
  dsimp only
  (repeat' split) <;> simp

@[simp ↓] theorem laneMismatch_larderKept (n : Nat) (again : Bool) (s : State) :
    (laneMismatch n again s).quiet.unmoved.larder = s.quiet.unmoved.larder := by
  unfold laneMismatch
  simp

@[simp ↓] theorem shadowDeadline_larderKept (n : Nat) (s : State) : (shadowDeadline n s).quiet.unmoved.larder = s.quiet.unmoved.larder := by
  unfold shadowDeadline
  dsimp only
  (repeat' split) <;> simp

@[simp ↓] theorem carrierPeak_larderKept (n : Nat) (samples : List (List Int × List Nat)) (s : State) :
    (carrierPeak n samples s).quiet.unmoved.larder = s.quiet.unmoved.larder := by
  unfold carrierPeak
  dsimp only
  (repeat' split) <;> simp

@[simp ↓] theorem State.setSensor_larderKept (s : State) (n : Nat) (x : Sensor) :
    (s.setSensor n x).quiet.unmoved.larder = s.quiet.unmoved.larder := by
  rfl

@[simp ↓] theorem State.checkSensors_larderKept (s : State) (t : List Int) :
    (s.checkSensors t).quiet.unmoved.larder = s.quiet.unmoved.larder := by
  unfold State.checkSensors
  dsimp only
  split <;> simp only [↓larder_lit, ↓larder_ite, ↓foldl_larder, implies_true, ↓State.raiseModule_still, ↓State.setBit_quiet,
      ↓State.setSensor_larderKept]

@[simp ↓] theorem State.setLevel_larderKept (s : State) (l : Level) : (s.setLevel l).quiet.unmoved.larder = s.quiet.unmoved.larder := by
  rfl

@[simp ↓] theorem State.setJtLvl_larderKept (s : State) (k : Nat) (l : Level) :
    (s.setJtLvl k l).quiet.unmoved.larder = s.quiet.unmoved.larder := by
  rfl

@[simp ↓] theorem State.thermalStates_larderKept (s : State) (t : List Int) :
    (s.thermalStates t).quiet.unmoved.larder = s.quiet.unmoved.larder := by
  unfold State.thermalStates
  extract_lets +onlyGivenNames vals s1 s2
  have h2 : s2.quiet.unmoved.larder = s.quiet.unmoved.larder := by
    simp only [s2, s1, ↓foldl_larder, ↓State.setPar_quiet, implies_true]
  clear_value s2 s1 vals
  split
  · exact h2
  · extract_lets +onlyGivenNames hot cold h c s3 sd l
    have h3 : s3.quiet.unmoved.larder = s.quiet.unmoved.larder := by simp only [s3, State.setPar_quiet, h2]
    clear_value s3 l sd c h cold hot
    split
    · extract_lets +onlyGivenNames _ s4 s5
      have h4 : s4.quiet.unmoved.larder = s.quiet.unmoved.larder := by
        simp only [s4]
        split
        · exact h3
        · simp only [State.setLevel_larderKept, State.setPar_quiet, h3]
      have h5 : s5.quiet.unmoved.larder = s.quiet.unmoved.larder := by simp only [s5, State.setPar_quiet, h4]
      rw [larder_lit]
      exact h5
    · extract_lets +onlyGivenNames st want cst cw l1 keep l2 s4
      have h4 : s4.quiet.unmoved.larder = s.quiet.unmoved.larder := by simp only [s4, State.setPar_quiet, State.setLevel_larderKept, h3]
      rw [larder_lit]
      exact h4

@[simp ↓] theorem State.thermalSd_larderKept (s : State) : s.thermalSd.quiet.unmoved.larder = s.quiet.unmoved.larder := by
  unfold State.thermalSd
  simp

@[simp ↓] theorem State.cellarTemps_larderKept (s : State) (mask : Int) (counts : List Nat) (t : List Int) :
    (s.cellarTemps mask counts t).quiet.unmoved.larder = s.quiet.unmoved.larder := by
  unfold State.cellarTemps
  simp

@[simp ↓] theorem State.cellCycle_larderKept (s : State) (t : List Int) (g : Nat) :
    (s.cellCycle t g).quiet.unmoved.larder = s.quiet.unmoved.larder := by
  unfold State.cellCycle
  dsimp only
  (repeat' split) <;> simp

@[simp ↓] theorem tempWindow_larderKept (counts : List Nat) (s : State) :
    (tempWindow counts s).quiet.unmoved.larder = s.quiet.unmoved.larder := by
  unfold tempWindow
  simp

@[simp ↓] theorem tsPlausible_larderKept (n : Nat) (s : State) : (tsPlausible n s).quiet.unmoved.larder = s.quiet.unmoved.larder := by
  unfold tsPlausible
  simp

@[simp ↓] theorem thermalStateChange_larderKept (which : Nat) (s : State) :
    (thermalStateChange which s).quiet.unmoved.larder = s.quiet.unmoved.larder := by
  unfold thermalStateChange
  dsimp only
  (repeat' split) <;> simp

@[simp ↓] theorem thermalSdRelease_larderKept (s : State) : (thermalSdRelease s).quiet.unmoved.larder = s.quiet.unmoved.larder := by
  unfold thermalSdRelease
  split <;> simp only [↓larder_lit, ↓larder_ite, ↓foldl_larder, implies_true, ↓State.dropCause_still, ↓State.setLevel_larderKept,
      ↓State.setPar_quiet, ↓State.thermEvent_quiet, ↓State.unstand_quiet]

@[simp ↓] theorem State.putLevel_larderKept (s : State) (w : Nat) (l : Level) :
    (s.putLevel w l).quiet.unmoved.larder = s.quiet.unmoved.larder := by
  unfold State.putLevel
  simp

@[simp ↓] theorem thGraceExpired_larderKept (w : Nat) (s : State) : (thGraceExpired w s).quiet.unmoved.larder = s.quiet.unmoved.larder := by
  unfold thGraceExpired
  dsimp only
  split <;> simp

@[simp ↓] theorem thRequestRepeat_larderKept (w : Nat) (s : State) : (thRequestRepeat w s).quiet.unmoved.larder = s.quiet.unmoved.larder := by
  unfold thRequestRepeat
  dsimp only
  split <;> simp

@[simp ↓] theorem hold60End_larderKept (s : State) : (hold60End s).quiet.unmoved.larder = s.quiet.unmoved.larder := by
  unfold hold60End
  (repeat' split) <;> simp

@[simp ↓] theorem ntcSample_larderKept (k code : Nat) (s : State) : (ntcSample k code s).quiet.unmoved.larder = s.quiet.unmoved.larder := by
  unfold ntcSample
  split <;> simp

@[simp ↓] theorem State.setJunction_larderKept (s : State) (j : Nat) (x : Junction) :
    (s.setJunction j x).quiet.unmoved.larder = s.quiet.unmoved.larder := by
  rfl

@[simp ↓] theorem State.junctionStep_larderKept (s : State) (b k j : Nat) :
    (s.junctionStep b k j).quiet.unmoved.larder = s.quiet.unmoved.larder := by
  unfold State.junctionStep
  dsimp only
  (repeat' split) <;> simp

@[simp ↓] theorem State.junctionLevel_larderKept (s : State) (k : Nat) :
    (s.junctionLevel k).quiet.unmoved.larder = s.quiet.unmoved.larder := by
  unfold State.junctionLevel
  simp

@[simp ↓] theorem junctionUpdate_larderKept (s : State) : (junctionUpdate s).quiet.unmoved.larder = s.quiet.unmoved.larder := by
  unfold junctionUpdate
  split
  · rfl
  · extract_lets +onlyGivenNames _ s1 s2 s3
    have h2 : s2.quiet.unmoved.larder = s.quiet.unmoved.larder := by
      refine (each_larder _ _ _ fun b s => ?_).trans (larder_lit ..)
      extract_lets +onlyGivenNames _ s4
      have h4 : s4.quiet.unmoved.larder = s.quiet.unmoved.larder := larder_ite_trans (larder_lit ..) rfl
      split
      · simp only [State.setBit_quiet, h4]
      · extract_lets +onlyGivenNames was s5 s6
        have h6 : s6.quiet.unmoved.larder = s.quiet.unmoved.larder := by
          simp only [s6, s5, State.setBit_quiet]
          exact (each_larder _ _ _ fun n s => State.junctionStep_larderKept ..).trans h4
        split
        · refine larder_ite_trans ?_ h6
          simp only [State.setBit_quiet]
        · exact h6
    refine (each_larder _ _ _ fun k s => State.junctionLevel_larderKept s k).trans ((each_larder _ _ _ fun k s => ?_).trans h2)
    dsimp only
    split
    · simp only [State.setBit_quiet]
    · rfl

@[simp ↓] theorem jtCalCmd_larderKept (b v : Nat) (s : State) : (jtCalCmd b v s).quiet.unmoved.larder = s.quiet.unmoved.larder := by
  unfold jtCalCmd
  simp

@[simp ↓] theorem jtPulse_larderKept (b plateau : Nat) (s : State) : (jtPulse b plateau s).quiet.unmoved.larder = s.quiet.unmoved.larder := by
  unfold jtPulse
  split <;> simp

@[simp ↓] theorem State.keep_larderKept (s : State) (pns : List Nat) : (s.keep pns).quiet.unmoved.larder = s.quiet.unmoved.larder := by
  rfl

@[simp ↓] theorem jtCalDone_larderKept (b : Nat) (s : State) : (jtCalDone b s).quiet.unmoved.larder = s.quiet.unmoved.larder := by
  unfold jtCalDone
  split
  · rfl
  · split
    · rfl
    · extract_lets +onlyGivenNames s1 _ s2 s3
      have h1 : s1.quiet.unmoved.larder = s.quiet.unmoved.larder := State.pulseOff_larderKept ..
      have h3 : s3.quiet.unmoved.larder = s.quiet.unmoved.larder := by
        simp only [s3, State.setPar_quiet, State.setBit_quiet]
        exact (larder_lit ..).trans h1
      clear_value s3
      split
      next s4 ns heq =>
        have h4 : s4.quiet.unmoved.larder = s.quiet.unmoved.larder := by
          split at heq
          · cases heq
            exact h3
          · have := congrArg (fun x : State × List Nat => x.1.quiet.unmoved.larder) heq
            refine this.symm.trans ((foldl_fst_larder _ _ _ fun _ _ => ?_).trans h3)
            exact congrArg State.larder (State.storePoint_still ..)
        extract_lets +onlyGivenNames ok s5
        have h5 : s5.quiet.unmoved.larder = s.quiet.unmoved.larder := (State.keep_larderKept ..).trans h4
        split
        next d s6 heq6 =>
          have h6 : s6.quiet.unmoved.larder = s5.quiet.unmoved.larder := by
            split at heq6 <;> cases heq6 <;> rfl
          simp only [State.notify_quiet, h6, h5]

@[simp ↓] theorem lifeUpdate_larderKept (s : State) : (lifeUpdate s).quiet.unmoved.larder = s.quiet.unmoved.larder := by
  unfold lifeUpdate
  simp

@[simp ↓] theorem State.saveWear_larderKept (s : State) : s.saveWear.quiet.unmoved.larder = s.quiet.unmoved.larder := by
  rfl

@[simp ↓] theorem wearSave_larderKept (s : State) : (wearSave s).quiet.unmoved.larder = s.quiet.unmoved.larder := by
  unfold wearSave
  simp

@[simp ↓] theorem desatTrip_larderKept (c : Nat) (s : State) : (desatTrip c s).quiet.unmoved.larder = s.quiet.unmoved.larder := by
  unfold desatTrip
  simp

@[simp ↓] theorem cellLinkLoss_larderKept (g : Nat) (s : State) : (cellLinkLoss g s).quiet.unmoved.larder = s.quiet.unmoved.larder := by
  unfold cellLinkLoss
  (repeat' split) <;> simp

@[simp ↓] theorem State.takePlateaus_larderKept (s : State) (c : Nat) :
    (s.takePlateaus c).quiet.unmoved.larder = s.quiet.unmoved.larder := by
  unfold State.takePlateaus
  dsimp only
  (repeat' split) <;> simp

@[simp ↓] theorem cellStatusFrame_larderKept (g bootV vglp : Nat) (vgln : Int) (s : State) :
    (cellStatusFrame g bootV vglp vgln s).quiet.unmoved.larder = s.quiet.unmoved.larder := by
  unfold cellStatusFrame
  split
  · rfl
  · extract_lets +onlyGivenNames x s1 s2 _ s3 s4 s5 h s6 s7 direct s8 _ s9
    have h1 : s1.quiet.unmoved.larder = s.quiet.unmoved.larder := by
      simp only [s1]
      split
      · rfl
      · simp only [State.setBit_quiet, State.setCell_still]
    have h4 : s4.quiet.unmoved.larder = s.quiet.unmoved.larder := by
      simp only [s4, s3, s2, State.setPar_quiet, State.setCell_still, State.clearing_still, h1]
    clear_value s4
    have h5 : s5.quiet.unmoved.larder = s.quiet.unmoved.larder := larder_ite_trans (by simp only [State.setPar_quiet]) h4
    clear_value s5
    have h6 : s6.quiet.unmoved.larder = s.quiet.unmoved.larder := larder_ite_trans (by simp only [State.setChan_still]) h5
    have h7 : s7.quiet.unmoved.larder = s.quiet.unmoved.larder := by simp only [s7, State.takePlateaus_larderKept, h6]
    clear_value s7
    have h8 : s8.quiet.unmoved.larder = s.quiet.unmoved.larder := larder_ite_trans (by simp only [crossCmd_still]) h7
    clear_value s8
    have h9 : s9.quiet.unmoved.larder = s.quiet.unmoved.larder := by simp only [s9, State.setCell_still, h8]
    simp only [State.setPar_quiet]
    refine (each_larder _ _ _ fun c s => ?_).trans ((each_larder _ _ _ fun c s => ?_).trans h9)
    · simp only [State.putChan_still]
    · (repeat' split) <;> simp only [State.turnOff_still, State.dgFollow_still]

@[simp ↓] theorem gateSupply_larderKept (c : Nat) (bad : Bool) (s : State) :
    (gateSupply c bad s).quiet.unmoved.larder = s.quiet.unmoved.larder := by
  unfold gateSupply
  (repeat' split) <;> simp

@[simp ↓] theorem chopOc_larderKept (k : Nat) (s : State) : (chopOc k s).quiet.unmoved.larder = s.quiet.unmoved.larder := by
  unfold chopOc
  simp

@[simp ↓] theorem State.stoAct_larderKept (s : State) : s.stoAct.quiet.unmoved.larder = s.quiet.unmoved.larder := by
  unfold State.stoAct
  dsimp only
  (repeat' split) <;> simp

@[simp ↓] theorem stoDemand_larderKept (s : State) : (stoDemand s).quiet.unmoved.larder = s.quiet.unmoved.larder := by
  unfold stoDemand
  simp

@[simp ↓] theorem stoRelease_larderKept (s : State) : (stoRelease s).quiet.unmoved.larder = s.quiet.unmoved.larder := by
  unfold stoRelease
  simp

@[simp ↓] theorem stoDiscrepancy_larderKept (s : State) : (stoDiscrepancy s).quiet.unmoved.larder = s.quiet.unmoved.larder := by
  unfold stoDiscrepancy
  split <;> simp

@[simp ↓] theorem ss1Timeout_larderKept (s : State) : (ss1Timeout s).quiet.unmoved.larder = s.quiet.unmoved.larder := by
  unfold ss1Timeout
  split <;> simp

@[simp ↓] theorem State.startSwitching_larderKept (s : State) (k row : Nat) :
    (s.startSwitching k row).quiet.unmoved.larder = s.quiet.unmoved.larder := by
  unfold State.startSwitching
  simp

@[simp ↓] theorem State.emgStart_larderKept (s : State) (k : Nat) : (s.emgStart k).quiet.unmoved.larder = s.quiet.unmoved.larder := by
  unfold State.emgStart
  split <;> simp

@[simp ↓] theorem State.restart_larderKept (s : State) (k : Nat) : (s.restart k).quiet.unmoved.larder = s.quiet.unmoved.larder := by
  unfold State.restart
  dsimp only
  (repeat' split) <;> simp

@[simp ↓] theorem State.retryReturn_larderKept (s : State) (k : Nat) : (s.retryReturn k).quiet.unmoved.larder = s.quiet.unmoved.larder := by
  unfold State.retryReturn
  dsimp only
  split <;> simp

@[simp ↓] theorem faultWaitExpired_larderKept (k : Nat) (s : State) : (faultWaitExpired k s).quiet.unmoved.larder = s.quiet.unmoved.larder := by
  unfold faultWaitExpired
  dsimp only
  (repeat' split) <;> simp

@[simp ↓] theorem State.thermBase_larderKept (s : State) (k : Nat) (tau : Int) (started : Bool) :
    (s.thermBase k tau started).quiet.unmoved.larder = s.quiet.unmoved.larder := by
  unfold State.thermBase
  dsimp only
  (repeat' split) <;> simp

@[simp ↓] theorem State.loopTick_larderKept (s : State) (k : Nat) : (s.loopTick k).quiet.unmoved.larder = s.quiet.unmoved.larder := by
  unfold State.loopTick
  simp only [↓larder_lit, ↓larder_ite, ↓State.driveEvent_quiet, ↓State.incPar_quiet, ↓State.modAx_still, ↓State.setBit_quiet,
      ↓State.setPar_quiet, ↓State.thermBase_larderKept, ↓State.ventilate_still, ↓State.zeroTrack_still]

@[simp ↓] theorem speedLoopTick_larderKept (k : Nat) (s : State) : (speedLoopTick k s).quiet.unmoved.larder = s.quiet.unmoved.larder := by
  unfold speedLoopTick
  simp

@[simp ↓] theorem chopMinOnEnd_larderKept (k : Nat) (s : State) : (chopMinOnEnd k s).quiet.unmoved.larder = s.quiet.unmoved.larder := by
  unfold chopMinOnEnd
  simp

@[simp ↓] theorem chopEnergyUpdate_larderKept (s : State) : (chopEnergyUpdate s).quiet.unmoved.larder = s.quiet.unmoved.larder := by
  unfold chopEnergyUpdate
  simp

@[simp ↓] theorem ecSample_larderKept (k : Nat) (raw : Int) (freq : Nat) (quiet : Bool) (s : State) :
    (ecSample k raw freq quiet s).quiet.unmoved.larder = s.quiet.unmoved.larder := by
  unfold ecSample
  simp

@[simp ↓] theorem State.loadImage_larderKept (s : State) (sess seq w off : Nat) (bs : Bytes) :
    (s.loadImage sess seq w off bs).2.quiet.unmoved.larder = s.quiet.unmoved.larder := by
  unfold State.loadImage
  dsimp only
  (repeat' split) <;> simp

@[simp ↓] theorem imageLoadDone_larderKept (s : State) : (imageLoadDone s).quiet.unmoved.larder = s.quiet.unmoved.larder := by
  unfold imageLoadDone
  simp

@[simp ↓] theorem State.verifyImage_larderKept (s : State) (w : Nat) :
    (s.verifyImage w).2.quiet.unmoved.larder = s.quiet.unmoved.larder := by
  unfold State.verifyImage
  (repeat' split) <;> simp

@[simp ↓] theorem imageVerifyDone_larderKept (s : State) : (imageVerifyDone s).quiet.unmoved.larder = s.quiet.unmoved.larder := by
  unfold imageVerifyDone
  dsimp only
  (repeat' split) <;> simp

@[simp ↓] theorem State.switchImage_larderKept (s : State) (w trial : Nat) :
    (s.switchImage w trial).2.quiet.unmoved.larder = s.quiet.unmoved.larder := by
  unfold State.switchImage
  (repeat' split) <;> simp

@[simp ↓] theorem State.endSwitch_larderKept (s : State) (w status : Nat) :
    (s.endSwitch w status).quiet.unmoved.larder = s.quiet.unmoved.larder := by
  unfold State.endSwitch
  simp

@[simp ↓] theorem State.switchTo_larderKept (s : State) (x : Switch) (ph : SwitchPhase) :
    (s.switchTo x ph).quiet.unmoved.larder = s.quiet.unmoved.larder := by
  rfl

@[simp ↓] theorem State.writePointer_larderKept (s : State) (w : Nat) :
    (s.writePointer w).quiet.unmoved.larder = s.quiet.unmoved.larder := by
  rfl

@[simp ↓] theorem State.bootSwitch_larderKept (s : State) (w : Nat) : (s.bootSwitch w).quiet.unmoved.larder = s.quiet.unmoved.larder := by
  unfold State.bootSwitch
  dsimp only
  split <;> simp

@[simp ↓] theorem State.stopPair_larderKept (s : State) (p : Nat) : (s.stopPair p).quiet.unmoved.larder = s.quiet.unmoved.larder := by
  unfold State.stopPair
  simp

@[simp ↓] theorem switchChecksDone_larderKept (ok : Bool) (s : State) :
    (switchChecksDone ok s).quiet.unmoved.larder = s.quiet.unmoved.larder := by
  unfold switchChecksDone
  dsimp only
  (repeat' split) <;> simp

@[simp ↓] theorem standbySynced_larderKept (ok : Bool) (s : State) : (standbySynced ok s).quiet.unmoved.larder = s.quiet.unmoved.larder := by
  unfold standbySynced
  split <;> simp

@[simp ↓] theorem newPairCommit_larderKept (s : State) : (newPairCommit s).quiet.unmoved.larder = s.quiet.unmoved.larder := by
  unfold newPairCommit
  split <;> simp

@[simp ↓] theorem formerPairSynced_larderKept (ok : Bool) (s : State) :
    (formerPairSynced ok s).quiet.unmoved.larder = s.quiet.unmoved.larder := by
  unfold formerPairSynced
  split <;> simp

@[simp ↓] theorem State.useHeld_larderKept (s : State) : s.useHeld.quiet.unmoved.larder = s.quiet.unmoved.larder := by
  unfold State.useHeld
  exact foldl_larder _ _ _ fun _ _ => rfl

@[simp ↓] theorem State.moveLane_larderKept (s : State) (k dst : Nat) :
    (s.moveLane k dst).quiet.unmoved.larder = s.quiet.unmoved.larder := by
  unfold State.moveLane
  simp
  split <;> simp

@[simp ↓] theorem State.swapLane_larderKept (s : State) (k n : Nat) :
    (s.swapLane k n).2.2.quiet.unmoved.larder = s.quiet.unmoved.larder := by
  unfold State.swapLane
  (repeat' split) <;> simp

@[simp ↓] theorem laneSwapDone_larderKept (k : Nat) (s : State) : (laneSwapDone k s).quiet.unmoved.larder = s.quiet.unmoved.larder := by
  unfold laneSwapDone
  split <;> simp

@[simp ↓] theorem State.recal_larderKept (s : State) (b : Nat) : (s.recal b).2.2.quiet.unmoved.larder = s.quiet.unmoved.larder := by
  unfold State.recal
  (repeat' split) <;> simp

@[simp ↓] theorem recalDone_larderKept (s : State) : (recalDone s).quiet.unmoved.larder = s.quiet.unmoved.larder := by
  unfold recalDone
  split
  · rfl
  · split
    · rfl
    · simp only [State.endOp_quiet]
      exact each_larder _ _ _ fun _ _ => rfl

@[simp ↓] theorem State.keepDrive_larderKept (s : State) (p : Par) (i j : Nat) :
    (s.keepDrive p i j).quiet.unmoved.larder = s.quiet.unmoved.larder := by
  unfold State.keepDrive
  dsimp only
  (repeat' split) <;> simp

@[simp ↓] theorem State.writePlain_larderKept (s : State) (p : Par) (i j : Nat) (v : Int) :
    (s.writePlain p i j v).quiet.unmoved.larder = s.quiet.unmoved.larder := by
  unfold State.writePlain
  (repeat' split) <;> simp

@[simp ↓] theorem State.atticStart_larderKept (s : State) (j : AtticJob) :
    (s.atticStart j).quiet.unmoved.larder = s.quiet.unmoved.larder := by
  rfl

@[simp ↓] theorem State.atticWrite_larderKept (s : State) (n seq slot v : Nat) :
    (s.atticWrite n seq slot v).quiet.unmoved.larder = s.quiet.unmoved.larder := by
  unfold State.atticWrite
  split <;> simp

@[simp ↓] theorem State.atticEnd_larderKept (s : State) (j : AtticJob) (status : Nat) :
    (s.atticEnd j status).quiet.unmoved.larder = s.quiet.unmoved.larder := by
  unfold State.atticEnd
  simp

@[simp ↓] theorem atticProgramDone_larderKept (pass : Bool) (s : State) :
    (atticProgramDone pass s).quiet.unmoved.larder = s.quiet.unmoved.larder := by
  unfold atticProgramDone
  dsimp only
  (repeat' split) <;> simp

@[simp ↓] theorem State.atticPowerLoss_larderKept (s : State) : s.atticPowerLoss.quiet.unmoved.larder = s.quiet.unmoved.larder := by
  unfold State.atticPowerLoss
  split <;> simp

@[simp ↓] theorem State.loadSlot_larderKept (s : State) (k : Nat) : (s.loadSlot k).quiet.unmoved.larder = s.quiet.unmoved.larder := by
  unfold State.loadSlot
  simp

@[simp ↓] theorem State.atticLoad_larderKept (s : State) (failed : List (Nat × Nat)) :
    (s.atticLoad failed).quiet.unmoved.larder = s.quiet.unmoved.larder := by
  unfold State.atticLoad
  simp

@[simp ↓] theorem State.endElection_larderKept (s : State) (winner : Nat) :
    (s.endElection winner).quiet.unmoved.larder = s.quiet.unmoved.larder := by
  unfold State.endElection
  split <;> simp

@[simp ↓] theorem State.endOffer_larderKept (s : State) (status : Nat) :
    (s.endOffer status).quiet.unmoved.larder = s.quiet.unmoved.larder := by
  unfold State.endOffer
  split <;> simp

@[simp ↓] theorem State.becomeOwner_larderKept (s : State) (n cause : Nat) :
    (s.becomeOwner n cause).quiet.unmoved.larder = s.quiet.unmoved.larder := by
  unfold State.becomeOwner
  simp

@[simp ↓] theorem State.loseOwner_larderKept (s : State) (cause : Nat) :
    (s.loseOwner cause).quiet.unmoved.larder = s.quiet.unmoved.larder := by
  unfold State.loseOwner
  dsimp only
  (repeat' split) <;> simp

@[simp ↓] theorem State.closeSession_larderKept (s : State) (n : Nat) :
    (s.closeSession n).quiet.unmoved.larder = s.quiet.unmoved.larder := by
  unfold State.closeSession
  simp

@[simp ↓] theorem electionClose_larderKept (s : State) : (electionClose s).quiet.unmoved.larder = s.quiet.unmoved.larder := by
  unfold electionClose
  (repeat' split) <;> simp

@[simp ↓] theorem handoverLapse_larderKept (s : State) : (handoverLapse s).quiet.unmoved.larder = s.quiet.unmoved.larder := by
  unfold handoverLapse
  split <;> simp

@[simp ↓] theorem State.claim_larderKept (s : State) (n seq : Nat) : (s.claim n seq).quiet.unmoved.larder = s.quiet.unmoved.larder := by
  unfold State.claim
  dsimp only
  (repeat' split) <;> simp

@[simp ↓] theorem State.handover_larderKept (s : State) (n seq target : Nat) :
    (s.handover n seq target).quiet.unmoved.larder = s.quiet.unmoved.larder := by
  unfold State.handover
  dsimp only
  split <;> simp

@[simp ↓] theorem ownerHeartbeatTimeout_larderKept (s : State) : (ownerHeartbeatTimeout s).quiet.unmoved.larder = s.quiet.unmoved.larder := by
  unfold ownerHeartbeatTimeout
  simp

@[simp ↓] theorem emergencyDelay_larderKept (s : State) : (emergencyDelay s).quiet.unmoved.larder = s.quiet.unmoved.larder := by
  unfold emergencyDelay
  split <;> simp

@[simp ↓] theorem sessionIdleTimeout_larderKept (n : Nat) (s : State) :
    (sessionIdleTimeout n s).quiet.unmoved.larder = s.quiet.unmoved.larder := by
  unfold sessionIdleTimeout
  simp

@[simp ↓] theorem authProofTimeout_larderKept (n : Nat) (s : State) : (authProofTimeout n s).quiet.unmoved.larder = s.quiet.unmoved.larder := by
  unfold authProofTimeout
  simp

@[simp ↓] theorem State.clearChopper_larderKept (s : State) (l : Nat) :
    (s.clearChopper l).quiet.unmoved.larder = s.quiet.unmoved.larder := by
  unfold State.clearChopper
  simp

@[simp ↓] theorem faultRecordCopy_larderKept (j : Nat) (s : State) : (faultRecordCopy j s).quiet.unmoved.larder = s.quiet.unmoved.larder := by
  unfold faultRecordCopy
  (repeat' split) <;> simp

@[simp ↓] theorem State.toStep_larderKept (s : State) (b : BootStep) : (s.toStep b).quiet.unmoved.larder = s.quiet.unmoved.larder := by
  rfl

@[simp ↓] theorem crystalQualified_larderKept (s : State) : (crystalQualified s).quiet.unmoved.larder = s.quiet.unmoved.larder := by
  unfold crystalQualified
  simp

@[simp ↓] theorem crystalTimeout_larderKept (inRange : Bool) (s : State) :
    (crystalTimeout inRange s).quiet.unmoved.larder = s.quiet.unmoved.larder := by
  unfold crystalTimeout
  simp

@[simp ↓] theorem pllLocked_larderKept (s : State) : (pllLocked s).quiet.unmoved.larder = s.quiet.unmoved.larder := by
  unfold pllLocked
  simp

@[simp ↓] theorem cellarSelfTest_larderKept (s : State) : (cellarSelfTest s).quiet.unmoved.larder = s.quiet.unmoved.larder := by
  unfold cellarSelfTest
  simp

@[simp ↓] theorem atticLoadStep_larderKept (failed : List (Nat × Nat)) (s : State) :
    (atticLoadStep failed s).quiet.unmoved.larder = s.quiet.unmoved.larder := by
  unfold atticLoadStep
  simp

@[simp ↓] theorem State.startLoader_larderKept (s : State) : s.startLoader.quiet.unmoved.larder = s.quiet.unmoved.larder := by
  rfl

@[simp ↓] theorem State.wingFailed_larderKept (s : State) : s.wingFailed.quiet.unmoved.larder = s.quiet.unmoved.larder := by
  unfold State.wingFailed
  simp

@[simp ↓] theorem wingSelection_larderKept (ptrOk : Bool) (s : State) :
    (wingSelection ptrOk s).quiet.unmoved.larder = s.quiet.unmoved.larder := by
  unfold wingSelection
  simp

@[simp ↓] theorem imageCrcCheck_larderKept (s : State) : (imageCrcCheck s).quiet.unmoved.larder = s.quiet.unmoved.larder := by
  unfold imageCrcCheck
  simp

@[simp ↓] theorem lockstepSelfTest_larderKept (okA okB : Bool) (s : State) :
    (lockstepSelfTest okA okB s).quiet.unmoved.larder = s.quiet.unmoved.larder := by
  unfold lockstepSelfTest
  (repeat' split) <;> simp

@[simp ↓] theorem configLoad_larderKept (ok : Bool) (area : List (Nat × Int)) (s : State) :
    (configLoad ok area s).quiet.unmoved.larder = s.quiet.unmoved.larder := by
  unfold configLoad
  split
  · rfl
  · extract_lets +onlyGivenNames s1 s2 s3 s4
    have h2 : s2.quiet.unmoved.larder = s.quiet.unmoved.larder :=
      (foldl_larder _ _ _ fun _ _ => larder_lit ..).trans (foldl_larder _ _ _ fun _ _ => congrArg State.larder (State.loadPar_still ..))
    have h3 : s3.quiet.unmoved.larder = s.quiet.unmoved.larder := by
      simp only [s3]
      split
      · split
        · rw [each_larder _ _ _ fun _ _ => by simp only [State.setPar_quiet]]
          simp only [State.setPar_quiet]
          exact h2
        · exact h2
      · simp only [State.setBit_quiet]
    have h4 : s4.quiet.unmoved.larder = s.quiet.unmoved.larder := larder_ite_trans (by simp only [State.frRestore_quiet]) h3
    simp only [State.toStep_larderKept, h4]

@[simp ↓] theorem cellLinkTraining_larderKept (absent : Nat) (bootV counts : List Nat) (s : State) :
    (cellLinkTraining absent bootV counts s).quiet.unmoved.larder = s.quiet.unmoved.larder := by
  unfold cellLinkTraining
  dsimp only
  (repeat' split) <;> simp

@[simp ↓] theorem State.porchSay_larderKept (s : State) (status : Nat) (data : Nat := 0) :
    (s.porchSay status data).quiet.unmoved.larder = s.quiet.unmoved.larder := by
  rfl

@[simp ↓] theorem State.porchBit_larderKept (s : State) (k : Nat) : (s.porchBit k).quiet.unmoved.larder = s.quiet.unmoved.larder := by
  rfl

@[simp ↓] theorem State.sticky_larderKept (s : State) : s.sticky.quiet.unmoved.larder = s.quiet.unmoved.larder := by
  rfl

@[simp ↓] theorem State.refused_larderKept (s : State) : s.refused.quiet.unmoved.larder = s.quiet.unmoved.larder := by
  rfl

@[simp ↓] theorem State.newChallenge_larderKept (s : State) : s.newChallenge.quiet.unmoved.larder = s.quiet.unmoved.larder := by
  unfold State.newChallenge
  simp

@[simp ↓] theorem State.verify_larderKept (s : State) : s.verify.quiet.unmoved.larder = s.quiet.unmoved.larder := by
  unfold State.verify
  split <;> simp

@[simp ↓] theorem State.snapClear_larderKept (s : State) : s.snapClear.quiet.unmoved.larder = s.quiet.unmoved.larder := by
  rfl

@[simp ↓] theorem State.statWrite_larderKept (s : State) (v : Nat) : (s.statWrite v).quiet.unmoved.larder = s.quiet.unmoved.larder := by
  unfold State.statWrite
  simp

@[simp ↓] theorem State.halted_larderKept (s : State) (cause : Nat) : (s.halted cause).quiet.unmoved.larder = s.quiet.unmoved.larder := by
  unfold State.halted
  simp

@[simp ↓] theorem State.fullHalt_larderKept (s : State) : s.fullHalt.quiet.unmoved.larder = s.quiet.unmoved.larder := by
  unfold State.fullHalt
  simp

@[simp ↓] theorem State.liveHalt_larderKept (s : State) : s.liveHalt.quiet.unmoved.larder = s.quiet.unmoved.larder := by
  unfold State.liveHalt
  simp

@[simp ↓] theorem State.shiftTimers_larderKept (s : State) (d : Nat) : (s.shiftTimers d).quiet.unmoved.larder = s.quiet.unmoved.larder := by
  rfl

@[simp ↓] theorem State.resume_larderKept (s : State) : s.resume.quiet.unmoved.larder = s.quiet.unmoved.larder := by
  unfold State.resume
  split <;> simp

@[simp ↓] theorem State.resumeRequest_larderKept (s : State) : s.resumeRequest.quiet.unmoved.larder = s.quiet.unmoved.larder := by
  unfold State.resumeRequest
  simp

@[simp ↓] theorem State.stepRequest_larderKept (s : State) : s.stepRequest.quiet.unmoved.larder = s.quiet.unmoved.larder := by
  unfold State.stepRequest
  simp

@[simp ↓] theorem State.relock_larderKept (s : State) : s.relock.quiet.unmoved.larder = s.quiet.unmoved.larder := by
  unfold State.relock
  simp

@[simp ↓] theorem State.hit_larderKept (s : State) (cause : Nat) (pc : Option Nat) :
    (s.hit cause pc).quiet.unmoved.larder = s.quiet.unmoved.larder := by
  unfold State.hit
  (repeat' split) <;> simp

@[simp ↓] theorem breakpointHit_larderKept (k : Nat) (s : State) : (breakpointHit k s).quiet.unmoved.larder = s.quiet.unmoved.larder := by
  unfold breakpointHit
  dsimp only
  (repeat' split) <;> simp

@[simp ↓] theorem watchpointHit_larderKept (k a : Nat) (wr : Bool) (s : State) :
    (watchpointHit k a wr s).quiet.unmoved.larder = s.quiet.unmoved.larder := by
  unfold watchpointHit
  simp

@[simp ↓] theorem State.haltCtrl_larderKept (s : State) (v : Nat) : (s.haltCtrl v).quiet.unmoved.larder = s.quiet.unmoved.larder := by
  unfold State.haltCtrl
  split <;> simp

@[simp ↓] theorem State.lockCmd_larderKept (s : State) (v : Nat) : (s.lockCmd v).quiet.unmoved.larder = s.quiet.unmoved.larder := by
  unfold State.lockCmd
  split <;> simp

@[simp ↓] theorem porchIdleReset_larderKept (s : State) : (porchIdleReset s).quiet.unmoved.larder = s.quiet.unmoved.larder := by
  rfl

@[simp ↓] theorem porchVerifyDone_larderKept (sig : Bool) (s : State) :
    (porchVerifyDone sig s).quiet.unmoved.larder = s.quiet.unmoved.larder := by
  unfold porchVerifyDone
  simp

@[simp ↓] theorem challengeBlockEnd_larderKept (s : State) : (challengeBlockEnd s).quiet.unmoved.larder = s.quiet.unmoved.larder := by
  unfold challengeBlockEnd
  (repeat' split) <;> simp

@[simp ↓] theorem standbyResynced_larderKept (s : State) : (standbyResynced s).quiet.unmoved.larder = s.quiet.unmoved.larder := by
  unfold standbyResynced
  simp

@[simp ↓] theorem State.scanCells_larderKept (s : State) (x : Scan) : (s.scanCells x).quiet.unmoved.larder = s.quiet.unmoved.larder := by
  unfold State.scanCells
  split
  · rfl
  · rw [larder_lit]
    exact foldl_snd_larder _ _ _ fun a i => congrArg State.larder (State.cellSees_still ..)

@[simp ↓] theorem State.scanBypass_larderKept (s : State) (x : Scan) : (s.scanBypass x).quiet.unmoved.larder = s.quiet.unmoved.larder := by
  unfold State.scanBypass
  split <;> simp

@[simp ↓] theorem State.scanId_larderKept (s : State) (x : Scan) : (s.scanId x).quiet.unmoved.larder = s.quiet.unmoved.larder := by
  unfold State.scanId
  split <;> simp

@[simp ↓] theorem State.setIr_larderKept (s : State) (c : Nat) : (s.setIr c).quiet.unmoved.larder = s.quiet.unmoved.larder := by
  rfl

@[simp ↓] theorem samplePreload_larderKept (x : Scan) (s : State) : (samplePreload x s).quiet.unmoved.larder = s.quiet.unmoved.larder := by
  refine State.tap_larderKept _ _ ?_
  simp

@[simp ↓] theorem idcodeScan_larderKept (x : Scan) (s : State) : (idcodeScan x s).quiet.unmoved.larder = s.quiet.unmoved.larder := by
  refine State.tap_larderKept _ _ ?_
  simp

@[simp ↓] theorem bypassScan_larderKept (x : Scan) (s : State) : (bypassScan x s).quiet.unmoved.larder = s.quiet.unmoved.larder := by
  refine State.tap_larderKept _ _ ?_
  simp

@[simp ↓] theorem spiWrite_larderKept (bs : Bytes) (s : State) : (spiWrite bs s).quiet.unmoved.larder = s.quiet.unmoved.larder := by
  unfold spiWrite
  simp

@[simp ↓] theorem spiRead_larderKept (n : Nat) (s : State) : (spiRead n s).quiet.unmoved.larder = s.quiet.unmoved.larder := by
  unfold spiRead
  simp

@[simp ↓] theorem spiQuery_larderKept (bs : Bytes) (s : State) : (spiQuery bs s).quiet.unmoved.larder = s.quiet.unmoved.larder := by
  unfold spiQuery
  (repeat' split) <;> simp

@[simp ↓] theorem State.setFeed_larderKept (s : State) (x : Nat) (f : Feed) :
    (s.setFeed x f).quiet.unmoved.larder = s.quiet.unmoved.larder := by
  rfl

@[simp ↓] theorem State.measureFeed_larderKept (s : State) (x : Nat) (vin vsup : Int) :
    (s.measureFeed x vin vsup).quiet.unmoved.larder = s.quiet.unmoved.larder := by
  rfl

@[simp ↓] theorem supplyMeasure_larderKept (vinA vinB : Int) (vsup cur : Nat) (s : State) :
    (supplyMeasure vinA vinB vsup cur s).quiet.unmoved.larder = s.quiet.unmoved.larder := by
  unfold supplyMeasure
  simp

@[simp ↓] theorem feedReverse_larderKept (x : Nat) (s : State) : (feedReverse x s).quiet.unmoved.larder = s.quiet.unmoved.larder := by
  unfold feedReverse
  simp

@[simp ↓] theorem feedForward_larderKept (x : Nat) (vin : Int) (s : State) :
    (feedForward x vin s).quiet.unmoved.larder = s.quiet.unmoved.larder := by
  unfold feedForward
  simp

end Sys2Proof.Machine
end

section
/-!
SUPPORT. What the stages of a lane's period change between two commands (Table 1.7): they move axes, their records go to L4's mirror
bank and to the sample planes, and only the two stages that write a sample record touch the Larder.
-/
namespace Sys2Proof.Machine

@[simp ↓] theorem State.fluxStep_still (s : State) (k cyc : Nat) : (s.fluxStep k cyc).quiet.unmoved = s.quiet.unmoved := by
  unfold State.fluxStep
  simp

@[simp ↓] theorem State.waggleGate_still (s : State) (k : Nat) : (s.waggleGate k).quiet.unmoved = s.quiet.unmoved := by
  rfl

@[simp ↓] theorem State.waggleDemod_still (s : State) (k tm : Nat) (held : Bool) :
    (s.waggleDemod k tm held).quiet.unmoved = s.quiet.unmoved := by
  unfold State.waggleDemod
  extract_lets +onlyGivenNames p lead b s1
  have h1 : s1.quiet.unmoved = s.quiet.unmoved := by
    refine foldl_still _ _ _ fun s c => ?_
    dsimp only
    simp only [State.setBridge_still, State.calc_still]
  clear_value s1
  split
  · exact h1
  · extract_lets +onlyGivenNames sg
    have hc := State.calc_still s1 k (do
      let d ← (s1.bridge lead).wagD.diffC b.wagD
      parkC d p.wagInjAngle)
    split
    next q s2 heq =>
      rw [heq] at hc
      dsimp only
      refine still_ite_trans ?_ ?_
      · simp only [State.setPar_quiet]
      · simp only [State.setPar_quiet, ↓State.modAx_still, hc, h1]

@[simp ↓] theorem State.catchCoast_still (s : State) (k : Nat) : (s.catchCoast k).quiet.unmoved = s.quiet.unmoved := by
  rfl

@[simp ↓] theorem State.catchAngle_still (s : State) (k th tm cyc : Nat) : (s.catchAngle k th tm cyc).quiet.unmoved = s.quiet.unmoved := by
  unfold State.catchAngle
  simp

@[simp ↓] theorem State.enterSix_still (s : State) (k : Nat) : (s.enterSix k).quiet.unmoved = s.quiet.unmoved := by
  unfold State.enterSix
  simp

@[simp ↓] theorem State.sixSense_still (s : State) (k : Nat) : (s.sixSense k).quiet.unmoved = s.quiet.unmoved := by
  unfold State.sixSense
  simp

@[simp ↓] theorem State.sixCommutate_still (s : State) (k : Nat) : (s.sixCommutate k).quiet.unmoved = s.quiet.unmoved := by
  unfold State.sixCommutate
  dsimp only
  split <;> simp

@[simp ↓] theorem State.superviseLoss_still (s : State) (k cyc : Nat) : (s.superviseLoss k cyc).quiet.unmoved = s.quiet.unmoved := by
  unfold State.superviseLoss
  dsimp only
  (repeat' split) <;> simp

@[simp ↓] theorem State.superviseProc_still (s : State) (k : Nat) : (s.superviseProc k).quiet.unmoved = s.quiet.unmoved := by
  unfold State.superviseProc
  dsimp only
  split <;> simp

@[simp ↓] theorem State.fluxModel_still (s : State) (k cyc : Nat) (i : Vec2) : (s.fluxModel k cyc i).quiet.unmoved = s.quiet.unmoved := by
  unfold State.fluxModel
  dsimp only
  (repeat' split) <;> simp

@[simp ↓] theorem State.rampRefs_still (s : State) (k cyc : Nat) : (s.rampRefs k cyc).1.quiet.unmoved = s.quiet.unmoved := by
  unfold State.rampRefs
  dsimp only
  (repeat' split) <;> simp

@[simp ↓] theorem State.balance_still (s : State) (k : Nat) (dq : List Vec2) : (s.balance k dq).1.quiet.unmoved = s.quiet.unmoved := by
  unfold State.balance
  dsimp only
  (repeat' split) <;> simp

@[simp ↓] theorem State.computeBridge_still (s : State) (w : Job) (r : Refs) : (s.computeBridge w r).1.quiet.unmoved = s.quiet.unmoved := by
  rfl

@[simp ↓] theorem State.pulseSet_still (s : State) (k : Nat) : (s.pulseSet k).quiet.unmoved = s.quiet.unmoved := by
  rfl

@[simp ↓] theorem State.bridgeStep_still (s : State) (w : Job) (r : Refs) : (s.bridgeStep w r).1.quiet.unmoved = s.quiet.unmoved := by
  unfold State.bridgeStep
  dsimp only
  (repeat' split) <;> simp

@[simp ↓] theorem State.putBridge_still (s : State) (n : Nat) (w : Job) (o : BridgeOut) :
    (s.putBridge n w o).quiet.unmoved = s.quiet.unmoved := by
  unfold State.putBridge
  dsimp only
  (repeat' split) <;> simp

@[simp ↓] theorem State.procAngle_still (s : State) (k cyc tm : Nat) (meas : Bool) (i0 : Vec2) (p : Proc) :
    (s.procAngle k cyc tm meas i0 p).quiet.unmoved = s.quiet.unmoved := by
  unfold State.procAngle
  split
  · simp
  · dsimp only
    split <;> simp
  · dsimp only
    split
    · simp
    · simp
  · simp
  · rfl

@[simp ↓] theorem State.position_still (s : State) (n k cyc : Nat) : (s.position n k cyc).quiet.unmoved = s.quiet.unmoved := by
  unfold State.position
  extract_lets +onlyGivenNames l lead br meas double tm i0 held s1 s2 s3 s4 s5 proc s6 s7 s8 s9
  have h2 : s2.quiet.unmoved = s.quiet.unmoved := by
    simp only [s2, s1]
    split
    · simp
    · split <;> simp
  have h8 : s8.quiet.unmoved = s.quiet.unmoved := by
    simp only [s8, s7, s6, s5, s4, s3, State.waggleGate_still, State.fuse_still, State.procAngle_still, State.vmUpdate_still, State.fluxStep_still, State.modAx_still, h2]
  have h9 : s9.quiet.unmoved = s.quiet.unmoved := by
    refine still_ite_trans ?_ h8
    rw [State.sixCommutate_still]
    split <;> simp
  simp only [State.superviseLoss_still, State.superviseProc_still, h9]

@[simp ↓] theorem State.wordsMove_still (s : State) (k at_ : Nat) : (s.wordsMove k at_).quiet.unmoved = s.quiet.unmoved := by
  unfold State.wordsMove
  simp

@[simp ↓] theorem State.latch_larderKept (s : State) (k : Nat) : (s.latch k).quiet.unmoved.larder = s.quiet.unmoved.larder := by
  unfold State.latch
  dsimp only
  (repeat' split) <;> simp

@[simp ↓] theorem State.compute_larderKept (s : State) (n k : Nat) (prevI : List (Nat × Vec2)) :
    (s.compute n k prevI).quiet.unmoved.larder = s.quiet.unmoved.larder := by
  unfold State.compute
  extract_lets +onlyGivenNames l cyc double rising endsValley half bs
  have h1 := s.rampRefs_still k cyc
  split
  next s1 above idOver heq =>
    rw [heq] at h1
    split
    next r n0 _ =>
      extract_lets +onlyGivenNames wag cold mode noProc mpc s2
      have h2 : s2.quiet.unmoved = s.quiet.unmoved := by simp only [s2, State.setBit_quiet]; exact h1
      clear_value s2
      split
      next cur n1 _ =>
        extract_lets +onlyGivenNames dq
        have h3 := State.balance_still (s2.addSats k (n0 + n1)) k dq
        split
        next s3 bl heq3 =>
          rw [heq3] at h3
          replace h3 : s3.quiet.unmoved = s.quiet.unmoved := h3.trans ((State.addSats_still ..).trans h2)
          extract_lets +onlyGivenNames inj s4
          have h4 : s4.quiet.unmoved = s.quiet.unmoved := (foldl_still _ _ _ fun _ _ => State.setBridge_still ..).trans h3
          clear_value s4
          split
          next s5 os heq5 =>
            have h5 : s5.quiet.unmoved = s.quiet.unmoved := by
              refine (congrArg (fun x : State × List BridgeOut => x.1.quiet.unmoved) heq5).symm.trans ((foldl_fst_still _ _ _ fun a x => ?_).trans h4)
              dsimp only
              simp only [State.putBridge_still, State.bridgeStep_still]
            clear heq5
            extract_lets +onlyGivenNames s6 fbs s7
            have h6 : s6.quiet.unmoved = s.quiet.unmoved := by simp only [s6, State.fluxModel_still, State.addSats_still, h5]
            have h7 : s7.quiet.unmoved = s.quiet.unmoved := still_ite_trans (by simp only [State.incPar_quiet]) (by simp only [State.incPar_quiet, h6])
            clear_value s7
            simp only [State.panPeriod_quiet, State.raiseLine_quiet, State.saveRecord_larderKept, State.setLane_still, State.setBit_quiet,
              State.modAx_still, State.setPar_quiet, State.ctrlStatus_quiet, h7]

@[simp ↓] theorem State.frameStage_larderKept (s : State) (n : Nat) : (s.frameStage n).quiet.unmoved.larder = s.quiet.unmoved.larder := by
  unfold State.frameStage
  dsimp only
  (repeat' split) <;> simp

@[simp ↓] theorem State.computeStage_larderKept (s : State) (n : Nat) :
    (s.computeStage n).quiet.unmoved.larder = s.quiet.unmoved.larder := by
  unfold State.computeStage
  dsimp only
  (repeat' split) <;> simp

end Sys2Proof.Machine
end

section
/-!
SUPPORT. The answers to the commands of a host: all but the four that write it leave the Larder as it is (R28), before their reply and
after it.
-/
namespace Sys2Proof.Machine

/-- The answer to a command of a host leaves the Larder of s as it is, before its reply and after it. -/
def Ans.KeepsLarder (a : Ans) (s : State) : Prop :=
  a.st.quiet.unmoved.larder = s.quiet.unmoved.larder ∧ ∀ y, (a.after y).quiet.unmoved.larder = y.quiet.unmoved.larder

/-- Every packet of the command is answered so. -/
def Cmd.KeepsLarder (c : Cmd) : Prop := ∀ s n p, (c.run s n p).KeepsLarder s

theorem ansStatus_keepsLarder {s x : State} (h : x.quiet.unmoved.larder = s.quiet.unmoved.larder) (st : Nat) : (ansStatus x st).KeepsLarder s :=
  ⟨h, fun _ => rfl⟩

theorem axisTarget_keepsLarder {s : State} (p : Pkt) {f : Nat → Ans} (h : ∀ k, (f k).KeepsLarder s) : (axisTarget s p f).KeepsLarder s := by
  unfold axisTarget
  dsimp only
  split
  · exact h _
  · exact ansStatus_keepsLarder rfl _

theorem Ans.keepsLarder_ite {s : State} (c : Prop) [Decidable c] {a b : Ans} (ha : a.KeepsLarder s) (hb : b.KeepsLarder s) :
    (if c then a else b).KeepsLarder s := by
  split
  · exact ha
  · exact hb

theorem cmdPrecheck_keepsLarder : cmdPrecheck.KeepsLarder := by
  intro s n p
  simp only [cmdPrecheck, State.precheckCmd]
  refine axisTarget_keepsLarder p fun k => ?_
  (repeat' split) <;> refine ⟨?_, fun y => ?_⟩ <;> simp [ansStatus]

theorem cmdEnable_keepsLarder : cmdEnable.KeepsLarder := by
  intro s n p
  simp only [cmdEnable, State.enableCmd]
  refine axisTarget_keepsLarder p fun k => ?_
  (repeat' split) <;> refine ⟨?_, fun y => ?_⟩ <;> simp [ansStatus]

theorem cmdDisable_keepsLarder : cmdDisable.KeepsLarder := by
  intro s n p
  simp only [cmdDisable]
  refine axisTarget_keepsLarder p fun k => ?_
  refine ⟨?_, fun y => ?_⟩ <;> simp [ansStatus]

theorem cmdQuickstop_keepsLarder : cmdQuickstop.KeepsLarder := by
  intro s n p
  refine Ans.keepsLarder_ite _ (ansStatus_keepsLarder ?_ _) (axisTarget_keepsLarder p fun k => ansStatus_keepsLarder ?_ _) <;> simp

theorem cmdSetpoint_keepsLarder : cmdSetpoint.KeepsLarder := by
  intro s n p
  simp only [cmdSetpoint, State.setpointCmd]
  refine axisTarget_keepsLarder p fun k => ?_
  (repeat' split) <;> refine ⟨?_, fun y => ?_⟩ <;> simp [ansStatus]

theorem State.moveDev_larderKept (s : State) (st : DevState) : (s.moveDev st).quiet.unmoved.larder = s.quiet.unmoved.larder :=
  (congrArg State.larder (s.moveDev_quiet st) :)

theorem cmdModeDevice_keepsLarder : cmdModeDevice.KeepsLarder := by
  intro s n p
  simp only [cmdModeDevice, State.modeDevice]
  (repeat' split) <;> refine ansStatus_keepsLarder ?_ _ <;> simp [State.moveDev_larderKept]

theorem cmdFaultClearDevice_keepsLarder : cmdFaultClearDevice.KeepsLarder := by
  intro s n p
  simp only [cmdFaultClearDevice, State.clearDevice]
  (repeat' split) <;> refine ansStatus_keepsLarder ?_ _ <;> simp [State.moveDev_larderKept]

theorem cmdFaultClearAxis_keepsLarder : cmdFaultClearAxis.KeepsLarder := by
  intro s n p
  simp only [cmdFaultClearAxis, State.clearAxisCmd]
  refine axisTarget_keepsLarder p fun k => ?_
  (repeat' split) <;> refine ⟨?_, fun y => ?_⟩ <;> simp [ansStatus]

theorem cmdClose_keepsLarder : cmdClose.KeepsLarder := by
  intro s n p
  simp only [cmdClose]
  refine ⟨?_, fun y => ?_⟩ <;> simp [ansStatus]

theorem cmdHeartbeat_keepsLarder : cmdHeartbeat.KeepsLarder := by
  intro s n p
  simp only [cmdHeartbeat]
  refine ⟨?_, fun y => ?_⟩ <;> simp

theorem cmdClaim_keepsLarder : cmdClaim.KeepsLarder := by
  intro s n p
  simp only [cmdClaim]
  (repeat' split) <;> refine ⟨?_, fun y => ?_⟩ <;> simp [ansStatus]

theorem cmdRelease_keepsLarder : cmdRelease.KeepsLarder := by
  intro s n p
  simp only [cmdRelease]
  refine ⟨?_, fun y => ?_⟩ <;> simp [ansStatus]

theorem cmdHandover_keepsLarder : cmdHandover.KeepsLarder := by
  intro s n p
  simp only [cmdHandover]
  (repeat' split) <;> refine ⟨?_, fun y => ?_⟩ <;> simp [ansStatus]

theorem cmdGet_keepsLarder : cmdGet.KeepsLarder := by
  intro s n p
  simp only [cmdGet, State.getParams]
  (repeat' split) <;> refine ⟨?_, fun y => ?_⟩ <;> simp [ansStatus]

theorem cmdGetBlock_keepsLarder : cmdGetBlock.KeepsLarder := by
  intro s n p
  simp only [cmdGetBlock, State.getBlock]
  (repeat' split) <;> refine ⟨?_, fun y => ?_⟩ <;> simp [ansStatus]

theorem cmdSnapshot_keepsLarder : cmdSnapshot.KeepsLarder := by
  intro s n p
  simp only [cmdSnapshot, State.snapshot]
  (repeat' split) <;> refine ⟨?_, fun y => ?_⟩ <;> simp [ansStatus]

theorem cmdSubscribe_keepsLarder : cmdSubscribe.KeepsLarder := by
  intro s n p
  simp only [cmdSubscribe, State.subscribe]
  (repeat' split) <;> refine ⟨?_, fun y => ?_⟩ <;> simp [ansStatus]

theorem cmdUnsubscribe_keepsLarder : cmdUnsubscribe.KeepsLarder := by
  intro s n p
  simp only [cmdUnsubscribe, State.unsubscribe]
  refine ⟨?_, fun y => ?_⟩ <;> simp [ansStatus]

theorem cmdForagerStart_keepsLarder : cmdForagerStart.KeepsLarder := by
  intro s n p
  simp only [cmdForagerStart]
  (repeat' split) <;> refine ⟨?_, fun y => ?_⟩ <;> simp [ansStatus]

theorem cmdForagerStop_keepsLarder : cmdForagerStop.KeepsLarder := by
  intro s n p
  simp only [cmdForagerStop]
  refine ⟨?_, fun y => ?_⟩ <;> simp [ansStatus]

theorem cmdPantryDisarm_keepsLarder : cmdPantryDisarm.KeepsLarder := by
  intro s n p
  simp only [cmdPantryDisarm]
  refine ⟨?_, fun y => ?_⟩ <;> simp [ansStatus]

theorem cmdPantryArm_keepsLarder : cmdPantryArm.KeepsLarder := by
  intro s n p
  simp only [cmdPantryArm]
  (repeat' split) <;> refine ⟨?_, fun y => ?_⟩ <;> simp [ansStatus]

theorem cmdPantryTrigger_keepsLarder : cmdPantryTrigger.KeepsLarder := by
  intro s n p
  simp only [cmdPantryTrigger]
  (repeat' split) <;> refine ⟨?_, fun y => ?_⟩ <;> simp [ansStatus]

theorem cmdPantryRead_keepsLarder (bad : List Nat) : (cmdPantryRead bad).KeepsLarder := by
  intro s n p
  simp only [cmdPantryRead, State.pantryRead]
  (repeat' split) <;> refine ⟨?_, fun y => ?_⟩ <;> simp [ansStatus]

theorem cmdAtticRead_keepsLarder : cmdAtticRead.KeepsLarder := by
  intro s n p
  simp only [cmdAtticRead]
  refine ⟨?_, fun y => ?_⟩ <;> simp

theorem cmdAtticWrite_keepsLarder : cmdAtticWrite.KeepsLarder := by
  intro s n p
  simp only [cmdAtticWrite]
  (repeat' split) <;> refine ⟨?_, fun y => ?_⟩ <;> simp [ansStatus]

theorem cmdAtticJournal_keepsLarder : cmdAtticJournal.KeepsLarder := by
  intro s n p
  simp only [cmdAtticJournal]
  refine ⟨?_, fun y => ?_⟩ <;> simp

theorem cmdImageLoad_keepsLarder : cmdImageLoad.KeepsLarder := by
  intro s n p
  simp only [cmdImageLoad]
  (repeat' split) <;> refine ⟨?_, fun y => ?_⟩ <;> simp [ansStatus]

theorem cmdImageVerify_keepsLarder : cmdImageVerify.KeepsLarder := by
  intro s n p
  simp only [cmdImageVerify, opAnswer]
  (repeat' split) <;> refine ⟨?_, fun y => ?_⟩ <;> simp [ansStatus]

theorem cmdImageSwitch_keepsLarder : cmdImageSwitch.KeepsLarder := by
  intro s n p
  simp only [cmdImageSwitch, opAnswer]
  (repeat' split) <;> refine ⟨?_, fun y => ?_⟩ <;> simp [ansStatus]

theorem cmdRecal_keepsLarder : cmdRecal.KeepsLarder := by
  intro s n p
  simp only [cmdRecal, opAnswer]
  (repeat' split) <;> refine ⟨?_, fun y => ?_⟩ <;> simp [ansStatus]

theorem cmdLaneSwap_keepsLarder : cmdLaneSwap.KeepsLarder := by
  intro s n p
  simp only [cmdLaneSwap, opAnswer]
  (repeat' split) <;> refine ⟨?_, fun y => ?_⟩ <;> simp [ansStatus]

theorem cmdHiveLeave_keepsLarder : cmdHiveLeave.KeepsLarder := by
  intro s n p
  simp only [cmdHiveLeave, State.hiveOp]
  (repeat' split) <;> refine ⟨?_, fun y => ?_⟩ <;> simp [ansStatus]

theorem cmdHiveJoin_keepsLarder : cmdHiveJoin.KeepsLarder := by
  intro s n p
  simp only [cmdHiveJoin, State.hiveOp]
  (repeat' split) <;> refine ⟨?_, fun y => ?_⟩ <;> simp [ansStatus]

theorem cmdSoftReset_keepsLarder : cmdSoftReset.KeepsLarder := by
  intro s n p
  simp only [cmdSoftReset]
  (repeat' split) <;> refine ⟨?_, fun y => ?_⟩ <;> simp [ansStatus]

/-- The host of a session is answered by the command's effect alone. -/
theorem State.execute_keepsLarder (s : State) {c : Cmd} (hc : c.KeepsLarder) (n : Nat) (p : Pkt) : (s.execute c n p).KeepsLarder s := by
  unfold State.execute
  refine Ans.keepsLarder_ite _ ⟨?_, fun _ => rfl⟩ (Ans.keepsLarder_ite _ ⟨?_, fun _ => rfl⟩ (Ans.keepsLarder_ite _ ⟨?_, fun _ => rfl⟩ (hc s n p))) <;> simp

theorem State.serveSession_larderKept (s : State) {c : Cmd} (hc : c.KeepsLarder) (o : Origin) (p : Pkt) :
    (s.serveSession c o p).quiet.unmoved.larder = s.quiet.unmoved.larder := by
  unfold State.serveSession
  extract_lets n x s1 back old _ s2 a
  split
  · simp
  · have h1 : s1.quiet.unmoved.larder = s.quiet.unmoved.larder := (congrArg State.larder (s.touch_quiet n o) :)
    clear_value old
    split
    · cases old with
      | some r => simp [h1]
      | none => simp [h1]
    · obtain ⟨hst, hafter⟩ : a.KeepsLarder s2 := s2.execute_keepsLarder hc n p
      have h2 : s2.quiet.unmoved.larder = s.quiet.unmoved.larder := by simp [s2, h1]
      rw [hafter]
      refine larder_ite_trans ?_ ?_
      · simp
      · simp [hst, h2]

theorem State.serve_larderKept (s : State) (tp : Transport) {c : Cmd} (hc : c.KeepsLarder) :
    (s.serve tp c).quiet.unmoved.larder = s.quiet.unmoved.larder := by
  unfold State.serve
  split
  · rfl
  · dsimp only
    split
    · simp
    · split
      · simp
      · simp [State.serveSession_larderKept _ hc]

end Sys2Proof.Machine
end

section
/-!
SUPPORT. The Larder's canonical form (R27, log entry 7): the operations that write the Larder keep it, those that leave the Larder alone
keep it all the more.
-/
namespace Sys2Proof.Machine

/-- A state with the Larder of one in canonical form is in canonical form. -/
theorem State.LarderWf.of_kept {s t : State} (h : s.LarderWf) (e : t.quiet.unmoved.larder = s.quiet.unmoved.larder) : t.LarderWf :=
  (congrArg (fun m => memWf 0#8 m = true) e).mpr h

theorem State.larderWf_of_empty {s : State} (e : s.quiet.unmoved.larder = []) : s.LarderWf := (congrArg (fun m => memWf 0#8 m = true) e).mpr rfl

theorem foldl_wf {α : Type} {f : State → α → State} (hf : ∀ s x, s.LarderWf → (f s x).LarderWf) (l : List α) {s : State} (h : s.LarderWf) :
    (l.foldl f s).LarderWf := by
  induction l generalizing s with
  | nil => exact h
  | cons x l ih => exact ih (hf s x h)

theorem State.larderWf_ite {c : Prop} [Decidable c] {a b : State} (ha : a.LarderWf) (hb : b.LarderWf) : (if c then a else b).LarderWf := by
  split
  · exact ha
  · exact hb

/-! ### Writes of the working memory -/

theorem State.lstore_wf (s : State) (a : Nat) (bs : Bytes) (h : s.LarderWf) : (s.lstore a bs).LarderWf := by
  unfold State.lstore
  refine foldl_wf (fun s w hs => ?_) _ (s.lwrite_wf a bs h)
  split
  · exact hs.of_kept (State.wordRewritten_larderKept ..)
  · exact hs

theorem hwrite_wf_aux (f : State → Nat → Bytes → State) (hf : f = State.hwrite) (s : State) (a : Nat) (bs : Bytes) (h : s.LarderWf) :
    (f s a bs).LarderWf := by
  delta State.hwrite at hf
  generalize regionOf = r at hf
  as_aux_lemma =>
    subst hf
    beta_reduce
    split
    · exact h
    · exact h
    · exact h.of_kept (State.writeTable_larderKept ..)
    · exact s.lstore_wf a bs h

theorem State.hwrite_wf (s : State) (a : Nat) (bs : Bytes) (h : s.LarderWf) : (s.hwrite a bs).LarderWf := hwrite_wf_aux _ rfl s a bs h

theorem State.writeRecord_wf (s : State) (n k kind : Nat) (above : Nat → Bool) (fb : Bytes) (h : s.LarderWf) :
    (s.writeRecord n k kind above fb).LarderWf := s.lwrite_wf _ _ h

theorem State.writeCurrents_wf (s : State) (n k : Nat) (above : Nat → Bool) (h : s.LarderWf) : (s.writeCurrents n k above).LarderWf :=
  foldl_wf (fun s _ hs => State.lwrite_wf _ _ _ (s.lwrite_wf _ _ hs)) _ h

/-! ### The stages of a lane's period -/

theorem State.currentStage_wf (s : State) (n : Nat) (h : s.LarderWf) : (s.currentStage n).LarderWf := by
  unfold State.currentStage
  extract_lets +onlyGivenNames l s1
  have h1 : s1.LarderWf := State.writeCurrents_wf _ _ _ _ (h.of_kept (larder_lit ..))
  exact h1.of_kept (congrArg State.larder (State.setLane_still ..))

theorem State.recordStage_wf (s : State) (n : Nat) (h : s.LarderWf) : (s.recordStage n).LarderWf := by
  unfold State.recordStage
  extract_lets +onlyGivenNames l k s1 s2 s3 s4 s5
  have h2 : s2.LarderWf := State.writeRecord_wf _ _ _ _ _ _ (h.of_kept (larder_lit ..))
  have h3 : s3.LarderWf := foldl_wf (fun s b hs => hs.of_kept (State.foldRecal_larderKept ..)) _ h2
  have h5 : s5.LarderWf := State.larderWf_ite (h3.of_kept (by simp [s4])) h3
  exact h5.of_kept (congrArg State.larder (State.setLane_still ..))

theorem State.runStage_wf (s : State) (n : Nat) (h : s.LarderWf) : (s.runStage n).LarderWf := by
  unfold State.runStage
  split
  · exact h
  · exact s.currentStage_wf n h
  · exact h.of_kept (State.frameStage_larderKept ..)
  · exact s.recordStage_wf n h
  · exact h.of_kept (State.computeStage_larderKept ..)

theorem State.due_wf (s : State) (t : Nat) (h : s.LarderWf) : (s.due t).LarderWf :=
  State.due_induction (P := State.LarderWf) (fun s n hs => s.runStage_wf n hs)
    (fun _ _ _ hs => hs.of_kept ((State.pulseOff_larderKept ..).trans (State.clock_larderKept ..))) (fun _ _ hs => hs) t h

/-! ### The Forager -/

theorem State.beatLands_wf (s : State) (b : FgBeat) (h : s.LarderWf) : (s.beatLands b).LarderWf := by
  unfold State.beatLands
  exact State.larderWf_ite h (s.hwrite_wf _ _ h)

theorem State.issueTo_wf (s : State) (c : Nat) (bs : List FgBeat) (h : s.LarderWf) : (s.issueTo c bs).LarderWf := by
  unfold State.issueTo
  split
  · exact h.of_kept (by simp)
  · dsimp only
    refine (foldl_wf (fun s b hs => s.beatLands_wf b hs) _ ?_).of_kept (congrArg (fun x => x.unmoved.larder) (State.fgAccess_quiet ..))
    exact h.of_kept (by simp)

theorem State.fgGather_larderKept (s : State) (c : Nat) (ded : List Nat) (size stride a n : Nat) :
    (s.fgGather c ded size stride a n).state.quiet.unmoved.larder = s.quiet.unmoved.larder := by
  induction n generalizing s a with
  | zero => rfl
  | succ n ih =>
    rw [State.fgGather]
    have h := s.fgRead_larderKept c ded a size
    split
    · next s1 heq => rwa [heq] at h
    · next b s1 heq =>
      rw [heq] at h
      have h1 := ih s1 ((a + stride) % 4294967296)
      split
      · next s2 heq1 =>
        rw [heq1] at h1
        exact h1.trans h
      · next r s2 heq1 =>
        rw [heq1] at h1
        exact h1.trans h

theorem State.fgChunk_wf (s : State) (c : Nat) (ded : List Nat) (h : s.LarderWf) : (s.fgChunk c ded).LarderWf := by
  unfold State.fgChunk
  split
  · exact h
  · next r _ =>
    extract_lets xs xd size m ss ds r1 n s1 got
    split
    · exact h
    · split
      · split
        · exact h.of_kept (by simp)
        · have hg := s.fgGather_larderKept c ded size ss ((xs + r.done * ss) % 4294967296) m
          split
          · next s2 heq =>
            rw [heq] at hg
            exact h.of_kept hg
          · next bs s2 heq =>
            rw [heq] at hg
            exact State.issueTo_wf _ _ _ (h.of_kept (by simpa using hg))
      · have hg : got.state.quiet.unmoved.larder = s.quiet.unmoved.larder := by
          simp only [got]
          split
          · split
            · exact s.fgRead_larderKept ..
            · rfl
          · exact s.fgRead_larderKept ..
        clear_value got
        split
        · exact h.of_kept (by simp [s1])
        · cases got with
          | halt s2 => exact h.of_kept hg
          | ok bs s2 =>
            dsimp only
            have hs : s2.quiet.unmoved.larder = s.quiet.unmoved.larder := hg
            split
            · exact h.of_kept (by simpa using hs)
            · exact State.issueTo_wf _ _ _ (h.of_kept (by simpa using hs))

theorem State.fgDrained_wf (s : State) (c : Nat) (h : s.LarderWf) : (s.fgDrained c).LarderWf := by
  unfold State.fgDrained
  split
  · exact h.of_kept (by simp)
  · split
    · exact s.fgChunk_wf c [] h
    · exact h

theorem fgMove_wf (c : Nat) (ded : List Nat) (w1 w2 : Nat) (s : State) (h : s.LarderWf) : (fgMove c ded w1 w2 s).LarderWf := by
  unfold fgMove
  extract_lets +onlyGivenNames xs xd len sm dm go
  have hgo : ∀ x total data, x.LarderWf → (go x total data).LarderWf := by
    intro x total data hx
    simp only [go]
    split
    · exact hx.of_kept (by simp)
    · exact State.fgChunk_wf _ _ _ (hx.of_kept (by simp))
  clear_value go
  split
  · exact h.of_kept (by simp)
  · split
    · exact h.of_kept (by simp)
    · split
      · exact h.of_kept (by simp)
      · split
        · exact hgo _ _ _ h
        · split
          · split
            · exact h.of_kept (by simp)
            · exact hgo _ _ _ (h.of_kept (by simp))
          · split
            · exact h.of_kept (by simp)
            · exact hgo _ _ _ (h.of_kept (by simp))

theorem fgShuf_wf (c : Nat) (ded : List Nat) (w1 w2 : Nat) (s : State) (h : s.LarderWf) : (fgShuf c ded w1 w2 s).LarderWf := by
  unfold fgShuf
  extract_lets n al _ s1
  split
  · exact h.of_kept (by simp)
  · split
    · exact h.of_kept (by simp)
    · exact State.fgChunk_wf _ _ _ (h.of_kept (by simp [s1]))

theorem State.fgRunInstr_wf (s : State) (c : Nat) (ded : List Nat) (want : Nat → Bool) (f : Nat → Nat → State → State)
    (hf : ∀ a b s, s.LarderWf → (f a b s).LarderWf) (h : s.LarderWf) : (s.fgRunInstr c ded want f).LarderWf := by
  unfold State.fgRunInstr
  dsimp only
  split
  · exact h
  · split
    · exact h.of_kept (by simp)
    · split
      · exact h.of_kept (by simp)
      · split
        · exact h.of_kept (by simp)
        · split
          · exact h.of_kept (by simp)
          · split
            · exact h.of_kept (by simp)
            · exact hf _ _ _ (h.of_kept (by simp))

theorem writeBeatResponse_wf (c : Nat) (ok : Bool) (s : State) (h : s.LarderWf) : (writeBeatResponse c ok s).LarderWf := by
  unfold writeBeatResponse
  dsimp only
  split
  · exact State.larderWf_ite (h.of_kept (by simp)) h
  · next b rest _ =>
    split
    · have hl := State.beatLands_wf (s.setFg c { s.fg c with outstanding := rest }) b (h.of_kept (by simp))
      exact State.larderWf_ite (State.fgDrained_wf _ _ hl) hl
    · split
      · exact h.of_kept (by simp)
      · split
        · exact h.of_kept (by simp)
        · refine State.larderWf_ite (State.fgDrained_wf _ _ (h.of_kept ?_)) (h.of_kept ?_) <;> simp

theorem publishRecord_wf (k : Nat) (s : State) (h : s.LarderWf) : (publishRecord k s).LarderWf := by
  unfold publishRecord
  extract_lets +onlyGivenNames n vals s1 s2 s3
  split
  · exact h
  · have h2 : s2.LarderWf := State.lstore_wf _ _ _ (h.of_kept (by simp [s1]))
    exact h2.of_kept (by simp [s3])

theorem fgDisableWrite_wf (c v : Nat) (s : State) (h : s.LarderWf) : (fgDisableWrite c v s).LarderWf := by
  unfold fgDisableWrite
  dsimp only
  split
  · exact h
  · split
    · exact h.of_kept (by simp)
    · split
      · split
        · refine State.larderWf_ite (h.of_kept ?_) (h.of_kept ?_) <;> simp
        · exact State.larderWf_ite (State.fgDrained_wf _ _ (h.of_kept (by simp))) (h.of_kept (by simp))
      · exact h.of_kept (by simp)

/-! ### The Hallway and the Porch -/

theorem hallwayAccess_wf (m a n : Nat) (wr : Bool) (bs : Bytes) (bad : List Nat) (s : State) (h : s.LarderWf) :
    (hallwayAccess m a n wr bs bad s).LarderWf := by
  unfold hallwayAccess
  extract_lets +onlyGivenNames len spoilt
  have hsp : ∀ x, x.LarderWf → (spoilt x).LarderWf := fun x hx => hx.of_kept (by simp [spoilt])
  clear_value spoilt
  split
  · exact h
  · split
    · refine h.of_kept ?_
      rw [State.hallwayFault_quiet]
      split <;> simp
    · split
      · exact s.hwrite_wf a bs h
      · split
        · exact hsp _ (h.of_kept (State.larderDed_larderKept ..))
        · split
          · exact hsp _ (h.of_kept (State.larderDed_larderKept ..))
          · exact h.of_kept (by simp)

theorem PorchAns.wf_ite {c : Prop} [Decidable c] {a b : PorchAns} (ha : a.st.LarderWf) (hb : b.st.LarderWf) : (if c then a else b).st.LarderWf := by
  split
  · exact ha
  · exact hb

theorem memWrite4_wf_aux (f : State → Nat → PorchAns) (hf : f = State.memWrite4) (s : State) (v : Nat) (h : s.LarderWf) : (f s v).st.LarderWf := by
  delta State.memWrite4 at hf
  have hh := State.hwrite_wf
  generalize mayReach = m at hf
  generalize State.hwrite = w at hf hh
  as_aux_lemma =>
    subst hf
    beta_reduce
    extract_lets a x
    have hx : x.LarderWf := State.larderWf_ite (hh _ _ _ h) (h.of_kept (congrArg (fun x => x.unmoved.larder) (State.hallwayFault_quiet ..)))
    clear_value x
    exact PorchAns.wf_ite h (hx.of_kept (larder_lit ..))

theorem State.memWrite4_wf (s : State) (v : Nat) (h : s.LarderWf) : (s.memWrite4 v).st.LarderWf := memWrite4_wf_aux _ rfl s v h

theorem State.pOk_st (s : State) (d : Nat) : (s.pOk d).st = s := rfl

theorem memRead4_wf_aux (f : State → PorchAns) (hf : f = State.memRead4) (s : State) (h : s.LarderWf) : (f s).st.LarderWf := by
  delta State.memRead4 at hf
  generalize mayReach = m at hf
  as_aux_lemma =>
    subst hf
    beta_reduce
    extract_lets a step
    have hstep : ∀ x, x.LarderWf → (step x).LarderWf := fun x hx => hx.of_kept (larder_lit ..)
    clear_value step
    split
    · exact h
    · split
      · rw [State.pOk_st]
        refine hstep _ (State.LarderWf.of_kept ?_ (congrArg State.larder (State.draw_still ..)))
        exact h.of_kept (State.larderDed_larderKept ..)
      · rw [State.pOk_st]
        exact hstep _ (h.of_kept (congrArg State.larder (State.hread_still ..)))

theorem State.memRead4_wf (s : State) (h : s.LarderWf) : s.memRead4.st.LarderWf := memRead4_wf_aux _ rfl s h

theorem State.regWrite_wf (s : State) (v : Nat) (h : s.LarderWf) : (s.regWrite v).st.LarderWf := by
  unfold State.regWrite
  dsimp only
  split
  · exact h
  · exact h.of_kept (larder_lit ..)

theorem State.regRead_wf (s : State) (h : s.LarderWf) : s.regRead.st.LarderWf := by
  unfold State.regRead
  dsimp only
  repeat' split
  all_goals exact h

theorem State.memoryAccess_wf (s : State) (wr : Bool) (a v : Nat) (hold : Bool) (h : s.LarderWf) : (s.memoryAccess wr a v hold).st.LarderWf := by
  unfold State.memoryAccess
  dsimp only
  split
  · exact h
  · split
    · exact h
    · split
      · split
        · exact h.of_kept (larder_lit ..)
        · exact h
      · split
        · have hr : (if wr = true then s.memWrite4 v else s.memRead4).st.LarderWf := by
            split
            · exact s.memWrite4_wf v h
            · exact s.memRead4_wf h
          generalize (if wr = true then s.memWrite4 v else s.memRead4) = r at hr ⊢
          split
          · exact h.of_kept (larder_lit ..)
          · exact hr.of_kept (larder_lit ..)
        · split
          · split
            · exact h.of_kept (larder_lit ..)
            · exact h
          · split
            · exact s.regWrite_wf v h
            · exact s.regRead_wf h

theorem State.controlWrite_wf (s : State) (a v : Nat) (h : s.LarderWf) : (s.controlWrite a v).st.LarderWf := by
  unfold State.controlWrite
  extract_lets +onlyGivenNames p un
  have hun : ∀ x, x.LarderWf → (un x).st.LarderWf := fun x hx => PorchAns.wf_ite hx h
  clear_value un
  refine PorchAns.wf_ite (h.of_kept ?_) <| PorchAns.wf_ite (h.of_kept ?_) <| PorchAns.wf_ite (h.of_kept (larder_lit ..)) <|
    PorchAns.wf_ite (hun _ (h.of_kept ?_)) <| PorchAns.wf_ite (hun _ (h.of_kept (larder_lit ..))) <|
    PorchAns.wf_ite (hun _ (h.of_kept (larder_lit ..))) <| PorchAns.wf_ite (hun _ (h.of_kept (larder_lit ..))) h
  · exact State.statWrite_larderKept ..
  · exact State.lockCmd_larderKept ..
  · exact State.haltCtrl_larderKept ..

theorem State.controlRead_wf (s : State) (a : Nat) (h : s.LarderWf) : (s.controlRead a).st.LarderWf := by
  unfold State.controlRead
  extract_lets +onlyGivenNames p un
  have hun : ∀ x, (un x).st.LarderWf := fun x => PorchAns.wf_ite h h
  clear_value un
  exact PorchAns.wf_ite h <| PorchAns.wf_ite h <| PorchAns.wf_ite h <| PorchAns.wf_ite (hun _) <| PorchAns.wf_ite (hun _) <|
    PorchAns.wf_ite (hun _) <| PorchAns.wf_ite (hun _) <| PorchAns.wf_ite (hun _) <| PorchAns.wf_ite (hun _) <| PorchAns.wf_ite (hun _) <|
    PorchAns.wf_ite (hun _) <| PorchAns.wf_ite (hun _) h

theorem State.packetAccess_wf (s : State) (wr : Bool) (a v : Nat) (h : s.LarderWf) : (s.packetAccess wr a v).st.LarderWf := by
  unfold State.packetAccess
  split
  · unfold State.txLenWrite
    (repeat' split) <;> exact h
  · unfold State.txWrite
    dsimp only
    split
    · exact h
    · split
      · exact h.of_kept (larder_lit ..)
      · exact h.of_kept (by simp [State.pOk])
  · exact h
  · unfold State.rxRead
    split
    · exact h.of_kept (by simp [State.pOk])
    · dsimp only
      split
      · exact h.of_kept (larder_lit ..)
      · exact h.of_kept (by simp [State.pOk])
  · exact h

theorem State.transact_wf (s : State) (space : Nat) (wr : Bool) (a v : Nat) (hold headOk dataOk : Bool) (h : s.LarderWf) :
    (s.transact space wr a v hold headOk dataOk).LarderWf := by
  unfold State.transact
  have hr : (s.porchAccess space wr a v hold).st.LarderWf := by
    unfold State.porchAccess
    split
    · split
      · exact s.controlWrite_wf a v h
      · exact s.controlRead_wf a h
    · exact s.memoryAccess_wf wr a v hold h
    · exact s.packetAccess_wf wr a v h
    · exact h
  dsimp only
  split
  · exact h
  · split
    · exact h.of_kept (by simp)
    · split
      · exact h.of_kept (by simp)
      · split
        · exact h.of_kept (by simp)
        · exact hr.of_kept (by simp)

end Sys2Proof.Machine
end

section
/-!
SUPPORT. The Larder's canonical form, kept by the commands that write it and by a restart, which empties it.
-/
namespace Sys2Proof.Machine

/-! ### Parameters that act on the Forager, and the loads of its programs -/

theorem State.writeRow_wf (s : State) (p : Par) (i : Nat) (v : Int) (h : s.LarderWf) : (s.writeRow p i v).LarderWf := by
  unfold State.writeRow
  refine State.larderWf_ite (h.of_kept ?_) <| State.larderWf_ite (h.of_kept ?_) <| State.larderWf_ite (h.of_kept ?_) <|
    State.larderWf_ite (h.of_kept ?_) <| State.larderWf_ite (State.larderWf_ite (h.of_kept ?_) (h.of_kept ?_)) <|
    State.larderWf_ite (h.of_kept ?_) <| State.larderWf_ite (fgDisableWrite_wf _ _ _ h) h
  all_goals simp

theorem State.applyItems_wf (s : State) (items : List (Nat × Nat)) (h : s.LarderWf) : (s.applyItems items).LarderWf := by
  unfold State.applyItems
  extract_lets f
  have hf : ∀ row s it, s.LarderWf → (f row s it).LarderWf := by
    intro row s it hs
    simp only [f]
    split
    · split
      · exact hs
      · split
        · exact s.writeRow_wf _ _ _ hs
        · exact hs.of_kept (State.writePlain_larderKept ..)
    · exact hs
  exact foldl_wf (hf true) _ (foldl_wf (hf false) _ h)

/-- An answer that keeps the Larder's form, before its reply and after it. -/
def Ans.KeepsForm (a : Ans) : Prop := a.st.LarderWf ∧ ∀ y, y.LarderWf → (a.after y).LarderWf

def Cmd.KeepsForm (c : Cmd) : Prop := ∀ s n p, s.LarderWf → (c.run s n p).KeepsForm

theorem Cmd.KeepsLarder.keepsForm {c : Cmd} (hc : c.KeepsLarder) : c.KeepsForm := fun s n p h =>
  ⟨h.of_kept (hc s n p).1, fun y hy => hy.of_kept ((hc s n p).2 y)⟩

theorem ansStatus_keepsForm {x : State} (h : x.LarderWf) (st : Nat) : (ansStatus x st).KeepsForm := ⟨h, fun _ hy => hy⟩

theorem Ans.keepsForm_ite {c : Prop} [Decidable c] {a b : Ans} (ha : a.KeepsForm) (hb : b.KeepsForm) : (if c then a else b).KeepsForm := by
  split
  · exact ha
  · exact hb

theorem State.writeItems_keepsForm (s : State) (n : Nat) (items : List (Nat × Nat)) (h : s.LarderWf) : (s.writeItems n items).KeepsForm := by
  unfold State.writeItems
  have h1 : (s.violate n (protCount (items.map (·.1)))).LarderWf := h.of_kept (by simp)
  dsimp only
  split
  · exact ⟨h1, fun _ hy => hy⟩
  · exact ⟨State.applyItems_wf _ _ h1, fun _ hy => hy⟩

theorem cmdSet_keepsForm : cmdSet.KeepsForm := fun s n _ h => Ans.keepsForm_ite ⟨h, fun _ hy => hy⟩ (s.writeItems_keepsForm n _ h)

theorem cmdSetBlock_keepsForm : cmdSetBlock.KeepsForm := by
  intro s n p h
  have h1 : ∀ x, (s.setSess n x).LarderWf := fun x => h.of_kept (by simp)
  exact Ans.keepsForm_ite ⟨h1 _, fun _ hy => hy⟩ <| Ans.keepsForm_ite ⟨h1 _, fun _ hy => hy⟩ <|
    Ans.keepsForm_ite ⟨h1 _, fun _ hy => hy⟩ (State.writeItems_keepsForm _ n _ (h1 _))

theorem cmdModeAxis_keepsForm : cmdModeAxis.KeepsForm := by
  intro s n p h
  refine Ans.keepsForm_ite ?_ (ansStatus_keepsForm h _)
  unfold State.modeAxis
  refine Ans.keepsForm_ite (ansStatus_keepsForm h _) ?_
  dsimp only
  split
  · exact ansStatus_keepsForm h _
  · exact ansStatus_keepsForm (s.applyItems_wf _ h) _

theorem cmdForagerLoad_keepsForm : cmdForagerLoad.KeepsForm := fun s _ _ h =>
  Ans.keepsForm_ite (ansStatus_keepsForm h _) <| Ans.keepsForm_ite (ansStatus_keepsForm h _) (ansStatus_keepsForm (s.lstore_wf _ _ h) _)

theorem State.execute_keepsForm (s : State) {c : Cmd} (hc : c.KeepsForm) (n : Nat) (p : Pkt) (h : s.LarderWf) : (s.execute c n p).KeepsForm := by
  unfold State.execute
  refine Ans.keepsForm_ite ⟨h.of_kept ?_, fun _ hy => hy⟩ <| Ans.keepsForm_ite ⟨h.of_kept ?_, fun _ hy => hy⟩ <|
    Ans.keepsForm_ite ⟨h, fun _ hy => hy⟩ (hc s n p h) <;> simp

theorem State.serveSession_wf (s : State) {c : Cmd} (hc : c.KeepsForm) (o : Origin) (p : Pkt) (h : s.LarderWf) : (s.serveSession c o p).LarderWf := by
  unfold State.serveSession
  extract_lets n x s1 back old _ s2 a
  have h1 : s1.LarderWf := h.of_kept (congrArg State.larder (s.touch_quiet n o) :)
  have h2 : s2.LarderWf := h1.of_kept (by simp [s2])
  obtain ⟨hst, hafter⟩ : a.KeepsForm := s2.execute_keepsForm hc n p h2
  clear_value old s2 a s1
  split
  · exact h.of_kept (by simp)
  · split
    · cases old with
      | some r => exact h1.of_kept (by simp)
      | none => exact h1.of_kept (by simp)
    · exact hafter _ (State.larderWf_ite hst (hst.of_kept (by simp)))

theorem State.serve_wf (s : State) (tp : Transport) {c : Cmd} (hc : c.KeepsForm) (h : s.LarderWf) : (s.serve tp c).LarderWf := by
  unfold State.serve
  have h1 : (s.front tp).2.LarderWf := h.of_kept (by simp)
  split
  · exact h
  · dsimp only
    split
    · exact h1
    · exact State.larderWf_ite h (State.serveSession_wf _ hc _ _ h1)

theorem parameterWrite_wf (pn v : Nat) (s : State) (h : s.LarderWf) : (parameterWrite pn v s).LarderWf := by
  unfold parameterWrite
  split
  · exact State.larderWf_ite h (s.applyItems_wf _ h)
  · exact h

/-! ### Sample records and the share ring's views -/

theorem selfTrigger_wf (b : Nat) (raw : List Int) (rawV : List Nat) (s : State) (h : s.LarderWf) : (selfTrigger b raw rawV s).LarderWf := by
  unfold selfTrigger
  extract_lets +onlyGivenNames br runs codes i br1 s1 s2 s3 l lowest s4
  split
  · exact h
  · have h2 : s2.LarderWf := h.of_kept (by simp [s2, s1])
    have h3 : s3.LarderWf := by
      simp only [s3]
      clear_value s2
      split
      · refine State.LarderWf.of_kept ?_ (congrArg State.larder (State.ascTrack_still ..))
        exact State.larderWf_ite h2 (State.writeRecord_wf _ _ _ _ _ _ h2)
      · exact h2
    have h4 : s4.LarderWf := State.larderWf_ite h3 (h3.of_kept (by simp))
    exact h4.of_kept (by simp)

theorem State.closeView_wf (s : State) (v : RingView) (h : s.LarderWf) : (s.closeView v).LarderWf := by
  unfold State.closeView
  extract_lets +onlyGivenNames _ s1 s2 s3 data live contrib held s4 minority noTm count _ s5 s6 s7 r _ s8 s9
  have h2 : s2.quiet.unmoved.larder = s.quiet.unmoved.larder := by
    simp only [s2]
    split
    · exact larder_ite_trans (by simp) (by simp [s1])
    · rfl
  have h5 : s5.quiet.unmoved.larder = s.quiet.unmoved.larder := by simp only [s5, s4, s3, ↓larder_lit, State.setPar_quiet, State.closeSlots_quiet, h2]
  clear_value s5
  have h6 : s6.quiet.unmoved.larder = s.quiet.unmoved.larder := by
    simp only [s6]
    split
    · simp only [State.enterFallback_still, h5]
    · exact larder_ite_trans (by simp) (by simp [h5])
  clear_value s6
  refine State.lwrite_wf _ _ _ (State.lwrite_wf _ _ _ (h.of_kept ?_))
  simp only [s9, s8, s7, State.setPar_quiet, ↓larder_lit, State.dupEnd_still, h6]

theorem viewClose_wf (s : State) (h : s.LarderWf) : (viewClose s).LarderWf := by
  unfold viewClose
  split
  · exact h
  · next v _ _ =>
    refine State.larderWf_ite ?_ h
    have hv := s.closeView_wf v h
    generalize s.closeView v = t at hv ⊢
    exact State.larderWf_ite (hv.of_kept (by simp)) hv

/-! ### Restarts -/

/-- A start of the boot finds an empty Larder. -/
theorem State.startBoot_larderEmpty (s : State) (n : Nat) (off : Bool) : (s.startBoot n off).quiet.unmoved.larder = [] := by
  unfold State.startBoot
  extract_lets +onlyGivenNames x _ x1 x2 x3
  have h3 : x3.quiet.unmoved.larder = [] := by
    simp only [x3, x2, State.setPar_quiet]
    split <;> rfl
  clear_value x3
  repeat' split
  · exact h3
  · simp only [State.stoAtBoot_still, h3]
  · simp only [State.stoAtBoot_still, h3]
  · exact h3

theorem State.goOff_larderEmpty (s : State) : s.goOff.quiet.unmoved.larder = [] := rfl

theorem State.startBoot_wf (s : State) (n : Nat) (off : Bool) : (s.startBoot n off).LarderWf :=
  State.larderWf_of_empty (s.startBoot_larderEmpty n off)

theorem State.goOff_wf (s : State) : s.goOff.LarderWf := State.larderWf_of_empty s.goOff_larderEmpty

theorem powerOnRelease_wf (s : State) (h : s.LarderWf) : (powerOnRelease s).LarderWf :=
  State.larderWf_ite h (State.startBoot_wf ..)

theorem brownOut_wf (s : State) (h : s.LarderWf) : (brownOut s).LarderWf :=
  State.larderWf_ite h (State.larderWf_ite (h.of_kept (larder_lit ..)) (State.goOff_wf _))

theorem bootRetry_wf (s : State) (h : s.LarderWf) : (bootRetry s).LarderWf :=
  State.larderWf_ite ((s.startBoot_wf _ _).of_kept (larder_lit ..)) h

theorem bootAfterReply_wf (s : State) (h : s.LarderWf) : (bootAfterReply s).LarderWf := by
  unfold bootAfterReply
  split
  · exact h
  · exact State.larderWf_ite (State.startBoot_wf ..) h

theorem State.scanHold_wf (s : State) (c : Nat) (h : s.LarderWf) : (s.scanHold c).LarderWf := by
  unfold State.scanHold
  refine State.LarderWf.of_kept ?_ (State.setIr_larderKept ..)
  exact State.larderWf_ite (h.of_kept (larder_lit ..)) (State.goOff_wf _)

theorem State.tap_wf (s : State) {f : State → State} (hf : (f s).LarderWf) (h : s.LarderWf) : (s.tap f).LarderWf := State.larderWf_ite hf h

theorem extest_wf (x : Scan) (s : State) (h : s.LarderWf) : (extest x s).LarderWf :=
  s.tap_wf ((s.scanHold_wf _ h).of_kept (State.scanCells_larderKept ..)) h

theorem clampScan_wf (x : Scan) (s : State) (h : s.LarderWf) : (clampScan x s).LarderWf :=
  s.tap_wf ((s.scanHold_wf _ h).of_kept (State.scanBypass_larderKept ..)) h

theorem highz_wf (x : Scan) (s : State) (h : s.LarderWf) : (highz x s).LarderWf :=
  s.tap_wf ((s.scanHold_wf _ h).of_kept (State.scanBypass_larderKept ..)) h

theorem testLogicReset_wf (s : State) (h : s.LarderWf) : (testLogicReset s).LarderWf := by
  have h1 : (s.setIr 0xFE).LarderWf := h.of_kept (State.setIr_larderKept ..)
  exact State.larderWf_ite (State.larderWf_ite (State.startBoot_wf ..) (h1.of_kept (larder_lit ..))) h1

theorem larderInit_wf (bad : Option Nat) (s : State) (h : s.LarderWf) : (larderInit bad s).LarderWf := by
  unfold larderInit
  refine State.larderWf_ite h ?_
  refine State.larderWf_of_empty ?_
  dsimp only
  split
  · rw [State.toStep_larderKept]
    rfl
  · simp only [↓larder_lit, State.startLoader_larderKept, State.raiseModule_still]
    rfl

end Sys2Proof.Machine
end

section
/-!
THEOREMS. The Larder across one command. Every command gives the state that keeps its Larder, or is one of the writers, whose effect keeps
the canonical form (`exec_larder`). The frame of the Larder and the kept form are read off this.
-/
namespace Sys2Proof.Machine

/-- The commands after which a byte of the Larder may read otherwise. -/
def WritesLarder (c : Instr) : Prop :=
  Restarts c ∨ mnemonicOf c ∈ ["LARDER_INIT", "SELF_TRIGGER_CONVERSION", "VIEW_CLOSE", "SET", "PARAMETER_WRITE", "SET_BLOCK", "MODE_AXIS", "FORAGER_LOAD",
        "HALLWAY_ACCESS", "MOVE", "SHUF", "WRITE_BEAT_RESPONSE", "FG_DISABLE", "PUBLISH_RECORD", "PORCH_TRANSACTION", "PORCH_STAT_CLEAR",
        "NEW_CHALLENGE", "VERIFY", "RELOCK", "FULL_HALT", "LIVE_HALT", "HALT_RESUME", "HALT_STEP", "MEM_DATA", "REG_DATA", "TXLEN", "TXDATA",
        "RXDATA"]

/-- What command c makes of the Larder of s in x: the same Larder, or, for a writer, a canonical one of a canonical one. -/
def LarderEffect (c : Instr) (s x : State) : Prop :=
  x.quiet.unmoved.larder = s.quiet.unmoved.larder ∨ WritesLarder c ∧ (s.LarderWf → x.LarderWf)

theorem State.at_wf {s : State} {t : Nat} (h : (s.due t).LarderWf) : (s.at t).LarderWf := h.of_kept rfl

theorem LarderEffect.kept {c : Instr} {s x : State} (h : x.quiet.unmoved.larder = s.quiet.unmoved.larder) : LarderEffect c s x := .inl h

theorem LarderEffect.written {c : Instr} {s x : State} (hc : WritesLarder c) (h : s.LarderWf → x.LarderWf) : LarderEffect c s x := .inr ⟨hc, h⟩

theorem exec_larder (c : Instr) (s : State) : ∃ τ x, timeOf c = τ ∧ exec c s = answer s x ∧ LarderEffect c (s.at τ) x := by
  cases c <;> refine ⟨_, _, rfl, rfl, ?_⟩
  case closeSession => exact .kept (State.serve_larderKept _ _ cmdClose_keepsLarder)
  case heartbeat => exact .kept (State.serve_larderKept _ _ cmdHeartbeat_keepsLarder)
  case claim => exact .kept (State.serve_larderKept _ _ cmdClaim_keepsLarder)
  case release => exact .kept (State.serve_larderKept _ _ cmdRelease_keepsLarder)
  case handover => exact .kept (State.serve_larderKept _ _ cmdHandover_keepsLarder)
  case getParams => exact .kept (State.serve_larderKept _ _ cmdGet_keepsLarder)
  case getBlock => exact .kept (State.serve_larderKept _ _ cmdGetBlock_keepsLarder)
  case snapshot => exact .kept (State.serve_larderKept _ _ cmdSnapshot_keepsLarder)
  case enable => exact .kept (State.serve_larderKept _ _ cmdEnable_keepsLarder)
  case disable => exact .kept (State.serve_larderKept _ _ cmdDisable_keepsLarder)
  case setpoint => exact .kept (State.serve_larderKept _ _ cmdSetpoint_keepsLarder)
  case modeDevice => exact .kept (State.serve_larderKept _ _ cmdModeDevice_keepsLarder)
  case precheck => exact .kept (State.serve_larderKept _ _ cmdPrecheck_keepsLarder)
  case quickstop => exact .kept (State.serve_larderKept _ _ cmdQuickstop_keepsLarder)
  case faultClearAxis => exact .kept (State.serve_larderKept _ _ cmdFaultClearAxis_keepsLarder)
  case faultClearDevice => exact .kept (State.serve_larderKept _ _ cmdFaultClearDevice_keepsLarder)
  case subscribe => exact .kept (State.serve_larderKept _ _ cmdSubscribe_keepsLarder)
  case unsubscribe => exact .kept (State.serve_larderKept _ _ cmdUnsubscribe_keepsLarder)
  case foragerStart => exact .kept (State.serve_larderKept _ _ cmdForagerStart_keepsLarder)
  case foragerStop => exact .kept (State.serve_larderKept _ _ cmdForagerStop_keepsLarder)
  case pantryDisarm => exact .kept (State.serve_larderKept _ _ cmdPantryDisarm_keepsLarder)
  case pantryArm => exact .kept (State.serve_larderKept _ _ cmdPantryArm_keepsLarder)
  case pantryTrigger => exact .kept (State.serve_larderKept _ _ cmdPantryTrigger_keepsLarder)
  case atticRead => exact .kept (State.serve_larderKept _ _ cmdAtticRead_keepsLarder)
  case atticWrite => exact .kept (State.serve_larderKept _ _ cmdAtticWrite_keepsLarder)
  case atticJournal => exact .kept (State.serve_larderKept _ _ cmdAtticJournal_keepsLarder)
  case imageLoad => exact .kept (State.serve_larderKept _ _ cmdImageLoad_keepsLarder)
  case imageVerify => exact .kept (State.serve_larderKept _ _ cmdImageVerify_keepsLarder)
  case imageSwitch => exact .kept (State.serve_larderKept _ _ cmdImageSwitch_keepsLarder)
  case recal => exact .kept (State.serve_larderKept _ _ cmdRecal_keepsLarder)
  case laneSwap => exact .kept (State.serve_larderKept _ _ cmdLaneSwap_keepsLarder)
  case hiveLeave => exact .kept (State.serve_larderKept _ _ cmdHiveLeave_keepsLarder)
  case hiveJoin => exact .kept (State.serve_larderKept _ _ cmdHiveJoin_keepsLarder)
  case softReset => exact .kept (State.serve_larderKept _ _ cmdSoftReset_keepsLarder)
  case pantryRead bad => exact .kept (State.serve_larderKept _ _ (cmdPantryRead_keepsLarder bad))
  case powerOnResetRelease => exact .written (.inl (by simp [Restarts])) fun h => powerOnRelease_wf _ h
  case brownOut => exact .written (.inl (by simp [Restarts])) fun h => brownOut_wf _ h
  case bootSelfTestRetry => exact .written (.inl (by simp [Restarts])) fun h => bootRetry_wf _ h
  case bootAfterReply => exact .written (.inl (by simp [Restarts])) fun h => bootAfterReply_wf _ h
  case extest => exact .written (.inl (by simp [Restarts])) fun h => extest_wf _ _ h
  case clamp => exact .written (.inl (by simp [Restarts])) fun h => clampScan_wf _ _ h
  case highz => exact .written (.inl (by simp [Restarts])) fun h => highz_wf _ _ h
  case testLogicReset => exact .written (.inl (by simp [Restarts])) fun h => testLogicReset_wf _ h
  case larderInit => exact .written (.inr (by simp [mnemonicOf])) fun h => larderInit_wf _ _ h
  case selfTriggerConversion => exact .written (.inr (by simp [mnemonicOf])) fun h => selfTrigger_wf _ _ _ _ h
  case viewClose => exact .written (.inr (by simp [mnemonicOf])) fun h => viewClose_wf _ h
  case parameterWrite => exact .written (.inr (by simp [mnemonicOf])) fun h => parameterWrite_wf _ _ _ h
  case hallwayAccess => exact .written (.inr (by simp [mnemonicOf])) fun h => hallwayAccess_wf _ _ _ _ _ _ _ h
  case writeBeatResponse => exact .written (.inr (by simp [mnemonicOf])) fun h => writeBeatResponse_wf _ _ _ h
  case fgDisable => exact .written (.inr (by simp [mnemonicOf])) fun h => fgDisableWrite_wf _ _ _ h
  case publishRecord => exact .written (.inr (by simp [mnemonicOf])) fun h => publishRecord_wf _ _ h
  case move => exact .written (.inr (by simp [mnemonicOf])) fun h => State.fgRunInstr_wf _ _ _ _ _ (fgMove_wf _ _) h
  case shuf => exact .written (.inr (by simp [mnemonicOf])) fun h => State.fgRunInstr_wf _ _ _ _ _ (fgShuf_wf _ _) h
  case setParams => exact .written (.inr (by simp [mnemonicOf])) fun h => State.serve_wf _ _ cmdSet_keepsForm h
  case setBlock => exact .written (.inr (by simp [mnemonicOf])) fun h => State.serve_wf _ _ cmdSetBlock_keepsForm h
  case modeAxis => exact .written (.inr (by simp [mnemonicOf])) fun h => State.serve_wf _ _ cmdModeAxis_keepsForm h
  case foragerLoad => exact .written (.inr (by simp [mnemonicOf])) fun h => State.serve_wf _ _ cmdForagerLoad_keepsForm h
  case porchTransaction => exact .written (.inr (by simp [mnemonicOf])) fun h => State.transact_wf _ _ _ _ _ _ _ _ h
  case porchStatClear => exact .written (.inr (by simp [mnemonicOf])) fun h => State.transact_wf _ _ _ _ _ _ _ _ h
  case newChallenge => exact .written (.inr (by simp [mnemonicOf])) fun h => State.transact_wf _ _ _ _ _ _ _ _ h
  case verify => exact .written (.inr (by simp [mnemonicOf])) fun h => State.transact_wf _ _ _ _ _ _ _ _ h
  case relock => exact .written (.inr (by simp [mnemonicOf])) fun h => State.transact_wf _ _ _ _ _ _ _ _ h
  case fullHalt => exact .written (.inr (by simp [mnemonicOf])) fun h => State.transact_wf _ _ _ _ _ _ _ _ h
  case liveHalt => exact .written (.inr (by simp [mnemonicOf])) fun h => State.transact_wf _ _ _ _ _ _ _ _ h
  case haltResume => exact .written (.inr (by simp [mnemonicOf])) fun h => State.transact_wf _ _ _ _ _ _ _ _ h
  case haltStep => exact .written (.inr (by simp [mnemonicOf])) fun h => State.transact_wf _ _ _ _ _ _ _ _ h
  case memData => exact .written (.inr (by simp [mnemonicOf])) fun h => State.transact_wf _ _ _ _ _ _ _ _ h
  case regData => exact .written (.inr (by simp [mnemonicOf])) fun h => State.transact_wf _ _ _ _ _ _ _ _ h
  case txlen => exact .written (.inr (by simp [mnemonicOf])) fun h => State.transact_wf _ _ _ _ _ _ _ _ h
  case txdata => exact .written (.inr (by simp [mnemonicOf])) fun h => State.transact_wf _ _ _ _ _ _ _ _ h
  case rxdata => exact .written (.inr (by simp [mnemonicOf])) fun h => State.transact_wf _ _ _ _ _ _ _ _ h
  all_goals exact .kept (by simp; rfl)

/-- What a meaning answering x goes to ends x. -/
theorem Ends.of_next {s x t : State} (h : answer s x = .next t) : Ends x t := by
  unfold answer at h
  injection h with h
  subst h
  exact ends_of x x.interlock s.pending (State.interlock_chans_only x) rfl

/-- Settles O56: a command is a writer or leaves the Larder, and the bytes are read off it. -/
theorem larderFrame : Obligations.LarderFrame := by
  intro c s t h _
  obtain ⟨τ, x, rfl, hx, he⟩ := exec_larder c s
  have ht : t.larder = x.larder := (Ends.of_next (hx.symm.trans h)).larder
  exact he.imp (fun hk a => congrArg (fun m => memGet 0#8 m a) (ht.trans hk)) And.left

/-- Settles O5: an idle step changes nothing, and a command leaves the Larder of the clocks as it is or writes it canonically. -/
theorem larderFormKept : Obligations.LarderFormKept := by
  intro s t hs h
  unfold step at h
  split at h
  · cases h
    exact hs
  · next c rest _ =>
    obtain ⟨τ, x, rfl, hx, he⟩ := exec_larder c { s with pending := rest }
    have hd : (State.due { s with pending := rest } (timeOf c)).LarderWf := State.due_wf _ _ hs
    have hw : x.LarderWf := he.elim (fun hk => (State.at_wf hd).of_kept hk) fun hk => hk.2 (State.at_wf hd)
    exact (congrArg (fun m => memWf 0#8 m = true) (Ends.of_next (hx.symm.trans h)).larder).mpr hw

end Sys2Proof.Machine
end

section
/-! THEOREMS. Power: the release of the power-on reset and the brown-out. -/
namespace Sys2Proof.Machine

/-- A fold over an index list keeps what each of its steps keeps. -/
theorem each_keeps {β : Type} (g : State → β) (f : Nat → State → State) (h : ∀ k s, g (f k s) = g s) (ks : List Nat) (s : State) :
    g (each ks s f) = g s := foldl_keeps g _ (fun s k => h k s) ks s

theorem mem_tset {α : Type} (t : Tab α) (k : Nat) (v : α) : (k, v) ∈ tset t k v := by
  induction t with
  | nil => exact List.mem_singleton.mpr rfl
  | cons e r ih =>
    rw [tset]
    split
    · exact List.mem_cons_self
    · exact List.mem_cons_of_mem _ ih

/-- A cell is held off while one cause's mask names it. -/
theorem State.heldOff_of_mem (s : State) {cause mask g : Nat} (h : (cause, mask) ∈ s.cellar.causes) (hg : mask / 2 ^ g % 2 = 1) :
    s.heldOff g = true := List.any_eq_true.mpr ⟨_, h, decide_eq_true hg⟩

theorem allCells_bit {g : Nat} (hg : g < 13) : 0x1FFF / 2 ^ g % 2 = 1 := by decide +revert

/-- The demand of a boot changes the Cellar, the stop count and the axes, and no other part. -/
theorem State.stoAtBoot_keeps {β : Type} (g : State → β) (h : ∀ s k f, g (s.modAx k f) = g s) (s : State) (n : Nat) :
    g (s.stoAtBoot n) = g ({ s with cellar := { s.cellar with demand := true, demandAt := s.now, causes := tset s.cellar.causes 1 0x1FFF } }.setPar
      P.stoCount n) := each_keeps g _ (fun k s => h s k _) _ _

/-- A boot's demand holds every cell by its own cause. -/
theorem State.stoAtBoot_heldOff (s : State) (n : Nat) {g : Nat} (hg : g < 13) : (s.stoAtBoot n).heldOff g = true := by
  refine State.heldOff_of_mem _ (cause := 1) ?_ (allCells_bit hg)
  rw [s.stoAtBoot_keeps (fun x => x.cellar.causes) (fun _ _ _ => rfl) n]
  exact mem_tset ..

/-- A boot after OFF is a cold start at the crystal, with the supply's mark kept. -/
theorem State.startBoot_off_keeps {β : Type} (g : State → β) (hax : ∀ s k f, g (s.modAx k f) = g s) (hpar : ∀ s p v, g (s.setPar p v) = g s)
    (hcel : ∀ (s : State) c, g { s with cellar := c } = g s) (s : State) (n : Nat) :
    g (s.startBoot n true) = g { s.coldState with dev :=
      { st := .boot, step := .crystal, bootAt := s.now, stepAt := s.now, porAt := s.now, fromOff := true, supplyOk := s.dev.supplyOk, restarts := [] } } := by
  unfold State.startBoot
  simp only [if_true]
  split
  · rw [hpar]
  · rw [State.stoAtBoot_keeps g hax, hpar, hcel, hpar]

theorem State.startBoot_off_heldOff (s : State) (n : Nat) {g : Nat} (hg : g < 13) : (s.startBoot n true).heldOff g = true := by
  unfold State.startBoot
  simp only [if_true]
  split
  · exact State.heldOff_of_mem _ (cause := 0) (mask := 0x1FFF) List.mem_cons_self (allCells_bit hg)
  · exact State.stoAtBoot_heldOff _ _ hg

/-- A module that is switched off starts cold, in OFF, with the reset's hold-off of every cell. -/
theorem State.goOff_heldOff (s : State) {g : Nat} (hg : g < 13) : s.goOff.heldOff g = true :=
  State.heldOff_of_mem _ (cause := 0) (mask := 0x1FFF) List.mem_cons_self (allCells_bit hg)

theorem State.holdOff_sdev (s : State) (c : Nat) (l : List Nat) : (s.holdOff c l).quiet.dev = s.quiet.dev :=
  (congrArg (fun x : State => x.dev) (s.holdOff_still c l) :)

theorem State.atticPowerLoss_dev (s : State) : s.atticPowerLoss.dev = s.dev := by
  unfold State.atticPowerLoss
  split <;> rfl

theorem State.goOff_supply (s : State) : s.goOff.dev.st = .off ∧ s.goOff.dev.supplyOk = s.dev.supplyOk ∧ s.goOff.dev.brown = s.dev.brown := by
  have h (x : State) : x.dev.supplyOk = x.quiet.dev.supplyOk ∧ x.dev.brown = x.quiet.dev.brown := ⟨rfl, rfl⟩
  refine ⟨rfl, ?_, ?_⟩
  · change (s.holdOff 0 (upto 13)).atticPowerLoss.dev.supplyOk = _
    rw [State.atticPowerLoss_dev, (h _).1, State.holdOff_sdev, (h s).1]
  · change (s.holdOff 0 (upto 13)).atticPowerLoss.dev.brown = _
    rw [State.atticPowerLoss_dev, (h _).2, State.holdOff_sdev, (h s).2]

/-- Settles O7: both commands leave a cold state, whose Cellar holds every cell. -/
theorem powerOnAndBrownOut : Obligations.PowerOnAndBrownOut := by
  refine ⟨fun s0 τ hst hok => ?_, fun s0 τ hok hst => ?_⟩
  · have hx : powerOnRelease (s0.at τ) = ({ s0.at τ with dev := { (s0.at τ).dev with supplyOk := true } }).startBoot
        (if (s0.at τ).dev.brown then 2 else 0) true := if_neg (by rintro (h | h); exact h hst; simp_all [State.at])
    refine Does.of_answer rfl fun t ht => ?_
    rw [hx] at ht
    have hd := ht.dev.trans (State.startBoot_off_keeps State.dev (fun _ _ _ => rfl) (fun _ _ _ => rfl) (fun _ _ => rfl) _ _)
    refine ⟨by rw [hd], by rw [hd], by rw [hd], by rw [hd]; rfl, by rw [hd], ?_, ?_, ?_, fun g hg => ?_⟩
    · exact ht.larder.trans (State.startBoot_off_keeps State.larder (fun _ _ _ => rfl) (fun _ _ _ => rfl) (fun _ _ => rfl) _ _)
    · exact ht.sessions.trans (State.startBoot_off_keeps State.sessions (fun _ _ _ => rfl) (fun _ _ _ => rfl) (fun _ _ => rfl) _ _)
    · exact ht.owner.trans (State.startBoot_off_keeps State.owner (fun _ _ _ => rfl) (fun _ _ _ => rfl) (fun _ _ => rfl) _ _)
    · exact (ht.heldOff_eq g).trans (State.startBoot_off_heldOff _ _ hg)
  · have hx : brownOut (s0.at τ) = ({ s0.at τ with
        dev := { (s0.at τ).dev with supplyOk := false, brown := true, scanReset := false }
        feeds := [], porch := { (s0.at τ).porch with ir := 0xFE, cells := [], tdo := [] } } : State).goOff := by
      unfold brownOut
      exact (if_neg (not_not_intro hok)).trans (if_neg hst)
    refine Does.of_answer rfl fun t ht => ?_
    rw [hx] at ht
    obtain ⟨h1, h2, h3⟩ := State.goOff_supply ({ s0.at τ with
        dev := { (s0.at τ).dev with supplyOk := false, brown := true, scanReset := false }
        feeds := [], porch := { (s0.at τ).porch with ir := 0xFE, cells := [], tdo := [] } } : State)
    refine ⟨by rw [ht.dev]; exact h1, by rw [ht.dev]; exact h2, by rw [ht.dev]; exact h3, ht.larder, ht.sessions, ht.axes, fun g hg => ?_⟩
    exact (ht.heldOff_eq g).trans (State.goOff_heldOff _ hg)
end Sys2Proof.Machine
end

section
/-!
SUPPORT. What works on the temperatures: the functions that change the Fanner and what a still function changes, and nothing else.
-/
namespace Sys2Proof.Machine

/-- The state without the Fanner, the Porch (which keeps what the axes are owed in a full halt) and what a still function changes. -/
def State.sansFanner (s : State) : State := { s.quiet.unmoved with fanner := {}, porch := {} }

theorem State.sansFanner_of_still {s t : State} (h : t.quiet.unmoved = s.quiet.unmoved) : t.sansFanner = s.sansFanner :=
  congrArg (fun x : State => { x with fanner := {}, porch := {} }) h

theorem State.sansFanner_of_quiet {s t : State} (h : t.quiet = s.quiet) : t.sansFanner = s.sansFanner :=
  State.sansFanner_of_still (congrArg State.unmoved h)

theorem State.setSensor_sansFanner (s : State) (n : Nat) (x : Sensor) : (s.setSensor n x).sansFanner = s.sansFanner := rfl

theorem State.setLevel_sansFanner (s : State) (l : Level) : (s.setLevel l).sansFanner = s.sansFanner := rfl

theorem State.setFanner_sansFanner (s : State) (x : Fanner) : ({ s with fanner := x } : State).sansFanner = s.sansFanner := by rfl

theorem State.setPar_sansFanner (s : State) (p : Par) (v : Int) (i j : Nat) : (s.setPar p v i j).sansFanner = s.sansFanner := by rfl

theorem State.checkSensors_sansFanner (s : State) (t : List Int) : (s.checkSensors t).sansFanner = s.sansFanner := by
  unfold State.checkSensors
  extract_lets devs deviates bad cand rank worst hot s1
  have h1 : s1.sansFanner = s.sansFanner := foldl_keeps State.sansFanner _ (fun s n => by dsimp only; split <;> rfl) _ s
  clear_value s1 worst
  split
  · exact h1
  · next n =>
    extract_lets _ s2 hold _ s3
    have h2 : s2.sansFanner = s.sansFanner := h1
    clear_value s2
    have h3 : s3.sansFanner = s.sansFanner := by
      simp only [s3]
      split <;> exact h2
    exact (State.sansFanner_of_still (State.raiseModule_still ..)).trans h3

theorem State.orOwe_sansFanner (s : State) (l : Late) {f : State → State} (hf : (f s).sansFanner = s.sansFanner) :
    (s.orOwe l f).sansFanner = s.sansFanner := by
  unfold State.orOwe
  split
  · rfl
  · exact hf

theorem State.thermalSd_sansFanner (s : State) : s.thermalSd.sansFanner = s.sansFanner := by
  unfold State.thermalSd
  extract_lets sd latched _ s1 s2 l s3 s4
  have h3 : s3.sansFanner = s.sansFanner := rfl
  have h4 : s4.sansFanner = s.sansFanner := (State.sansFanner_of_still (State.holdOff_still ..)).trans h3
  clear_value s4
  exact (s4.orOwe_sansFanner _ (State.sansFanner_of_still (s4.thermalAxes_still latched))).trans h4

theorem State.cellarTemps_sansFanner (s : State) (mask : Int) (counts : List Nat) (t : List Int) :
    (s.cellarTemps mask counts t).sansFanner = s.sansFanner := by
  unfold State.cellarTemps
  extract_lets live above cool standing _ s1 s2
  have h2 : s2.sansFanner = s.sansFanner := rfl
  clear_value s2
  split
  · exact s2.thermalSd_sansFanner.trans h2
  · exact h2

theorem State.cellCycle_sansFanner (s : State) (t : List Int) (g : Nat) : (s.cellCycle t g).sansFanner = s.sansFanner := by
  unfold State.cellCycle
  extract_lets n v x
  split
  · rfl
  · split
    · split
      · exact (State.setSensor_sansFanner ..).trans (State.sansFanner_of_quiet (s.incPar_quiet P.cellCycles g))
      · rfl
    · rfl

theorem State.thermalStates_sansFanner (s : State) (t : List Int) : (s.thermalStates t).sansFanner = s.sansFanner := by
  unfold State.thermalStates
  extract_lets vals s1 s2
  have h1 : s1.sansFanner = s.sansFanner := foldl_keeps State.sansFanner _ (fun s e => s.setPar_sansFanner _ _ _ _) _ s
  have h2 : s2.sansFanner = s.sansFanner := (foldl_keeps State.sansFanner _ (fun s e => s.setPar_sansFanner _ _ _ _) _ s1).trans h1
  clear_value s2 s1 vals
  split
  · exact h2
  · extract_lets +onlyGivenNames hot cold h c s3 sd l
    have h3 : s3.sansFanner = s.sansFanner :=
      (State.setPar_sansFanner ..).trans <| (State.setPar_sansFanner ..).trans <| (State.setPar_sansFanner ..).trans h2
    clear_value s3 l sd c h cold hot
    split
    · extract_lets +onlyGivenNames _ s4 s5
      have h4 : s4.sansFanner = s.sansFanner := by
        simp only [s4]
        split
        · exact h3
        · exact (State.setLevel_sansFanner ..).trans <| (State.setPar_sansFanner ..).trans h3
      have h5 : s5.sansFanner = s.sansFanner := (State.setPar_sansFanner ..).trans h4
      exact (s5.setFanner_sansFanner _).trans h5
    · extract_lets +onlyGivenNames st want cst cw l1 keep l2 s4
      have h4 : s4.sansFanner = s.sansFanner := (State.setPar_sansFanner ..).trans <| (State.setLevel_sansFanner ..).trans h3
      exact (s4.setFanner_sansFanner _).trans h4

theorem tempWindow_sansFanner (counts : List Nat) (s : State) : (tempWindow counts s).sansFanner = s.sansFanner := by
  unfold tempWindow
  split
  · rfl
  · extract_lets _ s1 s2 t mask s3 s4 s5
    have h2 : s2.sansFanner = s.sansFanner := foldl_keeps State.sansFanner _ (fun s e => s.setPar_sansFanner _ _ _ _) _ s1
    clear_value s2
    have h3 : s3.sansFanner = s.sansFanner := (s2.checkSensors_sansFanner t).trans h2
    have h4 : s4.sansFanner = s.sansFanner := (s3.cellarTemps_sansFanner mask counts t).trans h3
    have h5 : s5.sansFanner = s.sansFanner := (s4.thermalStates_sansFanner t).trans h4
    exact (each_keeps State.sansFanner _ (fun g s => s.cellCycle_sansFanner t g) _ s5).trans h5

end Sys2Proof.Machine
end

section
/-!
THEOREMS. The boot sequence: each step that succeeds starts the next (Table 2.6), the image checks, and BOOT by command.
-/
namespace Sys2Proof.Machine

/-- A meaning that ends by starting boot step b ends in it, with the axes and the Cellar of the state it was started in. -/
theorem Does.of_toStep {c : Instr} {s0 s y : State} {b : BootStep} {τ : Nat} (h : exec c s0 = answer s0 (y.toStep b)) (hst : y.dev.st = .boot)
    (hnow : y.now = τ) (hax : y.axes = s.axes) (hcel : y.cellar = s.cellar) :
    Does c s0 fun t => t.dev.st = .boot ∧ t.dev.step = b ∧ t.dev.stepAt = τ ∧ t.axes = s.axes ∧ t.cellar = s.cellar :=
  Does.of_answer h fun t ht => ⟨by rw [ht.dev]; exact hst, by rw [ht.dev]; rfl, by rw [ht.dev]; exact hnow, ht.axes.trans hax, ht.cellar.trans hcel⟩

theorem State.at_inStep {s0 : State} {τ : Nat} {b : BootStep} (hst : (s0.due τ).dev.st = .boot) (h : (s0.due τ).dev.step = b) :
    (s0.at τ).inStep b = true := by
  simp [State.inStep, State.at, hst, h]

/-- The state without the Attic and what a quiet function changes. -/
def State.sansAttic (s : State) : State := { s.quiet with attic := {} }

theorem State.sansAttic_of_quiet {s t : State} (h : t.quiet = s.quiet) : t.sansAttic = s.sansAttic :=
  congrArg (fun x : State => { x with attic := {} }) h

theorem State.of_sansAttic {s t : State} (h : t.sansAttic = s.sansAttic) :
    t.now = s.now ∧ t.dev.st = s.dev.st ∧ t.axes = s.axes ∧ t.cellar = s.cellar :=
  ⟨(congrArg State.now h :), (congrArg (fun x : State => x.dev.st) h :), (congrArg State.axes h :), (congrArg State.cellar h :)⟩

theorem State.loadSlot_sansAttic (s : State) (k : Nat) : (s.loadSlot k).sansAttic = s.sansAttic := by
  unfold State.loadSlot
  extract_lets g v a s1
  have h1 : s1.sansAttic = s.sansAttic := rfl
  clear_value s1
  split
  · exact (State.sansAttic_of_quiet (State.report_quiet ..)).trans h1
  · exact h1

theorem State.atticLoad_sansAttic (s : State) (failed : List (Nat × Nat)) : (s.atticLoad failed).sansAttic = s.sansAttic := by
  unfold State.atticLoad
  extract_lets s1 a s2
  have h1 : s1.sansAttic = s.sansAttic := foldl_keeps State.sansAttic _ (fun s f => by split <;> rfl) failed s
  have h2 : s2.sansAttic = s.sansAttic := h1
  clear_value s2
  generalize upto 64 = l1, slotPars = l2
  exact (foldl_keeps State.sansAttic (fun s p => s.loadSlotPar p) (fun s _ => State.sansAttic_of_quiet (s.setPar_quiet _ _ _ _)) l2 _).trans
    ((each_keeps State.sansAttic _ (fun k s => s.loadSlot_sansAttic k) l1 s2).trans h2)

theorem State.now_of_sansFanner {s t : State} (h : t.sansFanner = s.sansFanner) : t.now = s.now := (congrArg State.now h :)

/-- What a still function leaves of the device. -/
theorem State.dev_of_still {s t : State} (h : t.quiet.unmoved = s.quiet.unmoved) :
    t.dev.st = s.dev.st ∧ t.dev.step = s.dev.step ∧ t.dev.stepAt = s.dev.stepAt :=
  ⟨(congrArg (fun x : State => x.dev.st) h :), (congrArg (fun x : State => x.dev.step) h :), (congrArg (fun x : State => x.dev.stepAt) h :)⟩

theorem State.dev_of_quiet {s t : State} (h : t.quiet = s.quiet) :
    t.dev.st = s.dev.st ∧ t.dev.step = s.dev.step ∧ t.dev.stepAt = s.dev.stepAt := State.dev_of_still (congrArg State.unmoved h)

/-- The end of the training sets the state of the device last, and nothing after it moves that. -/
theorem cellLinkTraining_dev (absent : Nat) (bootV counts : List Nat) (s : State) (h : s.inStep .training = true) :
    (cellLinkTraining absent bootV counts s).dev.st ≠ .boot ∧ (cellLinkTraining absent bootV counts s).dev.step = .done ∧
      (cellLinkTraining absent bootV counts s).dev.stepAt = s.now := by
  unfold cellLinkTraining
  rw [if_neg (not_not_intro h)]
  extract_lets s1 s2 s3 alone st _ s5 s6 s7 s8 _ s9
  have n2 : s2.now = s.now := each_keeps State.now _ (fun g s => by split <;> rfl) _ s1
  have n3 : s3.now = s.now :=
    (each_keeps State.now (fun k s => s.takeCfg k (s.hearthCfg k)) (fun _ _ => rfl) (upto 4) (tempWindow counts s2)).trans
      ((State.now_of_sansFanner (tempWindow_sansFanner counts s2)).trans n2)
  clear_value s3 alone
  have hst : st ≠ .boot := by
    simp only [st]
    split <;> nofun
  have h5 : s5.dev.st = st ∧ s5.dev.step = .done ∧ s5.dev.stepAt = s.now := ⟨rfl, rfl, n3⟩
  have h7 : s7.dev = s5.dev := by
    simp only [s7, s6]
    split <;> rfl
  have h9 : s9.dev = s8.dev := by
    simp only [s9]
    split <;> rfl
  clear_value s9 s7
  obtain ⟨a1, a2, a3⟩ := State.dev_of_quiet s9.bootEvent_quiet
  obtain ⟨b1, b2, b3⟩ := State.dev_of_still s7.startPorts.hiveEffect_still
  obtain ⟨c1, c2, c3⟩ := State.dev_of_quiet s7.startPorts_quiet
  rw [a1, a2, a3, h9, b1, b2, b3, c1, c2, c3, h7]
  exact ⟨h5.1.symm ▸ hst, h5.2⟩

theorem bootSteps : Parts.BootSteps := by
  intro s0 τ s hst hnow
  have hn : (s0.at τ).now = τ := max_eq_right hnow
  have hin {b : BootStep} (h : s.dev.step = b) : (s0.at τ).inStep b = true := State.at_inStep hst h
  have hs : (s0.at τ).dev.stepAt = s.dev.stepAt := rfl
  refine ⟨fun h h1 h2 => ?_, fun h h1 => ?_, fun h h1 => ?_, fun h => ?_, fun h => ?_, fun h failed => ?_, fun h => ?_, fun h absent bootV counts => ?_⟩
  · exact Does.of_toStep (congrArg (answer s0) (if_pos ⟨hin h, by omega, by omega⟩)) hst hn rfl rfl
  · have hx : crystalTimeout true (s0.at τ) = ((s0.at τ).setBit P.clkStatus 0 true).toStep .pll := by simp [crystalTimeout, hin h, hs, hn, h1]
    exact Does.of_toStep (congrArg (answer s0) hx) hst hn rfl rfl
  · have hx : crystalTimeout false (s0.at τ) = (s0.at τ).toStep .held := by simp [crystalTimeout, hin h, hs, hn, h1]
    exact Does.of_toStep (congrArg (answer s0) hx) hst hn rfl rfl
  · exact Does.of_toStep (congrArg (answer s0) (if_pos (hin h))) hst hn rfl rfl
  · exact Does.of_toStep (congrArg (answer s0) (if_pos (hin h))) hst hn rfl rfl
  · obtain ⟨h1, h2, h3, h4⟩ := State.of_sansAttic (State.atticLoad_sansAttic (s0.at τ) failed)
    have hx : atticLoadStep failed (s0.at τ) = ((s0.at τ).atticLoad failed).toStep .larder := if_pos (hin h)
    exact Does.of_toStep (congrArg (answer s0) hx) (h2.trans hst) (h1.trans hn) h3 h4
  · refine (Does.of_answer (x := State.toStep { s0.at τ with larder := [], eccErrs := [], queues := [] } .wings)
      (congrArg (answer s0) (if_neg (not_not_intro (hin h)))) fun t ht => ?_)
    rw [ht.dev]
    exact ⟨hst, rfl, hn, ht.axes, ht.cellar, ht.larder, ht.queues⟩
  · obtain ⟨h1, h2, h3⟩ := cellLinkTraining_dev absent bootV counts (s0.at τ) (hin h)
    refine Does.of_answer rfl fun t ht => ?_
    rw [ht.dev]
    exact ⟨h1, h2, h3.trans hn⟩

/-- The device at the begin of a boot: at the crystal, with its registers at their cold values. -/
def State.bootDev (s : State) (off : Bool) : Dev :=
  { st := .boot, step := .crystal, bootAt := s.now, stepAt := s.now, porAt := if off then s.now else s.dev.porAt
    fromOff := off, supplyOk := s.dev.supplyOk, restarts := if off then [] else s.dev.restarts }

theorem State.startBoot_dev (s : State) (n : Nat) (off : Bool) : (s.startBoot n off).dev = s.bootDev off := by
  unfold State.startBoot
  extract_lets +onlyGivenNames x _ x1 x2 x3
  have h3 : x3.dev = s.bootDev off := by
    simp only [x3, x2]
    split <;> rfl
  clear_value x3
  have hd (m : Nat) : (x3.stoAtBoot m).dev = x3.dev := State.stoAtBoot_keeps State.dev (fun _ _ _ => rfl) x3 m
  repeat' split
  all_goals simp only [hd, h3]

theorem State.startBoot_sessions (s : State) (n : Nat) (off : Bool) : (s.startBoot n off).sessions = [] := by
  unfold State.startBoot
  extract_lets +onlyGivenNames x _ x1 x2 x3
  have h3 : x3.sessions = [] := by
    simp only [x3, x2]
    split <;> rfl
  clear_value x3
  have hd (m : Nat) : (x3.stoAtBoot m).sessions = x3.sessions := State.stoAtBoot_keeps State.sessions (fun _ _ _ => rfl) x3 m
  repeat' split
  all_goals simp only [hd, h3]

/-- The fault records live through a boot that does not come from OFF. -/
theorem State.startBoot_faultRing (s : State) (n : Nat) : (s.startBoot n false).faultRing = (s.panEnd 3).faultRing := by
  unfold State.startBoot
  extract_lets +onlyGivenNames x _ x1 x2 x3
  have h3 : x3.faultRing = (s.panEnd 3).faultRing := rfl
  clear_value x3
  have hd (m : Nat) : (x3.stoAtBoot m).faultRing = x3.faultRing := State.stoAtBoot_keeps State.faultRing (fun _ _ _ => rfl) x3 m
  repeat' split
  all_goals simp only [hd, h3]

theorem State.wing_congr {s t : State} (h : t.service = s.service) (w : Nat) : t.wing w = s.wing w :=
  congrArg (fun v : Service => tget v.wings {} w) h

/-- What is read of a wing is read of the flash alone. -/
theorem State.wingHeader_congr {s t : State} (h : t.service = s.service) (w : Nat) : t.wingHeader w = s.wingHeader w := by
  unfold State.wingHeader
  rw [State.wing_congr h]

theorem State.wingCrcGo_congr {s t : State} (h : t.service = s.service) (w n off c : Nat) : t.wingCrcGo w n off c = s.wingCrcGo w n off c := by
  induction n generalizing off c with
  | zero => rfl
  | succ n ih =>
    unfold State.wingCrcGo State.wingByte
    rw [ih, State.wing_congr h]

theorem State.imageOk_congr {s t : State} (h : t.service = s.service) (w : Nat) : t.imageOk w = s.imageOk w := by
  unfold State.imageOk State.wingCrc State.wingLen
  rw [State.wingCrcGo_congr h, State.wingHeader_congr h]

theorem lockstep_bothPass (s : State) (h : s.inStep .lockstep = true) : lockstepSelfTest true true s =
    (((s.setPair 0 { live := true, synced := false, wing := s.dev.wing }).setPair 1 { live := true, synced := true, wing := s.dev.wing }).setPar
      P.activePair 0).toStep .config := if_neg (not_not_intro h)

theorem configLoad_dev (ok : Bool) (area : List (Nat × Int)) (s : State) (h : s.inStep .config = true) :
    (configLoad ok area s).dev.step = .training ∧ (configLoad ok area s).dev.st = s.dev.st := by
  unfold configLoad
  rw [if_neg (not_not_intro h)]
  extract_lets s1 s2 s3 s4
  have h1 : s1.dev.st = s.dev.st := foldl_keeps (fun x => x.dev.st) _ (fun x e => (State.dev_of_still (x.loadPar_still e.1 e.2)).1) area s
  have h2 : s2.dev.st = s.dev.st := (foldl_keeps (fun x => x.dev.st) _ (fun x e => (rfl : ({ x with params := tset x.params e.1 e.2 } : State).dev.st = _)) s1.config s1).trans h1
  clear_value s2
  have h3 : s3.dev.st = s.dev.st := by
    simp only [s3]
    split
    · split
      · exact (each_keeps (fun x => x.dev.st) _ (fun g x => rfl) (upto 13) _).trans h2
      · exact h2
    · rfl
  clear_value s3
  have h4 : s4.dev.st = s.dev.st := by
    simp only [s4]
    split
    · exact (State.dev_of_quiet s3.frRestore_quiet).1.trans h3
    · exact h3
  exact ⟨rfl, h4⟩

/-- A bad word of the Larder starts the loader, with an empty Larder and the fault of the word standing. -/
theorem larderInit_bad (w : Nat) (s : State) (h : s.inStep .larder = true) :
    (larderInit (some w) s).dev.step = .loader ∧ (larderInit (some w) s).dev.larderLimited = true ∧ (larderInit (some w) s).larder = [] ∧
      (larderInit (some w) s).stands 0x0A08 (wordOf w) = true := by
  unfold larderInit
  rw [if_neg (not_not_intro h)]
  refine ⟨rfl, rfl, ?_, raiseModule_stands ..⟩
  exact congrArg State.larder (State.raiseModule_still ..)

theorem bootImages : Parts.BootImages := by
  intro s0 τ s hst
  have hin {b : BootStep} (h : s.dev.step = b) : (s0.at τ).inStep b = true := State.at_inStep hst h
  have hdst : (s0.at τ).dev.st = .boot := hst
  refine ⟨fun h h1 => ?_, fun h h1 => ?_, fun h => ?_, fun h => ?_, fun h h1 => ?_, fun h ok area => ?_, fun h w => ?_⟩
  · have hx : wingSelection true (s0.at τ) =
        State.toStep { s0.at τ with dev := { (s0.at τ).dev with wing := s.service.pointer, second := false } } .imageCrc :=
      (if_neg (not_not_intro (hin h))).trans (if_pos h1)
    refine Does.of_answer (congrArg (answer s0) hx) fun t ht => ?_
    rw [ht.dev]
    exact ⟨rfl, rfl, rfl⟩
  · have hi : (s0.at τ).imageOk (s0.at τ).dev.wing = true :=
      (State.imageOk_congr (s := s0.due τ) (t := s0.at τ) rfl (s0.at τ).dev.wing).trans h1
    obtain ⟨y, hx, hy⟩ : ∃ y : State, imageCrcCheck (s0.at τ) = (y.setPar P.bootWing y.dev.wing).toStep .lockstep ∧ y.dev = s.dev :=
      ⟨_, (if_neg (not_not_intro (hin h))).trans (if_pos hi), by split <;> rfl⟩
    refine Does.of_answer (congrArg (answer s0) hx) fun t ht => ?_
    rw [ht.dev, ht.parN_eq, ← hy]
    exact ⟨rfl, rfl, (congrArg Int.toNat (State.par_setPar_same ..)).trans (Int.toNat_natCast _)⟩
  · refine Does.of_answer (congrArg (answer s0) (lockstep_bothPass _ (hin h))) fun t ht => ?_
    rw [ht.dev, ht.pair_eq, ht.pair_eq]
    exact ⟨rfl, rfl, rfl, rfl⟩
  · have hx : lockstepSelfTest false false (s0.at τ) = (s0.at τ).toStep (if s.dev.bootRetries < 3 then .retryWait else .held) :=
      (if_neg (not_not_intro (hin h))).trans (if_pos (by decide))
    refine Does.of_answer (congrArg (answer s0) hx) fun t ht => ?_
    rw [ht.dev]
    rfl
  · have hn : s.dev.stepAt + 1000000000 ≤ (s0.at τ).now := h1.trans (Nat.le_max_right ..)
    refine Does.of_answer (congrArg (answer s0) (if_pos ⟨hin h, hn⟩)) fun t ht => ?_
    rw [ht.dev]
    dsimp only
    rw [State.startBoot_dev]
    exact ⟨rfl, rfl, rfl⟩
  · refine Does.of_answer rfl fun t ht => ?_
    rw [ht.dev]
    exact (configLoad_dev ok area _ (hin h)).imp_right (·.trans hst)
  · obtain ⟨h1, h2, h3, h4⟩ := larderInit_bad w _ (hin h)
    refine Does.of_answer rfl fun t ht => ?_
    rw [ht.dev, ht.larder, State.Stands, ht.stands_eq]
    exact ⟨h1, h2, h3, h4⟩

theorem bootAfterReplyStarts : Parts.BootAfterReplyStarts := by
  intro s0 τ b s hb hp hq
  have hx : bootAfterReply (s0.at τ) = (s0.at τ).startBoot (if (s0.at τ).loader ∧ (s0.at τ).dev.verified then 3 else 1) false := by
    unfold bootAfterReply
    have hb' : (s0.at τ).dev.pendingBoot = some b := hb
    rw [hb']
    refine if_pos ⟨hp, hq.imp (fun h => ?_) fun h => h.trans (Nat.le_max_right ..)⟩
    exact List.all_eq_true.mpr fun e he => decide_eq_true (h e he)
  refine Does.of_answer (congrArg (answer s0) hx) fun t ht => ?_
  rw [ht.dev, State.startBoot_dev, ht.sessions, ht.larder, ht.faultRing]
  exact ⟨rfl, rfl, rfl, State.startBoot_sessions .., State.startBoot_larderEmpty .., State.startBoot_faultRing ..⟩

/-- Settles O8. -/
theorem bootSequence : Obligations.BootSequence := ⟨bootSteps, bootImages, bootAfterReplyStarts⟩

end Sys2Proof.Machine
end

section
/-!
SUPPORT. What raising a fault leaves of a hold-off: a cause keeps the cells it holds, but for cause 6, which the end of the off-state
diagnostics gives up.
-/
namespace Sys2Proof.Machine

/-- Cause c holds cell g. -/
def State.holds (s : State) (c g : Nat) : Prop := tget s.cellar.causes 0 c / 2 ^ g % 2 = 1

theorem bit_add_two_pow {m k g : Nat} (h : m / 2 ^ k % 2 = 0) (hg : m / 2 ^ g % 2 = 1 ∨ g = k) : (m + 2 ^ k) / 2 ^ g % 2 = 1 := by
  obtain hlt | rfl | hgt := Nat.lt_trichotomy g k
  · obtain ⟨c, rfl⟩ := Nat.exists_eq_add_of_lt hlt
    have he : m + 2 ^ (g + c + 1) = m + 2 ^ g * (2 * 2 ^ c) := by ring
    rw [he, Nat.add_mul_div_left _ _ (by positivity)]
    omega
  · rw [Nat.add_div_right _ (by positivity)]
    omega
  · obtain ⟨c, rfl⟩ := Nat.exists_eq_add_of_lt hgt
    have hs (x : Nat) : x / 2 ^ (k + c + 1) = x / 2 ^ k / 2 / 2 ^ c := by
      rw [Nat.div_div_eq_div_mul, Nat.div_div_eq_div_mul, show 2 ^ k * (2 * 2 ^ c) = 2 ^ (k + c + 1) by ring]
    have he : (m + 2 ^ k) / 2 ^ k / 2 = m / 2 ^ k / 2 := by
      rw [Nat.add_div_right _ (by positivity)]
      omega
    rw [hs, he, ← hs]
    omega

theorem bit_maskOf_go (l : List Nat) (m g : Nat) (h : m / 2 ^ g % 2 = 1 ∨ g ∈ l) :
    l.foldl (fun m k => if m / 2 ^ k % 2 = 1 then m else m + 2 ^ k) m / 2 ^ g % 2 = 1 := by
  induction l generalizing m with
  | nil => simpa using h
  | cons k l ih =>
    refine ih _ ?_
    dsimp only
    by_cases hk : m / 2 ^ k % 2 = 1
    · rw [if_pos hk]
      exact h.elim .inl fun h => (List.mem_cons.mp h).imp_left fun e => by rwa [e]
    · rw [if_neg hk]
      have hz : m / 2 ^ k % 2 = 0 := by omega
      obtain h | h := h
      · exact .inl (bit_add_two_pow hz (.inl h))
      · exact (List.mem_cons.mp h).imp_left fun e => bit_add_two_pow hz (.inr e)

/-- A mask has the bit of every number of its list. -/
theorem bit_maskOf {l : List Nat} {g : Nat} (h : g ∈ l) : maskOf l / 2 ^ g % 2 = 1 := bit_maskOf_go l 0 g (.inr h)

theorem mem_bitsOf {n m k : Nat} (hk : k < n) (h : m / 2 ^ k % 2 = 1) : k ∈ bitsOf n m :=
  List.mem_filter.mpr ⟨List.mem_range.mpr hk, decide_eq_true h⟩

theorem tget_mem {α : Type} (t : Tab α) (d : α) (k : Nat) : (k, tget t d k) ∈ t ∨ tget t d k = d := by
  induction t with
  | nil => exact .inr rfl
  | cons e r ih =>
    rw [tget]
    split
    · next h => exact .inl (h ▸ List.mem_cons_self)
    · exact ih.imp_left (List.mem_cons_of_mem _)

theorem State.holds.heldOff {s : State} {c g : Nat} (h : s.holds c g) : s.heldOff g = true := by
  refine (tget_mem s.cellar.causes 0 c).elim (fun hm => s.heldOff_of_mem hm h) fun h0 => ?_
  rw [State.holds, h0] at h
  simp at h

theorem State.holds_of_cellar {s t : State} (h : t.cellar = s.cellar) {c g : Nat} (hs : s.holds c g) : t.holds c g := by
  rwa [State.holds, h]

theorem cellar_of_quiet {s t : State} (h : t.quiet = s.quiet) : t.cellar = s.cellar := (congrArg State.cellar h :)

/-- A step of the model that takes no cell from a cause, cause 6 left aside. -/
def KeepsHolds (f : State → State) : Prop := ∀ (s : State) (c g : Nat), c ≠ 6 → g < 13 → s.holds c g → (f s).holds c g

theorem State.softOff_cellar (s : State) (c : Nat) (latch : Bool) : (s.softOff c latch).cellar = s.cellar := by
  unfold State.softOff
  dsimp only
  (repeat' split) <;> rfl

theorem State.turnOff_cellar (s : State) (c : Nat) : (s.turnOff c).cellar = s.cellar := by
  unfold State.turnOff
  dsimp only
  split <;> rfl

theorem State.turnOn_cellar (s : State) (c : Nat) : (s.turnOn c).cellar = s.cellar := by
  unfold State.turnOn
  dsimp only
  (repeat' split) <;> rfl

theorem State.axisOff_cellar (s : State) (k : Nat) : (s.axisOff k).cellar = s.cellar := each_keeps _ _ (fun c s => s.turnOff_cellar c) _ s

theorem State.axisSoft_cellar (s : State) (k : Nat) : (s.axisSoft k).cellar = s.cellar := each_keeps _ _ (fun c s => s.softOff_cellar c _) _ s

theorem State.stopLane_cellar (s : State) (k : Nat) : (s.stopLane k).cellar = s.cellar := by
  unfold State.stopLane
  extract_lets n l s1 s2 s3 s4
  have h4 : s4.cellar = s.cellar := foldl_keeps State.cellar (fun s b => s.setBridge b _) (fun s b => rfl) _ s3
  clear_value s4
  split <;> exact h4

theorem State.endEpisode_cellar (s : State) (k : Nat) (f : Axis → Axis) : (s.endEpisode k f).cellar = s.cellar := rfl

theorem State.unstandCode_cellar (s : State) (code inst : Nat) : (s.unstandCode code inst).cellar = s.cellar :=
  foldl_keeps State.cellar (fun x f => x.unstand f) (fun x f => (cellar_of_quiet (x.unstand_quiet f) :)) _ s

theorem State.moveAxis_cellar (s : State) (k : Nat) (st : AxState) : (s.moveAxis k st).cellar = s.cellar := by
  unfold State.moveAxis
  extract_lets a a1 a2 _ a3 _ a4 a5 s1 s2
  have h1 : s1.cellar = s.cellar := rfl
  have h2 : s2.cellar = s.cellar := by
    refine (cellar_of_quiet (State.syncProc_quiet ..)).trans ?_
    split <;> exact h1
  clear_value s2
  unfold State.silentEnds
  have h3 := cellar_of_quiet (s2.notify_quiet 1 0 k (leBytes 1 a.st.code ++ leBytes 1 st.code ++ leBytes 2 (s2.parN P.axisFault k)))
  split
  · exact h3.trans h2
  · exact (State.unstandCode_cellar ..).trans (h3.trans h2)

theorem State.dropProc_cellar (s : State) (k : Nat) : (s.dropProc k).cellar = s.cellar :=
  (cellar_of_quiet (State.syncProc_quiet ..)).trans <| (State.endEpisode_cellar ..).trans <| (State.stopLane_cellar ..).trans <| s.axisOff_cellar k

theorem State.arbReact_cellar (s : State) (k : Nat) (r : React) (pre : Bool) : (s.arbReact k r pre).1.cellar = s.cellar := by
  unfold State.arbReact State.arb
  dsimp only
  (repeat' split) <;> rfl

theorem State.stand_cellar (s : State) (f : Standing) : (s.stand f).cellar = s.cellar := by
  unfold State.stand
  dsimp only
  split <;> rfl

theorem State.report_cellar (s : State) (code subj safe : Nat) (path : String) : (s.report code subj safe path).cellar = s.cellar :=
  cellar_of_quiet (State.report_quiet ..)

theorem State.enterRecord_cellar (s : State) (code k inst safe : Nat) (path : String) (pre : Bool) :
    (s.enterRecord code k inst safe path pre).cellar = s.cellar := by
  unfold State.enterRecord
  exact (State.stand_cellar ..).trans (State.report_cellar ..)

theorem State.applySafe_cellar (s : State) (k safe code : Nat) : (s.applySafe k safe code).cellar = s.cellar := by
  unfold State.applySafe
  extract_lets a s1
  have h1 : s1.cellar = s.cellar := by
    simp only [s1]
    split <;> rfl
  clear_value s1
  split
  · exact (s1.axisSoft_cellar k).trans h1
  · split
    · split
      · exact h1
      · exact (each_keeps State.cellar _ (fun c s => s.turnOn_cellar c) _ _).trans <|
          (each_keeps State.cellar _ (fun c s => s.turnOff_cellar c) _ s1).trans h1
    · exact h1

theorem State.holdCells_causes (s : State) (cause : Nat) (cells : List Nat) : (s.holdCells cause cells).cellar.causes =
    tset s.cellar.causes cause (maskOf (bitsOf 13 (tget s.cellar.causes 0 cause) ++ cells)) := by
  unfold State.holdCells
  extract_lets fresh m _ s1 s2
  have h1 : s1.cellar.causes = tset s.cellar.causes cause m := rfl
  have h2 : s2.cellar = s1.cellar := each_keeps State.cellar _ (fun g s => (State.softOff_cellar ..).trans (State.softOff_cellar ..)) fresh s1
  clear_value s2
  split
  · rw [h2, h1]
  · rw [cellar_of_quiet (State.raiseLine_quiet ..), h2, h1]

/-- The cells named join the cause's mask. -/
theorem State.holdCells_held (s : State) (cause : Nat) {cells : List Nat} {g : Nat} (h : g ∈ cells) : (s.holdCells cause cells).holds cause g := by
  rw [State.holds, State.holdCells_causes, tget_tset_same]
  exact bit_maskOf (List.mem_append_right _ h)

theorem State.holdCells_holds (s : State) (cause : Nat) (cells : List Nat) {c g : Nat} (hg : g < 13) (h : s.holds c g) :
    (s.holdCells cause cells).holds c g := by
  rw [State.holds, State.holdCells_causes]
  obtain rfl | hne := eq_or_ne cause c
  · rw [tget_tset_same]
    exact bit_maskOf (List.mem_append_left _ (mem_bitsOf hg h))
  · rw [tget_tset_other _ _ _ _ _ hne]
    exact h

theorem State.holdCells_keepsHolds (cause : Nat) (cells : List Nat) : KeepsHolds (·.holdCells cause cells) :=
  fun s _ _ _ hg h => s.holdCells_holds cause cells hg h

theorem State.endPrecheckCells_keepsHolds (k : Nat) : KeepsHolds (·.endPrecheckCells k) := by
  intro s c g hc hg h
  unfold State.endPrecheckCells
  beta_reduce
  split
  · exact h
  · next p _ =>
    have hk (x : State) : ((x.testCurrent p false).modAx k fun a => { a with precheck := none }).cellar = x.cellar := by
      unfold State.testCurrent
      split <;> rfl
    refine State.holds_of_cellar (hk _) ?_
    exact (congrArg (· / 2 ^ g % 2) (tget_tset_other _ 0 6 c _ hc.symm)).trans h

theorem State.ss1Chopper_keepsHolds : KeepsHolds State.ss1Chopper := by
  intro s c g hc hg h
  unfold State.ss1Chopper
  split
  · exact State.holdCells_keepsHolds 1 [12] s c g hc hg h
  · exact h

theorem State.endPrecheck_keepsHolds (k status : Nat) : KeepsHolds (·.endPrecheck k status) := fun s c g hc hg h =>
  State.holds_of_cellar (cellar_of_quiet (State.endOp_quiet ..)) (State.endPrecheckCells_keepsHolds k s c g hc hg h)

theorem State.enterSto_keepsHolds (k : Nat) : KeepsHolds (·.enterSto k) := by
  intro s c g hc hg h
  unfold State.enterSto
  beta_reduce
  extract_lets st s1 s2
  split
  · exact h
  · have h1 : s1.holds c g := State.endPrecheck_keepsHolds k _ s c g hc hg h
    have h2 : s2.holds c g := by
      simp only [s2]
      split
      · exact State.holds_of_cellar (s1.stopLane_cellar k) h1
      · exact h1
    exact State.holds_of_cellar (State.moveAxis_cellar ..) h2

theorem State.heldAxis_keepsHolds (k : Nat) : KeepsHolds (·.heldAxis k) := by
  intro s c g hc hg h
  unfold State.heldAxis
  dsimp only
  split
  · split
    · exact State.enterSto_keepsHolds k _ c g hc hg (State.holdCells_keepsHolds 1 _ s c g hc hg h)
    · split <;> exact h
  · exact h

theorem foldl_keepsHolds {α : Type} {f : State → α → State} (hf : ∀ x, KeepsHolds (f · x)) (l : List α) : KeepsHolds (l.foldl f) := by
  induction l with
  | nil => exact fun s c g _ _ h => h
  | cons x l ih => exact fun s c g hc hg h => ih (f s x) c g hc hg (hf x s c g hc hg h)

theorem State.holdOff_keepsHolds (cause : Nat) (cells : List Nat) : KeepsHolds (·.holdOff cause cells) := fun s c g hc hg h =>
  State.ss1Chopper_keepsHolds _ c g hc hg <|
    foldl_keepsHolds State.heldAxis_keepsHolds (upto 4) _ c g hc hg (State.holdCells_keepsHolds cause cells s c g hc hg h)

/-- Holding cells off holds them by the cause. -/
theorem State.holdOff_held (s : State) {cause : Nat} {cells : List Nat} {g : Nat} (hc : cause ≠ 6) (hg : g < 13) (h : g ∈ cells) :
    (s.holdOff cause cells).holds cause g :=
  State.ss1Chopper_keepsHolds _ cause g hc hg <|
    foldl_keepsHolds State.heldAxis_keepsHolds (upto 4) _ cause g hc hg (s.holdCells_held cause h)

theorem State.faultState_keepsHolds (k : Nat) (st : AxState) : KeepsHolds (·.faultState k st) := by
  intro s c g hc hg h
  unfold State.faultState
  beta_reduce
  extract_lets wasPre s1 s2 s3 s4 s5
  have h1 : s1.holds c g := by
    simp only [s1]
    split
    · exact State.holds_of_cellar (s.stopLane_cellar k) h
    · exact h
  have h2 : s2.holds c g := by
    simp only [s2]
    split
    · exact State.holds_of_cellar (s1.axisOff_cellar k) h1
    · exact h1
  have h3 : s3.holds c g := by
    simp only [s3]
    split
    · exact State.endPrecheckCells_keepsHolds k s2 c g hc hg h2
    · exact h2
  have h4 : s4.holds c g := State.holds_of_cellar (State.moveAxis_cellar ..) h3
  have h5 : s5.holds c g := by
    simp only [s5]
    split
    · exact State.holds_of_cellar (cellar_of_quiet (State.endOp_quiet ..)) h4
    · exact h4
  split
  · exact State.ss1Chopper_keepsHolds _ c g hc hg <| State.enterSto_keepsHolds k _ c g hc hg <| State.holdCells_keepsHolds 1 _ s5 c g hc hg h5
  · exact h5

theorem State.enterFault_keepsHolds (k : Nat) (retry counted pre : Bool) : KeepsHolds (·.enterFault k retry counted pre) := by
  intro s c g hc hg h
  unfold State.enterFault
  beta_reduce
  extract_lets a joins latch s1
  clear_value latch
  split
  · exact h
  · exact h
  · exact h
  · split
    · exact h
    · exact State.faultState_keepsHolds k _ s c g hc hg h
  · split
    · exact State.faultState_keepsHolds k _ s c g hc hg h
    · exact State.faultState_keepsHolds k _ s1 c g hc hg h

theorem State.quickFault_keepsHolds (k : Nat) (retry counted : Bool) : KeepsHolds (·.quickFault k retry counted) := by
  intro s c g hc hg h
  unfold State.quickFault
  beta_reduce
  extract_lets s1 a
  have h1 : s1.holds c g := by
    simp only [s1]
    split
    · exact State.holds_of_cellar (s.dropProc_cellar k) h
    · exact h
  clear_value a s1
  split
  · exact State.enterFault_keepsHolds k _ _ _ s1 c g hc hg h1
  · split
    · split
      · exact h1
      · exact h1
      · split <;> exact h1
      · exact h1
    · exact State.holds_of_cellar (State.moveAxis_cellar ..) h1

theorem State.react_keepsHolds (k : Nat) (r : React) (pre : Bool) : KeepsHolds (·.react k r pre) := by
  intro s c g hc hg h
  unfold State.react
  split
  · exact State.enterFault_keepsHolds k _ _ _ s c g hc hg h
  · cases r with
    | unchanged => exact h
    | latch | retry | retryFree => exact State.enterFault_keepsHolds k _ _ _ s c g hc hg h
    | qLatch | qRetry | qRetryFree => exact State.quickFault_keepsHolds k _ _ s c g hc hg h

theorem State.raiseOn_keepsHolds (code k inst : Nat) (path : String) (hard pre : Bool) : KeepsHolds (·.raiseOn code k inst path hard pre) := by
  intro s c g hc hg h
  unfold State.raiseOn
  beta_reduce
  obtain ⟨safe, r⟩ := faultRow code hard
  dsimp -zeta only
  extract_lets t s1 meets s2 before s3 s4
  have h1 : s1.holds c g := State.holds_of_cellar (s.arbReact_cellar k _ pre) h
  have h2 : s2.holds c g := by
    simp only [s2]
    split
    · exact State.holds_of_cellar (State.enterRecord_cellar ..) h1
    · exact h1
  have h3 : s3.holds c g := State.holds_of_cellar (State.applySafe_cellar ..) h2
  have h4 : s4.holds c g := by
    simp only [s4]
    split
    · exact State.react_keepsHolds k _ pre s3 c g hc hg h3
    · exact h3
  exact State.holds_of_cellar (cellar_of_quiet (State.markLatched_quiet ..)) h4

theorem State.raiseAll_keepsHolds (code : Nat) (ks : List Nat) (inst : Nat) (path : String) (hard : Bool) :
    KeepsHolds (·.raiseAll code ks inst path hard) := by
  intro s c g hc hg h
  unfold State.raiseAll
  split
  · exact State.holds_of_cellar ((State.stand_cellar ..).trans (State.report_cellar ..)) h
  · exact foldl_keepsHolds (fun k => State.raiseOn_keepsHolds code k inst path hard false) ks s c g hc hg h

theorem State.thermalAxes_keepsHolds (latched : Bool) : KeepsHolds (·.thermalAxes latched) := by
  intro s c g hc hg h
  unfold State.thermalAxes
  beta_reduce
  extract_lets ks s1
  have h1 : s1.holds c g := State.raiseAll_keepsHolds _ _ _ _ _ s c g hc hg h
  refine foldl_keepsHolds (fun k s c g hc hg h => ?_) ks s1 c g hc hg h1
  dsimp only
  split
  · exact State.enterFault_keepsHolds k _ _ _ s c g hc hg h
  · exact h

end Sys2Proof.Machine
end

section
/-!
THEOREMS. The reference and its clocks, and the pairs of the house cores: their faults, their restart and the recovery they lead to.
-/
namespace Sys2Proof.Machine

/-! ### The end of service and the entry into RECOVERY -/

/-- The state without the service operations and what a quiet function changes. -/
def State.sansService (s : State) : State := { s.quiet with service := {} }

theorem State.sansService_of_quiet {s t : State} (h : t.quiet = s.quiet) : t.sansService = s.sansService :=
  congrArg (fun x : State => { x with service := {} }) h

theorem State.endLoad_sansService (s : State) (status wingState : Nat) : (s.endLoad status wingState).sansService = s.sansService := by
  unfold State.endLoad
  split
  · rfl
  · next j _ =>
    extract_lets _ s1 _ s2
    have h2 : s2.sansService = s.sansService := rfl
    clear_value s2
    split
    · exact (State.sansService_of_quiet (State.replyStatus_quiet ..)).trans h2
    · exact h2

theorem State.endService_sansService (s : State) : s.endService.sansService = s.sansService := by
  unfold State.endService
  extract_lets s1 s2 s3 s4
  have h1 : s1.sansService = s.sansService := State.endLoad_sansService ..
  have hop (x : State) (o n st : Nat) : (x.endOp o n st).sansService = x.sansService := State.sansService_of_quiet (State.endOp_quiet ..)
  have h2 : s2.sansService = s.sansService := by
    simp only [s2]
    split
    · exact (hop ..).trans h1
    · exact h1
  have h3 : s3.sansService = s.sansService := by
    simp only [s3]
    split
    · exact (hop ..).trans h2
    · exact h2
  have h4 : s4.sansService = s.sansService := by
    simp only [s4]
    split
    · exact (hop ..).trans h3
    · exact h3
  exact h4

/-- The device moved to RECOVERY, if it is not there yet. -/
theorem State.moveRecovery_sansService (s : State) : (if s.dev.st = .recovery then s else s.moveDev .recovery).sansService =
    ({ s with dev := { s.dev with st := .recovery } } : State).sansService := by
  split
  · next h => rw [← h]
  · exact State.sansService_of_quiet (State.moveDev_quiet ..)

/-- Entering RECOVERY moves the device and ends the service operations; what is quiet keeps everything else. -/
theorem State.enterRecovery_sansService (s : State) (cause : Nat) : (s.enterRecovery cause).sansService =
    ({ s with dev := { s.dev with st := .recovery, recoveryAt := s.now } } : State).sansService := by
  have h1 : (s.endService.setPar P.recoveryCause cause).sansService = s.sansService :=
    (State.sansService_of_quiet (State.setPar_quiet ..)).trans s.endService_sansService
  exact (State.moveRecovery_sansService _).trans
    (congrArg (fun x : State => { x with dev := { x.dev with st := .recovery, recoveryAt := x.now } }) h1)

/-! ### Bits of a status -/

theorem bit_withBit_true {v : Int} (hv : 0 ≤ v) (k : Nat) : bit (withBit v k true) k = true := by
  obtain ⟨n, rfl⟩ := Int.eq_ofNat_of_zero_le hv
  unfold withBit
  cases h : bit (n : Int) k with
  | true =>
    simp [h]
  | false =>
    have hz : n / 2 ^ k % 2 = 0 := by simpa [bit] using h
    have : bit ((n + 2 ^ k : Nat) : Int) k = true := decide_eq_true (bit_add_two_pow hz (.inr rfl))
    simpa [h] using this

/-! ### The silence of the links -/

section
variable {β : Type} {g : State → β} (hg : SendBlind g)
include hg

theorem SendBlind.setRport (s : State) (p : Nat) (x : RingPort) : g (s.setRport p x) = g s := by
  unfold State.setRport
  split <;> exact hg.ring ..

theorem SendBlind.hiveEvent (s : State) (pos subj : Nat) : g (s.hiveEvent pos subj) = g s := hg.notify ..

theorem SendBlind.portDown (hfold : ∀ s : State, g (s.incPar P.foldCount) = g s) (s : State) (p : Nat) : g (s.portDown p) = g s := by
  unfold State.portDown
  extract_lets x s1 s2
  split
  · have h1 : g s1 = g s := hg.setRport ..
    have h2 : g s2 = g s := by
      simp only [s2]
      split
      · exact h1
      · exact (hg.hiveEvent ..).trans ((hfold _).trans h1)
    exact (hg.ring ..).trans h2
  · rfl

theorem SendBlind.ringSilence (hfold : ∀ s : State, g (s.incPar P.foldCount) = g s) (s : State) : g s.ringSilence = g s :=
  each_keeps g _ (fun _ _ => (hg.portDown hfold ..).trans (hg.setRport ..)) _ s

theorem SendBlind.txDrop (s : State) (p tag : Nat) : g (s.txDrop p tag) = g s :=
  (hg.swarm ..).trans (hg.queues s _ s.nextTag)

theorem SendBlind.dropRefs (s : State) (relay : Bool) : g (s.dropRefs relay) = g s :=
  each_keeps g _ (fun _ s => foldl_keeps g _ (fun _ _ => hg.txDrop ..) _ s) _ s

theorem SendBlind.endTimePart (htime : ∀ (s : State) v, g (s.setPar P.timeState v) = g s) (s : State) : g s.endTimePart = g s := by
  have hend (y : State) (hy : g y = g s) :
      g (if y.par P.timeState = 4 then { y with swarm := { y.swarm with holdoverAt := y.now } }.setTimeState 3 else y) = g s := by
    split
    · exact (htime _ 3).trans ((hg.swarm y _).trans hy)
    · exact hy
  unfold State.endTimePart
  extract_lets _ s1
  exact hend s1 ((hg.dropRefs ..).trans (hg.swarm s _))
end

/-- What is sent leaves the clock status. -/
theorem sendBlind_clkStatus : SendBlind fun s => s.par P.clkStatus :=
  sendBlind_par (fun i => by simp only [Par.pn, P.qOverflow, P.clkStatus]; omega) (by decide)

theorem nonneg_of_bit {v : Int} {k : Nat} (h : bit v k = true) : 0 ≤ v := by
  by_contra hv
  simp [bit, Int.toNat_of_nonpos (by omega : v ≤ 0)] at h

theorem referenceEvents : Parts.ReferenceEvents := by
  intro s0 τ s hst
  have hdst : (s0.at τ).dev.st = .idle := hst
  have hstep (b : BootStep) : (s0.at τ).inStep b = false := by simp [State.inStep, hdst]
  refine ⟨fun hv hb => ?_, fun hb hc => ?_, fun dev hdev hs => ?_⟩
  · refine Does.of_answer rfl fun t ht => ?_
    rw [ht.par_eq]
    have hn : ¬((s0.at τ).dev.st = .off ∨ (s0.at τ).inStep .crystal = true ∨ (s0.at τ).inStep .held = true ∨
        bit ((s0.at τ).par P.clkStatus) 0 = true) := by simp [hdst, hstep, s, show (s0.at τ).par P.clkStatus = s.par P.clkStatus from rfl, hb]
    have hp : (referenceLost (s0.at τ)).par P.clkStatus = withBit (s.par P.clkStatus) 0 true := by
      unfold referenceLost
      rw [if_neg hn]
      refine (sendBlind_clkStatus.notify ..).trans ((sendBlind_clkStatus.endTimePart ?_ _).trans ?_)
      · exact fun s v => State.par_setPar_other _ _ _ _ _ _ _ _ (by decide)
      · split
        · exact (sendBlind_clkStatus.ringSilence (fun s => State.incPar_par_other _ _ _ _ _ _ _ _ (by decide)) _).trans (State.par_setPar_same ..)
        · exact State.par_setPar_same ..
    rw [hp]
    exact bit_withBit_true hv 0
  · refine Does.of_answer rfl fun t ht => ?_
    have hcond : (s0.at τ).dev.st ≠ .off ∧ bit ((s0.at τ).par P.clkStatus) 0 = true ∧ ¬bit ((s0.at τ).par P.clkStatus) 1 = true :=
      ⟨by rw [hdst]; nofun, hb, by rw [show (s0.at τ).par P.clkStatus = s.par P.clkStatus from rfl, hc]; nofun⟩
    have hp : (crystalBack (s0.at τ)).par P.clkStatus = withBit (s.par P.clkStatus) 1 true := by
      unfold crystalBack
      rw [if_pos hcond]
      exact (sendBlind_clkStatus.notify ..).trans (State.par_setPar_same ..)
    rw [ht.par_eq, hp]
    exact bit_withBit_true (nonneg_of_bit hb) 1
  · refine Does.of_answer rfl fun t ht => ?_
    have hcond : ¬((s0.at τ).dev.st = .off ∨ (-300 ≤ dev ∧ dev ≤ 300) ∨ (s0.at τ).stands 0x0A01 0 = true) := by
      rw [hdst, show (s0.at τ).stands 0x0A01 0 = false from hs]
      simp only [reduceCtorEq, or_false, false_or, Bool.false_eq_true]
      omega
    rw [State.Stands, ht.stands_eq]
    simp only [ht.heldOff_eq]
    unfold clockCheck
    rw [if_neg hcond]
    refine ⟨raiseAll_stands _ _ _ _ _ _ (by decide) fun _ _ => by simp [faultRow, React.rank], fun g hg => ?_⟩
    exact (State.raiseAll_keepsHolds _ _ _ _ _ _ 4 g (by decide) hg (State.holdOff_held _ (by decide) hg (List.mem_range.mpr hg))).heldOff

/-! ### The house pairs -/

/-- The standby pair can take over at once. -/
def State.standbyReady (s : State) : Bool := (s.pair s.standby).live && ((s.pair s.standby).synced || decide (s.porch.halt = .live))

theorem State.activate_keeps {β : Type} (g : State → β) (hax : ∀ s k f, g (s.modAx k f) = g s) (hpar : ∀ s p v, g (s.setPar p v) = g s)
    (s : State) (p : Nat) : g (s.activate p) = g s := by
  unfold State.activate
  exact (each_keeps g _ (fun k s => by split; exacts [hax .., rfl]) _ _).trans ((hpar ..).trans (hpar ..))

/-- A fault of the active pair stands, ends a halt, and is followed by RECOVERY where the standby is ready or the firmware is at fault. -/
theorem State.coreFault_of_live (s : State) (fw : Bool) (hoff : s.dev.st ≠ .off) (hboot : s.dev.st ≠ .boot) (hhalt : s.porch.halt ≠ .full)
    (hlive : (s.pair s.active).live = true) : ∃ z : State, z.stands 0x0A03 s.active = true ∧ z.porch.halt = .none ∧ z.dev.st = s.dev.st ∧
      z.dev.silentSince = (if s.standbyReady then none else some s.now) ∧
      s.coreFault fw = if s.standbyReady = true ∨ fw = true then z.enterRecovery (if fw then 2 else 1) else z := by
  have hcond : ¬(s.dev.st = .off ∨ s.dev.st = .boot ∨ s.porch.halt = .full ∨ ¬(s.pair s.active).live = true) := by simp [hoff, hboot, hhalt, hlive]
  unfold State.coreFault
  rw [if_neg hcond]
  extract_lets p q ready s1 _ s2 _ s3 s4 _ s5 _ s6
  have h1 : s1.stands 0x0A03 p = true := raiseModule_stands ..
  have hq : s1.quiet.unmoved = s.quiet.unmoved := s.raiseModule_still ..
  have h1d : s1.dev.st = s.dev.st := (State.dev_of_still hq).1
  have h1n : s1.now = s.now := (congrArg State.now hq :)
  clear_value s1
  have h4 : s4.standing = s1.standing ∧ s4.porch.halt = .none ∧ s4.dev.st = s1.dev.st ∧ s4.now = s1.now := by
    simp only [s4, s3, s2, State.setPair]
    split <;> exact ⟨rfl, rfl, rfl, rfl⟩
  clear_value s4
  have hpair (x : Pair) : ((s4.setPair q x).standing, (s4.setPair q x).porch, (s4.setPair q x).dev.st, (s4.setPair q x).now) =
      (s4.standing, s4.porch, s4.dev.st, s4.now) := by
    unfold State.setPair
    split <;> rfl
  have h5 : (s5.standing, s5.porch, s5.dev.st, s5.now) = (s4.standing, s4.porch, s4.dev.st, s4.now) := by
    simp only [s5]
    split
    · exact (State.activate_keeps (fun s => (s.standing, s.porch, s.dev.st, s.now)) (fun _ _ _ => rfl) (fun _ _ _ => rfl) _ q).trans (hpair _)
    · exact hpair _
  clear_value s5
  obtain ⟨h5s, h5p, h5d, h5n⟩ : s5.standing = s4.standing ∧ s5.porch = s4.porch ∧ s5.dev.st = s4.dev.st ∧ s5.now = s4.now := by simpa using h5
  obtain ⟨h4s, h4p, h4d, h4n⟩ := h4
  refine ⟨s6, ?_, ?_, ?_, ?_, rfl⟩
  · exact (stands_congr (show s6.standing = s1.standing from h5s.trans h4s) ..).trans h1
  · exact (congrArg Porch.halt h5p).trans h4p
  · exact h5d.trans (h4d.trans h1d)
  · simp only [s6, h5n, h4n, h1n]
    rfl

theorem State.pair_setPair_same (s : State) (p : Nat) (x : Pair) : (s.setPair p x).pair p = x := by
  unfold State.setPair State.pair
  split <;> rfl

theorem State.setPair_restarts (s : State) (p : Nat) (x : Pair) :
    (s.setPair p x).dev.silentSince = s.dev.silentSince ∧ (s.setPair p x).dev.restarts = s.dev.restarts := by
  unfold State.setPair
  split <;> exact ⟨rfl, rfl⟩

/-- What the restart of the pairs does to the Forager and to the standing faults leaves the device. -/
theorem stopAndUnstand_restarts (s : State) (l1 l2 : List Nat) :
    ((each l2 (each l1 s fun c s => s.fgStop c) fun k s => s.unstandCode 0x0206 k).dev.silentSince,
      (each l2 (each l1 s fun c s => s.fgStop c) fun k s => s.unstandCode 0x0206 k).dev.restarts) = (s.dev.silentSince, s.dev.restarts) := by
  have hq (x y : State) (h : x.quiet.dev = y.quiet.dev) : (x.dev.silentSince, x.dev.restarts) = (y.dev.silentSince, y.dev.restarts) :=
    (congrArg (fun d : Dev => (d.silentSince, d.restarts)) h :)
  have h1 := each_keeps (fun x : State => (x.dev.silentSince, x.dev.restarts)) (fun c x => x.fgStop c)
    (fun c x => hq _ _ (congrArg State.dev (x.fgStop_quiet c))) l1 s
  refine (each_keeps (fun x : State => (x.dev.silentSince, x.dev.restarts)) (fun k x => x.unstandCode 0x0206 k) (fun k x => ?_) l2 _).trans h1
  exact foldl_keeps (fun x : State => (x.dev.silentSince, x.dev.restarts)) (fun x f => x.unstand f)
    (fun x f => hq _ _ (congrArg State.dev (x.unstand_quiet f) :)) _ x

/-- The Cellar restarts both pairs, notes when, and goes to RECOVERY. -/
theorem cellarRestart_of_silent (s : State) {t0 : Nat} (hs : s.dev.silentSince = some t0) (hd : t0 + 5000000 ≤ s.now)
    (hstop : s.dev.housesStopped = false) (hoff : s.dev.st ≠ .off) (hboot : s.dev.st ≠ .boot)
    (hr : (recent s.now 3600000000000 s.dev.restarts).length < 3) :
    ∃ y : State, cellarRestart s = y.enterRecovery 3 ∧ y.dev.silentSince = none ∧
      y.dev.restarts = s.now :: recent s.now 3600000000000 s.dev.restarts := by
  have hcond : ¬(s.now < t0 + 5000000 ∨ s.dev.housesStopped = true ∨ s.dev.st = .off ∨ s.dev.st = .boot) := by
    simp [hstop, hoff, hboot, hd]
  have hlen : ¬3 ≤ (recent s.now 3600000000000 s.dev.restarts).length := Nat.not_le.mpr hr
  have htail (y : State) (hy : (y.dev.silentSince, y.dev.restarts) = (none, s.now :: recent s.now 3600000000000 s.dev.restarts)) (l1 l2 : List Nat) :
      ∃ z : State, (each l2 (each l1 y fun c s => s.fgStop c) fun k s => s.unstandCode 0x0206 k).enterRecovery 3 = z.enterRecovery 3 ∧
        z.dev.silentSince = none ∧ z.dev.restarts = s.now :: recent s.now 3600000000000 s.dev.restarts :=
    ⟨_, rfl, Prod.mk.inj ((stopAndUnstand_restarts y l1 l2).trans hy)⟩
  unfold cellarRestart
  rw [hs]
  dsimp -zeta only
  rw [if_neg hcond]
  extract_lets rs w _ s1 s2 s3 s4
  rw [if_neg hlen]
  refine htail s3 ?_ ((upto 12).map (· + 4)) (upto 4)
  simp only [s3, s2, (State.setPair_restarts ..).1, (State.setPair_restarts ..).2]
  rfl

theorem housePairs : Parts.HousePairs := by
  refine ⟨?_, ?_, ?_⟩
  · intro s0 τ fw s hoff hboot hhalt hlive ready
    refine ⟨fun hr => ?_, fun hr => ?_⟩
    · obtain ⟨z, hs, hh, -, -, he⟩ := State.coreFault_of_live (s0.at τ) fw hoff hboot hhalt hlive
      have hc : (s0.at τ).standbyReady = true ∨ fw = true := (Bool.or_eq_true _ _).mp hr
      rw [if_pos hc] at he
      have hz := z.enterRecovery_sansService (if fw then 2 else 1)
      refine Does.of_answer (congrArg (answer s0) he) fun t ht => ?_
      rw [ht.dev, ht.porch, State.Stands, ht.stands_eq]
      exact ⟨(congrArg (fun x : State => x.dev.st) hz :), (stands_congr (congrArg State.standing hz :) ..).trans hs,
        (congrArg (fun x : State => x.porch.halt) hz :).trans hh⟩
    · obtain ⟨z, hs, -, hst, hsi, he⟩ := State.coreFault_of_live (s0.at τ) false hoff hboot hhalt hlive
      have hready : (s0.at τ).standbyReady = false := hr
      rw [hready, if_neg (by nofun)] at he
      rw [hready] at hsi
      refine Does.of_answer (congrArg (answer s0) he) fun t ht => ?_
      rw [ht.dev, State.Stands, ht.stands_eq]
      exact ⟨hst, hs, hsi⟩
  · intro s0 τ s hst hsw hlive hdead hstop
    have hcond : ((s0.at τ).dev.st = .recovery ∨ (s0.at τ).dev.st = .service) ∧ (s0.at τ).service.switch = none ∧
        ((s0.at τ).pair (s0.at τ).active).live = true ∧ ¬((s0.at τ).pair (s0.at τ).standby).live = true ∧
        ¬((s0.at τ).pair (s0.at τ).standby).stopped = true := ⟨.inl hst, hsw, hlive, Bool.eq_false_iff.mp hdead, Bool.eq_false_iff.mp hstop⟩
    refine ⟨Does.of_answer rfl fun t ht => ?_, Does.of_answer rfl fun t ht => ?_⟩
    · have hx : pairRestart true (s0.at τ) = (s0.at τ).startStandby (s0.at τ).standby := if_pos hcond
      rw [ht.pair_eq, hx]
      have hp := (s0.at τ).pair_setPair_same (s0.at τ).standby { live := true, synced := true, stopped := false, wing := (s0.at τ).parN P.bootWing % 2 }
      exact ⟨congrArg Pair.live hp, congrArg Pair.synced hp⟩
    · have hp := (s0.at τ).pair_setPair_same (s0.at τ).standby { (s0.at τ).pair (s0.at τ).standby with stopped := true }
      rw [ht.pair_eq]
      unfold pairRestart
      dsimp only
      rw [if_pos hcond]
      split
      · contradiction
      · split <;> exact congrArg Pair.stopped hp
  · intro s0 τ t0 s hs h1 h2 h3 hoff hboot
    have hn : (s0.at τ).now = τ := max_eq_right h2
    refine ⟨fun hr => ?_, fun hr => ?_⟩
    · obtain ⟨y, hx, hsi, hre⟩ := cellarRestart_of_silent (s0.at τ) (t0 := t0) hs (hn.symm ▸ h1) h3 hoff hboot (hn.symm ▸ hr)
      rw [hn] at hre
      have hz := y.enterRecovery_sansService 3
      refine Does.of_answer (congrArg (answer s0) hx) fun t ht => ?_
      rw [ht.dev]
      exact ⟨(congrArg (fun x : State => x.dev.st) hz :), (congrArg (fun x : State => x.dev.silentSince) hz :).trans hsi,
        (congrArg (fun x : State => x.dev.restarts) hz :).trans hre⟩
    · refine Does.of_answer rfl fun t ht => ?_
      have hcond : ¬((s0.at τ).now < t0 + 5000000 ∨ (s0.at τ).dev.housesStopped = true ∨ (s0.at τ).dev.st = .off ∨ (s0.at τ).dev.st = .boot) := by
        have hh : (s0.at τ).dev.housesStopped = false := h3
        have ho : (s0.at τ).dev.st ≠ .off := hoff
        have hb : (s0.at τ).dev.st ≠ .boot := hboot
        simp [hh, ho, hb, hn, h1]
      have hs' : (s0.at τ).dev.silentSince = some t0 := hs
      have hr' : 3 ≤ (recent (s0.at τ).now 3600000000000 (s0.at τ).dev.restarts).length := by
        rw [hn]
        exact hr
      rw [ht.dev]
      unfold cellarRestart
      rw [hs']
      dsimp only
      rw [if_neg hcond, if_pos hr']
      exact ⟨rfl, rfl⟩

/-- Settles O9. -/
theorem referenceAndHouses : Obligations.ReferenceAndHouses := ⟨referenceEvents, housePairs⟩

end Sys2Proof.Machine
end

section
/-!
SUPPORT. The functions of the feedback inputs and the DC links: beside what a still function changes they change the encoders, the
resolvers, the SSI interfaces and the links, and nothing else.
-/
namespace Sys2Proof.Machine

/-- The state without the feedback interfaces and the links. -/
def State.offInputs (s : State) : State := { s with encs := [], ress := [], ssis := [], links := [] }

@[simp ↓] theorem inputs_ite (c : Prop) [Decidable c] (a b : State) (h : a.quiet.unmoved.offInputs = b.quiet.unmoved.offInputs) :
    (if c then a else b).quiet.unmoved.offInputs = b.quiet.unmoved.offInputs := by
  split
  · exact h
  · rfl

@[simp ↓] theorem foldl_inputs {α : Type} (f : State → α → State) (l : List α) (s : State)
    (h : ∀ s x, (f s x).quiet.unmoved.offInputs = s.quiet.unmoved.offInputs) : (l.foldl f s).quiet.unmoved.offInputs = s.quiet.unmoved.offInputs :=
  foldl_keeps (fun x => x.quiet.unmoved.offInputs) f h l s

theorem foldl_fst_inputs {α β : Type} (f : State × β → α → State × β) (l : List α) (a : State × β)
    (h : ∀ a x, (f a x).1.quiet.unmoved.offInputs = a.1.quiet.unmoved.offInputs) :
    (l.foldl f a).1.quiet.unmoved.offInputs = a.1.quiet.unmoved.offInputs := by
  induction l generalizing a with
  | nil => rfl
  | cons x l ih => rw [List.foldl_cons, ih, h]

@[simp ↓] theorem State.setLink_inputs (s : State) (k : Nat) (x : Link) :
    (s.setLink k x).quiet.unmoved.offInputs = s.quiet.unmoved.offInputs := by
  rfl

@[simp ↓] theorem State.chopFault_inputs (s : State) (k : Nat) (path : String) :
    (s.chopFault k path).quiet.unmoved.offInputs = s.quiet.unmoved.offInputs := by
  unfold State.chopFault
  simp

@[simp ↓] theorem State.linkPeriod_inputs (s : State) (k : Nat) : (s.linkPeriod k).quiet.unmoved.offInputs = s.quiet.unmoved.offInputs := by
  unfold State.linkPeriod
  simp

@[simp ↓] theorem State.setEnc_inputs (s : State) (k : Nat) (x : Enc) :
    (s.setEnc k x).quiet.unmoved.offInputs = s.quiet.unmoved.offInputs := by
  rfl

@[simp ↓] theorem State.setRes_inputs (s : State) (k : Nat) (x : Res) :
    (s.setRes k x).quiet.unmoved.offInputs = s.quiet.unmoved.offInputs := by
  rfl

@[simp ↓] theorem State.setSsi_inputs (s : State) (k : Nat) (x : Ssi) :
    (s.setSsi k x).quiet.unmoved.offInputs = s.quiet.unmoved.offInputs := by
  rfl

@[simp ↓] theorem State.setFb_inputs (s : State) (i : Nat) (f : FbCommon) :
    (s.setFb i f).quiet.unmoved.offInputs = s.quiet.unmoved.offInputs := by
  unfold State.setFb
  simp

@[simp ↓] theorem State.drive_inputs (s : State) (k : Nat) : (s.drive k).quiet.unmoved.offInputs = s.quiet.unmoved.offInputs := by
  unfold State.drive
  simp

@[simp ↓] theorem State.takeFbCfg_inputs (s : State) (i : Nat) : (s.takeFbCfg i).quiet.unmoved.offInputs = s.quiet.unmoved.offInputs := by
  unfold State.takeFbCfg
  simp

@[simp ↓] theorem State.decideIndex_inputs (s : State) (k : Nat) (count : Int) :
    (s.decideIndex k count).quiet.unmoved.offInputs = s.quiet.unmoved.offInputs := by
  unfold State.decideIndex
  dsimp only
  split <;> simp

@[simp ↓] theorem State.applyIndex_inputs (s : State) (k : Nat) : (s.applyIndex k).quiet.unmoved.offInputs = s.quiet.unmoved.offInputs := by
  unfold State.applyIndex
  dsimp only
  split
  · exact State.setEnc_inputs ..
  · rw [foldl_fst_inputs _ _ _ fun a x => State.decideIndex_inputs .., State.setEnc_inputs]

@[simp ↓] theorem State.declareFaulty_inputs (s : State) (i code : Nat) :
    (s.declareFaulty i code).quiet.unmoved.offInputs = s.quiet.unmoved.offInputs := by
  unfold State.declareFaulty
  simp

@[simp ↓] theorem State.encSample_inputs (s : State) (k tSE prev : Nat) :
    (s.encSample k tSE prev).quiet.unmoved.offInputs = s.quiet.unmoved.offInputs := by
  unfold State.encSample
  simp only [↓inputs_ite, ↓State.applyIndex_inputs, ↓State.coldSpeed_quiet, ↓State.declareFaulty_inputs, ↓State.setEnc_inputs,
      ↓State.setPar_quiet, ↓State.takeFbCfg_inputs]

@[simp ↓] theorem State.resSample_inputs (s : State) (k tSE : Nat) :
    (s.resSample k tSE).quiet.unmoved.offInputs = s.quiet.unmoved.offInputs := by
  unfold State.resSample
  simp

@[simp ↓] theorem State.ssiSample_inputs (s : State) (k tSE period : Nat) :
    (s.ssiSample k tSE period).quiet.unmoved.offInputs = s.quiet.unmoved.offInputs := by
  unfold State.ssiSample
  simp

@[simp ↓] theorem State.fbSample_inputs (s : State) (i tSE period : Nat) :
    (s.fbSample i tSE period).quiet.unmoved.offInputs = s.quiet.unmoved.offInputs := by
  unfold State.fbSample
  simp

@[simp ↓] theorem State.chopCmd_inputs (s : State) (k : Nat) (on : Bool) :
    (s.chopCmd k on).quiet.unmoved.offInputs = s.quiet.unmoved.offInputs := by
  unfold State.chopCmd
  dsimp only
  (repeat' split) <;> simp

@[simp ↓] theorem State.chopControl_inputs (s : State) (k : Nat) : (s.chopControl k).quiet.unmoved.offInputs = s.quiet.unmoved.offInputs := by
  unfold State.chopControl
  split <;> simp

@[simp ↓] theorem State.linkSample_inputs (s : State) (b : Nat) (code : Nat) :
    (s.linkSample b code).quiet.unmoved.offInputs = s.quiet.unmoved.offInputs := by
  unfold State.linkSample
  simp

@[simp ↓] theorem State.linkStage_inputs (s : State) (b : Nat) (code : Nat) (ends : Bool) :
    (s.linkStage b code ends).quiet.unmoved.offInputs = s.quiet.unmoved.offInputs := by
  unfold State.linkStage
  simp

@[simp ↓] theorem State.linkAtSe_inputs (s : State) (n k b code : Nat) :
    (s.linkAtSe n k b code).quiet.unmoved.offInputs = s.quiet.unmoved.offInputs := by
  unfold State.linkAtSe
  simp

end Sys2Proof.Machine
end

section
/-!
THEOREMS. The periods of a lane: the sample event, the deadline of the shadow registers and the dispatch of the words.
-/
namespace Sys2Proof.Machine

/-- The SNAPSHOTs that wait for the axis are answered, and wait no longer. -/
theorem State.answerSnaps_quiet (s : State) (k period : Nat) :
    (s.answerSnaps k period).quiet = ({ s with snaps := s.snaps.filter fun w => decide (w.axis ≠ k) } : State).quiet :=
  foldl_keeps State.quiet _ (fun s _ => s.reply_quiet ..) _ _

theorem State.offInputs_of_still {s t : State} (h : t.quiet.unmoved = s.quiet.unmoved) : t.quiet.unmoved.offInputs = s.quiet.unmoved.offInputs :=
  congrArg State.offInputs h

/-- After a sample event that came when it was due, nothing but the SNAPSHOTs that waited for its axis is missing of what no sample touches. -/
theorem sampleEvent_offInputs {s : State} {n k : Nat} (hk : s.seAxis n = some k) (hdue : (s.lane n).seDue s.now = true)
    (samples : List (List Int × List Nat)) (computed spareOk : Bool) : (sampleEvent n samples computed spareOk s).quiet.unmoved.offInputs =
      ({ s with snaps := s.snaps.filter fun w => decide (w.axis ≠ k) } : State).quiet.unmoved.offInputs := by
  unfold sampleEvent
  rw [hk]
  dsimp -zeta only
  extract_lets l0 bs prevI s1 s2 peak s3 s4 s5 s6 above l
  rw [if_neg (not_not_intro hdue)]
  have h1 : s1.quiet.unmoved = s.quiet.unmoved := s.seOpen_still n k
  have h2 : s2.quiet.unmoved.offInputs = ({ s with snaps := s.snaps.filter fun w => decide (w.axis ≠ k) } : State).quiet.unmoved.offInputs :=
    (State.offInputs_of_still (congrArg State.unmoved (s1.answerSnaps_quiet k _))).trans
      (congrArg (fun x : State => ({ x with snaps := x.snaps.filter fun w => decide (w.axis ≠ k) } : State).offInputs) h1)
  clear_value s2
  have h3 : s3.quiet.unmoved.offInputs = s2.quiet.unmoved.offInputs := by
    simp only [s3]
    split
    · exact State.offInputs_of_still (congrArg State.unmoved (State.raiseLine_quiet ..))
    · rfl
  have h4 : s4.quiet.unmoved.offInputs = s3.quiet.unmoved.offInputs :=
    State.offInputs_of_still (foldl_still _ _ _ fun s x => State.senseBridge_still ..)
  have h5 : s5.quiet.unmoved.offInputs = s4.quiet.unmoved.offInputs := foldl_inputs _ _ _ fun s x => State.linkAtSe_inputs ..
  clear_value s5
  have h6 : s6.quiet.unmoved.offInputs = s5.quiet.unmoved.offInputs := by
    simp only [s6]
    split
    · split
      · exact State.takeFbCfg_inputs ..
      · exact State.fbSample_inputs ..
    · rfl
  have hall := h6.trans (h5.trans (h4.trans (h3.trans h2)))
  clear_value s6
  split
  · exact hall
  · exact hall

theorem sampleEventAnswersSnapshots : Parts.SampleEventAnswersSnapshots := by
  intro s0 τ n k samples computed spareOk s hk hdue
  have hx := sampleEvent_offInputs (s := s0.at τ) hk hdue samples computed spareOk
  refine Does.of_answer rfl fun t ht => ?_
  have hsnaps : t.snaps = s.snaps.filter fun w => decide (w.axis ≠ k) := ht.snaps.trans (congrArg State.snaps hx :)
  rw [hsnaps]
  refine ⟨fun w hw => of_decide_eq_true (List.mem_filter.mp hw).2, fun w hw hne => List.mem_filter.mpr ⟨hw, decide_eq_true hne⟩,
    ht.attic.trans (congrArg State.attic hx :), ht.config.trans (congrArg State.config hx :)⟩

/-! ### The deadline and the dispatch -/

theorem State.raiseLane_stands (s : State) (overrun : Bool) (k inst : Nat) (path : String) (hard : Bool) :
    (s.raiseLane overrun k inst path hard).stands 0x0201 inst = true ∧
      (overrun = true → (s.raiseLane overrun k inst path hard).stands 0x0202 inst = true) := by
  have hrow (code : Nat) (hc : code = 0x0201 ∨ code = 0x0202) (x : State) :
      ((x.arbReact k (faultRow code hard).2 false).2 || false || decide ((faultRow code hard).2.rank = 2)) = true := by
    obtain rfl | rfl := hc <;> cases hard <;> simp [faultRow, React.rank, State.arbReact]
  unfold State.raiseLane
  refine ⟨raiseOn_stands _ _ _ _ _ _ _ (by decide) (hrow _ (.inl rfl) _), fun ho => ?_⟩
  have h2 : (s.raiseOn 0x0202 k inst path hard).stands 0x0202 inst = true := raiseOn_stands _ _ _ _ _ _ _ (by decide) (hrow _ (.inr rfl) s)
  rw [ho]
  exact raiseOn_mono (s.raiseOn 0x0202 k inst path hard) 0x0201 k inst path hard false 0x0202 inst (by decide) h2

theorem State.takeover_standing (s : State) (n k : Nat) (again : Bool) : (s.takeover n k again).standing = s.standing := by
  unfold State.takeover
  extract_lets l r rerun late noRecord fused stage _ s1 s2 _ s3
  have h3 : s3.standing = s.standing := rfl
  clear_value s3
  exact (State.notify_standing ..).trans h3

/-- A lane that serves an axis fails: its code stands, and after an overrun that of the overrun too. -/
theorem State.laneFault_stands {s : State} {n k : Nat} (hn : n < 4) (hk : s.axisOfLane n = some k) (overrun again : Bool) :
    (s.laneFault n overrun again).stands 0x0201 n = true ∧ (overrun = true → (s.laneFault n overrun again).stands 0x0202 n = true) := by
  have hcongr (y : State) (hax : y.axes = (s.swapsEnd n).axes) (hpar : ∀ q i, P.laneFaults.pn 0 0 ≠ q.pn i 0 → y.par q i = (s.swapsEnd n).par q i) :
      y.axisOfLane n = some k := by
    refine (State.axisOfLane_congr (hax.trans (s.swapsEnd_axes n)) ?_ (fun j => ?_) n).trans hk
    · exact (hpar _ _ (by decide)).trans (s.swapsEnd_par n sendBlind_spareFor)
    · exact (hpar _ _ (by simp only [Par.pn, P.laneFaults, P.lane]; omega)).trans (s.swapsEnd_par n (sendBlind_lane j))
  unfold State.laneFault
  extract_lets s1 s2
  rw [if_neg (by omega)]
  have hserves : s2.axisOfLane n = some k := hcongr s2 rfl fun q i h => State.par_setPar_other _ _ _ _ _ _ _ _ h
  clear_value s2
  rw [hserves]
  dsimp only
  split
  · rw [stands_congr (State.takeover_standing ..), stands_congr (State.takeover_standing ..)]
    exact State.raiseLane_stands ..
  · exact State.raiseLane_stands ..

theorem State.seAxis_serves {s : State} {n k : Nat} (h : s.seAxis n = some k) : s.axisOfLane n = some k := by
  unfold State.seAxis at h
  split at h
  · exact h
  · contradiction

/-- A lane that misses the deadline repeats the words of the period before and counts the overrun; the second one in a row is its fault. -/
theorem shadowDeadline_of_late {s : State} {n k : Nat} (hk : s.seAxis n = some k) (hfirst : (s.lane n).first = false)
    (hdisp : (s.lane n).dispatched = false) (hf : (s.lane n).filled = false) (hb : (s.lane n).before s.now 500 = true) :
    ∃ y : State, (y.lane n).filled = true ∧ (y.lane n).overruns = (s.lane n).overruns + 1 ∧ y.standing = s.standing ∧ y.axisOfLane n = some k ∧
      shadowDeadline n s = if 2 ≤ (s.lane n).overruns + 1 then y.laneFault n true false else y := by
  have hlane (y : State) (l : Lane) (hl : y.lanes = (s.setLane n l).lanes) : y.lane n = l :=
    (show y.lane n = (s.setLane n l).lane n by simp only [State.lane, hl]).trans (State.lane_setLane_same s n l)
  unfold shadowDeadline
  rw [hk]
  dsimp -zeta only
  extract_lets l double rep s1 s2
  rw [if_neg (by simp [l, hfirst, hdisp, hb]), if_neg (by simp [l, hf])]
  have h2 : s2.lanes = s1.lanes := (congrArg State.lanes (s1.incPar_quiet P.overrunCount k) :)
  refine ⟨s2, ?_, ?_, ?_, ?_, rfl⟩
  · exact (congrArg Lane.filled (hlane s2 _ h2))
  · exact (congrArg Lane.overruns (hlane s2 _ h2))
  · exact (congrArg State.standing (s1.incPar_quiet P.overrunCount k) :)
  · refine (State.axisOfLane_congr (a := s2) (b := s) (congrArg State.axes (s1.incPar_quiet P.overrunCount k) :) ?_ (fun j => ?_) n).trans (State.seAxis_serves hk)
    · refine (State.par_setPar_other _ _ _ _ _ _ _ _ ?_).trans (State.incPar_par_other _ _ _ _ _ _ _ _ ?_)
      all_goals simp only [Par.pn, P.overrunCount, P.ctrlStatus, P.spareFor]; omega
    · refine (State.par_setPar_other _ _ _ _ _ _ _ _ ?_).trans (State.incPar_par_other _ _ _ _ _ _ _ _ ?_)
      all_goals simp only [Par.pn, P.overrunCount, P.ctrlStatus, P.lane]; omega

theorem deadlineAndDispatch : Parts.DeadlineAndDispatch := by
  intro s0 τ n k s hk hnow hfirst hdisp
  have hn : (s0.at τ).now = τ := max_eq_right hnow
  have hx : (s0.at τ).seAxis n = some k := hk
  have hl : (s0.at τ).lane n = s.lane n := rfl
  refine ⟨fun hb hf => ?_, fun hb hf ho => ?_, fun hb hf ho hn4 => ?_, fun hb hf => ?_⟩
  · have he : shadowDeadline n (s0.at τ) = (s0.at τ).setLane n { s.lane n with overruns := 0 } := by
      unfold shadowDeadline
      rw [hx]
      simp [hl, hfirst, hdisp, hn, hb, hf]
    refine Does.of_answer (congrArg (answer s0) he) fun t ht => ?_
    rw [ht.lane_eq, ht.params, ht.standing]
    exact ⟨State.lane_setLane_same .., rfl, rfl⟩
  · obtain ⟨y, hy, ho', hs, -, he⟩ := shadowDeadline_of_late hx hfirst hdisp hf (hn.symm ▸ hb)
    rw [hl, ho, if_neg (by omega)] at he
    refine Does.of_answer (congrArg (answer s0) he) fun t ht => ?_
    rw [ht.lane_eq, ht.standing]
    exact ⟨hy, ho'.trans (by rw [hl, ho]), hs⟩
  · obtain ⟨y, -, -, -, hserves, he⟩ := shadowDeadline_of_late hx hfirst hdisp hf (hn.symm ▸ hb)
    rw [hl, if_pos (by omega)] at he
    obtain ⟨h1, h2⟩ := State.laneFault_stands hn4 hserves true false
    refine Does.of_answer (congrArg (answer s0) he) fun t ht => ?_
    rw [State.Stands, State.Stands, ht.stands_eq, ht.stands_eq]
    exact ⟨h2 rfl, h1⟩
  · have he : edgeDispatch n (s0.at τ) = (s0.at τ).setLane n { s.lane n with dispatched := true } := by
      unfold edgeDispatch
      rw [hx]
      simp [hl, hfirst, hdisp, hn, hb, hf]
    refine Does.of_answer (congrArg (answer s0) he) fun t ht => ?_
    rw [ht.lane_eq, ht.params, ht.axes, ht.standing]
    exact ⟨State.lane_setLane_same .., rfl, rfl, rfl⟩

/-- Settles O10. -/
theorem lanePeriods : Obligations.LanePeriods := ⟨sampleEventAnswersSnapshots, deadlineAndDispatch⟩

end Sys2Proof.Machine
end

section
/-!
THEOREMS. Lane faults and the supervision of a switching axis: a silent house and an imbalance of the bridges.
-/
namespace Sys2Proof.Machine

/-! ### Triggers of a period that is over -/

/-- The first trigger of a control period acts, whatever its rank. -/
theorem State.arb_of_freeTurn {s : State} {k : Nat} (h : s.freeTurn s.now k = true) (rank : Nat) :
    s.arb k rank = (s.setAx k { s.ax k with turn := (s.periodEnd k).map fun till => (s.ax k).mark till rank }, true) := by
  unfold State.freeTurn at h
  unfold State.arb
  dsimp only
  split
  · next t ht =>
    rw [ht] at h
    exact if_pos (of_decide_eq_true (by simpa using h))
  · rfl

theorem State.arbReact_of_freeTurn {s : State} {k : Nat} (h : s.freeTurn s.now k = true) (r : React) (pre : Bool) : (s.arbReact k r pre).2 = true := by
  have harb (rank : Nat) : (if rank = 0 then (s, true) else s.arb k rank).2 = true := by
    split
    · rfl
    · rw [State.arb_of_freeTurn h]
  exact harb _

theorem State.at_freeTurn {s0 : State} {τ k : Nat} (h : (s0.due τ).freeTurn τ k = true) : (s0.at τ).freeTurn (s0.at τ).now k = true := by
  unfold State.freeTurn at *
  have hle : τ ≤ (s0.at τ).now := Nat.le_max_right ..
  revert h
  show Option.all _ ((s0.due τ).ax k).turn = true → Option.all _ ((s0.due τ).ax k).turn = true
  cases ((s0.due τ).ax k).turn with
  | none => exact fun _ => rfl
  | some t => exact fun h => decide_eq_true ((of_decide_eq_true h).trans hle)

/-- A fault raised on an axis stands where the axis is free for its trigger. -/
theorem raiseOn_stands_of_freeTurn {s : State} {k : Nat} (h : s.freeTurn s.now k = true) (code inst : Nat) (path : String) (hard : Bool)
    (hc : code ≠ 0x0206) : (s.raiseOn code k inst path hard).stands code inst = true :=
  raiseOn_stands _ _ _ _ _ _ _ hc (by rw [State.arbReact_of_freeTurn h]; rfl)

/-! ### Lane faults -/

theorem laneSelfTest_lane {s : State} {n : Nat} (hn : n < 4) (hdue : (s.lane n).testDue = true) (pass : Bool) :
    (laneSelfTest n pass s).lane n = { s.lane n with testDue := false } ∧ (laneSelfTest n pass s).axes = s.axes := by
  have hcond : n < 5 ∧ (s.lane n).testDue = true := ⟨by omega, hdue⟩
  unfold laneSelfTest
  dsimp only
  rw [if_pos hcond]
  have h1 : (((s.setLane n { s.lane n with testDue := false }).setBit P.laneFaults (3 * n + 2) (!pass)).lane n) = { s.lane n with testDue := false } :=
    State.lane_setLane_same ..
  (repeat' split) <;> exact ⟨h1, rfl⟩

theorem State.takeover_roles (s : State) {n : Nat} (hn : n < 4) (k : Nat) (again : Bool) :
    (s.takeover n k again).par P.laneRole n = 3 ∧ (s.takeover n k again).par P.laneRole 4 = 0 := by
  have hsend (j : Nat) (hj : j < 5) : SendBlind fun s => s.par P.laneRole j :=
    sendBlind_par (fun i => by simp only [Par.pn, P.qOverflow, P.laneRole]; omega) (by simp only [Par.pn, P.notifDrops, P.laneRole]; omega)
  unfold State.takeover
  constructor
  · refine ((hsend n (by omega)).notify ..).trans <| (State.par_setPar_other _ _ _ _ _ _ _ _ ?_).trans <|
      (State.par_setPar_other _ _ _ _ _ _ _ _ ?_).trans <| (State.par_setPar_other _ _ _ _ _ _ _ _ ?_).trans <|
      (State.par_setPar_other _ _ _ _ _ _ _ _ ?_).trans (State.par_setPar_same ..)
    all_goals simp only [Par.pn, P.coldFlags, P.takeoverTime, P.spareFor, P.laneRole]; omega
  · refine ((hsend 4 (by omega)).notify ..).trans <| (State.par_setPar_other _ _ _ _ _ _ _ _ ?_).trans <|
      (State.par_setPar_other _ _ _ _ _ _ _ _ ?_).trans <| (State.par_setPar_other _ _ _ _ _ _ _ _ ?_).trans (State.par_setPar_same ..)
    all_goals simp only [Par.pn, P.coldFlags, P.takeoverTime, P.spareFor, P.laneRole]; omega

theorem laneFaults : Parts.LaneFaults := by
  intro s0 τ n k s hn
  refine ⟨fun ha hk hs => ?_, fun ha hk hs hr => ?_, fun hd pass => ?_⟩
  · have he : laneMismatch n false (s0.at τ) = (s0.at τ).laneFault n false false := laneMismatch_of_active (s := s0.at τ) hn ha false
    refine Does.of_answer (congrArg (answer s0) he) fun t ht => ?_
    rw [State.Stands, ht.stands_eq]
    exact (State.laneFault_stands (s := s0.at τ) hn hk false false).1
  · have he : laneMismatch n false (s0.at τ) = (s0.at τ).laneFault n false false := laneMismatch_of_active (s := s0.at τ) hn ha false
    obtain ⟨x, -, hx⟩ := State.laneFault_of_spare (s := s0.at τ) ⟨hk, hr⟩ hn false false
    refine Does.of_answer (congrArg (answer s0) (he.trans hx)) fun t ht => ?_
    rw [ht.parN_eq, ht.par_eq, ht.par_eq]
    exact ⟨congrArg Int.toNat (x.takeover_spareFor n k false), x.takeover_roles hn k false⟩
  · refine Does.of_answer rfl fun t ht => ?_
    rw [ht.lane_eq, ht.axes]
    exact laneSelfTest_lane (s := s0.at τ) hn hd pass

/-! ### Supervision of an axis -/

theorem State.enterRecord_quiet_standing (s : State) (code k inst safe : Nat) (path : String) (pre : Bool) :
    (s.enterRecord code k inst safe path pre).quiet =
      ({ s with standing := (s.enterRecord code k inst safe path pre).standing } : State).quiet := by
  unfold State.enterRecord State.stand
  extract_lets s1 s2
  have h2 : s2.quiet = s.quiet := State.report_quiet ..
  have hl (l : List Standing) : ({ s2 with standing := l } : State).quiet = ({ s with standing := l } : State).quiet :=
    congrArg (fun x : State => ({ x with standing := l } : State)) h2
  clear_value s2
  dsimp only
  split <;> exact hl _

/-- A fault whose row moves no axis is recorded on it, and stands. -/
theorem raiseOn_of_unchanged {code safe : Nat} {hard : Bool} (hrow : faultRow code hard = (safe, .unchanged)) (hsafe : safe < 3) (s : State)
    (k inst : Nat) (path : String) : (s.raiseOn code k inst path hard).stands code inst = true ∧
      ∃ l, (s.raiseOn code k inst path hard).quiet = ({ s with standing := l } : State).quiet := by
  unfold State.raiseOn
  rw [hrow]
  dsimp -zeta only
  extract_lets t s1 meets s2 before s3 s4
  have h2 : s2 = s.enterRecord code k inst safe path false := rfl
  have h3 : s3.quiet = s2.quiet ∧ s3.standing = s2.standing := by
    simp only [s3]
    unfold State.applySafe
    dsimp only
    rw [if_neg (by omega), if_neg (by omega)]
    split <;> exact ⟨rfl, rfl⟩
  have h4 : s4 = s3 := ite_self _
  refine ⟨?_, s2.standing, ?_⟩
  · rw [stands_congr (State.markLatched_standing ..), h4, stands_congr h3.2, h2]
    exact enterRecord_stands ..
  · rw [State.markLatched_quiet, h4, h3.1, h2]
    exact s.enterRecord_quiet_standing code k inst safe path false

/-- At the end of a stop or its begin HOUSE_SILENT stays while the house is silent. -/
theorem State.moveStopping_standing {s : State} {k : Nat} (hp : s.noPair = true) (ht : (s.ax k).hearth.takenAt + 5000000 < s.now) :
    (s.moveAxis k .stopping).standing = s.standing := by
  unfold State.moveAxis
  extract_lets a a1 a2 _ a3 _ a4 a5 s1 s2
  have h1 : a1.hearth.takenAt = a.hearth.takenAt := by
    simp only [a1]
    split <;> rfl
  have hax : (s1.ax k).st = .stopping ∧ (s1.ax k).hearth.takenAt = (s.ax k).hearth.takenAt := by
    simp only [s1, State.ax_setAx_same]
    exact ⟨trivial, h1⟩
  have hq : s2.quiet = s1.quiet := (State.syncProc_quiet ..).trans rfl
  have hn := (s2.notify_quiet 1 0 k (leBytes 1 a.st.code ++ leBytes 1 AxState.stopping.code ++ leBytes 2 (s2.parN P.axisFault k))).trans hq
  have hs1 : s1.standing = s.standing ∧ s1.noPair = s.noPair ∧ s1.now = s.now := ⟨rfl, rfl, rfl⟩
  generalize s2.notify 1 0 k (leBytes 1 a.st.code ++ leBytes 1 AxState.stopping.code ++ leBytes 2 (s2.parN P.axisFault k)) = z at hn
  clear_value s2 s1
  have hz : z.ax k = s1.ax k := (congrArg (fun x : State => x.ax k) hn :)
  have hzs : z.standing = s.standing := (congrArg State.standing hn :).trans hs1.1
  have hcond : (z.switching k && z.noPair && decide ((z.ax k).hearth.takenAt + 5000000 < z.now)) = true := by
    have hp' : z.noPair = true := (congrArg State.noPair hn :).trans (hs1.2.1.trans hp)
    have hnow : z.now = s.now := (congrArg State.now hn :).trans hs1.2.2
    simp [State.switching, hz, hax, hp', hnow, ht]
  unfold State.silentEnds
  rw [if_pos hcond]
  exact hzs

theorem State.beginStop_standing {s : State} {k : Nat} (hp : s.noPair = true) (ht : (s.ax k).hearth.takenAt + 5000000 < s.now) (kind : StopKind)
    (fin : StopEnd) : (s.beginStop k kind fin).standing = s.standing := by
  unfold State.beginStop
  extract_lets s1
  have h1 : s1.noPair = true ∧ s1.now = s.now ∧ s1.standing = s.standing := ⟨hp, rfl, rfl⟩
  have hax : (s1.ax k).hearth.takenAt = (s.ax k).hearth.takenAt := by
    simp only [s1, State.ax_modAx_same]
  clear_value s1
  split
  · exact h1.2.2
  · exact (State.moveStopping_standing h1.1 (by rw [hax, h1.2.1]; exact ht)).trans h1.2.2

/-- A house silent for 5 ms: the fault stands on the axis, which remembers the torque it had. -/
theorem houseSilent_of_silent {s : State} {k : Nat} (hk : k < 4) (hsw : s.switching k = true) (hfree : s.freeTurn s.now k = true)
    (hp : s.noPair = true) (ht : (s.ax k).hearth.takenAt + 5000000 < s.now) (hs : (s.ax k).hearth.silentTau = none) :
    (houseSilent k s).stands 0x0206 k = true ∧ ((houseSilent k s).ax k).hearth.silentTau.isSome = true := by
  unfold houseSilent
  extract_lets a s1 t s2 s3
  rw [if_pos ⟨hk, hsw, hp, ht, hs⟩]
  obtain ⟨hstands, l, hq⟩ := raiseOn_of_unchanged (hard := true) (show faultRow 0x0206 true = (2, .unchanged) from rfl) (by decide) s k k "CTL/HOUSE"
  have hq1 : s1.quiet = ({ s with standing := l } : State).quiet := hq
  have h1 : s1.stands 0x0206 k = true := hstands
  clear_value s1
  have hax : s1.ax k = s.ax k := (congrArg (fun x : State => x.ax k) hq1 :)
  have hnow : s1.now = s.now := (congrArg State.now hq1 :)
  have hp1 : s1.noPair = true := (congrArg State.noPair hq1 :).trans hp
  have hfree1 : s1.freeTurn s1.now k = true := by
    unfold State.freeTurn at *
    rw [hax, hnow]
    exact hfree
  have hx := State.arb_of_freeTurn hfree1 4
  have ht2 : t.2 = true := congrArg Prod.snd hx
  rw [if_neg (not_not_intro ht2)]
  have h2 : s2.standing = s1.standing ∧ s2.noPair = true ∧ s2.now = s.now ∧ (s2.ax k).hearth.takenAt = (s.ax k).hearth.takenAt := by
    simp only [s2, t, hx, State.ax_setAx_same, State.setAx_standing]
    exact ⟨trivial, hp1, hnow, congrArg (fun a : Axis => a.hearth.takenAt) hax⟩
  obtain ⟨h2s, h2p, h2n, h2t⟩ := h2
  clear_value s2
  have h3 : s3.standing = s1.standing := by
    simp only [s3]
    split
    · exact h2s
    · refine (State.beginStop_standing h2p ?_ _ _).trans h2s
      rw [h2n, h2t]
      exact ht
  refine ⟨(stands_congr h3 ..).trans h1, ?_⟩
  rw [State.ax_modAx_same]
  rfl

theorem axisSupervision : Parts.AxisSupervision := by
  intro s0 τ k s hk hsw hfree
  have hn : τ ≤ (s0.at τ).now := Nat.le_max_right ..
  refine ⟨fun hp ht hs => ?_, fun t0 hb ht => ?_⟩
  · obtain ⟨h1, h2⟩ := houseSilent_of_silent (s := s0.at τ) hk hsw (State.at_freeTurn hfree) hp (lt_of_lt_of_le ht hn) hs
    refine Does.of_answer rfl fun t ht' => ?_
    rw [State.Stands, ht'.stands_eq, ht'.ax_eq]
    exact ⟨h1, h2⟩
  · have hx : bridgeImbalance k (s0.at τ) = if k < 4 ∧ (s0.at τ).switching k = true ∧ t0 + 10000000 ≤ (s0.at τ).now ∧ ¬(s0.at τ).stands 0x0204 k = true
        then (s0.at τ).raiseOn 0x0204 k k ("CTL/HEARTH/" ++ dec ((s0.at τ).laneOf k)) else s0.at τ := by
      unfold bridgeImbalance
      rw [show ((s0.at τ).ax k).hearth.balSince = some t0 from hb]
    refine Does.of_answer (congrArg (answer s0) hx) fun t ht' => ?_
    rw [State.Stands, ht'.stands_eq]
    split
    · exact raiseOn_stands_of_freeTurn (State.at_freeTurn hfree) _ _ _ _ (by decide)
    · next h =>
      by_contra hs
      exact h ⟨hk, hsw, ht.trans hn, hs⟩

/-- Settles O11. -/
theorem lanesAndAxes : Obligations.LanesAndAxes := ⟨laneFaults, axisSupervision⟩

end Sys2Proof.Machine
end

section
/-!
SUPPORT. What holds through the raising of a fault and its reaction: a property of the state that speaks of nothing a fault, a stop, a
hold-off or a message changes, and of the bridges only what a stopped lane leaves of them.
-/
namespace Sys2Proof.Machine

/-- What a fault and its reaction keep of an axis. -/
def Axis.kept (a : Axis) : EcPin × Nat × Int × SetSet := (a.ec, a.speed.tickAt, a.speed.setpoint, a.hearth.taken)

/-- The parameters a fault's reaction writes. -/
def faultPars : List Par := [P.posStatus, P.coldFlags, P.fgState, P.safeStateLast, P.axisFault]

theorem posStatus_mem : P.posStatus ∈ faultPars := .head _
theorem coldFlags_mem : P.coldFlags ∈ faultPars := .tail _ (.head _)
theorem fgState_mem : P.fgState ∈ faultPars := .tail _ (.tail _ (.head _))
theorem safeStateLast_mem : P.safeStateLast ∈ faultPars := .tail _ (.tail _ (.tail _ (.head _)))
theorem axisFault_mem : P.axisFault ∈ faultPars := .tail _ (.tail _ (.tail _ (.tail _ (.head _))))

/-- A property that nothing of a fault's reaction can end. -/
structure RaiseSafe (p : State → Prop) : Prop where
  setPar : ∀ {s : State} (q : Par) (v : Int) (i : Nat), q ∈ faultPars → p s → p (s.setPar q v i)
  notify : ∀ {s : State} (cls pos subj : Nat) (data : Bytes), p s → p (s.notify cls pos subj data)
  report : ∀ {s : State} (code subj safe : Nat) (path : String), p s → p (s.report code subj safe path)
  endOp : ∀ {s : State} (opcode target status : Nat), p s → p (s.endOp opcode target status)
  raiseLine : ∀ {s : State} (k : Nat), p s → p (s.raiseLine k)
  markLatched : ∀ {s : State} (b : Bool), p s → p (s.markLatched b)
  syncProc : ∀ {s : State} (k : Nat), p s → p (s.syncProc k)
  unstand : ∀ {s : State} (f : Standing), p s → p (s.unstand f)
  ax : ∀ {s : State} (k : Nat) (a : Axis), a.kept = (s.ax k).kept → p s → p (s.setAx k a)
  lanes : ∀ {s : State} x, p s → p { s with lanes := x }
  chans : ∀ {s : State} x, p s → p { s with chans := x }
  cells : ∀ {s : State} x, p s → p { s with cells := x }
  cellar : ∀ {s : State} x, p s → p { s with cellar := x }
  standing : ∀ {s : State} x, p s → p { s with standing := x }
  stopped : ∀ {s : State} b, p s → p (s.setBridge b { s.bridge b with convAt := s.now, pred := [0, 0, 0] })

/-- A property of the quiet part of the state, of the part a fault's reaction leaves. -/
structure QuietSafe (p : State → Prop) : Prop where
  quiet : ∀ {s t : State}, t.quiet = s.quiet → p s → p t
  ax : ∀ {s : State} (k : Nat) (a : Axis), a.kept = (s.ax k).kept → p s → p (s.setAx k a)
  lanes : ∀ {s : State} x, p s → p { s with lanes := x }
  chans : ∀ {s : State} x, p s → p { s with chans := x }
  cells : ∀ {s : State} x, p s → p { s with cells := x }
  cellar : ∀ {s : State} x, p s → p { s with cellar := x }
  standing : ∀ {s : State} x, p s → p { s with standing := x }
  stopped : ∀ {s : State} b, p s → p (s.setBridge b { s.bridge b with convAt := s.now, pred := [0, 0, 0] })

theorem QuietSafe.raise {p : State → Prop} (hp : QuietSafe p) : RaiseSafe p where
  setPar q v i _ h := hp.quiet (State.setPar_quiet _ q v i 0) h
  notify _ _ _ _ h := hp.quiet (State.notify_quiet ..) h
  report _ _ _ _ h := hp.quiet (State.report_quiet ..) h
  endOp _ _ _ h := hp.quiet (State.endOp_quiet ..) h
  raiseLine _ h := hp.quiet (State.raiseLine_quiet ..) h
  markLatched _ h := hp.quiet (State.markLatched_quiet ..) h
  syncProc _ h := hp.quiet (State.syncProc_quiet ..) h
  unstand f h := hp.quiet (State.unstand_quiet _ f) (hp.standing _ h)
  ax := hp.ax
  lanes := hp.lanes
  chans := hp.chans
  cells := hp.cells
  cellar := hp.cellar
  standing := hp.standing
  stopped := hp.stopped

theorem QuietSafe.setPar {p : State → Prop} (hp : QuietSafe p) {s : State} (q : Par) (v : Int) (i j : Nat) (h : p s) : p (s.setPar q v i j) :=
  hp.quiet (State.setPar_quiet _ q v i j) h

theorem QuietSafe.setBit {p : State → Prop} (hp : QuietSafe p) {s : State} (q : Par) (m : Nat) (b : Bool) (i j : Nat) (h : p s) :
    p (s.setBit q m b i j) := hp.setPar _ _ _ _ h

theorem foldl_holds {α : Type} {p : State → Prop} {f : State → α → State} (hf : ∀ s x, p s → p (f s x)) (l : List α) {s : State} (h : p s) :
    p (l.foldl f s) := by
  induction l generalizing s with
  | nil => exact h
  | cons x l ih => exact ih (hf s x h)

theorem each_holds {p : State → Prop} {f : Nat → State → State} (hf : ∀ k s, p s → p (f k s)) (l : List Nat) {s : State} (h : p s) :
    p (each l s f) := foldl_holds (fun s k => hf k s) l h

theorem ite_holds {p : State → Prop} {c : Prop} [Decidable c] {a b : State} (ha : p a) (hb : p b) : p (if c then a else b) := by
  split
  · exact ha
  · exact hb

section
variable {p : State → Prop} (hp : RaiseSafe p)
include hp

theorem RaiseSafe.putChan {s : State} (c : Nat) (x : Chan) (h : p s) : p (s.putChan c x) := hp.chans _ h

theorem RaiseSafe.setBit {s : State} (q : Par) (m : Nat) (b : Bool) (i : Nat) (hq : q ∈ faultPars) (h : p s) :
    p (s.setBit q m b i) := hp.setPar q _ i hq h

theorem RaiseSafe.softOff {s : State} (c : Nat) (latch : Bool) (h : p s) : p (s.softOff c latch) := by
  unfold State.softOff
  dsimp only
  (repeat' split) <;> exact hp.chans _ h

theorem RaiseSafe.turnOff {s : State} (c : Nat) (h : p s) : p (s.turnOff c) := by
  unfold State.turnOff
  dsimp only
  split <;> exact hp.chans _ h

theorem RaiseSafe.turnOn {s : State} (c : Nat) (h : p s) : p (s.turnOn c) := by
  unfold State.turnOn
  dsimp only
  split
  · exact h
  · split
    · exact h
    · (repeat' split) <;> exact hp.chans _ h

theorem RaiseSafe.axisOff {s : State} (k : Nat) (h : p s) : p (s.axisOff k) := each_holds (fun c _ => hp.turnOff c) _ h

theorem RaiseSafe.axisSoft {s : State} (k : Nat) (h : p s) : p (s.axisSoft k) := each_holds (fun c _ => hp.softOff c _) _ h

theorem RaiseSafe.stopLane {s : State} (k : Nat) (h : p s) : p (s.stopLane k) := by
  unfold State.stopLane
  extract_lets n l s1 s2 s3 s4
  have h2 : p s2 := hp.setBit _ _ _ _ posStatus_mem (hp.setBit _ _ _ _ posStatus_mem (hp.lanes _ h))
  have h4 : p s4 := foldl_holds (fun s b => hp.stopped b) _ (hp.ax k _ rfl h2)
  exact ite_holds (hp.setPar _ _ _ fgState_mem h4) h4

theorem RaiseSafe.endEpisode {s : State} (k : Nat) (f : Axis → Axis) (hf : ∀ a, (f a).kept = a.kept) (h : p s) : p (s.endEpisode k f) :=
  hp.setBit _ _ _ _ posStatus_mem (hp.ax k _ (hf (s.ax k).endProc) h)

theorem RaiseSafe.unstandCode {s : State} (code inst : Nat) (h : p s) : p (s.unstandCode code inst) :=
  foldl_holds (fun _ f h => hp.unstand f h) _ h

theorem RaiseSafe.silentEnds {s : State} (k : Nat) (h : p s) : p (s.silentEnds k) := by
  unfold State.silentEnds
  exact ite_holds h (hp.unstandCode _ _ h)

theorem RaiseSafe.moveAxis {s : State} (k : Nat) (st : AxState) (h : p s) : p (s.moveAxis k st) := by
  unfold State.moveAxis
  extract_lets a a1 a2 _ a3 _ a4 a5 s1 s2
  have ha : a5.kept = (s.ax k).kept := by
    have h1 : a1.kept = a.kept := by unfold a1; split <;> rfl
    have h2 : a2.kept = a1.kept := by unfold a2; split <;> rfl
    have h3 : a3.kept = a2.kept := by unfold a3; split <;> rfl
    have h4 : a4.kept = a3.kept := by unfold a4; split <;> rfl
    have h5 : a5.kept = a4.kept := by unfold a5; split <;> rfl
    exact h5.trans (h4.trans (h3.trans (h2.trans h1)))
  have h1 : p s1 := hp.ax k _ ha h
  have h2 : p s2 := hp.syncProc _ (ite_holds (hp.setBit _ _ _ _ coldFlags_mem h1) h1)
  exact hp.silentEnds k (hp.notify _ _ _ _ h2)

theorem RaiseSafe.dropProc {s : State} (k : Nat) (h : p s) : p (s.dropProc k) :=
  hp.syncProc _ (hp.endEpisode k _ (fun _ => rfl) (hp.stopLane k (hp.axisOff k h)))

theorem RaiseSafe.endPrecheckCells {s : State} (k : Nat) (h : p s) : p (s.endPrecheckCells k) := by
  unfold State.endPrecheckCells State.testCurrent
  split
  · exact h
  · dsimp only
    split
    · exact hp.ax k _ rfl (hp.cells _ (hp.cellar _ h))
    · exact hp.ax k _ rfl (hp.cellar _ h)

theorem RaiseSafe.endPrecheck {s : State} (k status : Nat) (h : p s) : p (s.endPrecheck k status) :=
  hp.endOp _ _ _ (hp.endPrecheckCells k h)

theorem RaiseSafe.enterSto {s : State} (k : Nat) (h : p s) : p (s.enterSto k) := by
  unfold State.enterSto
  extract_lets st s1 s2
  have h1 : p s1 := hp.endPrecheck k _ h
  have h2 : p s2 := ite_holds (hp.stopLane k h1) h1
  exact ite_holds h (hp.moveAxis k _ (hp.endEpisode k _ (fun _ => rfl) h2))

theorem RaiseSafe.holdCells {s : State} (cause : Nat) (cells : List Nat) (h : p s) : p (s.holdCells cause cells) := by
  unfold State.holdCells
  extract_lets fresh m _ s1 s2
  have h2 : p s2 := each_holds (fun g s h => hp.softOff _ _ (hp.softOff _ _ h)) _ (hp.cellar _ h)
  exact ite_holds h2 (hp.raiseLine _ h2)

theorem RaiseSafe.ss1Chopper {s : State} (h : p s) : p s.ss1Chopper := ite_holds (hp.holdCells 1 [12] h) h

theorem RaiseSafe.heldAxis {s : State} (k : Nat) (h : p s) : p (s.heldAxis k) := by
  unfold State.heldAxis
  dsimp only
  exact ite_holds (ite_holds (hp.enterSto k (hp.holdCells 1 _ h)) (ite_holds (hp.ax k _ rfl h) h)) h

theorem RaiseSafe.holdOff {s : State} (cause : Nat) (cells : List Nat) (h : p s) : p (s.holdOff cause cells) :=
  hp.ss1Chopper (each_holds (fun k _ => hp.heldAxis k) _ (hp.holdCells cause cells h))

theorem RaiseSafe.faultState {s : State} (k : Nat) (st : AxState) (h : p s) : p (s.faultState k st) := by
  unfold State.faultState
  extract_lets wasPre s1 s2 s3 s4 s5
  have h1 : p s1 := ite_holds (hp.stopLane k h) h
  have h2 : p s2 := ite_holds (hp.axisOff k h1) h1
  have h3 : p s3 := ite_holds (hp.endPrecheckCells k h2) h2
  have h4 : p s4 := hp.moveAxis k st (hp.endEpisode k _ (fun _ => rfl) h3)
  have h5 : p s5 := ite_holds (hp.endOp _ _ _ h4) h4
  exact ite_holds (hp.ss1Chopper (hp.enterSto k (hp.holdCells 1 _ h5))) h5

theorem RaiseSafe.enterFault {s : State} (k : Nat) (retry counted pre : Bool) (h : p s) : p (s.enterFault k retry counted pre) := by
  unfold State.enterFault
  extract_lets a joins latch s1
  have h1 : p s1 := hp.ax k _ (by dsimp only; split <;> rfl) h
  split
  · exact h
  · exact h
  · exact h
  · exact ite_holds h (hp.faultState k _ h)
  · exact ite_holds (hp.faultState k _ h) (hp.faultState k _ h1)

theorem RaiseSafe.quickFault {s : State} (k : Nat) (retry counted : Bool) (h : p s) : p (s.quickFault k retry counted) := by
  unfold State.quickFault
  extract_lets s1 a
  have h1 : p s1 := ite_holds (hp.dropProc k h) h
  refine ite_holds (hp.enterFault k _ _ _ h1) (ite_holds ?_ (hp.moveAxis k _ (hp.ax k _ rfl h1)))
  split
  · exact h1
  · exact h1
  · exact ite_holds (hp.ax k _ rfl h1) (hp.ax k _ rfl h1)
  · exact hp.ax k _ rfl h1

theorem RaiseSafe.react {s : State} (k : Nat) (r : React) (pre : Bool) (h : p s) : p (s.react k r pre) := by
  unfold State.react
  refine ite_holds (hp.enterFault k _ _ _ h) ?_
  cases r with
  | unchanged => exact h
  | latch | retry | retryFree => exact hp.enterFault k _ _ _ h
  | qLatch | qRetry | qRetryFree => exact hp.quickFault k _ _ h

theorem RaiseSafe.arbReact {s : State} (k : Nat) (r : React) (pre : Bool) (h : p s) : p (s.arbReact k r pre).1 := by
  unfold State.arbReact State.arb
  dsimp only
  (repeat' split) <;> first | exact h | exact hp.ax k _ rfl h

theorem RaiseSafe.applySafe {s : State} (k safe code : Nat) (h : p s) : p (s.applySafe k safe code) := by
  unfold State.applySafe
  extract_lets a s1 s2 s3
  have h1 : p s1 := ite_holds h (hp.setPar _ _ _ safeStateLast_mem h)
  have h2 : p s2 := each_holds (fun c _ => hp.turnOff c) _ h1
  have h3 : p s3 := each_holds (fun c _ => hp.turnOn c) _ h2
  exact ite_holds (hp.ax k _ rfl (hp.axisSoft k h1)) (ite_holds (ite_holds h1 (hp.ax k _ rfl h3)) h1)

theorem RaiseSafe.stand {s : State} (f : Standing) (h : p s) : p (s.stand f) := by
  unfold State.stand
  dsimp only
  exact ite_holds (hp.standing _ h) (hp.standing _ h)

theorem RaiseSafe.enterRecord {s : State} (code k inst safe : Nat) (path : String) (pre : Bool) (h : p s) :
    p (s.enterRecord code k inst safe path pre) :=
  hp.stand _ (hp.setPar _ _ _ axisFault_mem (hp.report _ _ _ _ h))

theorem RaiseSafe.raiseModule {s : State} (code inst : Nat) (path : String) (h : p s) : p (s.raiseModule code inst path) :=
  hp.stand _ (hp.report _ _ _ _ h)

theorem RaiseSafe.raiseOn {s : State} (code k inst : Nat) (path : String) (hard pre : Bool) (h : p s) : p (s.raiseOn code k inst path hard pre) := by
  unfold State.raiseOn
  obtain ⟨safe, r⟩ := faultRow code hard
  dsimp -zeta only
  extract_lets t s1 meets s2 before s3 s4
  have h1 : p s1 := hp.arbReact k r pre h
  have h2 : p s2 := ite_holds (hp.enterRecord _ _ _ _ _ _ h1) h1
  have h3 : p s3 := hp.applySafe k safe code h2
  have h4 : p s4 := ite_holds (hp.react k r pre h3) h3
  exact hp.markLatched _ h4

theorem RaiseSafe.raiseAll {s : State} (code : Nat) (ks : List Nat) (inst : Nat) (path : String) (hard : Bool) (h : p s) :
    p (s.raiseAll code ks inst path hard) := by
  unfold State.raiseAll
  split
  · exact hp.stand _ (hp.report _ _ _ _ h)
  · exact foldl_holds (fun s k => hp.raiseOn code k inst path hard false) _ h

theorem RaiseSafe.senseFault {s : State} (code b : Nat) (hard : Bool) (h : p s) : p (s.senseFault code b hard) :=
  ite_holds h (hp.raiseAll _ _ _ _ _ h)

theorem RaiseSafe.beginStop {s : State} (k : Nat) (kind : StopKind) (fin : StopEnd) (h : p s) : p (s.beginStop k kind fin) := by
  unfold State.beginStop
  exact ite_holds (hp.ax k _ rfl h) (hp.moveAxis k _ (hp.ax k _ rfl h))
end

end Sys2Proof.Machine
end

section
/-!
THEOREMS. Current and voltage sensing: overcurrent, the supervision of the senses, the reference check, and the conversions outside the
control period.
-/
namespace Sys2Proof.Machine

/-! ### A fault of a bridge's sense -/

theorem State.serving4_lt {s : State} {f : Nat → Bool} {k : Nat} (h : s.serving4 f = some k) : k < 4 := by
  unfold State.serving4 at h
  split at h
  · next j hj =>
    cases h
    exact List.mem_range.mp (List.mem_of_find?_eq_some hj)
  · exact List.mem_range.mp (List.mem_of_find?_eq_some h)

/-- What a stopped lane leaves of a bridge stays through the raising of any fault. -/
theorem QuietSafe.ofBridge {β : Type} {g : Bridge → β} (hg : ∀ (x : Bridge) (t : Nat), g { x with convAt := t, pred := [0, 0, 0] } = g x) (b : Nat) (v : β) :
    QuietSafe fun s => g (s.bridge b) = v where
  quiet h hs := (congrArg (fun x : State => g (x.bridge b)) h :).trans hs
  ax _ _ _ hs := hs
  lanes _ hs := hs
  chans _ hs := hs
  cells _ hs := hs
  cellar _ hs := hs
  standing _ hs := hs
  stopped {s} c hs := by
    obtain rfl | hne := eq_or_ne c b
    · rw [State.bridge_setBridge_same, hg]
      exact hs
    · rw [State.bridge_setBridge_other _ _ _ _ hne]
      exact hs

theorem raiseAll_stands_of_row {s : State} {code : Nat} {hard : Bool} (hc : code ≠ 0x0206) (hrow : (faultRow code hard).2.rank = 0 ∨
    (faultRow code hard).2.rank = 2) (ks : List Nat) (inst : Nat) (path : String) : (s.raiseAll code ks inst path hard).stands code inst = true := by
  refine raiseAll_stands _ _ _ _ _ _ hc fun k _ => ?_
  obtain h | h := hrow
  · simp [State.arbReact, h]
  · simp [h]

theorem senseFault_stands_of_row {s : State} {code : Nat} {hard : Bool} (hc : code ≠ 0x0206) (hrow : (faultRow code hard).2.rank = 0 ∨
    (faultRow code hard).2.rank = 2) (b : Nat) : (s.senseFault code b hard).stands code b = true := by
  unfold State.senseFault
  split
  · assumption
  · exact raiseAll_stands_of_row hc hrow _ _ _

theorem senseFault_stands_of_freeTurn {s : State} (hfree : ∀ k, k < 4 → s.freeTurn s.now k = true) {code : Nat} (hc : code ≠ 0x0206) (b : Nat)
    (hard : Bool) : (s.senseFault code b hard).stands code b = true := by
  unfold State.senseFault
  split
  · assumption
  · refine raiseAll_stands _ _ _ _ _ _ hc fun k hk => ?_
    have hk4 : k < 4 := by
      cases h : s.axisOfBridge b with
      | none => simp [h] at hk
      | some j =>
        simp only [h, Option.toList, List.head?, Option.mem_some_iff] at hk
        exact hk ▸ State.serving4_lt h
    rw [State.arbReact_of_freeTurn (hfree k hk4)]
    rfl

theorem phaseOvercurrent : Parts.PhaseOvercurrent := by
  intro s0 τ b raw s hb
  have hx : phaseOc b raw (s0.at τ) =
      (let level := (s0.at τ).ocDetect b raw
      let y := ((s0.at τ).setBridge b { s.bridge b with oc := level, ocAt := if level ∧ ¬(s.bridge b).oc then (s0.at τ).now else (s.bridge b).ocAt }).setBit
        P.senseStatus 0 level b
      if level ∧ ¬(s.bridge b).oc then y.senseFault 0x0301 b else y) := if_neg (by omega)
  refine ⟨fun hl ho hfree => ?_, fun hl => ?_⟩
  · have hl' : (s0.at τ).ocDetect b raw = true := hl
    simp only [hl', ho, Bool.false_eq_true, not_false_eq_true, and_self, if_true] at hx
    refine Does.of_answer (congrArg (answer s0) hx) fun t ht => ?_
    rw [State.Stands, ht.stands_eq, ht.bridge_eq]
    refine ⟨senseFault_stands_of_freeTurn (fun k hk => ?_) (by decide) b true, ?_⟩
    · exact State.at_freeTurn (hfree k hk)
    · exact (QuietSafe.ofBridge (g := Bridge.oc) (fun _ _ => rfl) b true).raise.senseFault _ _ _ (congrArg Bridge.oc (State.bridge_setBridge_same ..))
  · have hl' : (s0.at τ).ocDetect b raw = false := hl
    simp only [hl', Bool.false_eq_true, false_and, if_false] at hx
    refine Does.of_answer (congrArg (answer s0) hx) fun t ht => ?_
    rw [ht.bridge_eq, ht.axes, ht.standing, ht.cellar]
    exact ⟨congrArg Bridge.oc (State.bridge_setBridge_same ..), rfl, rfl, rfl⟩

theorem bit_withBit_false (v : Int) (k : Nat) : bit (withBit v k false) k = false := by
  unfold withBit
  cases h : bit v k with
  | false => simp [h]
  | true =>
    have hv := nonneg_of_bit h
    obtain ⟨n, rfl⟩ := Int.eq_ofNat_of_zero_le hv
    have hn : n / 2 ^ k % 2 = 1 := by simpa [bit] using h
    have hle : 2 ^ k ≤ n := by
      by_contra hlt
      rw [Nat.div_eq_of_lt (by omega)] at hn
      omega
    have hm : (n - 2 ^ k + 2 ^ k) / 2 ^ k = (n - 2 ^ k) / 2 ^ k + 1 := Nat.add_div_right _ (by positivity)
    rw [Nat.sub_add_cancel hle] at hm
    have hz : (n - 2 ^ k) / 2 ^ k % 2 ≠ 1 := by omega
    have he : ((n : Int) - 2 ^ k).toNat = n - 2 ^ k := by
      have hc : ((2 ^ k : Nat) : Int) = 2 ^ k := by push_cast; rfl
      omega
    simpa [bit, he, h] using hz

theorem senseFaults : Parts.SenseFaults := by
  intro s0 τ s
  refine ⟨fun d wave hd hm ha => ?_, fun d wave hd hm ha => ?_, fun b hb hr => ?_, fun b x hb hr => ?_, fun l hl hr => ?_⟩
  · have hcond : ¬(12 ≤ d ∨ (s0.at τ).par P.csMode (d / 3) ≠ 1) := by
      rw [not_or, not_not]
      exact ⟨by omega, hm⟩
    have ha' : (s0.at τ).sdAlive wave = false := ha
    refine Does.of_answer rfl fun t ht => ?_
    rw [State.Stands, ht.stands_eq]
    unfold sdStream
    dsimp only
    rw [if_neg hcond, ha']
    have hrow (hard : Bool) : (faultRow 0x0302 hard).2.rank = 0 ∨ (faultRow 0x0302 hard).2.rank = 2 := by cases hard <;> decide
    exact raiseAll_stands_of_row (by decide) (hrow _) _ _ _
  · have hcond : ¬(12 ≤ d ∨ (s0.at τ).par P.csMode (d / 3) ≠ 1) := by
      rw [not_or, not_not]
      exact ⟨by omega, hm⟩
    have ha' : (s0.at τ).sdAlive wave = true := ha
    refine Does.of_answer rfl fun t ht => ?_
    rw [ht.par_eq, ht.axes]
    unfold sdStream
    dsimp only
    rw [if_neg hcond, ha']
    have hb : bit (((s0.at τ).setBit P.sdFaults d false).par P.sdFaults) d = false :=
      (congrArg (bit · d) (State.par_setPar_same ..)).trans (bit_withBit_false _ d)
    simp only [if_true, Bool.not_true]
    split <;> exact ⟨hb, rfl⟩
  · have hx : senseSum b (s0.at τ) = (s0.at τ).senseFault 0x0303 b := if_pos ⟨hb, hr⟩
    refine Does.of_answer (congrArg (answer s0) hx) fun t ht => ?_
    rw [State.Stands, ht.stands_eq]
    exact senseFault_stands_of_row (by decide) (.inr rfl) b
  · refine Does.of_answer (congrArg (answer s0) (if_pos ⟨hb, hr⟩)) fun t ht => ?_
    rw [State.Stands, ht.stands_eq]
    exact senseFault_stands_of_row (by decide) (.inl rfl) b
  · refine Does.of_answer rfl fun t ht => ?_
    rw [State.Stands, ht.stands_eq]
    unfold vdcDisagree
    split
    · exact raiseAll_stands_of_row (by decide) (.inl rfl) _ _ _
    · next h =>
      by_contra hs
      exact h ⟨hl, hr, hs⟩

theorem senseReferenceCheck : Parts.SenseReferenceCheck := by
  intro s0 τ b k cur volt s hb hk hnow hrun hfirst hper href hτ
  have hn : (s0.at τ).now = τ := max_eq_right hnow
  have hcond : ¬(4 ≤ b ∨ ¬((s0.at τ).lane ((s0.at τ).laneOf k)).running = true ∨ ((s0.at τ).lane ((s0.at τ).laneOf k)).first = true ∨
      ((s0.at τ).lane ((s0.at τ).laneOf k)).periodNo % 64 ≠ 0 ∨
      ((s0.at τ).bridge b).refPeriods = ((s0.at τ).lane ((s0.at τ).laneOf k)).periodNo + 1 ∨
      ¬((s0.at τ).now = (((s0.at τ).lane ((s0.at τ).laneOf k)).seX + 20 * (s0.at τ).cycOf k) / 32 ∨
        (s0.at τ).now = (((s0.at τ).lane ((s0.at τ).laneOf k)).seX + 20 * (s0.at τ).cycOf k + 31) / 32)) := by
    rw [hn]
    rintro (h | h | h | h | h | h)
    · omega
    · exact h hrun
    · exact Bool.eq_false_iff.mp hfirst h
    · exact h hper
    · exact href h
    · exact h (.inl hτ)
  have hk' : (s0.at τ).axisOfBridge b = some k := hk
  refine ⟨fun hv hc => ?_, fun hv hr => ?_⟩
  · have hcur (x : Nat) : cur.getD x 16384 = 16384 := by
      rw [List.getD_eq_getElem?_getD]
      cases h : cur[x]? with
      | none => rfl
      | some c => exact hc c (List.mem_of_getElem? h)
    have hx : senseRefCheck b cur volt (s0.at τ) = (s0.at τ).setBridge b { s.bridge b with
        refRun := [0, 0, 0, 0], refPeriods := (s.lane (s.laneOf k)).periodNo + 1 } := by
      unfold senseRefCheck
      rw [hk']
      dsimp only
      rw [if_neg hcond]
      have hok : decide (33 < iabs (16384 - 16384)) = false := by decide
      have hvok : decide (33 < iabs (32768 - 32768)) = false := by decide
      simp only [hcur, hv, hok, hvok, Bool.and_false]
      rfl
    refine Does.of_answer (congrArg (answer s0) hx) fun t ht => ?_
    rw [ht.bridge_eq, ht.standing]
    exact ⟨State.bridge_setBridge_same .., rfl⟩
  · refine Does.of_answer rfl fun t ht => ?_
    rw [State.Stands, ht.stands_eq]
    unfold senseRefCheck
    rw [hk']
    dsimp -zeta only
    extract_lets l br at_ bad run s1
    rw [if_neg hcond]
    have hbad : decide (33 < iabs (volt - 32768)) = true := decide_eq_true hv
    have hmem : br.refRun.getD 3 0 + 1 ∈ run := by
      simp only [run, bad, hbad]
      exact List.mem_cons_of_mem _ (List.mem_cons_of_mem _ (List.mem_cons_of_mem _ List.mem_cons_self))
    have hany : (run.any fun n => decide (2 ≤ n)) = true := List.any_eq_true.mpr ⟨_, hmem, decide_eq_true (Nat.succ_le_succ hr)⟩
    rw [if_pos hany]
    exact senseFault_stands_of_row (by decide) (.inr rfl) b

/-! ### Conversions outside the control period -/

/-- A property that nothing of a conversion's stages can end either. -/
structure ConvSafe (p : State → Prop) : Prop extends QuietSafe p where
  links : ∀ {s : State} x, p s → p { s with links := x }
  service : ∀ {s : State} x, p s → p { s with service := x }
  fanner : ∀ {s : State} x, p s → p { s with fanner := x }
  calib : ∀ {s : State} b run trip, p s → p (s.setBridge b { s.bridge b with ofsRun := run, ofsTrip := trip })

section
variable {p : State → Prop} (hp : ConvSafe p)
include hp

theorem ConvSafe.calOffset {s : State} (b x : Nat) (code : Int) (h : p s) : p (s.calOffset b x code) := by
  unfold State.calOffset
  extract_lets br dev run trip s1 s2 e lim
  have h1 : p s1 := hp.calib b _ _ h
  have h2 : p s2 := ite_holds (hp.raise.unstandCode _ _ h1) h1
  exact ite_holds h (ite_holds h2 (hp.setPar _ _ _ _ h2))

theorem ConvSafe.calIdle {s : State} (b : Nat) (codes v : List Int) (vdc : Int) (h : p s) : p (s.calIdle b codes v vdc) :=
  ite_holds (foldl_holds (fun _ x => hp.calOffset b x _) _ h) h

theorem ConvSafe.foldRecal {s : State} (b : Nat) (h : p s) : p (s.foldRecal b) := by
  unfold State.foldRecal
  split
  · exact h
  · split
    · exact hp.quiet (State.endOp_quiet ..) (hp.service _ h)
    · refine hp.service _ (each_holds (fun x s h => ?_) _ h)
      exact hp.setPar _ _ _ _ (hp.setPar _ _ _ _ (hp.setPar _ _ _ _ (hp.setPar _ _ _ _ h)))

theorem ConvSafe.pulseReach {s : State} (b : Nat) (h : p s) : p (s.pulseReach b) := by
  unfold State.pulseReach
  split
  · exact h
  · refine ite_holds ?_ h
    unfold State.pulseOff
    split
    · exact h
    · exact hp.fanner _ (each_holds (fun c s => hp.raise.turnOff c) _ h)

theorem ConvSafe.linkSample {s : State} (b code : Nat) (h : p s) : p (s.linkSample b code) := by
  unfold State.linkSample
  dsimp -zeta only
  extract_lets k v l avg tau avg' m below l' s1
  have h1 : p s1 := hp.setPar _ _ _ _ (hp.setPar _ _ _ _ (hp.links _ h))
  exact ite_holds (hp.raise.unstandCode _ _ h1) h1

theorem ConvSafe.linkPeriod {s : State} (k : Nat) (h : p s) : p (s.linkPeriod k) := by
  unfold State.linkPeriod
  extract_lets l v rising run s1
  have h1 : p s1 := hp.links _ h
  refine ite_holds ?_ h1
  exact hp.raise.raiseAll _ _ _ _ _ (hp.setBit _ _ _ _ _ (hp.setBit _ _ _ _ _ (hp.links _ h1)))

theorem ConvSafe.chopCmd {s : State} (k : Nat) (on : Bool) (h : p s) : p (s.chopCmd k on) := by
  unfold State.chopCmd
  extract_lets l cell
  have hcell {s : State} (h : p s) : p (cell s) := ite_holds h (ite_holds (hp.raise.turnOn _ h) (hp.raise.turnOff _ h))
  exact ite_holds (hp.setBit _ _ _ _ _ (hcell (hp.links _ h))) (ite_holds (hcell h)
    (ite_holds (hp.setBit _ _ _ _ _ (hcell (hp.links _ h))) h))

theorem ConvSafe.chopControl {s : State} (k : Nat) (h : p s) : p (s.chopControl k) := by
  unfold State.chopControl
  exact ite_holds (hp.chopCmd k _ h) (ite_holds (hp.chopCmd k _ h) (ite_holds (hp.chopCmd k _ h) h))

theorem ConvSafe.linkOv {s : State} (k : Nat) (h : p s) : p (s.linkOv k) := by
  unfold State.linkOv
  exact ite_holds (ite_holds h (hp.raise.raiseAll _ _ _ _ _ h)) h

theorem ConvSafe.idleClear {s : State} (code inst : Nat) (h : p s) : p (s.idleClear code inst) := by
  unfold State.idleClear
  refine foldl_holds (fun s f h => ?_) _ h
  have hu : p (s.unstand f) := hp.quiet (s.unstand_quiet f) (hp.standing _ h)
  have hfree {s : State} (cs : List Nat) (h : p s) : p (s.freeChans cs) := each_holds (fun c s h => hp.chans _ h) cs h
  unfold State.freed State.clearAxis
  refine ite_holds (ite_holds (hp.ax _ _ rfl (hfree _ ?_)) hu) (hfree _ hu)
  exact foldl_holds (fun s f h => hp.quiet (s.unstand_quiet f) (hp.standing _ h)) _ hu

theorem ConvSafe.linkStage {s : State} (b code : Nat) (ends : Bool) (h : p s) : p (s.linkStage b code ends) := by
  unfold State.linkStage
  extract_lets k s1 s2
  have h1 : p s1 := hp.linkSample b code h
  have h2 : p s2 := ite_holds (hp.linkPeriod k h1) h1
  exact hp.idleClear _ _ (hp.idleClear _ _ (hp.linkOv k (hp.chopControl k h2)))
end

/-- The present time is t, and the bridge's last conversion was of it. -/
theorem convSafe_convAt (b t : Nat) : ConvSafe fun s => s.now = t ∧ (s.bridge b).convAt = t where
  quiet h hs := ⟨(congrArg State.now h :).trans hs.1, (congrArg (fun x : State => (x.bridge b).convAt) h :).trans hs.2⟩
  ax _ _ _ hs := hs
  lanes _ hs := hs
  chans _ hs := hs
  cells _ hs := hs
  cellar _ hs := hs
  standing _ hs := hs
  stopped {s} c hs := by
    refine ⟨hs.1, ?_⟩
    obtain rfl | hne := eq_or_ne c b
    · rw [State.bridge_setBridge_same]
      exact hs.1
    · rw [State.bridge_setBridge_other _ _ _ _ hne]
      exact hs.2
  links _ hs := hs
  service _ hs := hs
  fanner _ hs := hs
  calib {s} c _ _ hs := by
    refine ⟨hs.1, ?_⟩
    obtain rfl | hne := eq_or_ne c b
    · rw [State.bridge_setBridge_same]
      exact hs.2
    · rw [State.bridge_setBridge_other _ _ _ _ hne]
      exact hs.2

/-- A bridge that no axis has converts by itself, once 10 us have passed since its last conversion. -/
theorem selfTrigger_convAt {s : State} {b : Nat} (hb : b < 4) (hk : s.axisOfBridge b = none) (hc : (s.bridge b).convAt + 10000 ≤ s.now)
    (raw : List Int) (rawV : List Nat) : ((selfTrigger b raw rawV s).bridge b).convAt = s.now := by
  have hp := convSafe_convAt b s.now
  have hcond : ¬(4 ≤ b ∨ s.now < (s.bridge b).convAt + 10000) := by omega
  unfold selfTrigger
  rw [hk]
  extract_lets br runs codes i br1 s1 s2 s3 l lowest s4
  rw [if_neg hcond]
  have h1 : s1.now = s.now ∧ (s1.bridge b).convAt = s.now := ⟨rfl, by simp only [s1, State.bridge_setBridge_same]; rfl⟩
  have h2 : s2.now = s.now ∧ (s2.bridge b).convAt = s.now := hp.calIdle _ _ _ _ h1
  clear_value s2
  have h3 : s3.now = s.now ∧ (s3.bridge b).convAt = s.now := by
    have hy (y : State) (hy : y.now = s.now ∧ (y.bridge b).convAt = s.now) (k : Nat) : (y.ascTrack k).now = s.now ∧ ((y.ascTrack k).bridge b).convAt = s.now := hy
    simp only [s3]
    split
    · refine hy _ ?_ _
      split <;> exact h2
    · exact h2
  have h4 : s4.now = s.now ∧ (s4.bridge b).convAt = s.now := hp.pulseReach b (hp.foldRecal b h3)
  exact (hp.linkStage _ _ _ h4).2

/-! ### The carrier's peak -/

/-- A view that shows nothing of what the calibration of a bridge's senses changes. -/
structure CalBlind {β : Type} (g : State → β) : Prop extends SendBlind g where
  standing : ∀ (s : State) x, g { s with standing := x } = g s
  records : ∀ (s : State) x, g { s with faultRing := x } = g s
  bridges : ∀ (s : State) x, g { s with bridges := x } = g s
  ofsCorr : ∀ (s : State) v b x, b < 4 → x < 3 → g (s.setPar P.ofsCorr v b x) = g s
  vcal : ∀ (s : State) v b x, b < 4 → x < 3 → g (s.setPar P.vcal v b x) = g s

theorem calBlind_par {q : Par} {k l : Nat} (hg : SendBlind fun s => s.par q k l)
    (hcorr : ∀ b x, b < 4 → x < 3 → P.ofsCorr.pn b x ≠ q.pn k l) (hvcal : ∀ b x, b < 4 → x < 3 → P.vcal.pn b x ≠ q.pn k l) :
    CalBlind fun s => s.par q k l where
  toSendBlind := hg
  standing _ _ := rfl
  records _ _ := rfl
  bridges _ _ := rfl
  ofsCorr _ _ b x hb hx := State.par_setPar_other _ _ _ _ _ _ _ _ (hcorr b x hb hx)
  vcal _ _ b x hb hx := State.par_setPar_other _ _ _ _ _ _ _ _ (hvcal b x hb hx)

section
variable {β : Type} {g : State → β} (hg : CalBlind g)
include hg

theorem CalBlind.unstandCode (s : State) (code inst : Nat) : g (s.unstandCode code inst) = g s := by
  refine foldl_keeps g _ (fun s f => ?_) _ s
  unfold State.unstand State.recordClear
  refine (hg.toSendBlind.notify ..).trans ?_
  split
  · exact hg.standing ..
  · exact (hg.records ..).trans (hg.standing ..)

theorem CalBlind.calOffset (s : State) {b x : Nat} (hb : b < 4) (hx : x < 3) (code : Int) : g (s.calOffset b x code) = g s := by
  unfold State.calOffset
  extract_lets br dev run trip s1 s2 e lim
  have h1 : g s1 = g s := hg.bridges ..
  have h2 : g s2 = g s := ite_holds (p := fun y => g y = g s) ((hg.unstandCode ..).trans h1) h1
  exact ite_holds (p := fun y => g y = g s) rfl (ite_holds (p := fun y => g y = g s) h2 ((hg.ofsCorr _ _ _ _ hb hx).trans h2))

theorem CalBlind.calIdle (s : State) {b : Nat} (hb : b < 4) (codes v : List Int) (vdc : Int) : g (s.calIdle b codes v vdc) = g s := by
  unfold State.calIdle
  split
  · refine List.foldlRecOn (motive := fun y => g y = g s) _ _ rfl fun y hy x hx => ?_
    exact (hg.calOffset y hb (List.mem_range.mp hx) _).trans hy
  · rfl

theorem CalBlind.calVgain (s : State) {b x : Nat} (hb : b < 4) (hx : x < 3) (v vdc : Int) : g (s.calVgain b x v vdc) = g s := by
  unfold State.calVgain
  split
  · rfl
  · exact hg.vcal _ _ _ _ hb hx

theorem CalBlind.calPeak (s : State) {b : Nat} (hb : b < 4) (half : Nat) (w : Words) (codes : List Int) (rawV : List Nat) :
    g (s.calPeak b half w codes rawV) = g s := by
  unfold State.calPeak
  refine List.foldlRecOn (motive := fun y => g y = g s) _ _ rfl fun y hy x hx => ?_
  have hx3 : x < 3 := List.mem_range.mp hx
  dsimp only
  split
  · refine (hg.calVgain _ hb hx3 _ _).trans ?_
    split
    · exact (hg.calOffset y hb hx3 _).trans hy
    · exact hy
  · exact hy
end

theorem calBlind_links : CalBlind fun s => (s.now, s.links) where
  queues _ _ _ := rfl
  ring _ _ := rfl
  swarm _ _ := rfl
  sessions _ _ := rfl
  waiting _ _ := rfl
  ops _ _ := rfl
  boot _ _ := rfl
  overflow s q := (congrArg (fun x : State => (x.now, x.links)) (s.incPar_quiet P.qOverflow q) :)
  drops s := (congrArg (fun x : State => (x.now, x.links)) (s.incPar_quiet P.notifDrops) :)
  standing _ _ := rfl
  records _ _ := rfl
  bridges _ _ := rfl
  ofsCorr _ _ _ _ _ _ := rfl
  vcal _ _ _ _ _ _ := rfl

theorem calBlind_csMode {b : Nat} (hb : b < 4) : CalBlind fun s => s.par P.csMode b :=
  calBlind_par (sendBlind_par (fun i => by simp only [Par.pn, P.qOverflow, P.csMode]; omega) (by simp only [Par.pn, P.notifDrops, P.csMode]; omega))
    (fun c x hc hx => by simp only [Par.pn, P.ofsCorr, P.csMode]; omega) (fun c x hc hx => by simp only [Par.pn, P.vcal, P.csMode]; omega)

theorem calBlind_brLink {b : Nat} (hb : b < 4) : CalBlind fun s => s.par P.brLink b :=
  calBlind_par (sendBlind_par (fun i => by simp only [Par.pn, P.qOverflow, P.brLink]; omega) (by simp only [Par.pn, P.notifDrops, P.brLink]; omega))
    (fun c x hc hx => by simp only [Par.pn, P.ofsCorr, P.brLink]; omega) (fun c x hc hx => by simp only [Par.pn, P.vcal, P.brLink]; omega)

/-- A sample of the link is of this moment; other links and what does not show the link's voltage stay. -/
theorem State.linkSample_links (s : State) (b code : Nat) :
    ((s.linkSample b code).link (s.parN P.brLink b)).sampleAt = some s.now ∧ (s.linkSample b code).now = s.now ∧
      ∀ j, j ≠ s.parN P.brLink b → (s.linkSample b code).link j = s.link j := by
  unfold State.linkSample
  dsimp -zeta only
  extract_lets k v _ l avg tau avg' below l' s1
  have hlink (y : State) (j : Nat) (hy : (y.now, y.links) = (s1.now, s1.links)) : y.link j = s1.link j ∧ y.now = s1.now :=
    ⟨by simp only [State.link, (Prod.mk.inj hy).2], (Prod.mk.inj hy).1⟩
  have hy (c : Prop) [Decidable c] (j : Nat) :
      (if c then s1.unstandCode 0x0306 k else s1).link j = s1.link j ∧ (if c then s1.unstandCode 0x0306 k else s1).now = s1.now := by
    split
    · exact hlink _ j (calBlind_links.unstandCode ..)
    · exact ⟨rfl, rfl⟩
  refine ⟨?_, (hy _ 0).2, fun j hj => ?_⟩
  · rw [(hy _ _).1]
    exact congrArg Link.sampleAt (State.link_setLink_same s k l')
  · rw [(hy _ _).1]
    exact State.link_setLink_other s k j l' hj.symm

theorem State.linkSample_view {β : Type} {g : State → β} (hg : CalBlind g) (hlinks : ∀ (s : State) x, g { s with links := x } = g s)
    (hpar : ∀ (s : State) v k, k < 2 → g (s.setPar P.linkV v k) = g s ∧ g (s.setPar P.linkVAvg v k) = g s) (s : State)
    {b : Nat} (hb : s.parN P.brLink b < 2) (code : Nat) : g (s.linkSample b code) = g s := by
  unfold State.linkSample
  dsimp -zeta only
  extract_lets k v _ l avg tau avg' below l' s1
  have h1 : g s1 = g s := ((hpar _ _ k hb).2).trans (((hpar _ _ k hb).1).trans (hlinks ..))
  exact ite_holds (p := fun y => g y = g s) ((hg.unstandCode ..).trans h1) h1

/-- What a fold gathers from each element of its list, each step keeping what was gathered before. -/
theorem foldl_gathers {α : Type} {p : State → Prop} {q : State → α → Prop} {f : State → α → State} (l : List α)
    (hf : ∀ s x, x ∈ l → p s → p (f s x) ∧ q (f s x) x ∧ ∀ y ∈ l, q s y → q (f s x) y) {s : State} (h : p s) :
    p (l.foldl f s) ∧ ∀ x ∈ l, q (l.foldl f s) x := by
  have go (r : List α) (hr : ∀ x ∈ r, x ∈ l) (s : State) (hs : p s) :
      p (r.foldl f s) ∧ (∀ y ∈ l, q s y → q (r.foldl f s) y) ∧ ∀ x ∈ r, q (r.foldl f s) x := by
    induction r generalizing s with
    | nil => exact ⟨hs, fun _ _ h => h, fun _ hx => absurd hx List.not_mem_nil⟩
    | cons x r ih =>
      obtain ⟨h1, h2, h3⟩ := hf s x (hr x List.mem_cons_self) hs
      obtain ⟨h4, h5, h6⟩ := ih (fun y hy => hr y (List.mem_cons_of_mem _ hy)) _ h1
      refine ⟨h4, fun y hy hq => h5 y hy (h3 y hy hq), fun y hy => ?_⟩
      obtain rfl | hy := List.mem_cons.mp hy
      · exact h5 _ (hr _ List.mem_cons_self) h2
      · exact h6 y hy
  exact (go l (fun _ h => h) s h).imp_right And.right

/-- What the samples of a carrier's peak keep of a state: the time, and how each bridge is sensed. -/
def State.SensedAlike (s y : State) : Prop :=
  y.now = s.now ∧ ∀ b, b < 4 → y.par P.csMode b = s.par P.csMode b ∧ y.par P.brLink b = s.par P.brLink b

/-- The sample of one bridge at the carrier's peak, its senses calibrated before. -/
theorem peakSample_links {s y : State} (hy : s.SensedAlike y) {b : Nat} (hb : b < 4) (hl : s.parN P.brLink b < 2) (half : Nat) (w : Words)
    (codes v : List Int) (raw : List Nat) (vdc : State → Int) (code : Nat) :
    s.SensedAlike (((y.calPeak b half w codes raw).calIdle b codes v (vdc y)).linkSample b code) ∧
    ((((y.calPeak b half w codes raw).calIdle b codes v (vdc y)).linkSample b code).link (s.parN P.brLink b)).sampleAt = some s.now ∧
    ∀ j, (y.link j).sampleAt = some s.now →
      ((((y.calPeak b half w codes raw).calIdle b codes v (vdc y)).linkSample b code).link j).sampleAt = some s.now := by
  obtain ⟨hnow, hpars⟩ := hy
  have hview {β : Type} {g : State → β} (hg : CalBlind g) : g ((y.calPeak b half w codes raw).calIdle b codes v (vdc y)) = g y :=
    (hg.calIdle _ hb ..).trans (hg.calPeak _ hb ..)
  have hz := hview calBlind_links
  have hmode (c : Nat) (hc : c < 4) := hview (calBlind_csMode hc)
  have hbr (c : Nat) (hc : c < 4) := hview (calBlind_brLink hc)
  generalize (y.calPeak b half w codes raw).calIdle b codes v (vdc y) = z at hz hmode hbr
  obtain ⟨hznow, hzlinks⟩ := Prod.mk.inj hz
  have hzl : z.parN P.brLink b = s.parN P.brLink b := congrArg Int.toNat ((hbr b hb).trans (hpars b hb).2)
  obtain ⟨h1, h2, h3⟩ := z.linkSample_links b code
  rw [hzl] at h1 h3
  have hzs : z.now = s.now := hznow.trans hnow
  refine ⟨⟨h2.trans hzs, fun c hc => ⟨?_, ?_⟩⟩, h1.trans (congrArg some hzs), fun j hj => ?_⟩
  · refine (State.linkSample_view (calBlind_csMode hc) (fun _ _ => rfl) (fun s v k hk => ⟨?_, ?_⟩) z (hzl ▸ hl) code).trans
      ((hmode c hc).trans (hpars c hc).1)
    all_goals exact State.par_setPar_other _ _ _ _ _ _ _ _ (by simp only [Par.pn, P.linkV, P.linkVAvg, P.csMode]; omega)
  · refine (State.linkSample_view (calBlind_brLink hc) (fun _ _ => rfl) (fun s v k hk => ⟨?_, ?_⟩) z (hzl ▸ hl) code).trans
      ((hbr c hc).trans (hpars c hc).2)
    all_goals exact State.par_setPar_other _ _ _ _ _ _ _ _ (by simp only [Par.pn, P.linkV, P.linkVAvg, P.brLink]; omega)
  · obtain rfl | hne := eq_or_ne j (s.parN P.brLink b)
    · exact h1.trans (congrArg some hzs)
    · rw [h3 j hne, State.link, hzlinks]
      exact hj

theorem carrierPeak_links {s : State} {n k : Nat} (hk : s.seAxis n = some k) (hu : s.hp k P.update = 0) (hfirst : (s.lane n).first = false)
    (hnow : s.now = ((s.lane n).seX + 80 * (s.lane n).half) / 32) (hl : ∀ b, b < 4 → s.parN P.brLink b < 2) (samples : List (List Int × List Nat)) :
    ∀ b ∈ s.bridgesOf k, s.par P.csMode b = 0 → ((carrierPeak n samples s).link (s.parN P.brLink b)).sampleAt = some s.now := by
  unfold carrierPeak
  rw [hk]
  dsimp -zeta only
  extract_lets l
  have hcond : ¬(s.hp k P.update = 1 ∨ l.first = true ∨ ¬(s.now = (l.seX + 80 * l.half) / 32 ∨ s.now = (l.seX + 80 * l.half + 31) / 32)) := by
    simp [l, hu, hfirst, hnow]
  rw [if_neg hcond]
  have hmem {x : Nat × Nat} (hx : x ∈ (s.bridgesOf k).zipIdx) : x.1 < 4 :=
    List.mem_range.mp (List.mem_filter.mp (List.fst_mem_of_mem_zipIdx hx)).1
  intro b hb
  obtain ⟨i, hi⟩ := List.mem_iff_getElem?.mp hb
  refine (foldl_gathers (p := s.SensedAlike) (q := fun y x => s.par P.csMode x.1 = 0 → (y.link (s.parN P.brLink x.1)).sampleAt = some s.now)
    ((s.bridgesOf k).zipIdx) (fun y x hx hy => ?_) ⟨rfl, fun _ _ => ⟨rfl, rfl⟩⟩).2 (b, i) (List.mk_mem_zipIdx_iff_getElem?.mpr hi)
  by_cases hm : y.par P.csMode x.1 = 0
  · rw [if_pos hm]
    obtain ⟨h1, h2, h3⟩ := peakSample_links hy (hmem hx) (hl _ (hmem hx)) l.half (tget l.inForce {} x.1)
      ((upto 3).map fun z => y.curCode x.1 ((samples.getD x.2 ([], [])).1.getD z 0))
      ((upto 3).map fun z => y.phvPu x.1 z ((samples.getD x.2 ([], [])).2.getD (z + 1) 0)) (samples.getD x.2 ([], [])).2
      (fun y => y.vdcPu x.1 ((samples.getD x.2 ([], [])).2.getD 0 0)) ((samples.getD x.2 ([], [])).2.getD 0 0)
    exact ⟨h1, fun _ => h2, fun z _ hq hz => h3 _ (hq hz)⟩
  · rw [if_neg hm]
    exact ⟨hy, fun h => absurd ((hy.2 _ (hmem hx)).1.trans h) hm, fun _ _ hq => hq⟩

theorem otherConversions : Parts.OtherConversions := by
  refine ⟨fun s0 τ b raw rawV => ?_, fun s0 τ n k samples => ?_⟩
  · intro s hb hk hc
    refine Does.of_answer rfl fun t ht => ?_
    rw [ht.bridge_eq]
    exact selfTrigger_convAt (s := s0.at τ) hb hk (hc.trans (Nat.le_max_right ..)) raw rawV
  · intro s hk hu hnow hfirst hτ hl
    have hn : (s0.at τ).now = τ := max_eq_right hnow
    refine Does.of_answer rfl fun t ht b hb hm => ?_
    rw [ht.link_eq]
    exact (carrierPeak_links (s := s0.at τ) hk hu hfirst (hn.trans hτ) hl samples b hb hm).trans (congrArg some hn)

/-- Settles O12. -/
theorem sensingFaults : Obligations.SensingFaults := ⟨phaseOvercurrent, senseFaults, senseReferenceCheck, otherConversions⟩

end Sys2Proof.Machine
end

section
/-! # The rotor's sources

What the fusion stage leaves of an axis, and the catch after a loss of synchronism. -/
namespace Sys2Proof.Machine

theorem ax_of_quiet {a b : State} (h : a.quiet = b.quiet) (k : Nat) : a.ax k = b.ax k := (congrArg (fun s : State => s.ax k) h :)

theorem standing_of_quiet {a b : State} (h : a.quiet = b.quiet) : a.standing = b.standing := (congrArg State.standing h :)

theorem hp_of_quiet {a b : State} (h : a.quiet = b.quiet) (k : Nat) (p : Par) : a.hp k p = b.hp k p :=
  (congrArg (fun s : State => s.hp k p) h :)

theorem State.silentEnds_ax (s : State) (k i : Nat) : (s.silentEnds k).ax i = s.ax i := by
  unfold State.silentEnds
  split
  · rfl
  · exact congrArg (fun l => tget l {} i) (s.unstandCode_axes 0x0206 k)

/-- What one run of the fusion stage leaves of a state: the axis' state, the marks of flux and injection, the time of the run, the
standing faults. -/
def State.fusionView (s : State) (k : Nat) : AxState × Bool × Bool × Option Nat × List Standing :=
  ((s.ax k).st, (s.ax k).pos.flux.valid, (s.ax k).pos.waggle.valid, (s.ax k).pos.fusedAt, s.standing)

theorem State.fusionView_of_quiet {s t : State} (h : t.quiet = s.quiet) (k : Nat) : t.fusionView k = s.fusionView k :=
  (congrArg (fun x : State => x.fusionView k) h :)

theorem State.fusionView_modAx (s : State) (k : Nat) (f : Axis → Axis)
    (hf : ((f (s.ax k)).st, (f (s.ax k)).pos.flux.valid, (f (s.ax k)).pos.waggle.valid, (f (s.ax k)).pos.fusedAt) =
      ((s.ax k).st, (s.ax k).pos.flux.valid, (s.ax k).pos.waggle.valid, (s.ax k).pos.fusedAt)) :
    (s.modAx k f).fusionView k = s.fusionView k := by
  simp only [Prod.mk.injEq] at hf
  obtain ⟨h1, h2, h3, h4⟩ := hf
  unfold State.fusionView
  rw [State.ax_modAx_same, h1, h2, h3, h4]
  rfl

theorem State.calc_quiet {α : Type} (s : State) (k : Nat) (c : Calc α) : (s.calc k c).2.quiet = s.quiet := by
  unfold State.calc State.addSats
  simp

theorem State.vmUpdate_fusionView (s : State) (k : Nat) : (s.vmUpdate k).fusionView k = s.fusionView k := by
  unfold State.vmUpdate
  extract_lets p
  generalize hc : s.calc k (s.emfOf k) = c
  obtain ⟨e, s1⟩ := c
  have h1 : s1.quiet = s.quiet := (congrArg (fun x : Vec2 × State => x.2.quiet) hc).symm.trans (s.calc_quiet k _)
  have hp : (s1.ax k).pos = p := (congrArg (fun x : State => (x.ax k).pos) h1 :)
  dsimp only
  exact (State.fusionView_modAx s1 k _ (by rw [hp])).trans (State.fusionView_of_quiet h1 k)

theorem State.fuse_fusionView (s : State) (k cyc : Nat) (hold rest : Bool) : (s.fuse k cyc hold rest).fusionView k = s.fusionView k := by
  unfold State.fuse
  extract_lets +onlyGivenNames was s1 s2 s3 p wasCold vs thp0 thp nu inGate gated c sw e wn0 clampBw wn theta wi den
  have h3 : s3.fusionView k = s.fusionView k := by
    have h12 : s2.fusionView k = s1.fusionView k := by
      unfold s2
      split
      · exact State.fusionView_of_quiet (State.posEvent_quiet ..) k
      · rfl
    have h23 : s3.fusionView k = s2.fusionView k := by
      unfold s3
      split
      · exact State.fusionView_of_quiet (State.setBit_quiet s2 _ _ _ _ _) k
      · rfl
    exact (h23.trans h12).trans (State.fusionView_modAx s k _ rfl)
  have hcalc := State.calc_quiet s3 k (satTo s32lo s32hi (rdiv (wi * 10000000000000) den))
  split
  next we s4 heq =>
    rw [heq] at hcalc
    have h4 : s4.fusionView k = s.fusionView k := (State.fusionView_of_quiet hcalc k).trans h3
    have hp : (s4.ax k).pos = p := (congrArg (fun x : State => (x.ax k).pos) hcalc :)
    extract_lets +onlyGivenNames iface sensorIn rep imposed
    clear_value imposed rep sensorIn iface
    split
    extract_lets maj split upd srcs dth lost last cold valid hist xo code st wts _ s5 learn s6 s7 s8 s9 w' s10
    have h5 : s5.fusionView k = s4.fusionView k := State.fusionView_modAx s4 k _ (by rw [hp]; rfl)
    have h6 : s6.fusionView k = s5.fusionView k := by
      unfold s6
      split
      · split
        · refine (State.fusionView_modAx _ k _ rfl).trans (State.fusionView_of_quiet ?_ k)
          simp
        · rfl
      · rfl
    refine (State.fusionView_of_quiet ?_ k).trans (h6.trans (h5.trans h4))
    simp [s7, s8, s9, s10]


/-- A source whose record is replaced. -/
theorem AxPos.withSrcs_srcs (p : AxPos) {src : Nat} (hs : src < 4) (x : PosSrc) : (p.withSrcs (p.srcs.set src x)).srcs.getD src {} = x := by
  have h : src = 0 ∨ src = 1 ∨ src = 2 ∨ src = 3 := by omega
  obtain rfl | rfl | rfl | rfl := h <;> rfl

/-- The record of a source that is replaced, and an event written: what the axis and the standing faults show. -/
theorem State.srcs_of_replaced {s t : State} {k src : Nat} (hs : src < 4) (x : PosSrc)
    (h : t.quiet = (s.modAx k fun a => { a with pos := a.pos.withSrcs (a.pos.srcs.set src x) }).quiet) :
    (t.ax k).pos.srcs.getD src {} = x ∧ (t.ax k).st = (s.ax k).st ∧ t.standing = s.standing := by
  have hax : t.ax k = { s.ax k with pos := (s.ax k).pos.withSrcs ((s.ax k).pos.srcs.set src x) } :=
    (congrArg (fun z : State => z.ax k) h :).trans
      (State.ax_modAx_same s k fun a => { a with pos := a.pos.withSrcs (a.pos.srcs.set src x) })
  rw [hax]
  exact ⟨AxPos.withSrcs_srcs _ hs x, rfl, (congrArg (fun z : State => z.standing) h :)⟩

theorem sourceDropped_srcs {s : State} {k src t0 : Nat} (hk : k < 4) (hs : src < 4) (ho : ((s.ax k).pos.srcs.getD src {}).outSince = some t0)
    (hd : ((s.ax k).pos.srcs.getD src {}).dropped = false) (h0 : t0 + 5000000 ≤ s.now) :
    (((sourceDropped k src s).ax k).pos.srcs.getD src {}).dropped = true ∧ ((sourceDropped k src s).ax k).st = (s.ax k).st ∧
      (sourceDropped k src s).standing = s.standing := by
  have hc : k < 4 ∧ src < 4 ∧ ¬((s.ax k).pos.srcs.getD src {}).dropped = true ∧ t0 + 5000000 ≤ s.now := ⟨hk, hs, Bool.not_eq_true _ ▸ hd, h0⟩
  have hq : (sourceDropped k src s).quiet = (s.modAx k fun a => { a with pos := a.pos.withSrcs (a.pos.srcs.set src
      { (s.ax k).pos.srcs.getD src {} with dropped := true, outSince := none, inSince := none }) }).quiet := by
    unfold sourceDropped
    simp only [ho, if_pos hc, State.posEvent_quiet, State.incPar_quiet]
  obtain ⟨h1, h2⟩ := State.srcs_of_replaced hs _ hq
  exact ⟨congrArg PosSrc.dropped h1, h2⟩

theorem sourceReadmitted_srcs {s : State} {k src t0 : Nat} (hk : k < 4) (hs : src < 4) (ho : ((s.ax k).pos.srcs.getD src {}).inSince = some t0)
    (hd : ((s.ax k).pos.srcs.getD src {}).dropped = true) (h0 : t0 + 1000000000 ≤ s.now) :
    (((sourceReadmitted k src s).ax k).pos.srcs.getD src {}).dropped = false ∧ ((sourceReadmitted k src s).ax k).st = (s.ax k).st ∧
      (sourceReadmitted k src s).standing = s.standing := by
  have hc : k < 4 ∧ src < 4 ∧ ((s.ax k).pos.srcs.getD src {}).dropped = true ∧ t0 + 1000000000 ≤ s.now := ⟨hk, hs, hd, h0⟩
  have hq : (sourceReadmitted k src s).quiet = (s.modAx k fun a => { a with pos := a.pos.withSrcs (a.pos.srcs.set src
      { (s.ax k).pos.srcs.getD src {} with dropped := false, outSince := none, inSince := none }) }).quiet := by
    unfold sourceReadmitted
    simp only [ho, if_pos hc, State.posEvent_quiet]
  obtain ⟨h1, h2⟩ := State.srcs_of_replaced hs _ hq
  exact ⟨congrArg PosSrc.dropped h1, h2⟩

theorem fusionSelfTimed_fusion {s : State} {k : Nat} (hc : k < 4 ∧ ¬(s.lane (s.laneOf k)).running = true ∧ 0 < (s.bridgesOf k).length ∧ s.fusionDue k = true) :
    (fusionSelfTimed k s).fusionView k = ((s.ax k).st, false, false, some s.now, s.standing) := by
  unfold fusionSelfTimed
  rw [if_pos hc]
  extract_lets now s1
  have hsave (x : State) (n : Nat) : (x.saveRecord n k).fusionView k = x.fusionView k := by
    unfold State.saveRecord
    dsimp only
    split <;> rfl
  rw [hsave, State.fuse_fusionView, State.vmUpdate_fusionView]
  unfold s1 State.fusionView
  rw [State.ax_modAx_same]
  rfl

theorem sourceEvents : Parts.SourceEvents := by
  intro s0 τ k src s hk hsrc
  have hτ : τ ≤ (s0.at τ).now := Nat.le_max_right ..
  refine ⟨fun t0 ho hd h0 => ?_, fun t0 ho hd h0 => ?_, fun hb hw => ?_, fun hr hb hd => ?_⟩
  · refine Does.of_answer rfl fun t ht => ?_
    rw [ht.ax_eq, ht.standing]
    exact sourceDropped_srcs hk hsrc ho hd (h0.trans hτ)
  · refine Does.of_answer rfl fun t ht => ?_
    rw [ht.ax_eq, ht.standing]
    exact sourceReadmitted_srcs hk hsrc ho hd (h0.trans hτ)
  · have hx : waggleReversal k (s0.at τ) = _ := if_pos (⟨hk, hb, hw⟩ : k < 4 ∧ _ ∧ _)
    refine Does.of_answer (congrArg (answer s0) hx) fun t ht => ?_
    rw [ht.ax_eq, State.ax_modAx_same]
    exact ⟨rfl, rfl, ht.params⟩
  · refine Does.of_answer rfl fun t ht => ?_
    have h := fusionSelfTimed_fusion (s := s0.at τ) ⟨hk, by simp only [Bool.not_eq_true]; exact hr, hb, hd⟩
    simp only [State.fusionView, Prod.mk.injEq] at h
    obtain ⟨h1, h2, h3, h4, h5⟩ := h
    rw [ht.ax_eq, ht.standing]
    exact ⟨h2, h3, h4, h1, h5⟩

/-- A catch that begins anew. -/
theorem State.catchStart_begins (s : State) (k : Nat) :
    (((s.catchStart k false).ax k).pos.proc = .catchShort ∨ ((s.catchStart k false).ax k).pos.proc = .catchDecay) ∧
      (s.catchStart k false).standing = s.standing := by
  unfold State.catchStart
  extract_lets short s1 s2
  have h1 : s1.quiet = s.quiet := by simp [s1]
  have h2 : (s2.posEvent k 2 (if short then 1 else 0)).quiet = _ := (State.posEvent_quiet ..).trans (State.syncProc_quiet _ k)
  rw [ax_of_quiet h2, standing_of_quiet h2]
  refine ⟨?_, (State.modAx_standing ..).trans (standing_of_quiet h1)⟩
  show ((s1.modAx k _).ax k).pos.proc = .catchShort ∨ ((s1.modAx k _).ax k).pos.proc = .catchDecay
  rw [State.ax_modAx_same]
  cases short <;> simp

/-- A loss of synchronism with tries left begins a catch. -/
theorem State.lossOfSync_of_tries {s : State} {k cause : Nat} (ht : s.par P.catchUsed k < s.hp k P.catchTries) :
    (((s.lossOfSync k cause).ax k).pos.proc = .catchShort ∨ ((s.lossOfSync k cause).ax k).pos.proc = .catchDecay) ∧
      (s.lossOfSync k cause).standing = s.standing := by
  have h : s.lossOfSync k cause = State.catchStart ((s.setPar P.losCause cause k).setBit P.posStatus 12 true k) k := by
    refine if_pos ?_
    have hother (q : Par) (hq : q.pn k 0 ≠ P.catchUsed.pn k 0) (x : State) (v : Int) :
        (x.setPar q v k).par P.catchUsed k = x.par P.catchUsed k := State.par_setPar_other _ _ _ _ _ _ _ _ hq
    unfold State.setBit
    rw [hother _ (by simp only [Par.pn, P.posStatus, P.catchUsed]; omega), hother _ (by simp only [Par.pn, P.losCause, P.catchUsed]; omega)]
    exact ht.trans_eq (hp_of_quiet (by simp) ..)
  rw [h]
  obtain ⟨h1, h2⟩ := State.catchStart_begins ((s.setPar P.losCause cause k).setBit P.posStatus 12 true k) k
  have hq : ((s.setPar P.losCause cause k).setBit P.posStatus 12 true k).quiet = s.quiet := by simp
  exact ⟨h1, h2.trans (standing_of_quiet hq)⟩

/-- What a move of an axis shows of it. -/
theorem State.moveAxis_ax (s : State) (k : Nat) (st : AxState) :
    ((s.moveAxis k st).ax k).st = st ∧ ((s.moveAxis k st).ax k).prev = (s.ax k).st ∧
      ((s.moveAxis k st).ax k).pos.six = (s.ax k).pos.six := by
  unfold State.moveAxis
  extract_lets a a1 a2 _ a3 _ a4 a5 s1 s2
  have hsix : a5.pos.six = a.pos.six := by
    have h1 : a1.pos.six = a.pos.six := by unfold a1; split <;> rfl
    have h2 : a2.pos.six = a1.pos.six := by unfold a2; split <;> rfl
    have h3 : a3.pos.six = a2.pos.six := by unfold a3; split <;> rfl
    have h4 : a4.pos.six = a3.pos.six := by unfold a4; split <;> rfl
    have h5 : a5.pos.six = a4.pos.six := by unfold a5; split <;> rfl
    rw [h5, h4, h3, h2, h1]
  have h2 : s2.quiet = s1.quiet := by
    unfold s2
    rw [State.syncProc_quiet]
    split
    · exact State.setBit_quiet s1 _ _ _ _ _
    · rfl
  rw [State.silentEnds_ax, ax_of_quiet ((State.notify_quiet ..).trans h2)]
  unfold s1
  rw [State.ax_setAx_same]
  exact ⟨rfl, rfl, hsix⟩

theorem sixStepEvents : Parts.SixStepEvents := by
  intro s0 τ k s hk
  have hτ : τ ≤ (s0.at τ).now := Nat.le_max_right ..
  refine ⟨fun h6 hp hi hc htries => ?_, fun hst hb => ?_⟩
  · have hx : limpCrossingTimeout k (s0.at τ) = _ := if_pos (⟨hk, h6, hp, hi, hc.trans (Nat.mul_le_mul_left 2 hτ)⟩ : k < 4 ∧ _ ∧ _ ∧ _ ∧ _)
    refine Does.of_answer (congrArg (answer s0) hx) fun t ht => ?_
    rw [ht.ax_eq, ht.standing]
    exact State.lossOfSync_of_tries (s := s0.at τ) htries
  · have hx : limpReturn k (s0.at τ) = _ := if_pos (⟨hk, Or.inr hst, hb⟩ : k < 4 ∧ _ ∧ _)
    have hax : ((State.settle (State.setProc (s0.at τ) k fun p => { p with six := false }) k).ax k) =
        { (s0.at τ).ax k with pos := { ((s0.at τ).ax k).pos with six := false }, turn := none } := by
      unfold State.settle State.setProc
      rw [State.ax_modAx_same, ax_of_quiet (State.syncProc_quiet ..), State.ax_modAx_same]
    refine Does.of_answer (congrArg (answer s0) hx) fun t ht => ?_
    dsimp only at ht
    rw [if_pos (by rw [hax]; exact hst)] at ht
    rw [ht.ax_eq]
    obtain ⟨h1, h2, h3⟩ := State.moveAxis_ax ((State.setProc (s0.at τ) k fun p => { p with six := false }).settle k) k .running
    rw [hax] at h2 h3
    exact ⟨h1, h2.trans hst, h3⟩

/-- Settles O13. -/
theorem rotorSources : Obligations.RotorSources := ⟨sourceEvents, sixStepEvents⟩

end Sys2Proof.Machine
end

section
/-! # The scout's back check

The rotor's travel counts against the torque where the torque is negative (R222). -/
namespace Sys2Proof.Tests
open Sys2Proof.Machine

/-- Axis 0 is in the back check of its scout start, its rotor has travelled forward, and the last torque was backward. -/
def backChecked : State := ax base 0 { hearth := { lastTau := -1 }, pos := { proc := .scoutBack, travel := 1099511627776, releaseAt := 7 } }

end Sys2Proof.Tests

namespace Sys2Proof.Machine
open Sys2Proof.Tests

theorem scoutBackCheckEnd_fails_try :
    after (exec (.scoutBackCheckEnd 2000000007 0) backChecked) (fun t => decide ((t.ax 0).pos.proc = .scoutRetryDecay)) = true := by
  decide +kernel

/-- Refutes O14: its clause of the back check reads the travel without the torque's sign, and a travel against a negative torque fails
the try (R222) where the clause ends the procedure. -/
theorem not_scoutAndCatch : ¬ Obligations.ScoutAndCatch := by
  unfold Obligations.ScoutAndCatch
  rintro ⟨h, -⟩
  obtain ⟨-, -, -, hback⟩ := h backChecked 2000000007 0 (by decide)
  obtain ⟨t, ht, hnone, -⟩ := hback (by decide +kernel) (by decide +kernel) (by decide +kernel) (by decide +kernel)
  have hretry : (t.ax 0).pos.proc = .scoutRetryDecay := of_decide_eq_true (of_after scoutBackCheckEnd_fails_try ht)
  rw [hnone] at hretry
  cases hretry

end Sys2Proof.Machine
end

section
/-! # Feedback interfaces

Encoders, resolvers and SSI frames: what their events leave of the interface. -/
namespace Sys2Proof.Machine

theorem enc_of_quiet {a b : State} (h : a.quiet = b.quiet) (k : Nat) : a.enc k = b.enc k := (congrArg (fun s : State => s.enc k) h :)

theorem enc_of_still {a b : State} (h : a.quiet.unmoved = b.quiet.unmoved) (k : Nat) : a.enc k = b.enc k :=
  (congrArg (fun s : State => s.enc k) h :)

theorem standing_setEnc (s : State) (k : Nat) (x : Enc) : (s.setEnc k x).standing = s.standing := rfl

/-! ### Encoders -/

/-- A motion transition of an encoder. -/
theorem State.encMotion_enc (s : State) (k : Nat) (d : Int) (stamp : Nat) :
    ((s.encMotion k d stamp).par P.encCount k = signed 32 (unsigned 32 (s.par P.encCount k + d)) ∧
      ((s.encMotion k d stamp).enc k).a = (s.enc k).a ∧ ((s.encMotion k d stamp).enc k).b = (s.enc k).b ∧
      ((s.encMotion k d stamp).enc k).lastT = stamp) ∧
      (s.encMotion k d stamp).axes = s.axes ∧ (s.encMotion k d stamp).standing = s.standing := by
  unfold State.encMotion
  extract_lets
  have hq (v : Int) (x : Enc) : (((s.setEnc k x).setPar P.encCount v k).enc k) = x :=
    (enc_of_quiet (State.setPar_quiet _ _ v k 0) k).trans (State.enc_setEnc_same ..)
  refine ⟨⟨State.par_setPar_same .., ?_, ?_, ?_⟩, (axes_of_quiet (State.setPar_quiet _ _ _ _ _)).trans rfl,
    (standing_of_quiet (State.setPar_quiet _ _ _ _ _)).trans rfl⟩
  all_goals rw [hq]

/-- A quadrature transition whose levels have stood long enough: of one line, a motion. -/
theorem encTransition_of_quadrature {s : State} {k : Nat} (hk : k < 4) (hm : s.fp k P.encMode k = 1) {hold : Nat}
    (hh : s.fp k P.encMinEdge k ≤ (hold : Int)) (a b z : Bool) (stamp : Nat) :
    encTransition k a b z stamp hold s =
      let y := s.setEnc k { s.enc k with a := a, b := b, z := z }
      if a ≠ (s.enc k).a ∧ b ≠ (s.enc k).b then y.edgeFault k
      else if a ≠ (s.enc k).a then y.encMotion k (if a ≠ b then 1 else -1) stamp
      else if b ≠ (s.enc k).b then y.encMotion k (if a = b then 1 else -1) stamp
      else y := by
  unfold encTransition
  rw [if_neg (Nat.not_le_of_lt hk), if_neg (by rw [hm]; decide)]
  exact (if_neg (Int.not_lt.mpr hh)).trans (if_pos hm)

/-- A motion of an encoder whose levels are taken. -/
theorem State.encMotion_of_levels (s : State) (k : Nat) (a b z : Bool) (d : Int) (stamp : Nat) {y : State}
    (hy : y = (s.setEnc k { s.enc k with a := a, b := b, z := z }).encMotion k d stamp) :
    y.par P.encCount k = signed 32 (unsigned 32 (s.par P.encCount k + d)) ∧ (y.enc k).a = a ∧ (y.enc k).b = b ∧ (y.enc k).lastT = stamp ∧
      y.axes = s.axes ∧ y.standing = s.standing := by
  obtain ⟨⟨h1, h2, h3, h4⟩, h5⟩ := State.encMotion_enc (s.setEnc k { s.enc k with a := a, b := b, z := z }) k d stamp
  rw [State.enc_setEnc_same] at h2 h3
  rw [hy]
  exact ⟨h1, h2, h3, h4, h5⟩

theorem encoderCounts : Parts.EncoderCounts := by
  intro s0 τ k stamp hold a b z s hk hm hh
  have hx := encTransition_of_quadrature (s := s0.at τ) hk hm hh a b z stamp
  refine ⟨fun ha hb => ?_, fun ha hb => ?_⟩
  · refine Does.of_answer rfl fun t ht => ?_
    rw [ht.par_eq, ht.enc_eq, ht.axes, ht.standing]
    exact State.encMotion_of_levels (s0.at τ) k a b z _ stamp (hx.trans ((if_neg fun h => h.2 hb).trans (if_pos ha)))
  · refine Does.of_answer rfl fun t ht => ?_
    rw [ht.par_eq, ht.enc_eq, ht.axes, ht.standing]
    exact State.encMotion_of_levels (s0.at τ) k a b z _ stamp
      (hx.trans ((if_neg fun h => h.1 ha).trans ((if_neg fun h => h ha).trans (if_pos hb))))

/-- What an encoder remembers of its reference. -/
def Enc.reference (e : Enc) : Bool × Bool × List Int := (e.referenced, e.needRef, e.idx)

theorem enc_setFb (s : State) {k : Nat} (hk : k < 4) (f : FbCommon) : (s.setFb k f).enc k = { s.enc k with fb := f } := by
  unfold State.setFb
  rw [if_pos hk, State.enc_setEnc_same]

theorem fb_of_enc (s : State) {k : Nat} (hk : k < 4) : s.fb k = (s.enc k).fb := if_pos hk

theorem State.declareFaulty_enc (s : State) {i : Nat} (hi : i < 4) (code : Nat) :
    ((s.declareFaulty i code).enc i).reference = (s.enc i).reference := by
  unfold State.declareFaulty
  extract_lets f s1 ks s2
  split
  · rw [enc_setFb _ hi]
    rfl
  · have h2 : s2.quiet = s1.quiet := foldl_keeps State.quiet _ (fun x k => State.setBit_quiet x _ _ _ _ _) ks s1
    rw [enc_of_still (State.raiseAll_still ..), enc_of_quiet h2, enc_setFb _ hi]
    rfl

theorem State.takeFbCfg_enc (s : State) {i : Nat} (hi : i < 4) :
    ((s.takeFbCfg i).enc i).reference = (s.enc i).reference ∧ ((s.takeFbCfg i).enc i).fb.faulty = (s.enc i).fb.faulty := by
  unfold State.takeFbCfg
  extract_lets was capped _ s1 comes
  have h1 : s1.enc i = { s.enc i with fb := { s.fb i with cfg := some (s.params.filter fun e => decide (0x6100 ≤ e.1) && decide (e.1 < 0x6260)) } } :=
    enc_setFb s hi _
  rw [fb_of_enc s hi] at h1
  rw [if_pos hi]
  split
  · rw [State.enc_setEnc_same, h1]
    exact ⟨rfl, rfl⟩
  · rw [h1]
    exact ⟨rfl, rfl⟩

theorem State.newReference_enc (s : State) (k : Nat) (corr : Int) (i : Nat) : (s.newReference k corr).enc i = s.enc i :=
  enc_of_still (State.newReference_still ..) i

/-- The first index references the encoder. -/
theorem State.applyIndex_first {s : State} {k : Nat} {c : Int} (hf : (s.enc k).fb.faulty = false) (hn : (s.enc k).needRef = true)
    (hi : (s.enc k).idx = [c]) : ((s.applyIndex k).enc k).reference = (true, false, []) := by
  unfold State.applyIndex
  extract_lets e s1
  rw [if_neg (by simp [e, hf])]
  have hidx : e.idx = [c] := hi
  rw [hidx]
  have h1 : s1.enc k = { e with idx := [] } := State.enc_setEnc_same ..
  show ((s1.decideIndex k (c + 0)).enc k).reference = _
  unfold State.decideIndex
  extract_lets e2 d tol correct sure
  have he2 : e2 = { e with idx := [] } := h1
  rw [if_pos (by rw [he2]; exact hn), State.newReference_enc, State.enc_setEnc_same, he2]
  rfl

theorem State.encSample_first {s : State} {k : Nat} (hk : k < 4) {c : Int} (hf : (s.enc k).fb.faulty = false)
    (hn : (s.enc k).needRef = true) (hi : (s.enc k).idx = [c]) (tSE prev : Nat) :
    ((s.encSample k tSE prev).enc k).reference = (true, false, []) := by
  unfold State.encSample
  extract_lets s1 s2 e ends still raw f cap v rep interp cpt a sp _ e1 st _ e2
  have h1 : (s1.enc k).reference = (true, false, []) := by
    obtain ⟨h, hf'⟩ := s.takeFbCfg_enc hk
    simp only [Enc.reference, Prod.mk.injEq] at h
    obtain ⟨-, hn', hi'⟩ := h
    exact State.applyIndex_first (hf'.trans hf) (hn'.trans hn) (hi'.trans hi)
  have h2 : (s2.enc k).reference = (true, false, []) := by
    unfold s2
    split
    · exact (State.declareFaulty_enc _ hk _).trans h1
    · exact h1
  have hq (x : State) : (x.coldSpeed k).quiet = x.quiet := by
    unfold State.coldSpeed
    split
    · rfl
    · exact State.setBit_quiet x _ _ _ _ _
  rw [enc_of_quiet (hq _), enc_of_quiet (State.setPar_quiet _ _ _ _ _), enc_of_quiet (State.setPar_quiet _ _ _ _ _),
    enc_of_quiet (State.setPar_quiet _ _ _ _ _), State.enc_setEnc_same]
  exact h2

theorem indexEvent_of_forward {s : State} {k : Nat} (hk : k < 4) (hm : s.fp k P.encMode k = 1) (hi : s.fp k P.encIndexEn k = 1)
    (hf : (s.enc k).fb.faulty = false) (hd : (s.enc k).lastDir = 1) :
    indexEvent k true s = s.setEnc k { s.enc k with z := true, travel := 0, idx := (s.enc k).idx ++ [s.par P.encCount k] } := by
  have h1 : ¬(4 ≤ k ∨ s.fp k P.encMode k ≠ 1 ∨ s.fp k P.encIndexEn k ≠ 1) := by
    simp only [hm, hi, ne_eq, not_true_eq_false, or_false, not_le]
    exact hk
  have h2 : ¬((s.enc k).fb.faulty = true ∨ ¬(true = true ∧ (s.enc k).lastDir = 1 ∨ ¬true = true ∧ (s.enc k).lastDir = -1)) := by
    simp [hf, hd]
  unfold indexEvent
  exact (if_neg h1).trans (if_neg h2)

/-- An encoder that no axis uses samples itself, and the first index references it. -/
theorem feedbackSelfSample_first {s : State} {k : Nat} (hk : k < 4) (ha : s.axisOfIface k = none) (hset : s.ifaceSet k = true)
    (hat : (s.enc k).fb.sampleAt + 50000 ≤ s.now) {c : Int} (hf : (s.enc k).fb.faulty = false) (hn : (s.enc k).needRef = true)
    (hi : (s.enc k).idx = [c]) : ((feedbackSelfSample k s).enc k).reference = (true, false, []) := by
  have hlate : lateIface k = false := by simp [lateIface]; omega
  have h1 : ¬(10 ≤ k ∨ False ∨ s.now < (s.fb k).sampleAt + 50000) := by
    rw [fb_of_enc s hk, false_or]
    omega
  unfold feedbackSelfSample
  rw [ha]
  extract_lets runs
  rw [if_neg (by simpa [runs] using h1), if_pos hset, hlate, if_neg Bool.false_ne_true]
  unfold State.fbSample
  extract_lets prev y
  have hy : (y.enc k).reference = (true, false, []) := by
    unfold y
    rw [if_pos hk]
    exact s.encSample_first hk hf hn hi _ _
  rw [enc_setFb _ hk]
  exact hy

theorem encoderIndex : Parts.EncoderIndex := by
  intro s0 τ k s hk
  have hτ : τ ≤ (s0.at τ).now := Nat.le_max_right ..
  refine ⟨fun hm hi hf hd => ?_, fun c ha hset hat hf hn hi => ?_, fun hm hi hr htr => ?_, fun hm hst hl => ?_⟩
  · refine Does.of_answer (congrArg (answer s0) (indexEvent_of_forward (s := s0.at τ) hk hm hi hf hd)) fun t ht => ?_
    rw [ht.enc_eq, State.enc_setEnc_same]
    exact ⟨rfl, ht.axes, ht.params, ht.standing⟩
  · refine Does.of_answer rfl fun t ht => ?_
    have h := feedbackSelfSample_first (s := s0.at τ) hk ha hset (hat.trans hτ) hf hn hi
    simp only [Enc.reference, Prod.mk.injEq] at h
    rw [ht.enc_eq]
    exact h
  · have hx : indexMissed k (s0.at τ) = _ := if_pos (⟨hk, hm, hi, hr, htr⟩ : k < 4 ∧ _ ∧ _ ∧ _ ∧ _)
    refine Does.of_answer (congrArg (answer s0) hx) fun t ht => ?_
    have hq := State.incPar_quiet ((s0.at τ).setEnc k { (s0.at τ).enc k with travel := 0, idxMissed := true }) P.encMissedIndex k
    rw [ht.enc_eq, ht.axes, ht.standing]
    exact ⟨(enc_of_quiet (hq ..) k).trans (State.enc_setEnc_same ..), (axes_of_quiet (hq ..)).trans rfl, (standing_of_quiet (hq ..)).trans rfl⟩
  · have hx : encStandstill k (s0.at τ) = _ :=
      if_pos (⟨hk, hm, by simp only [Bool.not_eq_true]; exact hst, hl.trans_le (Int.ofNat_le.mpr hτ)⟩ : k < 4 ∧ _ ∧ _ ∧ _)
    refine Does.of_answer (congrArg (answer s0) hx) fun t ht => ?_
    rw [ht.enc_eq, State.enc_setEnc_same]
    exact ⟨rfl, ht.axes, ht.params, ht.standing⟩

/-- Settles O15. -/
theorem encoderLines : Obligations.EncoderLines := ⟨encoderCounts, encoderIndex⟩

end Sys2Proof.Machine
end

section
/-! # Interfaces that sample themselves

An interface that no axis uses changes no axis when it samples, and what declares it faulty and lets it return. -/
namespace Sys2Proof.Machine

/-! ### What sampling leaves of the axes -/

theorem State.axisOfIface_congr {s t : State} (h : t.axes = s.axes) (i : Nat) : t.axisOfIface i = s.axisOfIface i := by
  unfold State.axisOfIface State.sel State.hp State.ax
  rw [h]

theorem State.stand_axes (s : State) (f : Standing) : (s.stand f).axes = s.axes := by
  unfold State.stand
  dsimp only
  split <;> rfl

theorem State.report_axes (s : State) (a b c : Nat) (path : String) : (s.report a b c path).axes = s.axes :=
  axes_of_quiet (State.report_quiet ..)

theorem State.setFb_axes (s : State) (i : Nat) (f : FbCommon) : (s.setFb i f).axes = s.axes := by
  unfold State.setFb
  split
  · rfl
  · split <;> rfl

theorem State.setFb_standing (s : State) (i : Nat) (f : FbCommon) : (s.setFb i f).standing = s.standing := by
  unfold State.setFb
  split
  · rfl
  · split <;> rfl

theorem Ends.fb_eq {x t : State} (h : Ends x t) (i : Nat) : t.fb i = x.fb i := by
  unfold State.fb
  rw [h.enc_eq, h.res_eq, h.ssi_eq]

theorem State.drive_axes (s : State) (k : Nat) : (s.drive k).axes = s.axes := by
  unfold State.drive
  extract_lets r on n s1
  split
  · exact (axes_of_quiet (State.setPar_quiet s1 _ _ _ _)).trans rfl
  · rfl

theorem State.takeFbCfg_axes (s : State) (i : Nat) : (s.takeFbCfg i).axes = s.axes := by
  unfold State.takeFbCfg
  extract_lets was capped _ s1 comes r
  have h1 : s1.axes = s.axes := s.setFb_axes i _
  rw [← h1]
  split
  · split <;> rfl
  · split
    · exact State.drive_axes ..
    · rfl

theorem State.newReference_unused {s : State} {k : Nat} (h : s.axisOfIface k = none) (corr : Int) : s.newReference k corr = s := by
  unfold State.newReference
  rw [h]

theorem State.coldSpeed_unused {s : State} {k : Nat} (h : s.axisOfIface k = none) : s.coldSpeed k = s := by
  unfold State.coldSpeed
  rw [h]

theorem State.decideIndex_axes {s : State} {k : Nat} (h : s.axisOfIface k = none) (count : Int) : (s.decideIndex k count).axes = s.axes := by
  unfold State.decideIndex
  extract_lets e d tol correct sure s1
  have href (x : State) (hx : x.axes = s.axes) : (x.newReference k (-d)).axes = s.axes := by
    rw [State.newReference_unused ((State.axisOfIface_congr hx k).trans h), hx]
  split
  · exact href _ rfl
  · split
    · have h1 : s1.axes = s.axes := rfl
      split
      · exact (axes_of_quiet (State.incPar_quiet s1 _ _ _ _)).trans h1
      · exact h1
    · split
      · exact href _ rfl
      · rfl

theorem State.applyIndex_axes {s : State} {k : Nat} (h : s.axisOfIface k = none) : (s.applyIndex k).axes = s.axes := by
  unfold State.applyIndex
  extract_lets e s1
  split
  · rfl
  · refine List.foldlRecOn (motive := fun acc : State × Int => acc.1.axes = s.axes) e.idx _ rfl fun acc hacc c _ => ?_
    exact (State.decideIndex_axes ((State.axisOfIface_congr hacc k).trans h) _).trans hacc

theorem State.declareFaulty_axes {s : State} {i : Nat} (h : s.axisOfIface i = none) (code : Nat) : (s.declareFaulty i code).axes = s.axes := by
  unfold State.declareFaulty
  extract_lets f s1 ks s2
  split
  · exact State.setFb_axes ..
  · have h1 : s1.axes = s.axes := State.setFb_axes ..
    have hks : ks = [] := by
      unfold ks
      rw [State.axisOfIface_congr h1, h]
      rfl
    unfold s2
    rw [hks]
    exact (State.stand_axes ..).trans ((State.report_axes ..).trans h1)

theorem State.encSample_axes {s : State} {k : Nat} (h : s.axisOfIface k = none) (tSE prev : Nat) : (s.encSample k tSE prev).axes = s.axes := by
  unfold State.encSample
  extract_lets s1 s2 e ends still raw f cap v rep interp cpt a sp _ e1 st _ e2
  have h0 := s.takeFbCfg_axes k
  have h1 : s1.axes = s.axes := (State.applyIndex_axes ((State.axisOfIface_congr h0 k).trans h)).trans h0
  have h2 : s2.axes = s.axes := by
    unfold s2
    split
    · exact (State.declareFaulty_axes ((State.axisOfIface_congr h1 k).trans h) _).trans h1
    · exact h1
  rw [State.coldSpeed_unused ((State.axisOfIface_congr _ k).trans h)] <;> exact h2

theorem State.resSample_axes {s : State} {k : Nat} (h : s.axisOfIface (4 + k) = none) (tSE : Nat) : (s.resSample k tSE).axes = s.axes := by
  unfold State.resSample
  extract_lets i s1 r f a sp rep st r'
  have h1 : s1.axes = s.axes := s.takeFbCfg_axes i
  rw [State.coldSpeed_unused ((State.axisOfIface_congr _ i).trans h)] <;> exact h1

theorem State.ssiSample_axes {s : State} {k : Nat} (h : s.axisOfIface (6 + k) = none) (tSE period : Nat) :
    (s.ssiSample k tSE period).axes = s.axes := by
  unfold State.ssiSample
  dsimp only
  rw [State.coldSpeed_unused ((State.axisOfIface_congr _ (6 + k)).trans h)] <;> rfl

theorem State.fbSample_axes {s : State} {i : Nat} (h : s.axisOfIface i = none) (tSE period : Nat) : (s.fbSample i tSE period).axes = s.axes := by
  unfold State.fbSample
  extract_lets prev y
  rw [State.setFb_axes]
  unfold y
  split
  · exact State.encSample_axes h ..
  · split
    · exact State.resSample_axes (by rwa [Nat.add_sub_cancel' (by omega)]) ..
    · exact State.ssiSample_axes (by rwa [Nat.add_sub_cancel' (by omega)]) ..

/-! ### What sampling leaves of the interface -/

theorem fb_of_quiet {a b : State} (h : a.quiet = b.quiet) (i : Nat) : a.fb i = b.fb i := (congrArg (fun s : State => s.fb i) h :)

theorem fb_setFb (s : State) (i : Nat) (f : FbCommon) : (s.setFb i f).fb i = f := by
  unfold State.setFb State.fb
  split
  · rw [State.enc_setEnc_same]
  · split
    · rw [State.res_setRes_same]
    · rw [State.ssi_setSsi_same]

theorem fb_setPar (s : State) (p : Par) (v : Int) (i j n : Nat) : (s.setPar p v i j).fb n = s.fb n :=
  fb_of_quiet (State.setPar_quiet s p v i j) n

/-- A sample leaves its time in the interface. -/
theorem State.fbSample_sampleAt (s : State) (i tSE period : Nat) : ((s.fbSample i tSE period).fb i).sampleAt = tSE := by
  unfold State.fbSample
  extract_lets prev y
  have hy : (y.fb i).sampleAt = tSE := by
    unfold y
    split
    next hi =>
      unfold State.encSample
      extract_lets
      rw [fb_of_quiet (State.coldSpeed_quiet ..)]
      simp only [fb_setPar]
      rw [fb_of_enc _ hi, State.enc_setEnc_same]
    next hi =>
      split
      next hi' =>
        unfold State.resSample
        extract_lets
        rw [fb_of_quiet (State.coldSpeed_quiet ..)]
        simp only [fb_setPar]
        unfold State.fb
        rw [if_neg hi, if_pos hi', State.res_setRes_same]
      next hi' =>
        unfold State.ssiSample
        extract_lets
        rw [fb_of_quiet (State.coldSpeed_quiet ..)]
        simp only [fb_setPar]
        unfold State.fb
        rw [if_neg hi, if_neg hi', State.ssi_setSsi_same]
  rw [fb_setFb]
  exact hy

/-- What declares an interface faulty marks it, now. -/
theorem State.declareFaulty_marks (s : State) {i : Nat} (hi : i < 4) (code : Nat) :
    ((s.declareFaulty i code).enc i).fb.faulty = true ∧ ((s.declareFaulty i code).enc i).fb.clearSince = s.now := by
  unfold State.declareFaulty
  extract_lets f s1 ks s2
  split
  next hc =>
    rw [enc_setFb _ hi]
    exact ⟨hc.1, rfl⟩
  · have h2 : s2.quiet = s1.quiet := foldl_keeps State.quiet _ (fun x k => State.setBit_quiet x _ _ _ _ _) ks s1
    rw [enc_of_still (State.raiseAll_still ..), enc_of_quiet h2, enc_setFb _ hi]
    exact ⟨rfl, rfl⟩

theorem State.lineLow_of_lost {s : State} {k pair : Nat} (hm : s.fp k P.encMode k = 1) (hp : pair < 2)
    (h : pair ∈ bitsOf 3 (s.enc k).lineLoss) : s.lineLow k = true := by
  unfold State.lineLow
  rw [hm, decide_eq_true rfl, Bool.true_and, List.any_eq_true]
  exact ⟨pair, h, by simp [hp]⟩

theorem fp_setEnc {s : State} {k : Nat} (hk : k < 4) {e : Enc} (he : e.fb = (s.enc k).fb) (p : Par) (i : Nat) :
    (s.setEnc k e).fp k p i = s.fp k p i := by
  unfold State.fp
  rw [fb_of_enc _ hk, fb_of_enc _ hk, State.enc_setEnc_same, he]
  rfl

/-- A line lost declares its encoder faulty. -/
theorem fbLine_of_low {s : State} {k pair : Nat} (hk : k < 4) (hm : s.fp k P.encMode k = 1) (hp : pair < 2) :
    ((fbLine k pair true s).enc k).fb.faulty = true ∧ ((fbLine k pair true s).enc k).fb.clearSince = s.now := by
  unfold fbLine
  rw [if_neg (by omega)]
  extract_lets e m was s1
  have hlow : s1.lineLow k = true := by
    refine State.lineLow_of_lost (pair := pair) ((fp_setEnc hk (by rfl) _ _).trans hm) hp ?_
    unfold s1
    rw [State.enc_setEnc_same]
    exact mem_bitsOf (by omega) (bit_maskOf (by simp))
  rw [if_pos hlow, if_pos rfl]
  exact s1.declareFaulty_marks hk _

/-- The last lost line's return starts the time free of conditions. -/
theorem fbLine_of_return {s : State} {k pair : Nat} (hk : k < 4) (hm : s.fp k P.encMode k = 1) (hp : pair < 2)
    (hl : (s.enc k).lineLoss = 2 ^ pair) :
    fbLine k pair false s =
      let y := s.setEnc k { s.enc k with lineLoss := 0 }
      y.setFb k { y.fb k with clearSince := s.now } := by
  have hmask : maskOf ((bitsOf 3 (s.enc k).lineLoss).filter (· ≠ pair) ++ []) = 0 := by
    rw [hl]
    obtain rfl | rfl : pair = 0 ∨ pair = 1 := by omega
    · decide
    · decide
  have hwas : s.lineLow k = true := State.lineLow_of_lost hm hp (by
    rw [hl]
    exact mem_bitsOf (by omega) (by rw [Nat.div_self (Nat.two_pow_pos pair)]))
  have hnow : (s.setEnc k { s.enc k with lineLoss := 0 }).lineLow k = false := by
    unfold State.lineLow
    rw [State.enc_setEnc_same]
    simp [bitsOf]
  unfold fbLine
  rw [if_neg (by omega)]
  extract_lets e m was s1
  have h1 : s1 = s.setEnc k { s.enc k with lineLoss := 0 } := by
    unfold s1
    rw [show m = 0 from hmask]
  clear_value s1
  subst h1
  rw [if_neg (by rw [hnow]; decide), if_pos hwas]
  rfl

theorem feedbackSelfSample_of_due {s : State} {i : Nat} (hi : i < 10) (hset : s.ifaceSet i = true) (ha : s.axisOfIface i = none)
    (hat : (s.fb i).sampleAt + 50000 ≤ s.now) :
    ((feedbackSelfSample i s).fb i).sampleAt = s.now ∧ (feedbackSelfSample i s).axes = s.axes := by
  have h1 : ¬(10 ≤ i ∨ False ∨ s.now < (s.fb i).sampleAt + 50000) := by
    rw [false_or]
    omega
  unfold feedbackSelfSample
  rw [ha]
  extract_lets runs
  rw [if_neg (by simpa [runs] using h1), if_pos hset]
  refine ⟨State.fbSample_sampleAt .., ?_⟩
  have hax : (if lateIface i = true then s.takeFbCfg i else s).axes = s.axes := by
    split
    · exact s.takeFbCfg_axes i
    · rfl
  exact (State.fbSample_axes ((State.axisOfIface_congr hax i).trans ha) ..).trans hax

theorem State.unstandAll_enc (l : List Standing) (s : State) (k : Nat) : (l.foldl (fun s g => s.unstand g) s).enc k = s.enc k :=
  foldl_keeps (fun s : State => s.enc k) (fun s g => s.unstand g) (fun s g => (congrArg (fun z : State => z.enc k) (s.unstand_quiet g) :)) l s

theorem fbReturn_of_free {s : State} {k : Nat} (hk : k < 4) (hon : s.ifaceOn k = true) (hf : (s.enc k).fb.faulty = true)
    (hl : s.lineLow k = false) (hfa : (s.enc k).faults = []) (hc : (s.enc k).fb.clearSince + 1000000000 ≤ s.now) :
    ((fbReturn k s).enc k).fb.faulty = false ∧ ((fbReturn k s).enc k).still = true ∧ ((fbReturn k s).enc k).fb.filt = (s.enc k).fb.filt := by
  unfold fbReturn
  extract_lets f free s1 e e' _ s3 _ _ s2
  have hf' : f = (s.enc k).fb := fb_of_enc s hk
  have hfree : free = true := by
    unfold free
    rw [if_pos hk, hl, hfa]
    rfl
  rw [if_pos ⟨by omega, hon, by rw [hf']; exact hf, hfree, by rw [hf']; exact hc⟩, State.unstandAll_enc]
  have h1 : s1.enc k = { s.enc k with fb := { (s.enc k).fb with faulty := false } } := by
    rw [← hf']
    exact enc_setFb s hk _
  have h2 : (s2.enc k).fb.faulty = false ∧ (s2.enc k).still = true ∧ (s2.enc k).fb.filt = (s.enc k).fb.filt := by
    unfold s2
    rw [if_pos hk]
    have he : e = { s.enc k with fb := { (s.enc k).fb with faulty := false } } := h1
    have he' : e'.fb.faulty = false ∧ e'.still = true ∧ e'.fb.filt = (s.enc k).fb.filt := by simp [e', he]
    split
    · split
      · rw [State.enc_setEnc_same]
        exact he'
      · have h3 : (s3.enc k).fb.faulty = false ∧ (s3.enc k).still = true ∧ (s3.enc k).fb.filt = (s.enc k).fb.filt := by
          unfold s3
          rw [State.enc_setEnc_same]
          exact he'
        split
        · exact h3
        · exact h3
    · rw [State.enc_setEnc_same]
      exact he'
  exact h2

/-- Settles O17. -/
theorem interfaceHealth : Obligations.InterfaceHealth := by
  intro s0 τ s
  have hτ : τ ≤ (s0.at τ).now := Nat.le_max_right ..
  refine ⟨fun k pair hk hm hp => ?_, fun k pair hk hm hp hl => ?_, fun i hi hset ha hat => ?_, fun k hk hon hf hl hfa hc => ?_⟩
  · refine Does.of_answer rfl fun t ht => ?_
    rw [ht.enc_eq]
    exact fbLine_of_low (s := s0.at τ) hk hm hp
  · refine Does.of_answer (congrArg (answer s0) (fbLine_of_return (s := s0.at τ) hk hm hp hl)) fun t ht => ?_
    rw [ht.enc_eq, ht.axes, ht.standing, enc_setFb _ hk, State.setFb_axes, State.enc_setEnc_same]
    exact ⟨rfl, rfl, State.setFb_standing .., rfl⟩
  · refine Does.of_answer rfl fun t ht => ?_
    obtain ⟨h1, h2⟩ := feedbackSelfSample_of_due (s := s0.at τ) hi hset ha (hat.trans hτ)
    rw [ht.axes, ht.fb_eq]
    exact ⟨h1, h2⟩
  · refine Does.of_answer rfl fun t ht => ?_
    rw [ht.enc_eq]
    exact fbReturn_of_free (s := s0.at τ) hk hon hf hl hfa (hc.trans hτ)

end Sys2Proof.Machine
end

section
/-! # Resolvers and SSI frames -/
namespace Sys2Proof.Machine

theorem res_of_quiet {a b : State} (h : a.quiet = b.quiet) (k : Nat) : a.res k = b.res k := (congrArg (fun s : State => s.res k) h :)
theorem ssi_of_quiet {a b : State} (h : a.quiet = b.quiet) (k : Nat) : a.ssi k = b.ssi k := (congrArg (fun s : State => s.ssi k) h :)
theorem res_of_still {a b : State} (h : a.quiet.unmoved = b.quiet.unmoved) (k : Nat) : a.res k = b.res k := (congrArg (fun s : State => s.res k) h :)
theorem ssi_of_still {a b : State} (h : a.quiet.unmoved = b.quiet.unmoved) (k : Nat) : a.ssi k = b.ssi k := (congrArg (fun s : State => s.ssi k) h :)

/-- What declares an interface faulty changes its common record alone, among the resolvers and the SSI interfaces. -/
theorem State.declareFaulty_sets (s : State) (i code : Nat) :
    ∃ f : FbCommon, f.faulty = true ∧ (∀ k, (s.declareFaulty i code).res k = (s.setFb i f).res k) ∧
      ∀ k, (s.declareFaulty i code).ssi k = (s.setFb i f).ssi k := by
  unfold State.declareFaulty
  extract_lets f s1 ks s2
  split
  next hc => exact ⟨{ f with clearSince := s.now }, hc.1, fun _ => rfl, fun _ => rfl⟩
  · have h2 : s2.quiet = s1.quiet := foldl_keeps State.quiet _ (fun x k => State.setBit_quiet x _ _ _ _ _) ks s1
    refine ⟨{ f with faulty := true, filt := [], filtN := 0, taken := 0, warm := false, clearSince := s.now }, rfl, fun k => ?_, fun k => ?_⟩
    · rw [res_of_still (State.raiseAll_still ..), res_of_quiet h2]
    · rw [ssi_of_still (State.raiseAll_still ..), ssi_of_quiet h2]

theorem State.declareFaulty_res (s : State) {k : Nat} (hk : k < 2) (code : Nat) :
    ∃ f : FbCommon, f.faulty = true ∧ (s.declareFaulty (4 + k) code).res k = { s.res k with fb := f } := by
  obtain ⟨f, hf, h, -⟩ := s.declareFaulty_sets (4 + k) code
  refine ⟨f, hf, (h k).trans ?_⟩
  unfold State.setFb
  rw [if_neg (by omega), if_pos (by omega), Nat.add_sub_cancel_left, State.res_setRes_same]

theorem State.declareFaulty_ssi (s : State) (k code : Nat) :
    ∃ f : FbCommon, f.faulty = true ∧ (s.declareFaulty (6 + k) code).ssi k = { s.ssi k with fb := f } := by
  obtain ⟨f, hf, -, h⟩ := s.declareFaulty_sets (6 + k) code
  refine ⟨f, hf, (h k).trans ?_⟩
  unfold State.setFb
  rw [if_neg (by omega), if_neg (by omega), Nat.add_sub_cancel_left, State.ssi_setSsi_same]

/-! ### Resolvers -/

theorem resolverPair_of_due {s : State} {k : Nat} (hk : k < 2) (hon : s.ifaceOn (4 + k) = true) (x y : Int) {pos : Bool}
    (he : (s.res k).excOn = true) (hd : s.pairDue k pos = true) :
    ((resolverPair k x y pos s).res k).started = true ∧ ((resolverPair k x y pos s).res k).pairAt = s.now ∧
      ((resolverPair k x y pos s).res k).sinCode = clamp x (-32768) 32767 ∧
      ((resolverPair k x y pos s).res k).cosCode = clamp y (-32768) 32767 := by
  unfold resolverPair
  rw [if_neg (by simp [hk, hon, he, hd])]
  extract_lets
  split
  extract_lets
  split
  · obtain ⟨f, -, hf⟩ := State.declareFaulty_res _ hk 0x0504
    rw [hf, res_of_quiet (State.setPar_quiet _ _ _ _ _), State.res_setRes_same]
    exact ⟨rfl, rfl, rfl, rfl⟩
  · rw [res_of_quiet (State.setPar_quiet _ _ _ _ _), State.res_setRes_same]
    exact ⟨rfl, rfl, rfl, rfl⟩

theorem State.drive_res (s : State) (k : Nat) :
    ((s.drive k).res k).excOn = (s.res k).excOn ∧ ((s.drive k).res k).excAt = (s.res k).excAt ∧ ((s.drive k).res k).fb = (s.res k).fb := by
  unfold State.drive
  extract_lets r on n s1
  have h1 : (s1.res k).excOn = (s.res k).excOn ∧ (s1.res k).excAt = (s.res k).excAt ∧ (s1.res k).fb = (s.res k).fb := by
    unfold s1
    rw [State.res_setRes_same]
    exact ⟨rfl, rfl, rfl⟩
  split
  · rwa [res_of_quiet (State.setPar_quiet s1 _ _ _ _)]
  · exact h1

theorem State.drive_standing (s : State) (k : Nat) : (s.drive k).standing = s.standing := by
  unfold State.drive
  extract_lets r on n s1
  split
  · exact (standing_of_quiet (State.setPar_quiet s1 _ _ _ _)).trans rfl
  · rfl

theorem resExc_of_on {s : State} {k : Nat} (hk : k < 2) (hon : s.ifaceOn (4 + k) = true) (he : (s.res k).excOn = true) :
    ((resExc k s).res k).excOn = false ∧ ((resExc k s).res k).excAt = s.now ∧ ((resExc k s).res k).fb.faulty = true := by
  unfold resExc
  rw [if_pos ⟨hk, hon, he⟩]
  obtain ⟨f, hfa, hf⟩ := State.declareFaulty_res ((s.setRes k { s.res k with excOn := false, excAt := s.now }).drive k) hk 0x0505
  obtain ⟨h1, h2, -⟩ := State.drive_res (s.setRes k { s.res k with excOn := false, excAt := s.now }) k
  rw [State.res_setRes_same] at h1 h2
  rw [hf]
  exact ⟨h1, h2, hfa⟩

theorem resolverEvents : Parts.ResolverEvents := by
  intro s0 τ k s hk hon
  have hτ : τ ≤ (s0.at τ).now := Nat.le_max_right ..
  refine ⟨fun x y pos he hd => ?_, fun he => ?_, fun he hf hat => ?_⟩
  · refine Does.of_answer rfl fun t ht => ?_
    rw [ht.res_eq]
    exact resolverPair_of_due (s := s0.at τ) hk hon x y he hd
  · refine Does.of_answer rfl fun t ht => ?_
    rw [ht.res_eq]
    exact resExc_of_on (s := s0.at τ) hk hon he
  · have hx : resExcRestart k (s0.at τ) = _ :=
      if_pos (⟨hk, hon, hf, by simp only [Bool.not_eq_true]; exact he, hat.trans hτ⟩ : k < 2 ∧ _ ∧ _ ∧ _ ∧ _)
    refine Does.of_answer (congrArg (answer s0) hx) fun t ht => ?_
    rw [ht.res_eq, ht.axes, ht.standing, State.drive_axes, State.drive_standing]
    obtain ⟨h1, -, h3⟩ := State.drive_res ((s0.at τ).setRes k { (s0.at τ).res k with excOn := true, excAt := (s0.at τ).now, fb := { ((s0.at τ).res k).fb with clearSince := (s0.at τ).now } }) k
    rw [State.res_setRes_same] at h1 h3
    exact ⟨h1, congrArg FbCommon.clearSince h3, rfl, rfl⟩

/-! ### SSI frames -/

theorem ssiFrameStart_of_due {s : State} {k m : Nat} (hk : k < 4) (hon : s.ifaceOn (6 + k) = true) (hb : (s.ssi k).busy = false)
    (hi : (s.ssi k).idleAt + s.fpN (6 + k) P.ssiRecovery k * 1000 ≤ s.now) (ha : s.ssiAhead k = some m)
    (hev : s.par P.ssiEvery k ≤ (s.ssi k).seCount + m) (high : Bool) :
    ssiFrameStart k high s =
      s.setSsi k { s.ssi k with busy := true, startAt := s.now, endAt := s.now + s.ssiTime k, seCount := -(m : Int), startHigh := high } := by
  have h1 : ¬(4 ≤ k ∨ ¬s.ifaceOn (6 + k) = true ∨ (s.ssi k).busy = true ∨ s.now < (s.ssi k).idleAt + s.fpN (6 + k) P.ssiRecovery k * 1000) := by
    simp only [hon, hb, not_true_eq_false, Bool.false_eq_true, false_or]
    omega
  unfold ssiFrameStart
  rw [if_neg h1, ha]
  exact if_neg (Int.not_lt.mpr hev)

theorem State.ssiBad_ssi (s : State) (k : Nat) :
    ((s.ssiBad k).ssi k).busy = false ∧ ((s.ssiBad k).ssi k).badRun = (s.ssi k).badRun + 1 ∧ ((s.ssiBad k).ssi k).idleAt = s.now := by
  unfold State.ssiBad
  extract_lets x s1
  have h1 : s1.ssi k = { x with busy := false, idleAt := s.now, badRun := x.badRun + 1, firstFrame := false, firstDelay := false } :=
    (ssi_of_quiet (State.incPar_quiet _ _ _ _ _) k).trans (State.ssi_setSsi_same ..)
  split
  · obtain ⟨f, -, hf⟩ := s1.declareFaulty_ssi k 0x0506
    rw [hf, h1]
    exact ⟨rfl, rfl, rfl⟩
  · rw [h1]
    exact ⟨rfl, rfl, rfl⟩

theorem ssiFrameCheck_of_good {s : State} {k : Nat} (hk : k < 4) (hb : (s.ssi k).busy = true) (hen : s.fp (6 + k) P.ssiEn k = 1)
    (hh : (s.ssi k).startHigh = false) (hnow : s.now = (s.ssi k).endAt) (bits : Nat) {delay : Nat} (hd : delay ≤ 2000) :
    (((ssiFrameCheck k bits delay s).ssi k).busy = false ∧ ((ssiFrameCheck k bits delay s).ssi k).badRun = 0 ∧
      ((ssiFrameCheck k bits delay s).ssi k).fresh = true) ∧ (ssiFrameCheck k bits delay s).axes = s.axes ∧
      (ssiFrameCheck k bits delay s).standing = s.standing := by
  unfold ssiFrameCheck
  rw [if_neg (by simp [hk, hb, hnow]), if_neg (Nat.not_lt.mpr hd)]
  extract_lets i s1 capped n w crcOk life lifeOk s2 body sb stb pos dec ang mt sus raw x0 fb x
  have hq : s1.quiet = s.quiet := State.setPar_quiet _ _ _ _ _
  have hfp : s1.fp i P.ssiEn k = 1 := by
    rw [← hen]
    unfold State.fp
    rw [fb_of_quiet hq, State.par_setPar_other _ _ _ _ _ _ _ _ (by simp only [Par.pn, P.ssiDelayMeas, P.ssiEn]; omega)]
  have hcap : capped = false := by
    unfold capped
    rw [hfp]
    rfl
  have hgood : ¬((s.ssi k).startHigh = true ∨ ¬crcOk = true ∨ ¬lifeOk = true) := by
    simp [hh, crcOk, lifeOk, hcap]
  rw [if_neg hgood]
  have hax : ((s2.setSsi k x).setPar P.ssiMt mt k).quiet = (s2.setSsi k x).quiet := State.setPar_quiet _ _ _ _ _
  rw [ssi_of_quiet hax, State.ssi_setSsi_same, axes_of_quiet hax, standing_of_quiet hax]
  exact ⟨⟨rfl, rfl, rfl⟩, rfl, rfl⟩

theorem ssiFrames : Parts.SsiFrames := by
  intro s0 τ k s hk
  have hτ : τ ≤ (s0.at τ).now := Nat.le_max_right ..
  refine ⟨fun m high hon hb hi ha hev => ?_, fun hb hst => ?_, fun bits delay hb hen hh hnow hd => ?_⟩
  · refine Does.of_answer (congrArg (answer s0) (ssiFrameStart_of_due (s := s0.at τ) hk hon hb (hi.trans hτ) ha hev high)) fun t ht => ?_
    rw [ht.ssi_eq, State.ssi_setSsi_same]
    exact ⟨rfl, ht.params, ht.standing⟩
  · have hx : ssiTimeout k (s0.at τ) = _ := if_pos (⟨hk, hb, hst.trans hτ⟩ : k < 4 ∧ _ ∧ _)
    refine Does.of_answer (congrArg (answer s0) hx) fun t ht => ?_
    rw [ht.ssi_eq]
    exact (s0.at τ).ssiBad_ssi k
  · refine Does.of_answer rfl fun t ht => ?_
    obtain ⟨⟨h1, h2, h3⟩, h4, h5⟩ := ssiFrameCheck_of_good (s := s0.at τ) hk hb hen hh hnow bits hd
    rw [ht.ssi_eq, ht.axes, ht.standing]
    exact ⟨h1, h2, h3, h4, h5⟩

/-- Settles O16. -/
theorem resolversAndSsi : Obligations.ResolversAndSsi := ⟨resolverEvents, ssiFrames⟩

end Sys2Proof.Machine
end

section
/-! # The speed loop

A tick of a running axis: what its faults can do to the axis, and the setpoint set it commits. -/
namespace Sys2Proof.Machine

/-! ### The tick's own record -/

theorem State.hiveUnits_tickAt (s : State) (sp : AxSpeed) (into : Bool) : (s.hiveUnits sp into).tickAt = sp.tickAt := by
  unfold State.hiveUnits
  extract_lets
  split <;> rfl

theorem State.tickStart_tickAt (s : State) (k : Nat) (w : Int) (speed hive : Bool) :
    (s.tickStart k w speed hive).tickAt = (s.ax k).speed.tickAt := by
  have h0 := s.hiveUnits_tickAt (s.ax k).speed hive
  unfold State.tickStart
  extract_lets a sp cmd held sp1
  have h1 : sp1.tickAt = (s.ax k).speed.tickAt := by
    unfold sp1
    split
    · unfold held
      split
      · exact h0
      · exact h0
    · exact h0
  split
  · exact h1
  · exact h1

theorem State.snatch_tickAt (s : State) (k : Nat) (w : Int) (speed act : Bool) (sp : AxSpeed) :
    (s.snatch k w speed act sp).1.tickAt = sp.tickAt := by
  unfold State.snatch
  split <;> rfl

theorem State.ventilate_tickAt (s : State) (k : Nat) (w : Int) (act : Bool) (sp : AxSpeed) :
    (s.ventilate k w act sp).1.tickAt = sp.tickAt := by
  unfold State.ventilate
  split
  · rfl
  · split <;> rfl

/-- What the speed loop leaves for the Hearth: the commit bit of the buffer and the time of the tick. -/
def State.tickView (s : State) (k : Nat) : Bool × Nat := ((s.ax k).hearth.commit, (s.ax k).speed.tickAt)

theorem State.tickView_of_quiet {s t : State} (h : t.quiet = s.quiet) (k : Nat) : t.tickView k = s.tickView k :=
  (congrArg (fun x : State => x.tickView k) h :)

theorem State.tickView_setPar (s : State) (p : Par) (v : Int) (i j k : Nat) : (s.setPar p v i j).tickView k = s.tickView k :=
  State.tickView_of_quiet (State.setPar_quiet s p v i j) k

theorem State.tickView_setBit (s : State) (p : Par) (m : Nat) (b : Bool) (i j k : Nat) : (s.setBit p m b i j).tickView k = s.tickView k :=
  State.tickView_of_quiet (State.setBit_quiet s p m b i j) k

theorem State.zeroTrack_tickView (s : State) (k : Nat) : (s.zeroTrack k).tickView k = s.tickView k := by
  unfold State.zeroTrack State.tickView
  dsimp only
  rw [State.ax_modAx_same]

/-- A tick of the loop commits a setpoint set. -/
theorem State.loopTick_tickView (s : State) (k : Nat) : (s.loopTick k).tickView k = (true, (s.ax k).speed.tickAt) := by
  have hsnatch (x : State) (b : Bool) :
      (if b then (x.incPar P.snatchCount k).driveEvent k 0 else x).tickView k = x.tickView k := by
    split
    · exact State.tickView_of_quiet ((State.driveEvent_quiet ..).trans (State.incPar_quiet x _ _ _ _)) k
    · rfl
  have hring (x : State) (c d : Prop) [Decidable c] [Decidable d] (r r' : Ring) :
      (if c then { x with ring := r } else if d then { x with ring := r' } else x).tickView k = x.tickView k := by
    split
    · rfl
    · split <;> rfl
  have hcommit (x : State) (f : Axis → AxSpeed) (g : Axis → AxHearth) :
      (x.modAx k fun a => { a with speed := f a, hearth := g a }).tickView k = ((g (x.ax k)).commit, (f (x.ax k)).tickAt) := by
    unfold State.tickView
    rw [State.ax_modAx_same]
  unfold State.loopTick
  simp only [State.zeroTrack_tickView, hsnatch, State.tickView_setBit, State.tickView_setPar, hring, hcommit]
  have hobs (c : Prop) [Decidable c] (sp : AxSpeed) (w tau tm bw f : Int) : (if c then sp else observe w tau tm bw f sp).tickAt = sp.tickAt := by
    split <;> rfl
  rw [State.ventilate_tickAt, State.snatch_tickAt, hobs, State.tickStart_tickAt]

/-! ### Quick stops with a try -/

/-- What a move writes into the axis. -/
def Axis.moved (a : Axis) (st : AxState) : Axis :=
  let a' := if a.st.runs then a.leaveRun else a
  let a' := if st = .running then a'.enterRun else a'
  let a' := if st.runs then { a' with speed := { a'.speed with fresh := true } } else a'
  let a' := if st = .stopping then a' else { a' with hearth := { a'.hearth with silentTau := none } }
  let a' := if st = .emergency ∨ st = .faultRetry then a' else { a' with emgDiag := false }
  { a' with st := st, prev := a.st }

theorem State.moveAxis_moved (s : State) (k : Nat) (st : AxState) : (s.moveAxis k st).ax k = (s.ax k).moved st := by
  unfold State.moveAxis
  extract_lets a a1 a2 _ a3 _ a4 a5 s1 s2
  have h2 : s2.quiet = s1.quiet := by
    unfold s2
    rw [State.syncProc_quiet]
    split
    · exact State.setBit_quiet s1 _ _ _ _ _
    · rfl
  rw [State.silentEnds_ax, ax_of_quiet ((State.notify_quiet ..).trans h2)]
  exact State.ax_setAx_same ..

/-- What a move leaves of an axis. -/
def Axis.unmoved (a : Axis) : StopKind × StopEnd × Option Turn × Nat × EcPin := (a.stop, a.stopEnd, a.turn, a.speed.tickAt, a.ec)

theorem Axis.moved_unmoved (a : Axis) (st : AxState) : (a.moved st).unmoved = a.unmoved := by
  unfold Axis.moved
  extract_lets a1 a2 _ a3 _ a4 a5
  have h1 : a1.unmoved = a.unmoved := by unfold a1; split <;> rfl
  have h2 : a2.unmoved = a1.unmoved := by unfold a2; split <;> rfl
  have h3 : a3.unmoved = a2.unmoved := by unfold a3; split <;> rfl
  have h4 : a4.unmoved = a3.unmoved := by unfold a4; split <;> rfl
  have h5 : a5.unmoved = a4.unmoved := by unfold a5; split <;> rfl
  exact h5.trans (h4.trans (h3.trans (h2.trans h1)))

/-- An axis that runs, or stops with a try to follow, and that no higher trigger has moved in this period. -/
def Axis.Quick (a : Axis) (now tick : Nat) : Prop :=
  (a.st = .running ∨ a.st = .stopping ∧ ∃ c, a.stop = .fault true c) ∧ a.speed.tickAt = tick ∧
    ∀ t, a.turn = some t → now < t.till → t.rank ≤ 3

theorem Axis.Quick.stopped {a : Axis} {now tick : Nat} (hs : ∃ c, a.stop = .fault true c) (ht : a.speed.tickAt = tick)
    (hturn : ∀ t, a.turn = some t → now < t.till → t.rank ≤ 3) : (a.moved .stopping).Quick now tick := by
  have hun := a.moved_unmoved .stopping
  simp only [Axis.unmoved, Prod.mk.injEq] at hun
  obtain ⟨hstop, -, hturn', htick', -⟩ := hun
  obtain ⟨c, hc⟩ := hs
  exact ⟨.inr ⟨rfl, c, hstop.trans hc⟩, htick'.trans ht, fun t ht => hturn t (hturn'.symm.trans ht)⟩

def State.Quick (s : State) (k now tick : Nat) : Prop := s.now = now ∧ (s.ax k).Quick now tick

theorem State.Quick.of_quiet {s t : State} {k now tick : Nat} (h : s.Quick k now tick) (hq : t.quiet = s.quiet) : t.Quick k now tick := by
  have hnow : t.now = s.now := (congrArg State.now hq :)
  unfold State.Quick
  rw [ax_of_quiet hq, hnow]
  exact h

theorem State.Quick.arb {s : State} {k now tick : Nat} (h : s.Quick k now tick) : (s.arb k 3).1.Quick k now tick := by
  obtain ⟨hnow, hst, htick, hturn⟩ := h
  have hfresh : (s.setAx k { s.ax k with turn := (s.periodEnd k).map fun till => (s.ax k).mark till 3 }).Quick k now tick := by
    refine ⟨hnow, ?_⟩
    rw [State.ax_setAx_same]
    refine ⟨hst, htick, fun t ht _ => ?_⟩
    obtain ⟨till, -, rfl⟩ := Option.map_eq_some_iff.mp ht
    exact le_rfl
  unfold State.arb
  extract_lets a fresh
  split
  next t ht =>
    split
    · exact hfresh
    next hlate =>
      split
      · exact ⟨hnow, hst, htick, hturn⟩
      · split
        next hlow => exact absurd (hturn t ht (by omega)) (by omega)
        · exact ⟨hnow, hst, htick, hturn⟩
  · exact hfresh

theorem State.Quick.quickFault {s : State} {k now tick : Nat} (h : s.Quick k now tick) (counted : Bool) :
    (s.quickFault k true counted).Quick k now tick := by
  obtain ⟨hnow, hst, htick, hturn⟩ := h
  have hsw : s.switching k = true := by
    unfold State.switching
    obtain h | ⟨h, -⟩ := hst <;> rw [h]
  unfold State.quickFault
  simp only [Bool.not_true, Bool.false_and, Bool.false_eq_true, if_false, hsw, not_true_eq_false, and_false]
  obtain h | ⟨h, c, hc⟩ := hst
  · rw [if_neg (by rw [h]; decide)]
    refine ⟨(congrArg State.now (State.moveAxis_still ..) :).trans hnow, ?_⟩
    rw [State.moveAxis_moved, State.ax_modAx_same]
    exact Axis.Quick.stopped ⟨counted, rfl⟩ htick hturn
  · rw [if_pos h, hc]
    refine ⟨hnow, ?_⟩
    dsimp only
    rw [State.ax_modAx_same]
    exact ⟨.inr ⟨h, _, rfl⟩, htick, hturn⟩

theorem State.Quick.arbReact {s : State} {k now tick : Nat} (h : s.Quick k now tick) {r : React} (hr : r = .qRetry ∨ r = .qRetryFree) :
    (s.arbReact k r false).1.Quick k now tick := by
  obtain rfl | rfl := hr
  · exact h.arb
  · exact h.arb

theorem State.Quick.react {s : State} {k now tick : Nat} (h : s.Quick k now tick) {r : React} (hr : r = .qRetry ∨ r = .qRetryFree)
    (c : Prop) [Decidable c] : (if c then s.react k r false else s).Quick k now tick := by
  split
  · obtain rfl | rfl := hr
    · exact h.quickFault true
    · exact h.quickFault false
  · exact h

theorem State.Quick.enterRecord {s : State} {k now tick : Nat} (h : s.Quick k now tick) (code inst : Nat) (path : String)
    (c : Prop) [Decidable c] : (if c then s.enterRecord code k inst 2 path false else s).Quick k now tick := by
  split
  · have hq := s.enterRecord_quiet_standing code k inst 2 path false
    exact ⟨(congrArg State.now hq :).trans h.1, (ax_of_quiet hq k).symm ▸ h.2⟩
  · exact h

theorem State.Quick.applySafe {s : State} {k now tick : Nat} (h : s.Quick k now tick) (code : Nat) : (s.applySafe k 2 code).Quick k now tick :=
  h.of_quiet (State.setPar_quiet s _ _ _ _)

theorem State.Quick.markLatched {s : State} {k now tick : Nat} (h : s.Quick k now tick) (b : Bool) : (s.markLatched b).Quick k now tick :=
  h.of_quiet (State.markLatched_quiet ..)

theorem State.Quick.raiseOn {s : State} {k now tick : Nat} (h : s.Quick k now tick) {code : Nat} {r : React}
    (hrow : faultRow code true = (2, r)) (hr : r = .qRetry ∨ r = .qRetryFree) (inst : Nat) (path : String) :
    (s.raiseOn code k inst path).Quick k now tick := by
  unfold State.raiseOn
  rw [hrow]
  exact ((((h.arbReact hr).enterRecord code inst path _).applySafe code).react hr _).markLatched _

theorem State.Quick.i2tUpdate {s : State} {k now tick : Nat} (h : s.Quick k now tick) : (s.i2tUpdate k).Quick k now tick := by
  obtain ⟨hnow, hax⟩ := h
  have hraise {x : State} (c : Prop) [Decidable c] {code : Nat} (hrow : faultRow code true = (2, .qRetry)) (hx : x.Quick k now tick) :
      (if c then x.raiseOn code k k "CTL/HOUSE" else x).Quick k now tick := by
    split
    · exact hx.raiseOn hrow (.inl rfl) k _
    · exact hx
  unfold State.i2tUpdate
  extract_lets bs f im is a ic ics tm ts stp xm xs _ s1 s2 s3 s4
  have h1 : s1.Quick k now tick := ⟨hnow, by
    unfold s1
    rw [State.ax_setAx_same]
    exact hax⟩
  have h2 : s2.Quick k now tick := by
    refine foldl_holds (p := fun x => x.Quick k now tick) (fun x _ hx => ?_) bs h1
    exact hx
  have h3 : s3.Quick k now tick := h2.of_quiet ((State.setPar_quiet _ _ _ _ _).trans (State.setPar_quiet s2 _ _ _ _))
  exact hraise _ rfl (hraise _ rfl h3)

/-! ### The tick -/

theorem State.thermBase_ax (s : State) (k : Nat) (tau : Int) (started : Bool) (i : Nat) : (s.thermBase k tau started).ax i = s.ax i := by
  unfold State.thermBase
  extract_lets
  split
  · rfl
  · split <;> rfl

theorem speedLoopTick_tickView {s : State} {k : Nat} (hk : k < 4) (hc : s.coresRun = true) (hst : (s.ax k).st = .running)
    (hu : (s.ax k).speed.uvStop = false) (hf : s.freeTurn s.now k = true)
    (ht : (s.ax k).speed.tickAt + 1000000000 / max 1 (s.spN k P.speedLoopFreq) ≤ s.now) :
    (speedLoopTick k s).tickView k = (true, s.now) := by
  have hcond : ¬(4 ≤ k ∨ ¬s.coresRun = true ∨ s.now < (s.ax k).speed.tickAt + 1000000000 / max 1 (s.spN k P.speedLoopFreq)) := by
    simp only [hc, not_true_eq_false, false_or]
    omega
  unfold speedLoopTick
  rw [if_neg hcond]
  extract_lets s1 s2 s3
  have hu' : ((s.modAx k fun a => { a with speed := { a.speed with tickAt := s.now, held := [] } }).ax k).speed.uvStop = false := by
    rw [State.ax_modAx_same]
    exact hu
  have h1 : s1.Quick k s.now s.now := by
    unfold s1 State.uvTick
    rw [hu', if_neg Bool.false_ne_true]
    refine State.Quick.i2tUpdate ⟨rfl, ?_⟩
    rw [State.ax_modAx_same]
    refine ⟨.inl hst, rfl, fun t htu hlate => ?_⟩
    unfold State.freeTurn at hf
    rw [show (s.ax k).turn = some t from htu] at hf
    exact absurd (of_decide_eq_true hf) (by omega)
  have h2 : s2.Quick k s.now s.now := by
    unfold s2
    split
    · exact h1.raiseOn rfl (.inr rfl) k _
    · exact h1
  obtain ⟨-, hst2, htick, -⟩ := h2
  have hmoving : (s2.ax k).st.moving = true := by
    obtain h | ⟨h, -⟩ := hst2 <;> rw [h] <;> rfl
  rw [if_pos hmoving, State.loopTick_tickView, htick]

theorem speedLoopCommits : Parts.SpeedLoopCommits := by
  intro s0 τ k s hk hc hst _ hu hf ht
  refine Does.of_answer rfl fun t hends => ?_
  have h := speedLoopTick_tickView (s := s0.at τ) hk hc hst hu (State.at_freeTurn hf) (ht.trans (Nat.le_max_right ..))
  simp only [State.tickView, Prod.mk.injEq] at h
  rw [hends.ax_eq]
  exact h.symm

end Sys2Proof.Machine
end

section
/-! # Axes under switching off

What the operations that switch an axis off, hold its cells and move it leave of the axes. -/
namespace Sys2Proof.Machine

theorem State.putChan_axes (s : State) (c : Nat) (x : Chan) : (s.putChan c x).axes = s.axes := rfl

theorem State.turnOff_axes (s : State) (c : Nat) : (s.turnOff c).axes = s.axes := by
  unfold State.turnOff
  extract_lets
  split <;> rfl

theorem State.softOff_axes (s : State) (c : Nat) (latch : Bool) : (s.softOff c latch).axes = s.axes := by
  unfold State.softOff
  extract_lets
  split
  · rfl
  · split <;> rfl

theorem State.turnOn_axes (s : State) (c : Nat) : (s.turnOn c).axes = s.axes := by
  unfold State.turnOn
  extract_lets
  split
  · rfl
  · split
    · rfl
    · split
      · rfl
      · split <;> rfl

theorem State.axisOff_axes (s : State) (k : Nat) : (s.axisOff k).axes = s.axes := each_keeps _ _ (fun c s => s.turnOff_axes c) _ s
theorem State.axisSoft_axes (s : State) (k : Nat) : (s.axisSoft k).axes = s.axes := each_keeps _ _ (fun c s => s.softOff_axes c true) _ s

theorem State.raiseLine_axes (s : State) (k : Nat) : (s.raiseLine k).axes = s.axes := axes_of_quiet (State.raiseLine_quiet ..)

theorem State.holdCells_axes (s : State) (cause : Nat) (cells : List Nat) : (s.holdCells cause cells).axes = s.axes := by
  unfold State.holdCells
  extract_lets fresh m _ s1 s2
  have h2 : s2.axes = s.axes := each_keeps State.axes _ (fun g x => (State.softOff_axes ..).trans (State.softOff_axes ..)) _ s1
  split
  · exact h2
  · exact (State.raiseLine_axes ..).trans h2

theorem State.ss1Chopper_axes (s : State) : s.ss1Chopper.axes = s.axes := by
  unfold State.ss1Chopper
  split
  · exact State.holdCells_axes ..
  · rfl

theorem State.ax_of_axes {s t : State} (h : t.axes = s.axes) (k : Nat) : t.ax k = s.ax k := congrArg (fun l : Tab Axis => tget l {} k) h

theorem State.moveAxis_ax_other (s : State) (k : Nat) (st : AxState) {i : Nat} (hi : k ≠ i) : (s.moveAxis k st).ax i = s.ax i := by
  unfold State.moveAxis
  extract_lets a a1 a2 _ a3 _ a4 a5 s1 s2
  have h2 : s2.quiet = s1.quiet := by
    unfold s2
    rw [State.syncProc_quiet]
    split
    · exact State.setBit_quiet s1 _ _ _ _ _
    · rfl
  rw [State.silentEnds_ax, ax_of_quiet ((State.notify_quiet ..).trans h2)]
  exact State.ax_setAx_other _ _ _ _ hi

theorem State.stopLane_ax (s : State) (k : Nat) :
    (s.stopLane k).axes = (s.modAx k fun a => { a with hearth := { a.hearth with balSince := none } }).axes := by
  unfold State.stopLane
  extract_lets n l s1 s2 s3 s4
  have h2 : s2.quiet = s1.quiet := (State.setBit_quiet _ _ _ _ _ _).trans (State.setBit_quiet s1 _ _ _ _ _)
  have h3 : s3.axes = (s.modAx k fun a => { a with hearth := { a.hearth with balSince := none } }).axes := by
    unfold s3 State.modAx State.setAx
    rw [ax_of_quiet h2, axes_of_quiet h2]
    rfl
  have h4 : s4.axes = s3.axes := foldl_keeps State.axes (fun (x : State) b => x.setBridge b { x.bridge b with convAt := x.now, pred := [0, 0, 0] }) (fun _ _ => rfl) _ _
  rw [← h3, ← h4]
  split
  · exact axes_of_quiet (State.setPar_quiet s4 _ _ _ _)
  · rfl

theorem State.endEpisode_axes (s : State) (k : Nat) (f : Axis → Axis) : (s.endEpisode k f).axes = (s.modAx k fun a => f a.endProc).axes :=
  axes_of_quiet (State.setBit_quiet (s.modAx k fun a => f a.endProc) _ _ _ _ _)

/-- An axis that ends in a state without switching. -/
theorem State.toIdle_ax (s : State) (k : Nat) (st : AxState) : ((s.toIdle k st).ax k).st = st ∧ ((s.toIdle k st).ax k).prev = (s.ax k).st := by
  unfold State.toIdle
  extract_lets s1
  have h1 : (s1.ax k).st = (s.ax k).st := by
    unfold s1
    split
    · rw [State.ax_of_axes (State.stopLane_ax ..), State.ax_modAx_same, State.ax_of_axes (State.axisOff_axes ..)]
    · rfl
  rw [State.moveAxis_moved, State.ax_of_axes (State.endEpisode_axes ..), State.ax_modAx_same]
  exact ⟨rfl, h1⟩

theorem State.endPrecheckCells_ax (s : State) (k : Nat) : (s.endPrecheckCells k).ax k = { s.ax k with precheck := none } := by
  unfold State.endPrecheckCells
  split
  next h => rw [← h]
  next p h =>
    rw [State.ax_modAx_same]
    unfold State.testCurrent
    split <;> rfl

theorem State.endPrecheckCells_ax_other (s : State) (k : Nat) {i : Nat} (hi : k ≠ i) : (s.endPrecheckCells k).ax i = s.ax i := by
  unfold State.endPrecheckCells
  split
  · rfl
  · refine (State.ax_setAx_other _ _ _ _ hi).trans ?_
    unfold State.testCurrent
    split <;> rfl

theorem State.endPrecheck_ax (s : State) (k status i : Nat) : (s.endPrecheck k status).ax i = (s.endPrecheckCells k).ax i :=
  ax_of_quiet (State.endOp_quiet ..) i

/-- An axis with its Cellar cause held enters STO. -/
theorem State.enterSto_ax (s : State) (k : Nat) :
    ((s.enterSto k).ax k).st = .sto ∧ ((s.ax k).st ≠ .sto → ((s.enterSto k).ax k).prev = (s.ax k).st) := by
  unfold State.enterSto
  extract_lets st s1 s2
  split
  next h => exact ⟨h, fun hn => absurd h hn⟩
  · have h1 : (s1.ax k).st = (s.ax k).st := by
      unfold s1
      rw [State.endPrecheck_ax, State.endPrecheckCells_ax]
    have h2 : (s2.ax k).st = (s.ax k).st := by
      unfold s2
      split
      · rw [State.ax_of_axes (State.stopLane_ax ..), State.ax_modAx_same]
        exact h1
      · exact h1
    rw [State.moveAxis_moved, State.ax_of_axes (State.endEpisode_axes ..), State.ax_modAx_same]
    exact ⟨rfl, fun _ => h2⟩

theorem State.stoEnd_ax {s : State} {k : Nat} (h : (s.ax k).st ≠ .sto) :
    ((s.stoEnd k).ax k).st = .sto ∧ ((s.stoEnd k).ax k).prev = (s.ax k).st := by
  obtain ⟨h1, h2⟩ := (s.holdCells 1 (s.cellsOf k)).enterSto_ax k
  have hax := State.ax_of_axes (s.holdCells_axes 1 (s.cellsOf k)) k
  rw [hax] at h2
  unfold State.stoEnd
  rw [State.ax_of_axes (State.ss1Chopper_axes _)]
  exact ⟨h1, h2 h⟩

/-! ### The shock guards and the end of a stop -/

/-- An axis whose speed record is replaced, and an event written. -/
theorem State.speed_of_replaced {s t : State} {k : Nat} (f : Axis → AxSpeed) (h : t.quiet = (s.modAx k fun a => { a with speed := f a }).quiet) :
    (t.ax k).speed = f (s.ax k) ∧ (t.ax k).st = (s.ax k).st ∧ t.standing = s.standing := by
  rw [ax_of_quiet h, State.ax_modAx_same]
  exact ⟨rfl, rfl, (standing_of_quiet h).trans rfl⟩

theorem snatchDwellEnd_quiet {s : State} {k t0 : Nat} (hk : k < 4) (hc : (s.ax k).speed.calmSince = some t0)
    (hr : (s.ax k).speed.render = true) (ht : t0 + s.spN k P.snatchDwell * 1000000 ≤ s.now) :
    (snatchDwellEnd k s).quiet = (s.modAx k fun a => { a with speed := { (s.ax k).speed with
      render := false, payHold := false, calmSince := none, wRef := s.loopSpeed k (s.ax k).speed.inHive } }).quiet := by
  have hcond : k < 4 ∧ (s.ax k).speed.render = true ∧ t0 + s.spN k P.snatchDwell * 1000000 ≤ s.now := ⟨hk, hr, ht⟩
  unfold snatchDwellEnd
  simp only [hc, if_pos hcond, State.driveEvent_quiet]

theorem ventSet_quiet {s : State} {k t0 : Nat} (hk : k < 4) (hc : (s.ax k).speed.ventLowSince = some t0)
    (hv : (s.ax k).speed.vented = false) (ht : t0 + s.spN k P.ventDetect * 1000000 ≤ s.now) :
    (ventSet k s).quiet = (s.modAx k fun a => { a with speed := { (s.ax k).speed with
      vented := true, ventV := s.par P.posSpeed k, ventLowSince := none, ventHighSince := none, ventCap := none } }).quiet := by
  have hcond : k < 4 ∧ ¬(s.ax k).speed.vented = true ∧ t0 + s.spN k P.ventDetect * 1000000 ≤ s.now := ⟨hk, by rw [hv]; decide, ht⟩
  unfold ventSet
  simp only [hc, if_pos hcond, State.driveEvent_quiet, State.incPar_quiet]

theorem ventEnd_quiet {s : State} {k t0 : Nat} (hk : k < 4) (hc : (s.ax k).speed.ventHighSince = some t0)
    (hv : (s.ax k).speed.vented = true) (ht : t0 + s.spN k P.ventDetect * 1000000 ≤ s.now) :
    (ventEnd k s).quiet = (s.modAx k fun a => { a with speed := { (s.ax k).speed with
      vented := false, ventHighSince := none, ventCap := some (rdiv (s.sp k P.ventHold * iabs (s.tlExp k (s.ax k).speed.ventV)) 1000) } }).quiet := by
  have hcond : k < 4 ∧ (s.ax k).speed.vented = true ∧ t0 + s.spN k P.ventDetect * 1000000 ≤ s.now := ⟨hk, hv, ht⟩
  unfold ventEnd
  simp only [hc, if_pos hcond, State.driveEvent_quiet]

theorem shockGuards : Parts.ShockGuards := by
  intro s0 τ k t0 s hk
  have hτ : τ ≤ (s0.at τ).now := Nat.le_max_right ..
  refine ⟨fun hc hr ht => ?_, fun hc hv ht => ?_, fun hc hv ht => ?_⟩
  · refine Does.of_answer rfl fun t hends => ?_
    obtain ⟨h1, h2⟩ := State.speed_of_replaced _ (snatchDwellEnd_quiet (s := s0.at τ) hk hc hr (ht.trans hτ))
    rw [hends.ax_eq, hends.standing, h1]
    exact ⟨rfl, rfl, h2⟩
  · refine Does.of_answer rfl fun t hends => ?_
    obtain ⟨h1, h2⟩ := State.speed_of_replaced _ (ventSet_quiet (s := s0.at τ) hk hc hv (ht.trans hτ))
    rw [hends.ax_eq, hends.standing, h1]
    exact ⟨rfl, rfl, h2⟩
  · refine Does.of_answer rfl fun t hends => ?_
    obtain ⟨h1, h2⟩ := State.speed_of_replaced _ (ventEnd_quiet (s := s0.at τ) hk hc hv (ht.trans hτ))
    rw [hends.ax_eq, hends.standing, h1]
    exact ⟨rfl, rfl, h2⟩

theorem stopEndsAtStandstill : Parts.StopEndsAtStandstill := by
  intro s0 τ k t0 s hk hst hz ht
  have hx : standstillReached k (s0.at τ) = (s0.at τ).endStop k := by
    unfold standstillReached
    dsimp only
    rw [show ((s0.at τ).ax k).speed.zeroSince = some t0 from hz]
    exact if_pos ⟨hk, hst, ht.trans (Nat.le_max_right ..)⟩
  have hax : ((s0.at τ).settle k).ax k = { s.ax k with turn := none } := State.ax_modAx_same ..
  have hend (e : StopEnd) (he : (s.ax k).stopEnd = e) : (((s0.at τ).settle k).ax k).stopEnd = e := by rw [hax]; exact he
  have hst' : (((s0.at τ).settle k).ax k).st = .stopping := by rw [hax]; exact hst
  refine ⟨fun he => ?_, fun he => ?_, fun he => ?_⟩
  · have hy : (s0.at τ).endStop k = ((s0.at τ).settle k).toIdle k .ready := by
      unfold State.endStop
      dsimp only
      rw [hend _ he]
    refine Does.of_answer (congrArg (answer s0) (hx.trans hy)) fun t ht => ?_
    rw [ht.ax_eq, ← hst']
    exact State.toIdle_ax ..
  · have hy : (s0.at τ).endStop k = ((s0.at τ).settle k).toIdle k .disabled := by
      unfold State.endStop
      dsimp only
      rw [hend _ he]
    refine Does.of_answer (congrArg (answer s0) (hx.trans hy)) fun t ht => ?_
    rw [ht.ax_eq, ← hst']
    exact State.toIdle_ax ..
  · have hy : (s0.at τ).endStop k = ((s0.at τ).settle k).stoEnd k := by
      unfold State.endStop
      dsimp only
      rw [hend _ he]
    refine Does.of_answer (congrArg (answer s0) (hx.trans hy)) fun t ht => ?_
    rw [ht.ax_eq, ← hst']
    exact State.stoEnd_ax (by rw [hst']; decide)

/-- Settles O18. -/
theorem speedLoop : Obligations.SpeedLoop := ⟨speedLoopCommits, shockGuards, stopEndsAtStandstill⟩

end Sys2Proof.Machine
end

section
/-! # DC links and emergency command pins -/
namespace Sys2Proof.Machine

/-- What a fault keeps of an axis stays through its raising. -/
theorem quietSafe_axis {β : Type} (g : Axis → β) (hg : ∀ a b, a.kept = b.kept → g a = g b) (i : Nat) (v : β) :
    QuietSafe fun s => g (s.ax i) = v where
  quiet h hs := (congrArg (fun x : State => g (x.ax i)) h :).trans hs
  ax {s} k a ha hs := by
    obtain rfl | hne := eq_or_ne k i
    · rw [State.ax_setAx_same, hg _ _ ha]
      exact hs
    · rw [State.ax_setAx_other _ _ _ _ hne]
      exact hs
  lanes _ hs := hs
  chans _ hs := hs
  cells _ hs := hs
  cellar _ hs := hs
  standing _ hs := hs
  stopped _ hs := hs

theorem raiseSafe_ec (i : Nat) (v : EcPin) : RaiseSafe fun s => (s.ax i).ec = v :=
  (quietSafe_axis Axis.ec (fun _ _ h => congrArg Prod.fst h) i v).raise

/-! ### What the pin's record outlives -/

theorem State.ec_modAx (s : State) (k i : Nat) (f : Axis → Axis) (hf : ∀ a, (f a).ec = a.ec) : ((s.modAx k f).ax i).ec = (s.ax i).ec := by
  obtain rfl | hne := eq_or_ne k i
  · rw [State.ax_modAx_same, hf]
  · exact congrArg Axis.ec (State.ax_setAx_other _ _ _ _ hne)

theorem State.ec_of_quiet {s t : State} (h : t.quiet = s.quiet) (i : Nat) : (t.ax i).ec = (s.ax i).ec := congrArg Axis.ec (ax_of_quiet h i)

theorem State.startBridge_ec (s : State) (k : Nat) (p : Precheck) (i : Nat) : ((s.startBridge k p).ax i).ec = (s.ax i).ec := by
  have hp := raiseSafe_ec i (s.ax i).ec
  have hfails {x : State} (f : Nat × Nat × String) (h : (x.ax i).ec = (s.ax i).ec) :
      ((x.preFails k 1 [f]).ax i).ec = (s.ax i).ec := by
    unfold State.preFails
    split
    · exact h
    next p _ =>
      exact hp.raiseOn f.1 k f.2.1 f.2.2 true true ((State.ec_of_quiet (State.setPar_quiet x P.precheckResult (withBit p.bits 1 true) p.bridge 0) i).trans h)
  unfold State.startBridge
  extract_lets cs s1 s2
  have h2 : (s2.ax i).ec = (s.ax i).ec := hp.holdOff _ _ (s.ec_modAx k i _ fun _ => rfl)
  split
  · exact hfails _ h2
  · exact hfails _ h2
  · exact h2

theorem State.beginDiag_ec (s : State) (k : Nat) (emg : Bool) (i : Nat) : ((s.beginDiag k emg).ax i).ec = (s.ax i).ec := by
  have hp := raiseSafe_ec i (s.ax i).ec
  unfold State.beginDiag
  extract_lets s1
  have h1 : (s1.ax i).ec = (s.ax i).ec := s.ec_modAx k i _ fun _ => rfl
  split
  · exact hp.raiseOn _ _ _ _ _ _ h1
  · split
    · refine hp.raiseOn _ _ _ _ _ _ ((s1.ec_modAx k i _ ?_).trans h1)
      exact fun _ => rfl
    · exact (s1.startBridge_ec ..).trans h1

theorem State.emgDiagnose_ec (s : State) (k i : Nat) : ((s.emgDiagnose k).ax i).ec = (s.ax i).ec := by
  unfold State.emgDiagnose
  split
  · exact s.beginDiag_ec ..
  · rfl

theorem State.setProc_ec (s : State) (k i : Nat) (f : AxPos → AxPos) : ((s.setProc k f).ax i).ec = (s.ax i).ec :=
  (State.ec_of_quiet (State.syncProc_quiet ..) i).trans (s.ec_modAx k i _ fun _ => rfl)

theorem State.setPar_ec (s : State) (p : Par) (v : Int) (a b i : Nat) : ((s.setPar p v a b).ax i).ec = (s.ax i).ec :=
  State.ec_of_quiet (s.setPar_quiet p v a b) i

theorem State.scoutTry_ec (s : State) (k : Nat) (volt : Int) (i : Nat) : ((s.scoutTry k volt).ax i).ec = (s.ax i).ec := by
  unfold State.scoutTry
  extract_lets s1
  have h1 : (s1.ax i).ec = (s.ax i).ec := s.setProc_ec ..
  exact (State.ec_of_quiet (State.incPar_quiet s1 _ _ _ _) i).trans h1

theorem State.startBy_ec (s : State) (k row i : Nat) : ((s.startBy k row).ax i).ec = (s.ax i).ec := by
  unfold State.startBy
  extract_lets high s1 s2 s3
  have h1 : (s1.ax i).ec = (s.ax i).ec := s.ec_modAx k i _ fun _ => rfl
  have h2 : (s2.ax i).ec = (s.ax i).ec := (s1.setPar_ec ..).trans h1
  split
  · exact h2
  · exact (s2.setPar_ec ..).trans h2
  · exact (s2.setProc_ec ..).trans h2
  · exact (s2.setProc_ec ..).trans h2
  · exact (State.scoutTry_ec ..).trans ((s2.setPar_ec ..).trans h2)
  · have h3 : (s3.ax i).ec = (s.ax i).ec := (raiseSafe_ec i (s.ax i).ec).ax k _ rfl h2
    exact (State.setProc_ec ..).trans h3

theorem State.startLane_ec (s : State) (k i : Nat) : ((s.startLane k).ax i).ec = (s.ax i).ec := by
  unfold State.startLane
  extract_lets n l h s1 s2 s3 s4
  split
  · rfl
  · have h2 : (s2.ax i).ec = (s.ax i).ec := by
      unfold s2
      split
      · exact s1.setPar_ec ..
      · rfl
    have h4 : (s4.ax i).ec = (s.ax i).ec := (raiseSafe_ec i (s.ax i).ec).ax k _ rfl h2
    have h5 : ((s4.takeCfg k (s4.hearthCfg k)).ax i).ec = (s4.ax i).ec := State.ec_modAx _ k i _ fun _ => rfl
    exact (State.ec_of_quiet ((State.setOffsets_quiet ..).trans (State.reportCarrier_quiet ..)) i).trans (h5.trans h4)

theorem State.emgStart_ec (s : State) (k i : Nat) : ((s.emgStart k).ax i).ec = (s.ax i).ec := by
  unfold State.emgStart
  dsimp only
  split
  · split
    · exact (State.startBy_ec ..).trans ((State.startLane_ec ..).trans (s.ec_modAx k i _ fun _ => rfl))
    · rfl
  · rfl

theorem State.enterEmergency_ec (s : State) (k i : Nat) : ((s.enterEmergency k).ax i).ec = (s.ax i).ec := by
  have hp := raiseSafe_ec i (s.ax i).ec
  have harb : (((s.arb k 6).1).ax i).ec = (s.ax i).ec := by
    unfold State.arb
    dsimp only
    (repeat' split) <;> first | rfl | exact hp.ax k _ rfl rfl
  unfold State.enterEmergency
  split
  · rfl
  · extract_lets t s1 st s2
    have h1 : (s1.ax i).ec = (s.ax i).ec := harb
    split
    · exact h1
    · have h2 : (s2.ax i).ec = (s.ax i).ec := hp.moveAxis k _ (hp.ax k _ rfl h1)
      split
      · exact (State.emgDiagnose_ec ..).trans (hp.ax k _ rfl h2)
      · exact h2

/-! ### Emergency command pins -/

/-- A good reading of a voltage pin. -/
theorem ecSample_ec {s : State} {k : Nat} (hk : k < 4) (hst : s.dev.st = .idle) (hm : s.par P.ecMode k = 1) {raw : Int}
    (hlo : -10500 ≤ raw) (hhi : raw ≤ 10500) (freq : Nat) (quiet : Bool) :
    ((ecSample k raw freq quiet s).ax k).ec.sampleAt = some s.now ∧ ((ecSample k raw freq quiet s).ax k).ec.lossSince = none := by
  have hcond : ¬(4 ≤ k ∨ s.par P.ecMode k % 4 = 0 ∨ s.dev.st = .off ∨ s.dev.st = .boot) := by
    rw [hm, hst]
    simp
    omega
  have hread : (ecRead 1 raw freq quiet).1 = false := by
    simp [ecRead]
    omega
  unfold ecSample
  dsimp -zeta only
  extract_lets mode ec v1 v2 tau dt old new ec' s1 s2
  have hloss : (ecRead mode raw freq quiet).1 = false := by
    unfold mode
    rw [hm]
    exact hread
  rw [if_neg hcond]
  have hec : ec'.lossSince = none := if_neg (by rw [hloss]; decide)
  have h1 : (s1.ax k).ec = ec' := by
    unfold s1
    rw [State.setPar_ec, State.setPar_ec, State.ax_modAx_same]
  have h2 : (s2.ax k).ec = ec' := (s1.emgDiagnose_ec k k).trans h1
  split
  · rw [State.emgStart_ec, h2]
    exact ⟨rfl, hec⟩
  · rw [h2]
    exact ⟨rfl, hec⟩

/-- An axis in EMERGENCY that stops. -/
theorem State.beginStop_st {s : State} {k : Nat} (kind : StopKind) (fin : StopEnd) : ((s.beginStop k kind fin).ax k).st = .stopping := by
  unfold State.beginStop
  extract_lets s1
  split
  · assumption
  · rw [State.moveAxis_moved]
    rfl

theorem ecLost_ec {s : State} {k t0 : Nat} (hk : k < 4) (hl : (s.ax k).ec.lossSince = some t0) (hn : (s.ax k).ec.lost = false)
    (ht : t0 + s.spN k P.ecLossTime * 1000000 ≤ s.now) :
    ((ecLost k s).ax k).ec.lost = true ∧ ((s.ax k).st = .emergency → ((ecLost k s).ax k).st = .stopping) := by
  have hcond : k < 4 ∧ ¬(s.ax k).ec.lost = true ∧ t0 + s.spN k P.ecLossTime * 1000000 ≤ s.now := ⟨hk, by rw [hn]; decide, ht⟩
  have hp := (quietSafe_axis (fun a => a.ec.lost) (fun _ _ h => congrArg (fun x => x.1.lost) h) k true).raise
  unfold ecLost
  extract_lets ec y
  split
  next t1 h =>
    obtain rfl : t1 = t0 := Option.some.inj (h.symm.trans hl)
    rw [if_pos hcond]
    have hax : y.ax k = { s.ax k with ec := { ec with lost := true } } := by
      unfold y
      rw [ax_of_quiet (State.driveEvent_quiet ..), State.ax_modAx_same]
    have h1 : (y.ax k).ec.lost = true := by rw [hax]
    split
    · exact ⟨hp.beginStop k _ _ (hp.endPrecheckCells k h1), fun _ => State.beginStop_st ..⟩
    next hst =>
      rw [hax] at hst
      exact ⟨h1, fun h => absurd h hst⟩
  next h => cases h.symm.trans hl

theorem ecBack_ec {s : State} {k t0 : Nat} (hk : k < 4) (hf : (s.ax k).ec.freeSince = some t0) (hl : (s.ax k).ec.lost = true)
    (ht : t0 + 1000000000 ≤ s.now) : ((ecBack k s).ax k).ec.lost = false := by
  have hcond : k < 4 ∧ (s.ax k).ec.lost = true ∧ t0 + 1000000000 ≤ s.now := ⟨hk, hl, ht⟩
  unfold ecBack
  extract_lets ec y
  split
  next t1 h =>
    obtain rfl : t1 = t0 := Option.some.inj (h.symm.trans hf)
    rw [if_pos hcond]
    have h1 : (y.ax k).ec.lost = false := by
      unfold y
      rw [ax_of_quiet (State.driveEvent_quiet ..), State.ax_modAx_same]
    split
    · split
      · rw [State.enterEmergency_ec]
        exact h1
      · exact h1
    · exact h1
  next h => cases h.symm.trans hf

theorem emergencyPins : Parts.EmergencyPins := by
  intro s0 τ k s hk
  have hτ : τ ≤ (s0.at τ).now := Nat.le_max_right ..
  refine ⟨fun raw freq quiet hst hm hlo hhi => ?_, fun t0 hl hn ht => ?_, fun t0 hf hl ht => ?_⟩
  · refine Does.of_answer rfl fun t hends => ?_
    rw [hends.ax_eq]
    exact ecSample_ec (s := s0.at τ) hk hst hm hlo hhi freq quiet
  · refine Does.of_answer rfl fun t hends => ?_
    rw [hends.ax_eq]
    exact ecLost_ec (s := s0.at τ) hk hl hn (ht.trans hτ)
  · refine Does.of_answer rfl fun t hends => ?_
    rw [hends.ax_eq]
    exact ecBack_ec (s := s0.at τ) hk hf hl (ht.trans hτ)

/-! ### DC links -/

theorem State.turnOff_links (s : State) (c : Nat) : (s.turnOff c).links = s.links := by
  unfold State.turnOff
  extract_lets
  split <;> rfl

theorem State.turnOff_only (s : State) (c : Nat) : ((s.turnOff c).links, (s.turnOff c).axes, (s.turnOff c).standing) = (s.links, s.axes, s.standing) := by
  rw [State.turnOff_links, State.turnOff_axes, State.turnOff_standing]

theorem link_of_quiet {a b : State} (h : a.quiet = b.quiet) (k : Nat) : a.link k = b.link k := (congrArg (fun s : State => s.link k) h :)

theorem now_of_quiet {a b : State} (h : a.quiet = b.quiet) : a.now = b.now := (congrArg State.now h :)

/-- A chopper that turns off. -/
theorem State.chopCmd_off {s : State} {l : Nat} (h : (s.link l).chopOn = true) :
    ((s.chopCmd l false).link l).chopOn = false ∧ (s.chopCmd l false).axes = s.axes ∧ (s.chopCmd l false).standing = s.standing := by
  unfold State.chopCmd
  extract_lets x cell
  have hx : x.chopOn = true := by
    unfold x Link.count
    rw [if_pos h]
    exact h
  have hcell (y : State) : ((cell y).links, (cell y).axes, (cell y).standing) = (y.links, y.axes, y.standing) := by
    unfold cell
    split
    · rfl
    · rw [if_neg Bool.false_ne_true]
      exact y.turnOff_only _
  simp only [Prod.mk.injEq] at hcell
  rw [if_neg (fun h => Bool.false_ne_true h.1), if_neg Bool.false_ne_true, if_pos hx]
  have hq (y : State) : ((cell y).setBit P.linkStatus 3 false l).quiet = (cell y).quiet := State.setBit_quiet (cell y) _ _ _ _ _
  obtain ⟨h1, h2, h3⟩ := hcell (s.setLink l { x with chopOn := false, onThrough := false })
  rw [axes_of_quiet (hq _), standing_of_quiet (hq _), link_of_quiet (hq _), h2, h3]
  refine ⟨?_, rfl, rfl⟩
  unfold State.link
  rw [h1]
  exact congrArg Link.chopOn (State.link_setLink_same s l _)

/-- One update of a link's energy. -/
def State.energyStep (s : State) (k : Nat) : State :=
  let l := (s.link k).count s.now
  let v := s.par P.linkV k
  let e := max 0 (l.energyMj + rdiv (v * v * (l.onNs : Int)) (max 1 (s.lp k P.chopR) * 10000000) - s.lp k P.chopPCont)
  let top := s.lp k P.chopEMax * 1000
  let hot := decide (top ≤ e) || (l.chopHot && decide (9 * top ≤ 10 * e))
  let s := s.setLink k { l with onNs := 0, energyMj := e, chopHot := hot, energyAt := s.now }
  (s.setPar P.chopE (min u32hi (e / 1000)) k).setBit P.linkStatus 5 hot k

theorem State.energyStep_link (s : State) (k : Nat) :
    (((s.energyStep k).link k).onNs = 0 ∧ 0 ≤ ((s.energyStep k).link k).energyMj ∧ ((s.energyStep k).link k).energyAt = s.now) ∧
      (∀ j, j ≠ k → (s.energyStep k).link j = s.link j) ∧ (s.energyStep k).now = s.now ∧ (s.energyStep k).axes = s.axes ∧
      (s.energyStep k).standing = s.standing := by
  unfold State.energyStep
  extract_lets l v e top hot s1
  have hq : ((s1.setPar P.chopE (min u32hi (e / 1000)) k).setBit P.linkStatus 5 hot k).quiet = s1.quiet :=
    (State.setBit_quiet _ _ _ _ _ _).trans (State.setPar_quiet s1 _ _ _ _)
  rw [axes_of_quiet hq, standing_of_quiet hq, now_of_quiet hq, link_of_quiet hq]
  refine ⟨?_, fun j hj => ?_, rfl, rfl, rfl⟩
  · unfold s1
    rw [State.link_setLink_same]
    exact ⟨rfl, le_max_left .., rfl⟩
  · rw [link_of_quiet hq]
    exact State.link_setLink_other _ _ _ _ hj.symm

theorem chopEnergyUpdate_links {s : State} (hf : s.firmware = true) {l : Nat} (hl : l < 2) (he : (s.link l).energyAt + 1000000 ≤ s.now) :
    ((chopEnergyUpdate s).link l).onNs = 0 ∧ 0 ≤ ((chopEnergyUpdate s).link l).energyMj ∧
      ((chopEnergyUpdate s).link l).energyAt = s.now ∧ (chopEnergyUpdate s).axes = s.axes ∧ (chopEnergyUpdate s).standing = s.standing := by
  unfold chopEnergyUpdate
  rw [if_neg (by simp [hf])]
  have h := foldl_gathers (p := fun y => y.now = s.now ∧ y.axes = s.axes ∧ y.standing = s.standing)
    (q := fun y k => (y.link k).onNs = 0 ∧ 0 ≤ (y.link k).energyMj ∧ (y.link k).energyAt = s.now) (f := fun y k => y.energyStep k)
    ([0, 1].filter fun k => decide ((s.link k).energyAt + 1000000 ≤ s.now)) (fun y k _ hy => ?_) (s := s) ⟨rfl, rfl, rfl⟩
  · obtain ⟨⟨-, hax, hst⟩, hq⟩ := h
    obtain ⟨h1, h2, h3⟩ := hq l (List.mem_filter.mpr ⟨by simp; omega, decide_eq_true he⟩)
    exact ⟨h1, h2, h3, hax, hst⟩
  · obtain ⟨hnow, hax, hst⟩ := hy
    obtain ⟨hk, hother, hnow', hax', hst'⟩ := y.energyStep_link k
    rw [hnow] at hk
    refine ⟨⟨hnow'.trans hnow, hax'.trans hax, hst'.trans hst⟩, hk, fun j _ hj => ?_⟩
    obtain rfl | hne := eq_or_ne j k
    · exact hk
    · rw [hother j hne]
      exact hj

/-- A fault with this code stands on this axis. -/
def State.Named (s : State) (code k : Nat) : Prop := ∃ f ∈ s.standing, f.code = code ∧ f.axis = k

theorem State.Named.stand {s : State} {code k : Nat} (h : s.Named code k) (g : Standing) : (s.stand g).Named code k := by
  obtain ⟨f, hf, hc, hk⟩ := h
  unfold State.stand
  extract_lets same
  split
  · refine ⟨_, List.mem_map_of_mem hf, ?_, ?_⟩
    · split <;> exact hc
    · split <;> exact hk
  · exact ⟨f, List.mem_append_left _ hf, hc, hk⟩

theorem State.stand_named (s : State) (g : Standing) : (s.stand g).Named g.code g.axis := by
  unfold State.stand
  extract_lets same
  split
  next h =>
    obtain ⟨f, hf, hs⟩ := List.any_eq_true.mp h
    simp only [same, Bool.and_eq_true, decide_eq_true_eq] at hs
    obtain ⟨⟨⟨hc, hk⟩, -⟩, -⟩ := hs
    refine ⟨_, List.mem_map_of_mem hf, ?_, ?_⟩
    · split <;> exact hc
    · split <;> exact hk
  · exact ⟨g, List.mem_append_right _ (List.mem_singleton_self g), rfl, rfl⟩

theorem State.uvRaise_named (s : State) (l k : Nat) :
    (s.uvRaise l k).Named 0x0606 k ∧ ∀ j, s.Named 0x0606 j → (s.uvRaise l k).Named 0x0606 j := by
  unfold State.uvRaise State.enterRecord
  extract_lets s1 s2
  have hq1 : s1.quiet = s.quiet := State.report_quiet ..
  have hq2 : s2.quiet = s1.quiet := State.setPar_quiet s1 _ _ _ _
  have h2 : s2.standing = s.standing := standing_of_quiet (hq2.trans hq1)
  clear_value s2
  refine ⟨State.stand_named s2 ⟨0x0606, k, _, _, _, _, _, _⟩, fun j hj => State.Named.stand (s := s2) ?_ _⟩
  unfold State.Named
  rw [h2]
  exact hj

theorem linkUv_named {s : State} {l t0 : Nat} (hl : l < 2) (hu : (s.link l).uvSince = some t0) (ht : t0 + 1000000 ≤ s.now)
    (hsw : ((s.axesOnLink l).any fun a => s.switching a) = true) {a : Nat} (ha : a ∈ s.axesOnLink l)
    (hs : (s.ax a).speed.uvStop = false) : (linkUv l s).Named 0x0606 a := by
  unfold linkUv
  rw [hu]
  dsimp -zeta only
  rw [if_pos ⟨hl, ht, hsw⟩]
  extract_lets ks
  obtain ⟨h, hq⟩ := foldl_gathers (p := fun y => ∀ j, s.Named 0x0606 j → y.Named 0x0606 j) (q := fun y k => y.Named 0x0606 k)
    (f := fun y k => y.uvRaise l k) ks (fun y k _ hy => ⟨fun j hj => (y.uvRaise_named l k).2 j (hy j hj), (y.uvRaise_named l k).1,
      fun j _ hj => (y.uvRaise_named l k).2 j hj⟩) (s := s) fun _ hj => hj
  by_cases hr : s.raisable 0x0606 a = true
  · exact hq a (List.mem_filter.mpr ⟨ha, by simp [hr, hs]⟩)
  · have hany : (s.standing.any fun f => decide (f.code = 0x0606) && decide (f.axis = a)) = true := by
      by_contra hne
      refine hr ?_
      unfold State.raisable
      rw [Bool.not_eq_true] at hne
      rw [hne, Bool.not_false, Bool.true_or]
    obtain ⟨f, hf, hcode⟩ := List.any_eq_true.mp hany
    simp only [Bool.and_eq_true, decide_eq_true_eq] at hcode
    exact h a ⟨f, hf, hcode⟩

theorem linkEvents : Parts.LinkEvents := by
  intro s0 τ l s hl
  have hτ : τ ≤ (s0.at τ).now := Nat.le_max_right ..
  refine ⟨fun hon hat hv => ?_, fun hfw he => ?_, fun t0 hu ht hsw => ?_⟩
  · have hx : chopMinOnEnd l (s0.at τ) = _ := if_pos (⟨hl, hon, hat.trans hτ, hv⟩ : l < 2 ∧ _ ∧ _ ∧ _)
    refine Does.of_answer (congrArg (answer s0) hx) fun t hends => ?_
    rw [hends.link_eq, hends.axes, hends.standing]
    exact State.chopCmd_off (s := s0.at τ) hon
  · refine Does.of_answer rfl fun t hends => ?_
    rw [hends.link_eq, hends.axes, hends.standing]
    exact chopEnergyUpdate_links (s := s0.at τ) hfw hl (he.trans hτ)
  · refine Does.of_answer rfl fun t hends a ha hs => ?_
    rw [hends.standing]
    exact linkUv_named (s := s0.at τ) hl hu (ht.trans hτ) hsw ha hs

/-- Settles O19. -/
theorem linksAndEmergencyPins : Obligations.LinksAndEmergencyPins := ⟨linkEvents, emergencyPins⟩

end Sys2Proof.Machine
end

section
/-! # The ring under messages

What messages, records, lines and the follow-up of the hive state leave of the share ring: everything but the tags of its own messages and the
time of its state. -/
namespace Sys2Proof.Machine

/-- The ring without the tags of its messages and the time of its state. -/
def Ring.core (r : Ring) : Ring := { r with tags := [], stateAt := 0 }

theorem foldl_ringCore {α : Type} (f : State → α → State) (h : ∀ s x, (f s x).ring.core = s.ring.core) (l : List α) (s : State) :
    (l.foldl f s).ring.core = s.ring.core := foldl_keeps (fun x : State => x.ring.core) f h l s

@[simp] theorem ringCore_ite (c : Prop) [Decidable c] (a b : State) :
    (if c then a else b).ring.core = if c then a.ring.core else b.ring.core := by
  split <;> rfl

theorem each_ringCore (ks : List Nat) (s : State) (f : Nat → State → State) (h : ∀ k s, (f k s).ring.core = s.ring.core) :
    (each ks s f).ring.core = s.ring.core := foldl_ringCore _ (fun s k => h k s) ks s

@[simp] theorem State.setQueue_ringCore (s : State) (q : Nat) (es : List Entry) : (State.setQueue s q es).ring.core = s.ring.core := by
  unfold State.setQueue
  rfl

@[simp] theorem State.setPar_ringCore (s : State) (p : Par) (v : Int) (i : Nat := 0) (j : Nat := 0) : (State.setPar s p v i j).ring.core = s.ring.core := by
  unfold State.setPar
  rfl

@[simp] theorem draw_ringCore (s : State) (w : Nat) : (s.draw w).2.ring.core = s.ring.core := rfl

@[simp] theorem State.incPar_ringCore (s : State) (p : Par) (i : Nat := 0) (j : Nat := 0) (n : Nat := 1) :
    (s.incPar p i j n).ring.core = s.ring.core := by
  unfold State.incPar
  dsimp only
  split <;> rfl

@[simp] theorem State.push_ringCore (s : State) (q : Nat) (data : Bytes) (dest port : Nat := 0) : (State.push s q data dest port).ring.core = s.ring.core := by
  unfold State.push
  simp

@[simp] theorem State.setSb_ringCore (s : State) (p : Nat) (x : SbPort) : (State.setSb s p x).ring.core = s.ring.core := by
  unfold State.setSb
  rfl

@[simp] theorem State.txPut_ringCore (s : State) (p id : Nat) (data : Bytes) (own : Bool) (xfer : Option Nat := none) (last : Bool := false)
    (copyOf : Option (Nat × Nat) := none) : (State.txPut s p id data own xfer last copyOf).ring.core = s.ring.core := by
  unfold State.txPut
  simp

@[simp] theorem State.feedOne_ringCore (s : State) (e : Entry) : (s.feedOne e).ring.core = s.ring.core := by
  unfold State.feedOne
  dsimp only
  (repeat' split) <;> first | rfl | simp [foldl_ringCore]

@[simp] theorem State.swarmFeed_ringCore (s : State) : (State.swarmFeed s).ring.core = s.ring.core := by
  unfold State.swarmFeed
  refine foldl_ringCore _ (fun _ _ => ?_) _ _
  simp

@[simp] theorem State.send_ringCore (s : State) (x : Session) (p : Bytes) : (s.send x p).ring.core = s.ring.core := by
  unfold State.send
  split
  · exact (foldl_ringCore (fun y b => y.push 18 b x.source) (fun y b => State.push_ringCore y 18 b x.source 0) _ _).trans rfl
  · simp
  · simp

@[simp] theorem State.sendMark_ringCore (s : State) (x : Session) (p : Bytes) (boot : Bool) : (State.sendMark s x p boot).ring.core = s.ring.core := by
  unfold State.sendMark
  simp

@[simp] theorem State.setSess_ringCore (s : State) (n : Nat) (x : Session) : (State.setSess s n x).ring.core = s.ring.core := by
  unfold State.setSess
  rfl

@[simp] theorem State.notifyTo_ringCore (s : State) (n cls subj ev : Nat) (data : Bytes) : (State.notifyTo s n cls subj ev data).ring.core = s.ring.core := by
  unfold State.notifyTo
  simp

@[simp] theorem State.notify_ringCore (s : State) (cls pos subj : Nat) (data : Bytes) : (State.notify s cls pos subj data).ring.core = s.ring.core := by
  unfold State.notify
  refine each_ringCore _ _ _ fun _ _ => ?_
  simp

@[simp] theorem State.busEvent_ringCore (s : State) (pos subj : Nat) (data : Bytes) : (State.busEvent s pos subj data).ring.core = s.ring.core := by
  unfold State.busEvent
  simp

@[simp] theorem State.txDrop_ringCore (s : State) (p tag : Nat) : (s.txDrop p tag).ring.core = s.ring.core := rfl

@[simp] theorem State.feedGone_ringCore (s : State) (f : TxFrame) : (s.feedGone f).ring.core = s.ring.core := by
  unfold State.feedGone
  split <;> rfl

@[simp] theorem State.evict_ringCore (s : State) (p n f : Nat) : (s.evict p n f).ring.core = s.ring.core := by
  induction f generalizing s with
  | zero => rfl
  | succ f ih =>
    unfold State.evict
    dsimp only
    split
    · rfl
    · split
      · rfl
      · rw [ih]
        simp

@[simp] theorem State.copyEmerg_ringCore (s : State) (p : Nat) (fs : List TxFrame) : (s.copyEmerg p fs).ring.core = s.ring.core := by
  unfold State.copyEmerg
  extract_lets q s1
  split
  · refine (State.busEvent_ringCore ..).trans (foldl_ringCore _ (fun y f => ?_) fs s)
    split
    · simp
    · rfl
  · rfl

@[simp] theorem State.queueFrame_ringCore (s : State) (p id : Nat) (data : Bytes) (own : Bool) : (State.queueFrame s p id data own).ring.core = s.ring.core := by
  unfold State.queueFrame
  simp

@[simp] theorem State.forwardOut_ringCore (s : State) (q id : Nat) (data : Bytes) (own : Bool) : (s.forwardOut q id data own).ring.core = s.ring.core := by
  unfold State.forwardOut
  simp

@[simp] theorem State.forwardBcast_ringCore (s : State) (p src id : Nat) (data : Bytes) (own : Bool) :
    (s.forwardBcast p src id data own).ring.core = s.ring.core := by
  unfold State.forwardBcast
  extract_lets seg
  split
  · exact each_ringCore _ _ _ fun q y => by simp
  · rfl

@[simp] theorem State.setFg_ringCore (s : State) (c : Nat) (x : FgChan) : (State.setFg s c x).ring.core = s.ring.core := by
  unfold State.setFg
  rfl

@[simp] theorem State.fgHalt_ringCore (s : State) (c status : Nat) : (State.fgHalt s c status).ring.core = s.ring.core := by
  unfold State.fgHalt
  simp

@[simp] theorem State.fgAdvance_ringCore (s : State) (c n : Nat) : (State.fgAdvance s c n).ring.core = s.ring.core := by
  unfold State.fgAdvance
  simp

@[simp] theorem State.lineAt_ringCore (s : State) (k c : Nat) : (State.lineAt s k c).ring.core = s.ring.core := by
  unfold State.lineAt
  split <;> simp

@[simp] theorem State.latchLine_ringCore (s : State) (k : Nat) : (State.latchLine s k).ring.core = s.ring.core := by
  unfold State.latchLine
  refine each_ringCore _ _ _ fun _ _ => ?_
  simp

@[simp] theorem State.panTrigger_ringCore (s : State) (cause : Nat) (code : Nat := 0) (at_ : Option (Nat × Nat) := none) : (State.panTrigger s cause code at_).ring.core = s.ring.core := by
  unfold State.panTrigger
  simp

@[simp] theorem State.raiseLine_ringCore (s : State) (k : Nat) : (State.raiseLine s k).ring.core = s.ring.core := by
  unfold State.raiseLine
  simp

@[simp] theorem State.hiveEvent_ringCore (s : State) (pos subj : Nat) : (State.hiveEvent s pos subj).ring.core = s.ring.core := by
  unfold State.hiveEvent
  simp

theorem State.ownBcast_keeps {β : Type} (v : State → β) (hq : ∀ y p id data, v (State.queueFrame y p id data true) = v y)
    (hf : ∀ y p src id data, v (State.forwardBcast y p src id data true) = v y) (s : State) (prio cls detail : Nat) (data : Bytes) :
    v (s.ownBcast prio cls detail data) = v s := by
  unfold State.ownBcast
  cases s.sourceAddr with
  | none => rfl
  | some a =>
    dsimp -zeta only
    extract_lets id s1
    have h1 : v s1 = v s := foldl_keeps v _ (fun y p => hq y p id data) _ s
    split
    · rfl
    · cases s1.bcastPorts with
      | nil => exact h1
      | cons p ps => exact (hf ..).trans h1

@[simp] theorem State.ownBcast_ringCore (s : State) (prio cls detail : Nat) (data : Bytes) :
    (s.ownBcast prio cls detail data).ring.core = s.ring.core :=
  State.ownBcast_keeps (fun x => x.ring.core) (fun y p id data => State.queueFrame_ringCore y p id data true)
    (fun y p src id data => State.forwardBcast_ringCore y p src id data true) s prio cls detail data

@[simp] theorem State.emergency_ringCore (s : State) (code subj safe : Nat) : (State.emergency s code subj safe).ring.core = s.ring.core := by
  unfold State.emergency
  simp

@[simp] theorem State.hiveSync_ringCore (s : State) (k : Nat) : (s.hiveSync k).ring.core = s.ring.core := by
  unfold State.hiveSync
  split
  · rfl
  · extract_lets
    split <;> rfl

@[simp] theorem State.setBit_ringCore (s : State) (p : Par) (k : Nat) (b : Bool) (i : Nat := 0) (j : Nat := 0) : (State.setBit s p k b i j).ring.core = s.ring.core := by
  unfold State.setBit
  rfl

@[simp] theorem State.sendOrWait_ringCore (s : State) (n : Nat) (p : Bytes) (boot run : Bool) : (State.sendOrWait s n p boot run).ring.core = s.ring.core := by
  unfold State.sendOrWait
  simp

@[simp] theorem State.complete_ringCore (s : State) (opcode sess seq status : Nat) (extra : Bytes := []) (boot : Bool := false) : (State.complete s opcode sess seq status extra boot).ring.core = s.ring.core := by
  unfold State.complete
  simp

@[simp] theorem State.endOp_ringCore (s : State) (opcode target status : Nat) (extra : Bytes := []) : (State.endOp s opcode target status extra).ring.core = s.ring.core := by
  unfold State.endOp
  split <;> simp

@[simp] theorem State.incSat_ringCore (s : State) (p : Par) (top : Int) (i : Nat := 0) (j : Nat := 0) (n : Nat := 1) : (State.incSat s p top i j n).ring.core = s.ring.core := by
  unfold State.incSat
  rfl

@[simp] theorem State.frameRef_ringCore (s : State) (before : Bool) (subj : Nat) : (State.frameRef s before subj).ring.core = s.ring.core := by
  unfold State.frameRef
  dsimp only
  split <;> simp

@[simp] theorem State.recordFault_ringCore (s : State) (code subj safe : Nat) (path : String) (secondary : Bool := false) : (State.recordFault s code subj safe path secondary).ring.core = s.ring.core := by
  unfold State.recordFault
  dsimp only
  split <;> simp

@[simp] theorem State.report_ringCore (s : State) (code subj safe : Nat) (path : String) (secondary : Bool := false) : (State.report s code subj safe path secondary).ring.core = s.ring.core := by
  unfold State.report
  simp

@[simp] theorem State.syncProc_ringCore (s : State) (k : Nat) : (State.syncProc s k).ring.core = s.ring.core := by
  unfold State.syncProc
  simp

@[simp] theorem State.markLatched_ringCore (s : State) (b : Bool) : (State.markLatched s b).ring.core = s.ring.core := by
  unfold State.markLatched
  split <;> rfl

@[simp] theorem State.recordClear_ringCore (s : State) (code subj : Nat) (path : String) : (State.recordClear s code subj path).ring.core = s.ring.core := by
  unfold State.recordClear
  split <;> rfl

end Sys2Proof.Machine
end

section
/-! THEOREMS. Boundary scan. -/
namespace Sys2Proof.Machine

theorem State.atticPowerLoss_porch (s : State) : s.atticPowerLoss.porch = s.porch := by
  unfold State.atticPowerLoss
  split <;> rfl

/-- What a module switched off keeps of its Porch. -/
theorem State.goOff_porch (s : State) : s.goOff.porch = { ir := s.porch.ir, cells := s.porch.cells, tdo := s.porch.tdo } := by
  have h : (s.holdOff 0 (upto 13)).atticPowerLoss.porch = s.porch :=
    (State.atticPowerLoss_porch _).trans (congrArg (fun x : State => x.porch) (s.holdOff_still 0 (upto 13)) :)
  exact (congrArg (fun p : Porch => ({ ir := p.ir, cells := p.cells, tdo := p.tdo } : Porch)) h :)

theorem State.goOff_scanReset (s : State) : s.goOff.dev.scanReset = s.dev.scanReset := by
  change (s.holdOff 0 (upto 13)).atticPowerLoss.dev.scanReset = _
  rw [State.atticPowerLoss_dev]
  exact (congrArg (fun d : Dev => d.scanReset) (s.holdOff_sdev 0 (upto 13)) :)

/-- What a cell captures is read or drawn: nothing but the count of draws changes. -/
theorem State.cellSees_free (s : State) (high : List Land) (l : Option Land) : ∃ n, (s.cellSees high l).2 = { s with free := n } := by
  have hs : ∃ n, s = { s with free := n } := ⟨s.free, rfl⟩
  have hd : ∃ n, (s.draw 1).2 = { s with free := n } := ⟨s.free + 1, rfl⟩
  unfold State.cellSees
  split
  · exact hd
  · exact hs
  · exact hs
  · exact hs
  · split
    · split
      · exact hs
      · exact hd
    · exact hs

/-- A capture of a list of cells gives one bit for each. -/
theorem captures_length (high : List Land) (l : List Nat) (a : List Bool × State) :
    let r := l.foldl (fun (a : List Bool × State) i =>
      let v := a.2.cellSees high (Config.cellLand i)
      (a.1 ++ [v.1], v.2)) a
    r.1.length = a.1.length + l.length ∧ ∃ n, r.2 = { a.2 with free := n } := by
  induction l generalizing a with
  | nil => exact ⟨rfl, a.2.free, rfl⟩
  | cons i l ih =>
    obtain ⟨hlen, n, hn⟩ := ih (a.1 ++ [(a.2.cellSees high (Config.cellLand i)).1], (a.2.cellSees high (Config.cellLand i)).2)
    obtain ⟨m, hm⟩ := a.2.cellSees_free high (Config.cellLand i)
    refine ⟨hlen.trans ?_, n, hn.trans ?_⟩
    · simp only [List.length_append, List.length_cons, List.length_nil]
      omega
    · rw [hm]

/-- A scan of the boundary register leaves its bits in the update latches and one captured bit of each cell at TDO. -/
theorem State.scanCells_of_bits (s : State) (x : Scan) (h : x.tdi ≠ []) : ∃ bits n, bits.length = 212 ∧
    s.scanCells x = { s with free := n, porch := { s.porch with tdo := bits, cells := x.tdi } } := by
  obtain ⟨hlen, n, hn⟩ := captures_length x.high (upto 212) ([], s)
  refine ⟨_, n, hlen.trans (by simp [upto]), ?_⟩
  unfold State.scanCells
  rw [if_neg (by simpa using h)]
  dsimp only
  rw [hn]

theorem State.scanCells_of_none (s : State) (x : Scan) (h : x.tdi = []) : s.scanCells x = s := if_pos (by simpa using h)

/-- Every scan of the boundary register changes the count of draws and the Porch's scan registers alone. -/
theorem State.scanCells_keeps {β : Type} (g : State → β) (hg : ∀ (s : State) n a b, g { s with free := n, porch := { s.porch with tdo := a, cells := b } } = g s)
    (s : State) (x : Scan) : g (s.scanCells x) = g s := by
  by_cases h : x.tdi = []
  · rw [s.scanCells_of_none x h]
  · obtain ⟨bits, n, _, hs⟩ := s.scanCells_of_bits x h
    rw [hs]
    exact hg ..

theorem State.scanBypass_keeps {β : Type} (g : State → β) (hg : ∀ (s : State) a, g { s with porch := { s.porch with tdo := a } } = g s)
    (s : State) (x : Scan) : g (s.scanBypass x) = g s := by
  unfold State.scanBypass
  split
  · rfl
  · exact hg ..

theorem State.scanId_keeps {β : Type} (g : State → β) (hg : ∀ (s : State) a, g { s with porch := { s.porch with tdo := a } } = g s)
    (s : State) (x : Scan) : g (s.scanId x) = g s := by
  unfold State.scanId
  split
  · rfl
  · exact hg ..

theorem State.scanBypass_tdo (s : State) (x : Scan) (h : x.tdi ≠ []) : (s.scanBypass x).porch.tdo = (false :: x.tdi).take x.tdi.length := by
  unfold State.scanBypass
  rw [if_neg (by simpa using h)]

theorem State.scanId_tdo (s : State) (x : Scan) (h : x.tdi ≠ []) :
    (s.scanId x).porch.tdo = ((msbBits idcode 32).reverse ++ x.tdi).take x.tdi.length := by
  unfold State.scanId
  rw [if_neg (by simpa using h)]

theorem State.tap_on (s : State) (f : State → State) (h : s.dev.supplyOk = true) : s.tap f = f s := if_pos h

theorem State.tap_off (s : State) (f : State → State) (h : s.dev.supplyOk = false) : s.tap f = s := if_neg (by simp [State.tapOn, h])

/-- The instructions that hold the control die in reset switch it off, with every cell held off. -/
theorem State.scanHold_of_on (s : State) (c : Nat) (h : s.dev.st ≠ .off) : (s.scanHold c).porch.ir = c ∧ (s.scanHold c).dev.scanReset = true ∧
    (s.scanHold c).dev.st = .off ∧ (s.scanHold c).porch.cells = s.porch.cells ∧ ∀ g, g < 13 → (s.scanHold c).heldOff g = true := by
  have hs : s.scanHold c = ({ s with dev := { s.dev with scanReset := true } } : State).goOff.setIr c :=
    congrArg (State.setIr · c) (if_neg h)
  rw [hs]
  exact ⟨rfl, State.goOff_scanReset _, rfl, (congrArg Porch.cells (State.goOff_porch _) :), fun g hg => State.goOff_heldOff _ hg⟩

/-- TEST_LOGIC_RESET outside a scan reset selects IDCODE and does no more. -/
theorem testLogicReset_of_free (s : State) (h : s.dev.scanReset = false) : testLogicReset s = s.setIr 0xFE :=
  if_neg (by simp [State.setIr, h])

/-- TEST_LOGIC_RESET ends a scan reset in BOOT. -/
theorem testLogicReset_of_scan (s : State) (h : s.dev.scanReset = true) (hok : s.dev.supplyOk = true) :
    testLogicReset s = ({ s.setIr 0xFE with dev := { s.dev with scanReset := false } } : State).startBoot 0 true :=
  (if_pos h).trans (if_pos hok)

/-- CLAMP and HIGHZ: the die held in reset, and a scan of the bypass register. -/
theorem holds_of_bypass {s0 : State} {x : Scan} {i : Instr} {c : Nat}
    (hi : exec i s0 = answer s0 ((s0.at x.at_).tap fun s => (s.scanHold c).scanBypass x)) (hok : (s0.at x.at_).dev.supplyOk = true)
    (hst : (s0.at x.at_).dev.st ≠ .off) : Does i s0 fun t => t.porch.ir = c ∧ t.dev.scanReset = true ∧ t.dev.st = .off ∧
      t.porch.cells = (s0.at x.at_).porch.cells ∧ ∀ g, g < 13 → t.heldOff g = true := by
  obtain ⟨hir, hreset, hoff, hcells, hheld⟩ := (s0.at x.at_).scanHold_of_on c hst
  refine Does.of_answer (hi.trans (congrArg (answer s0) (State.tap_on _ _ hok))) fun t ht => ⟨?_, ?_, ?_, ?_, fun g hg => ?_⟩
  · rw [ht.porch]
    exact (State.scanBypass_keeps (fun s => s.porch.ir) (fun _ _ => rfl) _ _).trans hir
  · rw [ht.dev]
    exact (State.scanBypass_keeps (fun s => s.dev.scanReset) (fun _ _ => rfl) _ _).trans hreset
  · rw [ht.dev]
    exact (State.scanBypass_keeps (fun s => s.dev.st) (fun _ _ => rfl) _ _).trans hoff
  · rw [ht.porch]
    exact (State.scanBypass_keeps (fun s => s.porch.cells) (fun _ _ => rfl) _ _).trans hcells
  · rw [ht.heldOff_eq]
    exact (State.scanBypass_keeps (fun s => s.heldOff g) (fun _ _ => rfl) _ _).trans (hheld g hg)

/-- Settles O53: a scan touches the scan registers alone; the instructions that hold the die in reset switch it off first. -/
theorem boundaryScan : Obligations.BoundaryScan := by
  refine ⟨fun s0 x => ⟨fun hok => ⟨?_, ?_, ?_, fun hst => ⟨?_, ?_, ?_⟩⟩, fun hok => ?_⟩, fun s0 τ => ⟨fun h => ?_, fun h hok => ?_⟩⟩
  · have hx : samplePreload x (s0.at x.at_) = ((s0.at x.at_).setIr 0x02).scanCells x := State.tap_on _ _ hok
    refine Does.of_answer (congrArg (answer s0) hx) fun t ht => ⟨?_, ?_, ?_, ?_, fun hn => ?_, fun hn => ?_⟩
    · rw [ht.porch]
      exact State.scanCells_keeps (fun s => s.porch.ir) (fun _ _ _ _ => rfl) _ _
    · exact ht.dev.trans (State.scanCells_keeps State.dev (fun _ _ _ _ => rfl) _ _)
    · exact ht.params.trans (State.scanCells_keeps State.params (fun _ _ _ _ => rfl) _ _)
    · exact ht.axes.trans (State.scanCells_keeps State.axes (fun _ _ _ _ => rfl) _ _)
    · rw [ht.porch, State.scanCells_of_none _ _ hn]
      rfl
    · obtain ⟨bits, n, hlen, hs⟩ := ((s0.at x.at_).setIr 0x02).scanCells_of_bits x hn
      rw [ht.porch, hs]
      exact ⟨rfl, hlen⟩
  · have hx : idcodeScan x (s0.at x.at_) = ((s0.at x.at_).setIr 0xFE).scanId x := State.tap_on _ _ hok
    refine Does.of_answer (congrArg (answer s0) hx) fun t ht => ⟨?_, ?_, ?_, ?_, fun hn => ?_⟩
    · rw [ht.porch]
      exact State.scanId_keeps (fun s => s.porch.ir) (fun _ _ => rfl) _ _
    · exact ht.dev.trans (State.scanId_keeps State.dev (fun _ _ => rfl) _ _)
    · exact ht.params.trans (State.scanId_keeps State.params (fun _ _ => rfl) _ _)
    · exact ht.axes.trans (State.scanId_keeps State.axes (fun _ _ => rfl) _ _)
    · rw [ht.porch]
      exact State.scanId_tdo _ _ hn
  · have hx : bypassScan x (s0.at x.at_) = ((s0.at x.at_).setIr 0xFF).scanBypass x := State.tap_on _ _ hok
    refine Does.of_answer (congrArg (answer s0) hx) fun t ht => ⟨?_, ?_, ?_, ?_, fun hn => ?_⟩
    · rw [ht.porch]
      exact State.scanBypass_keeps (fun s => s.porch.ir) (fun _ _ => rfl) _ _
    · exact ht.dev.trans (State.scanBypass_keeps State.dev (fun _ _ => rfl) _ _)
    · exact ht.params.trans (State.scanBypass_keeps State.params (fun _ _ => rfl) _ _)
    · exact ht.axes.trans (State.scanBypass_keeps State.axes (fun _ _ => rfl) _ _)
    · rw [ht.porch]
      exact State.scanBypass_tdo _ _ hn
  · have hx : extest x (s0.at x.at_) = ((s0.at x.at_).scanHold 0x00).scanCells x := State.tap_on _ _ hok
    obtain ⟨hir, hreset, hoff, _, hheld⟩ := (s0.at x.at_).scanHold_of_on 0x00 hst
    refine Does.of_answer (congrArg (answer s0) hx) fun t ht => ⟨?_, ?_, ?_, fun g hg => ?_, fun hn => ?_⟩
    · rw [ht.porch]
      exact (State.scanCells_keeps (fun s => s.porch.ir) (fun _ _ _ _ => rfl) _ _).trans hir
    · rw [ht.dev]
      exact (State.scanCells_keeps (fun s => s.dev.scanReset) (fun _ _ _ _ => rfl) _ _).trans hreset
    · rw [ht.dev]
      exact (State.scanCells_keeps (fun s => s.dev.st) (fun _ _ _ _ => rfl) _ _).trans hoff
    · rw [ht.heldOff_eq]
      exact (State.scanCells_keeps (fun s => s.heldOff g) (fun _ _ _ _ => rfl) _ _).trans (hheld g hg)
    · obtain ⟨bits, n, hlen, hs⟩ := ((s0.at x.at_).scanHold 0x00).scanCells_of_bits x hn
      rw [ht.porch, hs]
      exact ⟨rfl, hlen⟩
  · exact holds_of_bypass (i := .clamp x) rfl hok hst
  · exact holds_of_bypass (i := .highz x) rfl hok hst
  · have hat : (s0.at x.at_).dev.supplyOk = false := hok
    have keep (i : Instr) (f : State → State) (hi : exec i s0 = answer s0 ((s0.at x.at_).tap f)) :
        Does i s0 fun t => t.porch = (s0.due x.at_).porch ∧ t.dev = (s0.due x.at_).dev ∧ t.axes = (s0.due x.at_).axes :=
      Does.of_answer (hi.trans (congrArg (answer s0) (State.tap_off _ _ hat))) fun t ht => ⟨ht.porch, ht.dev, ht.axes⟩
    simp only [List.forall_mem_cons, List.not_mem_nil, false_implies, implies_true, and_true]
    exact ⟨keep _ _ rfl, keep _ _ rfl, keep _ _ rfl, keep _ _ rfl, keep _ _ rfl, keep _ _ rfl⟩
  · exact Does.of_answer (congrArg (answer s0) (testLogicReset_of_free (s0.at τ) h)) fun t ht => ⟨by rw [ht.porch]; rfl, ht.dev, ht.axes⟩
  · refine Does.of_answer (congrArg (answer s0) (testLogicReset_of_scan (s0.at τ) h hok)) fun t ht => ?_
    have hd := ht.dev.trans (State.startBoot_off_keeps State.dev (fun _ _ _ => rfl) (fun _ _ _ => rfl) (fun _ _ => rfl) _ _)
    have hp := ht.porch.trans (State.startBoot_off_keeps State.porch (fun _ _ _ => rfl) (fun _ _ _ => rfl) (fun _ _ => rfl) _ _)
    refine ⟨by rw [hp]; rfl, by rw [hd], by rw [hd], by rw [hd], fun g hg => ?_⟩
    exact (ht.heldOff_eq g).trans (State.startBoot_off_heldOff _ _ hg)

end Sys2Proof.Machine
end

section
/-! THEOREMS. The supply, the windows of the comb and the relay, the host port. -/
namespace Sys2Proof.Machine

/-- Every register of the supply that the status's bits are not in stays through the measurement of a feed. -/
theorem State.measureFeed_par (s : State) (x : Nat) (vin vsup : Int) (q : Par) (h : P.supplyStatus.pn 0 0 ≠ q.pn 0 0) :
    (s.measureFeed x vin vsup).par q = s.par q := by
  unfold State.measureFeed State.setBit
  dsimp only
  rw [State.par_setPar_other _ _ _ _ _ _ _ _ h, State.par_setPar_other _ _ _ _ _ _ _ _ h, State.par_setPar_other _ _ _ _ _ _ _ _ h,
    State.par_setPar_other _ _ _ _ _ _ _ _ h]
  rfl

theorem State.measureFeed_quietView {β : Type} (g : State → β) (hf : ∀ (s : State) f, g { s with feeds := f } = g s)
    (hp : ∀ (s : State) q v, g (s.setPar q v) = g s) (s : State) (x : Nat) (vin vsup : Int) : g (s.measureFeed x vin vsup) = g s := by
  unfold State.measureFeed State.setBit
  dsimp only
  rw [hp, hp, hp, hp]
  exact hf ..

/-- The registers a due measurement of the supply leaves. -/
theorem supplyMeasure_of_due (s : State) (vinA vinB : Int) (vsup cur : Nat) (hst : s.dev.st ≠ .off) (hdue : s.supplyDue = true) :
    let t := supplyMeasure vinA vinB vsup cur s
    t.par P.vinAV = clamp vinA (-4000) 4500 ∧ t.par P.vinBV = clamp vinB (-4000) 4500 ∧ t.par P.vsupV = (min 4500 vsup : Nat) ∧
      (1730 ≤ vsup → bit (t.par P.supplyStatus) 8 = false) ∧ t.axes = s.axes ∧ t.standing = s.standing := by
  unfold supplyMeasure
  rw [if_neg (by simp [hst, hdue])]
  extract_lets _ s1 s2 s3 s4 was low s5
  have hA : s3.par P.vinAV = clamp vinA (-4000) 4500 := by
    rw [State.par_setPar_other _ _ _ _ _ _ _ _ (by decide), State.par_setPar_other _ _ _ _ _ _ _ _ (by decide),
      State.par_setPar_other _ _ _ _ _ _ _ _ (by decide), State.par_setPar_same]
  have hB : s3.par P.vinBV = clamp vinB (-4000) 4500 := by
    rw [State.par_setPar_other _ _ _ _ _ _ _ _ (by decide), State.par_setPar_other _ _ _ _ _ _ _ _ (by decide), State.par_setPar_same]
  have hS : s3.par P.vsupV = (min 4500 vsup : Nat) := by rw [State.par_setPar_other _ _ _ _ _ _ _ _ (by decide), State.par_setPar_same]
  have h3 : s3.axes = s.axes ∧ s3.standing = s.standing := ⟨rfl, rfl⟩
  clear_value s3
  have h4 : s4.axes = s3.axes ∧ s4.standing = s3.standing :=
    ⟨(State.measureFeed_quietView State.axes (fun _ _ => rfl) (fun _ _ _ => rfl) ..).trans
      (State.measureFeed_quietView State.axes (fun _ _ => rfl) (fun _ _ _ => rfl) ..),
     (State.measureFeed_quietView State.standing (fun _ _ => rfl) (fun _ _ _ => rfl) ..).trans
      (State.measureFeed_quietView State.standing (fun _ _ => rfl) (fun _ _ _ => rfl) ..)⟩
  have p4 (q : Par) (hs : P.supplyStatus.pn 0 0 ≠ q.pn 0 0) : s4.par q = s3.par q :=
    (State.measureFeed_par _ _ _ _ q hs).trans (State.measureFeed_par _ _ _ _ q hs)
  have hlow : 1730 ≤ vsup → low = false := fun hv => by simp [low]; omega
  clear_value s4 low
  have h5 : s5.axes = s4.axes ∧ s5.standing = s4.standing := by
    unfold s5
    split
    · exact ⟨axes_of_quiet (s4.incPar_quiet ..), standing_of_quiet (s4.incPar_quiet ..)⟩
    · exact ⟨rfl, rfl⟩
  have p5 (q : Par) (hd : P.vsupDips.pn 0 0 ≠ q.pn 0 0) : s5.par q = s4.par q := by
    unfold s5
    split
    · exact s4.incPar_par_other _ _ _ _ _ _ _ hd
    · rfl
  clear_value s5
  have hout (q : Par) (hs : P.supplyStatus.pn 0 0 ≠ q.pn 0 0) (hd : P.vsupDips.pn 0 0 ≠ q.pn 0 0) :
      (s5.setBit P.supplyStatus 8 low).par q = s3.par q := (s5.par_setPar_other _ _ _ _ _ _ _ hs).trans ((p5 q hd).trans (p4 q hs))
  refine ⟨(hout _ (by decide) (by decide)).trans hA, (hout _ (by decide) (by decide)).trans hB, (hout _ (by decide) (by decide)).trans hS,
    fun hv => ?_, h5.1.trans (h4.1.trans h3.1), h5.2.trans (h4.2.trans h3.2)⟩
  obtain rfl := hlow hv
  exact (congrArg (bit · 8) (s5.par_setPar_same ..)).trans (bit_withBit_false ..)

theorem State.feed_setFeed_same (s : State) (x : Nat) (f : Feed) : (s.setFeed x f).feed x = f := tget_tset_same ..

theorem State.feed_setFeed_other (s : State) (x y : Nat) (f : Feed) (h : y ≠ x) : (s.setFeed x f).feed y = s.feed y := tget_tset_other _ _ _ _ _ h.symm

theorem Ends.feed_eq {x t : State} (h : Ends x t) (y : Nat) : t.feed y = x.feed y := (congrArg (fun m => tget m ({} : Feed) y) h.feeds :)

/-- Settles O50: the measurement writes its registers one by one; a feed is turned where the feeds run. -/
theorem supply : Obligations.Supply := by
  refine fun s0 τ => ⟨fun vinA vinB vsup cur hst hdue => Does.of_answer rfl fun t ht => ?_, fun x hx hr => ?_, fun x vin hx hr hv => ?_, fun x vin hv => ?_⟩
  · rw [ht.par_eq, ht.par_eq, ht.par_eq, ht.par_eq, ht.axes, ht.standing]
    exact supplyMeasure_of_due (s0.at τ) vinA vinB vsup cur hst hdue
  · have h : feedReverse x (s0.at τ) = _ := if_pos (⟨hx, hr⟩ : x < 2 ∧ (s0.at τ).feedsRun = true)
    refine Does.of_answer (congrArg (answer s0) h) fun t ht => ⟨?_, fun y hy => ?_, ht.params⟩
    · rw [ht.feed_eq, State.feed_setFeed_same]
    · exact (ht.feed_eq y).trans (State.feed_setFeed_other _ _ _ _ hy)
  · have h : feedForward x vin (s0.at τ) = _ := if_pos (⟨hx, hr, hv⟩ : x < 2 ∧ (s0.at τ).feedsRun = true ∧ 0 ≤ vin)
    refine Does.of_answer (congrArg (answer s0) h) fun t ht => ⟨?_, fun y hy => ?_, ht.params⟩
    · rw [ht.feed_eq, State.feed_setFeed_same]
    · exact (ht.feed_eq y).trans (State.feed_setFeed_other _ _ _ _ hy)
  · have h : feedForward x vin (s0.at τ) = s0.at τ := if_neg (by rintro ⟨-, -, h0⟩; omega)
    exact Does.of_answer (congrArg (answer s0) h) fun t ht => ⟨ht.feeds, ht.params⟩

theorem State.sb_setSb_same (s : State) (p : Nat) (x : SbPort) : (s.setSb p x).sb p = x := tget_tset_same ..

theorem State.sb_setSb_other (s : State) (p q : Nat) (x : SbPort) (h : q ≠ p) : (s.setSb p x).sb q = s.sb q := tget_tset_other _ _ _ _ _ h.symm

theorem Ends.sb_eq {x t : State} (h : Ends x t) (p : Nat) : t.sb p = x.sb p := (congrArg (fun m : Swarm => tget m.ports {} p) h.swarm :)

/-- Settles O45: a port without a window begins the one of the moment; waiting and stopped ports go on at their times. -/
theorem combAndRelay : Obligations.CombAndRelay := by
  refine fun s0 τ p hp => ⟨fun hrun hwin => ?_, fun hrun => ?_, fun hwait hat => ?_, fun t0 hb hstop hat => ?_⟩
  · have h : combWindowStart p (s0.at τ) = (s0.at τ).setSb p { (s0.at τ).sb p with
        win := some ⟨((s0.at τ).windowAt (s0.at τ).swarmNow).1, ((s0.at τ).windowAt (s0.at τ).swarmNow).2, false⟩, tried := [] } := by
      have hw : ((s0.at τ).sb p).win = none := hwin
      have hc : (s0.at τ).closeWindow p = s0.at τ := by
        unfold State.closeWindow
        rw [hw]
      unfold combWindowStart
      rw [if_neg (by rintro (h | h); exacts [absurd h (by omega), h hrun])]
      dsimp only
      rw [hc, hw]
      rfl
    refine Does.of_answer (congrArg (answer s0) h) fun t ht => ⟨?_, ?_, ht.params, fun q hq => ?_⟩
    · rw [ht.sb_eq, State.sb_setSb_same]
      rfl
    · rw [ht.sb_eq, State.sb_setSb_same]
    · exact (ht.sb_eq q).trans (State.sb_setSb_other _ _ _ _ hq)
  · exact Does.of_answer (congrArg (answer s0) (if_pos (Or.inr hrun))) fun t ht => ⟨ht.swarm, ht.params⟩
  · have hτ : τ ≤ (s0.at τ).now := Nat.le_max_right ..
    have h : combWaitEnd p (s0.at τ) = _ := if_pos (⟨hp, hwait, hat.trans hτ⟩ : p < 4 ∧ (s0.at τ).combState p = 4 ∧ _ ≤ (s0.at τ).now)
    refine Does.of_answer (congrArg (answer s0) h) fun t ht => ⟨?_, ht.params⟩
    rw [ht.sb_eq, State.sb_setSb_same]
    rfl
  · have hτ : τ ≤ (s0.at τ).now := Nat.le_max_right ..
    have h : relayResume p (s0.at τ) = (s0.at τ).setSb p { (s0.at τ).sb p with stopped := false, betterAt := none } := by
      have hb' : ((s0.at τ).sb p).betterAt = some t0 := hb
      unfold relayResume
      dsimp only
      rw [hb']
      exact if_pos ⟨hp, hstop, hat.trans hτ⟩
    refine Does.of_answer (congrArg (answer s0) h) fun t ht => ⟨?_, ht.params⟩
    rw [ht.sb_eq, State.sb_setSb_same]
    rfl

end Sys2Proof.Machine
end

section
/-! THEOREMS. What a raised line leaves unchanged; the host port. -/
namespace Sys2Proof.Machine

/-- A view of the state that shows nothing of what a raised line changes: the Forager, the Pantry, their registers. -/
structure LineBlind {β : Type} (g : State → β) : Prop where
  forager : ∀ (s : State) (x : Tab FgChan), g { s with forager := x } = g s
  pantry : ∀ (s : State) (x : Pantry), g { s with pantry := x } = g s
  free : ∀ (s : State) (n : Nat), g { s with free := n } = g s
  fgState : ∀ (s : State) (v : Int) (c : Nat), g (s.setPar P.fgState v c) = g s
  fgPc : ∀ (s : State) (v : Int) (c : Nat), g (s.setPar P.fgPc v c) = g s
  fgStatus : ∀ (s : State) (v : Int) (c : Nat), g (s.setPar P.fgStatus v c) = g s
  fgHalts : ∀ (s : State) (v : Int) (c : Nat), g (s.setPar P.fgHalts v c) = g s
  panTrigCount : ∀ (s : State) (v : Int), g (s.setPar P.panTrigCount v) = g s
  panState : ∀ (s : State) (v : Int), g (s.setPar P.panState v) = g s

/-- A view without the parameters is one, where it shows neither the Forager nor the Pantry. -/
theorem LineBlind.of_setPar {β : Type} {g : State → β} (hfg : ∀ (s : State) x, g { s with forager := x } = g s)
    (hpan : ∀ (s : State) x, g { s with pantry := x } = g s) (hfree : ∀ (s : State) n, g { s with free := n } = g s)
    (hpar : ∀ (s : State) p v i, g (s.setPar p v i) = g s) : LineBlind g where
  forager := hfg
  pantry := hpan
  free := hfree
  fgState s v c := hpar s _ v c
  fgPc s v c := hpar s _ v c
  fgStatus s v c := hpar s _ v c
  fgHalts s v c := hpar s _ v c
  panTrigCount s v := hpar s _ v 0
  panState s v := hpar s _ v 0

theorem State.incPar_keeps {β : Type} {g : State → β} (hfree : ∀ (s : State) (n : Nat), g { s with free := n } = g s) (p : Par) (i j : Nat)
    (hp : ∀ (s : State) v, g (s.setPar p v i j) = g s) (s : State) (n : Nat) : g (s.incPar p i j n) = g s := by
  unfold State.incPar
  dsimp only
  split
  · exact hp ..
  · exact (hp ..).trans (hfree ..)

section
variable {β : Type} {g : State → β} (hg : LineBlind g)
include hg

theorem LineBlind.setFg (s : State) (c : Nat) (x : FgChan) : g (s.setFg c x) = g s := hg.forager ..

theorem LineBlind.fgHalt (s : State) (c status : Nat) : g (s.fgHalt c status) = g s := by
  unfold State.fgHalt
  exact (State.incPar_keeps hg.free _ _ _ (fun s v => hg.fgHalts s v c) _ _).trans ((hg.fgStatus ..).trans ((hg.fgState ..).trans (hg.setFg ..)))

theorem LineBlind.fgAdvance (s : State) (c n : Nat) : g (s.fgAdvance c n) = g s := by
  unfold State.fgAdvance
  dsimp only
  split
  · exact hg.fgHalt ..
  · exact hg.fgPc ..

theorem LineBlind.lineAt (s : State) (k c : Nat) : g (s.lineAt k c) = g s := by
  unfold State.lineAt
  dsimp only
  split
  · rfl
  · rfl
  · split
    · exact (hg.fgAdvance ..).trans ((hg.fgState ..).trans (hg.setFg ..))
    · exact hg.setFg ..

theorem LineBlind.latchLine (s : State) (k : Nat) : g (s.latchLine k) = g s := each_keeps g _ (fun c s => hg.lineAt s k c) _ _

theorem LineBlind.panTrigger (s : State) (cause code : Nat) (at_ : Option (Nat × Nat)) : g (s.panTrigger cause code at_) = g s := by
  have hcount (s : State) : g (s.incPar P.panTrigCount) = g s := State.incPar_keeps hg.free _ _ _ hg.panTrigCount _ _
  unfold State.panTrigger
  extract_lets s1 p sidx ch p2 s2 s3
  have h3 : g s3 = g s := (hg.latchLine ..).trans ((hg.panState ..).trans ((hg.pantry ..).trans (hcount s)))
  split
  · exact hcount s
  · split
    · exact (hcount _).trans h3
    · exact h3

theorem LineBlind.raiseLine (s : State) (k : Nat) : g (s.raiseLine k) = g s := by
  unfold State.raiseLine
  dsimp only
  split
  · exact (hg.panTrigger ..).trans (hg.latchLine ..)
  · exact hg.latchLine ..

/-- What an entry that arrived resumes and raises. -/
theorem LineBlind.arrived (s : State) (q : Nat) : g (s.arrived q) = g s := by
  unfold State.arrived
  extract_lets s1
  have h1 : g s1 = g s := each_keeps g _ (fun c s => by
    split
    · split
      · exact (hg.fgState ..).trans (hg.setFg ..)
      · exact hg.setFg ..
      · rfl
    · rfl) _ _
  split
  · exact (hg.raiseLine ..).trans h1
  · split
    · exact (hg.raiseLine ..).trans h1
    · exact h1

end

theorem lineBlind_queue (q : Nat) : LineBlind fun s => s.queue q := .of_setPar (fun _ _ => rfl) (fun _ _ => rfl) (fun _ _ => rfl) (fun _ _ _ _ => rfl)

theorem lineBlind_axes : LineBlind State.axes := .of_setPar (fun _ _ => rfl) (fun _ _ => rfl) (fun _ _ => rfl) (fun _ _ _ _ => rfl)

/-- An entry that fits goes to the end of its queue. -/
theorem State.push_of_room (s : State) (q : Nat) (data : Bytes) (dest port : Nat) (h : entrySize data.length ≤ s.freeBytes q) :
    s.push q data dest port = { s.setQueue q (s.queue q ++ [⟨data, dest, port, s.nextTag, [], s.now⟩]) with nextTag := s.nextTag + 1 } := if_pos h

theorem State.enter_of_room (s : State) (q : Nat) (data head : Bytes) (h : entrySize data.length ≤ s.freeBytes q) :
    s.enter q data head = ({ s.setQueue q (s.queue q ++ [⟨data, 0, 0, s.nextTag, head, s.now⟩]) with nextTag := s.nextTag + 1 } : State).arrived q :=
  if_pos h

/-- A flush without a waiting packet changes nothing. -/
theorem State.flush_none (s : State) (run : Bool) (h : s.waiting = []) : s.flush run = s := by
  unfold State.flush
  rw [h]
  dsimp only [List.foldl]
  rw [← h]

/-- The host port with its status and zeros shifted out behind a packet. -/
def State.shifted (s : State) (out : Bytes) : State := { s with spiOut := leBytes 1 s.spiStatus ++ out }

theorem State.shifted_length (s : State) (out : Bytes) : (s.shifted out).spiOut.length = out.length + 1 := by
  rw [State.shifted, List.length_append, leBytes_length]
  exact Nat.add_comm ..

theorem State.shifted_drop (s : State) (out : Bytes) : (s.shifted out).spiOut.drop 1 = out := by
  exact List.drop_left' (leBytes_length ..)

theorem spiWrite_of_packet (s : State) (bs : Bytes) (ha : s.answers = true) (h : 8 ≤ bs.length) (hroom : entrySize bs.length ≤ s.freeBytes 12) :
    spiWrite bs s = { (s.shifted (List.replicate bs.length 0#8)).setQueue 12 (s.queue 12 ++ [⟨bs, 0, 0, s.nextTag, [], s.now⟩]) with
      nextTag := s.nextTag + 1 } := by
  unfold spiWrite
  rw [if_neg (not_not_intro ha)]
  exact (if_neg (by omega)).trans (State.push_of_room _ _ _ _ _ hroom)

theorem spiWrite_of_short (s : State) (bs : Bytes) (ha : s.answers = true) (h : bs.length < 8) :
    spiWrite bs s = s.shifted (List.replicate bs.length 0#8) := by
  unfold spiWrite
  rw [if_neg (not_not_intro ha)]
  exact if_pos h

/-- The bytes of a read: the entry's length, a byte 0, the data, zeros. -/
def readOut (d : Bytes) (n : Nat) : Bytes := (leBytes 2 d.length ++ leBytes 1 0 ++ d ++ List.replicate n 0#8).take n

theorem readOut_length (d : Bytes) (n : Nat) : (readOut d n).length = n := by
  simp [readOut]
  omega

theorem readOut_data (d : Bytes) (n : Nat) (h : d.length + 3 ≤ n) : ((readOut d n).drop 3).take d.length = d := by
  rw [readOut, List.drop_take, List.append_assoc, List.drop_left' (by simp), List.take_take, List.take_left']
  omega

theorem spiRead_of_entry (s : State) (n : Nat) (e : Entry) (rest : List Entry) (ha : s.answers = true) (hq : s.queue 16 = e :: rest) :
    spiRead n s = if e.data ≠ [] ∧ e.data.length + 3 ≤ n then ((s.shifted (readOut e.data n)).pop 16).flush true else s.shifted (readOut e.data n) := by
  unfold spiRead
  rw [if_neg (not_not_intro ha), hq]
  rfl

/-- A read of the whole entry takes it from its queue. -/
theorem spiRead_of_all (s : State) (n : Nat) (e : Entry) (rest : List Entry) (ha : s.answers = true) (hq : s.queue 16 = e :: rest)
    (hd : e.data ≠ []) (hn : e.data.length + 3 ≤ n) (hw : s.waiting = []) : spiRead n s = (s.shifted (readOut e.data n)).setQueue 16 rest := by
  have hpop : (s.shifted (readOut e.data n)).pop 16 = (s.shifted (readOut e.data n)).setQueue 16 rest :=
    congrArg ((s.shifted (readOut e.data n)).setQueue 16) (congrArg (List.drop 1) hq)
  rw [spiRead_of_entry s n e rest ha hq, if_pos ⟨hd, hn⟩, hpop]
  exact State.flush_none _ _ hw

theorem spiQuery_of_command (s : State) (c : BitVec 8) (bs : Bytes) (ha : s.answers = true) (h1 : c ≠ 1#8) (h2 : c ≠ 2#8) :
    spiQuery (c :: bs) s = s.shifted (((if c = 3#8 then leBytes 2 (s.freeBytes 12) ++ leBytes 2 (s.queue 16).length else []) ++
      List.replicate bs.length 0#8).take bs.length) := by
  refine if_neg ?_
  rintro (h | h | h)
  exacts [h ha, h1 h, h2 h]

/-- A producer's entry of the queues 12 to 19, which no function takes on. -/
theorem queueWrite_of_push (s : State) (q : Nat) (data : Bytes) (dest port : Nat) (hst : s.dev.st ≠ .off) (hlo : 12 ≤ q) (hhi : q < 20) (h17 : q ≠ 17) :
    queueWrite q data dest port s = s.push q data dest port := by
  unfold queueWrite
  rw [if_neg (by rintro (h | h); exacts [absurd h (by omega), hst h]), if_neg (by omega), if_neg h17, if_pos ⟨hlo, hhi⟩]

/-- A producer's entry of a queue that the Forager reads or nobody takes. -/
theorem queueWrite_of_enter (s : State) (q : Nat) (data : Bytes) (dest port : Nat) (hst : s.dev.st ≠ .off) (hq : q < 8 ∨ 20 ≤ q) (hhi : q < 32) :
    queueWrite q data dest port s = s.enter q data [] := by
  unfold queueWrite
  rw [if_neg (by rintro (h | h); exacts [absurd h (by omega), hst h]), if_neg (by omega), if_neg (by omega), if_neg (by omega)]

/-- The status query: the room of queue 12 and the entries of queue 16. -/
theorem spiQuery_counts (s : State) (bs : Bytes) (ha : s.answers = true) (h : bs.head? = some 3#8) (hlen : 5 ≤ bs.length) :
    ∃ out, spiQuery bs s = s.shifted out ∧ out.take 4 = leBytes 2 (s.freeBytes 12) ++ leBytes 2 (s.queue 16).length := by
  obtain ⟨tail, rfl⟩ := List.head?_eq_some_iff.mp h
  have hl : 4 ≤ tail.length := by simpa using hlen
  refine ⟨_, spiQuery_of_command s 3#8 tail ha (by decide) (by decide), ?_⟩
  rw [if_pos rfl, List.take_take, Nat.min_eq_left hl]
  exact List.take_left' (by simp)

/-- Settles O41: a push adds at the end, a read that reaches the end of an entry takes it. -/
theorem hostPort : Obligations.HostPort := by
  refine fun s0 τ hst => ⟨fun bs ha hlen hroom => ?_, fun bs ha hlen => ?_, fun e rest n ha hq hd hw => ⟨fun hn => ?_, fun hn => ?_⟩,
    fun bs ha hc hlen => ?_, fun c bs ha h1 h2 h3 => ?_, fun q data dest port hlo hhi h17 hroom => ?_, fun q data dest port hq hhi hroom => ?_⟩
  · refine Does.of_answer (congrArg (answer s0) (spiWrite_of_packet (s0.at τ) bs ha hlen hroom)) fun t ht => ⟨?_, ?_, ht.params⟩
    · exact (ht.queue_eq 12).trans (State.queue_setQueue_same ..)
    · rw [ht.spiOut]
      exact (State.shifted_length ..).trans (by rw [List.length_replicate])
  · refine Does.of_answer (congrArg (answer s0) (spiWrite_of_short (s0.at τ) bs ha hlen)) fun t ht => ⟨ht.queues, ?_, ht.params⟩
    rw [ht.spiOut, State.shifted_length, List.length_replicate]
  · refine Does.of_answer (congrArg (answer s0) (spiRead_of_all (s0.at τ) n e rest ha hq hd hn hw)) fun t ht => ⟨?_, ?_⟩
    · exact (ht.queue_eq 16).trans (State.queue_setQueue_same ..)
    · have hout : t.spiOut.drop 4 = (readOut e.data n).drop 3 := by
        rw [ht.spiOut, ← List.drop_drop (i := 3) (j := 1)]
        exact congrArg (List.drop 3) (State.shifted_drop ..)
      rw [hout, readOut_data _ _ hn]
  · have hx := (spiRead_of_entry (s0.at τ) n e rest ha hq).trans (if_neg (by omega))
    refine Does.of_answer (congrArg (answer s0) hx) fun t ht => ⟨ht.queues, ?_⟩
    rw [ht.spiOut, State.shifted_length, readOut_length]
  · obtain ⟨out, hx, hout⟩ := spiQuery_counts (s0.at τ) bs ha hc hlen
    refine Does.of_answer (congrArg (answer s0) hx) fun t ht => ⟨?_, ht.queues⟩
    rw [ht.spiOut, State.shifted_drop, hout]
    rfl
  · refine Does.of_answer (congrArg (answer s0) (spiQuery_of_command (s0.at τ) c bs ha h1 h2)) fun t ht => ⟨?_, ht.queues, ht.params⟩
    rw [ht.spiOut, State.shifted_drop, if_neg h3, List.nil_append, List.take_replicate, Nat.min_self]
  · have hx := (queueWrite_of_push (s0.at τ) q data dest port hst hlo hhi h17).trans (State.push_of_room _ _ _ _ _ hroom)
    refine Does.of_answer (congrArg (answer s0) hx) fun t ht => ⟨?_, fun r hr => ?_, ht.axes⟩
    · exact (ht.queue_eq q).trans (State.queue_setQueue_same ..)
    · exact (ht.queue_eq r).trans (State.queue_setQueue_other _ _ _ _ hr.symm)
  · have hx := (queueWrite_of_enter (s0.at τ) q data dest port hst hq hhi).trans (State.enter_of_room _ _ _ _ hroom)
    refine Does.of_answer (congrArg (answer s0) hx) fun t ht => ⟨?_, fun r hr => ?_, ht.axes.trans (lineBlind_axes.arrived ..)⟩
    · exact (ht.queue_eq q).trans (((lineBlind_queue q).arrived ..).trans (State.queue_setQueue_same ..))
    · exact (ht.queue_eq r).trans (((lineBlind_queue r).arrived ..).trans (State.queue_setQueue_other _ _ _ _ hr.symm))

end Sys2Proof.Machine
end

section
/-! SUPPORT. What the traffic of the swarm bus leaves unchanged: frames and packets queued, fed, dropped and reported. -/
namespace Sys2Proof.Machine

/-- A view of the state that shows nothing of the traffic: queues, frames, feeds, notifications and their counters. -/
structure BusBlind {β : Type} (g : State → β) : Prop where
  queues : ∀ (s : State) (x : Tab (List Entry)) (tag : Nat), g { s with queues := x, nextTag := tag } = g s
  ring : ∀ (s : State) (x : Ring), g { s with ring := x } = g s
  sessions : ∀ (s : State) (x : Tab Session), g { s with sessions := x } = g s
  waiting : ∀ (s : State) (x : List Waiting), g { s with waiting := x } = g s
  ops : ∀ (s : State) (x : List Op), g { s with ops := x } = g s
  boot : ∀ (s : State) (x : Option PendingBoot), g { s with dev := { s.dev with pendingBoot := x } } = g s
  frames : ∀ (s : State) (p : Nat) (l : List TxFrame), g (s.setSb p { s.sb p with frames := l }) = g s
  life : ∀ (s : State) (p : Nat) (d : List Nat) (e : Option Nat), g (s.setSb p { s.sb p with drops := d, lifeEventAt := e }) = g s
  feeds : ∀ (s : State) f x t, g { s with swarm := { s.swarm with feeds := f, nextXfer := x, tags := t } } = g s
  overflow : ∀ (s : State) (q : Nat), g (s.incPar P.qOverflow q) = g s
  drops : ∀ s : State, g (s.incPar P.notifDrops) = g s
  lifeDrops : ∀ (s : State) (p n : Nat), g (s.incPar P.lifeDrops p 0 n) = g s
  copies : ∀ s : State, g (s.incPar P.emergCopies) = g s
  forwards : ∀ (s : State) (p : Nat), g (s.incPar P.fwdFrames p) = g s

/-- Every parameter but the five counters is such a view. -/
theorem busBlind_par {q : Par} {k l : Nat} (hoverflow : ∀ i, P.qOverflow.pn i 0 ≠ q.pn k l) (hdrops : P.notifDrops.pn 0 0 ≠ q.pn k l)
    (hlife : ∀ i, P.lifeDrops.pn i 0 ≠ q.pn k l) (hcopies : P.emergCopies.pn 0 0 ≠ q.pn k l) (hfwd : ∀ i, P.fwdFrames.pn i 0 ≠ q.pn k l) :
    BusBlind fun s => s.par q k l where
  queues _ _ _ := rfl
  ring _ _ := rfl
  sessions _ _ := rfl
  waiting _ _ := rfl
  ops _ _ := rfl
  boot _ _ := rfl
  frames _ _ _ := rfl
  life _ _ _ _ := rfl
  feeds _ _ _ _ := rfl
  overflow s i := s.incPar_par_other _ _ _ _ _ _ _ (hoverflow i)
  drops s := s.incPar_par_other _ _ _ _ _ _ _ hdrops
  lifeDrops s p _ := s.incPar_par_other _ _ _ _ _ _ _ (hlife p)
  copies s := s.incPar_par_other _ _ _ _ _ _ _ hcopies
  forwards s p := s.incPar_par_other _ _ _ _ _ _ _ (hfwd p)

/-- The swarm's state without its ports, feeds and tags. -/
def Swarm.core (w : Swarm) : Swarm := { w with ports := [], feeds := [], nextXfer := 0, tags := [] }

/-- A port without its frames and the record of those that expired. -/
def SbPort.core (x : SbPort) : SbPort := { x with frames := [], drops := [], lifeEventAt := none }

/-- A view that counters and draws do not enter. -/
theorem incPar_keeps_of {β : Type} {g : State → β} (h : ∀ (s : State) (m : Tab Int) (n : Nat), g { s with params := m, free := n } = g s)
    (s : State) (p : Par) (i j n : Nat) : g (s.incPar p i j n) = g s :=
  State.incPar_keeps (fun s n => h s s.params n) p i j (fun s _ => h s _ s.free) s n

theorem busBlind_swarm : BusBlind fun s => s.swarm.core where
  queues _ _ _ := rfl
  ring _ _ := rfl
  sessions _ _ := rfl
  waiting _ _ := rfl
  ops _ _ := rfl
  boot _ _ := rfl
  frames _ _ _ := rfl
  life _ _ _ _ := rfl
  feeds _ _ _ _ := rfl
  overflow s q := incPar_keeps_of (g := fun s => s.swarm.core) (fun _ _ _ => rfl) s _ q 0 1
  drops s := incPar_keeps_of (g := fun s => s.swarm.core) (fun _ _ _ => rfl) s _ 0 0 1
  lifeDrops s p n := incPar_keeps_of (g := fun s => s.swarm.core) (fun _ _ _ => rfl) s _ p 0 n
  copies s := incPar_keeps_of (g := fun s => s.swarm.core) (fun _ _ _ => rfl) s _ 0 0 1
  forwards s p := incPar_keeps_of (g := fun s => s.swarm.core) (fun _ _ _ => rfl) s _ p 0 1

theorem State.sb_setSb (s : State) (p q : Nat) (x : SbPort) : (s.setSb p x).sb q = if q = p then x else s.sb q := by
  split
  next h => rw [h, State.sb_setSb_same]
  next h => exact s.sb_setSb_other _ _ _ h

theorem State.sbCore_setSb (s : State) (p q : Nat) (x : SbPort) (h : x.core = (s.sb p).core) : ((s.setSb p x).sb q).core = (s.sb q).core := by
  rw [State.sb_setSb]
  split
  next hq => rw [hq, h]
  next => rfl

theorem busBlind_sb (q : Nat) : BusBlind fun s => (s.sb q).core where
  queues _ _ _ := rfl
  ring _ _ := rfl
  sessions _ _ := rfl
  waiting _ _ := rfl
  ops _ _ := rfl
  boot _ _ := rfl
  frames s p _ := s.sbCore_setSb p q _ rfl
  life s p _ _ := s.sbCore_setSb p q _ rfl
  feeds _ _ _ _ := rfl
  overflow s k := incPar_keeps_of (g := fun s => (s.sb q).core) (fun _ _ _ => rfl) s _ k 0 1
  drops s := incPar_keeps_of (g := fun s => (s.sb q).core) (fun _ _ _ => rfl) s _ 0 0 1
  lifeDrops s p n := incPar_keeps_of (g := fun s => (s.sb q).core) (fun _ _ _ => rfl) s _ p 0 n
  copies s := incPar_keeps_of (g := fun s => (s.sb q).core) (fun _ _ _ => rfl) s _ 0 0 1
  forwards s p := incPar_keeps_of (g := fun s => (s.sb q).core) (fun _ _ _ => rfl) s _ p 0 1

section
variable {β : Type} {g : State → β} (hg : BusBlind g)
include hg

theorem BusBlind.setQueue (s : State) (q : Nat) (l : List Entry) : g (s.setQueue q l) = g s := hg.queues s _ s.nextTag

theorem BusBlind.push (s : State) (q : Nat) (data : Bytes) (dest port : Nat) : g (s.push q data dest port) = g s := by
  unfold State.push
  split
  · exact hg.queues s ..
  · exact hg.overflow ..

theorem BusBlind.txPut (s : State) (p id : Nat) (data : Bytes) (own : Bool) (xfer : Option Nat) (last : Bool) (copyOf : Option (Nat × Nat)) :
    g (s.txPut p id data own xfer last copyOf) = g s := by
  unfold State.txPut
  dsimp only
  split
  · exact (hg.frames ..).trans (hg.push ..)
  · exact hg.push ..

theorem BusBlind.feedOne (s : State) (e : Entry) : g (s.feedOne e) = g s := by
  unfold State.feedOne
  split
  · rfl
  · split
    · rfl
    · split
      · exact hg.setQueue ..
      · dsimp only
        split
        · exact (foldl_keeps g _ (fun _ _ => hg.txPut ..) _ _).trans (hg.feeds ..)
        · rfl

theorem BusBlind.swarmFeed (s : State) : g s.swarmFeed = g s :=
  foldl_keeps g _ (fun x e => hg.feedOne x e) _ _

theorem BusBlind.send (s : State) (x : Session) (p : Bytes) : g (s.send x p) = g s := by
  unfold State.send
  split
  · exact (foldl_keeps g _ (fun _ _ => hg.push ..) _ _).trans (hg.ring ..)
  · exact (hg.swarmFeed _).trans (hg.push ..)
  · exact hg.push ..

theorem BusBlind.sendMark (s : State) (x : Session) (p : Bytes) (boot : Bool) : g (s.sendMark x p boot) = g s := by
  unfold State.sendMark
  dsimp only
  split
  · exact (hg.boot ..).trans (hg.send ..)
  · exact hg.send ..

theorem BusBlind.sendOrWait (s : State) (n : Nat) (p : Bytes) (boot run : Bool) : g (s.sendOrWait n p boot run) = g s := by
  unfold State.sendOrWait
  dsimp only
  split
  · exact hg.sendMark ..
  · exact hg.waiting ..

theorem BusBlind.endOp (s : State) (opcode target status : Nat) (extra : Bytes) : g (s.endOp opcode target status extra) = g s := by
  unfold State.endOp State.complete
  split
  · rfl
  · dsimp only
    split
    · exact (hg.sendOrWait ..).trans (hg.ops ..)
    · exact hg.ops ..

theorem BusBlind.notifyTo (s : State) (n cls subj ev : Nat) (data : Bytes) : g (s.notifyTo n cls subj ev data) = g s := by
  unfold State.notifyTo
  dsimp only
  split
  · exact (hg.send ..).trans (hg.sessions ..)
  · exact (hg.drops _).trans (hg.sessions ..)

theorem BusBlind.notify (s : State) (cls pos subj : Nat) (data : Bytes) : g (s.notify cls pos subj data) = g s := by
  refine foldl_keeps g _ (fun x n => ?_) _ s
  split
  · exact hg.notifyTo ..
  · rfl

theorem BusBlind.busEvent (s : State) (pos subj : Nat) (data : Bytes) : g (s.busEvent pos subj data) = g s := hg.notify ..

theorem BusBlind.errEvent (s : State) (p old : Nat) : g (s.errEvent p old) = g s := hg.busEvent ..

theorem BusBlind.txDrop (s : State) (p tag : Nat) : g (s.txDrop p tag) = g s := (hg.frames ..).trans (hg.setQueue ..)

theorem BusBlind.feedDone (s : State) (x : Nat) : g (s.feedDone x) = g s := by
  unfold State.feedDone
  split
  · exact (hg.swarmFeed _).trans ((hg.setQueue ..).trans (hg.feeds ..))
  · rfl

theorem BusBlind.feedGone (s : State) (f : TxFrame) : g (s.feedGone f) = g s := by
  unfold State.feedGone
  split
  · exact (hg.setQueue ..).trans (hg.feeds ..)
  · rfl

theorem BusBlind.dropFrames (s : State) (p : Nat) (fs : List TxFrame) : g (s.dropFrames p fs) = g s := by
  refine foldl_keeps g _ (fun s f => ?_) _ s
  dsimp only
  split
  · exact (hg.feedDone ..).trans (hg.txDrop ..)
  · exact hg.txDrop ..

theorem BusBlind.expire (s : State) (p : Nat) : g (s.expire p) = g s := by
  unfold State.expire
  extract_lets late all s1 x drops due s2
  have h1 : g s1 = g s := (hg.lifeDrops ..).trans (hg.dropFrames ..)
  have h2 : g s2 = g s := (hg.life ..).trans h1
  split
  · rfl
  · split
    · exact (hg.busEvent ..).trans h2
    · exact h2

theorem BusBlind.evict (p n m : Nat) (s : State) : g (s.evict p n m) = g s := by
  induction m generalizing s with
  | zero => rfl
  | succ m ih =>
    unfold State.evict
    split
    · rfl
    · dsimp only
      split
      · rfl
      · exact (ih _).trans ((hg.lifeDrops ..).trans ((hg.feedGone ..).trans (hg.txDrop ..)))

theorem BusBlind.copyEmerg (s : State) (p : Nat) (fs : List TxFrame) : g (s.copyEmerg p fs) = g s := by
  unfold State.copyEmerg
  dsimp only
  split
  · refine (hg.busEvent ..).trans (foldl_keeps g _ (fun s f => ?_) _ s)
    split
    · exact (hg.copies _).trans ((hg.txPut ..).trans (hg.evict ..))
    · rfl
  · rfl

theorem BusBlind.queueFrame (s : State) (p id : Nat) (data : Bytes) (own : Bool) : g (s.queueFrame p id data own) = g s := by
  unfold State.queueFrame
  dsimp only
  split
  · exact (hg.copyEmerg ..).trans (hg.txPut ..)
  · exact hg.txPut ..

theorem BusBlind.forwardOut (s : State) (q id : Nat) (data : Bytes) (own : Bool) : g (s.forwardOut q id data own) = g s := by
  unfold State.forwardOut
  dsimp only
  split
  · exact hg.queueFrame ..
  · exact (hg.forwards ..).trans (hg.queueFrame ..)

theorem BusBlind.forwardBcast (s : State) (p src id : Nat) (data : Bytes) (own : Bool) : g (s.forwardBcast p src id data own) = g s := by
  unfold State.forwardBcast
  dsimp only
  split
  · refine each_keeps g _ (fun q s => ?_) _ s
    split
    · exact hg.forwardOut ..
    · rfl
  · rfl

theorem BusBlind.ownBcast (s : State) (prio cls detail : Nat) (data : Bytes) : g (s.ownBcast prio cls detail data) = g s :=
  State.ownBcast_keeps g (fun _ _ _ _ => hg.queueFrame ..) (fun _ _ _ _ _ => hg.forwardBcast ..) s prio cls detail data

theorem BusBlind.unstand (hring : ∀ (s : State) x, g { s with faultRing := x } = g s) (hstand : ∀ (s : State) x, g { s with standing := x } = g s)
    (s : State) (f : Standing) : g (s.unstand f) = g s := by
  have hclear (s : State) (path : String) (code subj : Nat) : g (s.recordClear code subj path) = g s := by
    unfold State.recordClear
    split
    · rfl
    · exact hring ..
  exact (hg.notify ..).trans ((hclear ..).trans (hstand ..))

theorem BusBlind.unstandCode (hring : ∀ (s : State) x, g { s with faultRing := x } = g s) (hstand : ∀ (s : State) x, g { s with standing := x } = g s)
    (s : State) (code inst : Nat) : g (s.unstandCode code inst) = g s :=
  foldl_keeps g _ (fun s f => hg.unstand hring hstand s f) _ s

end

end Sys2Proof.Machine
end

section
/-! THEOREMS. The ports of the swarm bus and the address. -/
namespace Sys2Proof.Machine

theorem State.par_congr {a b : State} (h : a.params = b.params) (q : Par) (k : Nat) : a.par q k = b.par q k := by
  unfold State.par
  rw [h]

/-- A register below the queues' overflow counters that is not one of the bus's counters shows nothing of the traffic. -/
theorem busBlind_of_pn {q : Par} {k : Nat} (n : Nat) (hn : q.pn k 0 = n) (h : n < 41986 ∧ n ≠ 33551 ∧ n % 64 ≠ 39 ∧ n % 64 ≠ 43) :
    BusBlind fun s => s.par q k := by
  obtain ⟨hlow, hc, hlife, hfwd⟩ := h
  refine busBlind_par (fun i => ?_) ?_ (fun i => ?_) ?_ (fun i => ?_) <;> rw [hn]
  · change 41986 + 4 * i + 0 * 0 ≠ n
    omega
  · change 49159 ≠ n
    omega
  · change 32807 + 64 * i + 0 * 0 ≠ n
    omega
  · change 33551 ≠ n
    omega
  · change 32811 + 64 * i + 0 * 0 ≠ n
    omega

theorem busBlind_sbState {p : Nat} (hp : p < 4) : BusBlind fun s => s.par P.sbState p := busBlind_of_pn (32800 + 64 * p) rfl (by omega)
theorem busBlind_tec {p : Nat} (hp : p < 4) : BusBlind fun s => s.par P.tec p := busBlind_of_pn (32801 + 64 * p) rfl (by omega)
theorem busBlind_rec {p : Nat} (hp : p < 4) : BusBlind fun s => s.par P.rec p := busBlind_of_pn (32802 + 64 * p) rfl (by omega)
theorem busBlind_sbEn {p : Nat} (hp : p < 4) : BusBlind fun s => s.par P.sbEn p := busBlind_of_pn (32768 + 64 * p) rfl (by omega)
theorem busBlind_addrState : BusBlind fun s => s.par P.addrState := busBlind_of_pn 33539 rfl (by omega)
theorem busBlind_addrHeld : BusBlind fun s => s.par P.addrHeld := busBlind_of_pn 33540 rfl (by omega)

theorem sbState_pn_ne {p q : Nat} (h : p ≠ q) : P.sbState.pn p 0 ≠ P.sbState.pn q 0 := by
  change 32800 + 64 * p + 0 * 0 ≠ 32800 + 64 * q + 0 * 0
  omega

/-- A register of a port stays where another of its registers is written. -/
theorem State.par_setPar_port {s : State} {p q : Par} {v : Int} {k : Nat} (a b : Nat) (hp : p.pn k 0 = a + 64 * k) (hq : q.pn k 0 = b + 64 * k) (h : a ≠ b) :
    (s.setPar p v k).par q k = s.par q k :=
  s.par_setPar_other _ _ _ _ _ _ _ (by rw [hp, hq]; omega)

/-- A bus-off port that counts recessive bits is recovering. -/
theorem State.countBits_same (s : State) (p : Nat) (request : Bool) : (s.countBits p request).par P.sbState p = 5 ∧
    ((s.countBits p request).sb p).request = request ∧ ((s.countBits p request).sb p).countAt = s.now := by
  have h : (s.countBits p request).sb p = { s.sb p with countAt := s.now, request := request } := State.sb_setSb_same ..
  exact ⟨State.par_setPar_same .., by rw [h], by rw [h]⟩

theorem State.countBits_other (s : State) {p q : Nat} (request : Bool) (h : q ≠ p) :
    (s.countBits p request).par P.sbState q = s.par P.sbState q ∧ (s.countBits p request).sb q = s.sb q :=
  ⟨State.par_setPar_other _ _ _ _ _ _ _ _ (sbState_pn_ne h.symm), State.sb_setSb_other _ _ _ _ h⟩

/-- One port of a recovery by request. -/
def State.recoverPort (s : State) (p : Nat) : State := if s.par P.sbState p = 4 then s.countBits p true else s

theorem State.recoverPort_idle (s : State) {p q : Nat} (h : s.par P.sbState p ≠ 4) :
    (s.recoverPort q).par P.sbState p = s.par P.sbState p ∧ (s.recoverPort q).sb p = s.sb p := by
  unfold State.recoverPort
  split
  next hq =>
    have hne : p ≠ q := fun he => h (he ▸ hq)
    exact s.countBits_other _ hne
  next => exact ⟨rfl, rfl⟩

theorem sbRecover_eq (mask : Nat) (s : State) : sbRecover mask s = (bitsOf 4 mask).foldl State.recoverPort s := rfl

/-- A port that is not bus-off is not recovered. -/
theorem sbRecover_idle (mask : Nat) (s : State) {p : Nat} (h : s.par P.sbState p ≠ 4) :
    (sbRecover mask s).par P.sbState p = s.par P.sbState p ∧ (sbRecover mask s).sb p = s.sb p := by
  rw [sbRecover_eq]
  refine foldl_holds (p := fun x => x.par P.sbState p = s.par P.sbState p ∧ x.sb p = s.sb p) (fun x q hx => ?_) _ ⟨rfl, rfl⟩
  obtain ⟨h1, h2⟩ := x.recoverPort_idle (p := p) (q := q) (by rw [hx.1]; exact h)
  exact ⟨h1.trans hx.1, h2.trans hx.2⟩

/-- Every bus-off port of the mask recovers by request. -/
theorem sbRecover_of_bit (mask : Nat) (s : State) {p : Nat} (hp : p < 4) (hm : mask / 2 ^ p % 2 = 1) (h : s.par P.sbState p = 4) :
    (sbRecover mask s).par P.sbState p = 5 ∧ ((sbRecover mask s).sb p).request = true := by
  rw [sbRecover_eq]
  have go (l : List Nat) (x : State) (hx : x.par P.sbState p = 4 ∧ p ∈ l ∨ x.par P.sbState p = 5 ∧ (x.sb p).request = true) :
      (l.foldl State.recoverPort x).par P.sbState p = 5 ∧ ((l.foldl State.recoverPort x).sb p).request = true := by
    induction l generalizing x with
    | nil => simpa using hx
    | cons q l ih =>
      refine ih _ ?_
      rcases hx with ⟨h4, hmem⟩ | ⟨h5, hr⟩
      · by_cases hq : p = q
        · have he : x.recoverPort q = x.countBits q true := if_pos (hq ▸ h4)
          obtain ⟨h1, h2, -⟩ := x.countBits_same q true
          rw [he, hq]
          exact .inr ⟨h1, h2⟩
        · left
          refine ⟨?_, (List.mem_cons.mp hmem).resolve_left hq⟩
          unfold State.recoverPort
          split
          · exact (x.countBits_other _ hq).1.trans h4
          · exact h4
      · right
        obtain ⟨h1, h2⟩ := x.recoverPort_idle (p := p) (q := q) (by rw [h5]; decide)
        exact ⟨h1.trans h5, by rw [h2]; exact hr⟩
  exact go _ s (.inl ⟨h, mem_bitsOf hp hm⟩)

theorem State.unstand_standing (s : State) (f : Standing) : (s.unstand f).standing = s.standing.filter fun g => decide (g ≠ f) :=
  standing_of_quiet (s.unstand_quiet f)

/-- After its end no fault of the code stands at its place, and no other is added. -/
theorem State.mem_unstandCode {s : State} {code inst : Nat} {f : Standing} (h : f ∈ (s.unstandCode code inst).standing) :
    f ∈ s.standing ∧ ¬(f.code = code ∧ f.inst = inst) := by
  have go (l : List Standing) (x : State) (hf : f ∈ (l.foldl (fun s g => s.unstand g) x).standing) : f ∈ x.standing ∧ f ∉ l := by
    induction l generalizing x with
    | nil => exact ⟨hf, List.not_mem_nil⟩
    | cons g l ih =>
      obtain ⟨hx, hl⟩ := ih _ hf
      rw [State.unstand_standing, List.mem_filter] at hx
      refine ⟨hx.1, fun hm => ?_⟩
      rcases List.mem_cons.mp hm with rfl | hm
      · simp at hx
      · exact hl hm
  obtain ⟨hmem, hnot⟩ := go _ _ h
  refine ⟨hmem, fun hc => hnot (List.mem_filter.mpr ⟨hmem, ?_⟩)⟩
  simp [hc]

theorem State.unstandCode_ends (s : State) (code inst : Nat) : (s.unstandCode code inst).stands code inst = false := by
  refine List.any_eq_false.mpr fun f hf hc => (State.mem_unstandCode hf).2 ?_
  simpa using hc

/-- A claim changes the address's state and the frames of its ports. -/
theorem BusBlind.startClaim {β : Type} {g : State → β} (hg : BusBlind g)
    (hclaim : ∀ (s : State) a t, g { s with swarm := { s.swarm with claimAddr := a, claimAt := t, nextAddr := none } } = g s)
    (hstate : ∀ s : State, g (s.setPar P.addrState 1) = g s) (hheld : ∀ s : State, g (s.setPar P.addrHeld 0xFFFF) = g s)
    (hport : ∀ (s : State) p, g (s.setSb p { s.sb p with claiming := true }) = g s) (s : State) (a : Nat) : g (s.startClaim a) = g s := by
  unfold State.startClaim
  extract_lets ports wait s1 s2
  split
  · rfl
  · exact (foldl_keeps g _ (fun s p => (hg.queueFrame ..).trans (hport ..)) _ _).trans ((hheld _).trans ((hstate _).trans (hclaim ..)))

theorem State.startClaim_par (s : State) (a : Nat) {q : Par} {k : Nat} (hg : BusBlind fun s => s.par q k) (hstate : P.addrState.pn 0 0 ≠ q.pn k 0)
    (hheld : P.addrHeld.pn 0 0 ≠ q.pn k 0) : (s.startClaim a).par q k = s.par q k :=
  hg.startClaim (fun _ _ _ => rfl) (fun s => s.par_setPar_other _ _ _ _ _ _ _ hstate) (fun s => s.par_setPar_other _ _ _ _ _ _ _ hheld) (fun _ _ => rfl) s a

/-- The end of a recovery: the port is active with its counters at zero, and its bus-off has ended. -/
theorem busOffRecovered_of_due (s : State) {p : Nat} (hp : p < 4) (hst : s.par P.sbState p = 5)
    (hat : (s.sb p).countAt + 1408 * s.nomBit p * 25 / 2 ≤ s.now) :
    let t := busOffRecovered p s
    t.par P.sbState p = 2 ∧ t.par P.tec p = 0 ∧ t.par P.rec p = 0 ∧ t.stands 0x0A06 p = false ∧ t.axes = s.axes := by
  unfold busOffRecovered
  rw [if_pos ⟨hp, hst, hat⟩]
  extract_lets s1 _ s2 s3 q sole s4 t
  have hrec : s1.par P.rec p = 0 := (State.par_setPar_port 32800 32802 rfl rfl (by decide)).trans
    (State.par_setPar_same ..)
  have htec : s1.par P.tec p = 0 := (State.par_setPar_port 32800 32801 rfl rfl (by decide)).trans
    ((State.par_setPar_port 32802 32801 rfl rfl (by decide)).trans (State.par_setPar_same ..))
  have hsb : s1.par P.sbState p = 2 := State.par_setPar_same ..
  have hax : s1.axes = s.axes := rfl
  clear_value s1
  have hend : s2.stands 0x0A06 p = false := State.unstandCode_ends ..
  have keep {q : Par} {k : Nat} (hg : BusBlind fun s => s.par q k) : s4.par q k = s1.par q k := by
    refine (hg.copyEmerg ..).trans ((hg.errEvent ..).trans ((hg.expire ..).trans ((hg.unstandCode (fun _ _ => rfl) (fun _ _ => rfl) ..).trans rfl)))
  have hquiet : s4.quiet = s2.quiet := (State.copyEmerg_quiet ..).trans ((State.busEvent_quiet ..).trans (State.expire_quiet ..))
  have hax4 : s4.axes = s.axes := (axes_of_quiet hquiet).trans ((State.unstandCode_axes ..).trans hax)
  have h4 : s4.par P.sbState p = 2 ∧ s4.par P.tec p = 0 ∧ s4.par P.rec p = 0 ∧ s4.stands 0x0A06 p = false ∧ s4.axes = s.axes :=
    ⟨(keep (busBlind_sbState hp)).trans hsb, (keep (busBlind_tec hp)).trans htec, (keep (busBlind_rec hp)).trans hrec,
      (stands_congr (standing_of_quiet hquiet) _ _).trans hend, hax4⟩
  clear_value s4
  obtain ⟨h1, h2, h3, h5, h6⟩ := h4
  have ht : t = s4 ∨ ∃ a, t = s4.startClaim a := by
    unfold t
    split
    · exact .inr ⟨_, rfl⟩
    · exact .inl rfl
  clear_value t
  rcases ht with rfl | ⟨a, rfl⟩
  · exact ⟨h1, h2, h3, h5, h6⟩
  · have hne (n : Nat) (hn : n < 33539) : (33539 : Nat) + 0 * 0 + 0 * 0 ≠ n ∧ (33540 : Nat) + 0 * 0 + 0 * 0 ≠ n := by omega
    refine ⟨(State.startClaim_par _ _ (busBlind_sbState hp) ?_ ?_).trans h1, (State.startClaim_par _ _ (busBlind_tec hp) ?_ ?_).trans h2,
      (State.startClaim_par _ _ (busBlind_rec hp) ?_ ?_).trans h3, (stands_congr (standing_of_quiet (State.startClaim_quiet ..)) _ _).trans h5,
      (axes_of_quiet (State.startClaim_quiet ..)).trans h6⟩
    · exact (hne (32800 + 64 * p) (by omega)).1
    · exact (hne (32800 + 64 * p) (by omega)).2
    · exact (hne (32801 + 64 * p) (by omega)).1
    · exact (hne (32801 + 64 * p) (by omega)).2
    · exact (hne (32802 + 64 * p) (by omega)).1
    · exact (hne (32802 + 64 * p) (by omega)).2

theorem State.claimNow_keeps {β : Type} {g : State → β} (h : ∀ (s : State) a, g (s.startClaim a) = g s) (s : State) : g s.claimNow = g s := by
  unfold State.claimNow
  split
  · exact h ..
  · split
    · exact h ..
    · rfl

/-- A register of a port: where it lies among the bus's registers. -/
theorem claim_pn_ne (n : Nat) (hn : n < 33539) : P.addrState.pn 0 0 ≠ n ∧ P.addrHeld.pn 0 0 ≠ n := by
  change (33539 : Nat) + 0 * 0 + 0 * 0 ≠ n ∧ (33540 : Nat) + 0 * 0 + 0 * 0 ≠ n
  omega

theorem State.claimNow_par (s : State) {q : Par} {k : Nat} (n : Nat) (hn : q.pn k 0 = n) (h : n < 33539 ∧ n % 64 ≠ 39 ∧ n % 64 ≠ 43) :
    s.claimNow.par q k = s.par q k := by
  obtain ⟨hs, hh⟩ := claim_pn_ne n h.1
  exact s.claimNow_keeps (g := fun s => s.par q k) fun s a => s.startClaim_par a (busBlind_of_pn n hn (by omega)) (by rw [hn]; exact hs) (by rw [hn]; exact hh)

/-- The registers of a port that starts. -/
theorem State.sbStart_regs (s : State) {p : Nat} : (s.sbStart p).par P.sbEn p = s.par P.sbEn p ∧ (s.sbStart p).par P.sbState p = 1 ∧
    (s.sbStart p).par P.tec p = 0 ∧ (s.sbStart p).par P.rec p = 0 := by
  unfold State.sbStart
  refine ⟨?_, ?_, ?_, State.par_setPar_same ..⟩
  · exact (State.par_setPar_port 32802 32768 rfl rfl (by decide)).trans
      ((State.par_setPar_port 32801 32768 rfl rfl (by decide)).trans (State.par_setPar_port 32800 32768 rfl rfl (by decide)))
  · exact (State.par_setPar_port 32802 32800 rfl rfl (by decide)).trans
      ((State.par_setPar_port 32801 32800 rfl rfl (by decide)).trans (State.par_setPar_same ..))
  · exact (State.par_setPar_port 32802 32801 rfl rfl (by decide)).trans (State.par_setPar_same ..)

/-- A port enabled with a timing that holds integrates with its counters at zero. -/
theorem sbEnWrite_of_on (s : State) {p : Nat} (hp : p < 4) (ht : s.timingOk p = true) (h : s.par P.sbState p = 0) :
    let t := sbEnWrite p 1 s
    t.par P.sbEn p = 1 ∧ t.par P.sbState p = 1 ∧ t.par P.tec p = 0 ∧ t.par P.rec p = 0 ∧ t.axes = s.axes := by
  have hoff : s.sbOn p = false := by simp [State.sbOn, h]
  have hx : sbEnWrite p 1 s = if ((s.setPar P.sbEn 1 p).sbStart p).homeOf p then ((s.setPar P.sbEn 1 p).sbStart p).claimNow else (s.setPar P.sbEn 1 p).sbStart p := by
    unfold sbEnWrite
    rw [if_neg (by omega), if_neg (by decide), if_neg (not_not_intro ht), if_neg (by simp [hoff])]
  obtain ⟨h1, h2, h3, h4⟩ := (s.setPar P.sbEn 1 p).sbStart_regs (p := p)
  replace h1 := h1.trans (State.par_setPar_same ..)
  have hax : ((s.setPar P.sbEn 1 p).sbStart p).axes = s.axes := rfl
  intro t
  unfold t
  rw [hx]
  split
  · exact ⟨(State.claimNow_par _ (32768 + 64 * p) rfl (by omega)).trans h1, (State.claimNow_par _ (32800 + 64 * p) rfl (by omega)).trans h2,
      (State.claimNow_par _ (32801 + 64 * p) rfl (by omega)).trans h3, (State.claimNow_par _ (32802 + 64 * p) rfl (by omega)).trans h4,
      (axes_of_quiet (State.claimNow_quiet ..)).trans hax⟩
  · exact ⟨h1, h2, h3, h4, hax⟩

theorem BusBlind.sbStop_feeds {β : Type} {g : State → β} (hg : BusBlind g) (l : List Nat) (s : State) : g (l.foldl (fun s x => s.feedDone x) s) = g s :=
  foldl_keeps g _ (fun s x => hg.feedDone s x) l s

/-- A port that is disabled stops. -/
theorem sbEnWrite_of_off (s : State) {p : Nat} (hp : p < 4) (h : s.par P.sbState p ≠ 0) :
    let t := sbEnWrite p 0 s
    t.par P.sbEn p = 0 ∧ t.par P.sbState p = 0 ∧ t.axes = s.axes := by
  have hon : s.sbOn p = true := by simp [State.sbOn, h]
  have hx : sbEnWrite p 0 s = (s.setPar P.sbEn 0 p).sbStop p := by
    unfold sbEnWrite
    rw [if_neg (by omega), if_pos rfl, if_pos hon]
  intro t
  unfold t
  rw [hx]
  unfold State.sbStop
  extract_lets xs s1 s2 _ s3
  have h1 : s1.par P.sbEn p = 0 := State.par_setPar_same ..
  have hax : s1.axes = s.axes := rfl
  have h2 {q : Par} (hg : BusBlind fun s => s.par q p) : s3.par q p = (((s1.setPar P.sbState 0 p).setPar P.tec 0 p).setPar P.rec 0 p).par q p :=
    hg.unstandCode (fun _ _ => rfl) (fun _ _ => rfl) ..
  refine ⟨?_, ?_, ?_⟩
  · refine ((busBlind_sbEn hp).sbStop_feeds ..).trans ((h2 (busBlind_sbEn hp)).trans (Eq.trans ?_ h1))
    exact (State.par_setPar_port 32802 32768 rfl rfl (by decide)).trans
      ((State.par_setPar_port 32801 32768 rfl rfl (by decide)).trans (State.par_setPar_port 32800 32768 rfl rfl (by decide)))
  · refine ((busBlind_sbState hp).sbStop_feeds ..).trans ((h2 (busBlind_sbState hp)).trans ?_)
    exact (State.par_setPar_port 32802 32800 rfl rfl (by decide)).trans
      ((State.par_setPar_port 32801 32800 rfl rfl (by decide)).trans (State.par_setPar_same ..))
  · refine (foldl_keeps State.axes _ (fun s x => axes_of_quiet (s.feedDone_quiet x)) _ _).trans (Eq.trans ?_ hax)
    exact State.unstandCode_axes ..

theorem BusBlind.addr_ports {β : Type} {g : State → β} (hg : BusBlind g) (hring : ∀ (s : State) x, g { s with faultRing := x } = g s)
    (hstand : ∀ (s : State) x, g { s with standing := x } = g s) (hport : ∀ (s : State) p, g (s.setSb p { s.sb p with claiming := false }) = g s) (s : State) :
    g (each (upto 4) s fun p s => (s.setSb p { s.sb p with claiming := false }).unstandCode 0x0A05 p) = g s :=
  each_keeps g _ (fun p s => (hg.unstandCode hring hstand ..).trans (hport s p)) _ s

/-- A claim nobody contested is held. -/
theorem addrClaimed_of_due (s : State) {t0 : Nat} (hc : s.swarm.claimAt = some t0) (hst : s.par P.addrState = 1)
    (hat : t0 + s.parN P.claimWait * 1000000 ≤ s.now) :
    let t := addrClaimed s
    t.par P.addrState = 2 ∧ t.par P.addrHeld = s.swarm.claimAddr ∧ t.swarm.claimAt = none ∧ t.swarm.barred = [] ∧ t.axes = s.axes := by
  unfold addrClaimed
  rw [hc]
  dsimp -zeta only
  rw [if_pos ⟨hst, hat⟩]
  extract_lets a _ s1 s2 s3 t
  have h2 : s2.par P.addrState = 2 ∧ s2.par P.addrHeld = a ∧ s2.swarm.core.claimAt = none ∧ s2.swarm.core.barred = [] ∧ s2.axes = s.axes :=
    ⟨(State.par_setPar_other _ _ _ _ _ _ _ _ (by decide)).trans (State.par_setPar_same ..), State.par_setPar_same .., rfl, rfl, rfl⟩
  clear_value s2
  have keep {β : Type} {g : State → β} (hg : BusBlind g) (hring : ∀ (s : State) x, g { s with faultRing := x } = g s)
      (hstand : ∀ (s : State) x, g { s with standing := x } = g s) (hport : ∀ (s : State) p, g (s.setSb p { s.sb p with claiming := false }) = g s) :
      g t = g s2 := (hg.swarmFeed _).trans ((hg.busEvent ..).trans (hg.addr_ports hring hstand hport _))
  have hsw : t.swarm.core = s2.swarm.core := keep (g := fun s => s.swarm.core) busBlind_swarm (fun _ _ => rfl) (fun _ _ => rfl) (fun _ _ => rfl)
  have hst : t.par P.addrState = s2.par P.addrState := keep (g := fun s => s.par P.addrState) busBlind_addrState (fun _ _ => State.par_congr rfl _ _) (fun _ _ => State.par_congr rfl _ _) (fun _ _ => State.par_congr rfl _ _)
  have hheld : t.par P.addrHeld = s2.par P.addrHeld := keep (g := fun s => s.par P.addrHeld) busBlind_addrHeld (fun _ _ => State.par_congr rfl _ _) (fun _ _ => State.par_congr rfl _ _) (fun _ _ => State.par_congr rfl _ _)
  have hax : t.axes = s2.axes :=
    (axes_of_quiet ((State.swarmFeed_quiet ..).trans (State.busEvent_quiet ..))).trans
      (each_keeps State.axes _ (fun p s => State.unstandCode_axes (s.setSb p { s.sb p with claiming := false }) ..) _ _)
  clear_value t
  obtain ⟨h1, h3, h4, h5, h6⟩ := h2
  exact ⟨hst.trans h1, hheld.trans h3, (congrArg Swarm.claimAt hsw :).trans h4, (congrArg Swarm.barred hsw :).trans h5, hax.trans h6⟩

/-- A claim on a port of the address's segment begins, and takes the address. -/
theorem State.startClaim_of_port (s : State) {a p : Nat} (hp : p < 4) (hon : s.par P.sbState p ≠ 0) (hseg : s.parN P.sbSegment p = a / 128) :
    (s.startClaim a).par P.addrState = 1 ∧ (s.startClaim a).swarm.claimAddr = a ∧ (s.startClaim a).swarm.nextAddr = none := by
  have hmem : p ∈ (upto 4).filter fun p => s.sbOn p && decide (s.parN P.sbSegment p = a / 128) :=
    List.mem_filter.mpr ⟨List.mem_range.mpr hp, by simp [State.sbOn, hon, hseg]⟩
  unfold State.startClaim
  extract_lets ports wait _ s1 s2
  have hne : ¬ ports.isEmpty = true := fun h => List.not_mem_nil (List.isEmpty_iff.mp h ▸ hmem : p ∈ ([] : List Nat))
  rw [if_neg hne]
  have keep {β : Type} {g : State → β} (hg : BusBlind g) (hport : ∀ (s : State) p, g (s.setSb p { s.sb p with claiming := true }) = g s) :
      g (ports.foldl (fun s p => (s.setSb p { s.sb p with claiming := true }).queueFrame p (swarmId 1 3 a 0) uidBytes true) s2) = g s2 :=
    foldl_keeps g _ (fun s p => (hg.queueFrame ..).trans (hport ..)) _ _
  have hsw := keep busBlind_swarm (fun _ _ => rfl)
  exact ⟨(keep (g := fun s => s.par P.addrState) busBlind_addrState (fun _ _ => rfl)).trans ((State.par_setPar_other _ _ _ _ _ _ _ _ (by decide)).trans (State.par_setPar_same ..)),
    (congrArg Swarm.claimAddr hsw :), (congrArg Swarm.nextAddr hsw :)⟩

/-- The status frame of a module in operation goes at its time, which it takes. -/
theorem statusFrame_of_due (s : State) (hper : s.parN P.statusPeriod ≠ 0) (hat : s.swarm.statusAt + s.parN P.statusPeriod * 1000000 ≤ s.now)
    (hst : s.dev.st = .idle) : (statusFrame s).swarm.statusAt = s.now ∧ (statusFrame s).axes = s.axes ∧ (statusFrame s).standing = s.standing := by
  unfold statusFrame
  rw [if_neg (by rintro (h | h | h | h); exacts [hper h, absurd h (by omega), by simp [hst] at h, by simp [hst] at h])]
  refine ⟨(congrArg Swarm.statusAt (busBlind_swarm.ownBcast ..) :), ?_, ?_⟩
  · exact (axes_of_quiet (State.ownBcast_quiet ..)).trans rfl
  · exact (State.ownBcast_standing ..).trans rfl

/-- Settles O43: the traffic of the bus leaves the ports' registers and the address as each command set them. -/
theorem swarmPortsAndAddress : Obligations.SwarmPortsAndAddress := by
  refine fun s0 τ p hp => ⟨fun h => ?_, fun hf h hd hat => ?_, fun mask hm h => ?_, fun mask h => ?_, fun h hat => ?_, fun ht h => ?_, fun ht => ?_, fun h => ?_,
    fun t0 hc h hat => ?_, fun a ha h hseg => ?_, fun hper hat hst => ?_⟩
  all_goals have hτ : τ ≤ (s0.at τ).now := Nat.le_max_right ..
  · have hx : portIntegrated p (s0.at τ) = _ := if_pos (⟨hp, h⟩ : p < 4 ∧ (s0.at τ).par P.sbState p = 1)
    refine Does.of_answer (congrArg (answer s0) hx) fun t ht => ⟨?_, ht.swarm, ht.queues⟩
    rw [ht.par_eq, State.par_setPar_same]
    rfl
  · have hx : busoffReqDelay p (s0.at τ) = _ := if_pos (⟨hp, hf, h, hd, hat.trans hτ⟩ :
      p < 4 ∧ (s0.at τ).firmware = true ∧ (s0.at τ).par P.sbState p = 4 ∧ (s0.at τ).parN P.busoffReqDelay ≠ 0 ∧ _ ≤ (s0.at τ).now)
    refine Does.of_answer (congrArg (answer s0) hx) fun t ht => ?_
    rw [ht.par_eq, ht.sb_eq]
    exact State.countBits_same ..
  · refine Does.of_answer rfl fun t ht => ?_
    rw [ht.par_eq, ht.sb_eq]
    exact sbRecover_of_bit mask (s0.at τ) hp hm h
  · refine Does.of_answer rfl fun t ht => ?_
    rw [ht.par_eq, ht.sb_eq]
    exact sbRecover_idle mask (s0.at τ) h
  · refine Does.of_answer rfl fun t ht => ?_
    rw [ht.par_eq, ht.par_eq, ht.par_eq, ht.stands_eq, ht.axes]
    exact busOffRecovered_of_due (s0.at τ) hp h (hat.trans hτ)
  · refine Does.of_answer rfl fun t ht' => ?_
    rw [ht'.par_eq, ht'.par_eq, ht'.par_eq, ht'.par_eq, ht'.axes]
    exact sbEnWrite_of_on (s0.at τ) hp ht h
  · have hx : sbEnWrite p 1 (s0.at τ) = s0.at τ := by
      have hneg : ¬ (s0.at τ).timingOk p = true := fun hc => Bool.noConfusion (hc.symm.trans ht)
      unfold sbEnWrite
      rw [if_neg (by omega), if_neg (by decide), if_pos hneg]
    exact Does.of_answer (congrArg (answer s0) hx) fun t ht => ⟨ht.params, ht.swarm⟩
  · refine Does.of_answer rfl fun t ht => ?_
    rw [ht.par_eq, ht.par_eq, ht.axes]
    exact sbEnWrite_of_off (s0.at τ) hp h
  · refine Does.of_answer rfl fun t ht => ?_
    rw [ht.par_eq, ht.par_eq, ht.swarm, ht.axes]
    exact addrClaimed_of_due (s0.at τ) hc h (hat.trans hτ)
  · have hx : addrReclaim (s0.at τ) = (s0.at τ).startClaim a := by
      have ha' : (s0.at τ).swarm.nextAddr = some a := ha
      unfold addrReclaim
      rw [ha']
    obtain ⟨h1, h2, h3⟩ := (s0.at τ).startClaim_of_port (a := a) hp h hseg
    have hax : ((s0.at τ).startClaim a).axes = (s0.at τ).axes := axes_of_quiet (State.startClaim_quiet ..)
    refine Does.of_answer (congrArg (answer s0) hx) fun t ht => ⟨(ht.par_eq ..).trans h1, ?_, ?_, ht.axes.trans hax⟩
    · rw [ht.swarm, h2]
    · rw [ht.swarm, h3]
  · refine Does.of_answer rfl fun t ht => ?_
    rw [ht.swarm, ht.axes, ht.standing]
    exact statusFrame_of_due (s0.at τ) hper (hat.trans hτ) hst

end Sys2Proof.Machine
end

section
/-! SUPPORT. What a frame of the swarm bus, sent or received, leaves unchanged. -/
namespace Sys2Proof.Machine

/-- The registers that count the frames a port has received and sent. -/
def wireCount (n : Nat) : Prop := 32768 ≤ n ∧ n < 33100 ∧ (n % 64 = 40 ∨ n % 64 = 41)

theorem wire_free {q : Par} {i j : Nat} (n : Nat) (hn : q.pn i j = n) (h : n % 64 ≠ 40 ∧ n % 64 ≠ 41 ∨ 33100 ≤ n) : ¬ wireCount (q.pn i j) := by
  rw [hn]
  rintro ⟨h1, h2, h3⟩
  omega

/-- A view of the state that shows, of what the bus's frames change, only the counts of frames, the sources heard and the last frame sent. -/
structure WireBlind {β : Type} (g : State → β) : Prop where
  queues : ∀ (s : State) (x : Tab (List Entry)) (tag : Nat), g { s with queues := x, nextTag := tag } = g s
  ring : ∀ (s : State) (x : Ring), g { s with ring := x } = g s
  sessions : ∀ (s : State) (x : Tab Session), g { s with sessions := x } = g s
  waiting : ∀ (s : State) (x : List Waiting), g { s with waiting := x } = g s
  ops : ∀ (s : State) (x : List Op), g { s with ops := x } = g s
  boot : ∀ (s : State) (x : Option PendingBoot), g { s with dev := { s.dev with pendingBoot := x } } = g s
  forager : ∀ (s : State) (x : Tab FgChan), g { s with forager := x } = g s
  pantry : ∀ (s : State) (x : Pantry), g { s with pantry := x } = g s
  free : ∀ (s : State) (n : Nat), g { s with free := n } = g s
  faultRing : ∀ (s : State) x, g { s with faultRing := x } = g s
  standing : ∀ (s : State) x, g { s with standing := x } = g s
  swarm : ∀ (s : State) (w : Swarm), w.heard = s.swarm.heard → w.ports = s.swarm.ports → g { s with swarm := w } = g s
  port : ∀ (s : State) (p : Nat) (x : SbPort), x.sent = (s.sb p).sent → g (s.setSb p x) = g s
  par : ∀ (s : State) (q : Par) (v : Int) (i j : Nat), ¬ wireCount (q.pn i j) → g (s.setPar q v i j) = g s

theorem wireBlind_axes : WireBlind State.axes where
  queues _ _ _ := rfl
  ring _ _ := rfl
  sessions _ _ := rfl
  waiting _ _ := rfl
  ops _ _ := rfl
  boot _ _ := rfl
  forager _ _ := rfl
  pantry _ _ := rfl
  free _ _ := rfl
  faultRing _ _ := rfl
  standing _ _ := rfl
  swarm _ _ _ _ := rfl
  port _ _ _ _ := rfl
  par _ _ _ _ _ _ := rfl

theorem wireBlind_heard : WireBlind fun s => s.swarm.heard where
  queues _ _ _ := rfl
  ring _ _ := rfl
  sessions _ _ := rfl
  waiting _ _ := rfl
  ops _ _ := rfl
  boot _ _ := rfl
  forager _ _ := rfl
  pantry _ _ := rfl
  free _ _ := rfl
  faultRing _ _ := rfl
  standing _ _ := rfl
  swarm _ _ h _ := h
  port _ _ _ _ := rfl
  par _ _ _ _ _ _ := rfl

theorem wireBlind_sent (p : Nat) : WireBlind fun s => (s.sb p).sent where
  queues _ _ _ := rfl
  ring _ _ := rfl
  sessions _ _ := rfl
  waiting _ _ := rfl
  ops _ _ := rfl
  boot _ _ := rfl
  forager _ _ := rfl
  pantry _ _ := rfl
  free _ _ := rfl
  faultRing _ _ := rfl
  standing _ _ := rfl
  swarm _ _ _ h := congrArg (fun m : Tab SbPort => (tget m {} p).sent) h
  port s q x h := by
    rw [State.sb_setSb]
    split
    next he => rw [he, h]
    next => rfl
  par _ _ _ _ _ _ := rfl

/-- The count of the frames a port has received or sent. -/
theorem wireBlind_count {q : Par} {k : Nat} (h : wireCount (q.pn k 0)) : WireBlind fun s => s.par q k where
  queues _ _ _ := rfl
  ring _ _ := rfl
  sessions _ _ := rfl
  waiting _ _ := rfl
  ops _ _ := rfl
  boot _ _ := rfl
  forager _ _ := rfl
  pantry _ _ := rfl
  free _ _ := rfl
  faultRing _ _ := rfl
  standing _ _ := rfl
  swarm _ _ _ _ := rfl
  port _ _ _ _ := rfl
  par s _ _ _ _ hn := s.par_setPar_other _ _ _ _ _ _ _ fun he => hn (he ▸ h)

theorem wireBlind_rxFrames {p : Nat} (hp : p < 4) : WireBlind fun s => s.par P.rxFrames p :=
  wireBlind_count (by change wireCount (32809 + 64 * p + 0 * 0); unfold wireCount; omega)

theorem wireBlind_txFrames {p : Nat} (hp : p < 4) : WireBlind fun s => s.par P.txFrames p :=
  wireBlind_count (by change wireCount (32808 + 64 * p + 0 * 0); unfold wireCount; omega)

theorem BusBlind.filterFrame {β : Type} {g : State → β} (hg : BusBlind g) (hl : LineBlind g) (s : State) (p id flags : Nat) (data : Bytes) (time : Nat) : g (s.filterFrame p id flags data time) = g s := by
  unfold State.filterFrame
  extract_lets hit
  clear_value hit
  cases hit with
  | none => rfl
  | some f =>
    dsimp -zeta only
    extract_lets m head q e _ s1
    have h1 : g s1 = g s := by
      unfold s1
      split
      · exact (hl.arrived ..).trans (hg.queues s _ _)
      · exact hg.overflow ..
    split
    · exact (hg.busEvent ..).trans h1
    · exact h1

section
variable {β : Type} {g : State → β} (hg : WireBlind g)
include hg

theorem WireBlind.incPar (s : State) (q : Par) (i j n : Nat) (h : ¬ wireCount (q.pn i j)) : g (s.incPar q i j n) = g s :=
  State.incPar_keeps hg.free q i j (fun s v => hg.par s q v i j h) s n

theorem WireBlind.bus : BusBlind g where
  queues := hg.queues
  ring := hg.ring
  sessions := hg.sessions
  waiting := hg.waiting
  ops := hg.ops
  boot := hg.boot
  frames s p _ := hg.port s p _ rfl
  life s p _ _ := hg.port s p _ rfl
  feeds s _ _ _ := hg.swarm s _ rfl rfl
  overflow s q := hg.incPar s _ q 0 1 (wire_free (41986 + 4 * q) rfl (by omega))
  drops s := hg.incPar s _ 0 0 1 (wire_free 49159 rfl (by omega))
  lifeDrops s p n := hg.incPar s _ p 0 n (wire_free (32807 + 64 * p) rfl (by omega))
  copies s := hg.incPar s _ 0 0 1 (wire_free 33551 rfl (by omega))
  forwards s p := hg.incPar s _ p 0 1 (wire_free (32811 + 64 * p) rfl (by omega))

theorem WireBlind.line : LineBlind g where
  forager := hg.forager
  pantry := hg.pantry
  free := hg.free
  fgState s v c := hg.par s _ v c 0 (wire_free (40963 + 16 * c) rfl (by omega))
  fgPc s v c := hg.par s _ v c 0 (wire_free (40965 + 16 * c) rfl (by omega))
  fgStatus s v c := hg.par s _ v c 0 (wire_free (40964 + 16 * c) rfl (by omega))
  fgHalts s v c := hg.par s _ v c 0 (wire_free (41218 + 4 * c) rfl (by omega))
  panTrigCount s v := hg.par s _ v 0 0 (wire_free 45330 rfl (by omega))
  panState s v := hg.par s _ v 0 0 (wire_free 45328 rfl (by omega))

theorem WireBlind.tec (s : State) (v : Int) (p : Nat) : g (s.setPar P.tec v p) = g s := hg.par s _ v p 0 (wire_free (32801 + 64 * p) rfl (by omega))
theorem WireBlind.setRec (s : State) (v : Int) (p : Nat) : g (s.setPar P.rec v p) = g s := hg.par s _ v p 0 (wire_free (32802 + 64 * p) rfl (by omega))
theorem WireBlind.sbState (s : State) (v : Int) (p : Nat) : g (s.setPar P.sbState v p) = g s := hg.par s _ v p 0 (wire_free (32800 + 64 * p) rfl (by omega))
theorem WireBlind.addrState (s : State) (v : Int) : g (s.setPar P.addrState v) = g s := hg.par s _ v 0 0 (wire_free 33539 rfl (by omega))
theorem WireBlind.addrHeld (s : State) (v : Int) : g (s.setPar P.addrHeld v) = g s := hg.par s _ v 0 0 (wire_free 33540 rfl (by omega))
theorem WireBlind.setTimeState (s : State) (v : Nat) : g (s.setTimeState v) = g s := hg.par s _ v 0 0 (wire_free 33809 rfl (by omega))

/-! ### Reports -/

theorem WireBlind.recordFault (s : State) (code subj safe : Nat) (path : String) (secondary : Bool) : g (s.recordFault code subj safe path secondary) = g s := by
  unfold State.recordFault
  extract_lets fresh
  have hfresh (x : State) : g (fresh x) = g x := by
    unfold fresh State.incSat
    exact (hg.par _ _ _ 0 0 (wire_free 45345 rfl (by omega))).trans ((hg.par _ _ _ 0 0 (wire_free 45344 rfl (by omega))).trans
      ((hg.faultRing ..).trans (hg.incPar _ _ 0 0 1 (wire_free 45346 rfl (by omega)))))
  split
  · exact hfresh s
  · split
    · exact hg.faultRing ..
    · exact hfresh s

theorem WireBlind.emergency (s : State) (code subj safe : Nat) : g (s.emergency code subj safe) = g s := by
  unfold State.emergency
  extract_lets n t
  have ht : g t = g s := hg.bus.ownBcast ..
  split
  · exact ht
  · exact (hg.swarm t _ (by rfl) (by rfl)).trans ht

theorem WireBlind.frameRef (s : State) (before : Bool) (subj : Nat) : g (s.frameRef before subj) = g s := by
  unfold State.frameRef
  extract_lets p se
  split
  · split
    · exact hg.faultRing ..
    · rfl
  · rfl

theorem WireBlind.report (s : State) (code subj safe : Nat) (path : String) (secondary : Bool) : g (s.report code subj safe path secondary) = g s := by
  unfold State.report
  extract_lets s1 s2 s3 hit armed
  have h2 : g s2 = g s := (hg.bus.notify ..).trans (hg.recordFault ..)
  have h3 : g s3 = g s := by
    unfold s3
    split
    · exact (hg.emergency ..).trans h2
    · exact h2
  split
  · exact (hg.frameRef ..).trans ((hg.line.panTrigger ..).trans h3)
  · exact h3

theorem WireBlind.raiseModule (s : State) (code inst : Nat) (path : String) : g (s.raiseModule code inst path) = g s := by
  unfold State.raiseModule State.stand
  dsimp only
  split
  · exact (hg.standing ..).trans (hg.report ..)
  · exact (hg.standing ..).trans (hg.report ..)

/-! ### The counters of a port -/

theorem WireBlind.countBits (s : State) (p : Nat) (request : Bool) : g (s.countBits p request) = g s := (hg.sbState ..).trans (hg.port _ _ _ (by rfl))

theorem WireBlind.busOff (s : State) (p : Nat) : g (s.busOff p) = g s := by
  unfold State.busOff
  extract_lets old s1 _ s2 _ s3 s4 s5
  have h1 : g s1 = g s := (hg.incPar _ _ p 0 1 (wire_free (32806 + 64 * p) rfl (by omega))).trans ((hg.sbState ..).trans (hg.tec ..))
  have h2 : g s2 = g s := (hg.port _ _ _ (by rfl)).trans h1
  have h3 : g s3 = g s := by
    unfold s3
    split
    · exact (hg.swarm _ _ (by rfl) (by rfl)).trans h2
    · exact h2
  have h5 : g s5 = g s := (hg.bus.copyEmerg ..).trans ((hg.bus.errEvent ..).trans ((hg.raiseModule ..).trans h3))
  split
  · exact (hg.countBits ..).trans h5
  · exact h5

theorem WireBlind.setCounters (s : State) (p tec rx : Nat) : g (s.setCounters p tec rx) = g s := by
  unfold State.setCounters
  split
  · exact hg.busOff ..
  · extract_lets old new s1
    have h1 : g s1 = g s := (hg.setRec ..).trans (hg.tec ..)
    split
    · exact h1
    · exact (hg.bus.errEvent ..).trans ((hg.sbState ..).trans h1)

theorem WireBlind.recvGood (s : State) (p : Nat) : g (s.recvGood p) = g s := by
  unfold State.recvGood
  dsimp only
  split
  · exact (hg.setCounters ..).trans (hg.free ..)
  · exact hg.setCounters ..

theorem WireBlind.noteLoad (s : State) (p cycles : Nat) : g (s.noteLoad p cycles) = g s := hg.port _ _ _ (by rfl)

/-! ### Time and the address -/

theorem WireBlind.dropRefs (s : State) (relay : Bool) : g (s.dropRefs relay) = g s :=
  each_keeps g _ (fun _ s => foldl_keeps g _ (fun _ _ => hg.bus.txDrop ..) _ s) _ s

theorem WireBlind.holdover (s : State) :
    g (if s.par P.timeState = 4 then ({ s with swarm := { s.swarm with holdoverAt := s.now } } : State).setTimeState 3 else s) = g s := by
  split
  · exact (hg.setTimeState ..).trans (hg.swarm s _ rfl rfl)
  · rfl

theorem WireBlind.endTimePart (s : State) : g s.endTimePart = g s := by
  have h0 : g ({ s with swarm := { s.swarm with relayBarred := true, pendingSet := none } } : State) = g s := hg.swarm s _ rfl rfl
  unfold State.endTimePart
  generalize ({ s with swarm := { s.swarm with relayBarred := true, pendingSet := none } } : State) = x at h0 ⊢
  have h1 : g (x.dropRefs true) = g s := (hg.dropRefs x true).trans h0
  generalize x.dropRefs true = y at h1 ⊢
  exact (hg.holdover y).trans h1

theorem WireBlind.addrLost (s : State) (p uid : Nat) : g (s.addrLost p uid) = g s := by
  unfold State.addrLost
  split
  · rfl
  · extract_lets s1 s2 s3 s4 tried heard cand
    have h1 : g s1 = g s := (hg.addrState ..).trans (hg.endTimePart _)
    have h2 : g s2 = g s := (each_keeps g _ (fun q s => (hg.incPar _ _ q 0 _ (wire_free (32813 + 64 * q) rfl (by omega))).trans (hg.bus.dropFrames ..)) _ _).trans h1
    have h3 : g s3 = g s := (each_keeps g _ (fun q s => hg.port s q _ (by rfl)) _ _).trans h2
    have h4 : g s4 = g s := (hg.bus.busEvent ..).trans ((hg.addrHeld ..).trans h3)
    clear_value s4 cand
    cases cand with
    | none => exact (hg.addrState ..).trans ((hg.swarm s4 _ (by rfl) (by rfl)).trans h4)
    | some n => exact (hg.addrState ..).trans ((hg.swarm s4 _ (by rfl) (by rfl)).trans h4)

theorem WireBlind.claimFrame (s : State) (p id : Nat) (data : Bytes) : g (s.claimFrame p id data) = g s := by
  unfold State.claimFrame
  split
  · dsimp only
    split
    · split
      · exact hg.addrLost ..
      · split
        · exact hg.bus.queueFrame ..
        · rfl
    · rfl
  · rfl

theorem WireBlind.clockSet (s : State) (value rate : Int) : g (s.clockSet value rate) = g s :=
  (hg.par _ _ _ 0 0 (wire_free 33815 rfl (by omega))).trans (hg.swarm _ _ (by rfl) (by rfl))

theorem WireBlind.clockJump (s : State) : g s.clockJump = g s :=
  (each_keeps g _ (fun q s => hg.port s q _ (by rfl)) _ _).trans (hg.swarm _ _ (by rfl) (by rfl))

theorem WireBlind.timeBegins (s : State) : g s.timeBegins = g s :=
  (each_keeps g _ (fun q s => hg.port s q _ (by rfl)) _ _).trans
    ((each_keeps g _ (fun k s => hg.par s _ _ k 0 (wire_free (4100 + 4096 * k) (by rfl) (by omega))) _ _).trans (hg.swarm _ _ (by rfl) (by rfl)))

theorem WireBlind.setMaster (s : State) (m rank : Nat) : g (s.setMaster m rank) = g s := by
  unfold State.setMaster
  dsimp only
  split
  · rfl
  · exact (hg.bus.busEvent ..).trans (hg.par _ _ _ 0 0 (wire_free 33811 rfl (by omega)))

theorem WireBlind.correct (s : State) (theta : Int) : g (s.correct theta) = g s := by
  unfold State.correct
  extract_lets st s1 a w s2 s3 _ s4 _ s5
  have h1 : g s1 = g s := hg.par _ _ _ 0 0 (wire_free 33814 rfl (by omega))
  have h2 : g s2 = g s := (hg.swarm s1 _ (by rfl) (by rfl)).trans h1
  have h3 : g s3 = g s := (hg.setTimeState ..).trans ((hg.clockSet ..).trans h2)
  have h4 : g s4 = g s := (hg.clockJump ..).trans ((hg.incPar _ _ 0 0 1 (wire_free 33816 rfl (by omega))).trans ((hg.clockSet ..).trans h2))
  have h5 : g s5 = g s := by
    unfold s5
    split
    · exact (hg.bus.busEvent ..).trans ((hg.swarm s4 _ (by rfl) (by rfl)).trans h4)
    · exact (hg.clockSet ..).trans h2
  clear_value s3 s5
  split
  · exact (hg.clockJump ..).trans ((hg.timeBegins ..).trans ((hg.swarm s3 _ (by rfl) (by rfl)).trans h3))
  · split
    · split
      · exact (hg.setTimeState ..).trans h5
      · exact h5
    · split
      · exact (hg.setTimeState ..).trans h5
      · exact (hg.setTimeState ..).trans h5

theorem WireBlind.combMatch (s : State) (p : Nat) (running : Bool) (cid src : Nat) : g (s.combMatch p running cid src) = g s := by
  unfold State.combMatch
  dsimp only
  split
  · exact hg.port _ _ _ (by rfl)
  · split
    · exact (hg.bus.busEvent ..).trans (hg.port _ _ _ (by rfl))
    · rfl

theorem WireBlind.reference (s : State) (p id : Nat) (data : Bytes) (h : Int) : g (s.reference p id data h) = g s := by
  unfold State.reference
  extract_lets src r s1 keep better _ s2 _ s3 _ s4 _ s5 theta s6
  have h1 : g s1 = g s := hg.combMatch ..
  have h2 : g s2 = g s := (hg.swarm s1 _ (by rfl) (by rfl)).trans h1
  have h3 : g s3 = g s := by
    unfold s3
    split
    · exact (hg.port s2 p _ (by rfl)).trans h2
    · exact h2
  have h4 : g s4 = g s := by
    unfold s4
    split
    · exact (hg.setTimeState ..).trans ((hg.dropRefs ..).trans ((hg.swarm s3 _ (by rfl) (by rfl)).trans h3))
    · exact h3
  have h6 : g s6 = g s := (hg.correct ..).trans ((hg.swarm s4 _ (by rfl) (by rfl)).trans h4)
  clear_value s6 s4 s3
  split
  · rfl
  · split
    · exact h3
    · split
      · split
        · exact (hg.setMaster ..).trans ((hg.par _ _ _ 0 0 (wire_free 33813 rfl (by omega))).trans
            ((hg.par _ _ _ 0 0 (wire_free 33812 rfl (by omega))).trans h6))
        · exact h4
      · exact h4

theorem WireBlind.delayRequest (s : State) (p id : Nat) (data : Bytes) (h : Int) : g (s.delayRequest p id data h) = g s := by
  unfold State.delayRequest
  dsimp only
  split
  · exact (hg.bus.forwardBcast ..).trans (hg.bus.queueFrame ..)
  · rfl

theorem WireBlind.delayResponse (s : State) (p id : Nat) (data : Bytes) (h : Int) : g (s.delayResponse p id data h) = g s := by
  unfold State.delayResponse
  dsimp only
  split
  · split
    · split
      · exact (hg.par _ _ _ p 0 (wire_free (33856 + 1 * p) (by rfl) (by omega))).trans (hg.port s p _ (by rfl))
      · exact hg.port s p _ (by rfl)
    · rfl
  · rfl

theorem WireBlind.filterFrame (s : State) (p id flags : Nat) (data : Bytes) (time : Nat) : g (s.filterFrame p id flags data time) = g s :=
  hg.bus.filterFrame hg.line ..

theorem WireBlind.forwardByDest (s : State) (p dest id : Nat) (data : Bytes) : g (s.forwardByDest p dest id data) = g s := by
  unfold State.forwardByDest
  dsimp only
  split
  · rfl
  · split
    · exact hg.bus.forwardOut ..
    · exact hg.incPar _ _ p 0 1 (wire_free (32812 + 64 * p) (by rfl) (by omega))

theorem WireBlind.segment (s : State) (ring : Bool) (p src tag seg now : Nat) (bs : Bytes) : g (s.segment ring p src tag seg now bs).1 = g s := by
  unfold State.segment
  extract_lets same others put idx last dead room gone kill start
  have hdrop (x : State) : g (x.incPar P.reasmDrops) = g x := hg.incPar x _ 0 0 1 (wire_free 49158 rfl (by omega))
  have hput (x : State) (y : Xfer) : g (put x y) = g x := hg.swarm x _ (by rfl) (by rfl)
  have hgone (x : State) : g (gone x) = g x := hg.swarm x _ (by rfl) (by rfl)
  have hkill (x : State) : g (kill x) = g x := by
    unfold kill
    refine (hdrop _).trans ?_
    split
    · exact hgone x
    · exact hput ..
  have hstart (x : State) : g (start x).1 = g x := by
    unfold start
    split
    · exact hkill x
    · split
      · exact hgone x
      · exact hput ..
  clear_value put gone kill start
  split
  · exact hstart s
  · split
    · refine (hstart _).trans ?_
      split
      · rfl
      · exact hdrop s
    · split
      · split
        · exact hstart s
        · dsimp only
          split
          · exact hgone s
          · rfl
      · split
        · exact hkill s
        · split
          · exact hgone s
          · exact hput ..

theorem WireBlind.commandFrame (s : State) (p id : Nat) (data : Bytes) : g (s.commandFrame p id data) = g s := by
  have h := hg.segment s false p (idSource id) (field data 2 1) (field data 3 1) s.now (data.drop 4)
  unfold State.commandFrame
  dsimp only
  split
  · exact (hg.bus.push ..).trans h
  · exact h

/-- A frame of data: past the note of its source, nothing the view shows changes. -/
theorem WireBlind.dataFrame (s : State) (p id flags : Nat) (data : Bytes) (h : Int) :
    g (s.dataFrame p id flags data h) = g { s with swarm := { s.swarm with heard := tset s.swarm.heard (idSource id) s.now } } := by
  unfold State.dataFrame
  extract_lets cls src time _ s1 dest s2 s3 s4 s5 s6 s7
  have h3 : g s3 = g s1 := hg.filterFrame ..
  have h4 : g s4 = g s1 := ite_holds (p := fun y => g y = g s1) (hg.claimFrame ..) rfl
  have h5 : g s5 = g s1 := ite_holds (p := fun y => g y = g s1) ((hg.reference ..).trans h4) h4
  have h6 : g s6 = g s1 := ite_holds (p := fun y => g y = g s1) ((hg.delayResponse ..).trans ((hg.delayRequest ..).trans h5)) h5
  have h7 : g s7 = g s1 :=
    ite_holds (p := fun y => g y = g s1) ((hg.incPar _ _ p 0 1 (wire_free (32810 + 64 * p) (by rfl) (by omega))).trans h6) h6
  change _ = g s1
  clear_value s7
  split
  · split
    · split
      · exact (hg.filterFrame ..).trans (hg.commandFrame ..)
      · exact hg.commandFrame ..
    · split
      · exact h3
      · exact (hg.forwardByDest ..).trans h3
  · exact (hg.bus.forwardBcast ..).trans ((hg.filterFrame ..).trans h7)

theorem WireBlind.closeWindow (s : State) (p : Nat) : g (s.closeWindow p) = g s := by
  unfold State.closeWindow
  split
  · split
    · exact hg.incPar _ _ 0 0 1 (wire_free 33819 rfl (by omega))
    · rfl
  · rfl

theorem WireBlind.measureTdc (s : State) (p : Nat) (h : Int) (tdc : Nat) : g (s.measureTdc p h tdc) = g s := by
  unfold State.measureTdc
  dsimp only
  split
  · exact (hg.par _ _ _ p 0 (wire_free (32803 + 64 * p) (by rfl) (by omega))).trans (hg.port s p _ (by rfl))
  · rfl

theorem WireBlind.dropTwinCopy (s : State) (p : Nat) (f : TxFrame) : g (s.dropTwinCopy p f) = g s := by
  unfold State.dropTwinCopy
  dsimp only
  refine (foldl_keeps g _ (fun _ _ => hg.bus.txDrop ..) _ _).trans ?_
  split
  · exact hg.bus.txDrop ..
  · rfl

theorem WireBlind.noteStart (s : State) (p : Nat) (f : TxFrame) (h : Int) : g (s.noteStart p f h) = g s := by
  unfold State.noteStart
  split
  · rfl
  · dsimp -zeta only
    extract_lets cell x same older s1 was excl misses s2
    have h1 : g s1 = g s := ite_holds (p := fun y => g y = g s) rfl (hg.closeWindow ..)
    have hsent : (s1.sb p).sent = (s.sb p).sent := ite_holds (p := fun y => (y.sb p).sent = (s.sb p).sent) rfl ((wireBlind_sent p).closeWindow ..)
    have h2 : g s2 = g s := (hg.port s1 p _ (by exact hsent.symm)).trans h1
    split
    · rfl
    · split
      · exact (hg.incPar _ _ 0 0 1 (wire_free 33819 rfl (by omega))).trans h2
      · exact h2

/-- Waiting packets that are sent change what sending changes. -/
theorem WireBlind.flush (s : State) (run : Bool) : g (s.flush run) = g s := by
  unfold State.flush
  dsimp only
  refine (hg.waiting ..).trans ?_
  refine List.foldlRecOn (motive := fun a : State × List Nat × List Waiting => g a.1 = g s) _ _ rfl fun a ha w _ => ?_
  split
  · exact (hg.bus.sendMark ..).trans ha
  · exact ha

end

end Sys2Proof.Machine
end

section
/-! # A command packet behind an event

The good frame returns the port to error-active, which sends an event (R548); a session of a port beyond the module's four puts it in the
packets' queue. -/
namespace Sys2Proof.Tests
open Sys2Proof.Machine

/-- Port 0 is error-passive with its counters at zero; a session of the swarm bus with bus events names port 5, which has a port's state. -/
def passivePort : State :=
  { (((base.setPar P.addrState 2).setPar P.addrHeld 1).setPar P.sbState 3 0).setPar P.sbState 2 5 with
    sessions := [(1, { isOpen := true, transport := .swarm, source := 1, port := 5, eventMask := 512 })] }

/-- The identifier of a COMMAND frame of source 1, and a single-frame transfer to address 1. -/
def commandId : Nat := 0x800080
def commandData : Bytes := [1#8, 0#8, 0#8, 0x80#8]

end Sys2Proof.Tests

namespace Sys2Proof.Machine
open Sys2Proof.Tests

theorem commandFrame_follows_event :
    after (exec (.swarmFrameReceived 0 0 0 commandId false false commandData { head := 100 }) passivePort)
      (fun t => decide ((t.queue 13).length = 2)) = true := by
  decide +kernel

/-- Refutes O42: its clause of a single-frame COMMAND leaves out what the good frame itself sends. The frame returns port 0 to error-active,
and the event of a session whose port is 5 goes to queue 8 + 5 ahead of the packet, so that queue 13 gains two entries. -/
theorem not_swarmFrames : ¬ Obligations.SwarmFrames := by
  unfold Obligations.SwarmFrames
  intro h
  obtain ⟨hreceived, -⟩ := h passivePort 0 0 (by decide)
  obtain ⟨-, -, hcommand⟩ := hreceived (by decide +kernel) (by decide +kernel) (by decide +kernel) (by decide +kernel) commandId { head := 100 } false false
    commandData
  obtain ⟨t, ht, tag, hqueue⟩ := hcommand (by decide +kernel) (by decide +kernel) (by decide +kernel) (by decide +kernel) (by decide +kernel)
    (by decide +kernel) (by decide +kernel)
  have htwo : (t.queue 13).length = 2 := of_decide_eq_true (of_after commandFrame_follows_event ht)
  have hnone : (passivePort.due 0).queue 13 = [] := by decide +kernel
  rw [hqueue, hnone] at htwo
  cases htwo

end Sys2Proof.Machine
end

section
/-! THEOREMS. Swarm time. -/
namespace Sys2Proof.Machine

theorem BusBlind.map {β γ : Type} {g : State → β} (hg : BusBlind g) (f : β → γ) : BusBlind fun s => f (g s) where
  queues s x n := congrArg f (hg.queues s x n)
  ring s x := congrArg f (hg.ring s x)
  sessions s x := congrArg f (hg.sessions s x)
  waiting s x := congrArg f (hg.waiting s x)
  ops s x := congrArg f (hg.ops s x)
  boot s x := congrArg f (hg.boot s x)
  frames s p l := congrArg f (hg.frames s p l)
  life s p d e := congrArg f (hg.life s p d e)
  feeds s x y z := congrArg f (hg.feeds s x y z)
  overflow s q := congrArg f (hg.overflow s q)
  drops s := congrArg f (hg.drops s)
  lifeDrops s p n := congrArg f (hg.lifeDrops s p n)
  copies s := congrArg f (hg.copies s)
  forwards s p := congrArg f (hg.forwards s p)

theorem busBlind_timeState : BusBlind fun s => s.par P.timeState := busBlind_of_pn 33809 rfl (by omega)
theorem busBlind_timeSource : BusBlind fun s => s.par P.timeSource := busBlind_of_pn 33812 rfl (by omega)
theorem busBlind_timeHops : BusBlind fun s => s.par P.timeHops := busBlind_of_pn 33813 rfl (by omega)
theorem busBlind_timeMaster : BusBlind fun s => s.par P.timeMaster := busBlind_of_pn 33811 rfl (by omega)

theorem LineBlind.map {β γ : Type} {g : State → β} (hg : LineBlind g) (f : β → γ) : LineBlind fun s => f (g s) where
  forager s x := congrArg f (hg.forager s x)
  pantry s x := congrArg f (hg.pantry s x)
  free s n := congrArg f (hg.free s n)
  fgState s v c := congrArg f (hg.fgState s v c)
  fgPc s v c := congrArg f (hg.fgPc s v c)
  fgStatus s v c := congrArg f (hg.fgStatus s v c)
  fgHalts s v c := congrArg f (hg.fgHalts s v c)
  panTrigCount s v := congrArg f (hg.panTrigCount s v)
  panState s v := congrArg f (hg.panState s v)

theorem lineBlind_swarm : LineBlind State.swarm := .of_setPar (fun _ _ => rfl) (fun _ _ => rfl) (fun _ _ => rfl) (fun _ _ _ _ => rfl)

/-! ### References sent -/

section
variable {β : Type} {g : State → β} (hg : BusBlind g) (hmiss : ∀ (s : State) p, g (s.incPar P.refMissed p) = g s)
    (hseq : ∀ (s : State) p n, g (s.setSb p { s.sb p with refSeq := n }) = g s)
include hg hmiss hseq

theorem BusBlind.sendRef (s : State) (p : Nat) (relay : Bool) (key : Nat × Nat × Nat) : g (s.sendRef p relay key) = g s := by
  unfold State.sendRef
  extract_lets x id flags data s1
  have h1 : g s1 = g s := (hg.queueFrame ..).trans (hseq ..)
  split
  · exact hmiss ..
  · split
    · rfl
    · exact (hg.forwardBcast ..).trans h1

theorem BusBlind.sendRefs (hcycle : ∀ (s : State) c, g { s with swarm := { s.swarm with refCycle := c } } = g s)
    (hstep : ∀ (s : State) n, g { s with swarm := { s.swarm with stepped := n } } = g s) (s : State) : g s.sendRefs = g s := by
  have hstep' (x : State) (n : Nat) (hx : g x = g s) : g { x with swarm := { x.swarm with stepped := n } } = g s := (hstep ..).trans hx
  unfold State.sendRefs
  extract_lets c _ s1 master own rel s2 s3
  have h3 : g s3 = g s :=
    (foldl_keeps g _ (fun s q => BusBlind.sendRef hg hmiss hseq s q true _) rel s2).trans
      ((foldl_keeps g _ (fun s q => BusBlind.sendRef hg hmiss hseq s q false _) own s1).trans (hcycle ..))
  clear_value s3
  split
  · rfl
  · split
    · exact h3
    · exact hstep' _ _ h3

end

theorem State.sendRefs_axes (s : State) : s.sendRefs.axes = s.axes := axes_of_quiet s.sendRefs_quiet

/-- The registers of the time are not among the counters of the references that were missed. -/
theorem State.sendRefs_par (s : State) {q : Par} (n : Nat) (hn : q.pn 0 0 = n) (h : 33800 ≤ n ∧ n < 33817) : s.sendRefs.par q = s.par q := by
  refine BusBlind.sendRefs (g := fun s => s.par q) (busBlind_of_pn n hn (by omega)) (fun s p => ?_) (fun _ _ _ => rfl) (fun _ _ => rfl) (fun _ _ => rfl) s
  refine s.incPar_par_other _ _ _ _ _ _ _ ?_
  rw [hn]
  change 33817 + 1 * p + 0 ≠ n
  omega

/-! ### The cycle's start -/

/-- The swarm's state when a basic cycle has started, before a pending time acts and references go out. -/
theorem basicCycleStart_of_cycle (s : State) (hv : s.timeValid = true) (hc : s.swarm.cycleNo < s.cycleAt s.swarmNow) :
    ∃ x : State, (∀ v, s.swarm.pendingSet = some v → basicCycleStart s = { (x.clockSet ((v : Int) * 65536) x.swarm.rate).clockJump with
        swarm := { (x.clockSet ((v : Int) * 65536) x.swarm.rate).clockJump.swarm with pendingSet := none, stepWait := true, stepped := 16 } }) ∧
      (s.swarm.pendingSet = none → basicCycleStart s = x.sendRefs) ∧
      x.now = s.now ∧ x.swarm.cycleNo = s.cycleAt s.swarmNow ∧ x.swarm.stepWait = false ∧ x.axes = s.axes := by
  unfold basicCycleStart
  extract_lets c matrix worse _ s1 s2 s3
  have keep {β : Type} {g : State → β} (hline : LineBlind g) (hport : ∀ (s : State) p x, g (s.setSb p x) = g s) : g s3 = g s1 := by
    refine (each_keeps g _ (fun q s => ?_) _ _).trans (hline.raiseLine ..)
    split
    · exact ite_holds (p := fun y => g y = g s) (hport ..) rfl
    · rfl
  have h1 : s1.swarm.pendingSet = s.swarm.pendingSet ∧ s1.swarm.cycleNo = c ∧ s1.swarm.stepWait = false ∧ s1.axes = s.axes ∧ s1.now = s.now :=
    ⟨rfl, rfl, rfl, rfl, rfl⟩
  have hport := keep (g := fun s : State => ({ s.swarm with ports := [] } : Swarm)) (lineBlind_swarm.map fun w : Swarm => ({ w with ports := [] } : Swarm)) (fun _ _ _ => rfl)
  have hax := keep (g := State.axes) lineBlind_axes (fun _ _ _ => rfl)
  have hnow := keep (g := State.now) (.of_setPar (fun _ _ => rfl) (fun _ _ => rfl) (fun _ _ => rfl) (fun _ _ _ _ => rfl)) (fun _ _ _ => rfl)
  clear_value s3 s1
  obtain ⟨hp, hcyc, hwait, hax1, hnow1⟩ := h1
  have hp3 : s3.swarm.pendingSet = s.swarm.pendingSet := (congrArg Swarm.pendingSet hport :).trans hp
  rw [if_neg (by rintro (h | h); exacts [h hv, absurd h (by omega)])]
  refine ⟨s3, fun v hs => by rw [hp3.trans hs], fun hs => by rw [hp3.trans hs], hnow.trans hnow1, (congrArg Swarm.cycleNo hport :).trans hcyc, (congrArg Swarm.stepWait hport :).trans hwait, hax.trans hax1⟩

/-! ### Frames received -/

theorem lineBlind_of_pn {q : Par} {k : Nat} (n : Nat) (hn : q.pn k 0 = n) (h : n < 40000) : LineBlind fun s => s.par q k where
  forager _ _ := rfl
  pantry _ _ := rfl
  free _ _ := rfl
  fgState s v c := s.par_setPar_other _ _ _ _ _ _ _ (by rw [hn]; change 40963 + 16 * c + 0 ≠ n; omega)
  fgPc s v c := s.par_setPar_other _ _ _ _ _ _ _ (by rw [hn]; change 40965 + 16 * c + 0 ≠ n; omega)
  fgStatus s v c := s.par_setPar_other _ _ _ _ _ _ _ (by rw [hn]; change 40964 + 16 * c + 0 ≠ n; omega)
  fgHalts s v c := s.par_setPar_other _ _ _ _ _ _ _ (by rw [hn]; change 41218 + 4 * c + 0 ≠ n; omega)
  panTrigCount s v := s.par_setPar_other _ _ _ _ _ _ _ (by rw [hn]; change 45330 ≠ n; omega)
  panState s v := s.par_setPar_other _ _ _ _ _ _ _ (by rw [hn]; change 45328 ≠ n; omega)

/-- What a port keeps of the measurement of delays and of its relaying. -/
def SbPort.timing (x : SbPort) : SbPort := { x with frames := [], drops := [], lifeEventAt := none, phase := 0, acks := 0, load := [] }

/-- A view that shows nothing of what a good frame counts on its port. -/
structure GoodBlind {β : Type} (p : Nat) (g : State → β) : Prop extends BusBlind g where
  port : ∀ (s : State) x, x.timing = (s.sb p).timing → g (s.setSb p x) = g s
  rxFrames : ∀ s : State, g (s.incPar P.rxFrames p) = g s
  tec : ∀ (s : State) v, g (s.setPar P.tec v p) = g s
  recCount : ∀ (s : State) v, g (s.setPar P.rec v p) = g s
  sbState : ∀ (s : State) v, g (s.setPar P.sbState v p) = g s

/-- The state behind a good frame, before its counters move. -/
def State.noted (s : State) (p : Nat) (brs : Bool) (rx : RxBits) : State :=
  let dur := s.rxCycles p brs rx
  (s.setSb p { s.sb p with phase := (dur : Int) - s.rxCycles p brs { rx with edges := [] }, acks := (s.sb p).acks + 1 }).noteLoad p dur

/-- The state behind a good frame, before its contents act. -/
def State.counted (s : State) (p : Nat) (brs : Bool) (rx : RxBits) : State := ((s.noted p brs rx).incPar P.rxFrames p).recvGood p

theorem frameReceived_of_data (s : State) {p : Nat} (hact : s.sbActive p = true) (id : Nat) (brs : Bool) (data : Bytes) (rx : RxBits) :
    ∃ flags, frameReceived p 0 id brs false data rx s =
      (s.counted p brs rx).dataFrame p (id % 0x20000000) flags (data.take 64) (2 * s.now - 25 * (s.rxCycles p brs rx : Nat)) := by
  refine ⟨0x80000000 + (if brs then 0x40000000 else 0) + 0, ?_⟩
  unfold frameReceived
  rw [if_neg (not_not_intro hact), if_neg (by decide), if_neg (by decide)]
  rfl

theorem State.recvGood_of_low (s : State) {p : Nat} (hrec : s.parN P.rec p ≤ 127) :
    s.recvGood p = s.setCounters p (s.parN P.tec p) (s.parN P.rec p - 1) := if_neg (by omega)

theorem GoodBlind.setCounters {β : Type} {p : Nat} {g : State → β} (hg : GoodBlind p g) (s : State) (tec rx : Nat) (h : tec ≤ 255) :
    g (s.setCounters p tec rx) = g s := by
  unfold State.setCounters
  rw [if_neg (by omega)]
  extract_lets old new s1
  have h1 : g s1 = g s := (hg.recCount ..).trans (hg.tec ..)
  split
  · exact h1
  · exact (hg.toBusBlind.errEvent ..).trans ((hg.sbState ..).trans h1)

/-- The registers of a port that its load, its acknowledgements and the count of frames leave alone. -/
theorem State.counted_before (s : State) {p : Nat} (brs : Bool) (rx : RxBits) {q : Par} (a : Nat) (hq : q.pn p 0 = a + 64 * p) (ha : a ≠ 32809) :
    ((s.noted p brs rx).incPar P.rxFrames p).par q p = s.par q p := by
  refine (State.incPar_par_other _ _ _ _ _ _ _ _ ?_).trans rfl
  rw [hq]
  change 32809 + 64 * p + 0 ≠ _
  omega

theorem GoodBlind.counted {β : Type} {p : Nat} {g : State → β} (hg : GoodBlind p g) (s : State) (brs : Bool) (rx : RxBits)
    (htec : s.parN P.tec p ≤ 255) (hrec : s.parN P.rec p ≤ 127) : g (s.counted p brs rx) = g s := by
  have ht := congrArg Int.toNat (s.counted_before (p := p) brs rx (q := P.tec) 32801 rfl (by decide))
  have hr := congrArg Int.toNat (s.counted_before (p := p) brs rx (q := P.rec) 32802 rfl (by decide))
  unfold State.counted
  rw [State.recvGood_of_low _ (le_of_eq_of_le hr hrec)]
  exact (hg.setCounters _ _ _ (le_of_eq_of_le ht htec)).trans ((hg.rxFrames _).trans ((hg.port _ _ (by rfl)).trans (hg.port _ _ (by rfl))))

/-- A register that neither traffic nor a good frame counts in is such a view. -/
theorem goodBlind_of_pn {p : Nat} (hp : p < 4) {q : Par} {k : Nat} (n : Nat) (hn : q.pn k 0 = n)
    (h : n < 41986 ∧ n ≠ 33551 ∧ n % 64 ≠ 39 ∧ n % 64 ≠ 43 ∧ (33100 ≤ n ∨ n % 64 ≠ 32 ∧ n % 64 ≠ 33 ∧ n % 64 ≠ 34 ∧ n % 64 ≠ 41)) :
    GoodBlind p fun s => s.par q k where
  toBusBlind := busBlind_of_pn n hn (by omega)
  port _ _ _ := rfl
  rxFrames s := s.incPar_par_other _ _ _ _ _ _ _ (by rw [hn]; change 32809 + 64 * p + 0 ≠ n; omega)
  tec s _ := s.par_setPar_other _ _ _ _ _ _ _ (by rw [hn]; change 32801 + 64 * p + 0 ≠ n; omega)
  recCount s _ := s.par_setPar_other _ _ _ _ _ _ _ (by rw [hn]; change 32802 + 64 * p + 0 ≠ n; omega)
  sbState s _ := s.par_setPar_other _ _ _ _ _ _ _ (by rw [hn]; change 32800 + 64 * p + 0 ≠ n; omega)

theorem goodBlind_swarm (p : Nat) : GoodBlind p fun s => s.swarm.core where
  toBusBlind := busBlind_swarm
  port _ _ _ := rfl
  rxFrames s := incPar_keeps_of (g := fun s => s.swarm.core) (fun _ _ _ => rfl) s _ p 0 1
  tec _ _ := rfl
  recCount _ _ := rfl
  sbState _ _ := rfl

theorem goodBlind_timing (p : Nat) : GoodBlind p fun s => (s.sb p).timing where
  toBusBlind := (busBlind_sb p).map SbPort.timing
  port s x h := by rw [State.sb_setSb_same, h]
  rxFrames s := incPar_keeps_of (g := fun s => (s.sb p).timing) (fun _ _ _ => rfl) s _ p 0 1
  tec _ _ := rfl
  recCount _ _ := rfl
  sbState _ _ := rfl

theorem goodBlind_now (p : Nat) : GoodBlind p State.now where
  queues _ _ _ := rfl
  ring _ _ := rfl
  sessions _ _ := rfl
  waiting _ _ := rfl
  ops _ _ := rfl
  boot _ _ := rfl
  frames _ _ _ := rfl
  life _ _ _ _ := rfl
  feeds _ _ _ _ := rfl
  overflow s q := incPar_keeps_of (g := State.now) (fun _ _ _ => rfl) s _ q 0 1
  drops s := incPar_keeps_of (g := State.now) (fun _ _ _ => rfl) s _ 0 0 1
  lifeDrops s p n := incPar_keeps_of (g := State.now) (fun _ _ _ => rfl) s _ p 0 n
  copies s := incPar_keeps_of (g := State.now) (fun _ _ _ => rfl) s _ 0 0 1
  forwards s p := incPar_keeps_of (g := State.now) (fun _ _ _ => rfl) s _ p 0 1
  port _ _ _ := rfl
  rxFrames s := incPar_keeps_of (g := State.now) (fun _ _ _ => rfl) s _ p 0 1
  tec _ _ := rfl
  recCount _ _ := rfl
  sbState _ _ := rfl

theorem State.counted_axes (s : State) (p : Nat) (brs : Bool) (rx : RxBits) : (s.counted p brs rx).axes = s.axes :=
  (wireBlind_axes.recvGood ..).trans ((axes_of_quiet ((s.noted p brs rx).incPar_quiet P.rxFrames p)).trans rfl)

/-- A frame received counts once, and moves no axis. -/
theorem frameReceived_counts (s : State) {p : Nat} (hp : p < 4) (hact : s.sbActive p = true) (hroom : s.par P.rxFrames p < 4294967295) (id : Nat) (brs : Bool)
    (data : Bytes) (rx : RxBits) : (frameReceived p 0 id brs false data rx s).par P.rxFrames p = s.par P.rxFrames p + 1 ∧
      (frameReceived p 0 id brs false data rx s).axes = s.axes := by
  obtain ⟨flags, hx⟩ := frameReceived_of_data s hact id brs data rx
  rw [hx]
  refine ⟨((wireBlind_rxFrames hp).dataFrame ..).trans (((wireBlind_rxFrames hp).recvGood ..).trans ?_), (wireBlind_axes.dataFrame ..).trans (s.counted_axes ..)⟩
  exact (State.par_incPar_same (s := s.noted p brs rx) hroom).trans rfl

theorem frameReceived_axes (s : State) {p : Nat} (hact : s.sbActive p = true) (id : Nat) (brs : Bool) (data : Bytes) (rx : RxBits) :
    (frameReceived p 0 id brs false data rx s).axes = s.axes := by
  obtain ⟨flags, hx⟩ := frameReceived_of_data s hact id brs data rx
  rw [hx]
  exact (wireBlind_axes.dataFrame ..).trans (s.counted_axes ..)

theorem classReceived_of_class {cls id : Nat} {detail : Option Nat} (h : idClass id = cls) (hd : ∀ d, detail = some d → idDetail id = d) (p : Nat)
    (data : Bytes) (rx : RxBits) (s : State) :
    classReceived cls detail p id data rx s = frameReceived p 0 id (decide (0 < rx.fast)) false data rx s := by
  unfold classReceived
  dsimp only
  refine if_pos ⟨h, ?_⟩
  cases detail with
  | none => rfl
  | some d => exact decide_eq_true (hd d rfl)

theorem classReceived_of_other {cls id : Nat} (detail : Option Nat) (h : idClass id ≠ cls) (p : Nat) (data : Bytes) (rx : RxBits) (s : State) :
    classReceived cls detail p id data rx s = s := if_neg fun hc => h hc.1

end Sys2Proof.Machine
end

section
/-! THEOREMS. Swarm time: what its messages and its events do. -/
namespace Sys2Proof.Machine

theorem State.setMaster_par (s : State) (m rank : Nat) {q : Par} (hg : BusBlind fun s => s.par q) (hq : P.timeMaster.pn 0 0 ≠ q.pn 0 0) :
    (s.setMaster m rank).par q = s.par q := by
  unfold State.setMaster
  dsimp only
  split
  · rfl
  · exact (hg.busEvent ..).trans (State.par_setPar_other _ _ _ _ _ _ _ _ hq)

theorem State.setMaster_master (s : State) (m rank : Nat) : (s.setMaster m rank).parN P.timeMaster = m := by
  unfold State.setMaster
  dsimp only
  split
  next h => exact h
  next => exact congrArg Int.toNat ((busBlind_timeMaster.busEvent ..).trans (State.par_setPar_same ..))

theorem State.setMaster_swarm (s : State) (m rank : Nat) : (s.setMaster m rank).swarm.core = s.swarm.core := by
  unfold State.setMaster
  dsimp only
  split
  · rfl
  · exact busBlind_swarm.busEvent ..

theorem each_setSb {β : Type} {g : State → β} (hg : ∀ (s : State) p x, g (s.setSb p x) = g s) (f : Nat → State → SbPort) (l : List Nat) (s : State) :
    g (each l s fun p s => s.setSb p (f p s)) = g s := each_keeps g _ (fun p s => hg s p (f p s)) l s

/-- The first correction sets the time, which is then ACQUIRING. -/
theorem State.correct_of_invalid (s : State) (theta : Int) (h : s.par P.timeState = 0) :
    (s.correct theta).par P.timeState = 1 ∧ (s.correct theta).swarm.upstream = s.swarm.upstream := by
  unfold State.correct
  extract_lets st s1 a w s2 s3 _ s4 _ s5
  rw [if_pos h]
  have h3 : s3.par P.timeState = 1 ∧ s3.swarm.upstream = s.swarm.upstream := ⟨State.par_setPar_same .., rfl⟩
  clear_value s3
  obtain ⟨hst, hup⟩ := h3
  have hjump (x : State) : x.clockJump.par P.timeState = x.par P.timeState ∧ x.clockJump.swarm.upstream = x.swarm.upstream :=
    ⟨each_setSb (g := fun s => s.par P.timeState) (fun _ _ _ => rfl) _ _ _, each_setSb (g := fun s => s.swarm.upstream) (fun _ _ _ => rfl) _ _ _⟩
  have hcold (x : State) : (each (upto 4) x fun k s => s.setBit P.coldFlags 5 false k).par P.timeState = x.par P.timeState :=
    each_keeps (fun s => s.par P.timeState) _ (fun k s => s.par_setPar_other _ _ _ _ _ _ _ (by change 4100 + 4096 * k + 0 ≠ 33809; omega)) _ _
  have hbegin (x : State) : x.timeBegins.par P.timeState = x.par P.timeState ∧ x.timeBegins.swarm.upstream = x.swarm.upstream := by
    unfold State.timeBegins
    extract_lets _ x1 x2
    refine ⟨(each_setSb (g := fun s => s.par P.timeState) (fun _ _ _ => rfl) _ _ _).trans (hcold x1), ?_⟩
    exact (each_setSb (g := fun s => s.swarm.upstream) (fun _ _ _ => rfl) _ _ _).trans
      (each_keeps (fun s => s.swarm.upstream) _ (fun k s => (rfl : (s.setBit P.coldFlags 5 false k).swarm.upstream = s.swarm.upstream)) _ x1)
  exact ⟨(hjump _).1.trans ((hbegin _).1.trans hst), (hjump _).2.trans ((hbegin _).2.trans hup)⟩

/-- The registers and the port of the reference a module follows. -/
structure State.Follows (t : State) (src master hops p : Nat) : Prop where
  state : t.par P.timeState = 1
  source : t.parN P.timeSource = src
  master : t.parN P.timeMaster = master
  hops : t.parN P.timeHops = hops
  upstream : t.swarm.upstream = p

/-- Traffic of the bus and the Forager's lines leave the followed reference. -/
theorem State.Follows.congr {s t : State} {src master hops p : Nat} (h : s.Follows src master hops p)
    (hk : ∀ {β : Type} {g : State → β}, BusBlind g → LineBlind g → g t = g s) : t.Follows src master hops p where
  state := (hk busBlind_timeState (lineBlind_of_pn 33809 rfl (by omega))).trans h.state
  source := (congrArg Int.toNat (hk busBlind_timeSource (lineBlind_of_pn 33812 rfl (by omega))) :).trans h.source
  master := (congrArg Int.toNat (hk busBlind_timeMaster (lineBlind_of_pn 33811 rfl (by omega))) :).trans h.master
  hops := (congrArg Int.toNat (hk busBlind_timeHops (lineBlind_of_pn 33813 rfl (by omega))) :).trans h.hops
  upstream := (congrArg Swarm.upstream (hk busBlind_swarm (lineBlind_swarm.map Swarm.core)) :).trans h.upstream

/-- The first reference that an acquiring module accepts is the one it follows. -/
theorem State.reference_of_first (s : State) {p id : Nat} {data : Bytes} (h : Int) (hcls : idClass id = 1) (hlen : 20 ≤ data.length)
    (hseg : idSource id / 128 = s.parN P.sbSegment p) (haddr : s.par P.addrState = 0) (hst : s.par P.timeState = 0) (hrefs : s.swarm.refs = []) :
    (s.reference p id data h).Follows (idSource id) (field data 2 2) (min 127 (field data 15 1)) p := by
  have hsrc : s.sourceAddr = none := by
    unfold State.sourceAddr
    rw [haddr]
    rfl
  unfold State.reference
  extract_lets src r s1 keep better _ s2 _ s3 _ s4 _ s5 theta s6
  have hm {β : Type} {g : State → β} (hg : BusBlind g) (hp : ∀ (s : State) x, g (s.setSb p x) = g s) : g s1 = g s := by
    unfold s1 State.combMatch
    dsimp only
    split
    · exact hp ..
    · split
      · exact (hg.busEvent ..).trans (hp ..)
      · rfl
  have hst1 : s1.par P.timeState = 0 := (hm busBlind_timeState (fun _ _ => rfl)).trans hst
  have hrefs1 : s1.swarm.refs = [] := (congrArg Swarm.refs (hm (g := fun s => s.swarm.core) busBlind_swarm (fun _ _ => rfl)) :).trans hrefs
  have hnow1 : s1.now = s.now := hm (g := State.now) (goodBlind_now p).toBusBlind (fun _ _ => rfl)
  have hkeep : keep = [] := by
    unfold keep
    rw [hrefs1]
    rfl
  have h2 : s2.par P.timeState = 0 ∧ s2.swarm.refs = [r] ∧ s2.now = s.now := ⟨hst1, congrArg (· ++ [r]) hkeep, hnow1⟩
  have h3 : s3.par P.timeState = 0 ∧ s3.swarm.refs = [r] ∧ s3.now = s.now := by
    unfold s3
    split
    · exact h2
    · exact h2
  clear_value s1 s2 s3
  obtain ⟨hst3, hrefs3, hnow3⟩ := h3
  have h4 : s4 = s3 := if_neg (by rw [hst3]; decide)
  have hf : s4.followed = some r := by
    have hin : decide (s3.now < r.at_ + s3.cyclesNs 3 + 1) = true := decide_eq_true (by rw [hnow3]; unfold r; dsimp only; omega)
    unfold State.followed
    have hfilter : [r].filter (fun r => decide (s3.now < r.at_ + s3.cyclesNs 3 + 1)) = [r] := List.filter_cons_of_pos hin
    rw [h4, hrefs3, hfilter]
    rfl
  have h5 : s5.par P.timeState = 0 ∧ s5.swarm.upstream = p := ⟨by unfold s5; rw [← hst3, ← h4]; rfl, rfl⟩
  obtain ⟨hst6, hup6⟩ := s5.correct_of_invalid theta h5.1
  rw [if_neg (by rintro (h | h | h | h); exacts [h hcls, absurd h (by omega), h hseg, by rw [hsrc] at h; cases h]), if_neg (by rw [hst3]; rintro ⟨h, -⟩; cases h), hf]
  dsimp only
  rw [if_pos ⟨rfl, rfl⟩]
  change s6.par P.timeState = 1 at hst6
  replace hup6 : s6.swarm.upstream = p := hup6.trans h5.2
  clear_value s6
  constructor
  · refine (State.setMaster_par _ _ _ busBlind_timeState (by decide)).trans ?_
    exact (State.par_setPar_other _ _ _ _ _ _ _ _ (by decide)).trans ((State.par_setPar_other _ _ _ _ _ _ _ _ (by decide)).trans hst6)
  · have hsource := (State.setMaster_par ((s6.setPar P.timeSource src).setPar P.timeHops (min 127 r.hops)) r.master r.rank busBlind_timeSource (by decide)).trans
      ((State.par_setPar_other _ _ _ _ _ _ _ _ (by decide)).trans (State.par_setPar_same ..))
    exact (congrArg Int.toNat hsource :)
  · exact State.setMaster_master ..
  · have hhops := (State.setMaster_par ((s6.setPar P.timeSource src).setPar P.timeHops (min 127 r.hops)) r.master r.rank busBlind_timeHops (by decide)).trans
      (State.par_setPar_same ..)
    refine (congrArg Int.toNat hhops :).trans ?_
    unfold r
    dsimp only
    omega
  · exact (congrArg Swarm.upstream (State.setMaster_swarm ..) :).trans hup6

/-! ### Answers to a delay request -/

theorem lineBlind_allQueues : LineBlind State.queues := .of_setPar (fun _ _ => rfl) (fun _ _ => rfl) (fun _ _ => rfl) (fun _ _ _ _ => rfl)

/-- The counts that a good frame moves on a steady port. -/
def goodCount (p n : Nat) : Prop := n = 32801 + 64 * p ∨ n = 32802 + 64 * p ∨ n = 32809 + 64 * p

/-- The frames and the entry of a port's queue that further traffic leaves in place. -/
structure State.Sends (s : State) (p : Nat) (f : TxFrame) (e : Entry) : Prop where
  frame : f ∈ (s.sb p).frames
  entry : e ∈ s.queue (8 + p)

section
variable {p : Nat} (hp : p < 4) {f : TxFrame} {e : Entry}

theorem State.Sends.of_same {s t : State} (h : s.Sends p f e) (hs : t.swarm.ports = s.swarm.ports) (hq : t.queues = s.queues) : t.Sends p f e where
  frame := by
    unfold State.sb
    rw [hs]
    exact h.frame
  entry := by
    unfold State.queue
    rw [hq]
    exact h.entry

theorem State.Sends.incPar {s : State} (h : s.Sends p f e) (q : Par) (i j n : Nat) : (s.incPar q i j n).Sends p f e :=
  h.of_same (incPar_keeps_of (g := fun s => s.swarm.ports) (fun _ _ _ => rfl) ..) (incPar_keeps_of (g := State.queues) (fun _ _ _ => rfl) ..)

theorem State.Sends.setQueue {s : State} (h : s.Sends p f e) (q : Nat) (l : List Entry) (hl : q = 8 + p → e ∈ l) : (s.setQueue q l).Sends p f e where
  frame := h.frame
  entry := by
    by_cases hq : q = 8 + p
    · rw [hq, State.queue_setQueue_same]
      exact hl hq
    · rw [State.queue_setQueue_other _ _ _ _ hq]
      exact h.entry

theorem State.Sends.push {s : State} (h : s.Sends p f e) (q : Nat) (data : Bytes) (dest port : Nat) : (s.push q data dest port).Sends p f e := by
  unfold State.push
  split
  · exact (h.setQueue q _ fun hq => List.mem_append_left _ (hq ▸ h.entry)).of_same rfl rfl
  · exact h.incPar ..

theorem State.Sends.setSb {s : State} (h : s.Sends p f e) (q : Nat) (x : SbPort) (hx : q = p → f ∈ x.frames) : (s.setSb q x).Sends p f e where
  frame := by
    rw [State.sb_setSb]
    split
    next hq => exact hx hq.symm
    next => exact h.frame
  entry := h.entry

theorem State.Sends.txPut {s : State} (h : s.Sends p f e) (q id : Nat) (data : Bytes) (own : Bool) (xfer : Option Nat) (last : Bool)
    (copyOf : Option (Nat × Nat)) : (s.txPut q id data own xfer last copyOf).Sends p f e := by
  unfold State.txPut
  extract_lets data' tag fits s' f'
  have h' : s'.Sends p f e := h.push ..
  split
  · exact h'.setSb q _ fun hq => List.mem_append_left _ (hq ▸ h'.frame)
  · exact h'

theorem State.Sends.foldl {α : Type} {g : State → α → State} (hg : ∀ s x, State.Sends s p f e → (g s x).Sends p f e) (l : List α) {s : State} (h : s.Sends p f e) :
    (l.foldl g s).Sends p f e := foldl_holds (p := fun s => State.Sends s p f e) hg l h

include hp in
theorem State.Sends.feedOne {s : State} (h : s.Sends p f e) (x : Entry) : (s.feedOne x).Sends p f e := by
  unfold State.feedOne
  split
  · exact h
  · split
    · exact h
    · split
      · exact h.setQueue _ _ fun hq => absurd hq (by omega)
      · dsimp only
        split
        · exact State.Sends.foldl (fun s y hs => hs.txPut ..) _ (h.of_same rfl rfl)
        · exact h

include hp in
theorem State.Sends.send {s : State} (h : s.Sends p f e) (x : Session) (b : Bytes) : (s.send x b).Sends p f e := by
  unfold State.send
  split
  · exact State.Sends.foldl (fun s y hs => hs.push ..) _ (h.of_same rfl rfl)
  · exact State.Sends.foldl (fun s y hs => hs.feedOne hp y) _ (h.push ..)
  · exact h.push ..

include hp in
theorem State.Sends.busEvent {s : State} (h : s.Sends p f e) (pos subj : Nat) (data : Bytes) : (s.busEvent pos subj data).Sends p f e := by
  refine State.Sends.foldl (fun s n hs => ?_) _ h
  split
  · unfold State.notifyTo
    extract_lets x b
    have hset (y : Session) : (s.setSess n y).Sends p f e := hs.of_same rfl rfl
    split
    · exact (hset _).send hp ..
    · exact (hset _).incPar ..
  · exact hs

/-- A frame that is no EMERGENCY sends nothing away. -/
theorem State.Sends.queueFrame {s : State} (h : s.Sends p f e) (q id : Nat) (data : Bytes) (own : Bool) (hid : idClass id ≠ 0) :
    (s.queueFrame q id data own).Sends p f e := by
  unfold State.queueFrame
  dsimp only
  rw [if_neg hid]
  exact h.txPut ..

theorem State.Sends.forwardBcast {s : State} (h : s.Sends p f e) (q src id : Nat) (data : Bytes) (own : Bool) (hid : idClass id ≠ 0) :
    (s.forwardBcast q src id data own).Sends p f e := by
  unfold State.forwardBcast
  dsimp only
  split
  · refine State.Sends.foldl (fun s y hs => ?_) _ h
    dsimp only
    split
    · unfold State.forwardOut
      dsimp only
      split
      · exact hs.queueFrame _ _ _ _ hid
      · exact (hs.queueFrame _ _ _ _ hid).incPar ..
    · exact hs
  · exact h

include hp in
theorem State.Sends.filterFrame {s : State} (h : s.Sends p f e) (q id flags : Nat) (data : Bytes) (time : Nat) : (s.filterFrame q id flags data time).Sends p f e := by
  unfold State.filterFrame
  extract_lets hit
  clear_value hit
  cases hit with
  | none => exact h
  | some k =>
    dsimp -zeta only
    extract_lets m head r x s0 s1
    have h1 : s1.Sends p f e := by
      have h0 : s0.Sends p f e := h.setQueue r _ fun hq => List.mem_append_left _ (hq ▸ h.entry)
      unfold s1
      split
      · refine State.Sends.of_same (s := { s0 with nextTag := s.nextTag + 1 }) (h0.of_same rfl rfl) ?_ ?_
        · exact (lineBlind_swarm.map Swarm.ports).arrived ..
        · exact lineBlind_allQueues.arrived ..
      · exact h.incPar ..
    split
    · exact h1.busEvent hp ..
    · exact h1

end

/-- The swarm's state without its ports and the sources heard. -/
def Swarm.deaf (w : Swarm) : Swarm := { w with ports := [], heard := [] }

/-- A state behind a good frame of a steady port: its load and its counts have moved, and nothing else. -/
structure State.CountedFrom (t s : State) (p : Nat) : Prop where
  now : t.now = s.now
  queues : t.queues = s.queues
  nextTag : t.nextTag = s.nextTag
  deaf : t.swarm.deaf = s.swarm.deaf
  timing : (t.sb p).timing = (s.sb p).timing
  par : ∀ (q : Par) (k : Nat), ¬ goodCount p (q.pn k 0) → t.par q k = s.par q k

theorem State.CountedFrom.of_params {a t s : State} {p : Nat} (h : a.CountedFrom s p) (ht : t = { a with params := t.params })
    (hp : ∀ (q : Par) (k : Nat), ¬ goodCount p (q.pn k 0) → t.par q k = a.par q k) : t.CountedFrom s p where
  now := (congrArg State.now ht :).trans h.now
  queues := (congrArg State.queues ht :).trans h.queues
  nextTag := (congrArg State.nextTag ht :).trans h.nextTag
  deaf := (congrArg (fun s : State => s.swarm.deaf) ht :).trans h.deaf
  timing := (congrArg (fun s : State => (s.sb p).timing) ht :).trans h.timing
  par q k hq := (hp q k hq).trans (h.par q k hq)

/-- A good frame of a steady port moves its counts alone. -/
theorem State.counted_of_steady (s : State) {p : Nat} (brs : Bool) (rx : RxBits) (hact : s.sbActive p = true) (htec : s.parN P.tec p ≤ 255)
    (hrec : s.parN P.rec p ≤ 127) (hroom : s.par P.rxFrames p < 4294967295) (hsteady : 127 < s.parN P.tec p ↔ s.par P.sbState p = 3) :
    (s.counted p brs rx).CountedFrom s p := by
  have h0 : (s.noted p brs rx).CountedFrom s p := by
    refine ⟨rfl, rfl, rfl, rfl, ?_, fun _ _ _ => rfl⟩
    unfold State.noted State.noteLoad
    dsimp only
    rw [State.sb_setSb_same, State.sb_setSb_same]
    rfl
  have h1 : ((s.noted p brs rx).incPar P.rxFrames p).CountedFrom s p := by
    have hfits : (s.noted p brs rx).par P.rxFrames p + (1 : Nat) < 4294967296 := by
      have : (s.noted p brs rx).par P.rxFrames p = s.par P.rxFrames p := rfl
      omega
    have hinc : (s.noted p brs rx).incPar P.rxFrames p = (s.noted p brs rx).setPar P.rxFrames ((s.noted p brs rx).par P.rxFrames p + (1 : Nat)) p := if_pos hfits
    rw [hinc]
    refine h0.of_params rfl fun q k hq => State.par_setPar_other _ _ _ _ _ _ _ _ fun he => hq ?_
    rw [← he]
    exact .inr (.inr rfl)
  have ht := congrArg Int.toNat (s.counted_before (p := p) brs rx (q := P.tec) 32801 rfl (by decide))
  have hr := congrArg Int.toNat (s.counted_before (p := p) brs rx (q := P.rec) 32802 rfl (by decide))
  have hst := s.counted_before (p := p) brs rx (q := P.sbState) 32800 rfl (by decide)
  unfold State.counted
  generalize (s.noted p brs rx).incPar P.rxFrames p = y at h1 ht hr hst ⊢
  change y.parN P.tec p = s.parN P.tec p at ht
  change y.parN P.rec p = s.parN P.rec p at hr
  have hstate : s.par P.sbState p = 2 ∨ s.par P.sbState p = 3 := by
    simp only [State.sbActive, Bool.and_eq_true, Bool.or_eq_true, decide_eq_true_eq] at hact
    exact hact.2
  have hnew : y.parN P.sbState p = if 127 < y.parN P.tec p ∨ 127 < y.parN P.rec p - 1 then 3 else 2 := by
    have hN : y.parN P.sbState p = (s.par P.sbState p).toNat := congrArg Int.toNat hst
    rw [hN, ht, hr]
    rcases hstate with h2 | h3
    · rw [h2, if_neg (by rw [hsteady, h2]; omega)]
      rfl
    · rw [h3, if_pos (.inl (hsteady.mpr h3))]
      rfl
  have hx : y.recvGood p = (y.setPar P.tec (y.parN P.tec p) p).setPar P.rec (min 255 ((y.parN P.rec p - 1 : Nat) : Int)) p := by
    rw [y.recvGood_of_low (by omega)]
    unfold State.setCounters
    rw [if_neg (by omega)]
    exact if_pos (Or.inl hnew)
  rw [hx]
  refine (h1.of_params rfl fun q k hq => State.par_setPar_other _ _ _ _ _ _ _ _ fun he => hq ?_).of_params rfl
    fun q k hq => State.par_setPar_other _ _ _ _ _ _ _ _ fun he => hq ?_
  · rw [← he]
    exact .inl rfl
  · rw [← he]
    exact .inr (.inl rfl)

/-- Which ports serve time is read from registers that a good frame leaves. -/
theorem State.CountedFrom.serves {t s : State} {p : Nat} (hp : p < 4) (h : t.CountedFrom s p) :
    t.bcastPorts = s.bcastPorts ∧ ∀ q, t.relaysOn q = s.relaysOn q := by
  have free (n : Nat) (hn : n % 64 ≠ 33 ∧ n % 64 ≠ 34 ∧ n % 64 ≠ 41 ∨ 33100 ≤ n) : ¬ goodCount p n := by
    rintro (h | h | h) <;> omega
  have hsb (q : Nat) : t.par P.sbState q = s.par P.sbState q := h.par _ _ (free (32800 + 64 * q) (by omega))
  have hseg (q : Nat) : t.par P.sbSegment q = s.par P.sbSegment q := h.par _ _ (free (32769 + 64 * q) (by omega))
  have hpair : t.par P.pairEn = s.par P.pairEn := h.par _ 0 (free 33541 (by omega))
  have hmask : t.par P.relayMask = s.par P.relayMask := h.par _ 0 (free 33798 (by omega))
  have haddr : t.par P.addrState = s.par P.addrState := h.par _ 0 (free 33539 (by omega))
  have hheld : t.par P.addrHeld = s.par P.addrHeld := h.par _ 0 (free 33540 (by omega))
  have hst : t.par P.timeState = s.par P.timeState := h.par _ 0 (free 33809 (by omega))
  have hclaim : t.swarm.claimAddr = s.swarm.claimAddr := (congrArg Swarm.claimAddr h.deaf :)
  have hup : t.swarm.upstream = s.swarm.upstream := (congrArg Swarm.upstream h.deaf :)
  have hbar : t.swarm.relayBarred = s.swarm.relayBarred := (congrArg Swarm.relayBarred h.deaf :)
  have hon (q : Nat) : t.sbOn q = s.sbOn q := by
    unfold State.sbOn
    rw [hsb]
  have hoff (q : Nat) : t.sbOff q = s.sbOff q := by
    unfold State.sbOff
    rw [hsb]
  have hserves (q : Nat) : t.pairServes q = s.pairServes q := by
    unfold State.pairServes State.acting
    rw [hon, hon, hoff, hoff, hseg, hseg, hpair]
  have hsource : t.sourceAddr = s.sourceAddr := by
    unfold State.sourceAddr State.parN
    rw [haddr, hheld, hclaim]
  have hhome (q : Nat) : t.homePort q = s.homePort q := by
    unfold State.homePort State.parN
    rw [hsource, hon, hseg]
  have hsegment : t.upSegment = s.upSegment := by
    unfold State.upSegment State.parN
    rw [hst, hheld, hup, hseg]
  refine ⟨?_, fun q => ?_⟩
  · unfold State.bcastPorts
    exact congrArg (fun f : Nat → Bool => (upto 4).filter f) (funext fun q => by rw [hserves, hhome])
  · unfold State.relaysOn State.held State.parN
    rw [hon, hseg, hmask, haddr, hst, hsegment, hbar, hserves]

/-- A frame of class 2 that has neither an entry for the module to take nor a claim: the measurement's two messages, the filters, the relay. -/
theorem State.dataFrame_of_delay (s : State) (p id flags : Nat) (data : Bytes) (h : Int) (hcls : idClass id = 2) :
    ∃ x time, x = { s with swarm := { s.swarm with heard := tset s.swarm.heard (idSource id) s.now } } ∧
      s.dataFrame p id flags data h =
        (((x.delayRequest p id data h).delayResponse p id data h).filterFrame p id flags data time).forwardBcast p (idSource id / 128) id data false := by
  refine ⟨_, s.entryTime h, rfl, ?_⟩
  unfold State.dataFrame
  extract_lets cls src time _ s1 dest s2 s3 s4 s5 s6 s7
  have h4 : s4 = s1 := if_neg (by omega)
  have h5 : s5 = s4 := if_neg (by omega)
  have h6 : s6 = (s5.delayRequest p id data h).delayResponse p id data h := if_pos hcls
  have h7 : s7 = s6 := if_neg (by omega)
  rw [if_neg (by omega), h7, h6, h5, h4]

/-- A frame of class 1: the reference, the filters, the relay. -/
theorem State.dataFrame_of_reference (s : State) (p id flags : Nat) (data : Bytes) (h : Int) (hcls : idClass id = 1) :
    ∃ x time, x = { s with swarm := { s.swarm with heard := tset s.swarm.heard (idSource id) s.now } } ∧
      s.dataFrame p id flags data h = ((x.reference p id data h).filterFrame p id flags data time).forwardBcast p (idSource id / 128) id data false := by
  refine ⟨_, s.entryTime h, rfl, ?_⟩
  unfold State.dataFrame
  extract_lets cls src time _ s1 dest s2 s3 s4 s5 s6 s7
  have h4 : s4 = s1 := if_neg (by omega)
  have h5 : s5 = s4.reference p id data h := if_pos hcls
  have h6 : s6 = s5 := if_neg (by omega)
  have h7 : s7 = s6 := if_neg (by omega)
  rw [if_neg (by omega), h7, h6, h5, h4]

/-- The request of a delay measurement: what answers it. -/
def State.answerFrame (s : State) (data : Bytes) (src : Nat) (h : Int) : Bytes :=
  leBytes 2 src ++ leBytes 1 (field data 2 1) ++ leBytes 1 0 ++ stampBytes (s.swarmAt h) ++ leBytes 10 0

theorem State.answerFrame_length (s : State) (data : Bytes) (src : Nat) (h : Int) : (s.answerFrame data src h).length = 24 := by
  simp [State.answerFrame, stampBytes]

theorem fdPad_of_24 {bs : Bytes} (h : bs.length = 24) : fdPad bs = bs := by
  unfold fdPad
  rw [h]
  exact List.append_nil _

theorem idClass_swarmId_delay (a d : Nat) : idClass (swarmId 6 2 a d) = 2 := by
  unfold idClass swarmId
  omega

/-- A delay request that is served queues its answer on its port. -/
theorem State.delayRequest_answers (s : State) {p id : Nat} {data : Bytes} (h : Int) (hcls : idClass id = 2) (hdet : idDetail id = 0)
    (hlen : 16 ≤ data.length) (hheld : s.held = true) (hdest : field data 0 2 = s.parN P.addrHeld)
    (hserves : (decide (s.par P.timeState = 4) && s.bcastPorts.contains p || s.relaysOn p && !(s.sb p).stopped) = true) (hv : s.timeValid = true)
    (hroom : entrySize 24 ≤ s.freeBytes (8 + p)) :
    (s.delayRequest p id data h).Sends p
      ⟨s.nextTag, swarmId 6 2 (s.parN P.addrHeld) 1, s.now, some (s.now + 10000000), true, none, false, none⟩
      ⟨s.answerFrame data (idSource id) h, swarmId 6 2 (s.parN P.addrHeld) 1, p, s.nextTag, [], s.now⟩ := by
  have hclass : idClass (swarmId 6 2 (s.parN P.addrHeld) 1) = 2 := idClass_swarmId_delay ..
  unfold State.delayRequest
  extract_lets serves out id'
  rw [if_pos ⟨hcls, hdet, hlen, hheld, hdest, hserves, hv⟩]
  have hout : fdPad out = out := fdPad_of_24 (s.answerFrame_length ..)
  have h24 : out.length = 24 := s.answerFrame_length ..
  refine State.Sends.forwardBcast ?_ _ _ _ _ _ (by rw [hclass]; decide)
  unfold State.queueFrame
  dsimp only
  rw [if_neg (by rw [hclass]; decide)]
  unfold State.txPut
  dsimp only
  rw [hout, h24, if_pos (decide_eq_true hroom), State.push_of_room _ _ _ _ _ (by rw [h24]; exact hroom)]
  have hend : s.lifeEnd p id' = some (s.now + 10000000) := by
    unfold State.lifeEnd
    rw [hclass]
    rfl
  constructor
  · rw [State.sb_setSb_same, hend]
    exact List.mem_append_right _ (List.mem_singleton.mpr rfl)
  · refine (congrArg (_ ∈ ·) (State.queue_setQueue_same ..)).mpr ?_
    exact List.mem_append_right _ (List.mem_singleton.mpr rfl)

/-! ### The three messages -/

/-- The first reference received is followed. -/
theorem frameReceived_of_first (s : State) {p id : Nat} (hp : p < 4) {data : Bytes} (brs : Bool) (rx : RxBits) (hact : s.sbActive p = true) (htec : s.parN P.tec p ≤ 255)
    (hrec : s.parN P.rec p ≤ 127) (hid : id < 0x20000000) (hcls : idClass id = 1) (hmin : 20 ≤ data.length) (hmax : data.length ≤ 64)
    (hseg : idSource id / 128 = s.parN P.sbSegment p) (haddr : s.par P.addrState = 0) (hst : s.par P.timeState = 0) (hrefs : s.swarm.refs = []) :
    (frameReceived p 0 id brs false data rx s).Follows (idSource id) (field data 2 2) (min 127 (field data 15 1)) p := by
  obtain ⟨flags, hx⟩ := frameReceived_of_data s hact id brs data rx
  rw [Nat.mod_eq_of_lt hid, List.take_of_length_le hmax] at hx
  obtain ⟨x, time, hxs, hd⟩ := (s.counted p brs rx).dataFrame_of_reference p id flags data (2 * s.now - 25 * (s.rxCycles p brs rx : Nat)) hcls
  rw [hx, hd]
  have keep {β : Type} {g : State → β} (hg : GoodBlind p g) (hheard : ∀ (s : State) h, g { s with swarm := { s.swarm with heard := h } } = g s) : g x = g s := by
    rw [hxs]
    exact (hheard ..).trans (hg.counted s brs rx htec hrec)
  have hseg' : x.par P.sbSegment p = s.par P.sbSegment p := keep (goodBlind_of_pn hp (32769 + 64 * p) rfl (by omega)) (fun _ _ => rfl)
  have haddr' : x.par P.addrState = 0 := (keep (goodBlind_of_pn hp 33539 rfl (by omega)) (fun _ _ => rfl)).trans haddr
  have hst' : x.par P.timeState = 0 := (keep (goodBlind_of_pn hp 33809 rfl (by omega)) (fun _ _ => rfl)).trans hst
  have hrefs' : x.swarm.refs = [] := by
    rw [hxs]
    exact (congrArg Swarm.refs ((goodBlind_swarm p).counted s brs rx htec hrec) :).trans hrefs
  have hf := x.reference_of_first (data := data) (2 * s.now - 25 * (s.rxCycles p brs rx : Nat)) hcls hmin
    (hseg.trans (congrArg Int.toNat hseg' :).symm) haddr' hst' hrefs'
  exact hf.congr fun hb hl => (hb.forwardBcast ..).trans (hb.filterFrame hl ..)

/-- An answer to the request under way ends it, and its result joins the last ones. -/
theorem frameReceived_of_response (s : State) {p id tx : _} (hp : p < 4) {data : Bytes} (brs : Bool) (rx : RxBits) (hact : s.sbActive p = true)
    (htec : s.parN P.tec p ≤ 255) (hrec : s.parN P.rec p ≤ 127) (hid : id < 0x20000000) (hcls : idClass id = 2) (hdet : idDetail id = 1)
    (hmin : 24 ≤ data.length) (hmax : data.length ≤ 64) (hheld : s.held = true) (hdest : field data 0 2 = s.parN P.addrHeld)
    (htx : (s.sb p).reqStamp = some tx) (hseq : field data 2 1 = (s.sb p).delaySeq) (hsrc : idSource id = s.parN P.timeSource)
    (hup : p = s.swarm.upstream) :
    let t := frameReceived p 0 id brs false data rx s
    (t.sb p).reqStamp = none ∧ (t.sb p).delays.length = min 16 ((s.sb p).delays.length + 1) := by
  obtain ⟨flags, hx⟩ := frameReceived_of_data s hact id brs data rx
  rw [Nat.mod_eq_of_lt hid, List.take_of_length_le hmax] at hx
  obtain ⟨x, time, hxs, hd⟩ := (s.counted p brs rx).dataFrame_of_delay p id flags data (2 * s.now - 25 * (s.rxCycles p brs rx : Nat)) hcls
  dsimp only
  rw [hx, hd]
  have keep {β : Type} {g : State → β} (hg : GoodBlind p g) (hheard : ∀ (s : State) h, g { s with swarm := { s.swarm with heard := h } } = g s) : g x = g s := by
    rw [hxs]
    exact (hheard ..).trans (hg.counted s brs rx htec hrec)
  have haddr : x.par P.addrState = s.par P.addrState := keep (goodBlind_of_pn hp 33539 rfl (by omega)) (fun _ _ => rfl)
  have hself : x.par P.addrHeld = s.par P.addrHeld := keep (goodBlind_of_pn hp 33540 rfl (by omega)) (fun _ _ => rfl)
  have hsource : x.par P.timeSource = s.par P.timeSource := keep (goodBlind_of_pn hp 33812 rfl (by omega)) (fun _ _ => rfl)
  have hport : (x.sb p).timing = (s.sb p).timing := keep (g := fun s => (s.sb p).timing) (goodBlind_timing p) (fun _ _ => rfl)
  have hup' : x.swarm.upstream = s.swarm.upstream := by
    rw [hxs]
    exact (congrArg Swarm.upstream ((goodBlind_swarm p).counted s brs rx htec hrec) :)
  have hheld' : x.held = true := by
    unfold State.held at hheld ⊢
    rw [haddr]
    exact hheld
  generalize (2 * s.now - 25 * (s.rxCycles p brs rx : Nat) : Int) = h
  have hreq : x.delayRequest p id data h = x := if_neg (by rw [hdet]; rintro ⟨-, h, -⟩; cases h)
  have htx' : (x.sb p).reqStamp = some tx := (congrArg SbPort.reqStamp hport :).trans htx
  have hcond : idClass id = 2 ∧ idDetail id = 1 ∧ 24 ≤ data.length ∧ x.held = true ∧ field data 0 2 = x.parN P.addrHeld ∧
      field data 2 1 = (x.sb p).delaySeq ∧ idSource id = x.parN P.timeSource ∧ p = x.swarm.upstream :=
    ⟨hcls, hdet, hmin, hheld', hdest.trans (congrArg Int.toNat hself :).symm, hseq.trans (congrArg SbPort.delaySeq hport :).symm,
      hsrc.trans (congrArg Int.toNat hsource :).symm, hup.trans hup'.symm⟩
  have hres : ((x.delayResponse p id data h).sb p).reqStamp = none ∧
      ((x.delayResponse p id data h).sb p).delays.length = min 16 ((s.sb p).delays.length + 1) := by
    have hdelays : (x.sb p).delays = (s.sb p).delays := (congrArg SbPort.delays hport :)
    have hsb : (x.delayResponse p id data h).sb p = { x.sb p with
        reqStamp := none, delays := (tdiv ((stampAt data 4 - tx) + (x.swarmAt h - stampAt data 14)) 2 :: (x.sb p).delays).take 16 } := by
      unfold State.delayResponse
      dsimp only
      rw [htx']
      dsimp only
      rw [if_pos hcond]
      split
      · exact State.sb_setSb_same ..
      · exact State.sb_setSb_same ..
    rw [hsb, ← hdelays]
    refine ⟨rfl, ?_⟩
    rw [List.length_take, List.length_cons]
  have hlast {y : State} (time : Nat) : (((y.filterFrame p id flags data time).forwardBcast p (idSource id / 128) id data false).sb p).core = (y.sb p).core :=
    ((busBlind_sb p).forwardBcast ..).trans ((busBlind_sb p).filterFrame (lineBlind_swarm.map fun w => (tget w.ports {} p).core) ..)
  rw [hreq]
  exact ⟨(congrArg SbPort.reqStamp (hlast time) :).trans hres.1, (congrArg (fun y : SbPort => y.delays.length) (hlast time) :).trans hres.2⟩

/-- A delay request that the module serves on a steady port is answered there. -/
theorem frameReceived_of_request (s : State) {p id : Nat} (hp : p < 4) {data : Bytes} (brs : Bool) (rx : RxBits) (hact : s.sbActive p = true)
    (htec : s.parN P.tec p ≤ 255) (hrec : s.parN P.rec p ≤ 127) (hroom : s.par P.rxFrames p < 4294967295) (hid : id < 0x20000000) (hcls : idClass id = 2)
    (hdet : idDetail id = 0) (hlen : data.length = 16) (hheld : s.held = true) (hdest : field data 0 2 = s.parN P.addrHeld) (hv : s.timeValid = true)
    (hserves : (s.par P.timeState = 4 ∧ p ∈ s.bcastPorts) ∨ (s.relaysOn p = true ∧ (s.sb p).stopped = false)) (hfree : entrySize 24 ≤ s.freeBytes (8 + p))
    (hsteady : 127 < s.parN P.tec p ↔ s.par P.sbState p = 3) :
    (frameReceived p 0 id brs false data rx s).Sends p
      ⟨s.nextTag, swarmId 6 2 (s.parN P.addrHeld) 1, s.now, some (s.now + 10000000), true, none, false, none⟩
      ⟨s.answerFrame data (idSource id) (2 * s.now - 25 * (s.rxCycles p brs rx : Nat)), swarmId 6 2 (s.parN P.addrHeld) 1, p, s.nextTag, [], s.now⟩ := by
  obtain ⟨flags, hx⟩ := frameReceived_of_data s hact id brs data rx
  rw [Nat.mod_eq_of_lt hid, List.take_of_length_le (by omega)] at hx
  obtain ⟨x, time, hxs, hd⟩ := (s.counted p brs rx).dataFrame_of_delay p id flags data (2 * s.now - 25 * (s.rxCycles p brs rx : Nat)) hcls
  rw [hx, hd]
  generalize (2 * s.now - 25 * (s.rxCycles p brs rx : Nat) : Int) = h
  have hc : x.CountedFrom s p := by
    obtain ⟨h1, h2, h3, h4, h5, h6⟩ := s.counted_of_steady brs rx hact htec hrec hroom hsteady
    rw [hxs]
    exact ⟨h1, h2, h3, h4, h5, h6⟩
  have free (n : Nat) (hn : 33100 ≤ n) : ¬ goodCount p n := by
    rintro (h | h | h) <;> omega
  have haddr : x.par P.addrState = s.par P.addrState := hc.par _ 0 (free 33539 (by omega))
  have hself : x.par P.addrHeld = s.par P.addrHeld := hc.par _ 0 (free 33540 (by omega))
  have hstate : x.par P.timeState = s.par P.timeState := hc.par _ 0 (free 33809 (by omega))
  have hselfN : x.parN P.addrHeld = s.parN P.addrHeld := (congrArg Int.toNat hself :)
  have hheld' : x.held = true := by
    unfold State.held at hheld ⊢
    rw [haddr]
    exact hheld
  have hv' : x.timeValid = true := by
    unfold State.timeValid at hv ⊢
    rw [hstate]
    exact hv
  obtain ⟨hports, hrelays⟩ := hc.serves hp
  have hserves' : (decide (x.par P.timeState = 4) && x.bcastPorts.contains p || x.relaysOn p && !(x.sb p).stopped) = true := by
    have hstopped : (x.sb p).stopped = (s.sb p).stopped := (congrArg SbPort.stopped hc.timing :)
    rw [hstate, hports, hrelays, hstopped]
    rcases hserves with ⟨h4, hm⟩ | ⟨hr, hs⟩
    · rw [h4, List.contains_iff_mem.mpr hm]
      rfl
    · rw [hr, hs]
      exact Bool.or_true _
  have hfree' : entrySize 24 ≤ x.freeBytes (8 + p) := by
    unfold State.freeBytes State.queue
    rw [hc.queues]
    exact hfree
  have hanswer : x.answerFrame data (idSource id) h = s.answerFrame data (idSource id) h := by
    have hbase : x.swarm.base = s.swarm.base := (congrArg Swarm.base hc.deaf :)
    have hat : x.swarm.baseAt = s.swarm.baseAt := (congrArg Swarm.baseAt hc.deaf :)
    have hrate : x.swarm.rate = s.swarm.rate := (congrArg Swarm.rate hc.deaf :)
    unfold State.answerFrame State.swarmAt
    rw [hbase, hat, hrate]
  have hsends := x.delayRequest_answers h hcls hdet (by omega) hheld' (hdest.trans hselfN.symm) hserves' hv' hfree'
  rw [hanswer, hselfN, hc.now, hc.nextTag] at hsends
  have hresponse (y : State) : y.delayResponse p id data h = y := by
    unfold State.delayResponse
    dsimp only
    split
    · exact if_neg (by rw [hdet]; rintro ⟨-, h, -⟩; cases h)
    · rfl
  rw [hresponse]
  exact (hsends.filterFrame hp ..).forwardBcast _ _ _ _ _ (by rw [hcls]; decide)

end Sys2Proof.Machine
end

section
/-! THEOREMS. Swarm time: the events of the clock, and the obligation. -/
namespace Sys2Proof.Machine

theorem State.clockJump_par (s : State) (q : Par) : s.clockJump.par q = s.par q :=
  (each_setSb (g := fun s => s.par q) (fun _ _ _ => rfl) _ _ _).trans rfl

theorem State.timeBegins_par (s : State) {q : Par} (h : q.pn 0 0 % 4096 ≠ 4) : s.timeBegins.par q = s.par q := by
  unfold State.timeBegins
  extract_lets _ s1 s2
  have h2 : s2.par q = s1.par q :=
    each_keeps (fun s => s.par q) _ (fun k s => s.par_setPar_other _ _ _ _ _ _ _ (by change 4100 + 4096 * k + 0 ≠ q.pn 0 0; omega)) _ _
  exact (each_setSb (g := fun s => s.par q) (fun _ _ _ => rfl) _ _ _).trans h2

theorem State.sendRefs_worse (s : State) : s.sendRefs.swarm.worse = s.swarm.worse :=
  BusBlind.sendRefs (g := fun s => s.swarm.worse) (busBlind_swarm.map Swarm.worse) (fun s p => incPar_keeps_of (g := fun s => s.swarm.worse) (fun _ _ _ => rfl) s _ p 0 1)
    (fun _ _ _ => rfl) (fun _ _ => rfl) (fun _ _ => rfl) s

/-- A delay request that is due goes out with the next number. -/
theorem delayRequestSend_of_due (s : State) (hheld : s.held = true) (hst : s.par P.timeState = 1 ∨ s.par P.timeState = 2)
    (hon : s.sbOn s.swarm.upstream = true) (hat : s.swarm.delayAt + s.parN P.delayInterval * 1000000 ≤ s.now) :
    let t := delayRequestSend s
    (t.sb s.swarm.upstream).delaySeq = ((s.sb s.swarm.upstream).delaySeq + 1) % 256 ∧ t.swarm.delayAt = s.now ∧ t.axes = s.axes := by
  unfold delayRequestSend
  extract_lets st p x q id data _ s1 t
  have ht : t = ((s1.setSb p { x with delaySeq := q, reqStamp := none }).queueFrame p id data true).forwardBcast p (s1.parN P.addrHeld / 128) id data true :=
    if_pos ⟨hheld, hst, hon, hat⟩
  have keep {β : Type} {g : State → β} (hg : BusBlind g) : g t = g (s1.setSb p { x with delaySeq := q, reqStamp := none }) := by
    rw [ht]
    exact (hg.forwardBcast ..).trans (hg.queueFrame ..)
  have hsb := keep (g := fun s => (s.sb p).core) (busBlind_sb p)
  have hsw := keep (g := fun s => s.swarm.core) busBlind_swarm
  have hax : t.axes = s.axes := by
    rw [ht]
    exact (axes_of_quiet ((State.forwardBcast_quiet ..).trans (State.queueFrame_quiet ..))).trans rfl
  clear_value t
  rw [State.sb_setSb_same] at hsb
  exact ⟨(congrArg SbPort.delaySeq hsb :), (congrArg Swarm.delayAt hsw :), hax⟩

/-- A port whose comb, where it runs one, is suspended. -/
def State.suspendPort (s : State) (p : Nat) : State := s.setSb p { s.sb p with suspended := bit (s.par P.combEn) p }

/-- Time lost suspends every port that runs a comb. -/
theorem State.suspendAll (s : State) (l : List Nat) : ((l.foldl State.suspendPort s).params = s.params ∧ (l.foldl State.suspendPort s).axes = s.axes) ∧
    ∀ q ∈ l, ((l.foldl State.suspendPort s).sb q).suspended = bit (s.par P.combEn) q := by
  refine foldl_gathers (f := State.suspendPort) (p := fun y : State => y.params = s.params ∧ y.axes = s.axes)
    (q := fun y q => (y.sb q).suspended = bit (s.par P.combEn) q) _ (fun y x hx hy => ⟨hy, ?_, fun z hz hq => ?_⟩) ⟨rfl, rfl⟩
  · unfold State.suspendPort
    rw [State.sb_setSb_same, State.par_congr hy.1]
  · unfold State.suspendPort
    rw [State.sb_setSb]
    split
    next he => rw [he, State.par_congr hy.1]
    next => exact hq

/-- Time that has held over too long is lost. -/
theorem timeLost_of_due (s : State) (hst : s.par P.timeState = 3) (hat : s.swarm.holdoverAt + s.parN P.holdoverMax * 1000000 ≤ s.now) :
    let t := timeLost s
    t.par P.timeState = 0 ∧ t.par P.timeSource = 0xFFFF ∧ t.parN P.timeMaster = 0xFFFF ∧ t.swarm.refs = [] ∧
      (∀ p, p < 4 → (t.sb p).suspended = bit (s.par P.combEn) p) ∧ t.axes = s.axes := by
  unfold timeLost
  rw [if_pos ⟨hst, hat⟩]
  extract_lets src s1 s2 _ s3 t
  have h1 : s1.par P.timeState = 0 ∧ s1.par P.combEn = s.par P.combEn ∧ s1.axes = s.axes :=
    ⟨(busBlind_timeState.busEvent ..).trans (State.par_setPar_same ..),
      (BusBlind.busEvent (g := fun s => s.par P.combEn) (busBlind_of_pn 33796 rfl (by omega)) ..).trans (State.par_setPar_other _ _ _ _ _ _ _ _ (by decide)),
      (axes_of_quiet (State.busEvent_quiet ..)).trans rfl⟩
  obtain ⟨hst1, hcomb1, hax1⟩ := h1
  have h2 : (s2.params = s1.params ∧ s2.axes = s1.axes) ∧ ∀ q ∈ upto 4, (s2.sb q).suspended = bit (s1.par P.combEn) q := s1.suspendAll (upto 4)
  obtain ⟨⟨hpar2, hax2⟩, hsus2⟩ := h2
  clear_value s1 s2
  have hpar3 : s3.params = s1.params := hpar2
  have hsus3 (q : Nat) (hq : q < 4) : (s3.sb q).suspended = bit (s.par P.combEn) q := (hsus2 q (List.mem_range.mpr hq)).trans (by rw [hcomb1])
  have hax3 : s3.axes = s.axes := hax2.trans hax1
  have hrefs3 : s3.swarm.refs = [] := rfl
  clear_value s3
  have hsw : t.swarm.core = s3.swarm.core := State.setMaster_swarm ..
  have hsb (q : Nat) : (t.sb q).core = (s3.sb q).core := by
    unfold t State.setMaster
    dsimp only
    split
    · rfl
    · exact (busBlind_sb q).busEvent ..
  have hst : t.par P.timeState = 0 := by
    refine (State.setMaster_par _ _ _ busBlind_timeState (by decide)).trans ?_
    refine (State.par_setPar_other _ _ _ _ _ _ _ _ (by decide)).trans ((State.par_setPar_other _ _ _ _ _ _ _ _ (by decide)).trans ?_)
    exact (State.par_congr hpar3 ..).trans hst1
  have hsrc : t.par P.timeSource = 0xFFFF :=
    (State.setMaster_par _ _ _ busBlind_timeSource (by decide)).trans ((State.par_setPar_other _ _ _ _ _ _ _ _ (by decide)).trans (State.par_setPar_same ..))
  have hmaster : t.parN P.timeMaster = 0xFFFF := State.setMaster_master ..
  have hax : t.axes = s.axes := (axes_of_quiet (State.setMaster_quiet ..)).trans hax3
  clear_value t
  exact ⟨hst, hsrc, hmaster, (congrArg Swarm.refs hsw :).trans hrefs3, fun q hq => (congrArg SbPort.suspended (hsb q) :).trans (hsus3 q hq), hax⟩

/-- A module that becomes time master is its own source. -/
theorem State.becomeMaster_regs (s : State) : s.becomeMaster.par P.timeState = 4 ∧ s.becomeMaster.parN P.timeSource = s.parN P.addrHeld ∧
    s.becomeMaster.par P.timeHops = 0 ∧ s.becomeMaster.parN P.timeMaster = s.parN P.addrHeld ∧ s.becomeMaster.swarm.worse = 0 ∧
    s.becomeMaster.axes = s.axes := by
  unfold State.becomeMaster
  extract_lets fresh s1 s2 s3 a _ s4
  have h1 : s1.par P.addrHeld = s.par P.addrHeld ∧ s1.axes = s.axes := by
    unfold s1
    split
    · exact ⟨State.par_setPar_other _ _ _ _ _ _ _ _ (by decide), rfl⟩
    · exact ⟨rfl, rfl⟩
  have h2 : s2.par P.timeState = 4 ∧ s2.par P.addrHeld = s1.par P.addrHeld ∧ s2.axes = s1.axes :=
    ⟨State.par_setPar_same .., State.par_setPar_other _ _ _ _ _ _ _ _ (by decide), rfl⟩
  clear_value s1 s2
  have hjump (q : Par) (h : q.pn 0 0 % 4096 ≠ 4) : s2.timeBegins.clockJump.par q = s2.par q :=
    (State.clockJump_par ..).trans (State.timeBegins_par _ h)
  have h3 : s3.par P.timeState = s2.par P.timeState ∧ s3.par P.addrHeld = s2.par P.addrHeld ∧ s3.axes = s2.axes := by
    unfold s3
    split
    · exact ⟨hjump _ (by decide), hjump _ (by decide), (wireBlind_axes.clockJump _).trans (wireBlind_axes.timeBegins _)⟩
    · exact ⟨rfl, rfl, rfl⟩
  have ha : a = s.parN P.addrHeld := (congrArg Int.toNat (h3.2.1.trans (h2.2.1.trans h1.1)) :)
  have h4 : s4.par P.timeState = 4 ∧ s4.swarm.worse = 0 ∧ s4.axes = s.axes := ⟨h3.1.trans h2.1, rfl, h3.2.2.trans (h2.2.2.trans h1.2)⟩
  clear_value s4 a
  subst ha
  obtain ⟨hst4, hworse4, hax4⟩ := h4
  generalize hx : (s4.setPar P.timeSource (s.parN P.addrHeld)).setPar P.timeHops 0 = x
  have hxst : x.par P.timeState = 4 :=
    hx ▸ (State.par_setPar_other _ _ _ _ _ _ _ _ (by decide)).trans ((State.par_setPar_other _ _ _ _ _ _ _ _ (by decide)).trans hst4)
  have hxsrc : x.par P.timeSource = s.parN P.addrHeld := hx ▸ (State.par_setPar_other _ _ _ _ _ _ _ _ (by decide)).trans (State.par_setPar_same ..)
  have hxhops : x.par P.timeHops = 0 := hx ▸ State.par_setPar_same ..
  have hxworse : x.swarm.worse = 0 := hx ▸ hworse4
  have hxax : x.axes = s.axes := hx ▸ hax4
  clear hx
  have hregs {q : Par} (n : Nat) (hn : q.pn 0 0 = n) (h : 33800 ≤ n ∧ n < 33817 ∧ n ≠ 33811) :
      (x.setMaster (s.parN P.addrHeld) (s4.parN P.tmRank)).sendRefs.par q = x.par q :=
    (State.sendRefs_par _ n hn (by omega)).trans (State.setMaster_par _ _ _ (busBlind_of_pn n hn (by omega)) (by rw [hn]; change 33811 ≠ n; omega))
  refine ⟨(hregs 33809 rfl (by omega)).trans hxst, (congrArg Int.toNat ((hregs (q := P.timeSource) 33812 rfl (by omega)).trans hxsrc) :),
    (hregs 33813 rfl (by omega)).trans hxhops, ?_, ?_, (State.sendRefs_axes _).trans ((axes_of_quiet (State.setMaster_quiet ..)).trans hxax)⟩
  · exact (congrArg Int.toNat (State.sendRefs_par _ (q := P.timeMaster) 33811 rfl (by omega)) :).trans (State.setMaster_master ..)
  · exact (State.sendRefs_worse _).trans ((congrArg Swarm.worse (State.setMaster_swarm ..) :).trans hxworse)

theorem swarmSecond_of_next (s : State) (hv : s.timeValid = true) (h : s.swarm.second < (s.swarmNow / 65536000000).toNat) :
    (swarmSecond s).swarm = { s.swarm with second := (s.swarmNow / 65536000000).toNat } ∧ (swarmSecond s).axes = s.axes := by
  unfold swarmSecond
  dsimp only
  rw [if_pos ⟨hv, h⟩]
  have key (x : State) (v : Int) : ((x.raiseLine 13).setPar P.hiveAtSecond v).swarm = x.swarm ∧ ((x.raiseLine 13).setPar P.hiveAtSecond v).axes = x.axes :=
    ⟨(State.setPar_swarm ..).trans (lineBlind_swarm.raiseLine x 13), (State.setPar_axes ..).trans (lineBlind_axes.raiseLine x 13)⟩
  exact key _ _

/-- A basic cycle without a time that waits. -/
theorem basicCycleStart_of_none (s : State) (hv : s.timeValid = true) (hc : s.swarm.cycleNo < s.cycleAt s.swarmNow) (hp : s.swarm.pendingSet = none) :
    (basicCycleStart s).swarm.cycleNo = s.cycleAt s.swarmNow ∧ (basicCycleStart s).swarm.stepWait = false ∧ (basicCycleStart s).axes = s.axes := by
  obtain ⟨x, -, hx, -, hcyc, hwait, hax⟩ := basicCycleStart_of_cycle s hv hc
  replace hx := hx hp
  have keep {β : Type} (f : Swarm → β) (hf : ∀ w c n, f { w with refCycle := c } = f w ∧ f { w with stepped := n } = f w) :
      f x.sendRefs.swarm.core = f x.swarm.core :=
    BusBlind.sendRefs (g := fun s => f s.swarm.core) (busBlind_swarm.map f) (fun s p => congrArg f (incPar_keeps_of (g := fun s => s.swarm.core) (fun _ _ _ => rfl) s _ p 0 1))
      (fun _ _ _ => rfl) (fun s c => (hf s.swarm.core c 0).1) (fun s n => (hf s.swarm.core none n).2) x
  rw [hx]
  exact ⟨(keep Swarm.cycleNo (fun _ _ _ => ⟨rfl, rfl⟩)).trans hcyc, (keep Swarm.stepWait (fun _ _ _ => ⟨rfl, rfl⟩)).trans hwait, x.sendRefs_axes.trans hax⟩

/-- A basic cycle in which a time that waited acts. -/
theorem basicCycleStart_of_some (s : State) {v : Nat} (hv : s.timeValid = true) (hc : s.swarm.cycleNo < s.cycleAt s.swarmNow)
    (hp : s.swarm.pendingSet = some v) :
    (basicCycleStart s).swarm.base = v * 65536 ∧ (basicCycleStart s).swarm.baseAt = s.now ∧ (basicCycleStart s).swarm.pendingSet = none ∧
      (basicCycleStart s).swarm.stepped = 16 ∧ (basicCycleStart s).axes = s.axes := by
  obtain ⟨x, hx, -, hnow, -, -, hax⟩ := basicCycleStart_of_cycle s hv hc
  replace hx := hx v hp
  have hjump (y : State) : y.clockJump.swarm.base = y.swarm.base ∧ y.clockJump.swarm.baseAt = y.swarm.baseAt :=
    ⟨(each_setSb (g := fun s => s.swarm.base) (fun _ _ _ => rfl) _ _ _).trans rfl, (each_setSb (g := fun s => s.swarm.baseAt) (fun _ _ _ => rfl) _ _ _).trans rfl⟩
  obtain ⟨hbase, hat⟩ := hjump (x.clockSet ((v : Int) * 65536) x.swarm.rate)
  have hset : (x.clockSet ((v : Int) * 65536) x.swarm.rate).axes = x.axes := rfl
  rw [hx]
  exact ⟨hbase, hat.trans hnow, rfl, rfl, (wireBlind_axes.clockJump _).trans (hset.trans hax)⟩

theorem State.answerFrame_take (s : State) (data : Bytes) (src : Nat) (h : Int) : (s.answerFrame data src h).take 14 =
    leBytes 2 src ++ leBytes 1 (field data 2 1) ++ leBytes 1 0 ++ stampBytes (s.swarmAt h) := by
  unfold State.answerFrame
  refine List.take_left' ?_
  simp [stampBytes]

/-- The walk through a frame's bits reads the port's timing alone. -/
theorem State.rxWalk_clock (s : State) (τ p : Nat) (bits : List (Bool × Bool)) (n : Nat) (es : List Nat) :
    (s.clock τ).rxWalk p bits n es = s.rxWalk p bits n es := by
  have hbit (b : Bool × Bool) (k : Nat) (o : Option Nat) : (s.clock τ).rxBit p b k o = s.rxBit p b k o := rfl
  induction bits generalizing n es with
  | nil => rfl
  | cons b bits ih =>
    unfold State.rxWalk
    simp only [hbit, ih]

/-- Settles O44: each message is taken on its port with its source's time, and each event of the clock leaves the state it names. -/
theorem swarmTime : Obligations.SwarmTime := by
  refine fun s0 τ => ⟨fun hv hc hp => ?_, fun v hv hc hp => ?_, fun p id rx data hp hact htec hrec hid hcls hmin hmax hseg haddr hst hrefs => ?_,
    fun p id rx data hcls => ?_, fun p id rx data hp hact htec hrec hroom hcls => ⟨fun hdet => ?_, ?_, ?_⟩, fun hheld hst hon hat => ?_, fun hst hat => ?_,
    fun hst hat => ?_, fun hpot hst hat => ?_, fun r hpot hst hf hk hw => ?_, fun v => ⟨fun h => ?_, fun h => ?_⟩, fun hv hs => ?_⟩
  all_goals have hτ : τ ≤ (s0.at τ).now := Nat.le_max_right ..
  · refine Does.of_answer rfl fun t ht => ?_
    rw [ht.swarm, ht.axes]
    exact basicCycleStart_of_none (s0.at τ) hv hc hp
  · refine Does.of_answer rfl fun t ht => ?_
    rw [ht.swarm, ht.axes]
    exact basicCycleStart_of_some (s0.at τ) hv hc hp
  · have hx := classReceived_of_class (detail := none) hcls (fun _ h => nomatch h) p data rx (s0.at τ)
    obtain ⟨h1, h2, h3, h4, h5⟩ := frameReceived_of_first (s0.at τ) hp (decide (0 < rx.fast)) rx hact htec hrec hid hcls hmin hmax hseg haddr hst hrefs
    refine Does.of_answer (congrArg (answer s0) hx) fun t ht => ?_
    rw [ht.par_eq, ht.parN_eq, ht.parN_eq, ht.parN_eq, ht.swarm, ht.axes]
    exact ⟨h1, h2, h3, h4, h5, frameReceived_axes (s0.at τ) hact ..⟩
  · exact Does.of_answer (congrArg (answer s0) (classReceived_of_other none hcls p data rx (s0.at τ))) fun t ht => ⟨ht.params, ht.swarm⟩
  · have hx := classReceived_of_class (detail := some 0) hcls (fun _ h => Option.some.inj h ▸ hdet) p data rx (s0.at τ)
    refine Does.of_answer (congrArg (answer s0) hx) fun t ht => ?_
    rw [ht.par_eq, ht.axes]
    exact frameReceived_counts (s0.at τ) hp hact hroom ..
  · intro hdet hid hlen hdest hheld hv hserves hfree hsteady
    have hx := classReceived_of_class (detail := some 0) hcls (fun _ h => Option.some.inj h ▸ hdet) p data rx (s0.at τ)
    obtain ⟨hframe, hentry⟩ := frameReceived_of_request (s0.at τ) hp (decide (0 < rx.fast)) rx hact htec hrec hroom hid hcls hdet hlen hheld hdest hv hserves hfree hsteady
    refine Does.of_answer (congrArg (answer s0) hx) fun t ht => ⟨⟨_, by rw [ht.sb_eq]; exact hframe, rfl, rfl, rfl, rfl, rfl⟩,
      ⟨_, by rw [ht.queue_eq]; exact hentry, rfl, State.answerFrame_length .., ?_⟩, by rw [ht.axes]; exact frameReceived_axes (s0.at τ) hact ..⟩
    have hcycles : (s0.at τ).rxCycles p (decide (0 < rx.fast)) rx = (s0.due τ).rxCycles p (decide (0 < rx.fast)) rx := State.rxWalk_clock ..
    refine ((s0.at τ).answerFrame_take data (idSource id) _).trans ?_
    rw [hcycles]
    rfl
  · intro tx hdet hid hmin hmax hheld hdest htx hseq hsrc hup
    have hx := classReceived_of_class (detail := some 1) hcls (fun _ h => Option.some.inj h ▸ hdet) p data rx (s0.at τ)
    obtain ⟨h1, h2⟩ := frameReceived_of_response (s0.at τ) hp (decide (0 < rx.fast)) rx hact htec hrec hid hcls hdet hmin hmax hheld hdest htx hseq hsrc hup
    refine Does.of_answer (congrArg (answer s0) hx) fun t ht => ?_
    rw [ht.sb_eq, ht.axes]
    exact ⟨h1, h2, frameReceived_axes (s0.at τ) hact ..⟩
  · refine Does.of_answer rfl fun t ht => ?_
    rw [ht.sb_eq, ht.swarm, ht.axes]
    exact delayRequestSend_of_due (s0.at τ) hheld hst hon (hat.trans hτ)
  · have hx : timeHoldover (s0.at τ) = _ := if_pos ⟨hst, hat.trans hτ⟩
    refine Does.of_answer (congrArg (answer s0) hx) fun t ht => ⟨?_, by rw [ht.swarm]; rfl, ht.queues, ht.axes⟩
    rw [ht.par_eq]
    exact State.par_setPar_same ..
  · refine Does.of_answer rfl fun t ht => ?_
    obtain ⟨h1, h2, h3, h4, h5, h6⟩ := timeLost_of_due (s0.at τ) hst (hat.trans hτ)
    rw [ht.par_eq, ht.par_eq, ht.parN_eq, ht.swarm, ht.axes]
    exact ⟨h1, h2, h3, h4, fun p hp => by rw [ht.sb_eq]; exact h5 p hp, h6⟩
  · have hv : (s0.at τ).timeValid = false := decide_eq_false (not_not_intro hst)
    have hx : becomeMasterEv (s0.at τ) = (s0.at τ).becomeMaster := by
      refine if_pos ⟨hpot, ?_, ?_⟩
      · change (s0.due τ).par P.timeState ≠ 4
        rw [hst]
        decide
      · rw [hv]
        exact hat.trans hτ
    obtain ⟨h1, h2, h3, h4, h5, h6⟩ := (s0.at τ).becomeMaster_regs
    refine Does.of_answer (congrArg (answer s0) hx) fun t ht => ?_
    rw [ht.par_eq, ht.parN_eq, ht.par_eq, ht.parN_eq, ht.axes]
    exact ⟨h1, h2, h3, h4, h6⟩
  · have hf' : (s0.at τ).followed = some r := hf
    have hx : masterByRank (s0.at τ) = (s0.at τ).becomeMaster := by
      unfold masterByRank
      dsimp only
      rw [hf']
      exact if_pos ⟨hpot, hst, hk, hw⟩
    obtain ⟨h1, h2, h3, h4, h5, h6⟩ := (s0.at τ).becomeMaster_regs
    refine Does.of_answer (congrArg (answer s0) hx) fun t ht => ?_
    rw [ht.par_eq, ht.parN_eq, ht.swarm, ht.axes]
    exact ⟨h1, h2, h5, h6⟩
  · have hx : timeSet v (s0.at τ) = _ := if_pos h
    exact Does.of_answer (congrArg (answer s0) hx) fun t ht => ⟨ht.swarm, ht.params⟩
  · have hx : timeSet v (s0.at τ) = _ := if_neg h
    exact Does.of_answer (congrArg (answer s0) hx) fun t ht => ⟨ht.swarm, ht.params⟩
  · refine Does.of_answer rfl fun t ht => ?_
    rw [ht.swarm, ht.axes]
    exact swarmSecond_of_next (s0.at τ) hv hs

end Sys2Proof.Machine
end

section
/-! # A load from a retained reply

The replies a session retains lie in working memory (R500), and a load of the Forager reads them there. -/
namespace Sys2Proof.Tests
open Sys2Proof.Machine

/-- The word of a SETX LOADM into X0. -/
def loadmWord : Nat := 0x50800000

/-- Channel 4 runs a SETX LOADM of the first word of working memory, where session 1 retains a reply. -/
def retainedLoad : State :=
  { (base.setPar P.fgState 1 4).lwrite 0x20094000 (leBytes 4 loadmWord ++ leBytes 4 0x200C0000) with
    sessions := [(1, { isOpen := true, retained := [{ seq := 0, packets := [[7#8, 0#8, 0#8, 0#8]], ptr := 0x200C0000 }] })] }

end Sys2Proof.Tests

namespace Sys2Proof.Machine
open Sys2Proof.Tests

theorem setxLoadm_reads_retained_reply :
    after (exec (.setxLoadm 0 4 []) retainedLoad) (fun t => decide (t.parN P.fgX 4 0 = 7)) = true := by
  decide +kernel

theorem retainedLoad_fgAt : (retainedLoad.due 0).FgAt 4 [] loadmWord 0x200C0000 where
  channel := by decide
  running := by decide +kernel
  idle := by decide +kernel
  granted := by decide +kernel
  room := by decide +kernel
  first := by decide +kernel
  second := by decide +kernel
  sound := by decide +kernel

/-- Refutes O46: its clause of SETX LOADM takes the bytes of the Larder's map alone, and a load from a retained reply reads the reply. -/
theorem not_foragerControl : ¬ Obligations.ForagerControl := by
  unfold Obligations.ForagerControl
  intro h
  obtain ⟨-, -, -, -, -, hsetx⟩ := h retainedLoad 0 4 loadmWord 0x200C0000 [] retainedLoad_fgAt
  obtain ⟨-, hplain⟩ := hsetx (by decide) (by decide)
  obtain ⟨-, -, hloadm, -⟩ := hplain (by decide)
  obtain ⟨t, ht, -, hx, -⟩ := hloadm (by decide) (by decide +kernel) (by decide +kernel) (by decide +kernel)
  have hseven : t.parN P.fgX 4 0 = 7 := of_decide_eq_true (of_after setxLoadm_reads_retained_reply ht)
  have hzero : leNat ((retainedLoad.due 0).lread 0x200C0000 4) = 0 := by decide +kernel
  have hregister : fbits loadmWord 27 25 = 0 := by decide
  rw [hzero, hregister, hseven] at hx
  cases hx

end Sys2Proof.Machine
end

section
/-! # A CRC and a Hallway read over a retained reply

Both read working memory as a load does: a retained reply in it hides the Larder's own bytes. -/
namespace Sys2Proof.Tests
open Sys2Proof.Machine

/-- Session 1 retains a reply at the first word of working memory. -/
def retainedReply : List (Nat × Session) :=
  [(1, { isOpen := true, retained := [{ seq := 0, packets := [[7#8, 0#8, 0#8, 0#8]], ptr := 0x200C0000 }] })]

/-- The word of a CRC of 4 bytes at X0 that starts afresh. -/
def crcWord : Nat := 0x70200004

/-- Channel 4 runs that CRC in TEST. -/
def retainedCrc : State :=
  { ((base.setPar P.fgState 1 4).setPar P.fgX 0x200C0000 4 0).lwrite 0x20094000 (leBytes 4 crcWord) with
    sessions := retainedReply, dev := { st := .test } }

/-- The device idles, and nothing but the reply is in working memory. -/
def retainedIdle : State := { base with sessions := retainedReply, dev := { st := .idle } }

end Sys2Proof.Tests

namespace Sys2Proof.Machine
open Sys2Proof.Tests

theorem crc_reads_retained_reply :
    after (exec (.crc 0 4 []) retainedCrc) (fun t => decide (t.par P.fgCrc 4 = crcRun 0xFFFFFFFF [7#8, 0#8, 0#8, 0#8])) = true := by
  decide +kernel

theorem retainedCrc_fgAt : (retainedCrc.due 0).FgAt 4 [] crcWord 0 where
  channel := by decide
  running := by decide +kernel
  idle := by decide +kernel
  granted := by decide +kernel
  room := by decide +kernel
  first := by decide +kernel
  second := by decide +kernel
  sound := by decide +kernel

theorem retainedCrc_larder_is_zero : crcRun 0xFFFFFFFF ((retainedCrc.due 0).lread 0x200C0000 4) ≠ crcRun 0xFFFFFFFF [7#8, 0#8, 0#8, 0#8] := by
  decide +kernel

/-- Refutes O47: its clause of CRC takes the bytes of the Larder's map alone, and a CRC over a retained reply runs over the reply. -/
theorem not_foragerTransfers : ¬ Obligations.ForagerTransfers := by
  unfold Obligations.ForagerTransfers
  intro h
  obtain ⟨-, -, -, -, -, -, hcrc⟩ := h retainedCrc 0 4 crcWord 0 [] retainedCrc_fgAt
  obtain ⟨-, htest⟩ := hcrc (by decide) (by decide) (by decide) (by decide)
  have hxs : (retainedCrc.due 0).parN P.fgX 4 (mvXs crcWord) = 0x200C0000 := by decide +kernel
  have hlen : min 256 (mvLen crcWord) = 4 := by decide
  rw [hxs, hlen] at htest
  obtain ⟨t, ht, hvalue, -⟩ := htest (by decide +kernel) (by decide) (by decide) (by decide) (by decide +kernel) (by decide +kernel) (by decide +kernel)
  have hreply : t.par P.fgCrc 4 = crcRun 0xFFFFFFFF [7#8, 0#8, 0#8, 0#8] := of_decide_eq_true (of_after crc_reads_retained_reply ht)
  exact retainedCrc_larder_is_zero (Int.ofNat.inj (hvalue.symm.trans hreply))

theorem hallwayRead_reads_retained_reply :
    after (exec (.hallwayAccess 0 0 0x200C0000 4 false [] []) retainedIdle) (fun t => decide (t.hallData = [7#8, 0#8, 0#8, 0#8])) = true := by
  decide +kernel

/-- Refutes O49: its clause of an allowed read takes the bytes of the Larder's map alone, and a read of a retained reply returns the reply. -/
theorem not_larderAndPantry : ¬ Obligations.LarderAndPantry := by
  unfold Obligations.LarderAndPantry
  intro h
  obtain ⟨-, -, hread, -⟩ := h retainedIdle 0
  obtain ⟨t, ht, hdata, -⟩ := hread 0 0x200C0000 4 (by decide +kernel) (by decide) (by decide +kernel) (by decide +kernel) (by decide +kernel) (by decide +kernel)
  have hreply : t.hallData = [7#8, 0#8, 0#8, 0#8] := of_decide_eq_true (of_after hallwayRead_reads_retained_reply ht)
  have hzero : (retainedIdle.due 0).lread 0x200C0000 4 = [0#8, 0#8, 0#8, 0#8] := by decide +kernel
  rw [hzero, hreply] at hdata
  exact absurd hdata (by decide)

end Sys2Proof.Machine
end

section
/-! # A wait that is repeated without a try

An axis waits again, with its tries as they were, where the causes that stand are those of the Cellar and of the Fanner alone (R61). -/
namespace Sys2Proof.Tests
open Sys2Proof.Machine

/-- Axis 0 waits in FAULT_WAIT. A self-test fault, whose cause is gone, and the cold plate's fault, whose cause stays, stand on it. -/
def coldRetry : State :=
  { (ax base 0 { st := .faultRetry }).setPar P.thCold 2 with
    standing := [{ code := 0x0107, axis := 0, path := "" }, { code := 0x0802, axis := 0, path := "" }] }

end Sys2Proof.Tests

namespace Sys2Proof.Machine
open Sys2Proof.Tests

theorem faultWaitExpired_repeats_wait :
    after (exec (.faultWaitExpired 1000000000000 0) coldRetry) (fun t => decide ((t.ax 0).tries = [])) = true := by
  decide +kernel

/-- Refutes O29: its clause of a try asks for a standing fault other than the Cellar's and the Fanner's, whose cause may be gone; the model
counts a try where the cause of such a fault stays. -/
theorem not_faultWaitEnds : ¬ Obligations.FaultWaitEnds := by
  unfold Obligations.FaultWaitEnds
  intro h
  obtain ⟨-, htry, -⟩ := h coldRetry 1000000000000 0 (by decide) (by decide +kernel) (by decide +kernel) (by decide +kernel)
  obtain ⟨-, hcounted⟩ := htry (by decide +kernel) (by decide +kernel) (by decide +kernel)
  obtain ⟨t, ht, hax, -⟩ := hcounted (by decide +kernel)
  have hnone : (t.ax 0).tries = [] := of_decide_eq_true (of_after faultWaitExpired_repeats_wait ht)
  rw [hax] at hnone
  cases hnone

end Sys2Proof.Machine
end

section
/-! # The gate of one channel, and placed edges (O23) -/
namespace Sys2Proof.Machine

theorem State.HeldSafe.setChan {s : State} {c : Nat} {x : Chan} (h : s.HeldSafe) (hx : s.heldOff (c / 2) = true → x.cmd = false) :
    (s.setChan c x).HeldSafe := by
  intro d hd hheld
  by_cases hdc : d = c
  · subst hdc
    rw [State.chan_setChan_same]
    exact hx hheld
  · rw [State.chan_setChan_other _ _ _ _ (Ne.symm hdc)]
    exact h d hd hheld

/-- What is left alone by a command on the channel `c`. -/
structure State.OneChannel (s t : State) (c : Nat) : Prop where
  others : ∀ d, d ≠ c → t.chan d = s.chan d
  axes : t.axes = s.axes
  standing : t.standing = s.standing
  cellar : t.cellar = s.cellar
  lanes : t.lanes = s.lanes

theorem State.heldOff_of_quiet {s t : State} (h : t.quiet = s.quiet) (g : Nat) : t.heldOff g = s.heldOff g :=
  (congrArg (fun x : State => x.heldOff g) h :)

theorem State.chan_of_quiet {s t : State} (h : t.quiet = s.quiet) (c : Nat) : t.chan c = s.chan c :=
  (congrArg (fun x : State => x.chan c) h :)

/-- A command that ends with the channel `c` put, and with counters and messages besides, leaves the rest alone: a put that no hold-off
forbids is not undone. -/
theorem Ends.put {s y t : State} {c : Nat} {x : Chan} (ht : Ends y t) (hy : y.quiet = (s.setChan c x).quiet) (hs : s.HeldSafe)
    (hx : s.heldOff (c / 2) = true → x.cmd = false) : t.chan c = x ∧ s.OneChannel t c := by
  have hput : (s.setChan c x).HeldSafe := hs.setChan hx
  have hsafe : y.HeldSafe := fun d hd hheld => by
    rw [State.chan_of_quiet hy]
    exact hput d hd (State.heldOff_of_quiet hy _ ▸ hheld)
  have hchan (d : Nat) : t.chan d = (s.setChan c x).chan d := by
    rw [← State.chan_of_quiet hy]
    exact congrArg (fun l => tget l ({} : Chan) d) (ht.chans_eq hsafe)
  refine ⟨(hchan c).trans (State.chan_setChan_same ..), fun d hd => (hchan d).trans (State.chan_setChan_other _ _ _ _ (Ne.symm hd)), ?_, ?_, ?_, ?_⟩
  · exact ht.axes.trans ((axes_of_quiet hy).trans rfl)
  · exact ht.standing.trans ((standing_of_quiet hy).trans rfl)
  · exact ht.cellar.trans (congrArg State.cellar hy :)
  · exact ht.lanes.trans (congrArg State.lanes hy :)

/-! ### The stages of a gate -/

theorem softOffLevelEnd_of_due {s : State} {c : Nat} (hc : c < 26) (hsoft : (s.chan c).soft = .level)
    (hdue : (s.chan c).softAt + s.cpN (c / 2) P.softTime * 100 ≤ s.now) :
    softOffLevelEnd c s = s.setChan c { s.chan c with soft := .sink, drive := .soft (s.cpN (c / 2) P.softSink) } :=
  if_pos ⟨hc, hsoft, hdue⟩

theorem gateOffDetected_of_off {s : State} {c : Nat} (hc : c < 26) (hon : (s.chan c).on = true) (hcmd : (s.chan c).cmd = false) :
    (gateOffDetected c s).quiet =
      (s.setChan c { (s.chan c).offStage s.now with on := false, offAt := s.now, clamp := true, soft := .none, ocTrip := false, drive := .clamp }).quiet := by
  have hdrive (x : Chan) (hx : x.on = false) (hs : x.soft = .none) : s.driveOf c x = .clamp := by
    simp [State.driveOf, hx, hs]
  unfold gateOffDetected
  extract_lets x o late _ s1
  rw [if_pos ⟨hc, hon, by rw [show x.cmd = false from hcmd]; decide⟩]
  have h1 : s1.quiet = _ := congrArg (fun d => (s.setChan c { x.offStage s.now with on := false, offAt := s.now, clamp := true, soft := .none, ocTrip := false, drive := d }).quiet) (hdrive _ rfl rfl)
  split
  · exact (s1.incPar_quiet P.ilkLateCount (c / 6) 0 1).trans h1
  · exact h1

theorem gateStageChange_of_plateau {s : State} {c : Nat} (hc : c < 26) (plateau : Nat) (hstage : (s.chan c).stage = .s1) (hsoft : (s.chan c).soft = .none)
    (hbefore : s.now < (s.chan c).cmdAt + s.cpN (c / 2) P.stageTmax) :
    gateStageChange c 0 plateau s = s.putChan c { s.chan c with stage := .s2, stageAt := s.now, platMiss := false } := by
  unfold gateStageChange
  dsimp only
  rw [if_neg (by rintro (h | h); exacts [absurd h (by omega), h hsoft]), hstage]
  exact if_pos hbefore

theorem deadTimeExpired_of_over {s : State} {c : Nat} (hc : c < 24) (hwait : (s.chan c).wait.isSome = true)
    (hoff : (s.chan (if c % 2 = 0 then c + 1 else c - 1)).on = false)
    (hdead : (s.chan (if c % 2 = 0 then c + 1 else c - 1)).offAt + s.gpN (c / 2) P.deadTime ≤ s.now) (hmay : s.refusesOn c = false) :
    deadTimeExpired c s = s.putChan c { s.chan c with on := true, wait := none, stage := .s1, stageAt := s.now, cmdAt := s.now, onAt := s.now } := by
  unfold deadTimeExpired
  dsimp only
  rw [if_pos ⟨hc, hwait, by rw [hoff]; decide, hdead⟩, if_neg (by rw [hmay]; decide)]

theorem State.heldOff_of_refusesOn {s : State} {c : Nat} (h : s.refusesOn c = false) : s.heldOff (c / 2) = false := by
  simp only [State.refusesOn, Bool.or_eq_false_iff] at h
  exact h.1.1.1

theorem Chan.offStage_cmd (x : Chan) (now : Nat) : (x.offStage now).cmd = x.cmd := by
  have hplateau (n : Nat) : (x.plateau n).cmd = x.cmd := by
    unfold Chan.plateau
    split <;> rfl
  unfold Chan.offStage
  split
  · rfl
  · split
    · exact hplateau _
    · exact hplateau _
    · rfl

theorem gateChannel : Parts.GateChannel := by
  unfold Parts.GateChannel
  intro s0 τ c s hs hc only
  have hτ : τ ≤ (s0.at τ).now := Nat.le_max_right ..
  have hs' : (s0.at τ).HeldSafe := hs
  have keeps {t : State} (h : (s0.at τ).OneChannel t c) : only t := ⟨h.others, h.axes, h.standing, h.cellar, h.lanes⟩
  have hcmd : s.heldOff (c / 2) = true → (s.chan c).cmd = false := hs c (by omega)
  refine ⟨fun hsoft hdue => ?_, fun hon hoff => ?_, fun plateau hstage hsoft hbefore => ?_, fun hwait hoff hdead hmay => ?_⟩
  · have hx : softOffLevelEnd c (s0.at τ) = _ := softOffLevelEnd_of_due (by omega) hsoft (Nat.le_trans hdue hτ)
    refine Does.of_answer (congrArg (answer s0) hx) fun t ht => ?_
    obtain ⟨hchan, hone⟩ := ht.put (s := s0.at τ) rfl hs' hcmd
    exact ⟨hchan, ht.params, keeps hone⟩
  · refine Does.of_answer rfl fun t ht => ?_
    obtain ⟨hchan, hone⟩ := ht.put (gateOffDetected_of_off (by omega) hon hoff) hs' fun _ => (Chan.offStage_cmd ..).trans hoff
    exact ⟨hchan, keeps hone⟩
  · have hx : gateStageChange c 0 plateau (s0.at τ) = _ := gateStageChange_of_plateau (by omega) plateau hstage hsoft hbefore
    refine Does.of_answer (congrArg (answer s0) hx) fun t ht => ?_
    obtain ⟨hchan, hone⟩ := ht.put (s := s0.at τ) rfl hs' hcmd
    rw [hchan]
    exact ⟨rfl, rfl, rfl, rfl, ht.params, keeps hone⟩
  · have hx : deadTimeExpired c (s0.at τ) = _ := deadTimeExpired_of_over hc hwait hoff (Nat.le_trans hdead hτ) hmay
    refine Does.of_answer (congrArg (answer s0) hx) fun t ht => ?_
    obtain ⟨hchan, hone⟩ := ht.put (s := s0.at τ) rfl hs' hcmd
    rw [hchan]
    exact ⟨rfl, rfl, rfl, rfl, rfl, ht.params, keeps hone⟩

/-! ### Placed edges -/

section
variable {s : State} {c k : Nat} (hc : c < 24) (haxis : s.axisOfBridge (c / 6) = some k) (hrun : (s.lane (s.laneOf k)).running = true)
  (hasc : (s.ax k).asc = false) (hforced : (s.ax k).forcedOff = false)
include hc haxis hrun hasc hforced

/-- An edge that the carrier and the words place acts on its channel. -/
theorem edgeAtGatePin_of_placed {on : Bool} (hplaced : s.edgePlaced (s.laneOf k) c on = true) :
    edgeAtGatePin c on s =
      if on then (if (s.chan (if c % 2 = 0 then c + 1 else c - 1)).cmd then s else s.turnOn c) else s.turnOff c := by
  unfold edgeAtGatePin
  rw [haxis]
  refine if_neg ?_
  simp [hrun, hasc, hforced, hplaced]
  omega

end

theorem State.turnOff_put (s : State) (c : Nat) : ∃ x : Chan, x.cmd = false ∧ x.wait = none ∧ s.turnOff c = s.setChan c x := by
  unfold State.turnOff
  dsimp only
  split
  · exact ⟨_, rfl, rfl, rfl⟩
  · exact ⟨_, rfl, rfl, rfl⟩

/-- A turn-on that nothing refuses, the partner off for the dead time, acts at once. -/
theorem State.turnOn_of_free {s : State} {c : Nat} (hc : c < 24) (hmay : s.refusesOn c = false) (hcmd : (s.chan c).cmd = false)
    (hoff : (s.chan (if c % 2 = 0 then c + 1 else c - 1)).on = false)
    (hdead : (s.chan (if c % 2 = 0 then c + 1 else c - 1)).offAt + s.gpN (c / 2) P.deadTime ≤ s.now) :
    s.turnOn c = s.putChan c { s.chan c with cmd := true, on := true, wait := none, clamp := false, stage := .s1, stageAt := s.now, cmdAt := s.now,
                                             onAt := s.now } := by
  unfold State.turnOn
  dsimp only
  rw [if_neg (by rw [hmay]; decide), if_neg (by rw [hcmd]; decide), if_neg (by omega), if_pos ⟨by rw [hoff]; rfl, hdead⟩]

theorem placedEdges : Parts.PlacedEdges := by
  unfold Parts.PlacedEdges
  intro s0 τ c k s hs hc haxis hrun hasc hforced o
  have hτ : τ ≤ (s0.at τ).now := Nat.le_max_right ..
  have hs' : (s0.at τ).HeldSafe := hs
  have edge {on : Bool} (h : (s0.at τ).edgePlaced ((s0.at τ).laneOf k) c on = true) := edgeAtGatePin_of_placed (s := s0.at τ) hc haxis hrun hasc hforced h
  refine ⟨fun hplaced => ?_, fun hplaced hcmd => ?_, fun hplaced hpartner hcmd hmay hoff hdead => ?_⟩
  · obtain ⟨x, hxcmd, hxwait, hx⟩ := (s0.at τ).turnOff_put c
    refine Does.of_answer (congrArg (answer s0) ((edge hplaced).trans hx)) fun t ht => ?_
    obtain ⟨hchan, hone⟩ := ht.put (s := s0.at τ) rfl hs' fun _ => hxcmd
    rw [hchan]
    exact ⟨hxcmd, hxwait, hone.others, hone.axes⟩
  · have hx : edgeAtGatePin c true (s0.at τ) = s0.at τ := (edge hplaced).trans (if_pos hcmd)
    exact Does.of_answer (congrArg (answer s0) hx) fun t ht => ⟨ht.chans_eq hs', ht.params, ht.axes⟩
  · have hx : edgeAtGatePin c true (s0.at τ) = _ :=
      (edge hplaced).trans ((if_neg fun h => Bool.false_ne_true (hpartner.symm.trans h)).trans
        (State.turnOn_of_free (s := s0.at τ) hc hmay hcmd hoff (Nat.le_trans hdead hτ)))
    refine Does.of_answer (congrArg (answer s0) hx) fun t ht => ?_
    obtain ⟨hchan, hone⟩ := ht.put (s := s0.at τ) rfl hs' fun h => absurd ((State.heldOff_of_refusesOn (s := s0.at τ) hmay).symm.trans h) (by decide)
    rw [hchan]
    exact ⟨rfl, rfl, rfl, hone.others, hone.axes⟩

/-- Settles O23, channel by channel: no hold-off undoes what a command puts there. -/
theorem gateEdges : Obligations.GateEdges := ⟨gateChannel, placedEdges⟩

end Sys2Proof.Machine
end

section
/-! # A status frame that takes up crossed commands

A frame that takes a channel into direct gating finds both of its inputs high, which is a cross command; the third within a millisecond is a
fault (Table 9.9). -/
namespace Sys2Proof.Tests
open Sys2Proof.Machine

/-- Bridge 0 of axis 0, which is READY, is gated directly, both pins of cell 0 are high, and the cell has two cross commands behind it. -/
def crossedPins : State :=
  { (ax wired 0 { st := .ready }).setPar P.dgEnable 1 with
    chans := [(hiCh 0, { dg := true }), (loCh 0, { dg := true })], cells := [(0, { linkUp := true, cross := [5, 6] })], cellar := { causes := [] } }

end Sys2Proof.Tests

namespace Sys2Proof.Machine
open Sys2Proof.Tests

theorem cellStatusFrame_latches_axis :
    after (exec (.cellStatusFrame 10 0 1500 1500 0) crossedPins) (fun t => decide ((t.ax 0).st = .faultLatched)) = true := by
  decide +kernel

/-- Refutes O24: its clause of a status frame says that no axis changes, and the frame that brings the third cross command within a
millisecond latches the axis of its bridge. -/
theorem not_gateCells : ¬ Obligations.GateCells := by
  unfold Obligations.GateCells
  rintro ⟨-, h⟩
  obtain ⟨hframe, -⟩ := h crossedPins 10
  obtain ⟨t, ht, -, -, haxes⟩ := hframe 0 1500 1500 0 (by decide) (by decide +kernel)
  have hlatched : (t.ax 0).st = .faultLatched := of_decide_eq_true (of_after cellStatusFrame_latches_axis ht)
  have hready : ((crossedPins.due 10).ax 0).st ≠ .faultLatched := by decide +kernel
  exact hready ((congrArg (fun l => (tget l ({} : Axis) 0).st) haxes).symm.trans hlatched)

end Sys2Proof.Machine
end

section
/-! # A MEM_DATA read of a retained reply

The Porch reads working memory as the Hallway does, and finds the reply that a session retains there. -/
namespace Sys2Proof.Tests
open Sys2Proof.Machine

/-- An unlocked Porch is about to read the first word of working memory, where session 1 retains a reply. -/
def retainedPorch : State := { retainedIdle with porch := { unlocked := true, memAddr := 0x200C0000 } }

end Sys2Proof.Tests

namespace Sys2Proof.Machine
open Sys2Proof.Tests

theorem memData_reads_retained_reply : after (exec (.memData 0 false 0 false) retainedPorch) (fun t => decide (t.porch.rdata = 7)) = true := by
  decide +kernel

/-- Refutes O51: its clause of a MEM_DATA read takes the bytes of the Larder's map alone, and a read of a retained reply returns the reply. -/
theorem not_porchTransactions : ¬ Obligations.PorchTransactions := by
  unfold Obligations.PorchTransactions
  intro h
  obtain ⟨-, -, -, hmem, -⟩ := h retainedPorch 0 (by decide +kernel)
  obtain ⟨hread, -⟩ := hmem (by decide +kernel) (by decide +kernel) (by decide +kernel)
  obtain ⟨t, ht, -, -, -, hdata⟩ := hread 0
  have hseven : t.porch.rdata = 7 := of_decide_eq_true (of_after memData_reads_retained_reply ht)
  have hzero : leNat ((retainedPorch.due 0).lread (retainedPorch.due 0).porch.memAddr 4) = 0 := by decide +kernel
  rw [hdata (by decide +kernel), hzero] at hseven
  cases hseven

end Sys2Proof.Machine
end

section
/-! # Porch: lock, halts, breakpoints and watchpoints (O52) -/
namespace Sys2Proof.Machine

/-! ### Transactions of the lock and halt registers -/

theorem State.good_lock {s y : State} (h : s.answers = true) {v : Nat} (hv : v < 2 ^ 32) (hy : s.lockCmd v = y) :
    s.good 0 true 2 v = y.porchSay porchOk := by
  subst hy
  have hon : s.porchOn = true := h
  have hv' : v % 4294967296 = v := Nat.mod_eq_of_lt hv
  simp [State.good, State.transact, hon, State.porchAccess, State.controlWrite, hv', State.pOk, porchOk, porchReject]

theorem State.good_halt {s y : State} (h : s.answers = true) (hu : s.porch.unlocked = true) {v : Nat} (hv : v < 2 ^ 32) (hy : s.haltCtrl v = y) :
    s.good 0 true 0x20 v = y.porchSay porchOk := by
  subst hy
  have hon : s.porchOn = true := h
  have hv' : v % 4294967296 = v := Nat.mod_eq_of_lt hv
  simp [State.good, State.transact, hon, State.porchAccess, State.controlWrite, hv', State.pOk, porchOk, porchReject, hu]

theorem State.good_halt_locked {s : State} (h : s.answers = true) (hu : s.porch.unlocked = false) (v : Nat) :
    s.good 0 true 0x20 v = s.porchSay porchLocked := by
  have hon : s.porchOn = true := h
  simp [State.good, State.transact, hon, State.porchAccess, State.controlWrite, State.pNo, porchOk, porchReject, porchLocked, hu]

/-- A transaction that ends with its answer leaves the rest as its access made it. -/
theorem Ends.said {y t : State} {c : Nat} (h : Ends (y.porchSay c) t) :
    t.porch = { y.porch with status := c, rdata := 0 } ∧ t.params = y.params ∧ t.axes = y.axes ∧ t.cellar = y.cellar ∧ t.dev = y.dev ∧
      t.standing = y.standing :=
  ⟨h.porch, h.params, h.axes, h.cellar, h.dev, h.standing⟩

theorem State.pair_congr {s t : State} (h : t.dev = s.dev) (p : Nat) : t.pair p = s.pair p := by
  rw [State.pair, State.pair, h]

/-! ### What is drawn, refused and set -/

theorem State.drawRegs_keeps {β : Type} (g : State → β) (hfree : ∀ (s : State) (n : Nat), g { s with free := n } = g s) (s : State) :
    g s.drawRegs.2 = g s := by
  have go (l : List Nat) (a : CoreRegs × State) (ha : g a.2 = g s) :
      g (l.foldl (fun a k => let d := a.2.draw 32; ({ regs := a.1.regs ++ [(k, d.1)] }, d.2)) a).2 = g s := by
    induction l generalizing a with
    | nil => exact ha
    | cons k l ih => exact ih _ ((hfree a.2 _).trans ha)
  exact go _ _ rfl

theorem State.porchBit_set (s : State) (k : Nat) : (s.porchBit k).porch.stat / 2 ^ k % 2 = 1 := by
  unfold State.porchBit
  dsimp only
  split
  · assumption
  next h =>
    rw [Nat.add_div_right _ (Nat.two_pow_pos k)]
    omega

theorem State.incPar_porch (s : State) (p : Par) (i j n : Nat) : (s.incPar p i j n).porch = s.porch :=
  State.incPar_keeps (g := State.porch) (fun _ _ => rfl) p i j (fun _ _ => rfl) s n

theorem State.incPar_axes (s : State) (p : Par) (i j n : Nat) : (s.incPar p i j n).axes = s.axes :=
  State.incPar_keeps (g := State.axes) (fun _ _ => rfl) p i j (fun _ _ => rfl) s n

theorem State.resume_none {s : State} (h : s.porch.halt = .none) : s.resume = s := by
  unfold State.resume
  rw [h]

theorem State.setPair_porch (s : State) (p : Nat) (x : Pair) : (s.setPair p x).porch = s.porch := by
  unfold State.setPair
  split <;> rfl

theorem State.setPair_axes (s : State) (p : Nat) (x : Pair) : (s.setPair p x).axes = s.axes := by
  unfold State.setPair
  split <;> rfl

theorem State.resume_live {s : State} (h : s.porch.halt = .live) :
    s.resume.porch.halt = .none ∧ s.resume.porch.resync = true ∧ (s.resume.pair s.standby).live = false ∧ s.resume.axes = s.axes := by
  unfold State.resume
  rw [h]
  exact ⟨rfl, rfl, (congrArg Pair.live (State.pair_setPair_same s s.standby _) :), State.setPair_axes ..⟩

theorem State.shiftTimers_stands (s : State) (d code inst : Nat) : (s.shiftTimers d).stands code inst = s.stands code inst := by
  unfold State.stands State.shiftTimers
  exact List.any_map

/-- A full halt that owes nothing ends with the house cores' times shifted. -/
theorem State.resume_full {s : State} (h : s.porch.halt = .full) (hl : s.porch.later = []) :
    s.resume.porch.halt = .none ∧ s.resume.porch.haltCause = 0 ∧ s.resume.cellar = s.cellar ∧
      ∀ code inst, s.resume.stands code inst = s.stands code inst := by
  unfold State.resume
  rw [h]
  dsimp only
  rw [show (s.shiftTimers (s.now - s.porch.haltAt)).porch.later = [] from hl]
  exact ⟨rfl, rfl, rfl, fun code inst => s.shiftTimers_stands _ code inst⟩

/-! ### The lock -/

section
variable {s : State}

theorem State.newChallenge_draws (hl : s.lockActs = true) (hb : s.porch.blockedTill = none) :
    s.newChallenge.porch.current = true ∧ s.newChallenge.porch.challenge.length = 16 ∧ s.newChallenge.params = s.params := by
  unfold State.newChallenge
  simp [hl, hb, leBytes_length]
  rfl

theorem State.verify_begins (hl : s.lockActs = true) (hc : s.porch.current = true) (hv : s.porch.verifying = false) :
    s.verify.porch.verifying = true ∧ s.verify.porch.current = false ∧ s.verify.porch.unlocked = s.porch.unlocked ∧ s.verify.params = s.params := by
  unfold State.verify
  simp [hl, hc, hv]

theorem porchVerifyDone_opens (hv : s.porch.verifying = true) (hk : s.porch.keyOk = true) (hroom : s.par P.porchUnlocks < 4294967295) :
    (porchVerifyDone true s).porch.verifying = false ∧ (porchVerifyDone true s).porch.unlocked = true ∧
      (porchVerifyDone true s).par P.porchUnlocks = s.par P.porchUnlocks + 1 := by
  have hx : porchVerifyDone true s = ({ s with porch := { s.porch with verifying := false, unlocked := true } } : State).incPar P.porchUnlocks := by
    unfold porchVerifyDone
    simp [hv, hk]
  rw [hx, State.incPar_porch]
  exact ⟨rfl, rfl, State.par_incPar_same (s := { s with porch := { s.porch with verifying := false, unlocked := true } }) hroom⟩

theorem porchVerifyDone_blocks (hv : s.porch.verifying = true) :
    (porchVerifyDone false s).porch.verifying = false ∧ (porchVerifyDone false s).porch.unlocked = s.porch.unlocked ∧
      (porchVerifyDone false s).porch.blockedTill = some (s.now + 1000000000) ∧
      (porchVerifyDone false s).par P.porchFails = min 8 (s.par P.porchFails + 1) ∧
      (7 ≤ s.par P.porchFails → (porchVerifyDone false s).porch.lockout = true) := by
  have hfails : (({ s with porch := { s.porch with verifying := false } } : State).incSat P.porchFails 8).par P.porchFails = min 8 (s.par P.porchFails + 1) :=
    State.par_setPar_same ..
  have hx : porchVerifyDone false s =
      let t := ({ s with porch := { s.porch with verifying := false } } : State).incSat P.porchFails 8
      { t with porch := { t.porch with blockedTill := some (t.now + 1000000000), lockout := t.porch.lockout || decide (8 ≤ t.par P.porchFails) } } := by
    unfold porchVerifyDone
    simp [hv]
  rw [hx]
  refine ⟨rfl, rfl, rfl, hfails, fun h => ?_⟩
  dsimp only
  rw [hfails, decide_eq_true (by omega : (8 : Int) ≤ min 8 (s.par P.porchFails + 1)), Bool.or_true]

theorem tget_cleared_even (m : Tab Nat) (k : Nat) : tget (m.map fun e => (e.1, e.2 / 2 * 2)) 0 k % 2 = 0 := by
  induction m with
  | nil => rfl
  | cons e m ih =>
    simp only [List.map_cons, tget]
    split
    · omega
    · exact ih

theorem State.relock_unhalted (hl : s.lockActs = true) (hh : s.porch.halt = .none) :
    s.relock.porch.unlocked = false ∧ s.relock.porch.halt = .none ∧ s.relock.porch.snapCount = 0 ∧ (∀ k, tget s.relock.porch.bps 0 k % 2 = 0) ∧
      s.relock.params = s.params := by
  unfold State.relock
  rw [State.resume_none hh, if_neg (by rw [hl]; decide)]
  exact ⟨rfl, hh, rfl, fun k => tget_cleared_even s.porch.bps k, rfl⟩

/-! ### Halts -/

theorem State.halted_spec (s : State) (cause : Nat) :
    (s.halted cause).porch.halt = .full ∧ (s.halted cause).porch.haltAt = s.now ∧ (s.halted cause).porch.haltCause = cause ∧ (s.halted cause).axes = s.axes :=
  ⟨rfl, rfl, rfl, s.drawRegs_keeps State.axes fun _ _ => rfl⟩

theorem State.liveHalt_spec (hf : s.firmware = true) (hh : s.porch.halt = .none) (hs : s.standbyOk = true) :
    s.liveHalt.porch.halt = .live ∧ s.liveHalt.porch.haltCause = 1 ∧ (s.liveHalt.pair s.standby).synced = false ∧ s.liveHalt.axes = s.axes := by
  have hstandby : s.drawRegs.2.standby = s.standby := s.drawRegs_keeps State.standby fun _ _ => rfl
  have haxes : s.drawRegs.2.axes = s.axes := s.drawRegs_keeps State.axes fun _ _ => rfl
  unfold State.liveHalt
  rw [if_pos ⟨hf, hh, hs⟩]
  generalize s.drawRegs = d at hstandby haxes
  extract_lets x y
  refine ⟨rfl, rfl, ?_, (State.setPair_axes ..).trans haxes⟩
  rw [← hstandby]
  exact (congrArg Pair.synced (State.pair_setPair_same d.2 d.2.standby _) :)

theorem State.stepRequest_full (hh : s.porch.halt = .full) :
    s.stepRequest.porch.halt = .full ∧ s.stepRequest.porch.haltCause = 2 ∧ s.stepRequest.axes = s.axes := by
  have hporch : s.drawRegs.2.porch = s.porch := s.drawRegs_keeps State.porch fun _ _ => rfl
  have haxes : s.drawRegs.2.axes = s.axes := s.drawRegs_keeps State.axes fun _ _ => rfl
  unfold State.stepRequest
  rw [if_pos hh]
  exact ⟨(congrArg Porch.halt hporch).trans hh, rfl, haxes⟩

/-- A breakpoint that is on halts where a full halt is allowed, at its address. -/
theorem breakpointHit_spec {k : Nat} (hk : k < 8) (hon : tget s.porch.bps 0 k % 2 = 1) (hu : s.porch.unlocked = true) (ha : s.haltAllowed = true) :
    (breakpointHit k s).porch.halt = .full ∧ (breakpointHit k s).porch.haltCause = 3 + 16 * k ∧
      tget (breakpointHit k s).porch.haltRegs.regs 0 32 = tget s.porch.bps 0 k / 4 * 4 ∧ (breakpointHit k s).axes = s.axes := by
  have hparts := ha
  simp only [State.haltAllowed, Bool.and_eq_true, decide_eq_true_eq] at hparts
  obtain ⟨⟨⟨hserving, hnone⟩, -⟩, -⟩ := hparts
  have hwatched : s.watched = true := by rw [State.watched, hu, hserving]; rfl
  obtain ⟨hfull, -, hcause, haxes⟩ := s.halted_spec (3 + 16 * k)
  unfold breakpointHit
  dsimp only
  rw [if_neg (by rintro (h | h | h); exacts [absurd h (by omega), absurd h (by omega), h hu]), if_neg (by rw [hnone]; rintro ⟨h, -⟩; cases h), if_pos hwatched]
  unfold State.hit
  rw [if_pos ha]
  generalize s.halted (3 + 16 * k) = y at hfull hcause haxes
  exact ⟨hfull, hcause, tget_tset_same .., haxes⟩

/-- A watchpoint that matches where no full halt is allowed takes a snapshot, the first since its clear. -/
theorem watchpointHit_spec {k a : Nat} (hk : k < 4) (hu : s.porch.unlocked = true) (hserving : s.serving = true) (ha : s.haltAllowed = false)
    (hon : tget s.porch.wpCtrl 0 k % 2 = 1) (hlo : 2 ≤ tget s.porch.wpCtrl 0 k / 16) (hhi : tget s.porch.wpCtrl 0 k / 16 ≤ 12)
    (hmatch : a / 2 ^ (tget s.porch.wpCtrl 0 k / 16) = tget s.porch.wpAddr 0 k / 2 ^ (tget s.porch.wpCtrl 0 k / 16)) (hin : inLarder a = true)
    (hclear : s.porch.stat / 32 % 2 = 0) :
    (watchpointHit k a false s).porch.stat / 32 % 2 = 1 ∧ (watchpointHit k a false s).porch.snapCount = 1 ∧
      (watchpointHit k a false s).porch.snapCause = 4 + 16 * k ∧ (watchpointHit k a false s).porch.halt = s.porch.halt ∧
        (watchpointHit k a false s).axes = s.axes := by
  have hwatched : s.watched = true := by rw [State.watched, hu, hserving]; rfl
  have hhit : watchpointHit k a false s = s.hit (4 + 16 * k) none := by
    unfold watchpointHit
    refine if_neg ?_
    simp [hwatched, hin, hmatch, hon]
    omega
  have hporch : s.drawRegs.2.porch = s.porch := s.drawRegs_keeps State.porch fun _ _ => rfl
  have haxes : s.drawRegs.2.axes = s.axes := s.drawRegs_keeps State.axes fun _ _ => rfl
  rw [hhit]
  unfold State.hit
  rw [if_neg (by rw [ha]; decide), if_neg (by omega)]
  generalize s.drawRegs = d at hporch haxes
  extract_lets _ x pc y
  have hy : y.porch = (x.porchBit 5).porch := State.incPar_porch ..
  have hstat : y.porch.stat / 32 % 2 = 1 := by
    rw [hy]
    exact x.porchBit_set 5
  have hhalt : y.porch.halt = s.porch.halt := by
    rw [hy]
    have hbit : (x.porchBit 5).porch.halt = x.porch.halt := rfl
    exact hbit.trans (congrArg Porch.halt hporch)
  have hyaxes : y.axes = s.axes := (State.incPar_axes ..).trans haxes
  clear_value y
  exact ⟨hstat, rfl, rfl, hhalt, hyaxes⟩

/-- The standby that has resynchronised runs again (R700). -/
theorem standbyResynced_spec (hr : s.porch.resync = true) (hl : (s.pair s.active).live = true) :
    (standbyResynced s).porch.resync = false ∧ ((standbyResynced s).pair s.standby).live = true ∧ ((standbyResynced s).pair s.standby).synced = true := by
  unfold standbyResynced
  rw [if_pos ⟨hr, hl⟩]
  refine ⟨rfl, ?_, ?_⟩
  · exact (congrArg Pair.live (State.pair_setPair_same s s.standby _) :)
  · exact (congrArg Pair.synced (State.pair_setPair_same s s.standby _) :)

theorem challengeBlockEnd_of_due {u : Nat} (hb : s.porch.blockedTill = some u) (hu : u ≤ s.now) :
    challengeBlockEnd s = { s with porch := { s.porch with blockedTill := none } } := by
  unfold challengeBlockEnd
  rw [hb]
  exact if_pos hu

end

theorem breakpointHit_does {s0 : State} {τ k : Nat} (hk : k < 8) (hon : tget (s0.at τ).porch.bps 0 k % 2 = 1) (hu : (s0.at τ).porch.unlocked = true)
    (ha : (s0.at τ).haltAllowed = true) :
    Does (.breakpointHit τ k) s0 fun t => t.porch.halt = .full ∧ t.porch.haltCause = 3 + 16 * k ∧
      tget t.porch.haltRegs.regs 0 32 = tget (s0.at τ).porch.bps 0 k / 4 * 4 ∧ t.axes = (s0.at τ).axes := by
  refine Does.of_answer rfl fun t ht => ?_
  rw [ht.porch, ht.axes]
  exact breakpointHit_spec hk hon hu ha

theorem watchpointHit_does {s0 : State} {τ k a : Nat} (hk : k < 4) (hu : (s0.at τ).porch.unlocked = true) (hserving : (s0.at τ).serving = true)
    (ha : (s0.at τ).haltAllowed = false) (hon : tget (s0.at τ).porch.wpCtrl 0 k % 2 = 1) (hlo : 2 ≤ tget (s0.at τ).porch.wpCtrl 0 k / 16)
    (hhi : tget (s0.at τ).porch.wpCtrl 0 k / 16 ≤ 12)
    (hmatch : a / 2 ^ (tget (s0.at τ).porch.wpCtrl 0 k / 16) = tget (s0.at τ).porch.wpAddr 0 k / 2 ^ (tget (s0.at τ).porch.wpCtrl 0 k / 16))
    (hin : inLarder a = true) (hclear : (s0.at τ).porch.stat / 32 % 2 = 0) :
    Does (.watchpointHit τ k a false) s0 fun t => t.porch.stat / 32 % 2 = 1 ∧ t.porch.snapCount = 1 ∧ t.porch.snapCause = 4 + 16 * k ∧
      t.porch.halt = (s0.at τ).porch.halt ∧ t.axes = (s0.at τ).axes := by
  refine Does.of_answer rfl fun t ht => ?_
  rw [ht.porch, ht.axes]
  exact watchpointHit_spec hk hu hserving ha hon hlo hhi hmatch hin hclear

/-- Settles O52: each register of the lock and of the halts does what its command does, with the answer of the Porch besides. -/
theorem porchLockAndHalts : Obligations.PorchLockAndHalts := by
  unfold Obligations.PorchLockAndHalts
  intro s0 τ s hs
  have hτ : τ ≤ (s0.at τ).now := Nat.le_max_right ..
  have hs' : (s0.at τ).answers = true := hs
  have hporch : (s0.at τ).porch = s.porch := rfl
  have lock {y : State} {v : Nat} (hv : v < 2 ^ 32) (hy : (s0.at τ).lockCmd v = y) := State.good_lock hs' hv hy
  have halt {y : State} (hu : (s0.at τ).porch.unlocked = true) {v : Nat} (hv : v < 2 ^ 32) (hy : (s0.at τ).haltCtrl v = y) := State.good_halt hs' hu hv hy
  refine ⟨fun hl hb => ?_, fun hl hc hv => ?_, fun hv hk hroom => ?_, fun hv => ?_, fun u hb hu => ?_, fun hl hh => ?_, fun hu => ⟨fun ha => ?_, fun ha => ?_,
    fun hf hh hst => ?_, fun hh => ?_, fun hh hlater => ?_, fun hh => ?_, fun hh => ?_⟩, fun hu => ⟨?_, ?_, ?_, ?_⟩, fun hr hl => ?_,
    fun k hk hon hu ha => ?_, fun k a hk hu hserving ha hon hlo hhi hmatch hin hclear => ?_⟩
  · refine Does.of_answer (congrArg (answer s0) (lock (v := 1) (by decide) rfl)) fun t ht => ?_
    obtain ⟨hporch, hparams, -⟩ := ht.said
    obtain ⟨h1, h2, h3⟩ := State.newChallenge_draws (s := s0.at τ) hl hb
    rw [hporch, hparams]
    exact ⟨h1, h2, rfl, h3⟩
  · refine Does.of_answer (congrArg (answer s0) (lock (v := 2) (by decide) rfl)) fun t ht => ?_
    obtain ⟨hporch, hparams, -⟩ := ht.said
    rw [hporch, hparams]
    exact State.verify_begins (s := s0.at τ) hl hc hv
  · refine Does.of_answer rfl fun t ht => ?_
    rw [ht.porch, ht.par_eq]
    exact porchVerifyDone_opens (s := s0.at τ) hv hk hroom
  · refine Does.of_answer rfl fun t ht => ?_
    rw [ht.porch, ht.par_eq]
    exact porchVerifyDone_blocks (s := s0.at τ) hv
  · refine Does.of_answer (congrArg (answer s0) (challengeBlockEnd_of_due (s := s0.at τ) hb (Nat.le_trans hu hτ))) fun t ht => ?_
    exact ⟨ht.porch, ht.params⟩
  · refine Does.of_answer (congrArg (answer s0) (lock (v := 3) (by decide) rfl)) fun t ht => ?_
    obtain ⟨hporch, hparams, -⟩ := ht.said
    rw [hporch, hparams]
    exact State.relock_unhalted (s := s0.at τ) hl hh
  · have hx : (s0.at τ).haltCtrl 1 = (s0.at τ).halted 1 := if_pos ha
    refine Does.of_answer (congrArg (answer s0) (halt hu (by decide) hx)) fun t ht => ?_
    obtain ⟨hporch, -, haxes, -⟩ := ht.said
    obtain ⟨h1, h2, h3, h4⟩ := (s0.at τ).halted_spec 1
    rw [hporch, haxes]
    exact ⟨h1, h2, h3, rfl, h4⟩
  · have hx : (s0.at τ).haltCtrl 1 = (s0.at τ).refused := if_neg (fun h => Bool.false_ne_true (ha.symm.trans h))
    refine Does.of_answer (congrArg (answer s0) (halt hu (by decide) hx)) fun t ht => ?_
    obtain ⟨hporch, -, haxes, -⟩ := ht.said
    rw [hporch, haxes]
    exact ⟨rfl, (s0.at τ).porchBit_set 7, rfl⟩
  · refine Does.of_answer (congrArg (answer s0) (halt hu (v := 2) (by decide) rfl)) fun t ht => ?_
    obtain ⟨hporch, -, haxes, -, hdev, -⟩ := ht.said
    rw [hporch, haxes, State.pair_congr hdev]
    exact State.liveHalt_spec (s := s0.at τ) hf hh hst
  · have hx : (s0.at τ).haltCtrl 3 = (s0.at τ).resume := if_neg (by rw [show (s0.at τ).porch.halt = _ from hh]; decide)
    refine Does.of_answer (congrArg (answer s0) (halt hu (by decide) hx)) fun t ht => ?_
    obtain ⟨hporch, -, haxes, -, hdev, -⟩ := ht.said
    rw [hporch, haxes, State.pair_congr hdev]
    exact State.resume_live (s := s0.at τ) hh
  · have hx : (s0.at τ).haltCtrl 3 = (s0.at τ).resume := if_neg (by rw [show (s0.at τ).porch.halt = _ from hh]; decide)
    refine Does.of_answer (congrArg (answer s0) (halt hu (by decide) hx)) fun t ht => ?_
    obtain ⟨hporch, -, -, hcellar, -, hstanding⟩ := ht.said
    obtain ⟨h1, h2, h3, h4⟩ := State.resume_full (s := s0.at τ) hh hlater
    rw [hporch, hcellar]
    exact ⟨h1, h2, h3, fun code inst => (stands_congr hstanding code inst).trans (h4 code inst)⟩
  · refine Does.of_answer (congrArg (answer s0) (halt hu (v := 4) (by decide) rfl)) fun t ht => ?_
    obtain ⟨hporch, -, haxes, -⟩ := ht.said
    rw [hporch, haxes]
    exact State.stepRequest_full (s := s0.at τ) hh
  · have hx : (s0.at τ).haltCtrl 4 = (s0.at τ).refused := if_neg hh
    refine Does.of_answer (congrArg (answer s0) (halt hu (by decide) hx)) fun t ht => ?_
    obtain ⟨hporch, -⟩ := ht.said
    rw [hporch]
    exact ⟨rfl, (s0.at τ).porchBit_set 7⟩
  · exact Does.of_answer (congrArg (answer s0) (State.good_halt_locked hs' hu 1)) fun t ht => by rw [ht.porch]; exact ⟨rfl, rfl⟩
  · exact Does.of_answer (congrArg (answer s0) (State.good_halt_locked hs' hu 2)) fun t ht => by rw [ht.porch]; exact ⟨rfl, rfl⟩
  · exact Does.of_answer (congrArg (answer s0) (State.good_halt_locked hs' hu 3)) fun t ht => by rw [ht.porch]; exact ⟨rfl, rfl⟩
  · exact Does.of_answer (congrArg (answer s0) (State.good_halt_locked hs' hu 4)) fun t ht => by rw [ht.porch]; exact ⟨rfl, rfl⟩
  · refine Does.of_answer rfl fun t ht => ?_
    rw [ht.porch, ht.pair_eq]
    exact standbyResynced_spec (s := s0.at τ) hr hl
  · exact breakpointHit_does hk (by rw [hporch]; exact hon) hu ha
  · exact watchpointHit_does hk hu hserving ha (by rw [hporch]; exact hon) (by rw [hporch]; exact hlo) (by rw [hporch]; exact hhi)
      (by rw [hporch]; exact hmatch) hin (by rw [hporch]; exact hclear)

end Sys2Proof.Machine
end

section
/-! # Ends of the service operations (O39) -/
namespace Sys2Proof.Machine

theorem service_of_quiet {s t : State} (h : t.quiet = s.quiet) : t.service = s.service := (congrArg State.service h :)
theorem lanes_of_quiet {s t : State} (h : t.quiet = s.quiet) : t.lanes = s.lanes := (congrArg State.lanes h :)
theorem config_of_quiet {s t : State} (h : t.quiet = s.quiet) : t.config = s.config := (congrArg State.config h :)
theorem wing_of_quiet {s t : State} (h : t.quiet = s.quiet) (w : Nat) : t.wing w = s.wing w := (congrArg (fun x : State => x.wing w) h :)
theorem lane_of_quiet {s t : State} (h : t.quiet = s.quiet) (n : Nat) : t.lane n = s.lane n := (congrArg (fun x : State => x.lane n) h :)
theorem pairs_of_quiet {s t : State} (h : t.quiet = s.quiet) : t.dev.pairA = s.dev.pairA ∧ t.dev.pairB = s.dev.pairB :=
  ⟨(congrArg (fun x : State => x.dev.pairA) h :), (congrArg (fun x : State => x.dev.pairB) h :)⟩

theorem State.wing_setWing_same (s : State) (w : Nat) (x : Wing) : (s.setWing w x).wing w = x := tget_tset_same ..

theorem Ends.wing_eq {x t : State} (h : Ends x t) (w : Nat) : t.wing w = x.wing w := (congrArg (fun m : Service => tget m.wings ({} : Wing) w) h.service :)

/-- A parameter of neither of the counters a send may raise: not congruent to the overflows' numbers, and below or beside them. -/
theorem sendBlind_of_pn {q : Par} {k l : Nat} (h : q.pn k l % 4 ≠ 2 ∨ q.pn k l < 41986) (hd : q.pn k l ≠ 49159) : SendBlind fun s => s.par q k l :=
  sendBlind_par (fun i => by simp only [Par.pn, P.qOverflow] at h ⊢; omega) (by simp only [Par.pn, P.notifDrops] at hd ⊢; omega)

theorem sendBlind_activePair : SendBlind fun s => s.par P.activePair := sendBlind_of_pn (by decide) (by decide)
theorem sendBlind_trial : SendBlind fun s => s.par P.trial := sendBlind_of_pn (by decide) (by decide)
theorem sendBlind_bootWing : SendBlind fun s => s.par P.bootWing := sendBlind_of_pn (by decide) (by decide)

/-! ### Image loads and checks -/

theorem State.wholeOk_congr {s t : State} (h : t.service = s.service) (w : Nat) : t.wholeOk w = s.wholeOk w := by
  unfold State.wholeOk State.wingCrc
  rw [State.wingCrcGo_congr h, State.wingHeader_congr h]

section
variable {s : State}

theorem imageLoadDone_of_load {j : LoadJob} (h : s.service.load = some j) :
    (imageLoadDone s).service.load = none ∧ ((imageLoadDone s).wing j.wing).st = 2 ∧ (imageLoadDone s).axes = s.axes := by
  have key (y : State) (hload : y.service.load = none) (hst : (y.wing j.wing).st = 2) (hax : y.axes = s.axes) :
      let z := if (y.sess j.sess).isOpen then y.replyStatus j.sess 0x70 j.seq stDone else y
      z.service.load = none ∧ (z.wing j.wing).st = 2 ∧ z.axes = s.axes := by
    intro z
    have hq : z.quiet = y.quiet := by
      unfold z
      split
      · exact State.replyStatus_quiet ..
      · rfl
    rw [service_of_quiet hq, wing_of_quiet hq, axes_of_quiet hq]
    exact ⟨hload, hst, hax⟩
  unfold imageLoadDone State.endLoad
  rw [h]
  exact key _ rfl (congrArg Wing.st (State.wing_setWing_same ..)) rfl

/-- The wing that a check leaves, by the check's result. -/
def State.wingChecked (s : State) (w r : Nat) : State :=
  if r = stDone then s.setWing w { s.wing w with st := 3 } else if r = stBadCheck then s.setWing w { s.wing w with st := 4 } else s

theorem State.wingChecked_spec (s : State) (w r : Nat) :
    (s.wingChecked w r).service.verify = s.service.verify ∧ (r = stDone → ((s.wingChecked w r).wing w).st = 3) ∧
      (r = stBadCheck → ((s.wingChecked w r).wing w).st = 4) ∧ (s.wingChecked w r).axes = s.axes := by
  unfold State.wingChecked
  split
  next hdone => exact ⟨rfl, fun _ => congrArg Wing.st (State.wing_setWing_same ..), fun hbad => absurd (hdone.symm.trans hbad) (by decide), rfl⟩
  next hdone =>
    split
    · exact ⟨rfl, fun hd => absurd hd hdone, fun _ => congrArg Wing.st (State.wing_setWing_same ..), rfl⟩
    next hbad => exact ⟨rfl, fun hd => absurd hd hdone, fun hb => absurd hb hbad, rfl⟩

theorem imageVerifyDone_of_verify {w : Nat} (h : s.service.verify = some w) :
    (imageVerifyDone s).service.verify = none ∧ (s.checkWing w = stDone → ((imageVerifyDone s).wing w).st = 3) ∧
      (s.checkWing w = stBadCheck → ((imageVerifyDone s).wing w).st = 4) ∧ (imageVerifyDone s).axes = s.axes := by
  have key (y : State) (hverify : y.service.verify = none) (hax : y.axes = s.axes) :
      let z := (y.wingChecked w (s.checkWing w)).endOp 0x71 w (s.checkWing w)
      z.service.verify = none ∧ (s.checkWing w = stDone → (z.wing w).st = 3) ∧ (s.checkWing w = stBadCheck → (z.wing w).st = 4) ∧ z.axes = s.axes := by
    intro z
    have hq : z.quiet = _ := State.endOp_quiet (y.wingChecked w (s.checkWing w)) 0x71 w (s.checkWing w)
    obtain ⟨h1, h2, h3, h4⟩ := y.wingChecked_spec w (s.checkWing w)
    rw [service_of_quiet hq, wing_of_quiet hq, axes_of_quiet hq]
    exact ⟨h1.trans hverify, h2, h3, h4.trans hax⟩
  unfold imageVerifyDone
  rw [h]
  refine key _ ?_ ?_
  · dsimp only
    split <;> rfl
  · dsimp only
    split <;> rfl

/-! ### Wing switches -/

theorem State.endSwitch_spec (s : State) (w status : Nat) :
    (s.endSwitch w status).service = { s.service with switch := none } ∧ (s.endSwitch w status).dev.pairA = s.dev.pairA ∧
      (s.endSwitch w status).dev.pairB = s.dev.pairB ∧ (s.endSwitch w status).axes = s.axes := by
  have hq : (s.endSwitch w status).quiet = ({ s with service := { s.service with switch := none } } : State).quiet := State.endOp_quiet ..
  exact ⟨(service_of_quiet hq).trans rfl, (pairs_of_quiet hq).1.trans rfl, (pairs_of_quiet hq).2.trans rfl, (axes_of_quiet hq).trans rfl⟩

theorem State.endSwitch_keeps {β : Type} {g : State → β} (hg : SendBlind g) (hs : ∀ (s : State) x, g { s with service := x } = g s) (s : State) (w status : Nat) :
    g (s.endSwitch w status) = g s := (hg.endOp ..).trans (hs ..)

theorem State.switchIn_of {x : Switch} {ph : SwitchPhase} (hx : s.service.switch = some x) (hph : x.phase = ph) (hl : (s.pair s.active).live = true) :
    s.switchIn ph = some x := by
  unfold State.switchIn
  rw [if_pos hl, hx]
  simp [hph]

theorem State.pair_stopPair_live (s : State) (p : Nat) : ((s.stopPair p).pair p).live = false :=
  (congrArg Pair.live (State.pair_setPair_same s p _) :)

theorem State.pair_of_pairs {s t : State} (ha : t.dev.pairA = s.dev.pairA) (hb : t.dev.pairB = s.dev.pairB) (p : Nat) : t.pair p = s.pair p := by
  rw [State.pair, State.pair, ha, hb]

section
variable {x : Switch} (hx : s.service.switch = some x) (hl : (s.pair s.active).live = true)
include hx hl

theorem switchChecksDone_of_bad (hph : x.phase = .checks) (ok : Bool) (hbad : s.checkWing x.wing ≠ stDone) :
    switchChecksDone ok s = s.endSwitch x.wing (s.checkWing x.wing) := by
  unfold switchChecksDone
  rw [State.switchIn_of hx hph hl]
  exact if_pos hbad

/-- What the checks of a live change, once passed, lead to. -/
theorem switchChecksDone_of_good (hph : x.phase = .checks) (ok : Bool) (hgood : s.checkWing x.wing = stDone)
    (hsame : s.runWing.map s.wingCkpt = some (s.wingCkpt x.wing)) :
    switchChecksDone ok s =
      let t : State := { s.stopPair s.standby with
        porch := { (s.stopPair s.standby).porch with halt := if (s.stopPair s.standby).porch.halt = .live then .none else (s.stopPair s.standby).porch.halt, resync := false } }
      if ¬ ok then t.endSwitch x.wing stFaultActive else t.switchTo x (if x.standbyOnly then .former else .sync) := by
  unfold switchChecksDone
  rw [State.switchIn_of hx hph hl]
  dsimp only
  rw [if_neg (not_not_intro hgood), if_neg (by simp [hsame]), if_neg (by simp [hsame])]

theorem standbySynced_of_sync (hph : x.phase = .sync) (ok : Bool) :
    standbySynced ok s = if ¬ ok then s.endSwitch x.wing stFaultActive
      else (s.setPair s.standby { live := true, synced := true, stopped := false, wing := x.wing }).switchTo x .commit := by
  unfold standbySynced
  rw [State.switchIn_of hx hph hl]

theorem newPairCommit_of_commit (hph : x.phase = .commit) :
    newPairCommit s = if x.trial then
        ((s.activate s.standby).setPar P.trial (if x.wing = (s.activate s.standby).service.pointer then 0 else 1)).endSwitch x.wing stDone
      else (((s.activate s.standby).setPar P.trial 0).stopPair s.active).switchTo x .former := by
  unfold newPairCommit
  rw [State.switchIn_of hx hph hl]

theorem formerPairSynced_of_former (hph : x.phase = .former) (ok : Bool) :
    formerPairSynced ok s = if ¬ ok then s.endSwitch x.wing stFaultActive
      else ((((s.setPair s.standby { live := true, synced := true, stopped := false, wing := x.wing }).writePointer x.wing).setPar P.bootWing x.wing).setPar
        P.trial 0).endSwitch x.wing stDone := by
  unfold formerPairSynced
  rw [State.switchIn_of hx hph hl]

end

theorem State.activate_activePair (s : State) (p : Nat) : (s.activate p).par P.activePair = p := by
  unfold State.activate
  refine (each_keeps (fun x => x.par P.activePair) _ (fun k x => ?_) _ _).trans (State.par_setPar_same ..)
  split <;> rfl

theorem State.activate_service (s : State) (p : Nat) : (s.activate p).service = s.service :=
  State.activate_keeps State.service (fun _ _ _ => rfl) (fun _ _ _ => rfl) s p

theorem State.setPair_service (s : State) (p : Nat) (x : Pair) : (s.setPair p x).service = s.service := by
  unfold State.setPair
  split <;> rfl

theorem State.setPair_now (s : State) (p : Nat) (x : Pair) : (s.setPair p x).now = s.now := by
  unfold State.setPair
  split <;> rfl

theorem State.setPair_params (s : State) (p : Nat) (x : Pair) : (s.setPair p x).params = s.params := by
  unfold State.setPair
  split <;> rfl

/-! ### Recalibration and lane swaps -/

/-- A recalibration saves the three values of a phase, and no other phase's. -/
theorem recalDone_of_folded {b : Nat} (h : s.service.recal = some b) (hf : s.service.recalFolded = true) :
    (recalDone s).service.recal = none ∧
      ∀ x, x < 3 → tget (recalDone s).config 0 (P.ofs.pn b x) = s.par P.ofs b x ∧ tget (recalDone s).config 0 (P.gain.pn b x) = s.par P.gain b x := by
  have key (y : State) : (y.endOp 0x73 b stDone).service = y.service ∧ (y.endOp 0x73 b stDone).config = y.config :=
    ⟨service_of_quiet (State.endOp_quiet ..), config_of_quiet (State.endOp_quiet ..)⟩
  unfold recalDone
  rw [h]
  dsimp only
  rw [if_neg (not_not_intro hf), (key _).1, (key _).2]
  refine ⟨rfl, fun x hx => ?_⟩
  obtain rfl | rfl | rfl : x = 0 ∨ x = 1 ∨ x = 2 := by omega
  all_goals
    have hne (i j : Nat) (hij : i ≠ j) (m : Tab Int) (v : Int) : tget (tset m i v) 0 j = tget m 0 j := tget_tset_other _ _ _ _ _ hij
    have hpn (p : Par) (n : Nat) : p.pn b n = p.base + p.s1 * b + p.s2 * n := rfl
    simp only [each, upto, List.range, List.range.loop, List.foldl]
    constructor
    · simp (disch := simp only [hpn, P.ofs, P.gain, P.vcal]; omega) only [hne, tget_tset_same] <;> rfl
    · simp (disch := simp only [hpn, P.ofs, P.gain, P.vcal]; omega) only [hne, tget_tset_same]
      rfl

theorem State.useHeld_spec (s : State) : s.useHeld.lanes = s.lanes ∧ s.useHeld.service.swaps = s.service.swaps := by
  have go (l : Tab Int) : (l.foldl (fun (s : State) e => { s with params := tset s.params e.1 e.2 }) s).lanes = s.lanes ∧
      (l.foldl (fun (s : State) e => { s with params := tset s.params e.1 e.2 }) s).service = s.service :=
    ⟨foldl_keeps State.lanes (fun (s : State) (e : Nat × Int) => { s with params := tset s.params e.1 e.2 }) (fun _ _ => rfl) _ _,
      foldl_keeps State.service (fun (s : State) (e : Nat × Int) => { s with params := tset s.params e.1 e.2 }) (fun _ _ => rfl) _ _⟩
  unfold State.useHeld
  exact ⟨(go _).1, (congrArg Service.swaps (go _).2 :)⟩

/-- A moved lane's state is at the target, and the source starts anew. -/
theorem State.moveLane_spec (s : State) (k dst : Nat) :
    (s.moveLane k dst).lanes = ((s.setLane dst { s.lane (s.laneOf k) with frozen := false, overruns := 0, testDue := false }).setLane (s.laneOf k)
      { running := false, testDue := true, periodNo := (s.lane (s.laneOf k)).periodNo }).lanes ∧ (s.moveLane k dst).service.swaps = s.service.swaps := by
  unfold State.moveLane
  extract_lets src l s1 s2 s3 s4 s5 s6 s7
  have h5 : s5.lanes = s2.lanes ∧ s5.service.swaps = s.service.swaps := ⟨rfl, rfl⟩
  have h6 : s6.lanes = s2.lanes ∧ s6.service.swaps = s.service.swaps := by
    unfold s6
    split
    · obtain ⟨hl, hs⟩ := ((s5.setPar P.laneRole 1 4).setPar P.spareFor 255).useHeld_spec
      exact ⟨hl.trans h5.1, hs.trans h5.2⟩
    · exact h5
  clear_value s6
  split
  · exact h6
  · exact h6

theorem laneSwapDone_of_due {k : Nat} {x : LaneSwap} (hx : s.service.swaps.find? (fun x => decide (x.axis = k)) = some x)
    (hdue : x.at_ < (s.lane x.src).periodNo) :
    laneSwapDone k s =
      let t : State := { s with service := { s.service with swaps := s.service.swaps.filter fun y => decide (y.axis ≠ k) } }
      if s.laneFree k x.dst then (t.moveLane k x.dst).endOp 0x74 k stDone else t.endOp 0x74 k stFaultActive := by
  unfold laneSwapDone
  rw [hx]
  exact if_neg (by rintro ⟨-, h⟩; omega)

theorem mem_swaps_filter {l : List LaneSwap} {k : Nat} : ∀ y ∈ l.filter (fun y => decide (y.axis ≠ k)), y.axis ≠ k :=
  fun _ hy => of_decide_eq_true (List.mem_filter.mp hy).2

end

/-! ### Each command's answer -/

theorem State.checkWing_clock (s : State) (τ w : Nat) : (s.clock τ).checkWing w = s.checkWing w := by
  have hheader : (s.clock τ).headerValid w = s.headerValid w := rfl
  have hversion : (s.clock τ).versionOk w = s.versionOk w := rfl
  have himage : (s.clock τ).imageOk w = s.imageOk w := State.imageOk_congr (s := s) (t := s.clock τ) rfl w
  have hwhole : (s.clock τ).wholeOk w = s.wholeOk w := State.wholeOk_congr (s := s) (t := s.clock τ) rfl w
  rw [State.checkWing, State.checkWing, hheader, hversion, himage, hwhole]

theorem State.sameCkpt_clock (s : State) (τ w : Nat) :
    ((s.clock τ).runWing.map (s.clock τ).wingCkpt = some ((s.clock τ).wingCkpt w)) = (s.runWing.map s.wingCkpt = some (s.wingCkpt w)) := rfl

section
variable {s0 : State} {τ : Nat}

theorem switchChecksDone_does {x : Switch} (hx : (s0.at τ).service.switch = some x) (hph : x.phase = .checks)
    (hl : ((s0.at τ).pair (s0.at τ).active).live = true) :
    (∀ ok, (s0.at τ).checkWing x.wing ≠ stDone → Does (.switchChecksDone τ ok) s0 fun t =>
      t.service.switch = none ∧ t.dev.pairA = (s0.at τ).dev.pairA ∧ t.dev.pairB = (s0.at τ).dev.pairB) ∧
    ((s0.at τ).checkWing x.wing = stDone → (s0.at τ).runWing.map (s0.at τ).wingCkpt = some ((s0.at τ).wingCkpt x.wing) →
      Does (.switchChecksDone τ false) s0 (fun t => t.service.switch = none ∧ (t.pair (s0.at τ).standby).live = false) ∧
      Does (.switchChecksDone τ true) s0 (fun t =>
        t.service.switch = some { x with phase := if x.standbyOnly then .former else .sync, hAt := (s0.at τ).now } ∧
          (t.pair (s0.at τ).standby).live = false ∧ t.axes = (s0.at τ).axes)) := by
  refine ⟨fun ok hbad => ?_, fun hgood hsame => ⟨?_, ?_⟩⟩
  · refine Does.of_answer (congrArg (answer s0) (switchChecksDone_of_bad hx hl hph ok hbad)) fun t ht => ?_
    obtain ⟨h1, h2, h3, -⟩ := (s0.at τ).endSwitch_spec x.wing ((s0.at τ).checkWing x.wing)
    rw [ht.service, ht.dev, h1, h2, h3]
    exact ⟨rfl, rfl, rfl⟩
  · refine Does.of_answer (congrArg (answer s0) ((switchChecksDone_of_good hx hl hph false hgood hsame).trans (if_pos (by decide)))) fun t ht => ?_
    obtain ⟨h1, h2, h3, -⟩ := State.endSwitch_spec { (s0.at τ).stopPair (s0.at τ).standby with porch := _ } x.wing stFaultActive
    rw [ht.service, ht.pair_eq, h1, State.pair_of_pairs h2 h3]
    exact ⟨rfl, (s0.at τ).pair_stopPair_live _⟩
  · refine Does.of_answer (congrArg (answer s0) ((switchChecksDone_of_good hx hl hph true hgood hsame).trans (if_neg (by decide)))) fun t ht => ?_
    rw [ht.service, ht.pair_eq, ht.axes]
    generalize s0.at τ = s
    refine ⟨?_, s.pair_stopPair_live _, State.setPair_axes ..⟩
    unfold State.switchTo State.stopPair State.setPair
    split <;> rfl

theorem standbySynced_does {x : Switch} (hx : (s0.at τ).service.switch = some x) (hph : x.phase = .sync)
    (hl : ((s0.at τ).pair (s0.at τ).active).live = true) :
    Does (.standbySynced τ true) s0 (fun t => t.service.switch = some { x with phase := .commit, hAt := (s0.at τ).now } ∧
      t.pair (s0.at τ).standby = { live := true, synced := true, stopped := false, wing := x.wing } ∧ t.axes = (s0.at τ).axes) ∧
    Does (.standbySynced τ false) s0 (fun t => t.service.switch = none ∧ t.dev.pairA = (s0.at τ).dev.pairA ∧ t.dev.pairB = (s0.at τ).dev.pairB) := by
  refine ⟨?_, ?_⟩
  · refine Does.of_answer (congrArg (answer s0) ((standbySynced_of_sync hx hl hph true).trans (if_neg (by decide)))) fun t ht => ?_
    rw [ht.service, ht.pair_eq, ht.axes]
    generalize s0.at τ = s
    refine ⟨?_, State.pair_setPair_same .., State.setPair_axes ..⟩
    unfold State.switchTo State.setPair
    split <;> rfl
  · refine Does.of_answer (congrArg (answer s0) ((standbySynced_of_sync hx hl hph false).trans (if_pos (by decide)))) fun t ht => ?_
    obtain ⟨h1, h2, h3, -⟩ := (s0.at τ).endSwitch_spec x.wing stFaultActive
    rw [ht.service, ht.dev, h1, h2, h3]
    exact ⟨rfl, rfl, rfl⟩

theorem newPairCommit_does {x : Switch} (hx : (s0.at τ).service.switch = some x) (hph : x.phase = .commit)
    (hl : ((s0.at τ).pair (s0.at τ).active).live = true) :
    (x.trial = true → Does (.newPairCommit τ) s0 fun t => t.service.switch = none ∧ t.par P.activePair = (s0.at τ).standby ∧
      t.service.pointer = (s0.at τ).service.pointer) ∧
    (x.trial = false → Does (.newPairCommit τ) s0 fun t => t.service.switch = some { x with phase := .former, hAt := (s0.at τ).now } ∧
      t.par P.activePair = (s0.at τ).standby ∧ t.par P.trial = 0) := by
  refine ⟨fun htrial => ?_, fun htrial => ?_⟩
  · refine Does.of_answer (congrArg (answer s0) ((newPairCommit_of_commit hx hl hph).trans (if_pos htrial))) fun t ht => ?_
    rw [ht.service, ht.par_eq]
    generalize s0.at τ = s
    obtain ⟨h1, -⟩ := State.endSwitch_spec ((s.activate s.standby).setPar P.trial (if x.wing = (s.activate s.standby).service.pointer then 0 else 1)) x.wing stDone
    rw [h1]
    refine ⟨rfl, ?_, (congrArg Service.pointer (State.activate_service s s.standby) :)⟩
    exact (State.endSwitch_keeps sendBlind_activePair (fun _ _ => rfl) ..).trans
      ((State.par_setPar_other _ _ _ _ _ _ _ _ (by decide)).trans (State.activate_activePair ..))
  · refine Does.of_answer (congrArg (answer s0) ((newPairCommit_of_commit hx hl hph).trans (if_neg (by rw [htrial]; decide)))) fun t ht => ?_
    rw [ht.service, ht.par_eq, ht.par_eq]
    have hnow : ((((s0.at τ).activate (s0.at τ).standby).setPar P.trial 0).stopPair (s0.at τ).active).now = (s0.at τ).now := by
      generalize s0.at τ = s
      exact (State.setPair_now ..).trans (State.activate_keeps State.now (fun _ _ _ => rfl) (fun _ _ _ => rfl) s _)
    generalize s0.at τ = s at hnow
    have hpar (p : Par) : (((s.activate s.standby).setPar P.trial 0).stopPair s.active).par p = ((s.activate s.standby).setPar P.trial 0).par p :=
      State.par_congr (State.setPair_params ..) p 0
    refine ⟨?_, ?_, ?_⟩
    · unfold State.switchTo
      rw [hnow]
    · exact (hpar _).trans ((State.par_setPar_other _ _ _ _ _ _ _ _ (by decide)).trans (State.activate_activePair ..))
    · exact (hpar _).trans (State.par_setPar_same ..)

theorem formerPairSynced_does {x : Switch} (hx : (s0.at τ).service.switch = some x) (hph : x.phase = .former)
    (hl : ((s0.at τ).pair (s0.at τ).active).live = true) :
    Does (.formerPairSynced τ true) s0 (fun t => t.service.switch = none ∧ t.service.pointer = x.wing ∧ t.par P.bootWing = x.wing ∧ t.par P.trial = 0 ∧
      t.pair (s0.at τ).standby = { live := true, synced := true, stopped := false, wing := x.wing }) ∧
    Does (.formerPairSynced τ false) s0 (fun t => t.service.switch = none ∧ t.service.pointer = (s0.at τ).service.pointer) := by
  refine ⟨?_, ?_⟩
  · refine Does.of_answer (congrArg (answer s0) ((formerPairSynced_of_former hx hl hph true).trans (if_neg (by decide)))) fun t ht => ?_
    rw [ht.service, ht.par_eq, ht.par_eq, ht.pair_eq]
    generalize s0.at τ = s
    generalize hy : (((s.setPair s.standby { live := true, synced := true, stopped := false, wing := x.wing }).writePointer x.wing).setPar P.bootWing
      x.wing).setPar P.trial 0 = y
    obtain ⟨h1, h2, h3, -⟩ := y.endSwitch_spec x.wing stDone
    rw [h1, State.endSwitch_keeps sendBlind_bootWing (fun _ _ => rfl), State.endSwitch_keeps sendBlind_trial (fun _ _ => rfl), State.pair_of_pairs h2 h3, ← hy]
    exact ⟨rfl, rfl, (State.par_setPar_other _ _ _ _ _ _ _ _ (by decide)).trans (State.par_setPar_same ..), State.par_setPar_same ..,
      State.pair_setPair_same s s.standby _⟩
  · refine Does.of_answer (congrArg (answer s0) ((formerPairSynced_of_former hx hl hph false).trans (if_pos (by decide)))) fun t ht => ?_
    obtain ⟨h1, -⟩ := (s0.at τ).endSwitch_spec x.wing stFaultActive
    rw [ht.service, h1]
    exact ⟨rfl, rfl⟩

theorem laneSwapDone_does {k : Nat} {x : LaneSwap} (hx : (s0.at τ).service.swaps.find? (fun x => decide (x.axis = k)) = some x)
    (hdue : x.at_ < ((s0.at τ).lane x.src).periodNo) :
    ((s0.at τ).laneFree k x.dst = false → Does (.laneSwapDone τ k) s0 fun t => t.lanes = (s0.at τ).lanes ∧ ∀ y ∈ t.service.swaps, y.axis ≠ k) ∧
    ((s0.at τ).laneFree k x.dst = true → (s0.at τ).laneOf k ≠ x.dst → Does (.laneSwapDone τ k) s0 fun t =>
      (t.lane ((s0.at τ).laneOf k)).running = false ∧ (t.lane x.dst).running = ((s0.at τ).lane ((s0.at τ).laneOf k)).running ∧
        ∀ y ∈ t.service.swaps, y.axis ≠ k) := by
  refine ⟨fun hfree => ?_, fun hfree hne => ?_⟩
  · refine Does.of_answer (congrArg (answer s0) ((laneSwapDone_of_due hx hdue).trans (if_neg (by rw [hfree]; decide)))) fun t ht => ?_
    rw [ht.lanes, ht.service, lanes_of_quiet (State.endOp_quiet ..), service_of_quiet (State.endOp_quiet ..)]
    exact ⟨rfl, mem_swaps_filter⟩
  · refine Does.of_answer (congrArg (answer s0) ((laneSwapDone_of_due hx hdue).trans (if_pos hfree))) fun t ht => ?_
    rw [ht.lane_eq, ht.lane_eq, ht.service, lane_of_quiet (State.endOp_quiet ..), lane_of_quiet (State.endOp_quiet ..), service_of_quiet (State.endOp_quiet ..)]
    generalize s0.at τ = s at hne
    generalize hy : ({ s with service := { s.service with swaps := s.service.swaps.filter fun y => decide (y.axis ≠ k) } } : State) = y
    obtain ⟨hlanes, hswaps⟩ := y.moveLane_spec k x.dst
    have hsrc : y.laneOf k = s.laneOf k := by rw [← hy]; rfl
    have hlane (n : Nat) : y.lane n = s.lane n := by rw [← hy]; rfl
    have hmoved (n : Nat) : (y.moveLane k x.dst).lane n = _ := congrArg (fun m => tget m ({} : Lane) n) hlanes
    rw [hmoved, hmoved, hswaps, hsrc, hlane]
    refine ⟨?_, ?_, by rw [← hy]; exact mem_swaps_filter⟩
    · exact congrArg Lane.running (State.lane_setLane_same _ (s.laneOf k) _)
    · refine (congrArg Lane.running (State.lane_setLane_other _ (s.laneOf k) x.dst _ hne)).trans ?_
      rw [State.lane_setLane_same]

end

/-- Settles O39, end by end: what the completion's notification changes is none of it. -/
theorem serviceEnds : Obligations.ServiceEnds := by
  unfold Obligations.ServiceEnds
  intro s0 τ s
  have hcheck (w : Nat) : s.checkWing w = (s0.at τ).checkWing w := (State.checkWing_clock ..).symm
  refine ⟨fun j hj => ?_, fun w hw => ?_, fun x hx hph hl => ?_, fun x hx hph hl => standbySynced_does hx hph hl, fun x hx hph hl => newPairCommit_does hx hph hl,
    fun x hx hph hl => formerPairSynced_does hx hph hl, fun b hb hb4 hf => ?_, fun k x hx hdue => laneSwapDone_does hx hdue⟩
  · refine Does.of_answer rfl fun t ht => ?_
    rw [ht.service, ht.wing_eq, ht.axes]
    exact imageLoadDone_of_load (s := s0.at τ) hj
  · refine Does.of_answer rfl fun t ht => ?_
    rw [ht.service, ht.wing_eq, ht.axes, hcheck]
    exact imageVerifyDone_of_verify (s := s0.at τ) hw
  · rw [hcheck, ← State.sameCkpt_clock s τ x.wing]
    exact switchChecksDone_does hx hph hl
  · refine Does.of_answer rfl fun t ht => ?_
    rw [ht.service, ht.config]
    exact recalDone_of_folded (s := s0.at τ) hb hf

end Sys2Proof.Machine
end

section
/-! SUPPORT. A parameter below the service area that no fault's reaction writes is kept through it. -/
namespace Sys2Proof.Machine

/-- A parameter of the axes, the bridges or the sensors that no message, no fault and no change of an axis's state writes. -/
structure Lasting (q : Par) (k : Nat) : Prop where
  low : q.pn k 0 < 32768
  notFault : q.pn k 0 % 4096 ≠ 560 ∧ q.pn k 0 % 4096 ≠ 4 ∧ q.pn k 0 % 4096 ≠ 1028 ∧ q.pn k 0 % 4096 ≠ 2

section
variable {q : Par} {k : Nat} (hq : Lasting q k)
include hq

theorem Lasting.bus : BusBlind fun s => s.par q k := by
  have hlow := hq.low
  refine busBlind_par (fun i => ?_) ?_ (fun i => ?_) ?_ (fun i => ?_)
  · change 41986 + 4 * i + 0 * 0 ≠ q.pn k 0
    omega
  · change 49159 ≠ q.pn k 0
    omega
  · change 32807 + 64 * i + 0 * 0 ≠ q.pn k 0
    omega
  · change 33551 ≠ q.pn k 0
    omega
  · change 32811 + 64 * i + 0 * 0 ≠ q.pn k 0
    omega

theorem Lasting.line : LineBlind fun s => s.par q k := lineBlind_of_pn (q.pn k 0) rfl (by have := hq.low; omega)

theorem Lasting.setPar_fault (s : State) {p : Par} (hp : p ∈ faultPars) (v : Int) (i : Nat) : (s.setPar p v i).par q k = s.par q k := by
  obtain ⟨h1, h2, h3, h4⟩ := hq.notFault
  have hlow := hq.low
  refine s.par_setPar_other _ _ _ _ _ _ _ ?_
  simp only [faultPars, List.mem_cons, List.not_mem_nil, or_false] at hp
  obtain rfl | rfl | rfl | rfl | rfl := hp
  · change 4656 + 4096 * i + 0 ≠ q.pn k 0
    omega
  · change 4100 + 4096 * i + 0 ≠ q.pn k 0
    omega
  · change 40963 + 16 * i + 0 ≠ q.pn k 0
    omega
  · change 5124 + 4096 * i + 0 ≠ q.pn k 0
    omega
  · change 4098 + 4096 * i + 0 ≠ q.pn k 0
    omega

theorem Lasting.setPar_high (s : State) (p : Par) (v : Int) (i j : Nat) (hp : 32768 ≤ p.pn i j) : (s.setPar p v i j).par q k = s.par q k :=
  s.par_setPar_other _ _ _ _ _ _ _ (by have := hq.low; omega)

theorem Lasting.recordFault (s : State) (code subj safe : Nat) (path : String) (secondary : Bool) :
    (s.recordFault code subj safe path secondary).par q k = s.par q k := by
  unfold State.recordFault State.incSat
  extract_lets fresh
  have hfresh (s : State) : (fresh s).par q k = s.par q k := by
    unfold fresh
    extract_lets n s1 e s2
    have h1 : s1.par q k = s.par q k := s.incPar_par_other _ _ _ _ _ _ _ (by have := hq.low; change 45346 ≠ q.pn k 0; omega)
    exact (hq.setPar_high _ _ _ _ _ (by decide)).trans ((hq.setPar_high _ _ _ _ _ (by decide)).trans h1)
  clear_value fresh
  split
  · exact hfresh _
  · split
    · rfl
    · exact hfresh _

theorem Lasting.emergency (s : State) (code subj safe : Nat) : (s.emergency code subj safe).par q k = s.par q k := by
  unfold State.emergency
  extract_lets n t
  have ht : t.par q k = s.par q k := hq.bus.ownBcast ..
  exact ite_holds (p := fun x : State => x.par q k = s.par q k) ht ht

theorem Lasting.report (s : State) (code subj safe : Nat) (path : String) (secondary : Bool) :
    (s.report code subj safe path secondary).par q k = s.par q k := by
  unfold State.report
  extract_lets s1 s2 s3 hit armed
  have h2 : s2.par q k = s.par q k := (hq.bus.notify ..).trans (hq.recordFault ..)
  have h3 : s3.par q k = s.par q k := ite_holds (p := fun x : State => x.par q k = s.par q k) ((hq.emergency ..).trans h2) h2
  have hframe (x : State) (b : Bool) : (x.frameRef b subj).par q k = x.par q k := by
    unfold State.frameRef
    dsimp only
    (repeat' split) <;> rfl
  exact ite_holds (p := fun x : State => x.par q k = s.par q k) ((hframe ..).trans ((hq.line.panTrigger ..).trans h3)) h3

theorem Lasting.hiveSync (s : State) (n : Nat) : (s.hiveSync n).par q k = s.par q k := by
  have hset (x : State) (v : Int) (r : Ring) : ({ x.setPar P.hiveState v with ring := r } : State).par q k = x.par q k :=
    hq.setPar_high _ _ _ _ _ (by decide)
  unfold State.hiveSync
  dsimp only
  split
  · rfl
  · exact ite_holds (p := fun x : State => x.par q k = s.par q k) rfl (hset ..)

theorem Lasting.syncProc (s : State) (n : Nat) : (s.syncProc n).par q k = s.par q k := by
  unfold State.syncProc
  extract_lets p scout catching
  exact (hq.hiveSync ..).trans ((hq.setPar_fault _ posStatus_mem ..).trans ((hq.setPar_fault _ posStatus_mem ..).trans
    ((hq.setPar_fault _ posStatus_mem ..).trans (hq.setPar_fault _ posStatus_mem ..))))

theorem Lasting.raiseSafe (v : Int) : RaiseSafe fun s => s.par q k = v where
  setPar p w i hp h := (hq.setPar_fault _ hp w i).trans h
  notify _ _ _ _ h := (hq.bus.notify ..).trans h
  report _ _ _ _ h := (hq.report ..).trans h
  endOp _ _ _ h := (hq.bus.endOp ..).trans h
  raiseLine _ h := (hq.line.raiseLine ..).trans h
  markLatched b h := by
    unfold State.markLatched
    split <;> exact h
  syncProc _ h := (hq.syncProc ..).trans h
  unstand f h := (hq.bus.unstand (fun _ _ => rfl) (fun _ _ => rfl) _ f).trans h
  ax _ _ _ h := h
  lanes _ h := h
  chans _ h := h
  cells _ h := h
  cellar _ h := h
  standing _ h := h
  stopped _ h := h

end
end Sys2Proof.Machine
end

section
/-! THEOREMS. Times of sessions, of telemetry and of ownership. -/
namespace Sys2Proof.Machine

/-! ### What a change of owner leaves unchanged -/

/-- A view of the state that shows nothing of what a change of owner writes. -/
structure OwnerBlind {β : Type} (g : State → β) : Prop extends SendBlind g where
  owner : ∀ (s : State) (x : Owner), g { s with owner := x } = g s
  cause : ∀ (s : State) (v : Int), g (s.setPar P.ownerCause v) = g s
  changes : ∀ s : State, g (s.incPar P.ownerChanges) = g s

section
variable {β : Type} {g : State → β} (hg : SendBlind g)
include hg

theorem SendBlind.sendMark (s : State) (x : Session) (p : Bytes) (boot : Bool) : g (s.sendMark x p boot) = g s := by
  unfold State.sendMark
  dsimp only
  split
  · exact (hg.boot ..).trans (hg.send ..)
  · exact hg.send ..

theorem SendBlind.setSess (s : State) (n : Nat) (x : Session) : g (s.setSess n x) = g s := hg.sessions ..

theorem SendBlind.complete (s : State) (opcode sess seq status : Nat) (extra : Bytes) (boot : Bool) :
    g (s.complete opcode sess seq status extra boot) = g s := by
  unfold State.complete
  dsimp only
  split
  · exact hg.sendOrWait ..
  · rfl
end

section
variable {β : Type} {g : State → β} (hg : OwnerBlind g)
include hg

theorem OwnerBlind.endOffer (s : State) (status : Nat) : g (s.endOffer status) = g s := by
  unfold State.endOffer
  dsimp only
  split
  · rfl
  · exact (hg.toSendBlind.complete ..).trans ((hg.toSendBlind.setSess ..).trans (hg.owner ..))

theorem OwnerBlind.endElection (s : State) (winner : Nat) : g (s.endElection winner) = g s := by
  unfold State.endElection
  split
  · rfl
  · exact (foldl_keeps g _ (fun _ _ => hg.toSendBlind.complete ..) _ _).trans (hg.owner ..)

theorem OwnerBlind.becomeOwner (s : State) (n cause : Nat) : g (s.becomeOwner n cause) = g s := by
  unfold State.becomeOwner
  extract_lets old _ s1 _ s2 s3
  exact (hg.toSendBlind.notify ..).trans ((hg.endOffer ..).trans ((hg.changes _).trans ((hg.cause ..).trans ((hg.toSendBlind.setSess ..).trans (hg.owner ..)))))

theorem OwnerBlind.loseOwner (s : State) (cause : Nat) : g (s.loseOwner cause) = g s := by
  unfold State.loseOwner
  extract_lets old _ s1 s2 s3 s4 s5
  have h4 : g s4 = g s :=
    (hg.endOffer ..).trans ((hg.toSendBlind.notify ..).trans ((hg.changes _).trans ((hg.cause ..).trans (hg.owner ..))))
  split
  · rfl
  · split
    · exact (hg.endElection ..).trans ((hg.becomeOwner ..).trans h4)
    · exact (hg.owner ..).trans ((hg.toSendBlind.notify ..).trans h4)
end

theorem ownerBlind_axes : OwnerBlind State.axes where
  queues _ _ _ := rfl
  ring _ _ := rfl
  swarm _ _ := rfl
  sessions _ _ := rfl
  waiting _ _ := rfl
  ops _ _ := rfl
  boot _ _ := rfl
  overflow s q := State.incPar_axes s P.qOverflow q 0 1
  drops s := State.incPar_axes s P.notifDrops 0 0 1
  owner _ _ := rfl
  cause _ _ := rfl
  changes s := State.incPar_axes s P.ownerChanges 0 0 1

theorem ownerBlind_houseNow : OwnerBlind State.houseNow where
  queues _ _ _ := rfl
  ring _ _ := rfl
  swarm _ _ := rfl
  sessions _ _ := rfl
  waiting _ _ := rfl
  ops _ _ := rfl
  boot _ _ := rfl
  overflow s _ := State.incPar_keeps (g := State.houseNow) (fun _ _ => rfl) _ _ _ (fun _ _ => rfl) s 1
  drops s := State.incPar_keeps (g := State.houseNow) (fun _ _ => rfl) _ _ _ (fun _ _ => rfl) s 1
  owner _ _ := rfl
  cause _ _ := rfl
  changes s := State.incPar_keeps (g := State.houseNow) (fun _ _ => rfl) _ _ _ (fun _ _ => rfl) s 1

theorem sendBlind_owner : SendBlind State.owner where
  queues _ _ _ := rfl
  ring _ _ := rfl
  swarm _ _ := rfl
  sessions _ _ := rfl
  waiting _ _ := rfl
  ops _ _ := rfl
  boot _ _ := rfl
  overflow s _ := State.incPar_keeps (g := State.owner) (fun _ _ => rfl) _ _ _ (fun _ _ => rfl) s 1
  drops s := State.incPar_keeps (g := State.owner) (fun _ _ => rfl) _ _ _ (fun _ _ => rfl) s 1

/-! ### What a change of owner leaves of a session -/

/-- A session without its count of notifications, its offer and the time it became the owner. -/
def Session.steady (x : Session) : Session := { x with notifSeq := 0, lost := 0, offered := false, ownedSince := 0 }

theorem State.setSess_steady (s : State) (m : Nat) (x : Session) (h : x.steady = (s.sess m).steady) (n : Nat) :
    ((s.setSess m x).sess n).steady = (s.sess n).steady := by
  by_cases e : m = n
  · subst e
    rw [State.sess_setSess_same, h]
  · rw [State.sess_setSess_other _ _ _ _ e]

theorem State.notifyTo_steady (s : State) (m cls subj ev : Nat) (data : Bytes) (n : Nat) :
    ((s.notifyTo m cls subj ev data).sess n).steady = (s.sess n).steady := by
  unfold State.notifyTo
  dsimp only
  split
  · rw [State.sess_congr (State.send_sessions ..)]
    exact State.setSess_steady _ _ _ (by rfl) _
  · rw [State.sess_congr (State.incPar_sessions ..)]
    exact State.setSess_steady _ _ _ (by rfl) _

theorem State.notify_steady (s : State) (cls pos subj : Nat) (data : Bytes) (n : Nat) :
    ((s.notify cls pos subj data).sess n).steady = (s.sess n).steady := by
  refine foldl_keeps (fun x : State => (x.sess n).steady) _ (fun x m => ?_) _ s
  split
  · exact State.notifyTo_steady ..
  · rfl

theorem State.complete_sessions (s : State) (opcode sess seq status : Nat) (extra : Bytes) (boot : Bool) :
    (s.complete opcode sess seq status extra boot).sessions = s.sessions := by
  unfold State.complete
  dsimp only
  split
  · exact State.sendOrWait_sessions ..
  · rfl

theorem State.endOffer_steady (s : State) (status n : Nat) : ((s.endOffer status).sess n).steady = (s.sess n).steady := by
  unfold State.endOffer
  dsimp only
  split
  · rfl
  · next o _ =>
    rw [State.sess_congr (State.complete_sessions ..)]
    exact State.setSess_steady _ _ _ (by rfl) _

theorem State.endElection_sessions (s : State) (winner : Nat) : (s.endElection winner).sessions = s.sessions := by
  unfold State.endElection
  split
  · rfl
  · exact foldl_keeps State.sessions _ (fun _ _ => State.complete_sessions ..) _ _

theorem State.becomeOwner_steady (s : State) (m cause n : Nat) : ((s.becomeOwner m cause).sess n).steady = (s.sess n).steady := by
  unfold State.becomeOwner
  extract_lets old _ s1 _ s2 s3
  have h2 : (s2.sess n).steady = (s.sess n).steady := State.setSess_steady _ _ _ (by rfl) _
  have h3 : (s3.sess n).steady = (s2.sess n).steady := congrArg Session.steady (State.sess_congr (State.incPar_sessions ..) n)
  rw [State.notify_steady, State.endOffer_steady, h3, h2]

theorem State.loseOwner_steady (s : State) (cause n : Nat) : ((s.loseOwner cause).sess n).steady = (s.sess n).steady := by
  unfold State.loseOwner
  extract_lets old _ s1 s2 s3 s4 s5
  have h2 : (s2.sess n).steady = (s.sess n).steady := congrArg Session.steady (State.sess_congr (State.incPar_sessions ..) n)
  have h4 : (s4.sess n).steady = (s.sess n).steady := by rw [State.endOffer_steady, State.notify_steady, h2]
  split
  · rfl
  · split
    · rw [State.sess_congr (State.endElection_sessions ..), State.becomeOwner_steady, h4]
    · exact (State.notify_steady ..).trans h4

theorem Session.isOpen_of_steady {x y : Session} (h : x.steady = y.steady) : x.isOpen = y.isOpen := (congrArg Session.isOpen h :)
theorem Session.telAt_of_steady {x y : Session} (h : x.steady = y.steady) : x.telAt = y.telAt := (congrArg Session.telAt h :)

/-! ### A session closed -/

section
variable {s : State}

theorem State.closeSession_closed (n : Nat) : ((s.closeSession n).sess n).isOpen = false := by
  unfold State.closeSession
  split
  · next h => simpa using h
  · extract_lets s1 _ _ s2 s3 left offer left' _ s4 s5
    have h3 : (s3.sess n).isOpen = false := by
      unfold s3
      rw [State.sess_setSess_same]
    have h5 : (s5.sess n).isOpen = false := by
      unfold s5
      split
      · exact (Session.isOpen_of_steady (State.endOffer_steady ..)).trans h3
      · exact h3
    split
    · exact (Session.isOpen_of_steady (State.loseOwner_steady ..)).trans h5
    · exact h5

theorem State.closeSession_axes (n : Nat) : (s.closeSession n).axes = s.axes := by
  unfold State.closeSession
  split
  · rfl
  · extract_lets s1 _ _ s2 s3 left offer left' _ s4 s5
    have h1 : s1.axes = s.axes := ite_holds (p := fun x : State => x.axes = s.axes) rfl rfl
    have h4 : s4.axes = s.axes := h1
    have h5 : s5.axes = s.axes := ite_holds (p := fun x : State => x.axes = s.axes) ((ownerBlind_axes.endOffer ..).trans h4) h4
    exact ite_holds (p := fun x : State => x.axes = s.axes) ((ownerBlind_axes.loseOwner ..).trans h5) h5

theorem sessionIdleTimeout_of_idle {n : Nat} (hs : s.serving = true) (ho : (s.sess n).isOpen = true)
    (h : (s.sess n).idleAt + ms (s.sess n).timeoutMs ≤ s.houseNow) : sessionIdleTimeout n s = s.closeSession n := if_pos ⟨hs, ho, h⟩

theorem authProofTimeout_of_unproven {n : Nat} (hs : s.serving = true) (ho : (s.sess n).isOpen = true) (ha : (s.sess n).auth = true)
    (hp : (s.sess n).proven = false) (h : (s.sess n).openedAt + ms 1000 ≤ s.houseNow) : authProofTimeout n s = s.closeSession n :=
  if_pos ⟨hs, ho, ha, by rw [hp]; decide, h⟩

theorem telemetry_of_due {n : Nat} (hf : s.firmware = true) (ho : (s.sess n).isOpen = true) (ht : (s.sess n).telPns ≠ []) (hp : 0 < (s.sess n).telPeriod)
    (h : (s.sess n).telAt + ms (s.sess n).telPeriod ≤ s.houseNow) :
    ((telemetry n s).sess n).telAt = (s.sess n).telAt + ms (s.sess n).telPeriod ∧ (telemetry n s).axes = s.axes ∧ (telemetry n s).owner = s.owner := by
  unfold telemetry
  dsimp only
  rw [if_pos ⟨hf, ho, ht, hp, h⟩]
  refine ⟨?_, ownerBlind_axes.toSendBlind.notifyTo .., sendBlind_owner.notifyTo ..⟩
  rw [Session.telAt_of_steady (State.notifyTo_steady ..), State.sess_setSess_same]

/-- A packet that waits alone and fits its queue goes out. -/
theorem completions_of_fit {w : Waiting} (hw : s.waiting = [w]) (hr : w.run = false)
    (hfit : sendSize (s.sess w.sess) w.packet ≤ s.freeBytes (outQ (s.sess w.sess).transport)) :
    ((s.flush false).flush true).waiting = [] ∧ ((s.flush false).flush true).axes = s.axes := by
  have h1 : s.flush false = { s.sendMark (s.sess w.sess) w.packet w.boot with waiting := [] } := by
    unfold State.flush
    rw [hw]
    dsimp only [List.foldl]
    rw [if_pos ⟨hr, rfl, hfit⟩]
  rw [State.flush_none _ _ (by rw [h1]), h1]
  exact ⟨rfl, ownerBlind_axes.toSendBlind.sendMark ..⟩

/-! ### Elections, offers and silent owners -/

theorem State.endOffer_owner (s : State) (status : Nat) : (s.endOffer status).owner = { s.owner with offer := none } := by
  unfold State.endOffer
  dsimp only
  split
  · next h => rw [← h]
  · exact sendBlind_owner.complete ..

theorem State.endElection_owner (s : State) (winner : Nat) : (s.endElection winner).owner = { s.owner with election := none } := by
  unfold State.endElection
  split
  · next h => rw [← h]
  · exact foldl_keeps State.owner _ (fun _ _ => sendBlind_owner.complete ..) _ _

theorem State.becomeOwner_session (s : State) (n cause : Nat) : (s.becomeOwner n cause).owner.session = n := by
  unfold State.becomeOwner
  extract_lets old _ s1 _ s2 s3
  have h3 : s3.owner = s1.owner := State.incPar_keeps (g := State.owner) (fun _ _ => rfl) _ _ _ (fun _ _ => rfl) _ 1
  rw [sendBlind_owner.notify, State.endOffer_owner, h3]

theorem electionClose_of_winner {e : Election} {n : Nat} (he : s.owner.election = some e) (hf : s.firmware = true) (h : e.at_ + ms 50 ≤ s.houseNow)
    (hw : s.winnerOf e.claims = some n) : electionClose s = (s.becomeOwner n 0).endElection n := by
  unfold electionClose
  rw [he]
  dsimp only
  rw [if_neg (not_or.mpr ⟨not_not_intro hf, Nat.not_lt.mpr h⟩), hw]

theorem handoverLapse_of_lapsed {o : Offer} (ho : s.owner.offer = some o) (hs : s.serving = true) (h : o.at_ + ms 1000 ≤ s.houseNow) :
    (handoverLapse s).owner = { s.owner with offer := none } ∧ ((handoverLapse s).sess o.target).offered = false ∧ (handoverLapse s).axes = s.axes := by
  have hx : handoverLapse s = s.endOffer stLocked := by
    unfold handoverLapse
    rw [ho]
    exact if_pos ⟨hs, h⟩
  refine ⟨hx ▸ State.endOffer_owner .., ?_, hx ▸ ownerBlind_axes.endOffer ..⟩
  rw [hx]
  unfold State.endOffer
  rw [ho, State.sess_congr (State.complete_sessions ..), State.sess_setSess_same]

theorem mem_openSessions {n : Nat} (h : n ∈ s.openSessions) : 0 < n := by
  obtain ⟨k, -, hk⟩ := List.mem_filterMap.mp h
  split at hk
  · obtain rfl := Option.some.inj hk
    exact Nat.succ_pos k
  · cases hk

/-- A successor is a session other than the one that lost the ownership. -/
theorem State.successor_spec {old n : Nat} (h : s.successor old = some n) : n ≠ old ∧ 0 < n := by
  obtain ⟨v, -, hv⟩ := List.exists_of_findSome?_eq_some h
  refine ⟨?_, mem_openSessions (List.mem_of_find?_eq_some hv)⟩
  have hm := List.find?_some hv
  unfold State.mayFollow at hm
  simp only [Bool.and_eq_true] at hm
  exact of_decide_eq_true hm.1.2

theorem State.loseOwner_session (hs : s.owner.session ≠ 0) (cause : Nat) :
    (s.loseOwner cause).owner.session ≠ s.owner.session ∧
      ((s.loseOwner cause).owner.session = 0 → (s.loseOwner cause).owner.ownerlessAt = some s.houseNow) := by
  unfold State.loseOwner
  extract_lets old _ s1 s2 s3 s4 s5
  have ho := ownerBlind_houseNow
  have h4 : s4.houseNow = s.houseNow :=
    (ho.endOffer ..).trans ((ho.toSendBlind.notify ..).trans ((ho.changes _).trans ((ho.cause ..).trans (ho.owner ..))))
  have h5 : s5.houseNow = s.houseNow := (ho.toSendBlind.notify ..).trans h4
  rw [if_neg hs]
  have h4s : s4.owner.session = 0 := by
    have h2 : s2.owner = s1.owner := State.incPar_keeps (g := State.owner) (fun _ _ => rfl) _ _ _ (fun _ _ => rfl) _ 1
    rw [State.endOffer_owner, sendBlind_owner.notify, h2]
  have h5s : s5.owner = s4.owner := sendBlind_owner.notify ..
  clear_value s4
  cases hn : s4.successor old with
  | some n =>
    obtain ⟨hne, hpos⟩ := State.successor_spec hn
    have hx : ((s4.becomeOwner n 1).endElection 0).owner.session = n := by rw [State.endElection_owner]; exact State.becomeOwner_session ..
    exact ⟨by dsimp only; rw [hx]; exact hne, fun h0 => absurd (hx.symm.trans h0) (by omega)⟩
  | none =>
    refine ⟨fun h => hs ?_, fun _ => congrArg some h5⟩
    exact h.symm.trans ((congrArg Owner.session h5s).trans h4s)

end

/-! ### The axes of a module without an owner -/

theorem lasting_ecMode {k : Nat} (hk : k < 4) : Lasting P.ecMode k where
  low := by change 4992 + 4096 * k + 0 < 32768; omega
  notFault := by
    have : P.ecMode.pn k 0 = 4992 + 4096 * k := rfl
    omega

/-- An axis that its module's ownerless time takes into EMERGENCY at once. -/
def State.EmgReady (s : State) (k : Nat) : Prop := s.emgAllowed k = true ∧ s.freeTurn s.now k = true ∧ (s.ax k).st ≠ .disabled

theorem State.emgReady_congr {s t : State} {k : Nat} (hax : t.ax k = s.ax k) (hpar : t.par P.ecMode k = s.par P.ecMode k)
    (hdev : t.dev.st = s.dev.st) (hnow : t.now = s.now) (h : s.EmgReady k) : t.EmgReady k := by
  unfold State.EmgReady State.emgAllowed State.freeTurn at *
  rw [hax, hpar, hdev, hnow]
  exact h

section
variable {s : State} {k : Nat}

theorem State.enterEmergency_of_ready (h : s.EmgReady k) :
    s.enterEmergency k = ((s.arb k 6).1.modAx k fun a => { a with started := (s.ax k).st.moving }).moveAxis k .emergency := by
  obtain ⟨ha, hf, hd⟩ := h
  have hst : ((s.arb k 6).1.ax k).st = (s.ax k).st := by
    rw [State.arb_of_freeTurn hf, State.ax_setAx_same]
  unfold State.enterEmergency
  dsimp only
  rw [if_neg (by rw [ha]; decide), if_neg (by rw [State.arb_of_freeTurn hf]; exact not_not_intro rfl), if_neg (by rw [hst]; exact hd), hst]

theorem State.enterEmergency_st (h : s.EmgReady k) : ((s.enterEmergency k).ax k).st = .emergency := by
  rw [State.enterEmergency_of_ready h, State.moveAxis_moved]
  rfl

theorem State.enterEmergency_other (h : s.EmgReady k) {j : Nat} (hj : k ≠ j) : (s.enterEmergency k).ax j = s.ax j := by
  rw [State.enterEmergency_of_ready h, State.moveAxis_ax_other _ _ _ hj, State.arb_of_freeTurn h.2.1]
  exact (State.ax_setAx_other _ _ _ _ hj).trans (State.ax_setAx_other _ _ _ _ hj)

theorem State.enterEmergency_par (h : s.EmgReady k) {j : Nat} (hj : j < 4) : (s.enterEmergency k).par P.ecMode j = s.par P.ecMode j := by
  rw [State.enterEmergency_of_ready h, State.arb_of_freeTurn h.2.1]
  exact ((lasting_ecMode hj).raiseSafe (s.par P.ecMode j)).moveAxis k _ rfl

theorem State.enterEmergency_ready (h : s.EmgReady k) {j : Nat} (hj : j < 4) (hne : k ≠ j) (hr : s.EmgReady j) : (s.enterEmergency k).EmgReady j :=
  State.emgReady_congr (State.enterEmergency_other h hne) (State.enterEmergency_par h hj) (State.dev_of_still (State.enterEmergency_still ..)).1
    (congrArg State.now (State.enterEmergency_still s k) :) hr

theorem State.each_enterEmergency {ks : List Nat} (hd : ks.Nodup) (hk : ∀ k ∈ ks, k < 4) (h : ∀ k ∈ ks, s.EmgReady k) :
    (∀ k ∈ ks, ((each ks s fun k s => s.enterEmergency k).ax k).st = .emergency) ∧
      ∀ k, k ∉ ks → (each ks s fun k s => s.enterEmergency k).ax k = s.ax k := by
  induction ks generalizing s with
  | nil => exact ⟨fun _ h => absurd h List.not_mem_nil, fun _ _ => rfl⟩
  | cons a l ih =>
    obtain ⟨ha, hl⟩ := List.nodup_cons.mp hd
    have hready := h a List.mem_cons_self
    obtain ⟨h1, h2⟩ := ih (s := s.enterEmergency a) hl (fun k hm => hk k (List.mem_cons_of_mem _ hm)) fun k hm =>
      State.enterEmergency_ready hready (hk k (List.mem_cons_of_mem _ hm)) (fun e => ha (e ▸ hm)) (h k (List.mem_cons_of_mem _ hm))
    refine ⟨fun k hm => ?_, fun k hm => ?_⟩
    · obtain rfl | hm := List.mem_cons.mp hm
      · exact (congrArg Axis.st (h2 k ha)).trans (State.enterEmergency_st hready)
      · exact h1 k hm
    · obtain ⟨hne, hm⟩ := not_or.mp (mt List.mem_cons.mpr hm)
      exact (h2 k hm).trans (State.enterEmergency_other hready fun e => hne e.symm)
end

/-- The delay of an ownerless module over: each axis that may goes to EMERGENCY, the others stay. -/
theorem emergencyDelay_of_over {s : State} {t0 : Nat} (ht : s.owner.ownerlessAt = some t0) (hf : s.firmware = true) (hs : s.owner.session = 0)
    (h : t0 + ms (s.parN P.emergDelay) ≤ s.houseNow) (hax : ∀ j, j < 4 → (s.ax j).st ≠ .disabled ∧ s.freeTurn s.now j = true) :
    (emergencyDelay s).owner.delayed = true ∧
      ∀ k, k < 4 → (s.emgAllowed k = true → ((emergencyDelay s).ax k).st = .emergency) ∧ (s.emgAllowed k = false → (emergencyDelay s).ax k = s.ax k) := by
  unfold emergencyDelay
  rw [ht]
  dsimp only
  rw [if_neg (not_or.mpr ⟨not_not_intro hf, not_or.mpr ⟨not_not_intro hs, Nat.not_lt.mpr h⟩⟩)]
  generalize hks : (upto 4).filter _ = ks
  generalize hx : ({ s with owner := { s.owner with delayed := true } } : State) = x at hks ⊢
  have hmem {k : Nat} : k ∈ ks ↔ k < 4 ∧ s.emgAllowed k = true := by
    rw [← hks, ← hx]
    simp only [List.mem_filter, upto, List.mem_range]
    rfl
  have hready (k : Nat) (hk : k ∈ ks) : x.EmgReady k := by
    obtain ⟨hk4, hk⟩ := hmem.mp hk
    rw [← hx]
    exact ⟨hk, (hax k hk4).2, (hax k hk4).1⟩
  obtain ⟨hin, hout⟩ := State.each_enterEmergency (s := x) (ks := ks) (hks ▸ List.nodup_range.filter _) (fun k hk => (hmem.mp hk).1) hready
  have hxax (k : Nat) : x.ax k = s.ax k := by rw [← hx]; rfl
  have howner : (each ks x fun k s => s.enterEmergency k).owner.delayed = true := by
    refine (congrArg (fun y : State => y.owner.delayed) (each_still ks x (fun k s => s.enterEmergency k) fun k s => s.enterEmergency_still k) :).trans ?_
    rw [← hx]
    rfl
  generalize (each ks x fun k s => s.enterEmergency k) = y at hin hout howner ⊢
  have hlast (z : State) (hz : z.quiet = y.quiet) : z.owner.delayed = true ∧
      ∀ k, k < 4 → (s.emgAllowed k = true → (z.ax k).st = .emergency) ∧ (s.emgAllowed k = false → z.ax k = s.ax k) := by
    refine ⟨(congrArg (fun w : State => w.owner.delayed) hz :).trans howner, fun k hk => ?_⟩
    rw [ax_of_quiet hz]
    exact ⟨fun ha => hin k (hmem.mpr ⟨hk, ha⟩), fun ha => (hout k fun hm => by rw [(hmem.mp hm).2] at ha; cases ha).trans (hxax k)⟩
  split
  · exact hlast _ ((State.emergency_quiet ..).trans (State.notify_quiet ..))
  · exact hlast _ rfl

/-! ### Transfers -/

theorem reassemblyTimeout_xfers (s : State) :
    (∀ x ∈ (reassemblyTimeout s).swarm.xfers, x.ring = false ∨ s.queue 14 = [] → s.now ≤ x.lastAt + xferGap x.ring) ∧
      ∀ x ∈ s.swarm.xfers, s.now ≤ x.lastAt + xferGap x.ring → x ∈ (reassemblyTimeout s).swarm.xfers := by
  unfold reassemblyTimeout
  extract_lets timely old n _
  have hx (x : State) : (x.incPar P.reasmDrops 0 0 n).swarm.xfers = x.swarm.xfers :=
    State.incPar_keeps (g := fun y : State => y.swarm.xfers) (fun _ _ => rfl) _ _ _ (fun _ _ => rfl) x n
  rw [hx]
  refine ⟨fun x hm hq => ?_, fun x hm hle => List.mem_filter.mpr ⟨hm, ?_⟩⟩
  · have hold : old x = false := by simpa using (List.mem_filter.mp hm).2
    have htimely : timely x = false := by
      unfold timely
      obtain h | h := hq
      · rw [h]; rfl
      · rw [h]; exact Bool.and_false _
    unfold old at hold
    rw [htimely] at hold
    simp only [Bool.not_false, Bool.and_true, decide_eq_false_iff_not] at hold
    omega
  · unfold old
    rw [decide_eq_false (by omega)]
    rfl

/-- Settles O40, time by time: an ownerless module's axes are taken one after the other, each leaving what the next is asked. -/
theorem sessionTimes : Obligations.SessionTimes := by
  unfold Obligations.SessionTimes
  intro s0 τ s
  refine ⟨fun n hs ho h => ?_, fun n hs ho ha hp h => ?_, fun n hf ho ht hp h => ?_, fun w hs hw hr hfit => ?_, ?_, fun e n he hf h hw => ?_,
    fun o ho hs h => ?_, fun hs hne h => ?_, fun t0 ht hf hd hs h hax => ?_⟩
  · refine Does.of_answer (congrArg (answer s0) (sessionIdleTimeout_of_idle (s := s0.at τ) hs ho h)) fun t ht => ?_
    rw [ht.sess_eq, ht.axes]
    exact ⟨State.closeSession_closed n, State.closeSession_axes n⟩
  · refine Does.of_answer (congrArg (answer s0) (authProofTimeout_of_unproven (s := s0.at τ) hs ho ha hp h)) fun t ht => ?_
    rw [ht.sess_eq, ht.axes]
    exact ⟨State.closeSession_closed n, State.closeSession_axes n⟩
  · refine Does.of_answer rfl fun t hx => ?_
    rw [hx.sess_eq, hx.axes, hx.owner]
    exact telemetry_of_due (s := s0.at τ) hf ho ht hp h
  · refine Does.of_answer (congrArg (answer s0) (if_pos hs)) fun t ht => ?_
    rw [ht.waiting, ht.axes]
    exact completions_of_fit (s := s0.at τ) hw hr hfit
  · refine Does.of_answer rfl fun t ht => ?_
    rw [ht.swarm]
    exact reassemblyTimeout_xfers (s0.at τ)
  · refine Does.of_answer (congrArg (answer s0) (electionClose_of_winner (s := s0.at τ) he hf h hw)) fun t ht => ?_
    rw [ht.owner, ht.axes, State.endElection_owner]
    exact ⟨State.becomeOwner_session .., rfl, (ownerBlind_axes.endElection ..).trans (ownerBlind_axes.becomeOwner ..)⟩
  · refine Does.of_answer rfl fun t ht => ?_
    obtain ⟨h1, h2, h3⟩ := handoverLapse_of_lapsed (s := s0.at τ) ho hs h
    rw [ht.owner, ht.sess_eq, ht.axes, h1]
    exact ⟨rfl, rfl, h2, h3⟩
  · refine Does.of_answer (congrArg (answer s0) (if_pos ⟨hs, hne, h⟩)) fun t ht => ?_
    obtain ⟨h1, h2⟩ := State.loseOwner_session (s := s0.at τ) hne 4
    rw [ht.owner, ht.axes]
    exact ⟨h1, h2, ownerBlind_axes.loseOwner ..⟩
  · refine Does.of_answer rfl fun t hx => ?_
    obtain ⟨h1, h2⟩ := emergencyDelay_of_over (s := s0.at τ) ht hf hs h fun j hj => ⟨(hax j hj).1, State.at_freeTurn (hax j hj).2⟩
    refine ⟨by rw [hx.owner]; exact h1, fun k hk => ?_⟩
    rw [hx.ax_eq]
    exact h2 k hk

end Sys2Proof.Machine
end

section
/-! SUPPORT. The state an accepted packet's row acts on, part by part, and what the reply leaves. -/
namespace Sys2Proof.Machine

theorem takeBlind_ring : TakeBlind State.ring :=
  ⟨fun _ _ => rfl, fun _ _ => rfl, fun _ _ => rfl, fun s => State.incPar_keeps (g := State.ring) (fun _ _ => rfl) _ _ _ (fun _ _ => rfl) s 1⟩

theorem takeBlind_ops : TakeBlind State.ops :=
  ⟨fun _ _ => rfl, fun _ _ => rfl, fun _ _ => rfl, fun s => State.incPar_keeps (g := State.ops) (fun _ _ => rfl) _ _ _ (fun _ _ => rfl) s 1⟩

theorem takeBlind_waiting : TakeBlind State.waiting :=
  ⟨fun _ _ => rfl, fun _ _ => rfl, fun _ _ => rfl, fun s => State.incPar_keeps (g := State.waiting) (fun _ _ => rfl) _ _ _ (fun _ _ => rfl) s 1⟩

theorem takeBlind_dev : TakeBlind State.dev :=
  ⟨fun _ _ => rfl, fun _ _ => rfl, fun _ _ => rfl, fun s => State.incPar_keeps (g := State.dev) (fun _ _ => rfl) _ _ _ (fun _ _ => rfl) s 1⟩

theorem takeBlind_forager : TakeBlind State.forager :=
  ⟨fun _ _ => rfl, fun _ _ => rfl, fun _ _ => rfl, fun s => State.incPar_keeps (g := State.forager) (fun _ _ => rfl) _ _ _ (fun _ _ => rfl) s 1⟩

theorem takeBlind_pantry : TakeBlind State.pantry :=
  ⟨fun _ _ => rfl, fun _ _ => rfl, fun _ _ => rfl, fun s => State.incPar_keeps (g := State.pantry) (fun _ _ => rfl) _ _ _ (fun _ _ => rfl) s 1⟩

theorem State.queue_congr {a b : State} (h : a.queues = b.queues) (q : Nat) : a.queue q = b.queue q := congrArg (fun l : Tab (List Entry) => tget l [] q) h

/-- Taking a packet leaves the queues of the replies. -/
theorem State.front_queue (s : State) (tp : Transport) {q : Nat} (hq : 16 ≤ q) : (s.front tp).2.queue q = s.queue q := by
  have hpop (s : State) (i : Nat) (hi : i < 16) : (s.pop i).queue q = s.queue q := State.queue_setQueue_other _ _ _ _ (by omega)
  have hseg (s : State) (ring : Bool) (p src tag seg now : Nat) (bs : Bytes) : (s.segment ring p src tag seg now bs).1.queues = s.queues := by
    have hinc (s : State) : (s.incPar P.reasmDrops).queues = s.queues := State.incPar_keeps (g := State.queues) (fun _ _ => rfl) _ _ _ (fun _ _ => rfl) s 1
    unfold State.segment
    dsimp only
    repeat' split
    all_goals simp only [hinc]
  have hpull (s : State) (n : Nat) : (s.ringPull n).2.queue q = s.queue q := by
    induction n generalizing s with
    | zero => rfl
    | succ n ih =>
      unfold State.ringPull
      split
      · rfl
      · dsimp only
        split
        · exact (State.queue_congr (hseg ..) q).trans (hpop _ _ (by omega))
        · exact (ih _).trans ((State.queue_congr (hseg ..) q).trans (hpop _ _ (by omega)))
  have hserved : (s.served tp).queue q = s.queue q := by
    unfold State.served
    split <;> rfl
  unfold State.front
  cases tp with
  | ring => exact (hpull ..).trans hserved
  | spi | swarm | porch =>
    dsimp only
    split
    · exact hserved
    · exact (hpop _ _ (by decide)).trans hserved

/-- What a row's effect finds of the state its packet was taken in, beyond `State.Readies`. -/
structure State.Begins (s : State) (n : Nat) (p : Pkt) (x : State) : Prop extends s.Readies n p x where
  seq_lt : p.seq < 65536
  sess_eq : p.sess = n
  ring : x.ring = s.ring
  ops : x.ops = s.ops
  waiting : x.waiting = s.waiting
  dev : x.dev = s.dev
  forager : x.forager = s.forager
  pantry : x.pantry = s.pantry
  queue : ∀ q, 16 ≤ q → x.queue q = s.queue q
  heartbeat : ∃ h, x.owner = { s.owner with hbAt := h }
  others : ∀ m, m ≠ n → x.sess m = s.sess m
  unbegun : (s.sess n).block = none → (x.sess n).block = none
  own : ∃ i l pt b, x.sess n = { s.sess n with idleAt := i, liveAt := l, proven := true, port := pt, nextSeq := (p.seq + 1) % 65536, block := b }

section
variable {s : State}

theorem State.begun_sess (c : Cmd) (o : Origin) (p : Pkt) : ∃ i l pt b, (s.begun c o p).sess p.sess =
    { s.sess p.sess with idleAt := i, liveAt := l, proven := true, port := pt, nextSeq := ((s.sess p.sess).nextSeq + 1) % 65536, block := b } := by
  have htouch : (s.touch p.sess o).sess p.sess = { s.sess p.sess with idleAt := s.houseNow, liveAt := some s.houseNow, proven := true, port := o.port } :=
    (State.sess_congr (s.touch_sessions p.sess o) _).trans (State.sess_setSess_same ..)
  have hbegun : (s.begun c o p).sess p.sess = _ := State.sess_setSess_same ..
  refine ⟨s.houseNow, some s.houseNow, o.port, ((s.begun c o p).sess p.sess).block, ?_⟩
  rw [hbegun, htouch]

/-- No run of SET_BLOCK begins with the taking of a packet. -/
theorem State.begun_block (c : Cmd) (o : Origin) (p : Pkt) (h : (s.sess p.sess).block = none) : ((s.begun c o p).sess p.sess).block = none := by
  have hbegun : (s.begun c o p).sess p.sess = _ := State.sess_setSess_same ..
  rw [hbegun]
  exact ite_eq_right_iff.2 fun _ => h

theorem State.begun_sess_other (c : Cmd) (o : Origin) (p : Pkt) {m : Nat} (h : m ≠ p.sess) : (s.begun c o p).sess m = s.sess m :=
  (State.sess_setSess_other _ _ _ _ h.symm).trans ((State.sess_congr (s.touch_sessions p.sess o) _).trans (State.sess_setSess_other _ _ _ _ h.symm))

theorem State.begun_heartbeat (c : Cmd) (o : Origin) (p : Pkt) : ∃ h, (s.begun c o p).owner = { s.owner with hbAt := h } := by
  have htouch : ∃ h, (s.touch p.sess o).owner = { s.owner with hbAt := h } := by
    unfold State.touch
    dsimp only
    split
    · exact ⟨s.houseNow, rfl⟩
    · exact ⟨s.owner.hbAt, rfl⟩
  exact htouch

/-- Step 5 and the sequence number leave what speaks of neither sessions nor the owner. -/
theorem State.begun_keeps {β : Type} (g : State → β) (hsess : ∀ (s : State) x, g { s with sessions := x } = g s)
    (howner : ∀ (s : State) x, g { s with owner := x } = g s) (c : Cmd) (o : Origin) (p : Pkt) : g (s.begun c o p) = g s := by
  have htouch : g (s.touch p.sess o) = g s := by
    unfold State.touch
    dsimp only
    split
    · exact (howner ..).trans (hsess ..)
    · exact hsess ..
  exact (hsess ..).trans htouch

/-- An accepted packet's row runs on a state that begins with the packet. -/
theorem State.serve_begins {tp : Transport} {c : Cmd} {n : Nat} {p : Pkt} (h : s.Accepts tp c n p) :
    ∃ x, s.Begins n p x ∧ s.serve tp c = (c.run x n p).sent p := by
  obtain ⟨o, hserve⟩ := State.serve_of_accepts_begun h
  obtain ⟨hn, -⟩ := h.offers.session
  subst hn
  have hsess (m : Nat) : (s.front tp).2.sess m = s.sess m := State.sess_congr (takeBlind_sessions.front s tp) m
  have hseq : p.seq = ((s.front tp).2.sess p.sess).nextSeq := by rw [hsess, h.offers.sequence]
  obtain ⟨bs, -, -, hp, -⟩ := h.offers.front
  obtain ⟨i, l, pt, b, hown⟩ := (s.front tp).2.begun_sess c o p
  obtain ⟨hb, hheart⟩ := (s.front tp).2.begun_heartbeat c o p
  have hview {β : Type} {g : State → β} (hg : TakeBlind g) (h1 : ∀ (s : State) x, g { s with sessions := x } = g s)
      (h2 : ∀ (s : State) x, g { s with owner := x } = g s) : g ((s.front tp).2.begun c o p) = g s := (State.begun_keeps g h1 h2 c o p).trans (hg.front s tp)
  have howner : (s.front tp).2.owner = s.owner := (congrArg State.owner (s.front_quiet tp) :)
  refine ⟨_, ⟨(State.begun_readies c o hseq).of_front, hp ▸ parsePkt_seq_lt bs, rfl, hview takeBlind_ring (fun _ _ => rfl) fun _ _ => rfl,
    hview takeBlind_ops (fun _ _ => rfl) fun _ _ => rfl, hview takeBlind_waiting (fun _ _ => rfl) fun _ _ => rfl, hview takeBlind_dev (fun _ _ => rfl) fun _ _ => rfl,
    hview takeBlind_forager (fun _ _ => rfl) fun _ _ => rfl, hview takeBlind_pantry (fun _ _ => rfl) fun _ _ => rfl, fun q hq => ?_, ⟨hb, ?_⟩,
    fun m hm => ((s.front tp).2.begun_sess_other c o p hm).trans (hsess m),
    fun hnone => (s.front tp).2.begun_block c o p ((congrArg Session.block (hsess _)).trans hnone), ⟨i, l, pt, b, ?_⟩⟩, hserve⟩
  · exact (State.begun_keeps (fun y : State => y.queue q) (fun _ _ => rfl) (fun _ _ => rfl) c o p).trans (s.front_queue tp hq)
  · rw [hheart, howner]
  · rw [hown, hseq, hsess]

variable {x : State} {n : Nat} {p : Pkt}

/-- What speaks of nothing but the quiet part and not of the owner's heartbeat is as it was. -/
theorem State.Begins.of_quiet {β : Type} {g : State → β} (hx : s.Begins n p x) (hq : ∀ {a b : State}, a.quiet = b.quiet → g a = g b)
    (howner : ∀ (s : State) o, g { s with owner := o } = g s) : g x = g s := (howner x s.owner).symm.trans (hq hx.rest)

theorem State.Begins.now (hx : s.Begins n p x) : x.now = s.now := (congrArg State.now hx.rest :)
theorem State.Begins.service (hx : s.Begins n p x) : x.service = s.service := (congrArg State.service hx.rest :)
theorem State.Begins.lanes (hx : s.Begins n p x) : x.lanes = s.lanes := (congrArg State.lanes hx.rest :)
theorem State.Begins.standing (hx : s.Begins n p x) : x.standing = s.standing := (congrArg State.standing hx.rest :)

/-- The reply with the row's payloads answers the packet where the effect kept the session's number and key. -/
theorem State.Begins.answers (hx : s.Begins n p x) {y : State} (hk : (y.sess n).seqAndKey = (x.sess n).seqAndKey) (ps : List Bytes) (boot : Bool) :
    s.Answers (y.replyRun n p.op p.seq ps boot) n p ps := by
  obtain ⟨hnext, hkey⟩ := Prod.mk.inj hk
  exact State.replyRun_answers hx.seq_lt (hnext.trans hx.nextSeq) (hkey.trans hx.tagKey) ps boot

/-- An answered packet stays answered while its session keeps its number and its replies. -/
theorem State.Answers.of_steady {y z : State} {ps : List Bytes} (h : s.Answers y n p ps) (hz : (z.sess n).steady = (y.sess n).steady) : s.Answers z n p ps := by
  have hr : (z.sess n).retained = (y.sess n).retained := (congrArg Session.retained hz :)
  have hn : (z.sess n).nextSeq = (y.sess n).nextSeq := (congrArg Session.nextSeq hz :)
  unfold State.Answers
  rw [hr, hn]
  exact h

/-- A row with an answer sends it and goes on with what follows the reply. -/
theorem State.Begins.sent (hx : s.Begins n p x) (a : Ans) {w : Bytes} {ps : List Bytes} (h : a.payloads = w :: ps) :
    a.sent p = a.after (a.st.replyRun n p.op p.seq a.payloads a.boot) := by
  unfold Ans.sent
  rw [if_neg (by rw [h]; exact List.cons_ne_nil _ _), hx.sess_eq]

/-- A status answered, with what follows it: the answer stands where what follows keeps the session. -/
theorem State.Begins.status (hx : s.Begins n p x) {y : State} (hk : (y.sess n).seqAndKey = (x.sess n).seqAndKey) {st : Nat} {f : State → State}
    {a : Ans} (ha : a = { ansStatus y st with after := f }) :
    a.sent p = f (y.replyRun n p.op p.seq [leBytes 1 st]) ∧ s.AnswersStatus (y.replyRun n p.op p.seq [leBytes 1 st]) n p st := by
  subst ha
  exact ⟨hx.sent _ rfl, hx.answers hk ..⟩

end

end Sys2Proof.Machine
end

section
/-! THEOREMS. Service commands. -/
namespace Sys2Proof.Machine

/-! ### A command's meaning through its row -/

section
variable {s0 : State} {τ : Nat} {tp : Transport} {n : Nat} {p : Pkt} {c : Cmd}

/-- A packet command does what its row does on every state that begins with its packet. -/
theorem State.Accepts.does (h : (s0.at τ).Accepts tp c n p) {i : Instr} (hi : exec i s0 = answer s0 ((s0.at τ).serve tp c)) {post : State → Prop}
    (hpost : ∀ x, (s0.at τ).Begins n p x → ∀ t, Ends ((c.run x n p).sent p) t → post t) : Does i s0 post := by
  obtain ⟨x, hx, hserve⟩ := State.serve_begins h
  exact Does.of_answer (hi.trans (congrArg (answer s0) hserve)) (hpost x hx)

variable {s x : State}

/-- A parameter that a message does not count with is unchanged by a reply. -/
theorem State.replyRun_par (s : State) (n op seq : Nat) (ps : List Bytes) (boot : Bool) {q : Par} {k l : Nat}
    (h : q.pn k l % 4 ≠ 2 ∨ q.pn k l < 41986) (hd : q.pn k l ≠ 49159) : (s.replyRun n op seq ps boot).par q k l = s.par q k l :=
  (sendBlind_of_pn h hd).replyRun (fun _ _ => rfl) ..

theorem State.wing_congr_service {a b : State} (h : a.service = b.service) (w : Nat) : a.wing w = b.wing w := congrArg (fun x : Service => tget x.wings {} w) h

/-- A session that begins with its packet keeps the number and the key while the effect leaves the sessions. -/
theorem State.seqAndKey_of_sessions {y x : State} (h : y.sessions = x.sessions) (n : Nat) : (y.sess n).seqAndKey = (x.sess n).seqAndKey :=
  congrArg Session.seqAndKey (State.sess_congr h n)

theorem State.Begins.findOp (hx : s.Begins n p x) (opcode target : Nat) : x.findOp opcode target = s.findOp opcode target := by
  unfold State.findOp
  rw [hx.ops]

theorem State.Begins.wing (hx : s.Begins n p x) (w : Nat) : x.wing w = s.wing w := State.wing_congr_service hx.service w

theorem State.Begins.wingRuns (hx : s.Begins n p x) (w : Nat) : x.wingRuns w = s.wingRuns w := by
  unfold State.wingRuns
  rw [hx.dev]

theorem State.Begins.tooCold (hx : s.Begins n p x) : x.tooCold = s.tooCold := by
  unfold State.tooCold State.parN
  rw [hx.params _ _ _ (by decide)]

theorem State.Begins.runWing (hx : s.Begins n p x) : x.runWing = s.runWing := by
  unfold State.runWing
  rw [hx.active_eq, hx.pair_eq]

/-! ### The answer of an operation -/

/-- An operation that is taken answers ACCEPTED and starts; what follows the reply leaves its session. -/
theorem State.Begins.op_accepted (hx : s.Begins n p x) {op target : Nat} {r : Nat × Option Nat × State} (hr : r.1 = stAccepted) (hsess : r.2.2.sessions = x.sessions) :
    ∃ y : State, y.quiet = r.2.2.quiet ∧ s.AnswersStatus y n p stAccepted ∧
      ((opAnswer n p.seq op target r).sent p = y ∨ ∃ st, (opAnswer n p.seq op target r).sent p = y.endOp op target st) := by
  obtain ⟨hsent, hans⟩ := hx.status (y := r.2.2.startOp { opcode := op, target := target, sess := n, seq := p.seq, at_ := r.2.2.now })
    (a := opAnswer n p.seq op target r) (State.seqAndKey_of_sessions hsess n) (if_pos hr)
  refine ⟨(r.2.2.startOp { opcode := op, target := target, sess := n, seq := p.seq, at_ := r.2.2.now }).replyRun n p.op p.seq [leBytes 1 stAccepted],
    (State.replyRun_quiet ..).trans rfl, hans, ?_⟩
  cases h2 : r.2.1 with
  | none => exact .inl (by rw [hsent, h2])
  | some st => exact .inr ⟨st, by rw [hsent, h2]⟩

theorem State.endOp_sessions (s : State) (opcode target status : Nat) (extra : Bytes) : (s.endOp opcode target status extra).sessions = s.sessions := by
  unfold State.endOp
  split
  · rfl
  · exact State.complete_sessions ..

theorem without_extra {r : Nat × State} {st : Nat} {z : State} (h : r = (st, z)) : (r.1, (none : Option Nat), r.2) = (st, none, z) := by rw [h]

/-- What an operation's answer leaves of the service, the lanes and the axes is what its effect left. -/
theorem State.op_ends {y z t : State} (hq : y.quiet = z.quiet) (ht : Ends y t) : t.service = z.service ∧ t.lanes = z.lanes ∧ t.axes = z.axes :=
  ⟨ht.service.trans (congrArg State.service hq :), ht.lanes.trans (congrArg State.lanes hq :), ht.axes.trans (axes_of_quiet hq)⟩

/-- An operation taken: answered, and as the effect left it. -/
theorem State.Begins.op_does (hx : s.Begins n p x) {op target : Nat} {r : Nat × Option Nat × State} {o : Option Nat} {z : State} (hr : r = (stAccepted, o, z))
    (hsess : z.sessions = x.sessions) {t : State} (ht : Ends ((opAnswer n p.seq op target r).sent p) t) :
    s.AnswersStatus t n p stAccepted ∧ t.service = z.service ∧ t.lanes = z.lanes ∧ t.axes = z.axes := by
  subst hr
  obtain ⟨y, hq, hans, h | ⟨st, h⟩⟩ := hx.op_accepted (op := op) (target := target) (r := (stAccepted, o, z)) rfl hsess
  · rw [h] at ht
    exact ⟨hans.of_ends ht, State.op_ends hq ht⟩
  · rw [h] at ht
    exact ⟨(hans.of_steady (congrArg Session.steady (State.sess_congr (State.endOp_sessions ..) n))).of_ends ht, State.op_ends ((State.endOp_quiet ..).trans hq) ht⟩

/-- An operation refused answers its status. -/
theorem State.Begins.op_refused (hx : s.Begins n p x) {op target st : Nat} {r : Nat × Option Nat × State} {o : Option Nat} {z : State} (hr : r = (st, o, z))
    (hst : st ≠ stAccepted) (hsess : z.sessions = x.sessions) {t : State} (ht : Ends ((opAnswer n p.seq op target r).sent p) t) :
    s.AnswersStatus t n p st ∧ t.service = z.service ∧ t.lanes = z.lanes ∧ t.axes = z.axes := by
  subst hr
  obtain ⟨hsent, hans⟩ := hx.status (y := z) (st := st) (f := id) (a := opAnswer n p.seq op target (st, o, z))
    (State.seqAndKey_of_sessions hsess n) (if_neg hst)
  rw [hsent] at ht
  exact ⟨hans.of_ends ht, State.op_ends (State.replyRun_quiet ..) ht⟩

/-- A status answered and nothing else done. -/
theorem State.Begins.said (hx : s.Begins n p x) {y : State} {st : Nat} (hsess : y.sessions = x.sessions) {t : State} (ht : Ends ((ansStatus y st).sent p) t) :
    s.AnswersStatus t n p st ∧ ((ansStatus y st).sent p).quiet = y.quiet := by
  obtain ⟨hsent, hans⟩ := hx.status (y := y) (st := st) (f := id) (a := ansStatus y st) (State.seqAndKey_of_sessions hsess n) rfl
  rw [hsent] at ht ⊢
  exact ⟨hans.of_ends ht, State.replyRun_quiet ..⟩

/-! ### IMAGE_LOAD -/

theorem State.loadImage_of_running {w off sess seq : Nat} {bs : Bytes} (hw : w < 2) (ho : off % 16 = 0) (hsize : off + bs.length ≤ wingSize + 64)
    (hr : s.wingRuns w = true) : s.loadImage sess seq w off bs = (some stLocked, s) := by
  unfold State.loadImage
  rw [if_neg (by omega), if_pos hr]

theorem State.loadImage_of_erased {w sess seq : Nat} {bs : Bytes} (hw : w < 2) (hsize : bs.length ≤ wingSize + 64)
    (hr : s.wingRuns w = false) (hload : s.service.load = none) (hverify : s.service.verify = none) (hswitch : s.service.switch = none)
    (hcold : s.tooCold = false) (he : (s.wing w).erases < 10000) :
    ∃ y : State, s.loadImage sess seq w 0 bs = (none, y) ∧ y.service.load = some ⟨w, sess, seq, s.now⟩ ∧ (y.wing w).st = 1 ∧
      (y.wing w).erases = (s.wing w).erases + 1 ∧ y.sessions = s.sessions := by
  unfold State.loadImage
  rw [if_neg (by omega), if_neg (by rw [hr]; decide), if_neg (by rw [hload, hverify, hswitch]; rintro (h | h | h) <;> cases h), if_neg (by rw [hcold]; decide)]
  dsimp only
  rw [if_pos rfl, if_neg (Nat.not_le.mpr he)]
  refine ⟨_, rfl, rfl, ?_, ?_, rfl⟩
  · exact congrArg Wing.st (tget_tset_same ..)
  · exact congrArg Wing.erases (tget_tset_same ..)

theorem imageLoad_locked (hx : s.Begins n p x) (hw : field p.payload 0 1 < 2) (ho : field p.payload 4 4 % 16 = 0)
    (hsize : field p.payload 4 4 + (p.payload.length - 8) ≤ wingSize + 64) (hr : s.wingRuns (field p.payload 0 1) = true) {t : State}
    (ht : Ends ((cmdImageLoad.run x n p).sent p) t) : s.AnswersStatus t n p stLocked ∧ t.service = s.service := by
  have hload := State.loadImage_of_running (s := x) (sess := n) (seq := p.seq) (bs := p.payload.drop 8) hw ho (by rw [List.length_drop]; exact hsize)
    ((hx.wingRuns _).trans hr)
  have hrun : cmdImageLoad.run x n p = ansStatus x stLocked := by
    unfold cmdImageLoad
    dsimp only
    rw [hload]
  rw [hrun] at ht
  obtain ⟨hans, hq⟩ := hx.said rfl ht
  exact ⟨hans, ht.service.trans ((congrArg State.service hq :).trans hx.service)⟩

theorem imageLoad_erased (hx : s.Begins n p x) (hw : field p.payload 0 1 < 2) (hsize : field p.payload 4 4 + (p.payload.length - 8) ≤ wingSize + 64)
    (hr : s.wingRuns (field p.payload 0 1) = false) (hload : s.service.load = none) (hverify : s.service.verify = none) (hswitch : s.service.switch = none)
    (hcold : s.tooCold = false) (ho : field p.payload 4 4 = 0) (he : (s.wing (field p.payload 0 1)).erases < 10000) {t : State}
    (ht : Ends ((cmdImageLoad.run x n p).sent p) t) :
    t.service.load = some ⟨field p.payload 0 1, n, p.seq, s.now⟩ ∧ (t.wing (field p.payload 0 1)).st = 1 ∧
      (t.wing (field p.payload 0 1)).erases = (s.wing (field p.payload 0 1)).erases + 1 ∧ (t.sess n).nextSeq = (p.seq + 1) % 65536 := by
  obtain ⟨y, hy, h1, h2, h3, h4⟩ := State.loadImage_of_erased (s := x) (sess := n) (seq := p.seq) (bs := p.payload.drop 8) hw
    (by rw [List.length_drop]; omega) ((hx.wingRuns _).trans hr) (by rw [hx.service]; exact hload) (by rw [hx.service]; exact hverify)
    (by rw [hx.service]; exact hswitch) (hx.tooCold.trans hcold) (by rw [hx.wing]; exact he)
  have hrun : cmdImageLoad.run x n p = { st := y, payloads := [] } := by
    unfold cmdImageLoad
    dsimp only
    rw [ho, hy]
  have hsent : (cmdImageLoad.run x n p).sent p = y := by
    rw [hrun]
    unfold Ans.sent
    rw [if_pos rfl]
    rfl
  rw [hsent] at ht
  rw [ht.service, ht.wing_eq, ht.sess_eq, h1, h2, h3, hx.wing, hx.now, State.sess_congr h4, hx.nextSeq]
  exact ⟨rfl, rfl, rfl, rfl⟩

/-! ### IMAGE_VERIFY and IMAGE_SWITCH -/

theorem State.Begins.verifyImage_of_free (hx : s.Begins n p x) {w : Nat} (hw : w < 2) (hv : s.service.verify = none) :
    x.verifyImage w = (stAccepted, { x with service := { s.service with verify := some w } }) := by
  unfold State.verifyImage
  rw [if_neg (by omega), hx.service, if_neg (by rw [hv]; decide)]

theorem State.Begins.verifyImage_of_busy (hx : s.Begins n p x) {w : Nat} (hw : w < 2) (hv : s.service.verify ≠ none) : x.verifyImage w = (stBusy, x) := by
  unfold State.verifyImage
  rw [if_neg (by omega), hx.service, if_pos (Option.isSome_iff_ne_none.mpr hv)]

theorem State.Begins.switchImage_of_free (hx : s.Begins n p x) {w tr : Nat} (hw : w < 2) (ht : tr = 0) (hs : s.service.switch = none) (hl : s.service.load = none)
    (hc : s.tooCold = false) : x.switchImage w tr =
      (stAccepted, { x with service := { s.service with switch := some { wing := w, trial := false, phase := .checks, standbyOnly := decide (s.runWing = some w) } } }) := by
  unfold State.switchImage
  rw [if_neg (by omega), hx.service, hx.runWing, hx.tooCold, if_neg (by rw [hs, hl]; rintro (h | h) <;> cases h), if_neg (by rw [hc]; decide), ht]
  rfl

/-! ### RECAL and LANE_SWAP -/

theorem State.Begins.recalRefused (hx : s.Begins n p x) (b : Nat) : x.recalRefused b = s.recalRefused b := by
  have hpar (q : Par) (i : Nat) (h : q = P.ofs ∨ q = P.ofsCorr ∨ q = P.gain ∨ q = P.gainCorr) (hi : i < 3) : x.par q b i = s.par q b i := by
    refine hx.params q b i ?_
    obtain rfl | rfl | rfl | rfl := h
    · change 49158 ≠ 24585 + 32 * b + 1 * i
      omega
    · change 49158 ≠ 24591 + 32 * b + 1 * i
      omega
    · change 49158 ≠ 24588 + 32 * b + 1 * i
      omega
    · change 49158 ≠ 24594 + 32 * b + 1 * i
      omega
  have hfolded (i : Nat) (hi : i < 3) : x.folded b i = s.folded b i := by
    unfold State.folded
    rw [hpar _ i (.inl rfl) hi, hpar _ i (.inr (.inl rfl)) hi, hpar _ i (.inr (.inr (.inl rfl))) hi, hpar _ i (.inr (.inr (.inr rfl))) hi]
  unfold State.recalRefused
  rw [hx.standing]
  simp only [upto, List.range, List.range.loop, List.all_cons, List.all_nil, hfolded 0 (by omega), hfolded 1 (by omega), hfolded 2 (by omega)]
  rfl

theorem State.recal_of_free {b : Nat} (hb : b < 4) (hr : s.service.recal = none) (h : s.recalRefused b = none) :
    s.recal b = (stAccepted, none, { s with service := { s.service with recal := some b, recalFolded := false } }) := by
  unfold State.recal
  rw [if_neg (by omega), if_neg (by rw [hr]; decide), h]

theorem State.recal_of_refused {b st : Nat} (hb : b < 4) (hr : s.service.recal = none) (h : s.recalRefused b = some st) :
    s.recal b = (stAccepted, some st, s) := by
  unfold State.recal
  rw [if_neg (by omega), if_neg (by rw [hr]; decide), h]

theorem State.Begins.laneOf (hx : s.Begins n p x) (k : Nat) : x.laneOf k = s.laneOf k := by
  unfold State.laneOf State.parN
  rw [hx.params P.lane k 0 (by change 49158 ≠ 4355 + 4096 * k + 1 * 0; omega), hx.params P.spareFor 0 0 (by decide)]

theorem State.Begins.laneFree (hx : s.Begins n p x) {k m : Nat} (hm : m < 5) : x.laneFree k m = s.laneFree k m := by
  have hrole : x.par P.laneRole m = s.par P.laneRole m := hx.params _ _ _ (by change 49158 ≠ 20544 + 1 * m + 1 * 0; omega)
  have hlane (j : Nat) : x.par P.lane j = s.par P.lane j := hx.params _ _ _ (by change 49158 ≠ 4355 + 4096 * j + 1 * 0; omega)
  have hbridges (j : Nat) : x.bridgesOf j = s.bridgesOf j := by
    unfold State.bridgesOf State.parN
    rw [hx.params _ _ _ (by simp only [Par.pn, P.reasmDrops, P.bridgeMask]; omega)]
  have haxis : x.axisOfLane m = s.axisOfLane m := State.axisOfLane_congr hx.axes_eq (hx.params _ _ _ (by decide)) hlane m
  have hlanes (j : Nat) : x.lane j = s.lane j := congrArg (fun l : Tab Lane => tget l {} j) hx.lanes
  unfold State.laneFree State.laneActive State.parN
  simp only [hrole, hlane, hbridges, haxis, hlanes, hx.params P.laneFaults 0 0 (by decide), hx.params P.laneRole 4 0 (by decide)]

theorem State.swapLane_of_far {k m : Nat} (h : 4 ≤ k ∨ 5 ≤ m) : s.swapLane k m = (stRange, none, s) := if_pos h

theorem State.swapLane_of_free {k m : Nat} (hk : k < 4) (hm : m < 5) (hop : s.findOp 0x74 k = none) (hfree : s.laneFree k m = true)
    (hswaps : s.service.swaps = []) (hsw : s.switching k = true) :
    s.swapLane k m = (stAccepted, none, { s with service := { s.service with swaps := [⟨k, s.laneOf k, m, (s.lane (s.laneOf k)).periodNo⟩] } }) := by
  unfold State.swapLane
  rw [if_neg (by omega), if_neg (by rw [hop]; decide), if_neg (by rw [hfree, hswaps]; rintro (h | h); exacts [h rfl, by cases h]), if_pos hsw]
  dsimp only
  rw [hswaps]
  rfl

/-! ### HIVE_LEAVE and HIVE_JOIN -/

theorem State.hiveOp_of_free {op seq : Nat} {f : State → State} (h : s.findOp op 0 = none) :
    s.hiveOp n seq op f = { ansStatus (s.startOp { opcode := op, target := 0, sess := n, seq := seq, at_ := s.now }) stAccepted with after := f } :=
  if_neg (by rw [h]; decide)

theorem State.hiveLeave_of_sharing (h : s.par P.hiveState = 3) :
    s.hiveLeave.par P.hiveState = 5 ∧ s.hiveLeave.ring.hasLeft = true ∧ s.hiveLeave.ring.leaveAt = some s.now ∧ s.hiveLeave.axes = s.axes ∧
      s.hiveLeave.sessions = s.sessions := by
  unfold State.hiveLeave
  dsimp only
  rw [if_pos (.inr h)]
  exact ⟨State.par_setPar_same .., rfl, rfl, rfl, rfl⟩

theorem State.hiveJoin_of_left (h : s.par P.hiveState = 6) :
    s.hiveJoin.par P.hiveState = 1 ∧ s.hiveJoin.ring.hasLeft = false ∧ s.hiveJoin.axes = s.axes ∧ s.hiveJoin.sessions = s.sessions := by
  unfold State.hiveJoin
  dsimp only
  rw [if_neg (by rw [h]; decide), if_pos h]
  exact ⟨State.par_setPar_same .., rfl, rfl, rfl⟩

/-- An operation of the ring taken: it is answered, and what it does follows on the state as it was. -/
theorem State.Begins.hiveOp_does (hx : s.Begins n p x) {op : Nat} {f : State → State} (hop : s.findOp op 0 = none)
    (hf : ∀ y : State, y.par P.hiveState = s.par P.hiveState → (f y).sessions = y.sessions) :
    ∃ y : State, (x.hiveOp n p.seq op f).sent p = f y ∧ y.par P.hiveState = s.par P.hiveState ∧ y.now = s.now ∧ y.axes = s.axes ∧
      s.AnswersStatus (f y) n p stAccepted := by
  obtain ⟨hsent, hans⟩ := hx.status (y := x.startOp { opcode := op, target := 0, sess := n, seq := p.seq, at_ := x.now }) rfl
    (State.hiveOp_of_free ((hx.findOp ..).trans hop))
  have hpar : ((x.startOp { opcode := op, target := 0, sess := n, seq := p.seq, at_ := x.now }).replyRun n p.op p.seq [leBytes 1 stAccepted]).par P.hiveState =
      s.par P.hiveState := (State.replyRun_par _ _ _ _ _ _ (.inr (by decide)) (by decide)).trans (hx.params P.hiveState 0 0 (by decide))
  exact ⟨_, hsent, hpar, (now_of_quiet (State.replyRun_quiet ..)).trans hx.now, (axes_of_quiet (State.replyRun_quiet ..)).trans hx.axes_eq,
    hans.of_steady (congrArg Session.steady (State.sess_congr (hf _ hpar) n))⟩

end

/-! ### SOFT_RESET -/

section
variable {s : State}

theorem State.push_dev (s : State) (q : Nat) (data : Bytes) (dest port : Nat) : (s.push q data dest port).dev = s.dev := by
  have hinc : (s.incPar P.qOverflow q).dev = s.dev := State.incPar_keeps (g := State.dev) (fun _ _ => rfl) _ _ _ (fun _ _ => rfl) s 1
  unfold State.push
  split
  · rfl
  · exact hinc

theorem State.txPut_dev (s : State) (p id : Nat) (data : Bytes) (own : Bool) (xfer : Option Nat) (last : Bool) (copyOf : Option (Nat × Nat)) :
    (s.txPut p id data own xfer last copyOf).dev = s.dev := by
  unfold State.txPut
  dsimp only
  split
  · exact State.push_dev ..
  · exact State.push_dev ..

theorem State.feedOne_dev (s : State) (e : Entry) : (s.feedOne e).dev = s.dev := by
  unfold State.feedOne
  split
  · rfl
  · split
    · rfl
    · split
      · rfl
      · dsimp only
        split
        · exact foldl_keeps State.dev _ (fun _ _ => State.txPut_dev ..) _ _
        · rfl

/-- Sending a packet leaves the device and its pending boot. -/
theorem State.send_dev (s : State) (x : Session) (p : Bytes) : (s.send x p).dev = s.dev := by
  unfold State.send
  split
  · exact foldl_keeps State.dev _ (fun _ _ => State.push_dev ..) _ _
  · exact (foldl_keeps State.dev _ (fun _ _ => State.feedOne_dev ..) _ _).trans (State.push_dev ..)
  · exact State.push_dev ..

theorem State.sendOrWait_dev (s : State) (n : Nat) (p : Bytes) (run : Bool) : (s.sendOrWait n p false run).dev = s.dev := by
  unfold State.sendOrWait State.sendMark
  dsimp only
  split
  · exact State.send_dev ..
  · rfl

theorem State.replyRun_dev (s : State) (n op seq : Nat) (ps : List Bytes) : (s.replyRun n op seq ps).dev = s.dev := by
  unfold State.replyRun
  dsimp only
  exact foldl_keeps State.dev (fun (s : State) p => s.sendOrWait n p false true) (fun _ _ => State.sendOrWait_dev ..) _ _

/-- A packet is its payload with at most 20 bytes around it (Table 11.2). -/
theorem packet_length_le (opcode flags sess seq : Nat) (payload : Bytes) (key : Option Bytes) :
    (packet opcode flags sess seq payload key).length ≤ payload.length + 20 := by
  have htag (k m : Bytes) : (packetTag k m).length ≤ 8 := List.length_take_le ..
  unfold packet header
  cases key with
  | none =>
    simp only [List.length_append, leBytes_length]
    omega
  | some k =>
    simp only [List.length_append, leBytes_length]
    have := htag k (leBytes 1 opcode ++ leBytes 1 (flags + if (some k).isSome = true then 16 else 0) ++ leBytes 2 sess ++ leBytes 2 seq ++
      leBytes 2 payload.length ++ payload)
    omega

/-- A packet of one block takes no more room than a reply is promised. -/
theorem sendSize_small {x : Session} {b : Bytes} (h : b.length ≤ 28) : sendSize x b ≤ replyRoom := by
  have hblock (i : Nat) (c : Bytes) (hc : c.length ≤ 30) : i + entrySize c.length ≤ i + 48 := by
    unfold entrySize
    omega
  unfold sendSize
  split
  · have hn : (b.length + 27) / 28 = 0 ∨ (b.length + 27) / 28 = 1 := by omega
    unfold ringBlocks
    obtain hn | hn := hn
    · rw [hn]
      exact Nat.zero_le _
    · rw [hn]
      simp only [upto, List.range, List.range.loop, List.map, List.foldl]
      refine (hblock 0 _ ?_).trans (by decide)
      simp only [List.length_append, leBytes_length, List.length_take, List.length_drop]
      omega
  · have := hblock 0 b (by omega)
    exact (by omega : entrySize b.length ≤ 48).trans (by decide)

theorem State.waits_setSess (s : State) {n : Nat} {x : Session} (h : x.transport = (s.sess n).transport) (q : Nat) : (s.setSess n x).waits q = s.waits q := by
  have hsess (m : Nat) : ((s.setSess n x).sess m).transport = (s.sess m).transport := by
    by_cases e : n = m
    · subst e
      rw [State.sess_setSess_same, h]
    · exact congrArg Session.transport (State.sess_setSess_other _ _ _ _ e)
  unfold State.waits
  simp only [hsess]
  rfl

theorem State.sendOrWait_boot {n : Nat} {b : Bytes} {run : Bool} (hwaits : s.waits (outQ (s.sess n).transport) = false)
    (hroom : sendSize (s.sess n) b ≤ s.freeBytes (outQ (s.sess n).transport)) : (s.sendOrWait n b true run).dev.pendingBoot.isSome = true := by
  unfold State.sendOrWait
  dsimp only
  rw [if_pos ⟨by rw [hwaits]; decide, hroom⟩]
  rfl

/-- The reply that starts BOOT is sent at once where its queue has room and none waits for it. -/
theorem State.replyRun_boot {n op seq : Nat} {w : Bytes} (hw : w.length = 1) (hwaits : s.waits (outQ (s.sess n).transport) = false)
    (hroom : replyRoom ≤ s.freeBytes (outQ (s.sess n).transport)) : (s.replyRun n op seq [w] true).dev.pendingBoot.isSome = true := by
  unfold State.replyRun replyPackets
  generalize hrs : List.filter _ _ = rs
  simp only [List.zipIdx_cons, List.zipIdx_nil, List.map, List.foldl]
  refine State.sendOrWait_boot ?_ ?_
  · rw [State.sess_setSess_same]
    exact (State.waits_setSess _ (by rfl) _).trans hwaits
  · rw [State.sess_setSess_same]
    exact (sendSize_small ((packet_length_le ..).trans (by omega))).trans hroom


/-- The packet at the front of a transport came by it. -/
theorem State.front_tp {tp : Transport} {bs : Bytes} {o : Origin} (h : (s.front tp).1 = some (bs, o)) : o.tp = tp := by
  unfold State.front at h
  cases tp with
  | ring =>
    obtain ⟨r, -, hr⟩ := Option.map_eq_some_iff.mp h
    rw [← (Prod.mk.inj hr).2]
  | spi | swarm | porch =>
    dsimp only at h
    split at h
    · cases h
    · rw [← (Prod.mk.inj (Option.some.inj h)).2]

theorem State.bound_of_headCheck {bs : Bytes} {o : Origin} (h : s.headCheck o bs = none) (hop : (parsePkt bs).op ≠ 0x01) :
    s.bound (parsePkt bs).sess o = true := by
  by_contra hb
  unfold State.headCheck at h
  dsimp only at h
  rw [if_neg hop, if_pos hb] at h
  (repeat' split at h) <;> cases h

/-- A session's command comes by the session's transport. -/
theorem State.Accepts.transport {tp : Transport} {c : Cmd} {n : Nat} {p : Pkt} (h : s.Accepts tp c n p) : (s.sess n).transport = tp := by
  obtain ⟨bs, o, hfront, hp, -, hhead⟩ := h.offers.front
  obtain ⟨hn, hop⟩ := h.offers.session
  have hbound : s.bound p.sess o = true := hp ▸ State.bound_of_headCheck hhead (by rw [← hp, h.offers.opcode]; exact hop)
  unfold State.bound at hbound
  simp only [Bool.and_eq_true, decide_eq_true_eq] at hbound
  rw [← hn, ← State.front_tp hfront]
  exact hbound.1.2

theorem State.Begins.transport {x : State} {n : Nat} {p : Pkt} (hx : s.Begins n p x) (m : Nat) : (x.sess m).transport = (s.sess m).transport := by
  by_cases e : m = n
  · obtain ⟨i, l, pt, b, h⟩ := hx.own
    rw [e, h]
  · rw [hx.others m e]

theorem State.Begins.waits {x : State} {n : Nat} {p : Pkt} (hx : s.Begins n p x) (q : Nat) : x.waits q = s.waits q := by
  unfold State.waits
  simp only [hx.waiting, hx.transport]

/-- What a served packet goes by: no BOOT is pending, and a reply has its room. -/
theorem State.Accepts.canServe {tp : Transport} {c : Cmd} {n : Nat} {p : Pkt} (h : s.Accepts tp c n p) :
    s.dev.pendingBoot = none ∧ replyRoom ≤ s.freeBytes (outQ tp) ∧ s.waits (outQ tp) = false := by
  have hserve : s.canServe tp = true := (Bool.and_eq_true _ _ ▸ h.offers.taken : _ ∧ _).1
  unfold State.canServe at hserve
  simp only [Bool.and_eq_true, decide_eq_true_eq, Bool.not_eq_true'] at hserve
  obtain ⟨⟨⟨-, hboot⟩, hroom⟩, hwaits⟩ := hserve
  exact ⟨Option.isNone_iff_eq_none.mp hboot, hroom, hwaits⟩

theorem softReset_done {tp : Transport} {n : Nat} {p : Pkt} (hacc : s.Accepts tp cmdSoftReset n p) {x : State} (hx : s.Begins n p x)
    (hword : field p.payload 0 4 = 0xA55A) {t : State} (ht : Ends ((cmdSoftReset.run x n p).sent p) t) :
    s.AnswersStatus t n p stDone ∧ t.dev.pendingBoot.isSome = true ∧ t.dev.st = s.dev.st := by
  obtain ⟨-, hroom, hwaits⟩ := hacc.canServe
  generalize hy : (if x.loader then x else x.saveWear) = y
  have hrun : cmdSoftReset.run x n p = { ansStatus y stDone with boot := true } := by rw [← hy]; exact if_pos hword
  have hsess : y.sessions = x.sessions := by rw [← hy]; split <;> rfl
  have hyw (q : Nat) : y.waits q = x.waits q := by rw [← hy]; split <;> rfl
  have hyq (q : Nat) : y.queue q = x.queue q := by rw [← hy]; split <;> rfl
  have hyd : y.dev = x.dev := by rw [← hy]; split <;> rfl
  have htp : (y.sess n).transport = tp := ((congrArg Session.transport (State.sess_congr hsess n)).trans (hx.transport n)).trans hacc.transport
  have hsent := hx.sent (cmdSoftReset.run x n p) (w := leBytes 1 stDone) (ps := []) (by rw [hrun]; rfl)
  rw [hsent, hrun] at ht
  have hq : 16 ≤ outQ tp := by cases tp <;> decide
  refine ⟨(hx.answers (State.seqAndKey_of_sessions hsess n) _ _).of_ends ht, ?_, ?_⟩
  · rw [ht.dev]
    refine State.replyRun_boot rfl ?_ ?_
    · exact (hyw _).trans ((hx.waits _).trans (htp ▸ hwaits))
    · show replyRoom ≤ y.freeBytes (outQ (y.sess n).transport)
      unfold State.freeBytes at hroom ⊢
      rw [htp, hyq, hx.queue _ hq]
      exact hroom
  · rw [ht.dev]
    exact (devState_of_quiet (State.replyRun_quiet y n p.op p.seq [leBytes 1 stDone] true)).trans (congrArg Dev.st (hyd.trans hx.dev))

theorem softReset_refused {tp : Transport} {n : Nat} {p : Pkt} (hacc : s.Accepts tp cmdSoftReset n p) {x : State} (hx : s.Begins n p x)
    (hword : field p.payload 0 4 ≠ 0xA55A) {t : State} (ht : Ends ((cmdSoftReset.run x n p).sent p) t) :
    s.AnswersStatus t n p stRange ∧ t.dev.pendingBoot = none ∧ t.wear = s.wear := by
  have hrun : cmdSoftReset.run x n p = ansStatus x stRange := if_neg hword
  rw [hrun] at ht
  obtain ⟨hans, hq⟩ := hx.said rfl ht
  have hsent := hx.sent (ansStatus x stRange) rfl
  refine ⟨hans, ?_, ?_⟩
  · rw [ht.dev, hsent]
    exact (congrArg Dev.pendingBoot ((State.replyRun_dev ..).trans hx.dev)).trans hacc.canServe.1
  · rw [ht.wear]
    exact (congrArg State.wear hq :).trans (congrArg State.wear hx.rest :)

end

/-- Settles O38, row by row, each on the state that begins with its packet. -/
theorem serviceCommands : Obligations.ServiceCommands := by
  unfold Obligations.ServiceCommands
  intro s0 τ tp n p s w x
  refine ⟨fun hacc hw ho hsize => ⟨fun hr => ?_, fun hr h1 h2 h3 h4 h5 h6 => ?_⟩, fun hacc hw => ⟨fun hv => ?_, fun hv => ?_⟩, fun hacc hw hx0 h1 h2 h3 => ?_,
    fun hacc hw hr => ⟨fun hf => ?_, fun hf => ?_⟩, fun hacc => ⟨fun h => ?_, fun hw hx5 h1 h2 h3 h4 => ?_⟩, fun hacc hop h3 => ?_, fun hacc hop h6 => ?_,
    fun hacc => ⟨fun h => ?_, fun h => ?_⟩⟩
  · refine hacc.does rfl fun y hy t ht => ?_
    exact imageLoad_locked hy hw ho hsize hr ht
  · refine hacc.does rfl fun y hy t ht => ?_
    exact imageLoad_erased hy hw hsize hr h1 h2 h3 h4 h5 h6 ht
  · refine hacc.does rfl fun y hy t ht => ?_
    obtain ⟨hans, hv, -, -⟩ := hy.op_does (without_extra (hy.verifyImage_of_free hw hv)) rfl ht
    exact ⟨hans, hv⟩
  · refine hacc.does rfl fun y hy t ht => ?_
    obtain ⟨hans, hv, -, -⟩ := hy.op_refused (without_extra (hy.verifyImage_of_busy hw hv)) (by decide) rfl ht
    exact ⟨hans, hv.trans hy.service⟩
  · refine hacc.does rfl fun y hy t ht => ?_
    obtain ⟨hans, hv, -, -⟩ := hy.op_does (without_extra (hy.switchImage_of_free hw hx0 h1 h2 h3)) rfl ht
    exact ⟨hans, { wing := w, trial := false, phase := .checks, standbyOnly := decide (s.runWing = some w) }, congrArg Service.switch hv, rfl, rfl, rfl, rfl⟩
  · refine hacc.does rfl fun y hy t ht => ?_
    obtain ⟨hans, hv, -, hax⟩ := hy.op_does (State.recal_of_free hw (by rw [hy.service]; exact hr) ((hy.recalRefused w).trans hf)) rfl ht
    exact ⟨hans, hv.trans (congrArg (fun v : Service => { v with recal := some w, recalFolded := false }) hy.service), hax.trans hy.axes_eq⟩
  · refine hacc.does rfl fun y hy t ht => ?_
    obtain ⟨st, hst⟩ := Option.ne_none_iff_exists'.mp hf
    obtain ⟨hans, hv, -, hax⟩ := hy.op_does (State.recal_of_refused hw (by rw [hy.service]; exact hr) ((hy.recalRefused w).trans hst)) rfl ht
    exact ⟨hans, hv.trans hy.service, hax.trans hy.axes_eq⟩
  · refine hacc.does rfl fun y hy t ht => ?_
    obtain ⟨hans, hv, hl, -⟩ := hy.op_refused (State.swapLane_of_far h) (by decide) rfl ht
    exact ⟨hans, hl.trans hy.lanes, hv.trans hy.service⟩
  · refine hacc.does rfl fun y hy t ht => ?_
    have hsw := State.swapLane_of_free (s := y) hw hx5 ((hy.findOp ..).trans h1) ((hy.laneFree hx5).trans h2) (by rw [hy.service]; exact h3)
      (by unfold State.switching at h4 ⊢; rw [State.ax_of_axes hy.axes_eq]; exact h4)
    obtain ⟨hans, hv, hl, -⟩ := hy.op_does hsw rfl ht
    have hlane : y.lane (y.laneOf w) = (s0.at τ).lane ((s0.at τ).laneOf w) := by
      rw [hy.laneOf]
      exact congrArg (fun l : Tab Lane => tget l {} ((s0.at τ).laneOf w)) hy.lanes
    refine ⟨hans, hv.trans ?_, hl.trans hy.lanes⟩
    show ({ y.service with swaps := [⟨w, y.laneOf w, x, (y.lane (y.laneOf w)).periodNo⟩] } : Service) = _
    rw [hlane, hy.laneOf, hy.service]
    rfl
  · refine hacc.does rfl fun y hy t ht => ?_
    obtain ⟨z, hz, hpar, hnow, haxes, hans⟩ := hy.hiveOp_does (f := State.hiveLeave) hop fun z hz => (State.hiveLeave_of_sharing (hz.trans h3)).2.2.2.2
    rw [show (cmdHiveLeave.run y n p).sent p = z.hiveLeave from hz] at ht
    obtain ⟨a1, a2, a3, a4, -⟩ := State.hiveLeave_of_sharing (hpar.trans h3)
    rw [ht.par_eq, ht.ring, ht.axes, a1, a2, a3, a4, hnow]
    exact ⟨hans.of_ends ht, rfl, rfl, rfl, haxes⟩
  · refine hacc.does rfl fun y hy t ht => ?_
    obtain ⟨z, hz, hpar, -, haxes, hans⟩ := hy.hiveOp_does (f := State.hiveJoin) hop fun z hz => (State.hiveJoin_of_left (hz.trans h6)).2.2.2
    rw [show (cmdHiveJoin.run y n p).sent p = z.hiveJoin from hz] at ht
    obtain ⟨a1, a2, a3, -⟩ := State.hiveJoin_of_left (hpar.trans h6)
    rw [ht.par_eq, ht.ring, ht.axes, a1, a2, a3]
    exact ⟨hans.of_ends ht, rfl, rfl, haxes⟩
  · exact hacc.does rfl fun y hy t ht => softReset_done hacc hy h ht
  · exact hacc.does rfl fun y hy t ht => softReset_refused hacc hy h ht

end Sys2Proof.Machine
end

section
/-! THEOREMS. Session, ownership and telemetry commands. -/
namespace Sys2Proof.Machine

/-! ### Masks -/

theorem bit_add_two_pow_other {m k g : Nat} (hk : m / 2 ^ k % 2 = 0) (hg : g ≠ k) : (m + 2 ^ k) / 2 ^ g % 2 = m / 2 ^ g % 2 := by
  obtain hlt | hgt := Nat.lt_or_gt_of_ne hg
  · obtain ⟨c, rfl⟩ := Nat.exists_eq_add_of_lt hlt
    have hp : 2 ^ (g + c + 1) = 2 ^ g * (2 * 2 ^ c) := by ring
    rw [hp, Nat.add_mul_div_left _ _ (by positivity)]
    omega
  · obtain ⟨c, rfl⟩ := Nat.exists_eq_add_of_lt hgt
    have hs (x : Nat) : x / 2 ^ (k + c + 1) = x / 2 ^ k / 2 / 2 ^ c := by
      rw [Nat.div_div_eq_div_mul, Nat.div_div_eq_div_mul, show 2 ^ k * (2 * 2 ^ c) = 2 ^ (k + c + 1) by ring]
    have he : (m + 2 ^ k) / 2 ^ k / 2 = m / 2 ^ k / 2 := by
      rw [Nat.add_div_right _ (by positivity)]
      omega
    rw [hs, he, ← hs]

/-- A mask has no bit beside those of its list. -/
theorem bit_maskOf_not_mem {l : List Nat} {g : Nat} (h : g ∉ l) : maskOf l / 2 ^ g % 2 = 0 := by
  have go (m : Nat) (hm : m / 2 ^ g % 2 = 0) : l.foldl (fun m k => if m / 2 ^ k % 2 = 1 then m else m + 2 ^ k) m / 2 ^ g % 2 = 0 := by
    refine List.foldlRecOn (motive := fun m : Nat => m / 2 ^ g % 2 = 0) l _ hm fun m hm k hk => ?_
    split
    · exact hm
    · exact (bit_add_two_pow_other (by omega) fun e => h (by rw [e]; exact hk)).trans hm
  exact go 0 (by simp)

theorem mem_bitsOf_iff {n m k : Nat} : k ∈ bitsOf n m ↔ k < n ∧ m / 2 ^ k % 2 = 1 := by
  simp [bitsOf, upto]

section
variable {s x : State} {n : Nat} {p : Pkt}

/-! ### What a reply leaves of the sessions -/

theorem State.replyRun_sess_other (s : State) (n op seq : Nat) (ps : List Bytes) (boot : Bool) {m : Nat} (h : n ≠ m) :
    (s.replyRun n op seq ps boot).sess m = s.sess m := by
  unfold State.replyRun
  dsimp only
  rw [State.sess_congr (foldl_keeps State.sessions _ (fun _ _ => State.sendOrWait_sessions ..) _ _)]
  exact State.sess_setSess_other _ _ _ _ h

theorem State.replyRun_owner (s : State) (n op seq : Nat) (ps : List Bytes) (boot : Bool) : (s.replyRun n op seq ps boot).owner = s.owner :=
  sendBlind_owner.replyRun (fun _ _ => rfl) ..

theorem State.replyRun_houseNow (s : State) (n op seq : Nat) (ps : List Bytes) (boot : Bool) : (s.replyRun n op seq ps boot).houseNow = s.houseNow :=
  ownerBlind_houseNow.toSendBlind.replyRun (fun _ _ => rfl) ..

theorem State.Begins.houseNow (hx : s.Begins n p x) : x.houseNow = s.houseNow := hx.of_quiet (fun h => (congrArg State.houseNow h :)) fun _ _ => rfl

theorem State.Begins.loader (hx : s.Begins n p x) : x.loader = s.loader := by
  unfold State.loader
  rw [hx.dev]

theorem State.Begins.rank (hx : s.Begins n p x) : (x.sess n).rank = (s.sess n).rank := by
  obtain ⟨i, l, pt, b, h⟩ := hx.own
  rw [h]

theorem State.Begins.eventMask (hx : s.Begins n p x) : (x.sess n).eventMask = (s.sess n).eventMask := by
  obtain ⟨i, l, pt, b, h⟩ := hx.own
  rw [h]

theorem State.Begins.telPeriod (hx : s.Begins n p x) : (x.sess n).telPeriod = (s.sess n).telPeriod := by
  obtain ⟨i, l, pt, b, h⟩ := hx.own
  rw [h]

/-! ### CLAIM -/

theorem State.claiming_congr {a b : State} (h : a.owner.election = b.owner.election) (n : Nat) : a.claiming n = b.claiming n := by
  unfold State.claiming
  rw [h]

theorem OwnerBlind.handoverLapse {β : Type} {g : State → β} (hg : OwnerBlind g) (s : State) : g (handoverLapse s) = g s := by
  unfold Machine.handoverLapse
  split
  · rfl
  · split
    · exact hg.endOffer ..
    · rfl

theorem handoverLapse_owner (s : State) : ∃ o, (handoverLapse s).owner = { s.owner with offer := o } := by
  unfold handoverLapse
  split
  · exact ⟨s.owner.offer, rfl⟩
  · split
    · exact ⟨none, State.endOffer_owner ..⟩
    · exact ⟨s.owner.offer, rfl⟩

theorem handoverLapse_steady (s : State) (n : Nat) : ((handoverLapse s).sess n).steady = (s.sess n).steady := by
  unfold handoverLapse
  split
  · rfl
  · split
    · exact State.endOffer_steady ..
    · rfl

theorem electionClose_of_open (h : ∀ e, s.owner.election = some e → s.houseNow < e.at_ + ms 50) : electionClose s = s := by
  unfold electionClose
  cases he : s.owner.election with
  | none => rfl
  | some e => exact if_pos (.inr (h e he))

theorem ownerBlind_loader : OwnerBlind State.loader where
  queues _ _ _ := rfl
  ring _ _ := rfl
  swarm _ _ := rfl
  sessions _ _ := rfl
  waiting _ _ := rfl
  ops _ _ := rfl
  boot _ _ := rfl
  overflow s _ := State.incPar_keeps (g := State.loader) (fun _ _ => rfl) _ _ _ (fun _ _ => rfl) s 1
  drops s := State.incPar_keeps (g := State.loader) (fun _ _ => rfl) _ _ _ (fun _ _ => rfl) s 1
  owner _ _ := rfl
  cause _ _ := rfl
  changes s := State.incPar_keeps (g := State.loader) (fun _ _ => rfl) _ _ _ (fun _ _ => rfl) s 1

/-- Without an owner a session of rank 1 or more enters the election. -/
theorem State.claim_of_ownerless {seq : Nat} (hn : n ≠ 0) (hl : s.loader = false) (ho : s.owner.session = 0) (hr : 1 ≤ (s.sess n).rank)
    (hopen : ∀ e, s.owner.election = some e → s.houseNow < e.at_ + ms 50) :
    (s.claim n seq).owner.session = 0 ∧ (∃ e, (s.claim n seq).owner.election = some e ∧ (n, seq) ∈ e.claims) ∧
      ((s.claim n seq).sess n).steady = (s.sess n).steady := by
  obtain ⟨o, howner⟩ := handoverLapse_owner s
  have hclose : electionClose (handoverLapse s) = handoverLapse s :=
    electionClose_of_open (by rw [howner, ownerBlind_houseNow.handoverLapse]; exact hopen)
  have hrank : ((handoverLapse s).sess n).rank = (s.sess n).rank := (congrArg Session.rank (handoverLapse_steady s n) :)
  unfold State.claim
  extract_lets s1 x1 o1 offered
  have h1 : s1 = handoverLapse s := hclose
  have hs1 : s1.owner.session = 0 := by rw [h1, howner]; exact ho
  have hsteady : (s1.sess n).steady = (s.sess n).steady := by rw [h1]; exact handoverLapse_steady s n
  rw [if_neg (by rw [h1, ownerBlind_loader.handoverLapse, hl]; decide)]
  rw [if_neg (show ¬ s1.owner.session = n by rw [hs1]; exact hn.symm), if_neg (not_not_intro hs1),
    if_neg (show ¬ (s1.sess n).rank = 0 by rw [h1, hrank]; omega)]
  exact ⟨hs1, ⟨_, rfl, by simp⟩, hsteady⟩


/-! ### HANDOVER, SUBSCRIBE and UNSUBSCRIBE -/

/-- A session that may take the ownership is offered it. -/
theorem State.handover_offers {seq m : Nat} (ho : (s.sess m).isOpen = true) (hr : 1 ≤ (s.sess m).rank) (hp : (s.sess m).proven = true) (hm : m ≠ n) :
    (s.handover n seq m).owner = { s.owner with offer := some ⟨m, s.houseNow, n, seq⟩ } ∧ ((s.handover n seq m).sess n).steady = (s.sess n).steady := by
  unfold State.handover
  extract_lets y _ s1 s2
  rw [if_neg (not_not_intro ho), if_neg (show ¬ ((s.sess m).rank = 0 ∨ m = n ∨ ¬ (s.sess m).proven = true) by rw [hp]; simp [hm]; omega)]
  refine ⟨foldl_keeps State.owner _ (fun z k => ?_) _ s2, (foldl_keeps (fun z : State => (z.sess n).steady) _ (fun z k => ?_) _ s2).trans ?_⟩
  · split
    · exact sendBlind_owner.notifyTo ..
    · rfl
  · split
    · exact State.notifyTo_steady ..
    · rfl
  · exact congrArg Session.steady (State.sess_setSess_other _ _ _ _ hm)

theorem State.subscribe_of_valid (h1 : field p.payload 0 4 < 0x400) (h2 : field p.payload 4 2 ≤ 60000) (h3 : field p.payload 6 1 ≤ 16)
    (h4 : ∀ pn ∈ pnsAt p.payload 8 (field p.payload 6 1), (findPar pn).isSome = true) :
    ∃ pns at_, s.subscribe n p = ansStatus (s.setSess n { s.sess n with
      eventMask := maskOf (bitsOf 10 (s.sess n).eventMask ++ bitsOf 10 (field p.payload 0 4)),
      telPeriod := if field p.payload 4 2 = 0 then (s.sess n).telPeriod else field p.payload 4 2, telPns := pns, telAt := at_ }) stDone := by
  unfold State.subscribe
  dsimp only
  have hany : (pnsAt p.payload 8 (field p.payload 6 1)).any (fun pn => (findPar pn).isNone) = false := by
    rw [List.any_eq_false]
    intro pn hpn
    rw [Option.isNone_iff_eq_none]
    exact Option.isSome_iff_ne_none.mp (h4 pn hpn)
  rw [if_neg (by simp only [hany, Bool.false_eq_true, or_false]; omega)]
  exact ⟨_, _, rfl⟩

/-- Two masks joined have the bits of either. -/
theorem bit_maskOf_append {a b g : Nat} (hg : g < 10) : maskOf (bitsOf 10 a ++ bitsOf 10 b) / 2 ^ g % 2 = max (a / 2 ^ g % 2) (b / 2 ^ g % 2) := by
  by_cases h : a / 2 ^ g % 2 = 1 ∨ b / 2 ^ g % 2 = 1
  · rw [bit_maskOf (List.mem_append.mpr (h.imp (fun h => mem_bitsOf_iff.mpr ⟨hg, h⟩) fun h => mem_bitsOf_iff.mpr ⟨hg, h⟩))]
    omega
  · rw [bit_maskOf_not_mem fun hm => h ((List.mem_append.mp hm).imp (fun h => (mem_bitsOf_iff.mp h).2) fun h => (mem_bitsOf_iff.mp h).2)]
    omega

/-- A status answered over a session the effect rewrote: the session keeps what was written, but for its replies. -/
theorem State.Begins.wrote (hx : s.Begins n p x) {y : Session} (hy : y.seqAndKey = (x.sess n).seqAndKey) {st : Nat} {t : State}
    (ht : Ends ((ansStatus (x.setSess n y) st).sent p) t) :
    s.AnswersStatus t n p st ∧ (t.sess n).eventMask = y.eventMask ∧ (t.sess n).telPeriod = y.telPeriod ∧ (t.sess n).telPns = y.telPns := by
  have hsess : (x.setSess n y).sess n = y := State.sess_setSess_same ..
  obtain ⟨hsent, hans⟩ := hx.status (y := x.setSess n y) (st := st) (f := id) (a := ansStatus (x.setSess n y) st) (by rw [hsess, hy]) rfl
  rw [hsent] at ht
  refine ⟨hans.of_ends ht, ?_⟩
  rw [ht.sess_eq]
  unfold id
  rw [State.replyRun_sess, hsess]
  exact ⟨rfl, rfl, rfl⟩

theorem State.Begins.unsubscribe (hx : s.Begins n p x) {t : State} (ht : Ends ((cmdUnsubscribe.run x n p).sent p) t) :
    s.AnswersStatus t n p stDone ∧ (∀ b, b < 10 → field p.payload 0 4 / 2 ^ b % 2 = 1 → (t.sess n).eventMask / 2 ^ b % 2 = 0) ∧
      (field p.payload 4 1 = 1 → (t.sess n).telPeriod = 0 ∧ (t.sess n).telPns = []) := by
  obtain ⟨m, hm⟩ : ∃ m, m = maskOf ((bitsOf 10 (x.sess n).eventMask).filter fun b => decide (field p.payload 0 4 / 2 ^ b % 2 = 0)) := ⟨_, rfl⟩
  have hclear (b : Nat) (hb : field p.payload 0 4 / 2 ^ b % 2 = 1) : m / 2 ^ b % 2 = 0 := by
    rw [hm]
    refine bit_maskOf_not_mem fun hb' => ?_
    have := of_decide_eq_true (List.mem_filter.mp hb').2
    omega
  by_cases h4 : field p.payload 4 1 = 1
  · have hrun : cmdUnsubscribe.run x n p = ansStatus (x.setSess n { x.sess n with eventMask := m, telPeriod := 0, telPns := [] }) stDone := by
      unfold cmdUnsubscribe State.unsubscribe
      dsimp only
      rw [if_pos h4, ← hm]
    rw [hrun] at ht
    obtain ⟨hans, hmask, htel, hpns⟩ := hx.wrote (by rfl) ht
    exact ⟨hans, fun b _ hb => by rw [hmask]; exact hclear b hb, fun _ => ⟨htel, hpns⟩⟩
  · have hrun : cmdUnsubscribe.run x n p = ansStatus (x.setSess n { x.sess n with eventMask := m }) stDone := by
      unfold cmdUnsubscribe State.unsubscribe
      dsimp only
      rw [if_neg h4, ← hm]
    rw [hrun] at ht
    obtain ⟨hans, hmask, -, -⟩ := hx.wrote (by rfl) ht
    exact ⟨hans, fun b _ hb => by rw [hmask]; exact hclear b hb, fun h => absurd h h4⟩

/-! ### OPEN and rejected packets -/

theorem ownerBlind_sendTo {β : Type} {g : State → β} (hg : SendBlind g) (s : State) (o : Origin) (b : Bytes) : g (s.sendTo o b) = g s := hg.send ..

theorem State.openSession_of_free {o : Origin} {m : Nat} (hauth : p.auth = false) (hagain : s.openAgain o p = none) (hlen : p.payload.length = 28)
    (hb : field p.payload 8 1 = 0) (htmo : field p.payload 10 2 ≤ 600) (hfree : s.freeSession = some m) : s.openSession o p = s.openAs o p m none := by
  unfold State.openSession
  rw [if_neg (by rw [hauth]; decide), hagain]
  dsimp only
  rw [if_neg (not_not_intro hlen), if_neg (by omega), hfree]
  dsimp only
  rw [hb]
  exact if_neg (by rintro ⟨h, -⟩; cases h)

/-- A session opened without AUTH. -/
theorem State.openAs_spec (o : Origin) (m : Nat) :
    ((s.openAs o p m none).sess m).isOpen = true ∧ ((s.openAs o p m none).sess m).transport = o.tp ∧ ((s.openAs o p m none).sess m).source = o.source ∧
      ((s.openAs o p m none).sess m).clientId = field p.payload 0 8 ∧ ((s.openAs o p m none).sess m).nextSeq = (p.seq + 1) % 65536 ∧
      ((s.openAs o p m none).sess m).auth = false ∧ (s.openAs o p m none).axes = s.axes ∧ (s.openAs o p m none).owner = s.owner := by
  unfold State.openAs
  dsimp only
  rw [State.sess_congr (State.sendOrWait_sessions ..), State.sess_setSess_same]
  exact ⟨rfl, rfl, rfl, rfl, rfl, rfl, ownerBlind_axes.toSendBlind.sendOrWait .., sendBlind_owner.sendOrWait ..⟩

theorem State.badReply_keeps {β : Type} {g : State → β} (hg : SendBlind g) (hlen : ∀ s : State, g (s.incPar P.rxBadLength) = g s)
    (hcheck : ∀ s : State, g (s.incPar P.rxBadCheck) = g s) (hseq : ∀ s : State, g (s.incPar P.rxBadSeq) = g s) (s : State) (o : Origin) (st : Nat) :
    g (s.badReply o p st) = g s := by
  unfold State.badReply
  extract_lets s1
  have h1 : g s1 = g s := by
    unfold s1
    (repeat' split)
    · exact hlen _
    · exact hcheck _
    · exact hseq _
    · rfl
  exact (hg.send ..).trans h1

theorem State.badReply_sessions (s : State) (o : Origin) (st : Nat) : (s.badReply o p st).sessions = s.sessions := by
  unfold State.badReply State.sendTo
  rw [State.send_sessions]
  (repeat' split)
  · exact State.incPar_sessions ..
  · exact State.incPar_sessions ..
  · exact State.incPar_sessions ..
  · rfl

theorem State.badReply_counts (s : State) (o : Origin) (h : s.par P.rxBadCheck < 4294967295) :
    (s.badReply o p stBadCheck).par P.rxBadCheck = s.par P.rxBadCheck + 1 := by
  unfold State.badReply
  rw [if_neg (by decide), if_pos rfl]
  exact ((sendBlind_of_pn (.inl (by decide)) (by decide)).send ..).trans (State.par_incPar_same h)

theorem serveRejected_of_rejected {tp : Transport} {bs : Bytes} {o : Origin} {st : Nat} (hm : s.mayServe tp = true) (hf : (s.front tp).1 = some (bs, o))
    (hl : 8 ≤ bs.length) (hh : s.headCheck o bs = some st) : s.serveRejected tp = (s.front tp).2.badReply o (parsePkt bs) st := by
  unfold State.serveRejected
  rw [if_neg (not_not_intro hm)]
  dsimp only
  rw [hf]
  dsimp only
  rw [if_neg (by omega), hh]

theorem serveOpen_of_open {tp : Transport} {bs : Bytes} {o : Origin} (hm : s.mayServe tp = true) (hf : (s.front tp).1 = some (bs, o))
    (hl : 8 ≤ bs.length) (hh : s.headCheck o bs = none) (hop : (parsePkt bs).op = 0x01) : s.serveOpen tp = (s.front tp).2.openSession o (parsePkt bs) := by
  unfold State.serveOpen
  rw [if_neg (not_not_intro hm)]
  dsimp only
  rw [hf]
  dsimp only
  rw [if_neg (by rw [hh, hop]; simp only [Option.isSome_none, Bool.false_eq_true, ne_eq, not_true_eq_false, or_false]; omega)]

theorem State.openAgain_congr {a b : State} (h : a.sessions = b.sessions) (o : Origin) : a.openAgain o p = b.openAgain o p := by
  have hs (m : Nat) : a.sess m = b.sess m := State.sess_congr h m
  unfold State.openAgain State.openSessions State.bound
  simp only [hs]

theorem State.freeSession_congr {a b : State} (h : a.sessions = b.sessions) (hl : a.loader = b.loader) : a.freeSession = b.freeSession := by
  have hs (m : Nat) : a.sess m = b.sess m := State.sess_congr h m
  unfold State.freeSession State.openSessions
  simp only [hs, hl]

theorem takeBlind_axes : TakeBlind State.axes := ⟨fun _ _ => rfl, fun _ _ => rfl, fun _ _ => rfl, fun s => State.incPar_axes s _ 0 0 1⟩
theorem takeBlind_owner : TakeBlind State.owner :=
  ⟨fun _ _ => rfl, fun _ _ => rfl, fun _ _ => rfl, fun s => State.incPar_keeps (g := State.owner) (fun _ _ => rfl) _ _ _ (fun _ _ => rfl) s 1⟩
theorem takeBlind_loader : TakeBlind State.loader :=
  ⟨fun _ _ => rfl, fun _ _ => rfl, fun _ _ => rfl, fun s => State.incPar_keeps (g := State.loader) (fun _ _ => rfl) _ _ _ (fun _ _ => rfl) s 1⟩

/-- The session of an accepted command has a number from 1. -/
theorem State.Accepts.sess_pos {tp : Transport} {c : Cmd} (h : s.Accepts tp c n p) : n ≠ 0 := by
  obtain ⟨bs, o, -, hp, -, hhead⟩ := h.offers.front
  obtain ⟨hn, hop⟩ := h.offers.session
  have hbound := State.bound_of_headCheck hhead (by rw [← hp, h.offers.opcode]; exact hop)
  unfold State.bound at hbound
  simp only [Bool.and_eq_true, decide_eq_true_eq] at hbound
  have h1 := hbound.1.1.1.1
  rw [← hp, hn] at h1
  omega

end

/-- Settles O34, row by row, each on the state that begins with its packet. -/
theorem sessionCommands : Obligations.SessionCommands := by
  unfold Obligations.SessionCommands
  intro s0 τ tp n p s
  refine ⟨fun hacc => ?_, fun hacc => ?_, fun hacc hl ho hr hc he => ?_, fun hacc => ?_, fun hacc ho hne hopen hr hp => ?_, fun hacc h1 h2 h3 h4 => ?_,
    fun hacc => hacc.does rfl fun y hy t ht => hy.unsubscribe ht, fun bs o m hm hf hp hl hh hop hauth hagain hlen hb htmo hfree => ?_, fun bs o st hm hf hl hh => ?_⟩
  · refine hacc.does rfl fun y hy t ht => ?_
    rw [hy.sent (cmdClose.run y n p) rfl] at ht
    rw [ht.sess_eq, ht.axes]
    exact ⟨State.closeSession_closed n, (State.closeSession_axes n).trans ((axes_of_quiet (State.replyRun_quiet ..)).trans hy.axes_eq)⟩
  · refine hacc.does rfl fun y hy t ht => ?_
    rw [hy.sent (cmdHeartbeat.run y n p) rfl] at ht
    have hreply : y.heartbeatReply = s.heartbeatReply := by
      unfold State.heartbeatReply State.ax
      rw [hy.dev, hy.axes_eq, hy.owner]
      rfl
    refine ⟨hreply ▸ (hy.answers rfl [y.heartbeatReply] false).of_ends ht, ?_, ?_⟩
    · exact ht.axes.trans ((axes_of_quiet (State.replyRun_quiet ..)).trans hy.axes_eq)
    · exact (congrArg Owner.session (ht.owner.trans (State.replyRun_owner ..))).trans hy.owner
  · refine hacc.does rfl fun y hy t ht => ?_
    obtain ⟨b, hbeat⟩ := hy.heartbeat
    have hrun : cmdClaim.run y n p = { ansStatus y stAccepted with after := fun s => s.claim n p.seq } := by
      refine if_neg ?_
      rw [State.claiming_congr (b := s0.at τ) (by rw [hbeat]) n, show (s0.at τ).claiming n = false from hc]
      decide
    rw [hrun] at ht
    obtain ⟨hsent, hans⟩ := hy.status (a := { ansStatus y stAccepted with after := fun s => s.claim n p.seq }) rfl rfl
    rw [hsent] at ht
    have hzo := y.replyRun_owner n p.op p.seq [leBytes 1 stAccepted] false
    obtain ⟨h1, h2, h3⟩ := State.claim_of_ownerless (s := y.replyRun n p.op p.seq [leBytes 1 stAccepted]) (n := n) (seq := p.seq) hacc.sess_pos
      ((ownerBlind_loader.toSendBlind.replyRun (fun _ _ => rfl) ..).trans (hy.loader.trans hl)) (by rw [hzo, hbeat]; exact ho)
      (by rw [State.replyRun_sess, hy.rank]; exact hr) (by rw [hzo, hbeat, State.replyRun_houseNow, hy.houseNow]; exact he)
    rw [ht.owner]
    exact ⟨(hans.of_steady h3).of_ends ht, h1, h2⟩
  · refine hacc.does rfl fun y hy t ht => ?_
    obtain ⟨hsent, hans⟩ := hy.status (a := cmdRelease.run y n p) rfl rfl
    rw [hsent] at ht
    have hown : (y.replyRun n p.op p.seq [leBytes 1 stDone]).owner.session = n :=
      (congrArg Owner.session (y.replyRun_owner ..)).trans (hy.owner.trans (hacc.owner rfl))
    have hlose := (State.loseOwner_session (s := y.replyRun n p.op p.seq [leBytes 1 stDone]) (by rw [hown]; exact hacc.sess_pos) 5).1
    rw [ht.owner, ht.axes]
    exact ⟨(hans.of_steady (State.loseOwner_steady ..)).of_ends ht, fun h => hlose (h.trans hown.symm),
      (ownerBlind_axes.loseOwner ..).trans ((axes_of_quiet (State.replyRun_quiet ..)).trans hy.axes_eq)⟩
  · refine hacc.does rfl fun y hy t ht => ?_
    obtain ⟨b, hbeat⟩ := hy.heartbeat
    have hrun : cmdHandover.run y n p = { ansStatus y stAccepted with after := fun s => s.handover n p.seq (field p.payload 0 2) } :=
      if_neg (by rw [hbeat]; exact fun h => by rw [show (s0.at τ).owner.offer = none from ho] at h; cases h)
    rw [hrun] at ht
    obtain ⟨hsent, hans⟩ := hy.status (a := { ansStatus y stAccepted with after := fun s => s.handover n p.seq (field p.payload 0 2) }) rfl rfl
    rw [hsent] at ht
    have hsess : (y.replyRun n p.op p.seq [leBytes 1 stAccepted]).sess (field p.payload 0 2) = s.sess (field p.payload 0 2) :=
      (y.replyRun_sess_other n p.op p.seq [leBytes 1 stAccepted] false hne.symm).trans (hy.others _ hne)
    obtain ⟨h1, h2⟩ := State.handover_offers (s := y.replyRun n p.op p.seq [leBytes 1 stAccepted]) (n := n) (seq := p.seq) (by rw [hsess]; exact hopen)
      (by rw [hsess]; exact hr) (by rw [hsess]; exact hp) hne
    rw [ht.owner, h1, State.replyRun_owner, State.replyRun_houseNow, hy.houseNow]
    exact ⟨(hans.of_steady h2).of_ends ht, rfl, hy.owner.trans (hacc.owner rfl)⟩
  · refine hacc.does rfl fun y hy t ht => ?_
    obtain ⟨pns, at_, hrun⟩ := State.subscribe_of_valid (s := y) (n := n) h1 h2 h3 h4
    rw [show cmdSubscribe.run y n p = _ from hrun] at ht
    obtain ⟨hans, hm, htel, -⟩ := hy.wrote (by rfl) ht
    rw [hm, htel, hy.eventMask, hy.telPeriod]
    exact ⟨hans, fun b hb => bit_maskOf_append hb, rfl⟩
  · subst hp
    have hsess := takeBlind_sessions.front (s0.at τ) tp
    have hopened := State.openSession_of_free (s := ((s0.at τ).front tp).2) (m := m) hauth ((State.openAgain_congr hsess o).trans hagain) hlen hb htmo
      ((State.freeSession_congr hsess (takeBlind_loader.front (s0.at τ) tp)).trans hfree)
    refine Does.of_answer (congrArg (answer s0) ((serveOpen_of_open (s := s0.at τ) hm hf hl hh hop).trans hopened)) fun t ht => ?_
    obtain ⟨h1, h2, h3, h4, h5, h6, h7, h8⟩ := State.openAs_spec (s := ((s0.at τ).front tp).2) (p := parsePkt bs) o m
    rw [ht.sess_eq, ht.axes, ht.owner]
    exact ⟨h1, h2, h3, h4, h5, h6, h7.trans (takeBlind_axes.front (s0.at τ) tp), h8.trans (takeBlind_owner.front (s0.at τ) tp)⟩
  · refine Does.of_answer (congrArg (answer s0) (serveRejected_of_rejected (s := s0.at τ) hm hf hl hh)) fun t ht => ?_
    have hpar := (takeBlind_par (q := P.rxBadCheck) (k := 0) (l := 0) (by decide)).front (s0.at τ) tp
    have haxes (x : State) (q : Par) : (x.incPar q).axes = x.axes := State.incPar_axes x q 0 0 1
    have howner (x : State) (q : Par) : (x.incPar q).owner = x.owner := State.incPar_keeps (g := State.owner) (fun _ _ => rfl) _ _ _ (fun _ _ => rfl) x 1
    refine ⟨fun k => ?_, ?_, ?_, fun hst hlt => ?_⟩
    · rw [ht.sess_eq]
      exact State.sess_congr ((State.badReply_sessions ..).trans (takeBlind_sessions.front (s0.at τ) tp)) k
    · rw [ht.owner]
      exact (State.badReply_keeps sendBlind_owner (fun x => howner x _) (fun x => howner x _) (fun x => howner x _) ..).trans (takeBlind_owner.front (s0.at τ) tp)
    · rw [ht.axes]
      exact (State.badReply_keeps ownerBlind_axes.toSendBlind (fun x => haxes x _) (fun x => haxes x _) (fun x => haxes x _) ..).trans
        (takeBlind_axes.front (s0.at τ) tp)
    · subst hst
      rw [ht.par_eq, State.badReply_counts _ _ (by rw [hpar]; exact hlt), hpar]
      rfl

end Sys2Proof.Machine
end

section
/-! THEOREMS. Lines, timeouts, beats, pauses and publication of the Forager. -/
namespace Sys2Proof.Machine

/-! ### A line at one channel, and at the others -/

/-- A view that shows nothing of what a line does to channel c. -/
structure ChannelBlind {β : Type} (g : State → β) (c : Nat) : Prop where
  fg : ∀ (s : State) (x : FgChan), g (s.setFg c x) = g s
  free : ∀ (s : State) (n : Nat), g { s with free := n } = g s
  fgState : ∀ (s : State) (v : Int), g (s.setPar P.fgState v c) = g s
  fgPc : ∀ (s : State) (v : Int), g (s.setPar P.fgPc v c) = g s
  fgStatus : ∀ (s : State) (v : Int), g (s.setPar P.fgStatus v c) = g s
  fgHalts : ∀ (s : State) (v : Int), g (s.setPar P.fgHalts v c) = g s

section
variable {β : Type} {g : State → β} {c : Nat} (hg : ChannelBlind g c)
include hg

theorem ChannelBlind.fgHalt (s : State) (status : Nat) : g (s.fgHalt c status) = g s := by
  unfold State.fgHalt
  exact (State.incPar_keeps hg.free _ _ _ (fun s v => hg.fgHalts s v) _ _).trans ((hg.fgStatus ..).trans ((hg.fgState ..).trans (hg.fg ..)))

theorem ChannelBlind.fgAdvance (s : State) (n : Nat) : g (s.fgAdvance c n) = g s := by
  unfold State.fgAdvance
  dsimp only
  split
  · exact hg.fgHalt ..
  · exact hg.fgPc ..

theorem ChannelBlind.lineAt (s : State) (k : Nat) : g (s.lineAt k c) = g s := by
  unfold State.lineAt
  dsimp only
  split
  · rfl
  · rfl
  · split
    · exact (hg.fgAdvance ..).trans ((hg.fgState ..).trans (hg.fg ..))
    · exact hg.fg ..

end

section
variable {β : Type} {g : State → β} (hg : ∀ c, c < 16 → ChannelBlind g c)
include hg

omit hg in
theorem each_keeps_of_mem (f : Nat → State → State) {ks : List Nat} (hf : ∀ k ∈ ks, ∀ s, g (f k s) = g s) (s : State) : g (each ks s f) = g s :=
  List.foldlRecOn (motive := fun x : State => g x = g s) ks (fun s k => f k s) rfl fun x hx k hk => (hf k hk x).trans hx

/-- A view blind to the 16 channels shows nothing of a latched line. -/
theorem latchLine_blind (s : State) (k : Nat) : g (s.latchLine k) = g s :=
  each_keeps_of_mem (fun c s => s.lineAt k c) (fun c hc x => (hg c (List.mem_range.mp hc)).lineAt x k) s

variable (hpan : ∀ (s : State) (x : Pantry), g { s with pantry := x } = g s) (hcount : ∀ (s : State) (v : Int), g (s.setPar P.panTrigCount v) = g s)
  (hstate : ∀ (s : State) (v : Int), g (s.setPar P.panState v) = g s)
include hpan hcount hstate

theorem panTrigger_blind (s : State) (cause code : Nat) (at_ : Option (Nat × Nat)) : g (s.panTrigger cause code at_) = g s := by
  have hinc (s : State) : g (s.incPar P.panTrigCount) = g s := State.incPar_keeps (hg 0 (by decide)).free _ _ _ hcount _ _
  unfold State.panTrigger
  extract_lets s1 p sidx ch p2 s2 s3
  have h3 : g s3 = g s := (latchLine_blind hg ..).trans ((hstate ..).trans ((hpan ..).trans (hinc s)))
  split
  · exact hinc s
  · split
    · exact (hinc _).trans h3
    · exact h3

theorem raiseLine_blind (s : State) (k : Nat) : g (s.raiseLine k) = g s := by
  unfold State.raiseLine
  dsimp only
  split
  · exact (panTrigger_blind hg hpan hcount hstate ..).trans (latchLine_blind hg ..)
  · exact latchLine_blind hg ..

end

/-- A register from 41279 on, and below the Pantry's, is no register of the 16 channels. -/
theorem channelBlind_par {q : Par} {k l : Nat} (h : 41279 ≤ q.pn k l) {c : Nat} (hc : c < 16) : ChannelBlind (fun s => s.par q k l) c where
  fg _ _ := rfl
  free _ _ := rfl
  fgState s v := s.par_setPar_other _ _ _ _ _ _ _ (by change 40963 + 16 * c + 0 ≠ q.pn k l; omega)
  fgPc s v := s.par_setPar_other _ _ _ _ _ _ _ (by change 40965 + 16 * c + 0 ≠ q.pn k l; omega)
  fgStatus s v := s.par_setPar_other _ _ _ _ _ _ _ (by change 40964 + 16 * c + 0 ≠ q.pn k l; omega)
  fgHalts s v := s.par_setPar_other _ _ _ _ _ _ _ (by change 41218 + 4 * c + 0 ≠ q.pn k l; omega)

/-! ### A line raised for a running channel -/

/-- What a line goes by at a channel: its record, its state and its PC. -/
def State.engine (s : State) (c : Nat) : FgChan × Int × Int := (s.fg c, s.par P.fgState c, s.par P.fgPc c)

theorem State.engine_setPar (s : State) {p : Par} {i c : Nat} (v : Int) (h1 : p.pn i 0 ≠ P.fgState.pn c 0) (h2 : p.pn i 0 ≠ P.fgPc.pn c 0) :
    (s.setPar p v i).engine c = s.engine c :=
  Prod.ext rfl (Prod.ext (s.par_setPar_other _ _ _ _ _ _ _ h1) (s.par_setPar_other _ _ _ _ _ _ _ h2))

theorem channelBlind_engine {c j : Nat} (hne : j ≠ c) : ChannelBlind (fun s => s.engine c) j where
  fg s x := Prod.ext (tget_tset_other _ _ _ _ _ hne) rfl
  free _ _ := rfl
  fgState s v := s.engine_setPar v (by change 40963 + 16 * j + 0 ≠ 40963 + 16 * c + 0; omega) (by change 40963 + 16 * j + 0 ≠ 40965 + 16 * c + 0; omega)
  fgPc s v := s.engine_setPar v (by change 40965 + 16 * j + 0 ≠ 40963 + 16 * c + 0; omega) (by change 40965 + 16 * j + 0 ≠ 40965 + 16 * c + 0; omega)
  fgStatus s v := s.engine_setPar v (by change 40964 + 16 * j + 0 ≠ 40963 + 16 * c + 0; omega) (by change 40964 + 16 * j + 0 ≠ 40965 + 16 * c + 0; omega)
  fgHalts s v := s.engine_setPar v (by change 41218 + 4 * j + 0 ≠ 40963 + 16 * c + 0; omega) (by change 41218 + 4 * j + 0 ≠ 40965 + 16 * c + 0; omega)

/-- A channel that runs at a PC with a line latched, or any line. -/
def State.Latched (s : State) (c : Nat) (pc : Int) (k : Option Nat) : Prop :=
  s.parN P.fgState c = 1 ∧ s.par P.fgPc c = pc ∧ ∀ j ∈ k, (s.fg c).latches / 2 ^ j % 2 = 1

theorem State.Latched.of_engine {s t : State} {c : Nat} {pc : Int} {k : Option Nat} (h : s.Latched c pc k) (he : t.engine c = s.engine c) : t.Latched c pc k := by
  obtain ⟨h1, h2, h3⟩ := h
  have hfg : t.fg c = s.fg c := congrArg (·.1) he
  refine ⟨(congrArg (fun e : FgChan × Int × Int => e.2.1.toNat) he).trans h1, (congrArg (fun e : FgChan × Int × Int => e.2.2) he).trans h2, fun j hj => ?_⟩
  rw [hfg]
  exact h3 j hj

section
variable {s : State} {c : Nat} {pc : Int} {k : Option Nat}

theorem State.lineAt_of_running (h : s.parN P.fgState c = 1) (j : Nat) : s.lineAt j c =
    s.setFg c { s.fg c with latches := if (s.fg c).latches / 2 ^ j % 2 = 1 then (s.fg c).latches else (s.fg c).latches + 2 ^ j } := by
  unfold State.lineAt
  dsimp only
  rw [h]
  exact if_neg (by rintro ⟨h, -⟩; cases h)

theorem State.Latched.lineAt (h : s.Latched c pc k) (j : Nat) : (s.lineAt j c).Latched c pc k ∧ (s.lineAt j c).Latched c pc (some j) := by
  obtain ⟨h1, h2, h3⟩ := h
  have hbit (i : Nat) (hi : (s.fg c).latches / 2 ^ i % 2 = 1 ∨ i = j) : (if (s.fg c).latches / 2 ^ j % 2 = 1 then (s.fg c).latches else (s.fg c).latches + 2 ^ j) / 2 ^ i % 2 = 1 := by
    by_cases hj : (s.fg c).latches / 2 ^ j % 2 = 1
    · rw [if_pos hj]
      exact hi.elim id fun e => e ▸ hj
    · rw [if_neg hj]
      exact bit_add_two_pow (by omega) hi
  rw [State.lineAt_of_running h1]
  unfold State.Latched
  rw [State.fg_setFg_same]
  exact ⟨⟨h1, h2, fun i hi => hbit i (.inl (h3 i hi))⟩, ⟨h1, h2, fun i hi => hbit i (.inr (Option.some.inj hi).symm)⟩⟩

theorem State.Latched.latchLine (h : s.Latched c pc k) (hc : c < 16) (j : Nat) : (s.latchLine j).Latched c pc k ∧ (s.latchLine j).Latched c pc (some j) := by
  obtain ⟨x, hx, heach⟩ := each_once (fun s : State => s.engine c) (fun c s => s.lineAt j c) (List.nodup_range (n := 16)) (List.mem_range.mpr hc)
    (fun i _ hne s => (channelBlind_engine hne).lineAt s j) s
  obtain ⟨h1, h2⟩ := (h.of_engine hx).lineAt j
  exact ⟨h1.of_engine heach, h2.of_engine heach⟩

theorem State.Latched.panTrigger (h : s.Latched c pc k) (hc : c < 16) (cause code : Nat) (at_ : Option (Nat × Nat)) : (s.panTrigger cause code at_).Latched c pc k := by
  have hset (x : State) (q : Par) (v : Int) (hq : 45328 ≤ q.pn 0 0) : (x.setPar q v).engine c = x.engine c :=
    x.engine_setPar v (by change q.pn 0 0 ≠ 40963 + 16 * c + 0; omega) (by change q.pn 0 0 ≠ 40965 + 16 * c + 0; omega)
  have hcount (x : State) : (x.incPar P.panTrigCount).engine c = x.engine c :=
    State.incPar_keeps (g := fun x : State => x.engine c) (fun _ _ => rfl) _ _ _ (fun x v => hset x _ v (by decide)) x 1
  unfold State.panTrigger
  extract_lets s1 p sidx ch p2 s2 s3
  have h1 : s1.Latched c pc k := h.of_engine (hcount s)
  have h2 : s2.Latched c pc k := h1.of_engine rfl
  have h3 : s3.Latched c pc k := ((h2.of_engine (hset s2 P.panState 2 (by decide))).latchLine hc 14).1
  split
  · exact h1
  · split
    · exact h3.of_engine (hcount _)
    · exact h3

/-- A line raised is latched by a channel that runs. -/
theorem State.Latched.raiseLine (h : s.Latched c pc none) (hc : c < 16) (j : Nat) : (s.raiseLine j).Latched c pc (some j) := by
  have h1 := (h.latchLine hc j).2
  unfold State.raiseLine
  dsimp only
  split
  · exact h1.panTrigger hc ..
  · exact h1

end

/-! ### Beats -/

section
variable {s : State} {c : Nat}

theorem State.hwrite_of_working {a : Nat} (h : regionOf a = .working) (bs : Bytes) : s.hwrite a bs = s.lstore a bs := by
  generalize hunfold : State.hwrite = w
  delta State.hwrite at hunfold
  subst hunfold
  beta_reduce
  rw [h]

theorem State.lstore_larder (s : State) (a : Nat) (bs : Bytes) : (s.lstore a bs).larder = (s.lwrite a bs).larder := by
  refine foldl_keeps State.larder _ (fun x w => ?_) _ _
  split
  · exact State.wordRewritten_larderKept ..
  · rfl

/-- A stored word's error ends as a fault does: of the parameters, nothing but a message's counters can change. -/
theorem BusBlind.lstore {β : Type} {g : State → β} (hg : BusBlind g) (hring : ∀ (s : State) x, g { s with faultRing := x } = g s)
    (hstand : ∀ (s : State) x, g { s with standing := x } = g s) (hecc : ∀ (s : State) x, g { s with eccErrs := x } = g s)
    (hlarder : ∀ (s : State) x, g { s with larder := x } = g s) (s : State) (a : Nat) (bs : Bytes) : g (s.lstore a bs) = g s := by
  refine (foldl_keeps g _ (fun x w => ?_) _ _).trans (hlarder ..)
  split
  · unfold State.wordRewritten
    split
    · exact (hg.unstandCode hring hstand ..).trans (hecc ..)
    · rfl
  · rfl

/-- The time and the axes: of what a stored word's error may send, nothing shows in them. -/
theorem busBlind_nowAxes : BusBlind fun s => (s.now, s.axes) where
  queues _ _ _ := rfl
  ring _ _ := rfl
  sessions _ _ := rfl
  waiting _ _ := rfl
  ops _ _ := rfl
  boot _ _ := rfl
  frames _ _ _ := rfl
  life _ _ _ _ := rfl
  feeds _ _ _ _ := rfl
  overflow s _ := State.incPar_keeps (g := fun s : State => (s.now, s.axes)) (fun _ _ => rfl) _ _ _ (fun _ _ => rfl) s 1
  drops s := State.incPar_keeps (g := fun s : State => (s.now, s.axes)) (fun _ _ => rfl) _ _ _ (fun _ _ => rfl) s 1
  lifeDrops s _ n := State.incPar_keeps (g := fun s : State => (s.now, s.axes)) (fun _ _ => rfl) _ _ _ (fun _ _ => rfl) s n
  copies s := State.incPar_keeps (g := fun s : State => (s.now, s.axes)) (fun _ _ => rfl) _ _ _ (fun _ _ => rfl) s 1
  forwards s _ := State.incPar_keeps (g := fun s : State => (s.now, s.axes)) (fun _ _ => rfl) _ _ _ (fun _ _ => rfl) s 1

theorem State.lstore_nowAxes (s : State) (a : Nat) (bs : Bytes) : (s.lstore a bs).now = s.now ∧ (s.lstore a bs).axes = s.axes :=
  Prod.mk.inj (busBlind_nowAxes.lstore (fun _ _ => rfl) (fun _ _ => rfl) (fun _ _ => rfl) (fun _ _ => rfl) s a bs)

/-- A beat that lands: the other beats wait on, its bytes are stored, and no others. -/
theorem State.lstore_beat (hc : c < 16) {x : FgChan} (hwf : s.LarderWf) (a : Nat) (bs : Bytes) :
    ((s.setFg c x).lstore a bs).fg c = x ∧ ((s.setFg c x).lstore a bs).lread a bs.length = bs ∧
      ((s.setFg c x).lstore a bs).parN P.fgPc c = s.parN P.fgPc c ∧
      ∀ b, (b < a ∨ a + bs.length ≤ b) → ((s.setFg c x).lstore a bs).byteAt b = s.byteAt b := by
  have hl := (s.setFg c x).lstore_larder a bs
  refine ⟨?_, ?_, ?_, fun b hb => ?_⟩
  · exact (State.fg_of_channel (State.lstore_channel hc ..)).trans (State.fg_setFg_same ..)
  · unfold State.lread
    rw [hl]
    exact (s.setFg c x).lread_lwrite a bs hwf
  · have hbus : BusBlind fun s => s.par P.fgPc c := busBlind_of_pn (40965 + 16 * c) rfl (by omega)
    exact congrArg Int.toNat (hbus.lstore (fun _ _ => rfl) (fun _ _ => rfl) (fun _ _ => rfl) (fun _ _ => rfl) ..)
  · unfold State.byteAt
    rw [hl]
    exact (s.setFg c x).byteAt_lwrite_other a bs b hwf hb

theorem writeBeatResponse_of_ok {b b' : FgBeat} {rest : List FgBeat} (hout : (s.fg c).outstanding = b :: b' :: rest) :
    writeBeatResponse c true s = (s.setFg c { s.fg c with outstanding := b' :: rest }).beatLands b := by
  unfold writeBeatResponse
  dsimp only
  rw [hout]
  dsimp only
  rw [if_pos rfl]
  exact if_neg (by rintro ⟨h, -⟩; cases h)

theorem State.beatLands_of_working {b : FgBeat} (hb : larderBase ≤ b.addr) (hr : regionOf b.addr = .working) : s.beatLands b = s.lstore b.addr b.data := by
  unfold State.beatLands
  rw [if_neg (Nat.not_lt.mpr hb), State.hwrite_of_working hr]

theorem writeBeatResponse_of_retry {b b' : FgBeat} {rest : List FgBeat} (hout : (s.fg c).outstanding = b :: b' :: rest) (hstop : (s.fg c).stopping = false)
    (hfail : (s.fg c).failing = false) (ht : b.tries < s.parN P.fgRetry c) :
    writeBeatResponse c false s = ((s.setFg c { s.fg c with outstanding := b' :: rest ++ [{ b with tries := b.tries + 1 }] }).incPar P.fgRetried c).incPar P.fgBeats c := by
  unfold writeBeatResponse
  dsimp only
  rw [hout]
  dsimp only
  rw [if_neg (by decide), if_neg (by rw [hstop]; decide), if_pos ⟨by rw [hfail]; decide, ht⟩]

theorem writeBeatResponse_of_failed {b b' : FgBeat} {rest : List FgBeat} (hout : (s.fg c).outstanding = b :: b' :: rest) (hstop : (s.fg c).stopping = false)
    (ht : s.parN P.fgRetry c ≤ b.tries) :
    writeBeatResponse c false s = (s.setFg c { s.fg c with outstanding := b' :: rest }).setFg c { s.fg c with outstanding := b' :: rest, failing := true } := by
  unfold writeBeatResponse
  dsimp only
  rw [hout]
  dsimp only
  rw [if_neg (by decide), if_neg (by rw [hstop]; decide), if_neg (by omega), State.fg_setFg_same]
  exact if_neg Bool.false_ne_true

/-! ### Timeouts, pauses and publication -/

theorem State.fgHalt_par (s : State) (hc : c < 16) (status : Nat) :
    (s.fgHalt c status).par P.fgState c = 4 ∧ (s.fgHalt c status).par P.fgStatus c = status ∧ (s.fgHalt c status).par P.fgPc c = s.par P.fgPc c := by
  have hhalts (x : State) {q : Par} {n : Nat} (hn : q.pn c 0 = n) (h : n < 41218) : (x.incPar P.fgHalts c).par q c = x.par q c :=
    x.incPar_par_other _ _ _ _ _ _ _ (by rw [hn]; change 41218 + 4 * c + 0 ≠ n; omega)
  have hstatus (x : State) {q : Par} {n : Nat} (hn : q.pn c 0 = n) (h : n ≠ 40964 + 16 * c) : (x.setPar P.fgStatus status c).par q c = x.par q c :=
    x.par_setPar_other _ _ _ _ _ _ _ (by rw [hn]; exact h.symm)
  unfold State.fgHalt
  refine ⟨?_, ?_, ?_⟩
  · exact (hhalts _ (n := 40963 + 16 * c) rfl (by omega)).trans ((hstatus _ (n := 40963 + 16 * c) rfl (by omega)).trans (State.par_setPar_same ..))
  · exact (hhalts _ (n := 40964 + 16 * c) rfl (by omega)).trans (State.par_setPar_same ..)
  · exact (hhalts _ (n := 40965 + 16 * c) rfl (by omega)).trans ((hstatus _ (n := 40965 + 16 * c) rfl (by omega)).trans
      (State.par_setPar_other _ _ _ _ _ _ _ _ (by change 40963 + 16 * c + 0 ≠ 40965 + 16 * c + 0; omega)))

theorem waitTimeout_of_over {u : Nat} (hst : s.parN P.fgState c = 2) (hu : (s.fg c).timeoutAt = some u) (h : u ≤ s.now) : waitTimeout c s = s.fgHalt c 0x16 := by
  unfold waitTimeout
  rw [hu]
  exact if_pos ⟨hst, h⟩

theorem State.fgDisable_setPar (s : State) (v w : Int) : ((s.setPar P.fgDisable v c).setPar P.fgState w c).par P.fgDisable c = v ∧
    ((s.setPar P.fgDisable v c).setPar P.fgState w c).par P.fgState c = w :=
  ⟨(State.par_setPar_other _ _ _ _ _ _ _ _ (by change 40963 + 16 * c + 0 ≠ 40962 + 16 * c + 0; omega)).trans (State.par_setPar_same ..), State.par_setPar_same ..⟩

theorem fgDisableWrite_pauses (hlo : 4 ≤ c) (hhi : c < 16) (hd : s.par P.fgDisable c = 0) (hst : s.parN P.fgState c = 1) :
    (fgDisableWrite c 1 s).par P.fgDisable c = 1 ∧ (fgDisableWrite c 1 s).par P.fgState c = 3 ∧ ((fgDisableWrite c 1 s).fg c).resume = 1 := by
  have hd' : s.parN P.fgDisable c = 0 := congrArg Int.toNat hd
  have hst' : (s.setPar P.fgDisable 1 c).parN P.fgState c = 1 :=
    (congrArg Int.toNat (State.par_setPar_other _ _ _ _ _ _ _ _ (by change 40962 + 16 * c + 0 ≠ 40963 + 16 * c + 0; omega))).trans hst
  unfold fgDisableWrite
  rw [if_neg (by omega)]
  dsimp only
  rw [hd', show ((1 : Nat) : Int) = 1 from rfl, hst', if_pos ⟨rfl, rfl, .inl rfl⟩]
  obtain ⟨h1, h2⟩ := (s.setFg c { s.fg c with resume := 1, timeoutLeft := (s.fg c).timeoutAt.map (· - s.now), timeoutAt := none }).fgDisable_setPar (c := c) 1 3
  exact ⟨h1, h2, congrArg FgChan.resume (State.fg_setFg_same ..)⟩

theorem fgDisableWrite_resumes (hlo : 4 ≤ c) (hhi : c < 16) (hst : s.parN P.fgState c = 3) (hstop : (s.fg c).stopping = false)
    (hres : (s.fg c).resume = 1) (hrun : (s.fg c).run = none) :
    (fgDisableWrite c 0 s).par P.fgDisable c = 0 ∧ (fgDisableWrite c 0 s).par P.fgState c = 1 := by
  have hst' : (s.setPar P.fgDisable 0 c).parN P.fgState c = 3 :=
    (congrArg Int.toNat (State.par_setPar_other _ _ _ _ _ _ _ _ (by change 40962 + 16 * c + 0 ≠ 40963 + 16 * c + 0; omega))).trans hst
  have hfg : (s.setPar P.fgDisable 0 c).fg c = s.fg c := rfl
  unfold fgDisableWrite
  rw [if_neg (by omega)]
  dsimp only
  rw [show ((0 : Nat) : Int) = 0 from rfl, hst', hfg, if_neg (by rintro ⟨h, -⟩; cases h), if_pos ⟨rfl, rfl, by rw [hstop]; decide⟩, hres, hrun]
  rw [if_neg (by rintro ⟨h, -⟩; cases h)]
  exact (s.setFg c { s.fg c with timeoutAt := (s.fg c).timeoutLeft.map (s.now + ·), timeoutLeft := none }).fgDisable_setPar (c := c) 0 1

theorem memRead_prefix (d : Byte) (m : List Host.Cell) (a n k : Nat) : (memRead d m a (n + k)).take n = memRead d m a n := by
  induction n generalizing a with
  | zero => rw [List.take_zero]; rfl
  | succ n ih =>
    rw [Nat.succ_add]
    exact congrArg (memGet d m a :: ·) (ih (a + 1))

/-- What was written first of several bytes is read back alone. -/
theorem State.lread_lwrite_prefix (h : s.LarderWf) (a : Nat) (b1 b2 : Bytes) : (s.lwrite a (b1 ++ b2)).lread a b1.length = b1 := by
  have hall := s.lread_lwrite a (b1 ++ b2) h
  rw [List.length_append] at hall
  have hpre := memRead_prefix 0#8 (s.lwrite a (b1 ++ b2)).larder a b1.length b2.length
  exact hpre.symm.trans ((congrArg (List.take b1.length) hall).trans (List.take_left ..))

theorem publishRecord_spec {k : Nat} (hk : k < 8) (hp : s.parN P.pubPeriod k ≠ 0) (hn : s.parN P.pubN k ≠ 0) (hf : s.firmware = true)
    (hdue : pubDue k s = true) (hwf : s.LarderWf) (h0 : 0 ≤ s.par P.pubSeq k) (hlt : s.par P.pubSeq k < 4294967295) :
    (publishRecord k s).par P.pubSeq k = s.par P.pubSeq k + 1 ∧ tget (publishRecord k s).pubAt 0 k = s.now ∧
      (publishRecord k s).lread (s.parN P.pubAddr k) 4 = leBytes 4 (s.parN P.pubSeq k + 1) ∧ (publishRecord k s).axes = s.axes := by
  have hseq : P.pubSeq.pn k 0 = 41475 + 32 * k := rfl
  have hbus : BusBlind fun s => s.par P.pubSeq k := busBlind_of_pn _ hseq (by omega)
  have hline : ∀ c, c < 16 → ChannelBlind (fun s => s.par P.pubSeq k) c := fun c hc => channelBlind_par (by rw [hseq]; omega) hc
  have hpubAt : LineBlind State.pubAt := .of_setPar (fun _ _ => rfl) (fun _ _ => rfl) (fun _ _ => rfl) (fun _ _ _ _ => rfl)
  have hlarder : LineBlind State.larder := .of_setPar (fun _ _ => rfl) (fun _ _ => rfl) (fun _ _ => rfl) (fun _ _ _ _ => rfl)
  unfold publishRecord
  extract_lets n vals s1 s2 s3
  have h1 : s1.par P.pubSeq k = s.par P.pubSeq k + 1 := State.par_incPar_same hlt
  have h1n : s1.parN P.pubSeq k = s.parN P.pubSeq k + 1 := by
    unfold State.parN
    omega
  have h1a : s1.parN P.pubAddr k = s.parN P.pubAddr k :=
    congrArg Int.toNat (s.incPar_par_other _ _ _ _ _ _ _ (by change 41475 + 32 * k + 0 ≠ 41473 + 32 * k + 0; omega))
  have h2 : s2.par P.pubSeq k = s.par P.pubSeq k + 1 := (hbus.lstore (fun _ _ => rfl) (fun _ _ => rfl) (fun _ _ => rfl) (fun _ _ => rfl) ..).trans h1
  have h2l : s2.larder = (s1.lwrite (s.parN P.pubAddr k) (leBytes 4 (s.parN P.pubSeq k + 1) ++ (leBytes 4 0 ++ (leBytes 8 s1.swarmMicros ++ vals)))).larder := by
    unfold s2
    rw [State.lstore_larder, h1a, h1n]
    simp only [List.append_assoc]
  obtain ⟨h2n, h2x⟩ := s1.lstore_nowAxes (s1.parN P.pubAddr k) (leBytes 4 (s1.parN P.pubSeq k) ++ leBytes 4 0 ++ leBytes 8 s1.swarmMicros ++ vals)
  have h1n' : s1.now = s.now := State.incPar_keeps (g := State.now) (fun _ _ => rfl) _ _ _ (fun _ _ => rfl) s 1
  rw [if_neg (by rw [hf, hdue]; simp [hp, n, hn]; omega)]
  refine ⟨(raiseLine_blind hline (fun _ _ => rfl) (fun x v => ?_) (fun x v => ?_) s3 _).trans h2, ?_, ?_, ?_⟩
  · exact x.par_setPar_other _ _ _ _ _ _ _ (by rw [hseq]; change 45330 ≠ 41475 + 32 * k; omega)
  · exact x.par_setPar_other _ _ _ _ _ _ _ (by rw [hseq]; change 45328 ≠ 41475 + 32 * k; omega)
  · rw [hpubAt.raiseLine]
    exact (tget_tset_same ..).trans (h2n.trans h1n')
  · unfold State.lread
    rw [hlarder.raiseLine]
    have hwf1 : s1.LarderWf := by
      unfold State.LarderWf
      rw [State.incPar_larder]
      exact hwf
    exact (congrArg (fun m => memRead 0#8 m (s.parN P.pubAddr k) 4) h2l).trans (s1.lread_lwrite_prefix hwf1 _ (leBytes 4 (s.parN P.pubSeq k + 1)) _)
  · exact (State.raiseLine_axes ..).trans (h2x.trans (State.incPar_axes ..))

end

/-- Settles O48, event by event. -/
theorem foragerEvents : Obligations.ForagerEvents := by
  unfold Obligations.ForagerEvents
  intro s0 τ c s hlo hhi
  have hτ : τ ≤ (s0.at τ).now := Nat.le_max_right ..
  refine ⟨fun k hk hst => ?_, fun k h37 h47 => ?_, fun u hst hu hle => ?_, fun b b' rest hout => ⟨fun hwf hb hr => ?_, fun hstop hfail ht => ?_, fun hstop hfail ht => ?_⟩,
    fun hstop hout => ?_, fun hd hst => ?_, fun hst hstop hres hrun => ?_, fun k hk hp hn hf hdue hwf h0 hlt => ?_⟩
  · have hraise : eventLineRaise k (s0.at τ) = (s0.at τ).raiseLine k := if_neg (by omega)
    refine Does.of_answer (congrArg (answer s0) hraise) fun t ht => ?_
    obtain ⟨-, h2, h3⟩ := State.Latched.raiseLine (s := s0.at τ) (c := c) (pc := (s0.at τ).par P.fgPc c) ⟨hst, rfl, fun j hj => by cases hj⟩ hhi k
    rw [ht.fg_eq, ht.parN_eq, ht.axes]
    exact ⟨h3 k rfl, congrArg Int.toNat h2, State.raiseLine_axes ..⟩
  · have hnone : eventLineRaise k (s0.at τ) = s0.at τ := if_pos (.inr ⟨h37, h47⟩)
    refine Does.of_answer (congrArg (answer s0) hnone) fun t ht => ?_
    exact ⟨ht.forager, ht.params⟩
  · refine Does.of_answer (congrArg (answer s0) (waitTimeout_of_over (s := s0.at τ) hst hu (hle.trans hτ))) fun t ht => ?_
    unfold State.FgHalted
    rw [ht.par_eq, ht.par_eq, ht.par_eq]
    exact State.fgHalt_par _ hhi _
  · refine Does.of_answer (congrArg (answer s0) ((writeBeatResponse_of_ok (s := s0.at τ) hout).trans (State.beatLands_of_working hb hr))) fun t ht => ?_
    obtain ⟨h1, h2, h3, h4⟩ := State.lstore_beat (s := s0.at τ) (x := { (s0.at τ).fg c with outstanding := b' :: rest }) hhi hwf b.addr b.data
    rw [ht.fg_eq, ht.parN_eq, h1, h3]
    refine ⟨rfl, ?_, rfl, fun a ha => (ht.byteAt_eq a).trans (h4 a ha)⟩
    unfold State.lread
    rw [ht.larder]
    exact h2
  · refine Does.of_answer (congrArg (answer s0) (writeBeatResponse_of_retry (s := s0.at τ) hout hstop hfail ht)) fun t hx => ?_
    rw [hx.fg_eq, hx.larder, State.fg_incPar, State.fg_incPar, State.fg_setFg_same, State.incPar_larder, State.incPar_larder]
    exact ⟨rfl, rfl⟩
  · refine Does.of_answer (congrArg (answer s0) (writeBeatResponse_of_failed (s := s0.at τ) hout hstop ht)) fun t hx => ?_
    rw [hx.fg_eq, hx.larder, State.fg_setFg_same]
    exact ⟨rfl, rfl, rfl⟩
  · refine Does.of_answer (congrArg (answer s0) (stopDrained_of_drained (s := s0.at τ) hstop hout)) fun t ht => ?_
    rw [ht.par_eq, ht.par_eq, ht.fg_eq, ht.larder]
    exact ⟨State.fgIdle_fgState .., State.par_setPar_same .., (State.fgIdle_fg ..).2, rfl⟩
  · refine Does.of_answer rfl fun t ht => ?_
    rw [ht.par_eq, ht.par_eq, ht.fg_eq]
    exact fgDisableWrite_pauses (s := s0.at τ) hlo hhi hd hst
  · refine Does.of_answer rfl fun t ht => ?_
    rw [ht.par_eq, ht.par_eq]
    exact fgDisableWrite_resumes (s := s0.at τ) hlo hhi hst hstop hres hrun
  · refine Does.of_answer rfl fun t ht => ?_
    rw [ht.par_eq, ht.pubAt, ht.axes]
    unfold State.lread
    rw [ht.larder]
    exact publishRecord_spec (s := s0.at τ) hk hp hn hf hdue hwf h0 hlt

end Sys2Proof.Machine
end

section
/-! # The Cellar's own marks

The operations that hold cells off and take axes into STO change the causes of the Cellar alone. -/
namespace Sys2Proof.Machine

/-- The Cellar without its hold-off causes: inputs, demand, discrepancy and timers. -/
def State.marks (s : State) : Cellar := { s.cellar with causes := [] }

theorem State.marks_of_cellar {s t : State} (h : t.cellar = s.cellar) : t.marks = s.marks := congrArg (fun c : Cellar => { c with causes := [] }) h

theorem State.holdCells_marks (s : State) (cause : Nat) (cells : List Nat) : (s.holdCells cause cells).marks = s.marks := by
  unfold State.holdCells
  extract_lets fresh m _ s1 s2
  have h1 : s1.marks = s.marks := rfl
  have h2 : s2.marks = s.marks :=
    (State.marks_of_cellar (each_keeps State.cellar _ (fun g s => (State.softOff_cellar ..).trans (State.softOff_cellar ..)) fresh s1)).trans h1
  split
  · exact h2
  · exact (State.marks_of_cellar (cellar_of_quiet (State.raiseLine_quiet ..))).trans h2

theorem State.ss1Chopper_marks (s : State) : s.ss1Chopper.marks = s.marks := by
  unfold State.ss1Chopper
  split
  · exact s.holdCells_marks 1 [12]
  · rfl

theorem State.endPrecheckCells_marks (s : State) (k : Nat) : (s.endPrecheckCells k).marks = s.marks := by
  unfold State.endPrecheckCells
  split
  · rfl
  · unfold State.testCurrent
    split <;> rfl

theorem State.enterSto_marks (s : State) (k : Nat) : (s.enterSto k).marks = s.marks := by
  unfold State.enterSto
  extract_lets st s1 s2
  have h1 : s1.marks = s.marks := (State.marks_of_cellar (cellar_of_quiet (State.endOp_quiet ..))).trans (s.endPrecheckCells_marks k)
  have h2 : s2.marks = s.marks := ite_holds (p := fun x : State => x.marks = s.marks) ((State.marks_of_cellar (s1.stopLane_cellar k)).trans h1) h1
  split
  · rfl
  · exact (State.marks_of_cellar (State.moveAxis_cellar ..)).trans h2

theorem State.heldAxis_marks (s : State) (k : Nat) : (s.heldAxis k).marks = s.marks := by
  unfold State.heldAxis
  dsimp only
  split
  · split
    · exact (State.enterSto_marks ..).trans (State.holdCells_marks ..)
    · split <;> rfl
  · rfl

theorem State.holdOff_marks (s : State) (cause : Nat) (cells : List Nat) : (s.holdOff cause cells).marks = s.marks :=
  (State.ss1Chopper_marks _).trans <| (each_keeps State.marks _ (fun k s => s.heldAxis_marks k) _ _).trans (s.holdCells_marks cause cells)

theorem State.arb_cellar (s : State) (k rank : Nat) : (s.arb k rank).1.cellar = s.cellar := by
  unfold State.arb
  dsimp only
  (repeat' split) <;> rfl

/-- An axis without off-state diagnostics takes no cell from a cause as it enters STO. -/
theorem State.enterSto_cellar {s : State} {k : Nat} (h : (s.ax k).precheck = none) : (s.enterSto k).cellar = s.cellar := by
  have h0 : s.endPrecheckCells k = s := by
    unfold State.endPrecheckCells
    rw [h]
  unfold State.enterSto
  extract_lets st s1 s2
  have h1 : s1.cellar = s.cellar := (cellar_of_quiet (State.endOp_quiet ..)).trans (congrArg State.cellar h0)
  have h2 : s2.cellar = s.cellar := ite_holds (p := fun x : State => x.cellar = s.cellar) ((s1.stopLane_cellar k).trans h1) h1
  split
  · rfl
  · exact (State.moveAxis_cellar ..).trans h2

theorem State.enterSto_ax_other (s : State) (k : Nat) {i : Nat} (hi : k ≠ i) : (s.enterSto k).ax i = s.ax i := by
  unfold State.enterSto
  extract_lets st s1 s2
  have h1 : s1.ax i = s.ax i := (s.endPrecheck_ax k _ i).trans (s.endPrecheckCells_ax_other k hi)
  have hlane : (s1.stopLane k).ax i = s1.ax i := (State.ax_of_axes (s1.stopLane_ax k) i).trans (State.ax_setAx_other _ _ _ _ hi)
  have h2 : s2.ax i = s.ax i := ite_holds (p := fun x : State => x.ax i = s.ax i) (hlane.trans h1) h1
  split
  · rfl
  · exact (State.moveAxis_ax_other _ _ _ hi).trans ((State.ax_of_axes (State.endEpisode_axes ..) i).trans ((State.ax_setAx_other _ _ _ _ hi).trans h2))

/-- Every axis is in STO once each has entered it. -/
theorem State.enterSto_each (s : State) {k : Nat} (hk : k < 4) : (((each (upto 4) s fun k s => s.enterSto k).ax k).st) = .sto := by
  obtain ⟨x, -, h⟩ := each_once (fun s : State => s.ax k) (fun k s => s.enterSto k) List.nodup_range (List.mem_range.mpr hk)
    (fun i _ hi s => s.enterSto_ax_other i hi) s
  exact (congrArg Axis.st h :).trans (x.enterSto_ax k).1

theorem State.enterSto_each_holds (s : State) {c g : Nat} (hc : c ≠ 6) (hg : g < 13) (h : s.holds c g) :
    (each (upto 4) s fun k s => s.enterSto k).holds c g :=
  foldl_keepsHolds State.enterSto_keepsHolds (upto 4) s c g hc hg h

theorem State.enterSto_each_marks (s : State) : (each (upto 4) s fun k s => s.enterSto k).marks = s.marks :=
  each_keeps State.marks _ (fun k s => s.enterSto_marks k) _ s

/-- A hold-off of every cell holds each. -/
theorem State.holdOff_all (s : State) {cause g : Nat} (hc : cause ≠ 6) (hg : g < 13) : (s.holdOff cause (upto 13)).holds cause g :=
  s.holdOff_held hc hg (List.mem_range.mpr hg)

/-! ### A hold-off by the house cores (Table 9.7, bit 6) -/

/-- No axis that stops has off-state diagnostics. -/
def State.Settled (s : State) : Prop := ∀ k, k < 4 → (s.ax k).st = .stopping → (s.ax k).precheck = none

theorem State.Settled.of_axes {s t : State} (h : s.Settled) (ht : t.axes = s.axes) : t.Settled := fun k hk => by
  rw [State.ax_of_axes ht]
  exact h k hk

theorem State.Settled.enterSto {s : State} (h : s.Settled) (i : Nat) : (s.enterSto i).Settled := fun k hk hst => by
  obtain rfl | hi := eq_or_ne i k
  · rw [(s.enterSto_ax i).1] at hst
    cases hst
  · rw [s.enterSto_ax_other i hi] at hst ⊢
    exact h k hk hst

theorem State.Settled.heldAxis {s : State} (h : s.Settled) (i : Nat) : (s.heldAxis i).Settled := by
  unfold State.heldAxis
  dsimp only
  split
  · split
    · exact (h.of_axes (State.holdCells_axes ..)).enterSto i
    · refine ite_holds (fun k hk => ?_) h
      obtain rfl | hi := eq_or_ne i k
      · rw [State.ax_modAx_same]
        exact h i hk
      · rw [State.modAx, State.ax_setAx_other _ _ _ _ hi]
        exact h k hk
  · exact h

/-- Cells that an axis off its diagnostics follows stay with every cause. -/
theorem State.heldAxis_holds {s : State} (h : s.Settled) {i c g : Nat} (hi : i < 4) (hg : g < 13) (hs : s.holds c g) : (s.heldAxis i).holds c g := by
  unfold State.heldAxis
  dsimp only
  split
  · split
    next hst =>
      refine State.holds_of_cellar (State.enterSto_cellar ?_) (s.holdCells_holds 1 _ hg hs)
      rw [State.ax_of_axes (State.holdCells_axes ..)]
      exact h i hi hst.1
    · split <;> exact hs
  · exact hs

theorem State.holdOff_holds {s : State} (h : s.Settled) {cause g : Nat} {cells : List Nat} (hg : g < 13) (hc : g ∈ cells) :
    (s.holdOff cause cells).holds cause g := by
  have hall : (each (upto 4) (s.holdCells cause cells) fun k s => s.heldAxis k).Settled ∧
      (each (upto 4) (s.holdCells cause cells) fun k s => s.heldAxis k).holds cause g :=
    List.foldlRecOn (motive := fun x : State => x.Settled ∧ x.holds cause g) (upto 4) _
      ⟨h.of_axes (State.holdCells_axes ..), s.holdCells_held cause hc⟩
      fun x ⟨hx, hxg⟩ k hk => ⟨hx.heldAxis k, State.heldAxis_holds hx (List.mem_range.mp hk) hg hxg⟩
  unfold State.holdOff State.ss1Chopper
  exact ite_holds (p := fun x : State => x.holds cause g) (State.holdCells_holds _ _ _ hg hall.2) hall.2

/-- The end of the house cores' own hold-off. -/
theorem holdoffRequest_ends {s : State} (h : s.noPair = false) (mask : Nat) : holdoffRequest mask false s =
    (let m := maskOf ((bitsOf 13 (tget s.cellar.causes 0 6)).filter fun g => mask / 2 ^ g % 2 = 0)
    { s with cellar := { s.cellar with causes := tset s.cellar.causes 6 m } }) := by
  unfold holdoffRequest
  rw [h]
  rfl

/-- A bridge whose overcurrent lasts behind a channel still on: the Cellar holds its cells, and the fault stands. -/
theorem ocBackstop_acts {s : State} {b : Nat} (hb : b < 4) (hoc : (s.bridge b).oc = true) (hat : (s.bridge b).ocAt + 2000 ≤ s.now)
    (hon : ((chansOfBridge b).any fun c => (s.chan c).on && decide ((s.chan c).soft = .none)) = true) (hback : b ∉ s.cellar.backstop) :
    (ocBackstop b s).stands 0x0902 b = true ∧ ∀ g ∈ cellsOfBridge b, (ocBackstop b s).heldOff g = true := by
  unfold ocBackstop
  extract_lets br stuck s1
  have hstuck : stuck = true := by
    obtain ⟨c, hc, h⟩ := List.any_eq_true.mp hon
    rw [Bool.and_eq_true] at h
    exact List.any_eq_true.mpr ⟨c, hc, by simp [h.1, h.2]⟩
  rw [if_pos ⟨hb, hoc, hat, hstuck, fun hc => hback (List.contains_iff_mem.mp hc)⟩]
  refine ⟨raiseAll_stands_of_row (by decide) (.inr rfl) _ _ _, fun g hg => ?_⟩
  have hg13 : g < 13 := by
    simp only [cellsOfBridge, List.mem_cons, List.not_mem_nil, or_false] at hg
    omega
  exact (State.raiseAll_keepsHolds _ _ _ _ _ _ 5 g (by decide) hg13 (State.holdOff_held _ (by decide) hg13 hg)).heldOff

theorem State.setBit_clears (s : State) (p : Par) (bt i : Nat) : bit ((s.setBit p bt false i).par p i) bt = false := by
  rw [State.setBit, State.par_setPar_same]
  exact bit_withBit_false ..

theorem holdoffRelease_shows {s : State} {g : Nat} (hg : g < 13) (h : s.heldOff g = false) :
    bit ((holdoffRelease g s).par P.cellStatus g) 19 = false ∧ (holdoffRelease g s).cellar = s.cellar ∧ (holdoffRelease g s).axes = s.axes := by
  unfold holdoffRelease
  rw [if_pos ⟨hg, Bool.eq_false_iff.mp h⟩]
  exact ⟨s.setBit_clears .., cellar_of_quiet (s.setBit_quiet _ _ _ _ _), axes_of_quiet (s.setBit_quiet _ _ _ _ _)⟩

theorem holdOffCauses : Parts.HoldOffCauses := by
  intro s0 τ s
  have hax (k : Nat) : (s0.at τ).ax k = s.ax k := rfl
  refine ⟨fun mask hp hset => ?_, fun mask hp => ?_, fun b hb hoc hat hon hback => ?_, fun g hg hfree => ?_⟩
  · have hp' : (s0.at τ).noPair = false := hp
    refine Does.of_answer rfl fun t ht g hg => ?_
    rw [ht.heldOff_eq]
    unfold holdoffRequest
    rw [hp']
    exact (State.holdOff_holds (s := s0.at τ) hset (List.mem_range.mp (List.mem_of_mem_filter hg)) hg).heldOff
  · refine Does.of_answer (congrArg (answer s0) (holdoffRequest_ends (s := s0.at τ) hp mask)) fun t ht => ?_
    refine ⟨?_, fun e he => ?_, ht.axes, ht.params⟩
    · rw [ht.cellar]
      exact tget_tset_same ..
    · rw [ht.cellar]
      exact tget_tset_other _ _ _ _ _ he.symm
  · refine Does.of_answer rfl fun t ht => ?_
    obtain ⟨h1, h2⟩ := ocBackstop_acts (s := s0.at τ) hb hoc (Nat.le_trans hat (Nat.le_max_right ..)) hon hback
    exact ⟨(ht.stands_eq _ _).trans h1, fun g hg => (ht.heldOff_eq g).trans (h2 g hg)⟩
  · refine Does.of_answer rfl fun t ht => ?_
    rw [ht.par_eq, ht.cellar, ht.axes]
    exact holdoffRelease_shows (s := s0.at τ) hg hfree

theorem State.axisOff_params (s : State) (k : Nat) : (s.axisOff k).params = s.params := by
  refine each_keeps State.params _ (fun c s => ?_) _ s
  unfold State.turnOff
  dsimp only
  split <;> rfl

theorem ascEnd_ends {s : State} {k t0 : Nat} (hk : k < 4) (hasc : (s.ax k).asc = true) (hsince : (s.ax k).ascSince = some t0)
    (ht0 : t0 + 100000000 ≤ s.now) : (ascEnd k s).ax k = { s.ax k with asc := false, ascSince := none } ∧ (ascEnd k s).params = s.params ∧
      (ascEnd k s).standing = s.standing ∧ (ascEnd k s).cellar = s.cellar := by
  unfold ascEnd
  rw [hsince]
  dsimp only
  rw [if_pos ⟨hk, hasc, ht0⟩]
  refine ⟨?_, s.axisOff_params k, s.axisOff_standing k, s.axisOff_cellar k⟩
  rw [State.ax_modAx_same, State.ax_of_axes (State.axisOff_axes ..)]

theorem activeShortEnds : Parts.ActiveShortEnds := by
  intro s0 τ k t0 s hk hasc hsince ht0
  refine Does.of_answer rfl fun t ht => ?_
  rw [ht.ax_eq, ht.params, ht.standing, ht.cellar]
  exact ascEnd_ends (s := s0.at τ) hk hasc hsince (ht0.trans (Nat.le_max_right ..))

/-- Settles O25. -/
theorem holdOffAndShort : Obligations.HoldOffAndShort := ⟨holdOffCauses, activeShortEnds⟩

end Sys2Proof.Machine
end

section
/-! # STO and the Cellar's timers (R391 to R394), the end of a standing fault (R402, R404) -/
namespace Sys2Proof.Machine

theorem disc_of_marks {s t : State} (h : t.marks = s.marks) : t.cellar.disc = s.cellar.disc := (congrArg Cellar.disc h :)
theorem ss1_of_marks {s t : State} (h : t.marks = s.marks) : t.cellar.ss1 = s.cellar.ss1 := (congrArg Cellar.ss1 h :)
theorem demand_of_marks {s t : State} (h : t.marks = s.marks) : t.cellar.demand = s.cellar.demand := (congrArg Cellar.demand h :)

theorem porch_of_still {s t : State} (h : t.quiet.unmoved = s.quiet.unmoved) : t.porch = s.porch := (congrArg State.porch h :)

theorem stoInput_a (s : State) {high : Bool} (h : high ≠ s.cellar.stoA) :
    (stoInputChange 0 high s).cellar.stoA = high ∧ (stoInputChange 0 high s).cellar.stoAAt = s.now ∧
      (stoInputChange 0 high s).cellar.stoB = s.cellar.stoB ∧ (stoInputChange 0 high s).cellar.causes = s.cellar.causes := by
  unfold stoInputChange
  extract_lets c filt both c1 c2
  have h2 : c2 = { c1 with stoA := high, stoAAt := s.now } := (if_pos rfl).trans (if_neg fun e => h e.symm)
  rw [h2]
  exact ⟨rfl, rfl, rfl, rfl⟩

theorem stoInput_b (s : State) {high : Bool} (h : high ≠ s.cellar.stoB) :
    (stoInputChange 1 high s).cellar.stoB = high ∧ (stoInputChange 1 high s).cellar.stoBAt = s.now ∧
      (stoInputChange 1 high s).cellar.stoA = s.cellar.stoA ∧ (stoInputChange 1 high s).cellar.causes = s.cellar.causes := by
  unfold stoInputChange
  extract_lets c filt both c1 c2
  have h2 : c2 = { c1 with stoB := high, stoBAt := s.now } := (if_neg (by decide)).trans (if_neg fun e => h e.symm)
  rw [h2]
  exact ⟨rfl, rfl, rfl, rfl⟩

theorem lasting_ss1En : Lasting P.ss1En 0 := ⟨by decide, by decide⟩

/-- Without SS1 the house cores take every axis into STO at once, with every cell held off. -/
theorem State.stoAxes_sto {s : State} (hss1 : s.par P.ss1En = 0) :
    s.stoAxes.marks = s.marks ∧ (∀ g, g < 13 → s.stoAxes.heldOff g = true) ∧ ∀ k, k < 4 → (s.stoAxes.ax k).st = .sto := by
  unfold State.stoAxes
  extract_lets s4 s5 s6
  have hpar4 : ¬ s4.par P.ss1En = 1 := by
    unfold s4
    rw [lasting_ss1En.emergency, hss1]
    decide
  have hd4 : s4.marks = s.marks := State.marks_of_cellar (cellar_of_quiet (s.emergency_quiet 0xF001 0xFF 5))
  have hd6 : s6.marks = s.marks := (State.marks_of_cellar (each_keeps State.cellar _ (fun k s => s.arb_cellar k 1) _ s4)).trans hd4
  rw [if_neg hpar4]
  clear_value s6
  exact ⟨(State.enterSto_each_marks _).trans ((State.holdOff_marks ..).trans hd6),
    fun g hg => (State.enterSto_each_holds _ (c := 1) (by decide) hg (State.holdOff_all _ (by decide) hg)).heldOff,
    fun k hk => State.enterSto_each _ hk⟩

theorem State.stoAct_sto {s : State} (hss1 : s.par P.ss1En = 0) (hh : s.porch.halt ≠ .full) :
    s.stoAct.cellar.demand = true ∧ (∀ g, g < 13 → s.stoAct.heldOff g = true) ∧ ∀ k, k < 4 → (s.stoAct.ax k).st = .sto := by
  unfold State.stoAct
  extract_lets ss1 _ s1 s2
  have hpar2 : s2.par P.ss1En = 0 := (s1.incPar_par_other P.stoCount P.ss1En 0 0 1 0 0 (by decide)).trans hss1
  have hhalt2 : ¬ s2.porch.halt = .full := by
    unfold s2
    rw [porch_of_still (congrArg State.unmoved (s1.incPar_quiet P.stoCount))]
    exact hh
  have hd2 : s2.cellar.demand = true := congrArg Cellar.demand (cellar_of_quiet (s1.incPar_quiet P.stoCount))
  rw [if_neg hhalt2]
  obtain ⟨h1, h2⟩ := State.stoAxes_sto hpar2
  exact ⟨(demand_of_marks h1).trans hd2, h2⟩

/-- The end of the demand gives every axis in STO back. -/
theorem State.stoLeave_ax (s : State) {k : Nat} (hk : k < 4) (h : (s.ax k).st = .sto) : (s.stoLeave.ax k).st = .disabled := by
  obtain ⟨x, hx, he⟩ := each_once (fun s : State => s.ax k) (fun k s => if (s.ax k).st = .sto then s.moveAxis k .disabled else s)
    List.nodup_range (List.mem_range.mpr hk) (fun i _ hi s =>
      ite_holds (p := fun x : State => x.ax k = s.ax k) (s.moveAxis_ax_other i .disabled hi) rfl) s
  have hst : (x.ax k).st = .sto := (congrArg Axis.st hx :).trans h
  rw [State.stoLeave, show (each (upto 4) s fun k s => if (s.ax k).st = .sto then s.moveAxis k .disabled else s).ax k = _ from he, if_pos hst,
    State.moveAxis_moved]
  rfl

theorem State.stoLeave_cellar (s : State) : s.stoLeave.cellar = s.cellar :=
  each_keeps State.cellar _ (fun k s => ite_holds (p := fun x : State => x.cellar = s.cellar) (s.moveAxis_cellar k .disabled) rfl) _ s

theorem stoRelease_leaves {s : State} (hd : s.cellar.demand = true) (hdisc : s.cellar.disc = false) (ha : s.cellar.stoA = true)
    (hb : s.cellar.stoB = true) (hat : max s.cellar.stoAAt s.cellar.stoBAt + s.parN P.stoFilt * 1000 ≤ s.now) (hh : s.porch.halt = .none) :
    (stoRelease s).cellar.demand = false ∧ tget (stoRelease s).cellar.causes 0 1 = 0 ∧
      ∀ k, k < 4 → (s.ax k).st = .sto → ((stoRelease s).ax k).st = .disabled := by
  unfold stoRelease
  extract_lets c filt s1 ss1 _ _ s3
  have hc : (c.demand = true ∨ tget c.causes 0 1 ≠ 0) ∧ c.stoA = true ∧ c.stoB = true ∧ max c.stoAAt c.stoBAt + filt ≤ s.now ∧
      (¬ c.disc = true ∨ c.discLow = true) := ⟨.inl hd, ha, hb, hat, .inl (Bool.eq_false_iff.mp hdisc)⟩
  have h1 : s1 = s := if_neg (Bool.eq_false_iff.mp hdisc)
  have hh3 : ¬ s3.porch.halt = .full := by
    rw [show s3.porch = s1.porch from rfl, h1, hh]
    decide
  have hx : s3.orOwe .release State.stoLeave = s3.stoLeave := if_neg hh3
  rw [if_pos hc, hx, State.stoLeave_cellar]
  refine ⟨rfl, ?_, fun k hk h => s3.stoLeave_ax hk ?_⟩
  · exact tget_tset_same ..
  · rw [show s3.ax k = s1.ax k from rfl, h1]
    exact h

/-- Settles O26. -/
theorem safeTorqueOff : Obligations.SafeTorqueOff := by
  intro s0 τ s
  have hτ : τ ≤ (s0.at τ).now := Nat.le_max_right ..
  refine ⟨fun high hh => ?_, fun high hh => ?_, fun hst hd ha hat hhalt hss1 => ?_, fun hd hdisc ha hb hat hhalt => ?_⟩
  · refine Does.of_answer rfl fun t ht => ?_
    obtain ⟨h1, h2, h3, h4⟩ := stoInput_a (s0.at τ) (high := high) hh
    rw [ht.cellar]
    exact ⟨h1, h2, h3, h4, ht.axes⟩
  · refine Does.of_answer rfl fun t ht => ?_
    obtain ⟨h1, h2, h3, h4⟩ := stoInput_b (s0.at τ) (high := high) hh
    rw [ht.cellar]
    exact ⟨h1, h2, h3, h4, ht.axes⟩
  · have hx : stoDemand (s0.at τ) = (s0.at τ).stoAct := by
      refine if_pos ⟨fun h => ?_, Bool.eq_false_iff.mp hd, .inl ⟨Bool.eq_false_iff.mp ha, hat.trans hτ⟩⟩
      have := h.symm.trans hst
      cases this
    refine Does.of_answer (congrArg (answer s0) hx) fun t ht => ?_
    have hhalt' : (s0.at τ).porch.halt ≠ .full := fun h => by
      have := h.symm.trans hhalt
      cases this
    obtain ⟨h1, h2, h3⟩ := State.stoAct_sto (s := s0.at τ) hss1 hhalt'
    refine ⟨(congrArg Cellar.demand ht.cellar).trans h1, fun g hg => (ht.heldOff_eq g).trans (h2 g hg), fun k hk => ?_⟩
    rw [ht.ax_eq]
    exact h3 k hk
  · refine Does.of_answer rfl fun t ht => ?_
    obtain ⟨h1, h2, h3⟩ := stoRelease_leaves (s := s0.at τ) hd hdisc ha hb (hat.trans hτ) hhalt
    refine ⟨(congrArg Cellar.demand ht.cellar).trans h1, (congrArg (fun c : Cellar => tget c.causes 0 1) ht.cellar).trans h2, fun k hk h => ?_⟩
    rw [ht.ax_eq]
    exact h3 k hk h

theorem State.discRecord_quiet (s : State) (k : Nat) : ((s.setPar P.axisFault 0x0901 k).setPar P.safeStateLast 5 k).quiet = s.quiet :=
  (State.setPar_quiet _ _ _ _ _).trans (s.setPar_quiet _ _ _ _)

/-- What a discrepancy does to an axis: its record, then STO. -/
theorem State.discAxis_ax_other (s : State) (k : Nat) {i : Nat} (hi : k ≠ i) :
    ((((s.setPar P.axisFault 0x0901 k).setPar P.safeStateLast 5 k).enterSto k).ax i) = s.ax i :=
  (State.enterSto_ax_other _ k hi).trans (ax_of_quiet (s.discRecord_quiet k) i)

theorem State.discAxes_sto (s : State) {k : Nat} (hk : k < 4) : (s.discAxes.ax k).st = .sto := by
  obtain ⟨x, -, h⟩ := each_once (fun s : State => s.ax k) (fun k s => ((s.setPar P.axisFault 0x0901 k).setPar P.safeStateLast 5 k).enterSto k)
    List.nodup_range (List.mem_range.mpr hk) (fun i _ hi s => s.discAxis_ax_other i hi) (s.raiseModule 0x0901 0 "CTL/CELLAR")
  exact (congrArg Axis.st h :).trans (State.enterSto_ax ..).1

theorem State.discAxes_stands (s : State) : s.discAxes.stands 0x0901 0 = true := by
  have hax (k : Nat) (s : State) : (((s.setPar P.axisFault 0x0901 k).setPar P.safeStateLast 5 k).enterSto k).others = s.others :=
    (State.enterSto_others ..).trans (others_congr (standing_of_quiet (s.discRecord_quiet k)))
  exact (stands_of_others (each_keeps State.others _ hax (upto 4) (s.raiseModule 0x0901 0 "CTL/CELLAR")) 0x0901 0 (by decide)).trans
    (raiseModule_stands ..)

theorem State.raiseModule_cellar (s : State) (code inst : Nat) (path : String) : (s.raiseModule code inst path).cellar = s.cellar :=
  (State.stand_cellar ..).trans (s.report_cellar ..)

theorem State.discAxes_marks (s : State) : s.discAxes.marks = s.marks := by
  have hax (k : Nat) (s : State) : (((s.setPar P.axisFault 0x0901 k).setPar P.safeStateLast 5 k).enterSto k).marks = s.marks :=
    (State.enterSto_marks ..).trans (State.marks_of_cellar (cellar_of_quiet (s.discRecord_quiet k)))
  exact (each_keeps State.marks _ hax (upto 4) _).trans (State.marks_of_cellar (s.raiseModule_cellar ..))

theorem State.discAxis_keepsHolds (k : Nat) : KeepsHolds fun s => ((s.setPar P.axisFault 0x0901 k).setPar P.safeStateLast 5 k).enterSto k :=
  fun s c g hc hg h => State.enterSto_keepsHolds k _ c g hc hg (State.holds_of_cellar (cellar_of_quiet (s.discRecord_quiet k)) h)

theorem State.discAxes_holds (s : State) {c g : Nat} (hc : c ≠ 6) (hg : g < 13) (h : s.holds c g) : s.discAxes.holds c g := by
  have h1 : (s.raiseModule 0x0901 0 "CTL/CELLAR").holds c g := State.holds_of_cellar (s.raiseModule_cellar ..) h
  unfold State.discAxes
  generalize s.raiseModule 0x0901 0 "CTL/CELLAR" = x at h1
  exact foldl_keepsHolds State.discAxis_keepsHolds (upto 4) x c g hc hg h1

theorem stoDiscrepancy_holds {s : State} {t0 : Nat} (hdiff : s.cellar.diffSince = some t0) (hdisc : s.cellar.disc = false)
    (ht0 : t0 + s.parN P.stoDiscTime * 1000000 ≤ s.now) :
    (stoDiscrepancy s).cellar.disc = true ∧ (∀ g, g < 13 → (stoDiscrepancy s).heldOff g = true) ∧
      (s.porch.halt ≠ .full → (stoDiscrepancy s).stands 0x0901 0 = true ∧ ∀ k, k < 4 → ((stoDiscrepancy s).ax k).st = .sto) ∧
      (s.porch.halt = .full → (stoDiscrepancy s).porch.later = s.porch.later ++ [.disc]) := by
  unfold stoDiscrepancy
  rw [hdiff]
  dsimp -zeta only
  rw [if_pos ⟨Bool.eq_false_iff.mp hdisc, ht0⟩]
  extract_lets _ s1 s2
  have hp2 : s2.porch = s.porch := (porch_of_still (s1.holdOff_still 2 (upto 13))).trans rfl
  have hd2 : s2.cellar.disc = true := disc_of_marks (s1.holdOff_marks 2 (upto 13))
  have hheld (g : Nat) (hg : g < 13) : s2.holds 2 g := s1.holdOff_all (by decide) hg
  clear_value s2
  unfold State.orOwe
  split
  next h =>
    refine ⟨hd2, fun g hg => (State.holds_of_cellar (s := s2) rfl (hheld g hg)).heldOff, fun hn => absurd (hp2 ▸ h) hn, fun _ => ?_⟩
    exact congrArg (fun p : Porch => p.later ++ [.disc]) hp2
  next h =>
    refine ⟨(disc_of_marks s2.discAxes_marks).trans hd2, fun g hg => (s2.discAxes_holds (by decide) hg (hheld g hg)).heldOff,
      fun _ => ⟨s2.discAxes_stands, fun k hk => s2.discAxes_sto hk⟩, fun hn => absurd (hp2.symm ▸ hn) h⟩

theorem ss1Timeout_holds {s : State} {t0 : Nat} (hss1 : s.cellar.ss1 = some t0) (ht0 : t0 + s.parN P.ss1Time * 1000000 ≤ s.now) :
    (ss1Timeout s).cellar.ss1 = none ∧ (∀ g, g < 13 → (ss1Timeout s).heldOff g = true) ∧
      (s.porch.halt ≠ .full → ∀ k, k < 4 → ((ss1Timeout s).ax k).st = .sto) := by
  unfold ss1Timeout
  rw [hss1]
  dsimp -zeta only
  rw [if_pos ht0]
  extract_lets s1 _ s2
  have hp2 : s2.porch = s.porch := porch_of_still (s.holdOff_still 1 (upto 13))
  have hheld (g : Nat) (hg : g < 13) : s2.holds 1 g := State.holds_of_cellar (s := s2) rfl (s.holdOff_all (by decide) hg)
  have hd2 : s2.cellar.ss1 = none := rfl
  clear_value s2
  unfold State.orOwe
  split
  next h => exact ⟨hd2, fun g hg => (State.holds_of_cellar (s := s2) rfl (hheld g hg)).heldOff, fun hn => absurd (hp2 ▸ h) hn⟩
  next h =>
    exact ⟨(ss1_of_marks s2.enterSto_each_marks).trans hd2, fun g hg => (s2.enterSto_each_holds (by decide) hg (hheld g hg)).heldOff,
      fun _ k hk => s2.enterSto_each hk⟩

/-! ### The end of a standing fault -/

theorem State.unstandAll_standing (l : List Standing) (s : State) :
    (l.foldl (fun s f => s.unstand f) s).standing = s.standing.filter fun g => decide (g ∉ l) := by
  induction l generalizing s with
  | nil => simp
  | cons f l ih =>
    rw [List.foldl_cons, ih, State.unstand_standing, List.filter_filter]
    refine List.filter_congr fun g _ => ?_
    by_cases hg : g = f <;> simp [hg]

theorem State.freeChans_standing (s : State) (cs : List Nat) : (s.freeChans cs).standing = s.standing :=
  each_keeps State.standing (fun c s => s.setChan c { s.chan c with softSeen := false, softLatch := false, desat := false }) (fun _ _ => rfl) cs s

/-- What a fault's end frees of its axis ends no other fault: the axis is freed where none blocks it. -/
theorem State.freed_standing (s : State) (f : Standing) : (s.freed f).standing = s.standing := by
  unfold State.freed
  split
  · split
    next h =>
      unfold State.clearAxis
      extract_lets s1
      have h1 : s1 = s := by
        unfold s1
        rw [List.isEmpty_iff.mp h.1]
        rfl
      rw [h1]
      exact s.freeChans_standing _
    · rfl
  · exact s.freeChans_standing _

theorem State.freedAll_standing (s : State) (l : List Standing) : (l.foldl (fun s g => s.freed g) s).standing = s.standing :=
  foldl_keeps State.standing _ (fun s g => s.freed_standing g) l s

theorem State.unstandCode_standing (s : State) (code inst : Nat) : (s.unstandCode code inst).standing =
    s.standing.filter fun g => !(decide (g.code = code) && decide (g.inst = inst)) := by
  unfold State.unstandCode
  rw [State.unstandAll_standing]
  refine List.filter_congr fun g hg => ?_
  simp [hg]

theorem State.setRport_standing (s : State) (p : Nat) (x : RingPort) : (s.setRport p x).standing = s.standing := by
  unfold State.setRport
  split <;> rfl

/-- A port that comes up again adds no fault. -/
theorem State.portUp_standing (s : State) (port : Nat) {g : Standing} (h : g ∈ (s.portUp port).standing) : g ∈ s.standing := by
  unfold State.portUp at h
  extract_lets x s1 s2 _ at h
  have h1 : s1.standing = s.standing := State.setRport_standing ..
  have h2 : s2.standing ⊆ s.standing := by
    rw [← h1]
    unfold s2
    split
    · rw [State.unstandCode_standing]
      exact fun g hg => (List.mem_filter.mp hg).1
    · exact List.Subset.refl _
  split at h
  · exact h
  · rw [State.hiveSync_standing] at h
    exact h2 h

/-- A fault without a dwell ends alone, and where its axis has not moved. -/
theorem State.idleClear_standing (s : State) (code inst : Nat) {g : Standing} : g ∈ (s.idleClear code inst).standing ↔ g ∈ s.standing ∧
    ¬ (g.code = code ∧ g.inst = inst ∧ s.clearNow g = true ∧
      ¬ (g.axis < 4 ∧ ((s.ax g.axis).st = .faultRetry ∨ (s.ax g.axis).st = .faultLatched ∨ (s.ax g.axis).faultStop = true))) := by
  have hstep (l : List Standing) (x : State) :
      (l.foldl (fun s f => (s.unstand f).freed f) x).standing = x.standing.filter fun g => decide (g ∉ l) := by
    induction l generalizing x with
    | nil => simp
    | cons f l ih =>
      rw [List.foldl_cons, ih, State.freed_standing, State.unstand_standing, List.filter_filter]
      refine List.filter_congr fun g _ => ?_
      by_cases hg : g = f <;> simp [hg]
  unfold State.idleClear
  rw [hstep, List.mem_filter]
  refine and_congr_right fun hg => ?_
  rw [decide_eq_true_eq, List.mem_filter]
  simp [hg, and_assoc]

/-- The end of a fault that has met its clear condition for its dwell. -/
theorem faultCleared_ends {s : State} {code inst d t0 : Nat} {f : Standing} (hd : clearDwell code = some d)
    (hf : s.standing.find? (fun f => decide (f.code = code) && decide (f.inst = inst)) = some f) (hok : f.okSince = some t0) (ht0 : t0 + d ≤ s.now) :
    (faultCleared code inst s).stands code inst = false ∧
      (code ≠ 0x0702 → ∀ g ∈ s.standing, g.code ≠ code → g ∈ (faultCleared code inst s).standing) := by
  unfold faultCleared
  rw [hd, hf]
  dsimp -zeta only
  rw [hok]
  dsimp -zeta only
  rw [if_pos ht0]
  extract_lets fs s1
  have h1 : s1.standing = (s.unstandCode code inst).standing := State.freedAll_standing _ fs
  clear_value s1
  have hend (t : State) (h : ∀ g ∈ t.standing, g ∈ s1.standing) : t.stands code inst = false := by
    refine List.any_eq_false.mpr fun g hg => ?_
    have := h g hg
    rw [h1, State.unstandCode_standing, List.mem_filter] at this
    simpa [imp_iff_not_or] using this.2
  split
  next hc => exact ⟨hend _ fun g hg => State.setRport_standing s1 inst _ ▸ State.portUp_standing _ inst hg, fun hn => absurd hc hn⟩
  next hc =>
    refine ⟨hend _ fun g hg => hg, fun _ g hg hn => ?_⟩
    rw [h1, State.unstandCode_standing, List.mem_filter]
    exact ⟨hg, by simp [hn]⟩

theorem faultCleared_idle {s : State} {code inst : Nat} (hd : clearDwell code = none) :
    (∀ f ∈ s.standing, f.code = code → f.inst = inst → s.clearNow f = true →
      (f.axis < 4 → (s.ax f.axis).st ≠ .faultRetry ∧ (s.ax f.axis).st ≠ .faultLatched ∧ (s.ax f.axis).faultStop = false) →
        f ∉ (faultCleared code inst s).standing) ∧
    ∀ g ∈ s.standing, (g.code ≠ code ∨ g.inst ≠ inst) → g ∈ (faultCleared code inst s).standing := by
  unfold faultCleared
  rw [hd]
  cases hf : s.standing.find? (fun f => decide (f.code = code) && decide (f.inst = inst)) with
  | none =>
    refine ⟨fun f hm hc hi => ?_, fun g hg _ => hg⟩
    exact absurd (List.find?_eq_none.mp hf f hm) (by simp [hc, hi])
  | some f0 =>
    refine ⟨fun f hm hc hi hclear hmoved hin => ?_, fun g hg hn => (s.idleClear_standing code inst).mpr ⟨hg, fun h => ?_⟩⟩
    · refine ((s.idleClear_standing code inst).mp hin).2 ⟨hc, hi, hclear, fun h => ?_⟩
      obtain ⟨h1, h2, h3⟩ := hmoved h.1
      rcases h.2 with h | h | h
      · exact h1 h
      · exact h2 h
      · rw [h3] at h
        cases h
    · exact hn.elim (fun hn => hn h.1) fun hn => hn h.2.1

/-- Settles O27. -/
theorem cellarTimers : Obligations.CellarTimers := by
  intro s0 τ s
  have hτ : τ ≤ (s0.at τ).now := Nat.le_max_right ..
  refine ⟨fun t0 hdiff hdisc ht0 => ?_, fun t0 hss1 ht0 => ?_, fun code inst f t0 d hd hf hok ht0 => ?_, fun code inst hd => ?_⟩
  · refine Does.of_answer rfl fun t ht => ?_
    simp only [ht.heldOff_eq, ht.ax_eq, State.Stands, ht.stands_eq, ht.cellar, ht.porch]
    exact stoDiscrepancy_holds (s := s0.at τ) hdiff hdisc (ht0.trans hτ)
  · refine Does.of_answer rfl fun t ht => ?_
    simp only [ht.heldOff_eq, ht.ax_eq, ht.cellar]
    exact ss1Timeout_holds (s := s0.at τ) hss1 (ht0.trans hτ)
  · refine Does.of_answer rfl fun t ht => ?_
    simp only [ht.stands_eq, ht.standing]
    exact faultCleared_ends (s := s0.at τ) hd hf hok (ht0.trans hτ)
  · refine Does.of_answer rfl fun t ht => ?_
    simp only [ht.standing]
    exact faultCleared_idle (s := s0.at τ) hd

end Sys2Proof.Machine
end

section
/-! # NTC inputs, junction model, its calibration and wear (R434 to R447) -/
namespace Sys2Proof.Machine

theorem fanner_of_quiet {s t : State} (h : t.quiet = s.quiet) : t.fanner = s.fanner := (congrArg State.fanner h :)

/-! ### NTC inputs -/

theorem lasting_ntcState {k : Nat} (hk : k < 8) : Lasting P.ntcState k where
  low := by change 28995 + 4 * k + 0 * 0 < 32768; omega
  notFault := by
    have : P.ntcState.pn k 0 = 28995 + 4 * k + 0 * 0 := rfl
    omega

theorem Lasting.thermEvent {q : Par} {k : Nat} (hq : Lasting q k) (s : State) (pos subj grace : Nat) :
    (s.thermEvent pos subj grace).par q k = s.par q k := hq.bus.notify ..

theorem ntcSample_due {s : State} {k : Nat} (hk : k < 8) (code : Nat) (hdue : tget s.fanner.ntcAt 0 k + 10000000 ≤ s.now) :
    (ntcSample k code s).par P.ntcState k = (if s.parN P.ntcR25 k = 0 then 3 else if 4050 < code then 1 else if code < 20 then 2 else 0 : Nat) ∧
      tget (ntcSample k code s).fanner.ntcAt 0 k = s.now ∧ (ntcSample k code s).axes = s.axes := by
  unfold ntcSample
  extract_lets r25 _ s1 st old s2 l d q h h' keep s3
  clear_value h' q keep
  have hat (f : Fanner) (hf : f.ntcAt = s1.fanner.ntcAt) : tget f.ntcAt 0 k = s.now := by
    rw [hf]
    exact tget_tset_same ..
  rw [if_neg (by omega)]
  split
  next h0 => exact ⟨State.par_setPar_same .., hat _ rfl, rfl⟩
  next h0 =>
    have hst : s2.par P.ntcState k = (st : Nat) := State.par_setPar_same ..
    split
    · split
      · exact ⟨((lasting_ntcState hk).thermEvent ..).trans hst, hat _ (congrArg Fanner.ntcAt (fanner_of_quiet (s2.thermEvent_quiet 7 k 0)) :),
          (axes_of_quiet (s2.thermEvent_quiet 7 k 0)).trans rfl⟩
      · exact ⟨hst, hat _ rfl, rfl⟩
    · refine ⟨(State.par_setPar_other _ P.ntcTemp P.ntcState _ _ _ _ _ ?_).trans hst, hat _ rfl, rfl⟩
      change 28994 + 4 * k + 0 * 0 ≠ 28995 + 4 * k + 0 * 0
      omega

/-! ### The junction model of a bridge that has never switched -/

/-- The parameter numbers that the junction model writes bridge by bridge: JT_EST, JT_TP, JT_STATUS and COLD_FLAGS. -/
def JunctionPn (n : Nat) : Prop := ((n % 16 = 8 ∨ n % 16 = 9) ∧ 29060 ≤ n) ∨ n % 4096 = 4

/-- What the model asks about bridge b with its NTC k and its position j before it works on them. -/
def State.junctionView (s : State) (b k j : Nat) : Junction × Option Nat × Bool × Int :=
  (s.junction j, s.bridgeNtc b, s.bridgeSwitches b, s.par P.ntcTemp k)

theorem State.axisOfBridge_setPar (s : State) (p : Par) (v : Int) (i b : Nat) (hp : p.pn i 0 % 4 = 0 ∨ p.pn i 0 % 4 = 1) :
    (s.setPar p v i).axisOfBridge b = s.axisOfBridge b := by
  have hmask : (fun k => bit ((s.setPar p v i).par P.bridgeMask k) b) = fun k => bit (s.par P.bridgeMask k) b := by
    funext k
    rw [s.par_setPar_other p P.bridgeMask]
    change p.pn i 0 ≠ 4354 + 4096 * k + 0 * 0
    omega
  unfold State.axisOfBridge
  rw [hmask]
  rfl

theorem State.bridgeNtc_setPar (s : State) (p : Par) (v : Int) (i b : Nat) (hp : JunctionPn (p.pn i 0)) :
    (s.setPar p v i).bridgeNtc b = s.bridgeNtc b := by
  have hjp : (s.setPar p v i).jp b P.brNtc b = s.jp b P.brNtc b := by
    unfold State.jp
    rw [s.axisOfBridge_setPar p v i b (by unfold JunctionPn at hp; omega), s.par_setPar_other p P.brNtc]
    · rfl
    · change p.pn i 0 ≠ 29056 + 16 * b + 0 * 0
      unfold JunctionPn at hp
      omega
  unfold State.bridgeNtc
  rw [hjp]
  by_cases hk : (s.jp b P.brNtc b).toNat < 8
  · dsimp only
    rw [s.par_setPar_other p P.ntcR25]
    · rfl
    · change p.pn i 0 ≠ 28992 + 4 * (s.jp b P.brNtc b).toNat + 0 * 0
      unfold JunctionPn at hp
      omega
  · rw [if_neg fun h => hk h.1, if_neg fun h => hk h.1]

theorem State.bridgeSwitches_setPar (s : State) (p : Par) (v : Int) (i b : Nat) (hp : JunctionPn (p.pn i 0)) :
    (s.setPar p v i).bridgeSwitches b = s.bridgeSwitches b := by
  have hlane (k : Nat) : (s.setPar p v i).laneOf k = s.laneOf k := by
    unfold State.laneOf State.parN
    rw [s.par_setPar_other p P.lane, s.par_setPar_other p P.spareFor]
    · change p.pn i 0 ≠ 20549 + 0 * 0 + 0 * 0
      unfold JunctionPn at hp
      omega
    · change p.pn i 0 ≠ 4355 + 4096 * k + 0 * 0
      unfold JunctionPn at hp
      omega
  unfold State.bridgeSwitches
  rw [s.axisOfBridge_setPar p v i b (by unfold JunctionPn at hp; omega)]
  cases s.axisOfBridge b with
  | none => rfl
  | some k => exact congrArg (fun n => (s.lane n).running) (hlane k)

theorem State.junctionView_setPar (s : State) (p : Par) (v : Int) (i b k j : Nat) (hp : JunctionPn (p.pn i 0)) :
    (s.setPar p v i).junctionView b k j = s.junctionView b k j := by
  unfold State.junctionView
  rw [s.bridgeNtc_setPar p v i b hp, s.bridgeSwitches_setPar p v i b hp, s.par_setPar_other p P.ntcTemp]
  · rfl
  · change p.pn i 0 ≠ 28994 + 4 * k + 0 * 0
    unfold JunctionPn at hp
    omega

/-- The estimate of position j, and what the model asks before it works on it. -/
def State.estView (s : State) (b k j : Nat) : Int × (Junction × Option Nat × Bool × Int) := (s.par P.jtEst j, s.junctionView b k j)

theorem State.estView_setPar (s : State) (p : Par) (v : Int) (i b k j : Nat) (hp : JunctionPn (p.pn i 0)) (hj : p.pn i 0 ≠ 29192 + 16 * j) :
    (s.setPar p v i).estView b k j = s.estView b k j := by
  unfold State.estView
  rw [s.junctionView_setPar p v i b k j hp, s.par_setPar_other p P.jtEst]
  exact hj

theorem State.estView_setBit (s : State) (p : Par) (n : Nat) (v : Bool) (i b k j : Nat) (hp : JunctionPn (p.pn i 0))
    (hj : p.pn i 0 ≠ 29192 + 16 * j) : (s.setBit p n v i).estView b k j = s.estView b k j := s.estView_setPar p _ i b k j hp hj

theorem State.estView_setJunction (s : State) (i : Nat) (x : Junction) (b k j : Nat) (hj : i ≠ j) :
    (s.setJunction i x).estView b k j = s.estView b k j := by
  have h : (s.setJunction i x).junction j = s.junction j := tget_tset_other _ _ _ _ _ hj
  unfold State.estView State.junctionView
  rw [h]
  rfl

theorem junctionPn_est (i : Nat) : JunctionPn (P.jtEst.pn i 0) := by
  change JunctionPn (29192 + 16 * i + 0 * 0)
  unfold JunctionPn
  omega

theorem junctionPn_tp (i : Nat) : JunctionPn (P.jtTp.pn i 0) := by
  change JunctionPn (29193 + 16 * i + 0 * 0)
  unfold JunctionPn
  omega

theorem State.junctionStep_other (s : State) (b' k' i b k j : Nat) (hj : i ≠ j) : (s.junctionStep b' k' i).estView b k j = s.estView b k j := by
  have hest (x : State) (v : Int) : (x.setPar P.jtEst v i).estView b k j = x.estView b k j := by
    refine x.estView_setPar _ v i b k j (junctionPn_est i) ?_
    change 29192 + 16 * i + 0 * 0 ≠ 29192 + 16 * j
    omega
  have htp (x : State) (v : Int) : (x.setPar P.jtTp v i).estView b k j = x.estView b k j := by
    refine x.estView_setPar _ v i b k j (junctionPn_tp i) ?_
    change 29193 + 16 * i + 0 * 0 ≠ 29192 + 16 * j
    omega
  unfold State.junctionStep
  extract_lets _ _ _ _ jn _ _ _ _ _ _ _ _ _ _ _ _ tp c m _ s1 s2
  clear_value jn
  split
  · exact (hest ..).trans (s.estView_setJunction _ _ _ _ _ hj)
  · have h1 : s1.estView b k j = s.estView b k j := s.estView_setJunction _ _ _ _ _ hj
    have h2 : s2.estView b k j = s.estView b k j := by
      unfold s2
      clear_value tp
      cases tp with
      | none => exact h1
      | some v => exact (htp ..).trans h1
    exact (hest ..).trans h2

/-- A position that has never switched, on a bridge that does not, has its NTC's temperature. -/
theorem State.junctionStep_idle {s : State} {b j : Nat} (k : Nat) (hsw : s.bridgeSwitches b = false) (hst : (s.junction j).started = false) :
    (s.junctionStep b k j).par P.jtEst j = s.par P.ntcTemp k := by
  unfold State.junctionStep
  extract_lets _ _ _ jn0 jn
  have hjn : jn = jn0 := by
    unfold jn
    rw [hsw]
    simp
  rw [if_pos (by rw [hjn, show jn0.started = false from hst]; decide)]
  exact State.par_setPar_same ..

/-- What JUNCTION_UPDATE does with one bridge. -/
def State.junctionBridge (s : State) (b : Nat) : State :=
  let s := if s.bridgeSwitches b then { s with fanner := { s.fanner with switchedAt := tset s.fanner.switchedAt b s.now } } else s
  match s.bridgeNtc b with
  | none => (s.setBit P.jtStatus 0 false b).setBit P.jtStatus 1 false b
  | some k =>
    let was := (s.junction (6 * b)).started
    let s := each (upto 6) s fun n s => s.junctionStep b k (6 * b + n)
    let s := (s.setBit P.jtStatus 0 (s.junction (6 * b)).started b).setBit P.jtStatus 1 (decide (s.par P.ntcState k ≠ 0)) b
    match s.axisOfBridge b with
    | some a => if !was && (s.junction (6 * b)).started then s.setBit P.coldFlags 2 true a else s
    | none => s

/-- The flag of a junction started cold, which JUNCTION_UPDATE takes back. -/
def State.junctionWarm (s : State) (k : Nat) : State :=
  let warm := (s.bridgesOf k).all fun b => (upto 6).all fun n => decide ((s.junction (6 * b + n)).m < 2 ^ 47)
  if bit (s.par P.coldFlags k) 2 && warm then s.setBit P.coldFlags 2 false k else s

theorem junctionUpdate_of_due {s : State} (h : s.fanner.jtAt + 1000000 ≤ s.now) : junctionUpdate s =
    each (upto 4) (each (upto 4) (each (upto 4) { s with fanner := { s.fanner with jtAt := s.now } } fun b s => s.junctionBridge b)
      fun k s => s.junctionWarm k) fun k s => s.junctionLevel k := if_neg (by omega)

theorem State.junctionBridge_other (s : State) {b' : Nat} (hb' : b' < 4) (b k : Nat) {n : Nat} (hn : n < 6) (hb : b' ≠ b) :
    (s.junctionBridge b').estView b k (6 * b + n) = s.estView b k (6 * b + n) := by
  have hstatus (x : State) (bt : Nat) (v : Bool) : (x.setBit P.jtStatus bt v b').estView b k (6 * b + n) = x.estView b k (6 * b + n) := by
    refine x.estView_setBit _ _ _ _ _ _ _ ?_ ?_
    · change JunctionPn (29064 + 16 * b' + 0 * 0)
      unfold JunctionPn
      omega
    · change 29064 + 16 * b' + 0 * 0 ≠ 29192 + 16 * (6 * b + n)
      omega
  have hcold (x : State) (a : Nat) : (x.setBit P.coldFlags 2 true a).estView b k (6 * b + n) = x.estView b k (6 * b + n) := by
    refine x.estView_setBit _ _ _ _ _ _ _ ?_ ?_
    · change JunctionPn (4100 + 4096 * a + 0 * 0)
      unfold JunctionPn
      omega
    · change 4100 + 4096 * a + 0 * 0 ≠ 29192 + 16 * (6 * b + n)
      omega
  unfold State.junctionBridge
  extract_lets _ s1 was
  have h1 : s1.estView b k (6 * b + n) = s.estView b k (6 * b + n) := by
    unfold s1
    split <;> rfl
  clear_value was s1
  split
  · exact (hstatus ..).trans ((hstatus ..).trans h1)
  next k' _ =>
    extract_lets s2 s3
    have h2 : s2.estView b k (6 * b + n) = s1.estView b k (6 * b + n) :=
      each_keeps_of_mem (g := fun x : State => x.estView b k (6 * b + n)) (fun n' x => x.junctionStep b' k' (6 * b' + n'))
        (fun n' hn' x => x.junctionStep_other b' k' _ b k _ (by have := List.mem_range.mp hn'; omega)) s1
    clear_value s2
    have h3 : s3.estView b k (6 * b + n) = s.estView b k (6 * b + n) := (hstatus ..).trans ((hstatus ..).trans (h2.trans h1))
    clear_value s3
    split
    · split
      · exact (hcold ..).trans h3
      · exact h3
    · exact h3

/-- On its own bridge the estimate of a position that has never switched is the NTC's temperature. -/
theorem State.junctionBridge_est {s : State} {b k n : Nat} (hb : b < 4) (hn : n < 6) (hntc : s.bridgeNtc b = some k)
    (hsw : s.bridgeSwitches b = false) (hst : (s.junction (6 * b + n)).started = false) :
    (s.junctionBridge b).par P.jtEst (6 * b + n) = s.par P.ntcTemp k := by
  have hstatus (x : State) (bt : Nat) (v : Bool) : (x.setBit P.jtStatus bt v b).par P.jtEst (6 * b + n) = x.par P.jtEst (6 * b + n) := by
    refine x.par_setPar_other _ _ _ _ _ _ _ ?_
    change 29064 + 16 * b + 0 * 0 ≠ 29192 + 16 * (6 * b + n) + 0 * 0
    omega
  have hcold (x : State) (a : Nat) : (x.setBit P.coldFlags 2 true a).par P.jtEst (6 * b + n) = x.par P.jtEst (6 * b + n) := by
    refine x.par_setPar_other _ _ _ _ _ _ _ ?_
    change 4100 + 4096 * a + 0 * 0 ≠ 29192 + 16 * (6 * b + n) + 0 * 0
    omega
  unfold State.junctionBridge
  extract_lets _ s1 was
  have h1 : s1 = s := by
    unfold s1
    rw [hsw]
    rfl
  clear_value was
  rw [h1, hntc]
  dsimp -zeta only
  extract_lets s2 s3
  have h2 : s2.par P.jtEst (6 * b + n) = s.par P.ntcTemp k := by
    obtain ⟨x, hx, he⟩ := each_once (fun x : State => x.estView b k (6 * b + n)) (fun n' x => x.junctionStep b k (6 * b + n'))
      List.nodup_range (List.mem_range.mpr hn) (fun n' _ hne x => x.junctionStep_other b k _ b k _ (by omega)) s
    have hview : x.junctionView b k (6 * b + n) = s.junctionView b k (6 * b + n) := congrArg Prod.snd hx
    have hxs : x.bridgeSwitches b = false := (congrArg (fun v => v.2.2.1) hview).trans hsw
    have hxj : (x.junction (6 * b + n)).started = false := (congrArg (fun v => v.1.started) hview).trans hst
    have hxt : x.par P.ntcTemp k = s.par P.ntcTemp k := congrArg (fun v => v.2.2.2) hview
    exact (congrArg Prod.fst he).trans ((State.junctionStep_idle k hxs hxj).trans hxt)
  clear_value s2
  have h3 : s3.par P.jtEst (6 * b + n) = s.par P.ntcTemp k := (hstatus ..).trans ((hstatus ..).trans h2)
  clear_value s3
  split
  · split
    · exact (hcold ..).trans h3
    · exact h3
  · exact h3

theorem lasting_jtEst {j : Nat} (hj : j < 24) : Lasting P.jtEst j where
  low := by change 29192 + 16 * j + 0 * 0 < 32768; omega
  notFault := by
    have : P.jtEst.pn j 0 = 29192 + 16 * j + 0 * 0 := rfl
    omega

theorem State.junctionWarm_est (s : State) (i j : Nat) : (s.junctionWarm i).par P.jtEst j = s.par P.jtEst j := by
  unfold State.junctionWarm
  extract_lets warm
  split
  · refine s.par_setPar_other _ _ _ _ _ _ _ ?_
    change 4100 + 4096 * i + 0 * 0 ≠ 29192 + 16 * j + 0 * 0
    omega
  · rfl

theorem State.junctionLevel_est (s : State) (i : Nat) {j : Nat} (hj : j < 24) : (s.junctionLevel i).par P.jtEst j = s.par P.jtEst j := by
  have hlevel (x : State) (v : Int) : (x.setPar P.jtLevel v i).par P.jtEst j = x.par P.jtEst j := by
    refine x.par_setPar_other _ _ _ _ _ _ _ ?_
    change 5376 + 4096 * i + 0 * 0 ≠ 29192 + 16 * j + 0 * 0
    omega
  have hack (x : State) (v : Int) : (x.setPar P.thAck v).par P.jtEst j = x.par P.jtEst j := by
    refine x.par_setPar_other _ _ _ _ _ _ _ ?_
    change 28934 + 0 * 0 + 0 * 0 ≠ 29192 + 16 * j + 0 * 0
    omega
  unfold State.junctionLevel
  extract_lets js l above w l1 due l2 l3 s1
  have h1 : s1.par P.jtEst j = s.par P.jtEst j := (hlevel ..).trans rfl
  clear_value s1
  split
  · exact ((lasting_jtEst hj).thermEvent ..).trans ((hack ..).trans h1)
  · exact h1

/-- The model's time and the faults, which its update leaves alone. -/
def State.junctionFrame (s : State) : Nat × List Standing := (s.fanner.jtAt, s.standing)

theorem State.junctionStep_frame (s : State) (b k j : Nat) : (s.junctionStep b k j).junctionFrame = s.junctionFrame := by
  unfold State.junctionStep
  dsimp only
  (repeat' split) <;> rfl

theorem State.junctionBridge_frame (s : State) (b : Nat) : (s.junctionBridge b).junctionFrame = s.junctionFrame := by
  unfold State.junctionBridge
  extract_lets _ s1 was
  have h1 : s1.junctionFrame = s.junctionFrame := by
    unfold s1
    split <;> rfl
  clear_value was s1
  split
  · exact h1
  next k' _ =>
    extract_lets s2 s3
    have h2 : s2.junctionFrame = s.junctionFrame :=
      (each_keeps State.junctionFrame (fun n' x => x.junctionStep b k' (6 * b + n')) (fun n' x => x.junctionStep_frame ..) (upto 6) s1).trans h1
    clear_value s2
    have h3 : s3.junctionFrame = s.junctionFrame := h2
    clear_value s3
    split
    · split <;> exact h3
    · exact h3

theorem State.junctionWarm_frame (s : State) (i : Nat) : (s.junctionWarm i).junctionFrame = s.junctionFrame := by
  unfold State.junctionWarm
  extract_lets warm
  split <;> rfl

theorem State.junctionLevel_frame (s : State) (i : Nat) : (s.junctionLevel i).junctionFrame = s.junctionFrame := by
  unfold State.junctionLevel
  extract_lets js l above w l1 due l2 l3 s1
  have h1 : s1.junctionFrame = s.junctionFrame := rfl
  clear_value s1
  split
  · exact (congrArg State.junctionFrame (State.thermEvent_quiet ..) :).trans h1
  · exact h1

theorem junctionUpdate_idle {s : State} {b k n : Nat} (hdue : s.fanner.jtAt + 1000000 ≤ s.now) (hb : b < 4) (hn : n < 6) (hntc : s.bridgeNtc b = some k)
    (hsw : s.bridgeSwitches b = false) (hst : (s.junction (6 * b + n)).started = false) :
    (junctionUpdate s).par P.jtEst (6 * b + n) = s.par P.ntcTemp k ∧ (junctionUpdate s).fanner.jtAt = s.now ∧
      (junctionUpdate s).standing = s.standing := by
  rw [junctionUpdate_of_due hdue]
  generalize hy : ({ s with fanner := { s.fanner with jtAt := s.now } } : State) = y
  have hyv : y.estView b k (6 * b + n) = s.estView b k (6 * b + n) := by rw [← hy]; rfl
  have hyf : y.junctionFrame = (s.now, s.standing) := by rw [← hy]; rfl
  obtain ⟨x, hx, he⟩ := each_once (fun x : State => x.estView b k (6 * b + n)) (fun b' x => x.junctionBridge b') List.nodup_range
    (List.mem_range.mpr hb) (fun b' hb' hne x => x.junctionBridge_other (List.mem_range.mp hb') b k hn hne) y
  have hview : x.junctionView b k (6 * b + n) = s.junctionView b k (6 * b + n) := congrArg Prod.snd (hx.trans hyv)
  have hest : (x.junctionBridge b).par P.jtEst (6 * b + n) = s.par P.ntcTemp k :=
    (State.junctionBridge_est hb hn ((congrArg (fun v => v.2.1) hview).trans hntc) ((congrArg (fun v => v.2.2.1) hview).trans hsw)
      ((congrArg (fun v => v.1.started) hview).trans hst)).trans (congrArg (fun v => v.2.2.2) hview)
  have hlevel (z : State) : (each (upto 4) z fun k s => s.junctionLevel k).par P.jtEst (6 * b + n) = z.par P.jtEst (6 * b + n) :=
    each_keeps (fun x : State => x.par P.jtEst (6 * b + n)) (fun k s => s.junctionLevel k) (fun i z => z.junctionLevel_est i (by omega)) _ z
  have hwarm (z : State) : (each (upto 4) z fun k s => s.junctionWarm k).par P.jtEst (6 * b + n) = z.par P.jtEst (6 * b + n) :=
    each_keeps (fun x : State => x.par P.jtEst (6 * b + n)) (fun k s => s.junctionWarm k) (fun i z => z.junctionWarm_est i _) _ z
  have hframe := (each_keeps State.junctionFrame (fun k s => s.junctionLevel k) (fun i z => z.junctionLevel_frame i) (upto 4) _).trans <|
    (each_keeps State.junctionFrame (fun k s => s.junctionWarm k) (fun i z => z.junctionWarm_frame i) (upto 4) _).trans <|
    (each_keeps State.junctionFrame (fun b s => s.junctionBridge b) (fun i z => z.junctionBridge_frame i) (upto 4) y).trans hyf
  exact ⟨(hlevel _).trans ((hwarm _).trans ((congrArg Prod.fst he).trans hest)), congrArg Prod.fst hframe, congrArg Prod.snd hframe⟩

/-! ### Calibration -/

theorem jtCalCmd_begins {s : State} {b v : Nat} (hb : b < 4) (hv : v = 1 ∨ v = 2) (hmay : s.jtCalRefused b = false)
    (hnone : s.fanner.pulse.find? (fun e => e.1 = b) = none) :
    (jtCalCmd b v s).par P.jtCalCmd b = v ∧ tget (jtCalCmd b v s).fanner.pulse { point := 0 } b = { point := v, at_ := s.now } ∧
      (jtCalCmd b v s).axes = s.axes := by
  unfold jtCalCmd
  extract_lets s1 s2
  have hkeep : (s2.par P.jtCalCmd b, s2.now, s2.axes) = (s1.par P.jtCalCmd b, s1.now, s1.axes) :=
    each_keeps (fun x : State => (x.par P.jtCalCmd b, x.now, x.axes))
      (fun n s => s.setJunction (6 * b + n) { s.junction (6 * b + n) with testSum := 0, testN := 0 }) (fun _ _ => rfl) _ s1
  clear_value s2
  rw [if_neg (by rw [hmay, hnone]; simp; omega)]
  refine ⟨?_, ?_, congrArg (fun v => v.2.2) hkeep⟩
  · refine (State.par_setPar_other _ P.jtStatus P.jtCalCmd _ _ _ _ _ ?_).trans ((congrArg Prod.fst hkeep).trans (State.par_setPar_same ..))
    change 29064 + 16 * b + 0 * 0 ≠ 29063 + 16 * b + 0 * 0
    omega
  · refine (tget_tset_same ..).trans ?_
    rw [show s2.now = s.now from congrArg (fun v => v.2.1) hkeep]

theorem jtCalCmd_refused {s : State} {b : Nat} (v : Nat) (h : s.jtCalRefused b = true) : jtCalCmd b v s = s :=
  if_pos (.inr (.inr (.inr (.inl h))))

/-! ### One pulse -/

theorem tget_map_tset {α : Type} (t : Tab α) (b : Nat) (v d : α) (f : α → α) :
    tget ((tset t b v).map fun e => if e.1 = b then (b, f e.2) else e) d b = f v := by
  induction t with
  | nil => simp [tset, tget]
  | cons e t ih =>
    unfold tset
    split
    · simp [tget]
    · next hne =>
      rw [List.map_cons, if_neg hne, tget, if_neg hne]
      exact ih

theorem State.turnOff_axes_params (s : State) (c : Nat) : ((s.turnOff c).axes, (s.turnOff c).params) = (s.axes, s.params) := by
  obtain ⟨x, -, -, h⟩ := s.turnOff_put c
  rw [h]
  rfl

/-- What a pulse's switches leave as it was: the axes, the parameters, the time and what the Fanner keeps besides its pulses. -/
def State.pulseFrame (s : State) : Tab Axis × Tab Int × Nat × Fanner := (s.axes, s.params, s.now, s.fanner)

theorem State.turnOff_pulseFrame (s : State) (c : Nat) : (s.turnOff c).pulseFrame = s.pulseFrame := by
  obtain ⟨x, -, -, h⟩ := s.turnOff_put c
  rw [h]
  rfl

theorem State.turnOn_pulseFrame (s : State) (c : Nat) : (s.turnOn c).pulseFrame = s.pulseFrame := by
  unfold State.turnOn
  dsimp only
  (repeat' split) <;> rfl

/-- The end of a running pulse touches the channels and the pulses alone. -/
theorem State.pulseOff_frame (s : State) (b : Nat) : (s.pulseOff b).axes = s.axes ∧ (s.pulseOff b).params = s.params ∧
    (s.pulseOff b).now = s.now ∧ (s.pulseOff b).fanner.junctions = s.fanner.junctions := by
  unfold State.pulseOff
  split
  · exact ⟨rfl, rfl, rfl, rfl⟩
  next n _ _ =>
    have h := each_keeps State.pulseFrame (fun c s => s.turnOff c) (fun c s => s.turnOff_pulseFrame c) (pulseChans b n) s
    exact ⟨congrArg (fun v => v.1) h, congrArg (fun v => v.2.1) h, congrArg (fun v => v.2.2.1) h, congrArg (fun v => v.2.2.2.junctions) h⟩

theorem State.pulseOff_of_none {s : State} {b : Nat} {p : PulseTest} (hf : s.fanner.pulse.find? (fun e => e.1 = b) = some (b, p))
    (hp : p.pulse = none) : s.pulseOff b = s := by
  unfold State.pulseOff State.pulseTest
  rw [hf]
  simp [hp]

theorem State.turnOn_chan_other (s : State) {c d : Nat} (h : c ≠ d) : (s.turnOn c).chan d = s.chan d := by
  unfold State.turnOn
  dsimp only
  (repeat' split) <;> simp [State.putChan, State.chan_setChan_other _ _ _ _ h]

theorem State.turnOn_cmd {s : State} {c : Nat} (h : s.refusesOn c = false) : ((s.turnOn c).chan c).cmd = true := by
  unfold State.turnOn
  extract_lets x o dead
  rw [if_neg (by rw [h]; decide)]
  split
  · assumption
  · split
    · exact congrArg Chan.cmd (State.chan_setChan_same ..)
    · split <;> exact congrArg Chan.cmd (State.chan_setChan_same ..)

theorem State.turnOn_refusesOn (s : State) {c d : Nat} (h : c ≠ d) : (s.turnOn c).refusesOn d = s.refusesOn d := by
  have hheld : (s.turnOn c).heldOff (d / 2) = s.heldOff (d / 2) := by
    unfold State.heldOff
    rw [s.turnOn_cellar c]
  have hcell : (s.turnOn c).cell (d / 2) = s.cell (d / 2) := by
    unfold State.turnOn
    dsimp only
    (repeat' split) <;> rfl
  have hdirect : (s.turnOn c).directCh d = s.directCh d := by
    unfold State.turnOn
    dsimp only
    (repeat' split) <;> rfl
  unfold State.refusesOn
  rw [hheld, s.turnOn_chan_other h, hcell, hdirect]

/-- A channel of a cell that nothing holds off keeps what the commands made of it. -/
theorem State.interlock_chan_free {s : State} {c : Nat} (h : s.heldOff (c / 2) = false) : s.interlock.chan c = s.chan c := by
  have hgo : s.interlock.heldOff (c / 2) = false ∧ s.interlock.chan c = s.chan c := by
    rw [State.interlock_eq]
    refine each_holds (p := fun x : State => x.heldOff (c / 2) = false ∧ x.chan c = s.chan c) (fun d x ⟨hx, hc⟩ => ?_) (upto 26) ⟨h, rfl⟩
    refine ⟨(x.lockOne_heldOff d _).trans hx, ?_⟩
    obtain rfl | hne := eq_or_ne d c
    · unfold State.lockOne
      rw [hx]
      exact hc
    · exact (x.lockOne_chan_other d c hne).trans hc
  exact hgo.2

/-- Both switches of a pulse turn on, where nothing refuses them. -/
theorem State.pulseOn_cmd {s : State} {b n c : Nat} (hc : c ∈ pulseChans b n) (hmay : s.refusesOn c = false) :
    ((s.pulseOn b n).interlock.chan c).cmd = true := by
  have hon : ((each (pulseChans b n) s fun c s => s.turnOn c).chan c).cmd = true := by
    unfold pulseChans at hc ⊢
    have hne : 6 * b + n ≠ 6 * b + 2 * ((n / 2 + 1) % 3) + (1 - n % 2) := by omega
    generalize 6 * b + n = c1 at hc hne ⊢
    generalize 6 * b + 2 * ((n / 2 + 1) % 3) + (1 - n % 2) = c2 at hc hne ⊢
    change (((s.turnOn c1).turnOn c2).chan c).cmd = true
    obtain rfl | rfl : c = c1 ∨ c = c2 := by simpa using hc
    · rw [State.turnOn_chan_other _ hne.symm]
      exact State.turnOn_cmd hmay
    · exact State.turnOn_cmd ((s.turnOn_refusesOn hne).trans hmay)
  have hcellar : (s.pulseOn b n).cellar = s.cellar := each_keeps State.cellar (fun c s => s.turnOn c) (fun c s => s.turnOn_cellar c) _ s
  have hheld : (s.pulseOn b n).heldOff (c / 2) = false := by
    unfold State.heldOff
    rw [hcellar]
    exact State.heldOff_of_refusesOn hmay
  rw [State.interlock_chan_free hheld]
  exact hon

theorem State.pulseOn_frame (s : State) (b n : Nat) : (s.pulseOn b n).axes = s.axes ∧ (s.pulseOn b n).fanner.junctions = s.fanner.junctions ∧
    tget (s.pulseOn b n).fanner.switchedAt 0 b = s.now ∧ (s.pulseOn b n).fanner.pulse =
      s.fanner.pulse.map fun e => if e.1 = b then (b, { e.2 with pulse := some (n, s.now + 200000) }) else e := by
  have h := each_keeps State.pulseFrame (fun c s => s.turnOn c) (fun c s => s.turnOn_pulseFrame c) (pulseChans b n) s
  unfold State.pulseOn
  extract_lets s1
  have hnow : s1.now = s.now := congrArg (fun v => v.2.2.1) h
  have hf : s1.fanner = s.fanner := congrArg (fun v => v.2.2.2) h
  have hax : s1.axes = s.axes := congrArg (fun v => v.1) h
  have hj : s1.fanner.junctions = s.fanner.junctions := congrArg Fanner.junctions hf
  clear_value s1
  refine ⟨hax, hj, (tget_tset_same ..).trans hnow, ?_⟩
  rw [← hnow, ← hf]

section
variable {s : State} {b : Nat} {p : PulseTest} (plateau : Nat) (hf : s.fanner.pulse.find? (fun e => e.1 = b) = some (b, p)) (hgood : p.failed = false)
  (hmore : p.done < 96) (hdue : p.done = 0 ∨ p.at_ + 10000000 ≤ s.now)
include hf hgood hmore hdue

theorem jtPulse_hot (hhot : 2 ≤ s.par P.thState) : tget (jtPulse b plateau s).fanner.pulse { point := 0 } b = { p with failed := true, pulse := none } ∧
    (jtPulse b plateau s).params = s.params ∧ (jtPulse b plateau s).axes = s.axes := by
  obtain ⟨hax, hpar, -, -⟩ := s.pulseOff_frame b
  unfold jtPulse
  rw [hf]
  dsimp -zeta only
  extract_lets stop put s1
  have hstop : stop = true := by simp [stop, hhot]
  rw [if_neg (by rw [hgood]; simp; omega), if_pos hstop]
  exact ⟨tget_tset_same .., hpar, hax⟩

/-- A pulse that goes out. -/
theorem jtPulse_fires {k : Nat} (hcold : s.par P.thState < 2) (hlevel : s.par P.thLevel = 0) (haxis : s.axisOfBridge b = some k)
    (hready : (s.ax k).st = .ready) :
    tget (jtPulse b plateau s).fanner.pulse { point := 0 } b = { p with done := p.done + 1, at_ := s.now, pulse := some (p.done / 16, s.now + 200000) } ∧
      ((jtPulse b plateau s).junction (6 * b + p.done / 16)).testSum = (s.junction (6 * b + p.done / 16)).testSum + plateau ∧
      tget (jtPulse b plateau s).fanner.switchedAt 0 b = s.now ∧ (jtPulse b plateau s).axes = s.axes ∧
      (p.pulse = none → ∀ c ∈ pulseChans b (p.done / 16), s.refusesOn c = false → ((jtPulse b plateau s).interlock.chan c).cmd = true) := by
  obtain ⟨hax, -, hnow, hj⟩ := s.pulseOff_frame b
  unfold jtPulse
  rw [hf]
  dsimp -zeta only
  extract_lets stop put s1 j x
  have hstop : ¬ stop = true := by
    unfold stop
    rw [haxis]
    simp [hready, hlevel]
    omega
  rw [if_neg (by rw [hgood]; simp; omega), if_neg hstop]
  generalize hy : put { p with done := p.done + 1, at_ := s1.now, pulse := none } (s1.setJunction j { x with testSum := x.testSum + plateau, testN := x.testN + 1 }) = y
  obtain ⟨g1, g2, g3, g4⟩ := y.pulseOn_frame b (p.done / 16)
  have hyn : y.now = s.now := by rw [← hy]; exact hnow
  refine ⟨?_, ?_, g3.trans hyn, g1.trans ?_, fun hp c hc hmay => State.pulseOn_cmd hc ?_⟩
  · rw [g4, hyn, ← hy]
    refine (tget_map_tset _ b _ _ fun q : PulseTest => { q with pulse := some (p.done / 16, s.now + 200000) }).trans ?_
    rw [show s1.now = s.now from hnow]
  · have hyj : (y.junction j).testSum = x.testSum + plateau := by
      rw [← hy]
      exact congrArg Junction.testSum (tget_tset_same ..)
    have hx : x = s.junction j := congrArg (fun l => tget l ({} : Junction) j) hj
    rw [← hx]
    exact (congrArg (fun l => (tget l ({} : Junction) j).testSum) g2).trans hyj
  · rw [← hy]
    exact hax
  · rw [← hy]
    have hs1 : s1 = s := State.pulseOff_of_none hf hp
    rw [hs1]
    exact hmay

end

/-! ### The end of a calibration -/

/-- What the first point of a position stores. -/
theorem State.storePoint_first (s : State) (b j vgl : Nat) : ((s.storePoint b j 1 vgl).1).par P.jtCal j = 1 := State.par_setPar_same ..

theorem State.storePoint_par (s : State) (b j point vgl : Nat) {q : Par} {i : Nat} (hq : ∀ m, m < 8 → q.pn i 0 ≠ 29184 + m + 16 * j) :
    ((s.storePoint b j point vgl).1).par q i = s.par q i := by
  have hput (x : State) (p : Par) (v : Int) (m : Nat) (hm : m < 8) (hp : p.pn j 0 = 29184 + m + 16 * j) : (x.setPar p v j).par q i = x.par q i := by
    refine x.par_setPar_other _ _ _ _ _ _ _ ?_
    rw [hp]
    exact (hq m hm).symm
  have h1 (x : State) (v : Int) := hput x P.jtP1 v 1 (by decide) rfl
  have h2 (x : State) (v : Int) := hput x P.jtT1 v 2 (by decide) rfl
  have h3 (x : State) (v : Int) := hput x P.jtT2 v 3 (by decide) rfl
  have h4 (x : State) (v : Int) := hput x P.jtSlope v 4 (by decide) rfl
  have h6 (x : State) (v : Int) := hput x P.jtCal v 6 (by decide) rfl
  have h7 (x : State) (v : Int) := hput x P.jtRef v 7 (by decide) rfl
  unfold State.storePoint
  extract_lets x pl t g high off2 sup ref d slope
  split
  · simp only [h6, h7, h2, h1]
  · split
    · rfl
    · simp only [h6, h7, h4, h3]

theorem State.storePoint_fanner (s : State) (b j point vgl : Nat) : ((s.storePoint b j point vgl).1).fanner = s.fanner := by
  unfold State.storePoint
  dsimp only
  (repeat' split) <;> rfl

/-- The test of a bridge taken off the Fanner, before its points are stored. -/
def State.calEnded (s : State) (b : Nat) : State :=
  let s := s.pulseOff b
  let s := { s with fanner := { s.fanner with pulse := s.fanner.pulse.filter fun e => e.1 ≠ b } }
  (s.setBit P.jtStatus 2 false b).setPar P.jtCalCmd 0 b

/-- The positions that accepted their point, kept in the configuration, and the answer of the calibration. -/
def State.calReport (s : State) (b point : Nat) (ns : List Nat) : State :=
  let ok := decide (ns.length = 6)
  let s := s.keep (ns.flatMap fun n => [P.jtP1, P.jtT1, P.jtT2, P.jtSlope, P.jtCal, P.jtRef].map fun q => q.pn (6 * b + n) 0)
  let (d, s) := if ok then (0, s) else s.draw 8
  s.notify 5 6 b (leBytes 1 point ++ leBytes 1 (if ok then 0 else max 1 d))

/-- One position's point stored, and its number kept where it was accepted. -/
def calPoint (b point vgl : Nat) (a : State × List Nat) (n : Nat) : State × List Nat :=
  let r := a.1.storePoint b (6 * b + n) point vgl
  (r.1, if r.2 then n :: a.2 else a.2)

section
variable {s : State} {b : Nat} {p : PulseTest} (hf : s.fanner.pulse.find? (fun e => e.1 = b) = some (b, p))
include hf

theorem jtCalDone_of_failed (hp : p.failed = true) : jtCalDone b s = (s.calEnded b).calReport b p.point [] := by
  unfold jtCalDone
  rw [hf]
  dsimp -zeta only
  rw [if_neg (by simp [hp]), hp]
  rfl

theorem jtCalDone_of_done (hp : p.failed = false) (hd : 96 ≤ p.done) :
    jtCalDone b s = ((upto 6).foldl (calPoint b p.point ((s.calEnded b).parN P.vglpV b)) (s.calEnded b, [])).1.calReport b p.point
      ((upto 6).foldl (calPoint b p.point ((s.calEnded b).parN P.vglpV b)) (s.calEnded b, [])).2 := by
  unfold jtCalDone
  rw [hf]
  dsimp -zeta only
  rw [if_neg (by omega), hp]
  rfl

end

theorem State.calEnded_pulse (s : State) (b : Nat) : (s.calEnded b).fanner.pulse.find? (fun e => e.1 = b) = none := by
  refine List.find?_eq_none.mpr fun e he => ?_
  have he := (List.mem_filter.mp (show e ∈ (s.pulseOff b).fanner.pulse.filter _ from he)).2
  simpa using he

theorem State.calEnded_cmd (s : State) (b : Nat) : (s.calEnded b).par P.jtCalCmd b = 0 := State.par_setPar_same ..

theorem State.pulseOff_config (s : State) (b : Nat) : (s.pulseOff b).config = s.config := by
  unfold State.pulseOff
  split
  · rfl
  next n _ _ =>
    refine each_keeps State.config (fun c s => s.turnOff c) (fun c s => ?_) (pulseChans b n) s
    obtain ⟨x, -, -, h⟩ := s.turnOff_put c
    rw [h]
    rfl

theorem State.calReport_par (s : State) (b point : Nat) (ns : List Nat) {q : Par} {i : Nat} (hq : Lasting q i) :
    (s.calReport b point ns).par q i = s.par q i := by
  unfold State.calReport
  extract_lets ok s1
  clear_value ok
  cases ok with
  | false => exact (hq.bus.notify ..).trans rfl
  | true => exact (hq.bus.notify ..).trans rfl

theorem State.calReport_keeps (s : State) (b point : Nat) (ns : List Nat) :
    (s.calReport b point ns).fanner = s.fanner ∧ (ns = [] → (s.calReport b point ns).config = s.config) := by
  unfold State.calReport
  extract_lets ok s1
  have h1 : ns = [] → s1.config = s.config := by
    rintro rfl
    rfl
  clear_value ok
  cases ok with
  | false => exact ⟨(fanner_of_quiet (State.notify_quiet ..)).trans rfl, fun he => (config_of_quiet (State.notify_quiet ..)).trans (h1 he)⟩
  | true => exact ⟨(fanner_of_quiet (State.notify_quiet ..)).trans rfl, fun he => (config_of_quiet (State.notify_quiet ..)).trans (h1 he)⟩

theorem lasting_jtCalCmd {b : Nat} (hb : b < 4) : Lasting P.jtCalCmd b where
  low := by change 29063 + 16 * b + 0 * 0 < 32768; omega
  notFault := by
    have : P.jtCalCmd.pn b 0 = 29063 + 16 * b + 0 * 0 := rfl
    omega

theorem lasting_jtCal {j : Nat} (hj : j < 24) : Lasting P.jtCal j where
  low := by change 29190 + 16 * j + 0 * 0 < 32768; omega
  notFault := by
    have : P.jtCal.pn j 0 = 29190 + 16 * j + 0 * 0 := rfl
    omega

theorem jtCalDone_failed {s : State} {b : Nat} {p : PulseTest} (hb : b < 4) (hf : s.fanner.pulse.find? (fun e => e.1 = b) = some (b, p))
    (hp : p.failed = true) : (jtCalDone b s).fanner.pulse.find? (fun e => e.1 = b) = none ∧ (jtCalDone b s).par P.jtCalCmd b = 0 ∧
      (jtCalDone b s).config = s.config := by
  obtain ⟨h1, h2⟩ := (s.calEnded b).calReport_keeps b p.point []
  rw [jtCalDone_of_failed hf hp, h1, h2 rfl, (s.calEnded b).calReport_par b _ _ (lasting_jtCalCmd hb)]
  exact ⟨s.calEnded_pulse b, s.calEnded_cmd b, s.pulseOff_config b⟩

/-- The states of a calibration's points, one after the other. -/
theorem foldl_calPoint_fst (b point vgl : Nat) (l : List Nat) (a : State × List Nat) :
    (l.foldl (calPoint b point vgl) a).1 = each l a.1 fun n s => (s.storePoint b (6 * b + n) point vgl).1 := by
  induction l generalizing a with
  | nil => rfl
  | cons n l ih => exact ih _

theorem jtCalDone_first {s : State} {b : Nat} {p : PulseTest} (hb : b < 4) (hf : s.fanner.pulse.find? (fun e => e.1 = b) = some (b, p))
    (hp : p.failed = false) (hd : 96 ≤ p.done) (hpoint : p.point = 1) : (jtCalDone b s).fanner.pulse.find? (fun e => e.1 = b) = none ∧
      (jtCalDone b s).par P.jtCalCmd b = 0 ∧ ∀ n, n < 6 → (jtCalDone b s).par P.jtCal (6 * b + n) = 1 := by
  rw [jtCalDone_of_done hf hp hd, hpoint]
  generalize (s.calEnded b).parN P.vglpV b = vgl
  generalize (List.foldl (calPoint b 1 vgl) (s.calEnded b, []) (upto 6)).2 = ns
  rw [foldl_calPoint_fst]
  obtain ⟨h1, -⟩ := State.calReport_keeps (each (upto 6) (s.calEnded b) fun n s => (s.storePoint b (6 * b + n) 1 vgl).1) b 1 ns
  refine ⟨?_, ?_, fun n hn => ?_⟩
  · rw [h1, each_keeps State.fanner (fun n s => (s.storePoint b (6 * b + n) 1 vgl).1) (fun n s => s.storePoint_fanner ..)]
    exact s.calEnded_pulse b
  · rw [State.calReport_par _ _ _ _ (lasting_jtCalCmd hb)]
    refine (each_keeps (fun x : State => x.par P.jtCalCmd b) (fun n s => (s.storePoint b (6 * b + n) 1 vgl).1)
      (fun n s => s.storePoint_par _ _ _ _ fun m hm => ?_) (upto 6) (s.calEnded b)).trans (s.calEnded_cmd b)
    change 29063 + 16 * b + 0 * 0 ≠ _
    omega
  · rw [State.calReport_par _ _ _ _ (lasting_jtCal (by omega))]
    obtain ⟨x, -, he⟩ := each_once (fun x : State => x.par P.jtCal (6 * b + n)) (fun n s => (s.storePoint b (6 * b + n) 1 vgl).1) List.nodup_range
      (List.mem_range.mpr hn) (fun n' _ hne s => s.storePoint_par _ _ _ _ fun m hm => by
        change 29190 + 16 * (6 * b + n) + 0 * 0 ≠ _
        omega) (s.calEnded b)
    exact he.trans (x.storePoint_first ..)

/-! ### Wear -/

theorem lifeUpdate_due {s : State} (h : s.fanner.lifeAt + 1000000000 ≤ s.now) :
    (lifeUpdate s).fanner.lifeAt = s.now ∧ (lifeUpdate s).fanner.lifeRest < 3600000 ∧ (lifeUpdate s).axes = s.axes := by
  unfold lifeUpdate
  rw [if_neg (by omega)]
  extract_lets die us _ s1 s2
  have h2 : s2.quiet = s1.quiet := s1.incPar_quiet P.lifeUsed 0 0 _
  refine ⟨(congrArg Fanner.lifeAt (fanner_of_quiet h2)).trans rfl, ?_, (axes_of_quiet h2).trans rfl⟩
  rw [show (s2.setPar P.lifeFrac _).fanner.lifeRest = us % 3600000 from (congrArg Fanner.lifeRest (fanner_of_quiet h2)).trans rfl]
  exact Nat.mod_lt _ (by decide)

theorem wearSave_due {s : State} (h : s.fanner.wearAt + 86400000000000 ≤ s.now) :
    (wearSave s).wear.head? = some (s.parN P.lifeUsed, (upto 13).map fun g => s.parN P.cellCycles g) ∧ (wearSave s).fanner.wearAt = s.now ∧
      (wearSave s).params = s.params := by
  unfold wearSave
  rw [if_pos h]
  exact ⟨rfl, rfl, rfl⟩

/-- Settles O31. -/
theorem junctionAndWear : Obligations.JunctionAndWear := by
  intro s0 τ s
  have hτ : τ ≤ (s0.at τ).now := Nat.le_max_right ..
  refine ⟨fun k code hk hdue => ?_, fun b k n hb hn hdue hntc hsw hst => ?_, fun b v hb hv hmay hnone => ?_, fun b v href => ?_,
    fun b p plateau hf hgood hmore hdue => ⟨fun hhot => ?_, fun k hcold hlevel haxis hready => ?_⟩, fun b p hb hf => ⟨fun hp => ?_, fun hp hdone hpoint => ?_⟩,
    fun hdue => ?_, fun hdue => ?_⟩
  · refine Does.of_answer rfl fun t ht => ?_
    rw [ht.par_eq, ht.fanner, ht.axes]
    exact ntcSample_due (s := s0.at τ) hk code (hdue.trans hτ)
  · refine Does.of_answer rfl fun t ht => ?_
    rw [ht.par_eq, ht.fanner, ht.standing]
    exact junctionUpdate_idle (s := s0.at τ) (hdue.trans hτ) hb hn hntc hsw hst
  · refine Does.of_answer rfl fun t ht => ?_
    rw [ht.par_eq, ht.fanner, ht.axes]
    exact jtCalCmd_begins (s := s0.at τ) hb hv hmay hnone
  · refine Does.of_answer (congrArg (answer s0) (jtCalCmd_refused (s := s0.at τ) v href)) fun t ht => ?_
    exact ⟨ht.params, ht.fanner, ht.axes⟩
  · refine Does.of_answer rfl fun t ht => ?_
    rw [ht.params, ht.fanner, ht.axes]
    exact jtPulse_hot (s := s0.at τ) plateau hf hgood hmore (hdue.imp_right hτ.trans') hhot
  · refine Does.of_answer rfl fun t ht => ?_
    obtain ⟨h1, h2, h3, h4, h5⟩ := jtPulse_fires (s := s0.at τ) plateau hf hgood hmore (hdue.imp_right hτ.trans') hcold hlevel haxis hready
    rw [State.junction, ht.fanner, ht.axes]
    refine ⟨h1, h2, h3, h4, fun _ hp c hc hmay => ?_⟩
    exact (congrArg (fun l => (tget l ({} : Chan) c).cmd) ht.chans).trans (h5 hp c hc hmay)
  · refine Does.of_answer rfl fun t ht => ?_
    rw [ht.par_eq, ht.fanner, ht.config]
    exact jtCalDone_failed (s := s0.at τ) hb hf hp
  · refine Does.of_answer rfl fun t ht => ?_
    simp only [ht.par_eq, ht.fanner]
    exact jtCalDone_first (s := s0.at τ) hb hf hp hdone hpoint
  · refine Does.of_answer rfl fun t ht => ?_
    rw [ht.fanner, ht.axes]
    exact lifeUpdate_due (s := s0.at τ) (hdue.trans hτ)
  · refine Does.of_answer rfl fun t ht => ?_
    rw [ht.wear, ht.fanner, ht.params]
    exact wearSave_due (s := s0.at τ) (hdue.trans hτ)

end Sys2Proof.Machine
end

section
/-! # Temperature windows, thermal states and levels (R411 to R430) -/
namespace Sys2Proof.Machine

/-! ### A temperature window -/

/-- The parameters that a window of the 29 sensors writes after its raw counts. -/
def windowPars : List Par :=
  [P.tsBrokenMask, P.thState, P.thSdCount, P.tsValue, P.tsDiff, P.tsHot, P.tsHotId, P.tsCold, P.thCold, P.thLevel, P.cellCycles]

/-- A property that the sensors' check, the thermal states and the cells' cycles keep. -/
structure WindowSafe (p : State → Prop) : Prop where
  fanner : ∀ {s : State} (x : Fanner), x.windowAt = s.fanner.windowAt → p s → p { s with fanner := x }
  setPar : ∀ {s : State} (q : Par) (v : Int) (i : Nat), q ∈ windowPars → i < 29 → p s → p (s.setPar q v i)
  free : ∀ {s : State} (x : Nat), p s → p { s with free := x }
  raiseModule : ∀ {s : State} (code inst : Nat) (path : String), p s → p (s.raiseModule code inst path)

section
variable {p : State → Prop} (hp : WindowSafe p)
include hp

theorem WindowSafe.setSensor {s : State} (n : Nat) (x : Sensor) (h : p s) : p (s.setSensor n x) := hp.fanner _ rfl h

theorem WindowSafe.checkSensors {s : State} (t : List Int) (h : p s) : p (s.checkSensors t) := by
  unfold State.checkSensors
  extract_lets devs deviates bad cand rank worst hot s1
  have h1 : p s1 := foldl_holds (fun s n hs => by
    dsimp only
    split
    · exact hp.setSensor _ _ hs
    · exact hp.setSensor _ _ hs) _ h
  clear_value s1 worst
  split
  · exact h1
  next n =>
    extract_lets _ s2 hold _ s3
    have h2 : p s2 := hp.setSensor _ _ (hp.setPar P.tsBrokenMask _ 0 (by simp [windowPars]) (by decide) h1)
    clear_value s2
    have h3 : p s3 := ite_holds (hp.fanner _ rfl h2) h2
    exact hp.raiseModule _ _ _ h3

theorem WindowSafe.cellCycle {s : State} (t : List Int) {g : Nat} (hg : g < 13) (h : p s) : p (s.cellCycle t g) := by
  unfold State.cellCycle
  extract_lets n v x
  split
  · exact h
  · split
    · split
      · refine hp.setSensor _ _ ?_
        unfold State.incPar
        exact ite_holds (hp.setPar P.cellCycles _ g (by simp [windowPars]) (by omega) h)
          (hp.setPar P.cellCycles _ g (by simp [windowPars]) (by omega) (hp.free _ h))
      · exact hp.setSensor _ _ h
    · exact hp.setSensor _ _ h

theorem WindowSafe.thermalStates {s : State} (t : List Int) (h : p s) : p (s.thermalStates t) := by
  unfold State.thermalStates
  extract_lets vals s1 s2
  have hvals : ∀ e ∈ vals, e.1 < 29 := fun e he => by
    obtain ⟨n, hn, he⟩ := List.mem_filterMap.mp he
    obtain ⟨v, -, rfl⟩ := Option.map_eq_some_iff.mp he
    exact List.mem_range.mp hn
  have h1 : p s1 := List.foldlRecOn (motive := p) vals _ h fun x hx e he => hp.setPar _ _ _ (by simp [windowPars]) (hvals e he) hx
  have h2 : p s2 := List.foldlRecOn (motive := p) (upto 29) _ h1 fun x hx n hn =>
    hp.setPar P.tsDiff _ n (by simp [windowPars]) (List.mem_range.mp hn) hx
  clear_value s2 s1 vals
  have hone {x : State} (q : Par) (v : Int) (hq : q ∈ windowPars) (hx : p x) : p (x.setPar q v) := hp.setPar q v 0 hq (by decide) hx
  split
  · exact h2
  · extract_lets +onlyGivenNames hot cold h c s3 sd l
    have h3 : p s3 := hone _ _ (by simp [windowPars]) <| hone _ _ (by simp [windowPars]) <| hone _ _ (by simp [windowPars]) h2
    clear_value s3 l sd c h cold hot
    split
    · extract_lets +onlyGivenNames _ s4 s5
      have h4 : p s4 := ite_holds h3 (hp.fanner _ rfl (hone _ _ (by simp [windowPars]) h3))
      have h5 : p s5 := hone _ _ (by simp [windowPars]) h4
      exact hp.fanner _ rfl h5
    · extract_lets +onlyGivenNames st want cst cw l1 keep l2 s4
      have h4 : p s4 := hone _ _ (by simp [windowPars]) (hp.fanner _ rfl h3)
      exact hp.fanner _ rfl h4

/-- A property that no fault's reaction ends either is kept by the Cellar's own comparison. -/
theorem WindowSafe.cellarTemps (hr : RaiseSafe p) (hporch : ∀ {s : State} x, p s → p { s with porch := x }) {s : State} (mask : Int) (counts : List Nat)
    (t : List Int) (h : p s) : p (s.cellarTemps mask counts t) := by
  have hone {x : State} (q : Par) (v : Int) (hq : q ∈ windowPars) (hx : p x) : p (x.setPar q v) := hp.setPar q v 0 hq (by decide) hx
  have hsd {x : State} (hx : p x) : p x.thermalSd := by
    unfold State.thermalSd
    extract_lets sd latched _ s1 s2 l s3 s4
    have h2 : p s2 := hone _ _ (by simp [windowPars]) <| hone _ _ (by simp [windowPars]) <| hr.cellar _ hx
    have h4 : p s4 := hr.holdOff _ _ (hp.fanner _ rfl h2)
    clear_value s4
    unfold State.orOwe
    split
    · exact hporch _ h4
    · unfold State.thermalAxes
      refine foldl_holds (fun y k hy => ?_) _ (hr.raiseAll _ _ _ _ _ h4)
      exact ite_holds (hr.enterFault _ _ _ _ hy) (hr.ax _ _ rfl hy)
  unfold State.cellarTemps
  extract_lets live above cool standing _ s1 s2
  have h2 : p s2 := hone _ _ (by simp [windowPars]) (hr.cellar _ h)
  exact ite_holds (hsd h2) h2

end

/-! ### What a window keeps -/

theorem lasting_tsRaw {n : Nat} (hn : n < 29) : Lasting P.tsRaw n where
  low := by change 28704 + 1 * n + 0 * 0 < 32768; omega
  notFault := by
    have : P.tsRaw.pn n 0 = 28704 + 1 * n + 0 * 0 := rfl
    omega

theorem lasting_clkStatus : Lasting P.clkStatus 0 := ⟨by decide, by decide⟩

/-- The parameter numbers that a window writes are those of chapter 10 above the raw counts' own. -/
theorem windowPars_pn {q : Par} (hq : q ∈ windowPars) {i : Nat} (hi : i < 29) : 28672 ≤ q.pn i 0 ∧ (q.pn i 0 < 28704 ∨ 28733 ≤ q.pn i 0) := by
  simp only [windowPars, List.mem_cons, List.not_mem_nil, or_false] at hq
  have hf (n m : Nat) (h1 : 28672 ≤ n) (h2 : n + 29 * m < 28704 ∨ 28733 ≤ n) : 28672 ≤ n + m * i + 0 * 0 ∧ (n + m * i + 0 * 0 < 28704 ∨ 28733 ≤ n + m * i + 0 * 0) := by
    have : m * i ≤ 29 * m := by nlinarith
    omega
  rcases hq with rfl | rfl | rfl | rfl | rfl | rfl | rfl | rfl | rfl | rfl | rfl
  all_goals exact hf _ _ (by decide) (by decide)

theorem Lasting.windowSafe {q : Par} {k : Nat} (hq : Lasting q k) (hpn : q.pn k 0 < 28672 ∨ 28704 ≤ q.pn k 0 ∧ q.pn k 0 < 28733) (v : Int) :
    WindowSafe fun s => s.par q k = v where
  fanner _ _ h := h
  setPar r w i hr hi h := by
    have hne := windowPars_pn hr hi
    exact (State.par_setPar_other _ r q w i 0 k 0 (by omega)).trans h
  free _ h := h
  raiseModule _ _ _ h := (hq.raiseSafe v).raiseModule _ _ _ h

theorem windowSafe_cellar (c : Cellar) : WindowSafe fun s => s.cellar = c where
  fanner _ _ h := h
  setPar _ _ _ _ _ h := h
  free _ h := h
  raiseModule _ _ _ h := (State.raiseModule_cellar ..).trans h

theorem quietSafe_windowAt (v : Nat) : QuietSafe fun s => s.fanner.windowAt = v where
  quiet h hs := (congrArg Fanner.windowAt (fanner_of_quiet h)).trans hs
  ax _ _ _ h := h
  lanes _ h := h
  chans _ h := h
  cells _ h := h
  cellar _ h := h
  standing _ h := h
  stopped _ h := h

theorem windowSafe_windowAt (v : Nat) : WindowSafe fun s => s.fanner.windowAt = v where
  fanner _ hx h := hx.trans h
  setPar _ _ _ _ _ h := h
  free _ h := h
  raiseModule _ _ _ h := (quietSafe_windowAt v).raise.raiseModule _ _ _ h

/-- A count beyond its shutdown count holds off every cell at once. -/
theorem State.cellarTemps_holds {s : State} {mask : Int} {counts : List Nat} (t : List Int) {n g : Nat} (hfree : tget s.cellar.causes 0 3 = 0)
    (hn : n < 29) (hmask : bit mask n = false) (hover : s.overCount n (counts.getD n 0) = true) (hg : g < 13) : (s.cellarTemps mask counts t).holds 3 g := by
  unfold State.cellarTemps
  extract_lets live above cool standing _ s1 s2
  have habove : above = true := List.any_eq_true.mpr ⟨n, List.mem_filter.mpr ⟨List.mem_range.mpr hn, by simp [hmask]⟩, hover⟩
  have hstanding : ¬ standing = true := by simp [standing, hfree]
  rw [if_pos ⟨habove, hstanding⟩]
  unfold State.thermalSd
  extract_lets sd latched _ s3 s4 l s5 s6
  have h6 : s6.holds 3 g := s5.holdOff_all (by decide) hg
  clear_value s6
  unfold State.orOwe
  split
  · exact h6
  · exact State.thermalAxes_keepsHolds latched s6 3 g (by decide) hg h6

/-- What a window makes of its counts, the rest of the window left to come. -/
def State.windowRead (s : State) (counts : List Nat) : State :=
  (upto 29).foldl (fun s n => s.setPar P.tsRaw (min 65535 (counts.getD n 0) : Nat) n) { s with fanner := { s.fanner with windowAt := s.now, held := [] } }

/-- The window after its counts are read: the sensors' check, the Cellar's comparison, the thermal states and the cells' cycles. -/
def State.windowRest (s : State) (counts : List Nat) : State :=
  let t := (upto 29).map fun n => tempOf n (counts.getD n 0)
  each (upto 13) (((s.checkSensors t).cellarTemps (s.par P.tsBrokenMask) counts t).thermalStates t) fun g s => s.cellCycle t g

theorem tempWindow_of_due {s : State} (counts : List Nat) (hst : s.dev.st ≠ .off) (hdue : s.fanner.windowAt + 100000 ≤ s.now) :
    tempWindow counts s = (s.windowRead counts).windowRest counts := if_neg fun h => h.elim hst fun h => by omega

theorem WindowSafe.windowRest {p : State → Prop} (hp : WindowSafe p) (hr : RaiseSafe p) (hporch : ∀ {s : State} x, p s → p { s with porch := x })
    {s : State} (counts : List Nat) (h : p s) : p (s.windowRest counts) := by
  unfold State.windowRest
  extract_lets t
  have h1 := hp.thermalStates t (hp.cellarTemps hr hporch (s.par P.tsBrokenMask) counts t (hp.checkSensors t h))
  generalize (((s.checkSensors t).cellarTemps (s.par P.tsBrokenMask) counts t).thermalStates t) = y at h1 ⊢
  exact List.foldlRecOn (motive := p) (upto 13) (fun s g => s.cellCycle t g) h1 fun _ hx _ hg => hp.cellCycle t (List.mem_range.mp hg) hx

/-- What the counts' writing leaves alone of what the window asks after it. -/
def State.windowFrame (s : State) : Cellar × Nat × Int × Int := (s.cellar, s.fanner.windowAt, s.par P.clkStatus, s.par P.tsBrokenMask)

theorem State.windowFrame_raw (s : State) (n : Nat) (v : Int) (hn : n < 29) : (s.setPar P.tsRaw v n).windowFrame = s.windowFrame := by
  have hset (q : Par) (hq : q.pn 0 0 < 28704 ∨ 28733 ≤ q.pn 0 0) : (s.setPar P.tsRaw v n).par q = s.par q := by
    refine s.par_setPar_other _ _ _ _ _ _ _ ?_
    change 28704 + 1 * n + 0 * 0 ≠ q.pn 0 0
    omega
  unfold State.windowFrame
  rw [hset P.clkStatus (by decide), hset P.tsBrokenMask (by decide)]
  rfl

theorem State.windowRead_frame (s : State) (counts : List Nat) :
    (s.windowRead counts).windowFrame = (s.cellar, s.now, s.par P.clkStatus, s.par P.tsBrokenMask) := by
  unfold State.windowRead
  generalize hy : ({ s with fanner := { s.fanner with windowAt := s.now, held := [] } } : State) = y
  have hframe : y.windowFrame = (s.cellar, s.now, s.par P.clkStatus, s.par P.tsBrokenMask) := by rw [← hy]; rfl
  exact List.foldlRecOn (motive := fun x : State => x.windowFrame = _) (upto 29) _ hframe fun x hx n hn =>
    (x.windowFrame_raw n _ (List.mem_range.mp hn)).trans hx

theorem State.windowRead_raw (s : State) (counts : List Nat) {n : Nat} (hn : n < 29) :
    (s.windowRead counts).par P.tsRaw n = (min 65535 (counts.getD n 0) : Nat) := by
  obtain ⟨x, -, he⟩ := each_once (fun x : State => x.par P.tsRaw n) (fun n s => s.setPar P.tsRaw (min 65535 (counts.getD n 0) : Nat) n)
    List.nodup_range (List.mem_range.mpr hn) (fun i _ hi x => x.par_setPar_other _ _ _ _ _ _ _ (by
      change 28704 + 1 * i + 0 * 0 ≠ 28704 + 1 * n + 0 * 0
      omega)) { s with fanner := { s.fanner with windowAt := s.now, held := [] } }
  exact he.trans (State.par_setPar_same ..)

/-- The cells that a window holds off stay held for the rest of it. -/
theorem State.windowRest_holds {s : State} {counts : List Nat} {n g : Nat} (hfree : tget s.cellar.causes 0 3 = 0) (hn : n < 29)
    (hgood : s.broken n = false) (hover : s.overCount n (counts.getD n 0) = true) (hg : g < 13) : (s.windowRest counts).heldOff g = true := by
  unfold State.windowRest
  extract_lets t
  clear_value t
  have hcellar : (s.checkSensors t).cellar = s.cellar := (windowSafe_cellar s.cellar).checkSensors t rfl
  have hclk : (s.checkSensors t).par P.clkStatus = s.par P.clkStatus := (lasting_clkStatus.windowSafe (by decide) _).checkSensors t rfl
  have hover' : (s.checkSensors t).overCount n (counts.getD n 0) = true := by
    rw [← hover]
    unfold State.overCount State.clkMargin
    rw [hclk]
  have hheld := State.cellarTemps_holds (s := s.checkSensors t) t (by rw [hcellar]; exact hfree) hn hgood hover' hg
  generalize (s.checkSensors t).cellarTemps (s.par P.tsBrokenMask) counts t = y at hheld ⊢
  refine State.holds.heldOff (c := 3) (State.holds_of_cellar ?_ hheld)
  exact List.foldlRecOn (motive := fun x : State => x.cellar = y.cellar) (upto 13) _ ((windowSafe_cellar y.cellar).thermalStates t rfl)
    fun _ hx _ hm => (windowSafe_cellar y.cellar).cellCycle t (List.mem_range.mp hm) hx

theorem tempWindow_reads {s : State} (counts : List Nat) (hst : s.dev.st ≠ .off) (hdue : s.fanner.windowAt + 100000 ≤ s.now) :
    (tempWindow counts s).fanner.windowAt = s.now ∧ (∀ n, n < 29 → (tempWindow counts s).par P.tsRaw n = (min 65535 (counts.getD n 0) : Nat)) ∧
      (tget s.cellar.causes 0 3 = 0 → (∃ n, n < 29 ∧ s.broken n = false ∧ s.overCount n (counts.getD n 0) = true) →
        ∀ g, g < 13 → (tempWindow counts s).heldOff g = true) := by
  have hraw := fun n hn => s.windowRead_raw counts (n := n) hn
  have hframe := s.windowRead_frame counts
  rw [tempWindow_of_due counts hst hdue]
  generalize s.windowRead counts = y at hraw hframe ⊢
  have hcellar : y.cellar = s.cellar := congrArg (fun v => v.1) hframe
  have hat : y.fanner.windowAt = s.now := congrArg (fun v => v.2.1) hframe
  have hclk : y.par P.clkStatus = s.par P.clkStatus := congrArg (fun v => v.2.2.1) hframe
  have hmask : y.par P.tsBrokenMask = s.par P.tsBrokenMask := congrArg (fun v => v.2.2.2) hframe
  refine ⟨?_, fun n hn => ?_, fun hfree ⟨n, hn, hgood, hover⟩ g hg => State.windowRest_holds (n := n) ?_ hn ?_ ?_ hg⟩
  · exact (windowSafe_windowAt _).windowRest (quietSafe_windowAt _).raise (fun _ h => h) counts hat
  · refine ((lasting_tsRaw hn).windowSafe ?_ _).windowRest ((lasting_tsRaw hn).raiseSafe _) (fun _ h => h) counts (hraw n hn)
    change 28704 + 1 * n + 0 * 0 < 28672 ∨ 28704 ≤ 28704 + 1 * n + 0 * 0 ∧ 28704 + 1 * n + 0 * 0 < 28733
    omega
  · rw [hcellar, hfree]
  · rw [← hgood]
    unfold State.broken
    rw [hmask]
  · rw [← hover]
    unfold State.overCount State.clkMargin
    rw [hclk]

theorem tsPlausible_returns {s : State} {n : Nat} (hn : n < 29) (hbroken : s.broken n = true) (hgood : 10000 ≤ (s.sensor n).good) :
    (tsPlausible n s).broken n = false ∧ (tsPlausible n s).stands 0x0803 n = false ∧ ((tsPlausible n s).sensor n).bad = 0 ∧
      (tsPlausible n s).axes = s.axes := by
  unfold tsPlausible
  rw [if_pos ⟨hn, hbroken, hgood⟩]
  generalize hy : (s.setBit P.tsBrokenMask n false).setSensor n { s.sensor n with bad := 0, good := 0 } = y
  have hby : bit (y.par P.tsBrokenMask) n = false := by
    rw [← hy]
    exact State.setBit_clears s P.tsBrokenMask n 0
  have hpar : (y.unstandCode 0x0803 n).par P.tsBrokenMask = y.par P.tsBrokenMask :=
    ((⟨by decide, by decide⟩ : Lasting P.tsBrokenMask 0).raiseSafe (y.par P.tsBrokenMask)).unstandCode 0x0803 n rfl
  have hf : (y.unstandCode 0x0803 n).fanner = y.fanner :=
    foldl_keeps State.fanner (fun s f => s.unstand f) (fun s f => (fanner_of_quiet (s.unstand_quiet f)).trans rfl) _ y
  refine ⟨?_, State.unstandCode_ends .., ?_, ?_⟩
  · unfold State.broken
    rw [hpar, hby]
  · unfold State.sensor
    rw [hf, ← hy]
    exact congrArg Sensor.bad (tget_tset_same ..)
  · rw [State.unstandCode_axes, ← hy]
    rfl

theorem temperatureWindow : Parts.TemperatureWindow := by
  intro s0 τ s
  have hτ : τ ≤ (s0.at τ).now := Nat.le_max_right ..
  refine ⟨fun counts hst hdue => ?_, fun n hn hbroken hgood => ?_⟩
  · refine Does.of_answer rfl fun t ht => ?_
    simp only [ht.fanner, ht.par_eq, ht.heldOff_eq]
    exact tempWindow_reads (s := s0.at τ) counts hst (hdue.trans hτ)
  · refine Does.of_answer rfl fun t ht => ?_
    rw [State.broken, State.sensor, ht.par_eq, ht.stands_eq, ht.fanner, ht.axes]
    exact tsPlausible_returns (s := s0.at τ) hn hbroken hgood

/-! ### Thermal states and levels -/

theorem lasting_thState : Lasting P.thState 0 := ⟨by decide, by decide⟩
theorem lasting_thCold : Lasting P.thCold 0 := ⟨by decide, by decide⟩
theorem lasting_thAck : Lasting P.thAck 0 := ⟨by decide, by decide⟩
theorem lasting_thLevel : Lasting P.thLevel 0 := ⟨by decide, by decide⟩

theorem State.thermEvent_fanner (s : State) (pos subj grace : Nat) : (s.thermEvent pos subj grace).fanner = s.fanner :=
  fanner_of_quiet (s.thermEvent_quiet pos subj grace)
theorem State.thermEvent_axes (s : State) (pos subj grace : Nat) : (s.thermEvent pos subj grace).axes = s.axes :=
  axes_of_quiet (s.thermEvent_quiet pos subj grace)

/-- A wanted hot state held for 2 s is taken. -/
theorem thermalStateChange_hot {s : State} {t0 : Nat} (hsince : s.fanner.level.since = some t0) (hst : s.par P.thState < 3)
    (hdue : t0 + 2000000000 ≤ s.now) : (thermalStateChange 0 s).par P.thState = s.fanner.level.want ∧
      (thermalStateChange 0 s).fanner.level = s.fanner.level.enter s.fanner.level.want s.now ∧ (thermalStateChange 0 s).axes = s.axes ∧
      (s.fanner.level.want = 2 → (thermalStateChange 0 s).par P.thAck = 0) := by
  unfold thermalStateChange
  rw [if_pos rfl, hsince]
  dsimp -zeta only
  rw [if_pos ⟨hst, hdue⟩]
  extract_lets s1 s2
  have h1 : s1.par P.thState = s.fanner.level.want ∧ s1.fanner.level = s.fanner.level.enter s.fanner.level.want s.now ∧ s1.axes = s.axes := ⟨State.par_setPar_same .., rfl, rfl⟩
  have h2 : s2.par P.thState = s.fanner.level.want ∧ s2.fanner.level = s.fanner.level.enter s.fanner.level.want s.now ∧ s2.axes = s.axes := by
    unfold s2
    split
    · rw [lasting_thState.thermEvent, s1.thermEvent_fanner, s1.thermEvent_axes]
      exact h1
    · exact h1
  obtain ⟨h3, h4, h5⟩ := h2
  clear_value s2 s1
  split
  next hw =>
    refine ⟨?_, ?_, ?_, fun _ => (lasting_thAck.thermEvent ..).trans (State.par_setPar_same ..)⟩
    · exact (lasting_thState.thermEvent ..).trans ((s2.par_setPar_other P.thAck P.thState _ 0 0 0 0 (by decide)).trans h3)
    · exact (congrArg Fanner.level (State.thermEvent_fanner ..)).trans h4
    · exact (State.thermEvent_axes ..).trans h5
  next hw => exact ⟨h3, h4, h5, fun h => absurd h hw⟩

/-- LOW_TEMP raised on an axis that switches, where it does not stand yet. -/
def State.lowTemp (s : State) (path : String) (k : Nat) : State :=
  if s.switching k ∧ ¬ s.stands 0x0802 k then s.raiseOn 0x0802 k k path else s

theorem State.lowTemp_idle {s : State} (path : String) {k : Nat} (h : s.switching k = false) : s.lowTemp path k = s :=
  if_neg fun hc => by
    rw [h] at hc
    exact Bool.false_ne_true hc.1

theorem State.lowTemp_mono {s : State} (path : String) (k : Nat) {i : Nat} (h : s.stands 0x0802 i = true) : (s.lowTemp path k).stands 0x0802 i = true :=
  ite_holds (p := fun x : State => x.stands 0x0802 i = true) (raiseOn_mono _ _ _ _ _ _ _ _ _ (by decide) h) h

theorem State.lowTemp_stands {s : State} (path : String) {k : Nat} (hsw : s.switching k = true) (hfree : s.freeTurn s.now k = true) :
    (s.lowTemp path k).stands 0x0802 k = true := by
  unfold State.lowTemp
  by_cases h : s.stands 0x0802 k = true
  · rw [if_neg fun hc => hc.2 h, h]
  · rw [if_pos ⟨hsw, h⟩]
    exact raiseOn_stands_of_freeTurn hfree _ _ _ _ (by decide)

/-- The first of the axes that switch has LOW_TEMP standing when all have been asked. -/
theorem State.lowTemp_each {s : State} (path : String) {k : Nat} (hk : k < 4) (hsw : s.switching k = true) (hfree : s.freeTurn s.now k = true)
    (hbefore : ∀ j, j < k → s.switching j = false) : (each (upto 4) s fun k s => s.lowTemp path k).stands 0x0802 k = true := by
  have hon := State.lowTemp_stands path hsw hfree
  have hidle (j : Nat) (hj : j < k) := State.lowTemp_idle path (hbefore j hj)
  have hmono (j : Nat) {x : State} (hx : x.stands 0x0802 k = true) := State.lowTemp_mono path j hx
  change ((((s.lowTemp path 0).lowTemp path 1).lowTemp path 2).lowTemp path 3).stands 0x0802 k = true
  obtain rfl | rfl | rfl | rfl : k = 0 ∨ k = 1 ∨ k = 2 ∨ k = 3 := by omega
  · exact hmono 3 (hmono 2 (hmono 1 hon))
  · rw [hidle 0 (by decide)]
    exact hmono 3 (hmono 2 hon)
  · rw [hidle 0 (by decide), hidle 1 (by decide)]
    exact hmono 3 hon
  · rw [hidle 0 (by decide), hidle 1 (by decide), hidle 2 (by decide)]
    exact hon

theorem quietSafe_fanner (f : Fanner) : QuietSafe fun s => s.fanner = f where
  quiet h hs := (fanner_of_quiet h).trans hs
  ax _ _ _ h := h
  lanes _ h := h
  chans _ h := h
  cells _ h := h
  cellar _ h := h
  standing _ h := h
  stopped _ h := h

theorem State.switching_of_axes {s t : State} (h : t.axes = s.axes) (k : Nat) : t.switching k = s.switching k := by
  unfold State.switching
  rw [State.ax_of_axes h]

theorem State.freeTurn_of_axes {s t : State} (h : t.axes = s.axes) (τ k : Nat) : t.freeTurn τ k = s.freeTurn τ k := by
  unfold State.freeTurn
  rw [State.ax_of_axes h]

/-- A wanted cold state held for 2 s is taken, and LOW_TEMP raised on the axes that switch. -/
theorem thermalStateChange_cold {s : State} {t0 : Nat} (hsince : s.fanner.coldSince = some t0) (hdue : t0 + 2000000000 ≤ s.now)
    (hfree : ∀ k, k < 4 → s.freeTurn s.now k = true) : (thermalStateChange 1 s).par P.thCold = s.fanner.coldWant ∧
      (thermalStateChange 1 s).fanner.coldSince = none ∧
      (s.fanner.coldWant = 2 → ∀ k, k < 4 → s.switching k = true → (∀ j, j < k → s.switching j = false) →
        (thermalStateChange 1 s).stands 0x0802 k = true) := by
  unfold thermalStateChange
  rw [if_neg (by decide), hsince]
  dsimp -zeta only
  rw [if_pos ⟨rfl, hdue⟩]
  extract_lets old w _ _ s1 coldId s2 s3
  have h1 : s1.par P.thCold = w ∧ s1.fanner.coldSince = none ∧ s1.axes = s.axes ∧ s1.now = s.now := ⟨State.par_setPar_same .., rfl, rfl, rfl⟩
  have h2 : s2.par P.thCold = w ∧ s2.fanner.coldSince = none ∧ s2.axes = s.axes ∧ s2.now = s.now := by
    unfold s2
    split
    · rw [lasting_thCold.bus.notify, fanner_of_quiet (State.notify_quiet ..), axes_of_quiet (State.notify_quiet ..), now_of_quiet (State.notify_quiet ..)]
      exact h1
    · exact h1
  obtain ⟨hpar, hsince2, hax, hnow⟩ := h2
  unfold s3
  clear_value s2 s1
  split
  next hw =>
    change (each (upto 4) s2 fun k s => s.lowTemp (sensorPath coldId) k).par P.thCold = w ∧
      (each (upto 4) s2 fun k s => s.lowTemp (sensorPath coldId) k).fanner.coldSince = none ∧
      (w = 2 → ∀ k, k < 4 → s.switching k = true → (∀ j, j < k → s.switching j = false) →
        (each (upto 4) s2 fun k s => s.lowTemp (sensorPath coldId) k).stands 0x0802 k = true)
    refine ⟨?_, ?_, fun _ k hk hsw hbefore => State.lowTemp_each _ hk ?_ ?_ fun j hj => ?_⟩
    · exact each_holds (p := fun x : State => x.par P.thCold = w)
        (fun k x hx => ite_holds (p := fun x : State => x.par P.thCold = w) ((lasting_thCold.raiseSafe w).raiseOn _ _ _ _ _ _ hx) hx) _ hpar
    · have hf := each_holds (p := fun x : State => x.fanner = s2.fanner) (f := fun k s => s.lowTemp (sensorPath coldId) k)
        (fun k x hx => ite_holds (p := fun x : State => x.fanner = s2.fanner) ((quietSafe_fanner s2.fanner).raise.raiseOn _ _ _ _ _ _ hx) hx) (upto 4) rfl
      rw [hf, hsince2]
    · rw [State.switching_of_axes hax, hsw]
    · rw [State.freeTurn_of_axes hax, hnow]
      exact hfree k hk
    · rw [State.switching_of_axes hax]
      exact hbefore j hj
  next hw => exact ⟨hpar, hsince2, fun h => absurd h hw⟩

/-- What the end of a shutdown leaves once it has set it. -/
def State.thermalView (s : State) : Cellar × Int × Int × Fanner × Tab Axis := (s.cellar, s.par P.thState, s.par P.thLevel, s.fanner, s.axes)

theorem State.thermalView_of_quiet {s t : State} (h : t.quiet = s.quiet) (hst : t.par P.thState = s.par P.thState)
    (hl : t.par P.thLevel = s.par P.thLevel) : t.thermalView = s.thermalView := by
  unfold State.thermalView
  rw [hst, hl, cellar_of_quiet h, fanner_of_quiet h, axes_of_quiet h]

theorem State.thermalView_event (s : State) (pos subj grace : Nat) : (s.thermEvent pos subj grace).thermalView = s.thermalView :=
  State.thermalView_of_quiet (s.thermEvent_quiet ..) (lasting_thState.thermEvent ..) (lasting_thLevel.thermEvent ..)

theorem State.thermalView_ack (s : State) (v : Int) : (s.setPar P.thAck v).thermalView = s.thermalView :=
  State.thermalView_of_quiet rfl (s.par_setPar_other P.thAck P.thState v 0 0 0 0 (by decide)) (s.par_setPar_other P.thAck P.thLevel v 0 0 0 0 (by decide))

theorem State.thermalView_unstand (s : State) (f : Standing) : (s.unstand f).thermalView = s.thermalView := by
  have hq := s.unstand_quiet f
  unfold State.thermalView
  rw [(lasting_thState.raiseSafe (s.par P.thState)).unstand f rfl, (lasting_thLevel.raiseSafe (s.par P.thLevel)).unstand f rfl,
    (cellar_of_quiet hq).trans rfl, (fanner_of_quiet hq).trans rfl, (axes_of_quiet hq).trans rfl]

/-- The Cellar's shutdown ends, with the module in the state its sensors give and its level enforced at its highest. -/
theorem thermalSdRelease_ends {s : State} {t0 : Nat} (hcool : s.cellar.coolSince = some t0) (hheld : tget s.cellar.causes 0 3 ≠ 0)
    (hst : s.par P.thState = 3) (hdue : t0 + 10000000000 ≤ s.now) (hfew : (recent s.now 3600000000000 s.cellar.releases).length < 3) :
    tget (thermalSdRelease s).cellar.causes 0 3 = 0 ∧ (thermalSdRelease s).par P.thState = hotUp (s.par P.tsHot + s.clkMargin) ∧
      (thermalSdRelease s).parN P.thLevel = 1000 - s.tpN P.thFloor ∧ (thermalSdRelease s).fanner.level.enforcing = true ∧
      (thermalSdRelease s).axes = s.axes := by
  unfold thermalSdRelease
  rw [hcool]
  dsimp -zeta only
  rw [if_pos ⟨hheld, hst, hdue, hfew⟩]
  extract_lets _ s1 s2 st l l2 s3 s4 s5 s6
  have hth : s3.par P.thState = st :=
    (State.par_setPar_other _ P.thLevel P.thState _ 0 0 0 0 (by decide)).trans (State.par_setPar_same s2 P.thState st 0 0)
  have hlevel : s3.par P.thLevel = (l2.fine / 100 : Nat) := State.par_setPar_same ..
  have h4 : s4.thermalView = s3.thermalView := ite_holds (p := fun x : State => x.thermalView = s3.thermalView) (s3.thermalView_event ..) rfl
  have h5 : s5.thermalView = s3.thermalView := by
    unfold s5
    split
    · exact (State.thermalView_event ..).trans ((s4.thermalView_ack 0).trans h4)
    · exact h4
  have h6 : s6.thermalView = s3.thermalView := (foldl_keeps State.thermalView (fun s f => s.unstand f) (fun s f => s.thermalView_unstand f) _ s5).trans h5
  have hcellar : s6.cellar = s3.cellar := congrArg (fun v => v.1) h6
  have hfanner : s6.fanner = s3.fanner := congrArg (fun v => v.2.2.2.1) h6
  refine ⟨?_, (congrArg (fun v => v.2.1) h6).trans hth, ?_, ?_, congrArg (fun v => v.2.2.2.2) h6⟩
  · rw [hcellar]
    exact tget_tset_same ..
  · have h : s6.par P.thLevel = (l2.fine / 100 : Nat) := (congrArg (fun v => v.2.2.1) h6).trans hlevel
    rw [State.parN, h]
    exact (Int.toNat_natCast _).trans (Nat.mul_div_cancel _ (by decide))
  · rw [hfanner]
    rfl

theorem State.levelOf_putLevel (s : State) (w : Nat) (l : Level) : (s.putLevel w l).levelOf w = l := by
  unfold State.putLevel State.levelOf
  split
  · rfl
  · exact tget_tset_same ..

theorem State.putLevel_axes (s : State) (w : Nat) (l : Level) : (s.putLevel w l).axes = s.axes := by
  unfold State.putLevel
  split <;> rfl

theorem State.levelOf_congr {s t : State} (h : t.fanner = s.fanner) (w : Nat) : t.levelOf w = s.levelOf w := by
  unfold State.levelOf State.jtLvl
  rw [h]

theorem thGraceExpired_enforces {s : State} {w t0 : Nat} (hw : w < 5) (hgrace : (s.levelOf w).graceAt = some t0) (hhot : (s.levelOf w).hot = 2)
    (hdue : t0 + s.tpN P.thGrace * 1000000 ≤ s.now) :
    (thGraceExpired w s).levelOf w = { s.levelOf w with graceAt := none, enforcing := true } ∧ (thGraceExpired w s).axes = s.axes := by
  unfold thGraceExpired
  extract_lets l s1
  rw [hgrace]
  dsimp only
  rw [if_pos ⟨hw, hhot, hdue⟩]
  have h1 := s.levelOf_putLevel w { l with graceAt := none, enforcing := true }
  have h2 := s.putLevel_axes w { l with graceAt := none, enforcing := true }
  split
  · exact ⟨(State.levelOf_congr (State.thermEvent_fanner ..) w).trans h1, (State.thermEvent_axes ..).trans h2⟩
  · exact ⟨(State.levelOf_congr (State.thermEvent_fanner ..) w).trans h1, (State.thermEvent_axes ..).trans h2⟩

theorem thRequestRepeat_repeats {s : State} {w t0 : Nat} (hw : w < 5) (hreq : (s.levelOf w).reqAt = some t0) (hhot : (s.levelOf w).hot = 2)
    (hack : s.par P.thAck = 0) (hdue : t0 + 1000000000 ≤ s.now) :
    (thRequestRepeat w s).levelOf w = { s.levelOf w with reqAt := some s.now } ∧ (thRequestRepeat w s).axes = s.axes := by
  unfold thRequestRepeat
  extract_lets l s1
  rw [hreq]
  dsimp only
  rw [if_pos ⟨hw, hhot, hack, hdue⟩]
  have h1 := s.levelOf_putLevel w { l with reqAt := some s.now }
  have h2 := s.putLevel_axes w { l with reqAt := some s.now }
  split
  · exact ⟨(State.levelOf_congr (State.thermEvent_fanner ..) w).trans h1, (State.thermEvent_axes ..).trans h2⟩
  · exact ⟨(State.levelOf_congr (State.thermEvent_fanner ..) w).trans h1, (State.thermEvent_axes ..).trans h2⟩

theorem hold60End_ends {s : State} {u : Nat} (h : s.fanner.hold60 = some u) (hu : u ≤ s.now) :
    hold60End s = { s with fanner := { s.fanner with hold60 := none } } := by
  unfold hold60End
  rw [h]
  exact if_pos hu

theorem thermalStates : Parts.ThermalStates := by
  intro s0 τ s
  have hτ : τ ≤ (s0.at τ).now := Nat.le_max_right ..
  refine ⟨fun t0 hsince hst hdue => ?_, fun t0 hsince hdue hfree => ?_, fun t0 hcool hheld hst hdue hfew => ?_, fun w t0 hw hgrace hhot hdue => ?_,
    fun w t0 hw hreq hhot hack hdue => ?_, ?_, fun u hu hle => ?_⟩
  · refine Does.of_answer rfl fun t ht => ?_
    obtain ⟨h1, h2, h3, h4⟩ := thermalStateChange_hot (s := s0.at τ) hsince hst (hdue.trans hτ)
    simp only [ht.par_eq, ht.fanner, ht.axes]
    refine ⟨h1, (congrArg Level.hot h2).trans rfl, (congrArg Level.since h2).trans rfl, h3, fun hw => ⟨h4 hw, ?_⟩⟩
    exact (congrArg Level.graceAt h2).trans (if_pos hw)
  · refine Does.of_answer rfl fun t ht => ?_
    simp only [ht.par_eq, ht.fanner, State.Stands, ht.stands_eq]
    exact thermalStateChange_cold (s := s0.at τ) hsince (hdue.trans hτ) fun k hk => State.at_freeTurn (hfree k hk)
  · refine Does.of_answer rfl fun t ht => ?_
    rw [ht.cellar, ht.par_eq, ht.parN_eq, ht.fanner, ht.axes]
    exact thermalSdRelease_ends (s := s0.at τ) hcool hheld hst (hdue.trans hτ) hfew
  · refine Does.of_answer rfl fun t ht => ?_
    rw [State.levelOf_congr ht.fanner, ht.axes]
    exact thGraceExpired_enforces (s := s0.at τ) hw hgrace hhot (hdue.trans hτ)
  · refine Does.of_answer rfl fun t ht => ?_
    rw [State.levelOf_congr ht.fanner, ht.axes]
    exact thRequestRepeat_repeats (s := s0.at τ) hw hreq hhot hack (hdue.trans hτ)
  · refine Does.of_answer rfl fun t ht => ?_
    rw [ht.par_eq, ht.fanner, ht.axes]
    exact ⟨State.par_setPar_same .., rfl, rfl⟩
  · refine Does.of_answer (congrArg (answer s0) (hold60End_ends (s := s0.at τ) hu (hle.trans hτ))) fun t ht => ?_
    rw [ht.fanner, ht.axes]
    exact ⟨rfl, rfl⟩

/-- Settles O30. -/
theorem temperaturesAndStates : Obligations.TemperaturesAndStates := ⟨temperatureWindow, thermalStates⟩

end Sys2Proof.Machine
end

section
/-! # Off-state diagnostics step by step (Table 9.8, R397 to R400) -/
namespace Sys2Proof.Machine

/-- A step of the diagnostics that passes changes the record of its axis and the cell it feeds alone. -/
theorem State.preStep_moves {s : State} {k : Nat} {p : Precheck} (h : (s.ax k).precheck = some p) (f : Precheck → Precheck) :
    (s.preStep k f).ax k = { s.ax k with precheck := some (f p) } ∧ (s.preStep k f).standing = s.standing ∧ (s.preStep k f).cellar = s.cellar := by
  have hcell (x : State) (q : Precheck) (on : Bool) : (x.testCurrent q on).ax k = x.ax k ∧ (x.testCurrent q on).standing = x.standing ∧
      (x.testCurrent q on).cellar = x.cellar := by
    unfold State.testCurrent
    split <;> exact ⟨rfl, rfl, rfl⟩
  obtain ⟨a1, a2, a3⟩ := hcell s p false
  obtain ⟨b1, b2, b3⟩ := hcell (s.testCurrent p false) (f p) true
  unfold State.preStep
  rw [h]
  refine ⟨?_, b2.trans a2, b3.trans a3⟩
  rw [State.ax_modAx_same, b1, a1]

/-- A step that fails has its first fault standing. -/
theorem State.preFails_stands {s : State} {k : Nat} {p : Precheck} (h : (s.ax k).precheck = some p) (bitNo code inst : Nat) (path : String)
    (rest : List (Nat × Nat × String)) (hard : Bool) (hc : code ≠ 0x0206) :
    (s.preFails k bitNo ((code, inst, path) :: rest) hard).stands code inst = true := by
  unfold State.preFails
  rw [h]
  dsimp only
  rw [List.foldl_cons]
  exact foldl_holds (p := fun x : State => x.stands code inst = true) (fun x f hx => raiseOn_mono _ _ _ _ _ _ _ _ _ hc hx) rest
    (raiseOn_stands _ _ _ _ _ _ _ hc (by simp))

theorem Does.of_preStep (c : Instr) {s0 x y : State} {k : Nat} {p : Precheck} {f : Precheck → Precheck} (hy : y = x.preStep k f)
    (h : (x.ax k).precheck = some p) (hx : exec c s0 = answer s0 y) :
    Does c s0 fun t => t.ax k = { x.ax k with precheck := some (f p) } ∧ t.standing = x.standing ∧ t.cellar = x.cellar := by
  obtain ⟨h1, h2, h3⟩ := State.preStep_moves h f
  exact Does.of_answer (hx.trans (congrArg (answer s0) hy)) fun t ht => ⟨(ht.ax_eq k).trans h1, ht.standing.trans h2, ht.cellar.trans h3⟩

theorem Does.of_preFails {c : Instr} {s0 x : State} {k bitNo code inst : Nat} {p : Precheck} {path : String} {rest : List (Nat × Nat × String)}
    {hard : Bool} (hx : exec c s0 = answer s0 (x.preFails k bitNo ((code, inst, path) :: rest) hard)) (h : (x.ax k).precheck = some p)
    (hc : code ≠ 0x0206) : Does c s0 fun t => t.Stands code inst :=
  Does.of_answer hx fun _ ht => (ht.stands_eq _ _).trans (State.preFails_stands h bitNo code inst path rest hard hc)

/-! ### The end of the diagnostics -/

theorem precheckResult_pn (b : Nat) : P.precheckResult.pn b 0 = 20489 + 16 * b + 0 * 0 := rfl

theorem busBlind_precheckResult (b : Nat) : BusBlind fun s => s.par P.precheckResult b := by
  refine busBlind_par (fun i => ?_) ?_ (fun i => ?_) ?_ (fun i => ?_) <;> rw [precheckResult_pn]
  · change 41986 + 4 * i + 0 * 0 ≠ _
    omega
  · change 49159 ≠ _
    omega
  · change 32807 + 64 * i + 0 * 0 ≠ _
    omega
  · change 33551 ≠ _
    omega
  · change 32811 + 64 * i + 0 * 0 ≠ _
    omega

theorem State.moveAxis_precheckResult (s : State) (k : Nat) (st : AxState) (b : Nat) : (s.moveAxis k st).par P.precheckResult b = s.par P.precheckResult b := by
  have hset (x : State) (q : Par) (v : Int) (i : Nat) (hq : q.pn i 0 % 16 ≠ 9) : (x.setPar q v i).par P.precheckResult b = x.par P.precheckResult b := by
    refine x.par_setPar_other _ _ _ _ _ _ _ ?_
    rw [precheckResult_pn]
    omega
  have hstatus (x : State) (n : Nat) (v : Bool) : (x.setBit P.posStatus n v k).par P.precheckResult b = x.par P.precheckResult b := by
    refine hset x P.posStatus _ k ?_
    change (4656 + 4096 * k + 0 * 0) % 16 ≠ 9
    omega
  have hsync (x : State) : (x.syncProc k).par P.precheckResult b = x.par P.precheckResult b := by
    have hhive (y : State) : (y.hiveSync k).par P.precheckResult b = y.par P.precheckResult b := by
      have hput (v : Int) (r : Ring) : ({ y.setPar P.hiveState v with ring := r } : State).par P.precheckResult b = y.par P.precheckResult b :=
        hset y P.hiveState _ 0 (by decide)
      unfold State.hiveSync
      extract_lets st busy above event new
      clear_value new
      exact ite_holds (p := fun x : State => x.par P.precheckResult b = y.par P.precheckResult b) rfl
        (ite_holds (p := fun x : State => x.par P.precheckResult b = y.par P.precheckResult b) rfl (hput ..))
    exact (hhive _).trans ((hstatus ..).trans ((hstatus ..).trans ((hstatus ..).trans (hstatus ..))))
  unfold State.moveAxis
  extract_lets a a1 a2 _ a3 _ a4 a5 s1 s2
  have h2 : s2.par P.precheckResult b = s.par P.precheckResult b := by
    refine (hsync _).trans ?_
    split
    · refine hset s1 P.coldFlags _ k ?_
      change (4100 + 4096 * k + 0 * 0) % 16 ≠ 9
      omega
    · rfl
  clear_value s2
  have h3 := ((busBlind_precheckResult b).notify s2 1 0 k (leBytes 1 a.st.code ++ leBytes 1 st.code ++ leBytes 2 (s2.parN P.axisFault k))).trans h2
  unfold State.silentEnds
  split
  · exact h3
  · exact ((busBlind_precheckResult b).unstandCode (fun _ _ => rfl) (fun _ _ => rfl) _ _ _).trans h3

theorem State.endPrecheckCells_params (s : State) (k : Nat) : (s.endPrecheckCells k).params = s.params := by
  unfold State.endPrecheckCells
  split
  · rfl
  · unfold State.testCurrent
    split <;> rfl

theorem Axis.moved_precheck (a : Axis) (st : AxState) : (a.moved st).precheck = a.precheck := by
  unfold Axis.moved Axis.leaveRun Axis.enterRun
  dsimp only
  (repeat' split) <;> rfl

/-- The last bridge's end: its result is written, and the axis is READY. -/
theorem precheckBridgeDone_ready {s : State} {k : Nat} {p : Precheck} (h : (s.ax k).precheck = some p) (hstep : p.step = .finish) (hrest : p.rest = [])
    (hemg : p.emergency = false) : ((precheckBridgeDone k s).ax k).st = .ready ∧ ((precheckBridgeDone k s).ax k).precheck = none ∧
      (precheckBridgeDone k s).par P.precheckResult p.bridge = p.bits ∧ (precheckBridgeDone k s).others = s.others := by
  have hx : precheckBridgeDone k s = ((((s.setPar P.precheckResult p.bits p.bridge).endPrecheckCells k).endOp 0x24 k stDone).moveAxis k .ready) := by
    unfold precheckBridgeDone
    rw [h]
    dsimp only
    rw [if_neg (by simp [hstep]), hrest, hemg]
    rfl
  rw [hx]
  generalize hy : s.setPar P.precheckResult p.bits p.bridge = y
  have hybits : y.par P.precheckResult p.bridge = p.bits := by
    rw [← hy]
    exact State.par_setPar_same ..
  have hyst : y.standing = s.standing := by
    rw [← hy]
    rfl
  refine ⟨?_, ?_, ?_, ?_⟩
  · rw [State.moveAxis_moved]
    rfl
  · rw [State.moveAxis_moved, Axis.moved_precheck, ax_of_quiet (State.endOp_quiet ..), State.endPrecheckCells_ax]
  · rw [State.moveAxis_precheckResult, (busBlind_precheckResult _).endOp]
    exact (congrArg (fun l => tget l 0 (P.precheckResult.pn p.bridge 0)) (y.endPrecheckCells_params k)).trans hybits
  · rw [State.moveAxis_others, State.endOp_others, State.endPrecheckCells_others]
    exact others_congr hyst

/-! ### The steps -/

theorem Precheck.due_of {p : Precheck} {now τ ms : Nat} (hτ : τ ≤ now) (h : p.startedAt + ms * 1000000 ≤ τ) : ¬ ¬ p.due now ms = true :=
  not_not_intro (decide_eq_true (h.trans hτ))

theorem gateLoopCode_good {reached : Bool} {ns mv : Nat} (h : reached = true → 5000 < ns) (hmv : 10 ≤ mv) : gateLoopCode reached ns mv = none := by
  have h1 : (reached && decide (ns ≤ 5000)) = false := by
    cases reached with
    | false => rfl
    | true => exact decide_eq_false (Nat.not_le.mpr (h rfl))
  unfold gateLoopCode
  rw [h1, if_neg Bool.false_ne_true, if_neg (by omega)]

section
variable {s : State} {k : Nat} {p : Precheck} (h : (s.ax k).precheck = some p)
include h

theorem precheckPumpDeadline_good (hstep : p.step = .pump) (hdue : p.startedAt + 100 * 1000000 ≤ s.now)
    (hgood : ∀ g ∈ cellsOfBridge p.bridge, s.gp g P.bootWarn ≤ s.par P.bootV g) :
    precheckPumpDeadline k s = s.preStep k fun p => { p with step := .gateLoop, item := 0 } := by
  have hnone : (cellsOfBridge p.bridge).find? (fun g => decide (s.par P.bootV g < s.gp g P.bootWarn)) = none :=
    List.find?_eq_none.mpr fun g hg => by simpa using hgood g hg
  unfold precheckPumpDeadline
  rw [h]
  dsimp only
  rw [if_neg fun hc => hc.elim (fun hc => hc hstep) (Precheck.due_of le_rfl hdue), hnone]

theorem precheckPumpDeadline_low (hstep : p.step = .pump) (hdue : p.startedAt + 100 * 1000000 ≤ s.now)
    (hlow : ∃ g ∈ cellsOfBridge p.bridge, s.par P.bootV g < s.gp g P.bootWarn) :
    ∃ g, precheckPumpDeadline k s = s.preFail k 2 0x0102 p.bridge (chanPath (hiCh g)) := by
  have hsome : ((cellsOfBridge p.bridge).find? (fun g => decide (s.par P.bootV g < s.gp g P.bootWarn))).isSome = true := by
    obtain ⟨g, hg, hlt⟩ := hlow
    exact List.find?_isSome.mpr ⟨g, hg, decide_eq_true hlt⟩
  obtain ⟨g, hg⟩ := Option.isSome_iff_exists.mp hsome
  refine ⟨g, ?_⟩
  unfold precheckPumpDeadline
  rw [h]
  dsimp only
  rw [if_neg fun hc => hc.elim (fun hc => hc hstep) (Precheck.due_of le_rfl hdue), hg]

theorem gateLoopTest_of_code (hstep : p.step = .gateLoop) (hdue : p.startedAt + (101 + p.item) * 1000000 ≤ s.now) {reached : Bool} {ns mv code : Nat}
    (hcode : gateLoopCode reached ns mv = some code) :
    gateLoopTest k reached ns mv s = s.preFail k 3 code (6 * p.bridge + p.item) (chanPath p.channel) := by
  unfold gateLoopTest
  rw [h]
  dsimp only
  rw [if_neg fun hc => hc.elim (fun hc => hc hstep) (Precheck.due_of le_rfl hdue), hcode]
  rfl

theorem gateLoopTest_good (hstep : p.step = .gateLoop) (hdue : p.startedAt + (101 + p.item) * 1000000 ≤ s.now) {reached : Bool} {ns mv : Nat}
    (hcode : gateLoopCode reached ns mv = none) : gateLoopTest k reached ns mv s =
      s.preStep k fun p => if p.item = 5 then { p with step := .desat, item := 0 } else { p with item := p.item + 1 } := by
  unfold gateLoopTest
  rw [h]
  dsimp only
  rw [if_neg fun hc => hc.elim (fun hc => hc hstep) (Precheck.due_of le_rfl hdue), hcode]

theorem desatTest_fails (hstep : p.step = .desat) (hdue : p.startedAt + (107 + p.item) * 1000000 ≤ s.now) (rises : Bool) :
    desatTest k false rises s = s.preFail k 4 0x0109 (6 * p.bridge + p.item) (chanPath p.channel) := by
  unfold desatTest
  rw [h]
  dsimp only
  rw [if_neg fun hc => hc.elim (fun hc => hc hstep) (Precheck.due_of le_rfl hdue), if_pos (.inl (by decide))]
  rfl

theorem desatTest_good (hstep : p.step = .desat) (hdue : p.startedAt + (107 + p.item) * 1000000 ≤ s.now) {rises : Bool}
    (hlink : 5000 ≤ s.par P.linkV (s.parN P.brLink p.bridge)) (hrises : p.item % 2 = 0 → rises = true) : desatTest k true rises s =
      s.preStep k fun p => if p.item = 5 then { p with step := .phase, item := 0 } else { p with item := p.item + 1 } := by
  have hlow : s.linkLow p.bridge = false := decide_eq_false (by omega)
  unfold desatTest
  rw [h]
  dsimp only
  rw [if_neg fun hc => hc.elim (fun hc => hc hstep) (Precheck.due_of le_rfl hdue), hlow, Bool.and_false, if_neg]
  · rfl
  · rintro (hc | ⟨hc, -, hr⟩)
    · exact hc rfl
    · exact hr (hrises (of_decide_eq_true hc))

theorem phaseTest_skipped (hstep : p.step = .phase) (off node : List Nat) (hlink : s.par P.linkV (s.parN P.brLink p.bridge) < 5000) :
    phaseTest k off node s = s.preStep k fun p => { p with step := .sensing, item := 0, bits := (withBit p.bits 0 true).toNat } := by
  have hlow : s.linkLow p.bridge = true := decide_eq_true hlink
  unfold phaseTest
  rw [h]
  dsimp only
  rw [if_neg (not_not_intro hstep), if_pos hlow]

theorem phaseTest_low (hstep : p.step = .phase) (off node : List Nat) (hlink : 5000 ≤ s.par P.linkV (s.parN P.brLink p.bridge)) (hitem : p.item ≠ 0)
    (hdue : p.startedAt + (117 + 5 * p.item) * 1000000 ≤ s.now) (hnode : node.getD p.item 0 < 500) : ∃ rest, phaseTest k off node s =
      s.preFails k 5 ((0x010B, 2 * (3 * p.bridge + p.item) + 1, chanPath (2 * (3 * p.bridge + p.item) + 1)) :: rest) := by
  have hlow : ¬ s.linkLow p.bridge = true := Bool.eq_false_iff.mp (decide_eq_false (by omega))
  unfold phaseTest
  rw [h]
  dsimp -zeta only
  rw [if_neg (not_not_intro hstep), if_neg hlow, if_neg (Precheck.due_of le_rfl hdue)]
  extract_lets vdc lo own high apart bad
  have hhigh : high = [] := by
    unfold high
    rw [List.filter_eq_nil_iff.mpr (fun x _ => by simp [hitem])]
    rfl
  have hbad : ∃ more, bad = (0x010B, lo) :: more := by
    unfold bad
    rw [hhigh, if_pos (by rfl), if_pos hnode]
    exact ⟨_, rfl⟩
  obtain ⟨more, hbad⟩ := hbad
  rw [hbad]
  exact ⟨_, rfl⟩

theorem sensingTest_offset (hstep : p.step = .sensing) (hdue : p.startedAt + 131 * 1000000 ≤ s.now) {zero : List (List Int)} (ref0 ref1 : List Int)
    (hbad : ∃ x, x < 3 ∧ ∃ c ∈ zero.getD x [], s.par P.ofsTrip < iabs (c - s.par P.ofs p.bridge x)) :
    sensingTest k zero ref0 ref1 s = s.preFail k 6 0x0304 p.bridge ("CTL/SENSE/" ++ dec p.bridge) := by
  have hofs : ((upto 3).any fun x => (zero.getD x []).any fun c => decide (s.par P.ofsTrip < iabs (c - s.par P.ofs p.bridge x))) = true := by
    obtain ⟨x, hx, c, hc, hlt⟩ := hbad
    exact List.any_eq_true.mpr ⟨x, List.mem_range.mpr hx, List.any_eq_true.mpr ⟨c, hc, decide_eq_true hlt⟩⟩
  unfold sensingTest
  rw [h]
  dsimp only
  rw [if_neg fun hc => hc.elim (fun hc => hc hstep) (Precheck.due_of le_rfl hdue), if_pos hofs]

theorem sensingTest_good (hstep : p.step = .sensing) (hdue : p.startedAt + 131 * 1000000 ≤ s.now) {zero : List (List Int)} {ref0 : List Int}
    (ref1 : List Int) (hgood : ∀ x, x < 3 → ∀ c ∈ zero.getD x [], iabs (c - s.par P.ofs p.bridge x) ≤ s.par P.ofsTrip)
    (hmode : s.par P.csMode p.bridge = 0) (href : ∀ i, i < 4 → iabs (ref0.getD i 0) ≤ 33) (hchop : s.par P.chopEn (s.parN P.brLink p.bridge) = 0) :
    sensingTest k zero ref0 ref1 s = s.preStep k fun p => { p with step := .finish } := by
  have hofs : ¬ ((upto 3).any fun x => (zero.getD x []).any fun c => decide (s.par P.ofsTrip < iabs (c - s.par P.ofs p.bridge x))) = true := by
    refine Bool.eq_false_iff.mp (List.any_eq_false.mpr fun x hx => Bool.eq_false_iff.mp (List.any_eq_false.mpr fun c hc => ?_))
    have := hgood x (List.mem_range.mp hx) c hc
    simpa using this
  have hrefs : ¬ ((upto 4).any fun i => decide (33 < iabs (ref0.getD i 0)) && decide (33 < iabs (ref1.getD i 0))) = true := by
    refine Bool.eq_false_iff.mp (List.any_eq_false.mpr fun i hi => ?_)
    have := href i (List.mem_range.mp hi)
    rw [decide_eq_false (by omega : ¬ 33 < iabs (ref0.getD i 0))]
    exact Bool.false_ne_true
  unfold sensingTest
  rw [h]
  dsimp only
  rw [if_neg fun hc => hc.elim (fun hc => hc hstep) (Precheck.due_of le_rfl hdue), if_neg hofs, hmode, hchop, if_neg (by simp), if_neg hrefs,
    if_neg (fun hc => absurd hc.1 (by decide))]

theorem chopperTest_good (hstep : p.step = .chopper) (hdue : p.startedAt + 139 * 1000000 ≤ s.now) {reached : Bool} {ns mv : Nat}
    (hcode : gateLoopCode reached ns mv = none) : chopperTest k reached ns mv true s = s.preStep k fun p => { p with step := .finish } := by
  unfold chopperTest
  rw [h]
  dsimp only
  rw [if_neg fun hc => hc.elim (fun hc => hc hstep) (Precheck.due_of le_rfl hdue), hcode]
  rfl

theorem chopperTest_fails (hstep : p.step = .chopper) (hdue : p.startedAt + 139 * 1000000 ≤ s.now) {reached : Bool} {ns mv : Nat}
    (hcode : gateLoopCode reached ns mv = none) : chopperTest k reached ns mv false s =
      s.preFail k 7 0x0109 (chopCh (s.parN P.brLink p.bridge)) (chanPath (chopCh (s.parN P.brLink p.bridge))) := by
  unfold chopperTest
  rw [h]
  dsimp only
  rw [if_neg fun hc => hc.elim (fun hc => hc hstep) (Precheck.due_of le_rfl hdue), hcode]
  rfl

end

/-- Settles O28. -/
theorem precheckSteps : Obligations.PrecheckSteps := by
  intro s0 τ k p s hk hp moved
  have hτ : τ ≤ (s0.at τ).now := Nat.le_max_right ..
  refine ⟨fun hstep hdue => ⟨fun hgood => ?_, fun hlow => ?_⟩, fun hstep hdue reached ns mv => ⟨fun hr hns => ?_, fun hr hmv => ?_, fun hr hmv => ?_⟩,
    fun hstep hdue rises => ⟨?_, fun hlink hrises => ?_⟩, fun hstep off node => ⟨fun hlink => ?_, fun hlink hitem hdue hnode => ?_⟩,
    fun hstep hdue zero ref0 ref1 => ⟨fun hbad => ?_, fun hgood hmode href hchop => ?_⟩, fun hstep hdue reached ns mv hr hmv => ⟨?_, ?_⟩,
    fun hstep hrest hemg => ?_⟩
  · exact (Does.of_preStep (.precheckPumpDeadline τ k) (precheckPumpDeadline_good (s := s0.at τ) hp hstep (hdue.trans hτ) hgood) hp rfl :)
  · obtain ⟨g, hg⟩ := precheckPumpDeadline_low (s := s0.at τ) hp hstep (hdue.trans hτ) hlow
    exact Does.of_preFails (congrArg (answer s0) hg) hp (by decide)
  · have hcode : gateLoopCode reached ns mv = some 0x0107 := if_pos (by rw [hr, decide_eq_true hns]; rfl)
    exact Does.of_preFails (congrArg (answer s0) (gateLoopTest_of_code (s := s0.at τ) hp hstep (hdue.trans hτ) hcode)) hp (by decide)
  · have hcode : gateLoopCode reached ns mv = some 0x0108 := (if_neg (by rw [hr]; exact Bool.false_ne_true)).trans (if_pos hmv)
    exact Does.of_preFails (congrArg (answer s0) (gateLoopTest_of_code (s := s0.at τ) hp hstep (hdue.trans hτ) hcode)) hp (by decide)
  · exact (Does.of_preStep (.gateLoopTest τ k reached ns mv) (gateLoopTest_good (s := s0.at τ) hp hstep (hdue.trans hτ) (gateLoopCode_good hr hmv)) hp rfl :)
  · exact Does.of_preFails (congrArg (answer s0) (desatTest_fails (s := s0.at τ) hp hstep (hdue.trans hτ) rises)) hp (by decide)
  · exact (Does.of_preStep (.desatTest τ k true rises) (desatTest_good (s := s0.at τ) hp hstep (hdue.trans hτ) hlink hrises) hp rfl :)
  · obtain ⟨t, ht, hm⟩ := (Does.of_preStep (.phaseTest τ k off node) (phaseTest_skipped (s := s0.at τ) hp hstep off node hlink) hp rfl :)
    exact ⟨t, ht, _, rfl, hm⟩
  · obtain ⟨rest, hx⟩ := phaseTest_low (s := s0.at τ) hp hstep off node hlink hitem (hdue.trans hτ) hnode
    exact Does.of_preFails (congrArg (answer s0) hx) hp (by decide)
  · exact Does.of_preFails (congrArg (answer s0) (sensingTest_offset (s := s0.at τ) hp hstep (hdue.trans hτ) ref0 ref1 hbad)) hp (by decide)
  · exact (Does.of_preStep (.sensingTest τ k zero ref0 ref1) (sensingTest_good (s := s0.at τ) hp hstep (hdue.trans hτ) ref1 hgood hmode href hchop) hp rfl :)
  · exact (Does.of_preStep (.chopperTest τ k reached ns mv true) (chopperTest_good (s := s0.at τ) hp hstep (hdue.trans hτ) (gateLoopCode_good hr hmv)) hp rfl :)
  · exact Does.of_preFails (congrArg (answer s0) (chopperTest_fails (s := s0.at τ) hp hstep (hdue.trans hτ) (gateLoopCode_good hr hmv))) hp (by decide)
  · refine Does.of_answer rfl fun t ht => ?_
    obtain ⟨h1, h2, h3, h4⟩ := precheckBridgeDone_ready (s := s0.at τ) hp hstep hrest hemg
    rw [ht.ax_eq, ht.par_eq, ht.standing]
    refine ⟨h1, h2, h3, fun f hf => ?_⟩
    have hmem (x : State) : f ∈ x.others ↔ f ∈ x.standing := by
      rw [State.others, List.mem_filter]
      simp [hf]
    rw [← hmem, h4, hmem]
    exact Iff.rfl

end Sys2Proof.Machine
end

section
/-! # A packet is read as it was written (R451 to R454) -/
namespace Sys2Proof.Machine

/-! ### The length of a tag -/

theorem beBytes_length (k v : Nat) : (beBytes k v).length = k := by
  induction k with
  | zero => rfl
  | succ k ih => simp [beBytes, ih]

theorem shaRound_length {st : List Nat} (h : st.length = 8) (kw : Nat × Nat) : (shaRound st kw).length = 8 := by
  unfold shaRound
  split
  · rfl
  · exact h

theorem shaBlock_length {st : List Nat} (h : st.length = 8) (blk : Bytes) : (shaBlock st blk).length = 8 := by
  unfold shaBlock
  extract_lets w st'
  have hst : st'.length = 8 :=
    List.foldlRecOn (motive := fun st : List Nat => st.length = 8) (shaK.zip w) shaRound h fun _ hs kw _ => shaRound_length hs kw
  simp [h, hst]

theorem sha256_length (m : Bytes) : (sha256 m).length = 32 := by
  have hprimes : 8 ≤ primes.length := by decide +kernel
  unfold sha256
  extract_lets p
  have hst : ((chunks 64 (p.length / 64) p).foldl shaBlock shaInit).length = 8 :=
    List.foldlRecOn (motive := fun st : List Nat => st.length = 8) (chunks 64 (p.length / 64) p) shaBlock (by simp [shaInit, hprimes])
      fun _ hs blk _ => shaBlock_length hs blk
  simp [List.length_flatMap, beBytes_length, hst]

theorem packetTag_length (key m : Bytes) : (packetTag key m).length = 8 := by
  simp [packetTag, hmac, sha256_length]

/-! ### Fields -/

theorem field_append {pre mid post : Bytes} {off k : Nat} (hoff : pre.length = off) (hk : mid.length = k) :
    field (pre ++ mid ++ post) off k = leNat mid := by
  subst hoff hk
  simp [field, List.append_assoc]

/-- The fields of a header, whatever follows it. -/
theorem header_fields {op fl sess seq len : Nat} (hop : op < 256) (hfl : fl < 256) (hsess : sess < 65536) (hseq : seq < 65536) (hlen : len < 65536)
    (rest : Bytes) : let bs := header op fl sess seq len ++ rest
    field bs 0 1 = op ∧ field bs 1 1 = fl ∧ field bs 2 2 = sess ∧ field bs 4 2 = seq ∧ field bs 6 2 = len ∧ bs.drop 8 = rest := by
  have hbyte (v : Nat) (hv : v < 256) : leNat (leBytes 1 v) = v := (leNat_leBytes 1 v).trans (Nat.mod_eq_of_lt hv)
  have hword (v : Nat) (hv : v < 65536) : leNat (leBytes 2 v) = v := (leNat_leBytes 2 v).trans (Nat.mod_eq_of_lt hv)
  exact ⟨hbyte op hop, hbyte fl hfl, hword sess hsess, hword seq hseq, hword len hlen, rfl⟩

theorem header_length (op fl sess seq len : Nat) : (header op fl sess seq len).length = 8 := rfl

/-- A packet: its header, its payload, the tag of an authenticated one, and the CRC over all of that. -/
theorem packet_eq (op flags sess seq : Nat) (payload : Bytes) (key : Option Bytes) : ∃ fl body tag,
    fl = flags + (if key.isSome then 0x10 else 0) ∧ body = header op fl sess seq payload.length ++ payload ∧
      packet op flags sess seq payload key = body ++ tag ++ leBytes 4 (crc32c (body ++ tag)) ∧
        tag.length = (if key.isSome then 8 else 0) ∧ ∀ k, key = some k → tag = packetTag k body := by
  refine ⟨_, _, (key.map fun k => packetTag k (header op (flags + (if key.isSome then 0x10 else 0)) sess seq payload.length ++ payload)).getD [],
    rfl, rfl, ?_, ?_, ?_⟩
  · cases key with
    | none => simp [packet]
    | some k => rfl
  · cases key with
    | none => rfl
    | some k => exact packetTag_length ..
  · rintro k rfl
    rfl

/-- Settles O32. -/
theorem packetsReadBack : Obligations.PacketsReadBack := by
  intro op flags sess seq payload key hop hflags hmark hsess hseq hlen bs p
  obtain ⟨fl, body, tag, hfl, hbody, hbs, htag, hkey⟩ := packet_eq op flags sess seq payload key
  have hfl256 : fl < 256 := by
    rw [hfl]
    split <;> omega
  have hauth : (fl / 16 % 2 = 1) ↔ key.isSome = true := by
    rw [hfl]
    cases key with
    | none => simp [hmark]
    | some k =>
      simp
      omega
  have hcat : bs = header op fl sess seq payload.length ++ (payload ++ tag ++ leBytes 4 (crc32c (body ++ tag))) := by
    rw [show bs = _ from hbs, hbody]
    simp only [List.append_assoc]
  have hlenBs : bs.length = body.length + tag.length + 4 := by
    rw [show bs = _ from hbs, List.length_append, List.length_append, leBytes_length]
  have hlenBody : body.length = 8 + payload.length := by rw [hbody, List.length_append, header_length]
  obtain ⟨h0, h1, h2, h3, h4, h5⟩ := header_fields hop hfl256 hsess hseq (by omega : payload.length < 65536)
    (payload ++ tag ++ leBytes 4 (crc32c (body ++ tag)))
  rw [← hcat] at h0 h1 h2 h3 h4 h5
  have hbody8 : bs.take (8 + payload.length) = body := by
    rw [show bs = _ from hbs, List.append_assoc, ← hlenBody, List.take_left]
  refine ⟨h0, h2, h3, ?_, ?_, ?_, ?_, fun k hk => ?_⟩
  · change (bs.drop 8).take (field bs 6 2) = payload
    rw [h4, h5, List.append_assoc, List.take_left]
  · change decide (field bs 1 1 / 16 % 2 = 1) = key.isSome
    rw [h1, Bool.eq_iff_iff, decide_eq_true_eq, hauth]
  · rw [hlenBs, hlenBody, htag]
    omega
  · have hcrc : field bs (body.length + tag.length) 4 = crc32c (body ++ tag) := by
      rw [show bs = body ++ tag ++ leBytes 4 (crc32c (body ++ tag)) ++ [] by rw [List.append_nil]; exact hbs,
        field_append (by simp) (leBytes_length ..), leNat_leBytes]
      exact Nat.mod_eq_of_lt (crc32c_lt _)
    have hfront : bs.take (body.length + tag.length) = body ++ tag := by
      rw [show bs = _ from hbs, List.take_left' (by simp)]
    rw [show bs.length - 4 = body.length + tag.length by omega, hcrc, hfront]
  · have h8 : tag.length = 8 := by rw [htag, hk]; rfl
    rw [hbody8, ← hkey k hk, show bs = _ from hbs, List.append_assoc, ← hlenBody, List.drop_left, ← h8, List.take_left]

end Sys2Proof.Machine
end

section
/-! # The share ring: what its traffic and its faults leave of it -/
namespace Sys2Proof.Machine

/-- A view of the ring that messages, the fallback, the ports and the own slot and message leave alone. -/
structure RingQuiet {β : Type} (g : Ring → β) : Prop where
  core : ∀ a b : Ring, a.core = b.core → g a = g b
  fallback : ∀ (r : Ring) a b, g { r with fallback := a, fallbackTm := b } = g r
  left : ∀ (r : Ring) x, g { r with left := x } = g r
  right : ∀ (r : Ring) x, g { r with right := x } = g r
  own : ∀ (r : Ring) a b, g { r with own := a, ownCycle := b } = g r
  ownMsg : ∀ (r : Ring) x, g { r with ownMsg := x } = g r

/-- A view of the ring that messages and the follow-up of the hive state leave alone stays through the raising of a fault. -/
theorem raiseSafe_ring {β : Type} (g : Ring → β) (hg : ∀ a b : Ring, a.core = b.core → g a = g b) (v : β) : RaiseSafe fun s => g s.ring = v where
  setPar _ _ _ _ h := h
  notify _ _ _ _ h := (hg _ _ (State.notify_ringCore ..)).trans h
  report _ _ _ _ h := (hg _ _ (State.report_ringCore ..)).trans h
  endOp _ _ _ h := (hg _ _ (State.endOp_ringCore ..)).trans h
  raiseLine _ h := (hg _ _ (State.raiseLine_ringCore ..)).trans h
  markLatched _ h := (hg _ _ (State.markLatched_ringCore ..)).trans h
  syncProc _ h := (hg _ _ (State.syncProc_ringCore ..)).trans h
  unstand _ h := (hg _ _ ((State.notify_ringCore ..).trans (State.recordClear_ringCore ..))).trans h
  ax _ _ _ h := h
  lanes _ h := h
  chans _ h := h
  cells _ h := h
  cellar _ h := h
  standing _ h := h
  stopped _ h := h

/-- The choice of a torque master may draw, no more. -/
theorem State.chooseMaster_ring (s : State) : s.chooseMaster.2.ring = s.ring := by
  unfold State.chooseMaster
  extract_lets ok cur
  split
  · rfl
  · split
    · rfl
    · refine List.foldlRecOn (motive := fun a : Option (Nat × Nat) × State => a.2.ring = s.ring) _ _ rfl fun a ha m _ => ?_
      dsimp only
      have hr : (if m = s.member then (s.rpN P.hiveRank, a.2) else a.2.draw 4).2.ring = s.ring := by split <;> exact ha
      generalize (if m = s.member then (s.rpN P.hiveRank, a.2) else a.2.draw 4) = r at hr ⊢
      split
      · exact hr
      · split
        · split <;> exact hr
        · exact hr

theorem State.toHive_ring (s : State) (x scale : Int) : (s.toHive x scale).2.ring = s.ring := by
  unfold State.toHive
  split <;> rfl

theorem State.toAvail_ring (s : State) (x scale : Int) : (s.toAvail x scale).2.ring = s.ring := by
  unfold State.toAvail
  split <;> rfl

theorem State.avail_ring (s : State) : s.avail.2.ring = s.ring := by
  unfold State.avail
  dsimp only
  split
  · exact (State.toAvail_ring ..).trans (State.toAvail_ring ..)
  · exact (State.toAvail_ring ..).trans (State.toAvail_ring ..)
  · rfl

theorem State.ownSlot_ring (s : State) (cyc : Nat) : (s.ownSlot cyc).2.ring = s.ring := by
  unfold State.ownSlot
  dsimp only
  split
  · rw [State.toHive_ring, State.avail_ring, State.toHive_ring]
  · rw [State.toHive_ring, State.toHive_ring, State.avail_ring, State.toHive_ring]

section
variable {β : Type} {g : Ring → β} (hg : RingQuiet g)
include hg

theorem RingQuiet.raise (v : β) : RaiseSafe fun s => g s.ring = v := raiseSafe_ring g hg.core v

theorem RingQuiet.hiveSync (s : State) (k : Nat) : g (s.hiveSync k).ring = g s.ring := hg.core _ _ (State.hiveSync_ringCore s k)

theorem RingQuiet.hiveEvent (s : State) (pos subj : Nat) : g (s.hiveEvent pos subj).ring = g s.ring := hg.core _ _ (State.hiveEvent_ringCore s pos subj)

theorem RingQuiet.unstandCode (s : State) (code inst : Nat) : g (s.unstandCode code inst).ring = g s.ring := (hg.raise (g s.ring)).unstandCode code inst rfl

theorem RingQuiet.incPar (s : State) (p : Par) (i : Nat) : g (s.incPar p i).ring = g s.ring := hg.core _ _ (s.incPar_ringCore p i 0 1)

theorem RingQuiet.enterFallback (s : State) (tm : Bool) : g (s.enterFallback tm).ring = g s.ring := by
  unfold State.enterFallback
  extract_lets _ s1 k st runs _ s2 s3
  have h1 : g s1.ring = g s.ring := hg.fallback s.ring s.ring.fallback _
  have h2 : g s2.ring = g s.ring := (hg.fallback s1.ring true s1.ring.fallbackTm).trans h1
  have h3 : g s3.ring = g s.ring := (hg.hiveEvent ..).trans ((hg.hiveSync ..).trans h2)
  split
  · exact h1
  · split
    · exact ((hg.raise (g s3.ring)).beginStop k .ring .ready rfl).trans h3
    · exact h3

theorem RingQuiet.leaveFallback (s : State) : g s.leaveFallback.ring = g s.ring :=
  ite_holds (p := fun x : State => g x.ring = g s.ring) ((hg.hiveSync ..).trans (hg.fallback s.ring false false)) rfl

theorem RingQuiet.setTorqueMaster (s : State) (m n : Nat) : g (s.setTorqueMaster m n).ring = g s.ring := by
  unfold State.setTorqueMaster
  extract_lets nobody s1
  have h1 : g s1.ring = g s.ring := ite_holds (p := fun x : State => g x.ring = g s.ring) rfl (hg.hiveEvent ..)
  exact ite_holds (p := fun x : State => g x.ring = g s.ring) ((hg.enterFallback ..).trans h1) h1

theorem RingQuiet.setRport (s : State) (p : Nat) (x : RingPort) : g (s.setRport p x).ring = g s.ring :=
  ite_holds (p := fun y : State => g y.ring = g s.ring) (hg.left ..) (hg.right ..)

theorem RingQuiet.sendTray (s : State) (p : Nat) (bs : Bytes) : g (s.sendTray p bs).ring = g s.ring :=
  ite_holds (p := fun y : State => g y.ring = g s.ring) (hg.setRport ..) rfl

theorem RingQuiet.unfoldPort (s : State) (p : Nat) : g (s.unfoldPort p).ring = g s.ring := by
  unfold State.unfoldPort
  extract_lets x own
  split
  · extract_lets peer facing
    exact ite_holds (p := fun y : State => g y.ring = g s.ring) ((hg.hiveEvent ..).trans (hg.setRport ..)) rfl
  · rfl

theorem RingQuiet.delayRequests (s : State) : g s.delayRequests.ring = g s.ring := by
  refine each_keeps (fun s : State => g s.ring) _ (fun q s => ?_) _ s
  dsimp only
  split
  · exact hg.setRport ..
  · rfl

theorem RingQuiet.takeMsg (s : State) (cyc : Nat) : g (s.takeMsg cyc).2.ring = g s.ring := by
  have hfresh (x : State) : g (State.takeMsg.fresh cyc x).2.ring = g x.ring := hg.ownMsg ..
  unfold State.takeMsg
  split
  · split
    · rfl
    · exact hfresh s
  · exact hfresh s

theorem RingQuiet.writeTray (s : State) (cyc : Nat) (bs : Bytes) : g (s.writeTray cyc bs).2.ring = g s.ring := by
  unfold State.writeTray
  extract_lets m
  split
  next b s1 h =>
    have h1 : g s1.ring = g s.ring := by
      split at h
      · cases h
        rfl
      · cases h
        exact (hg.own ..).trans (congrArg g (s.ownSlot_ring cyc))
    split
    · exact (hg.takeMsg s1 cyc).trans h1
    · exact h1

theorem RingQuiet.forwardTray (s : State) (p q cyc : Nat) (bs : Bytes) : g (s.forwardTray p q cyc bs).ring = g s.ring :=
  (hg.sendTray ..).trans (hg.writeTray ..)

end

/-! ### The cycle start (R324) -/

/-- The ring's switch and the cycle it has begun. -/
def Ring.begun (r : Ring) : Bool × Nat := (r.on, r.boundary)

theorem ringQuiet_begun : RingQuiet Ring.begun where
  core _ _ h := (congrArg Ring.begun h :)
  fallback _ _ _ := rfl
  left _ _ := rfl
  right _ _ := rfl
  own _ _ _ := rfl
  ownMsg _ _ := rfl

theorem State.setView_begun (s : State) (v : RingView) : (s.setView v).ring.begun = s.ring.begun := rfl

theorem State.startTrays_begun (s : State) (cyc : Nat) : (s.startTrays cyc).ring.begun = s.ring.begun := by
  unfold State.startTrays
  extract_lets at64 folded empty
  clear_value folded empty
  have h0 : s.chooseMaster.2.ring.begun = s.ring.begun := congrArg Ring.begun s.chooseMaster_ring
  split
  next tm s1 h =>
    rw [h] at h0
    extract_lets _ s2 s3 head east west
    have h3 : s3.ring.begun = s.ring.begun :=
      (ringQuiet_begun.delayRequests _).trans ((ringQuiet_begun.setTorqueMaster _ tm 1).trans h0)
    clear_value s3 head east west
    have h4 := ringQuiet_begun.writeTray s3 cyc (withCrc (head (!east)) ++ empty)
    split
    next bs s4 h =>
      rw [h] at h4
      extract_lets s5 s6 v
      have h5 : s5.ring.begun = s.ring.begun :=
        ite_holds (p := fun x : State => x.ring.begun = s.ring.begun) ((ringQuiet_begun.sendTray ..).trans (h4.trans h3)) (h4.trans h3)
      exact ite_holds (p := fun x : State => x.ring.begun = s.ring.begun) ((ringQuiet_begun.sendTray ..).trans h5) h5

theorem RingQuiet.unfoldPorts {β : Type} {g : Ring → β} (hg : RingQuiet g) (s : State) (ps : List Nat) :
    g (each ps s fun p s => s.unfoldPort p).ring = g s.ring :=
  each_keeps (fun x : State => g x.ring) (fun p s => s.unfoldPort p) (fun p x => hg.unfoldPort x p) ps s

/-- The start of the cycle once its number is known. -/
theorem State.beginCycle_begun (s : State) (cyc : Nat) :
    (let s := if cyc % 64 = 0 then each [0, 1] s fun p s => s.unfoldPort p else s
     if s.isCycleMaster then s.startTrays cyc
     else if s.ring.timeSet then s.setView (s.viewOf cyc s.now s.ring.folded)
     else s).ring.begun = s.ring.begun := by
  extract_lets s1
  have h1 : s1.ring.begun = s.ring.begun :=
    ite_holds (p := fun x : State => x.ring.begun = s.ring.begun) (ringQuiet_begun.unfoldPorts s [0, 1]) rfl
  clear_value s1
  split
  · exact (s1.startTrays_begun cyc).trans h1
  · split <;> exact h1

theorem State.ringTake_begun (s : State) : s.ringTake.ring.begun = s.ring.begun := rfl

theorem ringCycleStart_begins {s : State} (hon : s.ring.on = true) (hnew : s.ring.boundary < (s.hivePs / 20000000).toNat) :
    (ringCycleStart s).ring.begun = (true, (s.hivePs / 20000000).toNat) := by
  unfold ringCycleStart
  generalize (s.hivePs / 20000000).toNat = b at hnew ⊢
  extract_lets b' _ s1 s2 cyc s3
  split
  next hno =>
    rw [hon] at hno
    exfalso
    simp at hno
    omega
  · have h1 : s1.ring.begun = (true, b) := Prod.ext hon rfl
    have h2 : s2.ring.begun = (true, b) := (State.ringTake_begun _).trans ((ringQuiet_begun.core _ _ (s1.raiseLine_ringCore 12)).trans h1)
    clear_value s2
    have h3 : s3.ring.begun = (true, b) := by
      refine ite_holds (p := fun x : State => x.ring.begun = (true, b)) ?_ h2
      exact (ringQuiet_begun.unfoldPorts s2 [0, 1]).trans h2
    clear_value s3
    split
    · exact (s3.startTrays_begun cyc).trans h3
    · split <;> exact h3

/-! ### A tray that is accepted (R327, R330) -/

/-- The ring's switch and the time of its last header. -/
def Ring.course (r : Ring) : Bool × Nat := (r.on, r.headerAt)

theorem ringQuiet_course : RingQuiet Ring.course where
  core _ _ h := (congrArg Ring.course h :)
  fallback _ _ _ := rfl
  left _ _ := rfl
  right _ _ := rfl
  own _ _ _ := rfl
  ownMsg _ _ := rfl

theorem State.syncSet_course (s : State) (err : Int) : (s.syncSet err).ring.course = s.ring.course := rfl

theorem State.takeHeader_course (s : State) (cm tm cyc : Nat) (folded : Bool) (err : Int) :
    (s.takeHeader cm tm cyc folded err).1.ring.course = s.ring.course := by
  unfold State.takeHeader
  extract_lets _ s1 s2
  have h2 : s2.ring.course = s.ring.course := ringQuiet_course.setTorqueMaster _ tm 2
  clear_value s2
  split
  · exact h2
  · split <;> exact h2

theorem State.dupCheck_course (s : State) (cyc : Nat) (d : Bytes) (good : Bool) : (s.dupCheck cyc d good).ring.course = s.ring.course := by
  unfold State.dupCheck
  extract_lets k _ s1
  have h1 : s1.ring.course = s.ring.course := ringQuiet_course.hiveSync _ k
  clear_value s1
  split
  · split
    · exact h1
    · exact ((ringQuiet_course.raise s1.ring.course).raiseOn 0x0703 k k "CTL/RING" true false rfl).trans h1
  · rfl

theorem State.takeSlots_course (s : State) (bs : Bytes) (v : RingView) (west : Bool) : (s.takeSlots bs v west).2.ring.course = s.ring.course := by
  refine List.foldlRecOn (motive := fun a : RingView × State => a.2.ring.course = s.ring.course) _ _ rfl fun a ha m _ => ?_
  dsimp only
  split
  · exact (ringQuiet_course.incPar ..).trans ha
  · split <;> exact ha

theorem State.takeMessage_course (s : State) (bs : Bytes) (v : RingView) : (s.takeMessage bs v).2.ring.course = s.ring.course := by
  unfold State.takeMessage
  extract_lets b s1
  split
  · exact ringQuiet_course.incPar ..
  · split
    · rfl
    · exact ite_holds (p := fun x : State => x.ring.course = s.ring.course) (ringQuiet_course.core _ _ (s.push_ringCore 14 _ _ 0)) rfl

theorem State.setView_course (s : State) (v : RingView) : (s.setView v).ring.course = s.ring.course := rfl

theorem State.firstTray_course (s : State) :
    (({ s with ring := { s.ring with stateAt := s.now } }.setPar P.hiveState (if s.ring.hasLeft then 6 else 1)).hiveSync s.hiveAx).ring.course =
      s.ring.course := ringQuiet_course.hiveSync ..

/-- What the first half of an accepted tray leaves: the header's time is now. -/
theorem State.acceptTray_course (s : State) (p : Nat) (bs : Bytes) (arr : Nat) : (s.acceptTray p bs arr).ring.course = (s.ring.on, s.now) := by
  unfold State.acceptTray
  extract_lets flags cm tm cyc sum west sentOut folded own d err _ s1 err'
  have h1 : s1.ring.course = (s.ring.on, s.now) := rfl
  clear_value s1 own west sentOut folded d err err'
  split
  next s2 jumped h =>
    have h2 : s2.ring.course = (s.ring.on, s.now) := by
      split at h
      · cases h
        exact h1
      · have h3 := s1.takeHeader_course cm tm cyc folded err
        rw [h] at h3
        exact h3.trans h1
    extract_lets _ s3 v first v2 od good intact s4 v3
    have h3 : s3.ring.course = (s.ring.on, s.now) := ite_holds (p := fun x : State => x.ring.course = (s.ring.on, s.now)) h2 h2
    have h4 : s4.ring.course = (s.ring.on, s.now) := (s3.dupCheck_course ..).trans h3
    clear_value s4 v3
    have h5 := s4.takeSlots_course bs v3 west
    split
    next v5 s5 h =>
      rw [h] at h5
      have h6 := s5.takeMessage_course bs v5
      split
      next v6 s6 h =>
        rw [h] at h6
        extract_lets _ s7 s8
        have h7 : s7.ring.course = (s.ring.on, s.now) := ite_holds (p := fun x : State => x.ring.course = (s.ring.on, s.now))
          (s6.firstTray_course.trans (h6.trans (h5.trans h4))) (h6.trans (h5.trans h4))
        have h8 : s8.ring.course = (s.ring.on, s.now) := ite_holds (p := fun x : State => x.ring.course = (s.ring.on, s.now))
          ((ringQuiet_course.delayRequests s7).trans h7) h7
        clear_value s8
        split
        · exact h8
        · exact (ringQuiet_course.forwardTray s8 ..).trans h8

end Sys2Proof.Machine
end

section
/-! # O20: the ring's cycle, its trays, its views -/
namespace Sys2Proof.Machine

/-! ### A tray (R330, R336) -/

/-- A tray of the ring's own kind on a port that is up, at a member that is not cycle master, is accepted. -/
theorem trayReceived_accepted {s : State} {p frac : Nat} {bs : Bytes} (hon : s.ring.on = true) (hp : p < 2) (hlen : bs.length = 367)
    (hpair : ((s.rport p).pair0 || (s.rport p).pair1) = true) (hcrc : field bs 11 2 = crc16 (bs.take 11)) (hid : field bs 3 2 = s.parN P.hiveId)
    (hmode : field bs 0 1 / 4 % 4 = s.rpN P.shareMode) (hup : (s.rport p).up = true) (hcm : s.isCycleMaster = false) (hm : field bs 1 1 < 16) :
    (trayReceived p bs frac s).ring.course = (true, s.now) := by
  have h0 : ¬ (¬ s.ring.on = true ∨ 2 ≤ p ∨ bs.length ≠ 367 ∨ ¬ ((s.rport p).pair0 || (s.rport p).pair1) = true) := by
    rw [hon, hpair, hlen]
    simp only [not_true_eq_false, ne_eq, or_false, false_or]
    omega
  unfold trayReceived
  extract_lets x _ s1
  have h1 : ¬ (field bs 3 2 ≠ s1.parN P.hiveId ∨ field bs 0 1 / 4 % 4 ≠ s1.rpN P.shareMode) := fun h => h.elim (· hid) (· hmode)
  have h2 : ¬ (¬ x.up = true ∨ 16 ≤ field bs 1 1) := fun h => h.elim (· hup) (Nat.not_le.2 hm)
  rw [if_neg h0, if_neg (not_not.2 hcrc), if_neg h1, if_neg h2, if_neg fun h => Bool.false_ne_true (hcm.symm.trans h.1)]
  refine (s1.acceptTray_course p bs _).trans ?_
  rw [← hon]

/-- A tray with another HIVE_ID is foreign. -/
theorem trayReceived_foreign {s : State} {p frac : Nat} {bs : Bytes} (hon : s.ring.on = true) (hp : p < 2) (hlen : bs.length = 367)
    (hpair : ((s.rport p).pair0 || (s.rport p).pair1) = true) (hcrc : field bs 11 2 = crc16 (bs.take 11)) (hid : field bs 3 2 ≠ s.parN P.hiveId) :
    trayReceived p bs frac s = { s with ring := { s.ring with back := p :: s.ring.back.filter fun q => decide (q ≠ p) } }.foreignTray p := by
  have h0 : ¬ (¬ s.ring.on = true ∨ 2 ≤ p ∨ bs.length ≠ 367 ∨ ¬ ((s.rport p).pair0 || (s.rport p).pair1) = true) := by
    rw [hon, hpair, hlen]
    simp only [not_true_eq_false, ne_eq, or_false, false_or]
    omega
  unfold trayReceived
  extract_lets x _ s1
  rw [if_neg h0, if_neg (not_not.2 hcrc), if_pos (.inl hid)]

theorem State.rport_setRport {s : State} {p : Nat} (x : RingPort) : (s.setRport p x).rport p = x := by
  unfold State.setRport State.rport
  split <;> rfl

/-- A view of one port through what leaves the ports alone. -/
theorem State.rport_of_ring {s t : State} (h : t.ring.left = s.ring.left ∧ t.ring.right = s.ring.right) (p : Nat) : t.rport p = s.rport p := by
  unfold State.rport
  rw [h.1, h.2]

theorem State.rport_of_core {s t : State} (h : t.ring.core = s.ring.core) (p : Nat) : t.rport p = s.rport p :=
  State.rport_of_ring ⟨(congrArg Ring.left h :), (congrArg Ring.right h :)⟩ p

theorem State.portsTrack_rport (s : State) (p : Nat) : s.portsTrack.rport p = s.rport p := rfl

/-- A port that goes down: what is left of it (R337). -/
def RingPort.downed (x : RingPort) (now : Nat) : RingPort :=
  { x with up := false, ready := false, fold := true, foldAt := if x.fold then x.foldAt else now, delays := [], neighbour := none, reqOut := false }

theorem State.portDown_rport {s : State} {p : Nat} (hup : (s.rport p).up = true) : (s.portDown p).rport p = (s.rport p).downed s.now := by
  unfold State.portDown
  extract_lets x s1 s2
  rw [if_pos hup, State.portsTrack_rport]
  have h1 : s1.rport p = x.downed s.now := State.rport_setRport _
  show State.rport (if x.fold then s1 else _) p = _
  split
  · exact h1
  · exact (State.rport_of_core ((State.hiveEvent_ringCore ..).trans (State.incPar_ringCore ..)) p).trans h1

theorem State.portDown_isDown (s : State) (p : Nat) : ((s.portDown p).rport p).up = false := by
  by_cases hup : (s.rport p).up = true
  · rw [State.portDown_rport hup]
    rfl
  · unfold State.portDown
    extract_lets x
    rw [if_neg hup]
    exact Bool.eq_false_iff.2 hup

/-- A standing fault stands on where only marks of entries change. -/
theorem State.stands_map {s : State} (f : Standing → Standing) (hf : ∀ e, (f e).code = e.code ∧ (f e).inst = e.inst) (code inst : Nat) :
    { s with standing := s.standing.map f }.stands code inst = s.stands code inst := by
  unfold State.stands
  rw [List.any_map]
  refine congrArg (fun g => s.standing.any g) (funext fun e => ?_)
  dsimp only [Function.comp]
  rw [(hf e).1, (hf e).2]

theorem State.foreignTray_stands (s : State) (p : Nat) : (s.foreignTray p).stands 0x0702 p = true := by
  unfold State.foreignTray
  extract_lets s1 s2 _ s3
  have h1 : s1.stands 0x0702 p = true := by
    show State.stands (if s.stands 0x0702 p then s else _) 0x0702 p = true
    split
    · assumption
    · exact raiseModule_stands ..
  have h3 : s3.standing = s1.standing := (State.setRport_standing ..).trans (standing_of_quiet (s1.portDown_quiet p))
  refine (State.stands_map (s := s3) _ (fun e => ?_) 0x0702 p).trans ((stands_congr h3 ..).trans h1)
  split <;> exact ⟨rfl, rfl⟩

theorem State.foreignTray_port (s : State) (p : Nat) :
    ((s.foreignTray p).rport p).up = false ∧ ((s.foreignTray p).rport p).foreign = some s.now := by
  unfold State.foreignTray
  extract_lets s1 s2 _ s3
  have h1 : s1.now = s.now := by
    show State.now (if s.stands 0x0702 p then s else _) = _
    split
    · rfl
    · exact (congrArg State.now (State.raiseModule_still s 0x0702 p (ringPath p)) :)
  have hnow : s2.now = s.now := (now_of_quiet (s1.portDown_quiet p)).trans h1
  have h3 : s3.rport p = { s2.rport p with foreign := some s2.now } := State.rport_setRport _
  have hrport : ({ s3 with standing := s3.standing.map fun f => if f.code = 0x0702 ∧ f.inst = p then { f with okSince := some s3.now } else f } :
    State).rport p = s3.rport p := rfl
  rw [hrport, h3]
  exact ⟨s1.portDown_isDown p, congrArg some hnow⟩

/-- A foreign tray closes its port. -/
theorem trayReceived_closes {s : State} {p frac : Nat} {bs : Bytes} (hon : s.ring.on = true) (hp : p < 2) (hlen : bs.length = 367)
    (hpair : ((s.rport p).pair0 || (s.rport p).pair1) = true) (hcrc : field bs 11 2 = crc16 (bs.take 11)) (hid : field bs 3 2 ≠ s.parN P.hiveId) :
    (trayReceived p bs frac s).stands 0x0702 p = true ∧ ((trayReceived p bs frac s).rport p).up = false ∧
      ((trayReceived p bs frac s).rport p).foreign = some s.now := by
  rw [trayReceived_foreign hon hp hlen hpair hcrc hid]
  exact ⟨State.foreignTray_stands .., State.foreignTray_port ..⟩

/-! ### The end of a view (R335) -/

/-- The open views and the share record. -/
def Ring.closing (r : Ring) : List RingView × ShareRec := (r.views, r.record)

theorem ringQuiet_closing : RingQuiet Ring.closing where
  core _ _ h := (congrArg Ring.closing h :)
  fallback _ _ _ := rfl
  left _ _ := rfl
  right _ _ := rfl
  own _ _ _ := rfl
  ownMsg _ _ := rfl

theorem State.closeSync_closing (s : State) (err : Int) : (s.closeSync err).ring.closing = s.ring.closing := by
  unfold State.closeSync
  extract_lets a good bad _ s1 s2 on
  have h2 : s2.ring.closing = s.ring.closing := rfl
  clear_value s2
  split
  · rfl
  · split
    · exact (ringQuiet_closing.unstandCode ..).trans h2
    · split
      · exact ((ringQuiet_closing.raise s2.ring.closing).raiseModule (s := s2.setBit P.ringStatus 7 false) 0x0704 0 "CTL/RING" rfl).trans h2
      · exact h2

theorem State.closeSlots_closing (s : State) (v : RingView) : (s.closeSlots v).ring.closing = s.ring.closing := by
  refine foldl_keeps (fun x : State => x.ring.closing) _ (fun s m => ?_) _ s
  dsimp only
  split
  · split
    · exact ringQuiet_closing.hiveEvent ..
    · rfl
  · split
    · rfl
    · split
      · rfl
      · exact (ringQuiet_closing.hiveEvent ..).trans (ringQuiet_closing.incPar ..)

theorem State.dupEnd_closing (s : State) (v : RingView) : (s.dupEnd v).ring.closing = s.ring.closing := by
  unfold State.dupEnd
  extract_lets k _ s1 s2
  have h2 : s2.ring.closing = s.ring.closing :=
    ite_holds (p := fun x : State => x.ring.closing = s.ring.closing) rfl (ringQuiet_closing.unstandCode ..)
  split
  · exact (ringQuiet_closing.hiveSync ..).trans h2
  · rfl

theorem State.shareRecord_closes (s : State) (cyc live contrib : Nat) (held folded : Bool) (old : Int) :
    (s.shareRecord cyc live contrib held folded old).cycle = cyc ∧ (s.shareRecord cyc live contrib held folded old).complete = true := by
  unfold State.shareRecord
  split <;> exact ⟨rfl, rfl⟩

/-- A view that closes leaves the list of views and gives the record its cycle. -/
def Ring.Closed (v : RingView) (r : Ring) : Prop :=
  (∀ w ∈ r.views, w.cycle ≠ v.cycle) ∧ r.record.cycle = v.cycle ∧ r.record.complete = true

theorem Ring.closed_of_closing {v : RingView} {r r' : Ring} (h : r'.closing = r.closing) (hr : r.Closed v) : r'.Closed v := by
  unfold Ring.Closed at hr ⊢
  rw [show r'.views = r.views from congrArg Prod.fst h, show r'.record = r.record from congrArg Prod.snd h]
  exact hr

theorem State.closeView_closed (s : State) (v : RingView) : (s.closeView v).ring.Closed v := by
  unfold State.closeView
  extract_lets _ s1 s2 s3 data live contrib held s4 minority noTm count _ s5 s6 s7 r _ s8 s9
  have h2 : s2.ring.views = s1.ring.views := by
    dsimp only [s2]
    split
    · split
      · rfl
      · exact congrArg Prod.fst (s1.closeSync_closing _)
    · rfl
  have h5 : s5.ring.views = s1.ring.views := (congrArg Prod.fst (s2.closeSlots_closing v)).trans h2
  have h6 : s6.ring.closing = s5.ring.closing := by
    dsimp only [s6]
    split
    · exact ringQuiet_closing.enterFallback ..
    · split
      · rfl
      · exact ringQuiet_closing.leaveFallback ..
  have h7 : s7.ring.views = s1.ring.views := (congrArg Prod.fst ((s6.dupEnd_closing v).trans h6)).trans h5
  refine ⟨fun w hw => ?_, s7.shareRecord_closes ..⟩
  replace hw : w ∈ s7.ring.views := hw
  rw [h7] at hw
  exact of_decide_eq_true (List.mem_filter.1 hw).2

theorem viewClose_closed {s : State} {v : RingView} {vs : List RingView} (hviews : s.ring.views = v :: vs)
    (hdue : v.startAt + (if v.folded then 23550 else 21000) ≤ s.now) : (viewClose s).ring.Closed v := by
  unfold viewClose
  split
  next h => exact absurd (hviews.symm.trans h) (List.cons_ne_nil _ _)
  next w ws h =>
    obtain ⟨rfl, rfl⟩ := List.cons.inj (hviews.symm.trans h)
    extract_lets limit short s1
    have h1 : s1.ring.Closed v := s.closeView_closed v
    rw [if_pos (.inr hdue)]
    split
    · exact Ring.closed_of_closing (ringQuiet_closing.hiveEvent ..) h1
    · exact h1

/-! ### The statement -/

theorem State.flush_ringCore (s : State) (run : Bool) : (s.flush run).ring.core = s.ring.core := by
  unfold State.flush
  dsimp only
  refine List.foldlRecOn (motive := fun a : State × List Nat × List Waiting => a.1.ring.core = s.ring.core) _ _ rfl fun a ha w _ => ?_
  split
  · exact (State.sendMark_ringCore ..).trans ha
  · exact ha

theorem RingQuiet.flush {β : Type} {g : Ring → β} (hg : RingQuiet g) (s : State) (run : Bool) : g (s.flush run).ring = g s.ring :=
  hg.core _ _ (s.flush_ringCore run)

theorem ringCycle_start {s0 : State} {τ : Nat} (hon : (s0.due τ).ring.on = true)
    (hnew : (s0.due τ).ring.boundary < (((s0.due τ).clock τ).hivePs / 20000000).toNat) :
    Does (.ringCycleStart τ) s0 fun t => t.ring.boundary = (((s0.due τ).clock τ).hivePs / 20000000).toNat ∧ t.ring.on = true := by
  refine Does.of_answer rfl fun t ht => ?_
  have h := (ringQuiet_begun.flush _ true).trans (ringCycleStart_begins (s := s0.at τ) hon hnew)
  rw [ht.ring]
  exact ⟨congrArg Prod.snd h, congrArg Prod.fst h⟩

/-- Settles O20: a cycle starts at its boundary, a tray accepted renews the header's time, a view in time closes into its record, a foreign tray
closes its port. -/
theorem ringCycle : Obligations.RingCycle := by
  refine ⟨⟨fun s0 τ => ?_, fun s0 τ p frac bs => ?_, fun s0 τ v vs => ?_⟩, fun s0 τ p frac bs => ?_⟩
  · intro s hon hnew
    exact ringCycle_start hon hnew
  · intro s hon hp hlen hpair hcrc hid hmode hup hcm hm
    refine Does.of_answer rfl fun t ht => ?_
    have h := (ringQuiet_course.flush _ true).trans
      (trayReceived_accepted (s := s0.at τ) (frac := frac) hon hp hlen hpair hcrc hid hmode hup hcm hm)
    rw [ht.ring]
    exact ⟨congrArg Prod.snd h, congrArg Prod.fst h⟩
  · intro s hviews hdue
    refine Does.of_answer rfl fun t ht => ?_
    have hτ : τ ≤ (s0.at τ).now := Nat.le_max_right ..
    rw [ht.ring]
    exact viewClose_closed (s := s0.at τ) hviews (hdue.trans hτ)
  · intro s hon hp hlen hpair hcrc hid
    refine Does.of_answer rfl fun t ht => ?_
    obtain ⟨hstands, hup, hforeign⟩ := trayReceived_closes (s := s0.at τ) (frac := frac) hon hp hlen hpair hcrc hid
    refine ⟨(ht.stands_eq ..).trans ((stands_congr (standing_of_quiet (State.flush_quiet ..)) ..).trans hstands), ?_⟩
    rw [show t.rport p = _ from (State.rport_of_ring ⟨congrArg Ring.left ht.ring, congrArg Ring.right ht.ring⟩ p).trans
      (State.rport_of_core (State.flush_ringCore ..) p)]
    exact ⟨hup, hforeign⟩

end Sys2Proof.Machine
end

section
/-! # O21: the ports of the ring -/
namespace Sys2Proof.Machine

theorem State.setRport_axes (s : State) (p : Nat) (x : RingPort) : (s.setRport p x).axes = s.axes := axes_of_quiet (s.setRport_quiet p x)

theorem State.setRport_params (s : State) (p : Nat) (x : RingPort) : (s.setRport p x).params = s.params := by
  unfold State.setRport
  split <;> rfl

theorem State.setRport_now (s : State) (p : Nat) (x : RingPort) : (s.setRport p x).now = s.now := now_of_quiet (s.setRport_quiet p x)

section
variable {s : State} {p : Nat} (hon : s.ring.on = true) (hp : p < 2)
include hon hp

/-- A request is answered with its number and the member's (R350). -/
theorem ringDelayRequest_responds (hup : (s.rport p).up = true) (seq member turn : Nat) :
    (ringDelayRequest p seq member turn s).rport p = { s.rport p with resp := leBytes 1 seq ++ leBytes 1 s.member ++ leBytes 2 turn } ∧
      (ringDelayRequest p seq member turn s).params = s.params ∧ (ringDelayRequest p seq member turn s).axes = s.axes := by
  unfold ringDelayRequest
  extract_lets x _ s1
  rw [if_neg fun h => h.elim (· hon) fun h => h.elim (Nat.not_le.2 hp) (· hup)]
  exact ⟨State.rport_setRport _, State.setRport_params .., State.setRport_axes ..⟩

/-- The response awaited ends the request and names the neighbour (R350). -/
theorem ringDelayResponse_measures (hup : (s.rport p).up = true) (hreq : (s.rport p).reqOut = true) (member turn rtt : Nat) :
    (ringDelayResponse p (s.rport p).reqSeq member turn rtt s).rport p =
      { s.rport p with reqOut := false, delays := ((2 * rtt - 625 * turn) / 4 :: (s.rport p).delays).take 16, neighbour := some member } := by
  unfold ringDelayResponse
  extract_lets x d ds _ s1 s2
  rw [if_neg fun h => h.elim (· hon) fun h => h.elim (Nat.not_le.2 hp) fun h => h.elim (· hup) fun h => h.elim (· hreq) (· rfl)]
  exact State.rport_setRport _

/-- The last pair's loss takes the port down (R337). -/
theorem pairDown_closes (hup : (s.rport p).up = true) (hpair : (s.rport p).pair1 = false) :
    (pairDown p 0 s).rport p = { s.rport p with pair0 := false, down0 := s.now }.downed s.now ∧ (pairDown p 0 s).axes = s.axes := by
  unfold pairDown
  rw [if_neg fun h => h.elim (· hon) fun h => h.elim (Nat.not_le.2 hp) (by decide)]
  extract_lets x y s1
  have hy : y = { s.rport p with pair0 := false, down0 := s.now } := if_pos rfl
  have hgone : ¬ (y.pair0 || y.pair1) = true := by
    rw [hy]
    simp [hpair]
  have h1 : s1.rport p = y := State.rport_setRport _
  rw [if_neg hgone]
  refine ⟨(State.portDown_rport (by rw [h1, hy]; exact hup)).trans ?_, (axes_of_quiet (s1.portDown_quiet p)).trans (State.setRport_axes ..)⟩
  rw [h1, State.setRport_now, hy]

/-- A port beside a named neighbour and up for 100 ms is ready (R321). -/
theorem portReady_readies {m : Nat} (hup : (s.rport p).up = true) (hat : (s.rport p).upAt + 100000000 ≤ s.now)
    (hnb : (s.rport p).neighbour = some m) (hm : m < 16) (hother : m ≠ s.member) : portReady p s = s.setRport p { s.rport p with ready := true } := by
  unfold portReady
  extract_lets x named
  refine if_pos ⟨hon, hp, hup, hat, ?_⟩
  dsimp only [named, x]
  rw [hnb]
  simp [hm, hother]

end

/-! ### A port comes up (R320, R321) -/

/-- The pair in use changes no more of its port. -/
theorem State.choosePair_rport (s : State) (p : Nat) :
    ((s.choosePair p).rport p).up = (s.rport p).up ∧ ((s.choosePair p).rport p).foreign = (s.rport p).foreign ∧
      ((s.choosePair p).rport p).pair0 = (s.rport p).pair0 ∧ ((s.choosePair p).rport p).pair1 = (s.rport p).pair1 := by
  unfold State.choosePair
  extract_lets x want s1
  have h1 : s1.rport p = { x with onPair1 := want, used := true } := State.rport_setRport _
  split
  · exact ⟨rfl, rfl, rfl, rfl⟩
  · have h2 : State.rport (if x.used ∧ x.onPair1 ≠ want then (s1.incPar P.pairSwitches).hiveEvent 4 p else s1) p = s1.rport p := by
      split
      · exact State.rport_of_core ((State.hiveEvent_ringCore ..).trans (State.incPar_ringCore ..)) p
      · rfl
    rw [h2, h1]
    exact ⟨rfl, rfl, rfl, rfl⟩

theorem State.choosePair_clkStatus (s : State) (p : Nat) : (s.choosePair p).par P.clkStatus = s.par P.clkStatus := by
  unfold State.choosePair
  extract_lets x want s1
  have h1 : s1.par P.clkStatus = s.par P.clkStatus := congrArg (fun l => State.par { s with params := l } P.clkStatus) (s.setRport_params p _)
  split
  · rfl
  · split
    · exact ((sendBlind_of_pn (by decide) (by decide)).hiveEvent (g := fun s => s.par P.clkStatus) ..).trans
        ((s1.incPar_par_other _ _ _ _ _ _ _ (by decide)).trans h1)
    · exact h1

theorem State.portUp_opens {s : State} {p : Nat} (hup : (s.rport p).up = false) (hforeign : (s.rport p).foreign = none)
    (hpair : (s.rport p).pair0 = true) (hclk : bit (s.par P.clkStatus) 0 = false) :
    (s.portUp p).rport p = { s.rport p with up := true, upAt := s.now } ∧ (s.portUp p).axes = s.axes := by
  unfold State.portUp
  extract_lets x s1 s2
  have hgo : ¬ (x.up = true ∨ x.foreign.isSome = true ∨ ¬ (x.pair0 || x.pair1) = true ∨ bit (s.par P.clkStatus) 0 = true) := by
    dsimp only [x]
    rw [hup, hforeign, hpair, hclk]
    simp
  rw [if_neg hgo]
  have h1 : s1.rport p = { x with up := true, upAt := s.now } := State.rport_setRport _
  have hax1 : s1.axes = s.axes := State.setRport_axes ..
  have h2 : s2.ring.core = s1.ring.core ∧ s2.axes = s1.axes := by
    dsimp only [s2]
    split
    · exact ⟨raiseSafe_ring Ring.core (fun _ _ h => h) s1.ring.core |>.unstandCode 0x0705 0 rfl, State.unstandCode_axes ..⟩
    · exact ⟨rfl, rfl⟩
  refine ⟨(State.rport_of_core (State.hiveSync_ringCore ..) p).trans ?_, ?_⟩
  · exact (State.rport_of_core h2.1 p).trans h1
  · exact (axes_of_quiet (State.hiveSync_quiet ..)).trans (h2.2.trans hax1)

theorem pairUp_opens {s : State} {p : Nat} (hon : s.ring.on = true) (hp : p < 2) (hup : (s.rport p).up = false)
    (hforeign : (s.rport p).foreign = none) (hclk : bit (s.par P.clkStatus) 0 = false) (hdue : (s.rport p).down0 + 50000 ≤ s.now) :
    ((pairUp p 0 s).rport p).up = true ∧ ((pairUp p 0 s).rport p).upAt = s.now ∧ ((pairUp p 0 s).rport p).pair0 = true ∧
      (pairUp p 0 s).axes = s.axes := by
  unfold pairUp
  extract_lets x s1
  rw [if_neg fun h => h.elim (· hon) fun h => h.elim (Nat.not_le.2 hp) fun h => h.elim (by decide) (Nat.not_lt.2 hdue),
    if_neg fun h => Bool.false_ne_true (hup.symm.trans h)]
  obtain ⟨hup1, hforeign1, hpair1, -⟩ := State.choosePair_rport (s.setRport p { x with pair0 := true }) p
  rw [State.rport_setRport] at hup1 hforeign1 hpair1
  have hclk1 : s1.par P.clkStatus = s.par P.clkStatus := (State.choosePair_clkStatus ..).trans
    (congrArg (fun l => State.par { s with params := l } P.clkStatus) (s.setRport_params p _))
  have hax1 : s1.axes = s.axes := (axes_of_quiet (State.choosePair_quiet ..)).trans (State.setRport_axes ..)
  have hnow1 : s1.now = s.now := (now_of_quiet (State.choosePair_quiet ..)).trans (State.setRport_now ..)
  obtain ⟨hport, hax⟩ := State.portUp_opens (s := s1) (hup1.trans hup) (hforeign1.trans hforeign) hpair1 (by rw [hclk1]; exact hclk)
  rw [hport, hax]
  exact ⟨rfl, hnow1, hpair1, hax1⟩

/-- Settles O21: requests are answered and measured, the last pair's loss takes the port down, a good pair brings it up, and it becomes ready. -/
theorem ringPorts : Obligations.RingPorts := by
  intro s0 τ p s hon hp
  have hτ : τ ≤ (s0.at τ).now := Nat.le_max_right ..
  have hport (t x : State) (ht : Ends x t) : t.rport p = x.rport p :=
    State.rport_of_ring ⟨congrArg Ring.left ht.ring, congrArg Ring.right ht.ring⟩ p
  refine ⟨fun seq member turn hup => ?_, fun member turn rtt hup hreq => ?_, fun hup hpair => ?_, fun hup hforeign hclk hdue => ?_,
    fun m hup hat hnb hm hother => ?_⟩
  · refine Does.of_answer rfl fun t ht => ?_
    rw [hport _ _ ht, ht.params, ht.axes]
    exact ringDelayRequest_responds (s := s0.at τ) hon hp hup seq member turn
  · refine Does.of_answer rfl fun t ht => ?_
    rw [hport _ _ ht]
    have h := ringDelayResponse_measures (s := s0.at τ) hon hp hup hreq member turn rtt
    exact ⟨(congrArg RingPort.reqOut h :), (congrArg RingPort.neighbour h :), (congrArg RingPort.delays h :)⟩
  · refine Does.of_answer rfl fun t ht => ?_
    obtain ⟨h, hax⟩ := pairDown_closes (s := s0.at τ) hon hp hup hpair
    rw [hport _ _ ht, ht.axes]
    exact ⟨(congrArg RingPort.up h :), (congrArg RingPort.fold h :), (congrArg RingPort.ready h :), hax⟩
  · refine Does.of_answer rfl fun t ht => ?_
    rw [hport _ _ ht, ht.axes]
    exact pairUp_opens (s := s0.at τ) hon hp hup hforeign hclk (hdue.trans hτ)
  · refine Does.of_answer rfl fun t ht => ?_
    rw [hport _ _ ht, ht.params, ht.axes, portReady_readies (s := s0.at τ) hon hp hup (hat.trans hτ) hnb hm hother]
    exact ⟨State.rport_setRport _, State.setRport_params .., State.setRport_axes ..⟩

end Sys2Proof.Machine
end

section
/-! # O22: the members of the ring and its switch -/
namespace Sys2Proof.Machine

/-! ### A message leaves the time of the member's state -/

theorem State.incPar_stateAt (s : State) (p : Par) (i : Nat) : (s.incPar p i).ring.stateAt = s.ring.stateAt := by
  unfold State.incPar
  dsimp only
  split <;> rfl

theorem State.push_stateAt (s : State) (q : Nat) (data : Bytes) (dest port : Nat) : (s.push q data dest port).ring.stateAt = s.ring.stateAt := by
  unfold State.push
  split
  · rfl
  · exact State.incPar_stateAt ..

theorem State.txPut_stateAt (s : State) (p id : Nat) (data : Bytes) (own : Bool) (xfer : Option Nat) (last : Bool) (copyOf : Option (Nat × Nat)) :
    (s.txPut p id data own xfer last copyOf).ring.stateAt = s.ring.stateAt := by
  unfold State.txPut
  dsimp only
  split <;> exact State.push_stateAt ..

theorem State.feedOne_stateAt (s : State) (e : Entry) : (s.feedOne e).ring.stateAt = s.ring.stateAt := by
  unfold State.feedOne
  split
  · rfl
  · split
    · rfl
    · split
      · rfl
      · dsimp only
        split
        · exact foldl_keeps (fun x : State => x.ring.stateAt) _ (fun _ _ => State.txPut_stateAt ..) _ _
        · rfl

theorem State.send_stateAt (s : State) (x : Session) (p : Bytes) : (s.send x p).ring.stateAt = s.ring.stateAt := by
  unfold State.send
  split
  · exact foldl_keeps (fun x : State => x.ring.stateAt) _ (fun _ _ => State.push_stateAt ..) _ _
  · exact (foldl_keeps (fun x : State => x.ring.stateAt) _ (fun x e => x.feedOne_stateAt e) _ _).trans (State.push_stateAt ..)
  · exact State.push_stateAt ..

theorem State.endOp_stateAt (s : State) (opcode target status : Nat) : (s.endOp opcode target status).ring.stateAt = s.ring.stateAt := by
  unfold State.endOp State.complete State.sendOrWait State.sendMark
  dsimp only
  split
  · rfl
  · split
    · split
      · split <;> exact State.send_stateAt ..
      · rfl
    · rfl

theorem State.hiveEvent_stateAt (s : State) (pos subj : Nat) : (s.hiveEvent pos subj).ring.stateAt = s.ring.stateAt := by
  refine foldl_keeps (fun x : State => x.ring.stateAt) _ (fun x n => ?_) _ s
  split
  · unfold State.notifyTo
    dsimp only
    split
    · exact State.send_stateAt ..
    · exact State.incPar_stateAt ..
  · rfl

/-! ### The mastership and the loss of the ring (R327, R338) -/

theorem sendBlind_hiveState : SendBlind fun s => s.par P.hiveState := sendBlind_of_pn (by decide) (by decide)

theorem State.hiveSync_member (s : State) (k : Nat) : (s.hiveSync k).member = s.member := by
  have h : (s.hiveSync k).par P.hiveMember = s.par P.hiveMember := by
    unfold State.hiveSync
    extract_lets st busy above event new
    clear_value new
    split
    · rfl
    · split
      · rfl
      · exact s.par_setPar_other _ _ _ _ _ _ _ (by decide)
  exact congrArg Int.toNat h

/-- No lower member is heard where every member heard is no lower than the own one. -/
theorem cycleMasterTakeover_takes {s : State} (hon : s.ring.on = true) (hcm : s.isCycleMaster = false) (hdue : s.ring.headerAt + 30000 ≤ s.now)
    (hlow : ∀ e ∈ s.ring.heardAt, s.member ≤ e.1) :
    (cycleMasterTakeover s).parN P.cycleMaster = s.member ∧ (cycleMasterTakeover s).ring.timeSet = true := by
  unfold cycleMasterTakeover
  extract_lets heard lower _ s1 s1' _ s2
  have hnone : ¬ lower = true := by
    intro h
    obtain ⟨m, -, hm⟩ := List.any_eq_true.1 h
    obtain ⟨hlt, hheard⟩ := Bool.and_eq_true_iff.1 hm
    obtain ⟨e, he, hem⟩ := List.any_eq_true.1 (Bool.and_eq_true_iff.1 hheard).2
    exact absurd (hlow e he) (Nat.not_le.2 ((of_decide_eq_true hem).symm ▸ of_decide_eq_true hlt))
  have hgo : ¬ (¬ s.ring.on = true ∨ s.isCycleMaster = true ∨ s.now < s.ring.headerAt + 30000 ∨ lower = true) :=
    fun h => h.elim (· hon) fun h => h.elim (fun h => Bool.false_ne_true (hcm.symm.trans h)) fun h => h.elim (Nat.not_lt.2 hdue) hnone
  have h2 : s2.member = s.member ∧ s2.ring.timeSet = true := by
    dsimp only [s2]
    split
    · refine ⟨(State.hiveSync_member ..).trans ?_, (congrArg Ring.timeSet (State.hiveSync_ringCore ..) :)⟩
      exact congrArg Int.toNat (s1.par_setPar_other P.hiveState P.hiveMember _ _ _ _ _ (by decide))
    · exact ⟨rfl, rfl⟩
  rw [if_neg hgo]
  refine ⟨?_, h2.2⟩
  exact (congrArg Int.toNat (State.par_setPar_same ..)).trans ((Int.toNat_natCast _).trans h2.1)

theorem ringQuiet_lost : RingQuiet Ring.lost where
  core _ _ h := (congrArg Ring.lost h :)
  fallback _ _ _ := rfl
  left _ _ := rfl
  right _ _ := rfl
  own _ _ _ := rfl
  ownMsg _ _ := rfl

theorem State.beginStop_others (s : State) (k : Nat) (kind : StopKind) (fin : StopEnd) : (s.beginStop k kind fin).others = s.others := by
  unfold State.beginStop
  extract_lets s1
  split
  · rfl
  · exact State.moveAxis_others ..

theorem State.enterFallback_others (s : State) (tm : Bool) : (s.enterFallback tm).others = s.others := by
  unfold State.enterFallback
  extract_lets _ s1 k st runs _ s2 s3
  have h3 : s3.others = s.others := others_congr ((standing_of_quiet (State.hiveEvent_quiet ..)).trans (State.hiveSync_standing ..))
  split
  · rfl
  · split
    · exact (State.beginStop_others ..).trans h3
    · exact h3

theorem ringLost_stands {s : State} {t0 : Nat} (hon : s.ring.on = true) (hdown : s.ring.bothDownAt = some t0) (hlost : s.ring.lost = false)
    (hdue : t0 + 60000 ≤ s.now) : (ringLost s).ring.lost = true ∧ (ringLost s).stands 0x0705 0 = true := by
  unfold ringLost
  split
  next t1 h =>
    obtain rfl := Option.some.inj (hdown.symm.trans h)
    extract_lets _ s1 s2
    have h1 : s1.ring.lost = true ∧ s1.stands 0x0705 0 = true :=
      ⟨(ringQuiet_lost.raise true).raiseModule (s := { s with ring := { s.ring with lost := true } }) 0x0705 0 "CTL/RING" rfl, raiseModule_stands ..⟩
    have h2 : s2.ring.lost = true ∧ s2.stands 0x0705 0 = true := by
      dsimp only [s2]
      split
      · exact ⟨(ringQuiet_lost.enterFallback ..).trans h1.1, (stands_of_others (State.enterFallback_others ..) _ _ (by decide)).trans h1.2⟩
      · exact h1
    rw [if_pos ⟨hon, by rw [hlost]; exact Bool.false_ne_true, hdue⟩]
    exact ⟨(ringQuiet_lost.hiveSync ..).trans h2.1, (stands_congr (State.hiveSync_standing ..) ..).trans h2.2⟩
  next h => exact absurd (h.symm.trans hdown) (by simp)

/-! ### Joining and leaving (R354, R357) -/

theorem memberJoining_begins {s : State} (hon : s.ring.on = true) (hst : s.par P.hiveState = 1) (hrun : (s.ax s.hiveAx).st = .running)
    (h2 : bit (s.par P.posStatus s.hiveAx) 2 = false) (h3 : bit (s.par P.posStatus s.hiveAx) 3 = false) (hleft : s.ring.hasLeft = false)
    (hmin : (s.shares && s.ring.minority) = false) :
    (memberJoining s).par P.hiveState = 2 ∧ (memberJoining s).ring.stateAt = s.now ∧ (memberJoining s).axes = s.axes := by
  unfold memberJoining
  extract_lets k busy
  have hgo : s.ring.on = true ∧ s.par P.hiveState = 1 ∧ (s.ax k).st = .running ∧ ¬ busy = true ∧ ¬ s.ring.hasLeft = true ∧
      ¬ (s.shares = true ∧ s.ring.minority = true) :=
    ⟨hon, hst, hrun, by dsimp only [busy, k]; rw [h2, h3]; decide, by rw [hleft]; decide,
      fun h => Bool.false_ne_true (hmin.symm.trans (Bool.and_eq_true_iff.2 h))⟩
  rw [if_pos hgo]
  exact ⟨(sendBlind_hiveState.hiveEvent ..).trans (State.par_setPar_same ..), State.hiveEvent_stateAt .., axes_of_quiet (State.hiveEvent_quiet ..)⟩

theorem joinRampEnd_contributes {s : State} (hon : s.ring.on = true) (hst : s.par P.hiveState = 2)
    (hdue : s.ring.stateAt + s.rpN P.handoverTime * 1000000 ≤ s.now) :
    (joinRampEnd s).par P.hiveState = 3 ∧ (joinRampEnd s).ring.stateAt = s.now ∧ (joinRampEnd s).axes = s.axes := by
  unfold joinRampEnd
  rw [if_pos ⟨hon, hst, hdue⟩]
  exact ⟨(sendBlind_hiveState.endOp ..).trans (State.par_setPar_same ..), State.endOp_stateAt .., axes_of_quiet (State.endOp_quiet ..)⟩

theorem leaveRampEnd_leaves {s : State} {t0 : Nat} (hleave : s.ring.leaveAt = some t0) (hst : s.par P.hiveState = 5)
    (hdue : t0 + s.rpN P.handoverTime * 1000000 ≤ s.now) :
    (leaveRampEnd s).par P.hiveState = 6 ∧ (leaveRampEnd s).ring.leaveAt = none ∧ (leaveRampEnd s).axes = s.axes := by
  unfold leaveRampEnd
  split
  next t1 h =>
    obtain rfl := Option.some.inj (hleave.symm.trans h)
    extract_lets _ s1 s2
    have h2 : s2 = s1.setPar P.hiveState 6 := if_pos hst
    rw [if_pos hdue, h2]
    exact ⟨(sendBlind_hiveState.endOp ..).trans (State.par_setPar_same ..), (congrArg Ring.leaveAt (State.endOp_ringCore ..) :),
      axes_of_quiet (State.endOp_quiet ..)⟩
  next h => exact absurd (h.symm.trans hleave) (by simp)

/-! ### HIVE_EN (R353) -/

theorem State.hiveStart_cold (s : State) :
    s.hiveStart.ring.on = true ∧ s.hiveStart.ring.headerAt = s.now ∧ s.hiveStart.ring.views = [] ∧ s.hiveStart.axes = s.axes := ⟨rfl, rfl, rfl, rfl⟩

theorem State.hiveStop_leaves (s : State) : s.hiveStop.ring = { hasLeft := s.ring.hasLeft } ∧ s.hiveStop.axes = s.axes := by
  unfold State.hiveStop
  extract_lets s1 s2
  have hring : s1.ring.core = s.ring.core := (raiseSafe_ring Ring.core (fun _ _ h => h) s.ring.core).unstandCode 0x0704 0
    ((raiseSafe_ring Ring.core (fun _ _ h => h) s.ring.core).unstandCode 0x0705 0 rfl)
  have hax : s1.axes = s.axes := (State.unstandCode_axes ..).trans (State.unstandCode_axes ..)
  refine ⟨?_, hax⟩
  exact congrArg (fun b : Bool => ({ hasLeft := b } : Ring)) (congrArg Ring.hasLeft hring :)

theorem hiveEnWrite_starts {s : State} (hdis : (s.ax s.hiveAx).st = .disabled) (hoff : s.ring.on = false) :
    hiveEnWrite 1 s = (s.setPar P.hiveEn 1).hiveStart := by
  unfold hiveEnWrite
  rw [if_pos ⟨by decide, hdis⟩]
  unfold State.hiveEnSet State.hiveEffect
  extract_lets want
  have hwant : want = true := decide_eq_true (State.par_setPar_same ..)
  rw [if_neg fun h => Bool.false_ne_true (hoff.symm.trans (h.symm.trans hwant)), if_pos hwant]
  rfl

theorem hiveEnWrite_stops {s : State} (hdis : (s.ax s.hiveAx).st = .disabled) (hon : s.ring.on = true) :
    hiveEnWrite 0 s = (s.setPar P.hiveEn 0).hiveStop := by
  unfold hiveEnWrite
  rw [if_pos ⟨by decide, hdis⟩]
  unfold State.hiveEnSet State.hiveEffect
  extract_lets want
  have hwant : want = false := decide_eq_false fun h => by
    rw [State.par_setPar_same] at h
    exact absurd h (by decide)
  rw [if_neg fun h => Bool.false_ne_true (hwant.symm.trans (h.trans hon)), if_neg fun h => Bool.false_ne_true (hwant.symm.trans h)]
  rfl

/-! ### The statement -/

theorem parN_congr {s t : State} (h : t.params = s.params) (p : Par) : t.parN p = s.parN p := by
  unfold State.parN State.par
  rw [h]

/-- Settles O22: mastership, loss, joining and leaving of the ring, and its switch. -/
theorem ringMembers : Obligations.RingMembers := by
  refine ⟨?_, ?_⟩
  · intro s0 τ s hon
    have hτ : τ ≤ (s0.at τ).now := Nat.le_max_right ..
    refine ⟨fun hcm hdue hlow => ?_, fun t0 hdown hlost hdue => ?_, fun hst hrun h2 h3 hleft hmin => ?_, fun hst hdue => ?_,
      fun t0 hleave hst hdue => ?_⟩
    · refine Does.of_answer rfl fun t ht => ?_
      rw [parN_congr ht.params, ht.ring]
      exact cycleMasterTakeover_takes (s := s0.at τ) hon hcm (hdue.trans hτ) hlow
    · refine Does.of_answer rfl fun t ht => ?_
      rw [ht.ring]
      obtain ⟨h1, h2⟩ := ringLost_stands (s := s0.at τ) hon hdown hlost (hdue.trans hτ)
      exact ⟨h1, (ht.stands_eq ..).trans h2⟩
    · refine Does.of_answer rfl fun t ht => ?_
      rw [ht.par_eq, ht.ring, ht.axes]
      exact memberJoining_begins (s := s0.at τ) hon hst hrun h2 h3 hleft hmin
    · refine Does.of_answer rfl fun t ht => ?_
      rw [ht.par_eq, ht.ring, ht.axes]
      exact joinRampEnd_contributes (s := s0.at τ) hon hst (hdue.trans hτ)
    · refine Does.of_answer rfl fun t ht => ?_
      rw [ht.par_eq, ht.ring, ht.axes]
      exact leaveRampEnd_leaves (s := s0.at τ) hleave hst (hdue.trans hτ)
  · intro s0 τ s hdis
    refine ⟨fun hoff => ?_, fun hon => ?_⟩
    · refine Does.of_answer rfl fun t ht => ?_
      rw [ht.ring, ht.axes, hiveEnWrite_starts (s := s0.at τ) hdis hoff]
      exact State.hiveStart_cold _
    · refine Does.of_answer rfl fun t ht => ?_
      rw [ht.ring, ht.axes, hiveEnWrite_stops (s := s0.at τ) hdis hon]
      exact State.hiveStop_leaves _

end Sys2Proof.Machine
end

section
/-! # What is sent has found room: no queue overflows by a reply or a notification -/
namespace Sys2Proof.Machine

theorem usedBytes_append (es : List Entry) (e : Entry) : usedBytes (es ++ [e]) = usedBytes es + entrySize e.data.length := by
  unfold usedBytes
  rw [List.foldl_append]
  rfl

/-- A packet that fits takes its size and counts no overflow. -/
theorem State.push_fits {s : State} {q : Nat} {data : Bytes} (dest port : Nat) (h : entrySize data.length ≤ s.freeBytes q) :
    (s.push q data dest port).params = s.params ∧ s.freeBytes q ≤ (s.push q data dest port).freeBytes q + entrySize data.length := by
  rw [State.push_of_room _ _ _ _ _ h]
  refine ⟨rfl, ?_⟩
  unfold State.freeBytes
  have hq : State.queue { s.setQueue q (s.queue q ++ [⟨data, dest, port, s.nextTag, [], s.now⟩]) with nextTag := s.nextTag + 1 } q =
      s.queue q ++ [⟨data, dest, port, s.nextTag, [], s.now⟩] := State.queue_setQueue_same ..
  rw [hq, usedBytes_append]
  exact Nat.sub_le_iff_le_add.1 (Nat.sub_sub ..).le

/-- Pieces whose sizes fit together go into their queue one after the other. -/
theorem foldl_fits {α : Type} {f : State → α → State} {size : α → Nat} {q : Nat}
    (hstep : ∀ s x, size x ≤ s.freeBytes q → (f s x).params = s.params ∧ s.freeBytes q ≤ (f s x).freeBytes q + size x) (l : List α) (s : State)
    (h : (l.map size).sum ≤ s.freeBytes q) : (l.foldl f s).params = s.params := by
  induction l generalizing s with
  | nil => rfl
  | cons x l ih =>
    rw [List.map_cons, List.sum_cons] at h
    obtain ⟨hparams, hfree⟩ := hstep s x (by omega)
    exact (ih (f s x) (by omega)).trans hparams

theorem foldl_sum (l : List Nat) : l.foldl (· + ·) 0 = l.sum := List.sum_eq_foldl.symm

/-! ### Frames of a transfer -/

theorem fdLength_le {n : Nat} (h : n ≤ 64) : n ≤ fdLength n := by
  unfold fdLength
  (repeat' split) <;> omega

theorem fdPad_length {bs : Bytes} (h : bs.length ≤ 64) : (fdPad bs).length = fdLength bs.length := by
  have := fdLength_le h
  unfold fdPad
  rw [List.length_append, List.length_replicate]
  omega

theorem segments_length {dest tag : Nat} {p f : Bytes} (h : f ∈ segments dest tag p) : f.length ≤ 64 := by
  obtain ⟨i, -, rfl⟩ := List.mem_map.1 h
  simp only [List.length_append, leBytes_length, List.length_take]
  omega

theorem State.txPut_fits {s : State} {p : Nat} {data : Bytes} (id : Nat) (own : Bool) (xfer : Option Nat) (last : Bool) (copyOf : Option (Nat × Nat))
    (h : entrySize (fdPad data).length ≤ s.freeBytes (8 + p)) : (s.txPut p id data own xfer last copyOf).params = s.params ∧
      s.freeBytes (8 + p) ≤ (s.txPut p id data own xfer last copyOf).freeBytes (8 + p) + entrySize (fdPad data).length := by
  unfold State.txPut
  extract_lets data' tag fits s1 f
  have h1 := State.push_fits (s := s) (q := 8 + p) (data := data') id p h
  split <;> exact h1

theorem State.feedOne_params (s : State) (e : Entry) : (s.feedOne e).params = s.params := by
  unfold State.feedOne
  split
  · rfl
  · extract_lets tag fs room x id _ s1
    split
    · rfl
    · split
      · rfl
      · split
        next hroom =>
          refine (foldl_fits (q := 8 + e.port) (size := fun f : Bytes × Nat => entrySize (fdPad f.1).length)
            (fun s f h => State.txPut_fits _ _ _ _ _ h) _ s1 ?_).trans rfl
          have hsizes : fs.zipIdx.map (fun f => entrySize (fdPad f.1).length) = fs.map fun f => entrySize (fdLength f.length) := by
            rw [show (fun f : Bytes × Nat => entrySize (fdPad f.1).length) = (fun b : Bytes => entrySize (fdPad b).length) ∘ Prod.fst from rfl,
              ← List.map_map, List.zipIdx_map_fst]
            exact List.map_congr_left fun f hf => by rw [fdPad_length (segments_length hf)]
          rw [hsizes, ← foldl_sum]
          exact hroom
        · rfl

theorem State.swarmFeed_params (s : State) : s.swarmFeed.params = s.params := foldl_keeps State.params _ (fun x e => x.feedOne_params e) _ _

/-! ### A packet -/

theorem ringBlocks_sizes (tag : Nat) (p : Bytes) :
    (ringBlocks tag p).map (fun b => entrySize b.length) = (ringBlocks 0 p).map fun b => entrySize b.length := by
  unfold ringBlocks
  simp only [List.map_map, Function.comp_def, List.length_append, leBytes_length]

theorem State.send_params {s : State} {x : Session} {p : Bytes} (h : sendSize x p ≤ s.freeBytes (outQ x.transport)) : (s.send x p).params = s.params := by
  unfold State.send
  unfold sendSize at h
  cases hx : x.transport with
  | ring =>
    rw [hx] at h
    extract_lets tag _ s1
    refine (foldl_fits (q := 18) (size := fun b : Bytes => entrySize b.length) (fun y b hb => State.push_fits _ _ hb) _ s1 ?_).trans rfl
    rw [ringBlocks_sizes, ← foldl_sum]
    exact h
  | swarm =>
    rw [hx] at h
    exact (State.swarmFeed_params _).trans (State.push_fits (q := 17) _ _ h).1
  | spi =>
    rw [hx] at h
    exact (State.push_fits (q := 16) _ _ h).1
  | porch =>
    rw [hx] at h
    exact (State.push_fits (q := 19) _ _ h).1

theorem State.sendOrWait_params (s : State) (n : Nat) (p : Bytes) (boot run : Bool) : (s.sendOrWait n p boot run).params = s.params := by
  unfold State.sendOrWait State.sendMark
  extract_lets x last s1 s2
  split
  next h =>
    split <;> exact State.send_params h.2
  · rfl

/-- A reply changes no parameter. -/
theorem State.replyRun_params (s : State) (n op seq : Nat) (ps : List Bytes) (boot : Bool) : (s.replyRun n op seq ps boot).params = s.params := by
  unfold State.replyRun
  dsimp only
  exact foldl_keeps State.params _ (fun x p => x.sendOrWait_params ..) _ _

/-- A notification changes no parameter but the count of those lost. -/
theorem State.notify_par (s : State) (cls pos subj : Nat) (data : Bytes) {q : Par} {i j : Nat} (h : q.pn i j ≠ 49159) :
    (s.notify cls pos subj data).par q i j = s.par q i j := by
  refine foldl_keeps (fun x : State => x.par q i j) _ (fun x n => ?_) _ s
  split
  · unfold State.notifyTo
    extract_lets y p
    split
    next hroom =>
      have hfits : sendSize y p ≤ x.freeBytes (outQ y.transport) := (Nat.le_add_right ..).trans hroom
      exact congrArg (fun l => State.par { x with params := l } q i j)
        (State.send_params (s := x.setSess n { y with notifSeq := (y.notifSeq + 1) % 65536, lost := 0 }) hfits)
    · exact State.incPar_par_other _ _ _ _ _ _ _ _ (Ne.symm h)
  · rfl

theorem State.endOp_params (s : State) (opcode target status : Nat) (extra : Bytes) : (s.endOp opcode target status extra).params = s.params := by
  unfold State.endOp State.complete
  dsimp only
  split
  · rfl
  · split
    · exact State.sendOrWait_params ..
    · rfl

end Sys2Proof.Machine
end

section
/-! # FAULT_CLEAR where the clear condition reads a counter

A lane's role is read at the number that LANE gives (Table 9.9, LANE_OVERRUN). The statement does not ask that LANE is in its range: the number
28614 places the role at 0xC006, the count of dropped transfers, which the taking of the packet itself moves. -/
namespace Sys2Proof.Tests
open Sys2Proof.Machine

/-- FAULT_CLEAR of axis 3. -/
def clearPacket : Bytes := packet 0x26 0 1 0 [3#8] none

/-- Axis 3 is latched by LANE_OVERRUN, and its lane's role reads the count of dropped transfers, which is 3. In the queue of the share ring
stand a segment of no transfer, and FAULT_CLEAR of the owner. -/
def strayAndClear : State :=
  let s := pr (ax base 3 { st := .faultLatched }) [(P.lane, 3, 28614), (P.reasmDrops, 0, 3)]
  let s := s.setSess 1 { isOpen := true, proven := true, rank := 1, nextSeq := 0, timeoutMs := 1000, transport := .ring }
  { s.setQueue 14 [{ data := [5#8, 0#8], dest := 1, tag := 2 }, { data := [128#8, 0#8] ++ clearPacket, tag := 3 }] with
    owner := { s.owner with session := 1 }
    standing := [{ code := 0x0201, inst := 3, axis := 3, path := "" }] }

end Sys2Proof.Tests

namespace Sys2Proof.Machine
open Sys2Proof.Tests

theorem strayAndClear_clears :
    after (exec (.faultClearAxis 0 .ring) strayAndClear) (fun t => decide ((t.ax 3).st = .disabled)) = true := by
  decide +kernel

theorem strayAndClear_accepts : ((strayAndClear.due 0).clock 0).Accepts .ring cmdFaultClearAxis 1 (parsePkt clearPacket) :=
  accepts_of (by decide +kernel)

/-- Refutes O36: its clause of FAULT_CLEAR reads the clear condition before the packet is taken. Where LANE is out of its range the condition
reads the count of dropped transfers, and the drop of a stray segment ahead of the packet ends the cause. -/
theorem not_axisCommands : ¬ Obligations.AxisCommands := by
  unfold Obligations.AxisCommands
  intro h
  obtain ⟨-, -, -, -, -, -, -, hclear, -⟩ := h strayAndClear 0 .ring 1 (parsePkt clearPacket)
  obtain ⟨-, -, hstands⟩ := hclear strayAndClear_accepts (by decide +kernel) (by decide +kernel) (by decide +kernel)
  obtain ⟨t, ht, -, haxes, -⟩ := hstands (by decide +kernel) (by decide +kernel)
  have hcleared : (t.ax 3).st = .disabled := of_decide_eq_true (of_after strayAndClear_clears ht)
  have hlatched : ((strayAndClear.due 0).ax 3).st = .faultLatched := by decide +kernel
  have hkept : (t.ax 3).st = ((strayAndClear.due 0).ax 3).st := congrArg Axis.st (State.ax_of_axes haxes 3)
  exact absurd (hcleared.symm.trans (hkept.trans hlatched)) (by decide)

end Sys2Proof.Machine
end

section
/-! # What the judgement of an item reads (R479)

The taking of a packet counts dropped transfers (0xC006), and an item that names a protected parameter counts a violation (0xC10B). No
judgement reads either count. -/
namespace Sys2Proof.Machine

/-- Another state that the judgement of items does not tell from the first. -/
structure Alike (a b : State) : Prop where
  pars : ∀ (q : Par) (i j n : Nat), q.pn i j = n → n ≠ 49158 → n ≠ 49419 → b.par q i j = a.par q i j
  ring : b.ring = a.ring
  now : b.now = a.now
  axes : b.axes = a.axes
  service : b.service = a.service
  fanner : b.fanner = a.fanner

theorem upto_lt {n i : Nat} (h : i ∈ upto n) : i < n := List.mem_range.1 h

theorem any_congr {α : Type} {l : List α} {f g : α → Bool} (h : ∀ x ∈ l, f x = g x) : l.any f = l.any g := by
  induction l with
  | nil => rfl
  | cons x l ih => rw [List.any_cons, List.any_cons, h x (.head _), ih fun y hy => h y (.tail _ hy)]

theorem all_congr {α : Type} {l : List α} {f g : α → Bool} (h : ∀ x ∈ l, f x = g x) : l.all f = l.all g := by
  induction l with
  | nil => rfl
  | cons x l ih => rw [List.all_cons, List.all_cons, h x (.head _), ih fun y hy => h y (.tail _ hy)]

section
variable {a b : State} (h : Alike a b)
include h

theorem Alike.fixed (q : Par) (hq : q.pn 0 0 ≠ 49158 ∧ q.pn 0 0 ≠ 49419) : b.par q = a.par q := h.pars q 0 0 _ rfl hq.1 hq.2

theorem Alike.ax (k : Nat) : b.ax k = a.ax k := State.ax_of_axes h.axes k

theorem Alike.bridgesOf (k : Nat) : b.bridgesOf k = a.bridgesOf k :=
  congrArg (fun v : Int => bitsOf 4 v.toNat) (h.pars P.bridgeMask k 0 (4354 + 4096 * k + 1 * 0) rfl (by omega) (by omega))

theorem Alike.brLink (c : Nat) : b.parN P.brLink c = a.parN P.brLink c :=
  congrArg Int.toNat (h.pars P.brLink c 0 (20480 + 16 * c + 1 * 0) rfl (by omega) (by omega))

theorem Alike.axisOfBridge (c : Nat) : b.axisOfBridge c = a.axisOfBridge c := by
  have hmask : (fun k => bit (b.par P.bridgeMask k) c) = fun k => bit (a.par P.bridgeMask k) c := funext fun k => by
    rw [h.pars P.bridgeMask k 0 (4354 + 4096 * k + 1 * 0) rfl (by omega) (by omega)]
  have hswitching : b.switching = a.switching := funext fun k => by
    unfold State.switching
    rw [h.ax]
  unfold State.axisOfBridge State.serving4
  rw [hmask, hswitching]

/-! ### The marks of a parameter (Table 21.1) -/

theorem Alike.heldPar (p : Par) (i : Nat) : b.heldPar p i = a.heldPar p i := by
  unfold State.heldPar
  rw [h.service]
  split
  · rfl
  · rw [h.bridgesOf]

theorem Alike.hiveAx : b.hiveAx = a.hiveAx := by
  unfold State.hiveAx State.parN
  rw [h.ring, h.fixed P.hiveAxis (by decide)]

theorem Alike.axesOfPar (p : Par) (i : Nat) : b.axesOfPar p i = a.axesOfPar p i := by
  have hsensor (k : Nat) : b.parN P.sensorSel k = a.parN P.sensorSel k :=
    congrArg Int.toNat (h.pars P.sensorSel k 0 (4609 + 4096 * k + 1 * 0) rfl (by omega) (by omega))
  have hmode (c : Nat) : b.par P.csMode c = a.par P.csMode c := h.pars P.csMode c 0 (24576 + 32 * c + 1 * 0) rfl (by omega) (by omega)
  unfold State.axesOfPar State.axesOnLink State.axesOfCell
  simp only [h.bridgesOf, h.brLink, h.axisOfBridge, h.hiveAx, hsensor, hmode]

theorem Alike.markHolds (p : Par) (i : Nat) : b.markHolds p i = a.markHolds p i := by
  unfold State.markHolds
  cases hm : p.mark with
  | none => rfl
  | d =>
    dsimp only
    rw [h.heldPar, h.axesOfPar]
    exact congrArg (a.heldPar p i || ·) (all_congr fun k _ => by rw [h.ax])
  | p =>
    dsimp only
    rw [h.pars P.sbEn i 0 (32768 + 64 * i + 1 * 0) rfl (by omega) (by omega)]
  | c =>
    dsimp only
    rw [h.fixed P.combEn (by decide)]
  | a =>
    dsimp only
    unfold State.panOn
    rw [h.fixed P.panState (by decide)]

/-! ### The ranges and the calibration -/

theorem Alike.inRange (p : Par) (i : Nat) (v : Int) : b.inRange p i v = a.inRange p i v := by
  unfold State.inRange
  rw [h.pars P.encMode i 0 (24832 + 32 * i + 1 * 0) rfl (by omega) (by omega), h.pars P.encLines i 0 (24833 + 32 * i + 1 * 0) rfl (by omega) (by omega)]

theorem Alike.bridgeNtc (c : Nat) (hc : c < 4) : b.bridgeNtc c = a.bridgeNtc c := by
  have hjp : b.jp c P.brNtc c = a.jp c P.brNtc c := by
    unfold State.jp
    rw [h.axisOfBridge, h.pars P.brNtc c 0 (29056 + 16 * c + 1 * 0) rfl (by omega) (by omega)]
    split
    · rw [h.ax]
    · rfl
  unfold State.bridgeNtc
  rw [hjp]
  dsimp only
  rw [h.fanner, h.pars P.ntcR25 (a.jp c P.brNtc c).toNat 0 (28992 + 4 * (a.jp c P.brNtc c).toNat + 1 * 0) rfl (by omega) (by omega)]

omit h in
theorem bridgeNtc_lt {s : State} {c k : Nat} (hk : s.bridgeNtc c = some k) : k < 8 := by
  unfold State.bridgeNtc at hk
  dsimp only at hk
  split at hk
  next hlt => exact (Option.some.inj hk) ▸ hlt.1
  · cases hk

theorem Alike.jtCalRefused (c : Nat) (hc : c < 4) : b.jtCalRefused c = a.jtCalRefused c := by
  have hlink (l : Nat) : b.par P.linkV l = a.par P.linkV l := h.pars P.linkV l 0 (24706 + 8 * l + 1 * 0) rfl (by omega) (by omega)
  have hmoved (k : Nat) : b.ntcMoved k = a.ntcMoved k := by
    unfold State.ntcMoved
    rw [h.fanner]
  unfold State.jtCalRefused
  rw [h.axisOfBridge, h.bridgeNtc c hc, h.fanner, h.brLink, hlink, h.now]
  dsimp only
  refine congrArg₂ or (congrArg₂ or (congrArg₂ or ?_ rfl) ?_) rfl
  · cases a.axisOfBridge c with
    | none => rfl
    | some k =>
      dsimp only
      rw [h.ax]
  · cases hk : a.bridgeNtc c with
    | none => rfl
    | some k =>
      have := bridgeNtc_lt hk
      dsimp only
      rw [hmoved, h.pars P.ntcState k 0 (28995 + 4 * k + 1 * 0) rfl (by omega) (by omega)]

end

/-! ### The matrix of the Comb (R571) -/

/-- The matrix as `State.combValid` reads it, for a number of windows and of cycles. -/
def State.matrixValid (s : State) (p n ncyc : Nat) : Bool :=
  decide (s.par P.winStart 0 = 0) &&
  ((upto (n - 1)).all fun w => decide (s.par P.winStart w < s.par P.winStart (w + 1))) &&
  decide (s.par P.winStart (n - 1) < s.par P.cycleLen) &&
  ((upto ncyc).all fun c => (upto n).all fun w => decide (cellType (s.cellOf c w) = 2) == decide (w = 0)) &&
  decide (unitsOfCycles (s.frameCycles p 20) ≤ s.windowEnd 0) &&
  [1, 2, 4, 8, 16].contains ncyc &&
  ((upto ncyc).all fun c => (upto n).all fun w =>
    let v := s.cellOf c w
    !(decide (cellType v = 1) && cellOwn v) || (s.exclOf (cellSlot v)).isSome)

theorem State.combValid_eq (s : State) (p : Nat) : s.combValid p = s.matrixValid p (s.parN P.combWindows) (s.parN P.combCycles) := rfl

/-- What a table holds at a key does not depend on its default. -/
theorem tget_of_ne_default {α : Type} {t : Tab α} {d : α} {k : Nat} (d' : α) (h : tget t d k ≠ d) : tget t d' k = tget t d k := by
  induction t with
  | nil => exact absurd rfl h
  | cons e t ih =>
    obtain ⟨k', v⟩ := e
    unfold tget at h ⊢
    split at h
    next hk => rw [if_pos hk, if_pos hk]
    next hk =>
      rw [if_neg hk, if_neg hk]
      exact ih h

/-- Ascending starts of windows are no lower than their numbers. -/
theorem winStart_ge {s : State} {n : Nat} (h0 : s.par P.winStart 0 = 0) (hup : ∀ w, w < n → s.par P.winStart w < s.par P.winStart (w + 1)) :
    ∀ w, w ≤ n → (w : Int) ≤ s.par P.winStart w := by
  intro w hw
  induction w with
  | zero => exact h0.ge
  | succ w ih =>
    have h1 := ih (by omega)
    have h2 := hup w (by omega)
    push_cast
    omega

/-- More than 833 windows are no matrix: the start of window 832 stands where the first cell does, and it is too high for the reference
window's type. -/
theorem State.matrixValid_false (s : State) (p n : Nat) {ncyc : Nat} (hn : 833 < n) (hcyc : 0 < ncyc) :
    s.matrixValid p n ncyc = false := by
  refine Bool.eq_false_iff.2 fun hv => ?_
  unfold State.matrixValid at hv
  simp only [Bool.and_eq_true, decide_eq_true_eq] at hv
  obtain ⟨⟨⟨⟨⟨⟨h0, hup⟩, -⟩, hcells⟩, -⟩, -⟩, -⟩ := hv
  have hge : (832 : Int) ≤ s.par P.winStart 832 :=
    winStart_ge h0 (fun w hw => of_decide_eq_true (List.all_eq_true.1 hup w (List.mem_range.2 hw))) 832 (by omega)
  have hcell := List.all_eq_true.1 (List.all_eq_true.1 hcells 0 (List.mem_range.2 hcyc)) 0 (List.mem_range.2 (by omega))
  have htype : cellType (s.cellOf 0 0) = 2 := by simpa using hcell
  have hsame : s.cellOf 0 0 = (s.par P.winStart 832).toNat := by
    unfold State.cellOf
    rw [Nat.zero_mod]
    exact congrArg Int.toNat (tget_of_ne_default (t := s.params) (d := 0) (k := 34816) 128 fun h => by
      rw [show s.par P.winStart 832 = 0 from h] at hge
      omega)
  rw [hsame] at htype
  unfold cellType at htype
  omega

section
variable {a b : State} (h : Alike a b)
include h

theorem Alike.port (q : Par) (p : Nat) (hp : p < 4) (hq : q.s1 = 64 ∧ q.base < 33000) : b.par q p = a.par q p := by
  obtain ⟨h1, hlt⟩ := hq
  have hpn : q.pn p 0 = q.base + 64 * p := by
    unfold Par.pn
    rw [h1, Nat.mul_zero, Nat.add_zero]
  exact h.pars q p 0 _ hpn (by omega) (by omega)

theorem Alike.nomBit (p : Nat) (hp : p < 4) : b.nomBit p = a.nomBit p := by
  unfold State.nomBit State.parN
  rw [h.port P.nbrp p hp (by decide), h.port P.ntseg1 p hp (by decide), h.port P.ntseg2 p hp (by decide)]

theorem Alike.dataBit (p : Nat) (hp : p < 4) : b.dataBit p = a.dataBit p := by
  unfold State.dataBit State.parN
  rw [h.port P.dbrp p hp (by decide), h.port P.dtseg1 p hp (by decide), h.port P.dtseg2 p hp (by decide)]

theorem Alike.matrixValid (p n ncyc : Nat) (hp : p < 4) (hn : n ≤ 833) (hcyc : ncyc ≤ 16) (ha : a.parN P.combCycles = ncyc)
    (hw : a.parN P.combWindows = n) : b.matrixValid p n ncyc = a.matrixValid p n ncyc := by
  have hcycles : b.parN P.combCycles = a.parN P.combCycles := congrArg Int.toNat (h.fixed _ (by decide))
  have hwindows : b.parN P.combWindows = a.parN P.combWindows := congrArg Int.toNat (h.fixed _ (by decide))
  have hstart (w : Nat) (hw : w ≤ 833) : b.par P.winStart w = a.par P.winStart w := h.pars P.winStart w 0 (33984 + 1 * w + 1 * 0) rfl (by omega) (by omega)
  have hcell (c w : Nat) (hw : w ≤ 833) : b.cellOf c w = a.cellOf c w := by
    have hlt : c % max 1 ncyc < 17 := (Nat.mod_lt _ (by omega)).trans_le (by omega)
    unfold State.cellOf
    rw [hcycles, ha]
    generalize c % max 1 ncyc = m at hlt
    exact congrArg Int.toNat (h.pars P.winCell m w (34816 + 32 * m + 1 * w) rfl (by omega) (by omega))
  have hexcl (v : Nat) : b.exclOf (cellSlot v) = a.exclOf (cellSlot v) := by
    have hlt : cellSlot v < 16 := Nat.mod_lt _ (by decide)
    unfold State.exclOf State.parN
    rw [h.pars P.exclId (cellSlot v) 0 (33920 + 1 * cellSlot v + 1 * 0) rfl (by omega) (by omega)]
  have hend : b.windowEnd 0 = a.windowEnd 0 := by
    unfold State.windowEnd State.cycleUnits
    rw [hwindows, hstart 1 (by omega), h.fixed P.cycleLen (by decide)]
  have hframe : b.frameCycles p 20 = a.frameCycles p 20 := by
    unfold State.frameCycles State.brs State.degraded
    rw [h.nomBit p hp, h.dataBit p hp, h.port P.brsEn p hp (by decide), h.fixed P.clkStatus (by decide)]
  unfold State.matrixValid
  rw [hstart 0 (by omega), hstart (n - 1) (by omega), h.fixed P.cycleLen (by decide), hend, hframe]
  refine congrArg₂ and (congrArg₂ and (congrArg₂ and (congrArg₂ and (congrArg₂ and (congrArg₂ and rfl ?_) rfl) ?_) rfl) rfl) ?_
  · exact all_congr fun w hw => by
      have := upto_lt hw
      rw [hstart w (by omega), hstart (w + 1) (by omega)]
  · exact all_congr fun c _ => all_congr fun w hw => by
      rw [hcell c w (by have := upto_lt hw; omega)]
  · exact all_congr fun c _ => all_congr fun w hw => by
      dsimp only
      rw [hcell c w (by have := upto_lt hw; omega), hexcl]

theorem Alike.combValid (p : Nat) (hp : p < 4) : b.combValid p = a.combValid p := by
  have hn : b.parN P.combWindows = a.parN P.combWindows := congrArg Int.toNat (h.fixed _ (by decide))
  have hc : b.parN P.combCycles = a.parN P.combCycles := congrArg Int.toNat (h.fixed _ (by decide))
  rw [State.combValid_eq, State.combValid_eq, hn, hc]
  have hno (s : State) (hcyc : ¬ [1, 2, 4, 8, 16].contains (a.parN P.combCycles) = true) :
      s.matrixValid p (a.parN P.combWindows) (a.parN P.combCycles) = false := by
    unfold State.matrixValid
    rw [Bool.eq_false_iff.2 hcyc, Bool.and_false, Bool.false_and]
  by_cases hcyc : [1, 2, 4, 8, 16].contains (a.parN P.combCycles) = true
  · have hrange : 0 < a.parN P.combCycles ∧ a.parN P.combCycles ≤ 16 := by
      simp only [List.contains_eq_mem, List.mem_cons, List.not_mem_nil, or_false, decide_eq_true_eq] at hcyc
      omega
    by_cases hwin : a.parN P.combWindows ≤ 833
    · exact h.matrixValid p _ _ hp hwin hrange.2 rfl rfl
    · rw [State.matrixValid_false _ _ _ (Nat.not_le.1 hwin) hrange.1, State.matrixValid_false _ _ _ (Nat.not_le.1 hwin) hrange.1]
  · rw [hno b hcyc, hno a hcyc]

/-! ### The judgement of an item -/

theorem Alike.timingOk (p : Nat) (hp : p < 4) : b.timingOk p = a.timingOk p := by
  unfold State.timingOk
  rw [h.nomBit p hp, h.dataBit p hp, h.port P.nsjw p hp (by decide), h.port P.ntseg2 p hp (by decide), h.port P.dsjw p hp (by decide),
    h.port P.dtseg2 p hp (by decide)]

end

/-- The indices of a parameter's number are in its table. -/
theorem findPar_index {pn : Nat} {q : Par} {i j : Nat} (h : findPar pn = some (q, i, j)) : i < q.n1 ∧ q ∈ allPars := by
  unfold findPar at h
  obtain ⟨p, hp, he⟩ := List.exists_of_findSome?_eq_some h
  obtain ⟨ij, hij, he⟩ := Option.map_eq_some_iff.1 he
  cases he
  refine ⟨?_, hp⟩
  unfold Par.index at hij
  dsimp only at hij
  split at hij
  · cases hij
  · split at hij
    · split at hij
      next hd =>
        cases hij
        exact hd.2
      · cases hij
    · split at hij
      next hd =>
        cases hij
        exact hd.1
      · cases hij

section
variable {a b u w : State} (h : Alike a b) (hu : Alike u w)
include h hu

theorem Alike.pairFails {p : Par} {i : Nat} (v : Int) (hi : i < p.n1) : b.pairFails w p i v = a.pairFails u p i v := by
  unfold State.pairFails
  split
  · rw [hu.pars P.ctrlMode i 0 (4352 + 4096 * i + 1 * 0) rfl (by omega) (by omega), hu.pars P.grouping i 0 (4353 + 4096 * i + 1 * 0) rfl (by omega) (by omega)]
  · split
    · rw [hu.pars P.bootWarn i 0 (20487 + 16 * i + 1 * 0) rfl (by omega) (by omega), hu.pars P.bootUv i 0 (20488 + 16 * i + 1 * 0) rfl (by omega) (by omega)]
    · split
      next hp =>
        rw [hu.timingOk i (by rw [hp] at hi; exact hi)]
      · split
        · exact any_congr fun j hj => by
            have := upto_lt hj
            rw [h.fixed P.pairEn (by decide), hu.pars P.sbSegment (2 * j) 0 (32769 + 64 * (2 * j) + 1 * 0) rfl (by omega) (by omega),
              hu.pars P.sbSegment (2 * j + 1) 0 (32769 + 64 * (2 * j + 1) + 1 * 0) rfl (by omega) (by omega)]
        · split
          · exact any_congr fun j hj => by rw [h.fixed P.combEn (by decide), hu.combValid j (upto_lt hj)]
          · split
            · rfl
            · split
              · unfold State.parN
                rw [hu.pars P.panSrc i 0 (45056 + 4 * i + 1 * 0) rfl (by omega) (by omega), hu.pars P.panPace i 0 (45057 + 4 * i + 1 * 0) rfl (by omega) (by omega)]
              · rfl

end

theorem Alike.judgeItem {a b u w : State} (h : Alike a b) (hu : Alike u w) (it : Nat × Nat) : b.judgeItem w it = a.judgeItem u it := by
  unfold State.judgeItem
  split
  · rfl
  next p i j hit =>
    obtain ⟨hi, -⟩ := findPar_index hit
    extract_lets v
    have hjt (hp : p = P.jtCalCmd) : b.jtCalRefused i = a.jtCalRefused i := h.jtCalRefused i (by rw [hp] at hi; exact hi)
    split
    · rfl
    · rfl
    · rw [hu.inRange, h.pairFails hu v hi, h.markHolds, h.pars P.fgState i 0 (40963 + 16 * i + 1 * 0) rfl (by omega) (by omega),
        h.fixed P.timeState (by decide), h.fanner]
      by_cases hp : p = P.jtCalCmd
      · rw [hjt hp]
      · simp only [hp, false_and, if_false]

theorem Alike.setRaw {a b : State} (h : Alike a b) (pn : Nat) (v : Int) :
    Alike { a with params := tset a.params pn v } { b with params := tset b.params pn v } where
  pars q i j n hn h1 h2 := by
    unfold State.par
    by_cases hpn : pn = q.pn i j
    · rw [hpn, tget_tset_same, tget_tset_same]
    · rw [tget_tset_other _ _ _ _ _ hpn, tget_tset_other _ _ _ _ _ hpn]
      exact h.pars q i j n hn h1 h2
  ring := h.ring
  now := h.now
  axes := h.axes
  service := h.service
  fanner := h.fanner

theorem Alike.staged {a b : State} (h : Alike a b) (items : List (Nat × Nat)) : Alike (a.staged items) (b.staged items) := by
  unfold State.staged
  induction items generalizing a b with
  | nil => exact h
  | cons it items ih =>
    refine ih ?_
    dsimp only
    cases findPar it.1 with
    | none => exact h
    | some e =>
      dsimp only
      split
      · exact h.setRaw ..
      · exact h

/-- Items are judged alike. -/
theorem Alike.firstBad {a b : State} (h : Alike a b) (items : List (Nat × Nat)) : b.firstBad items = a.firstBad items := by
  unfold State.firstBad
  dsimp only
  refine congrArg (fun f => List.findSome? f items.zipIdx) (funext fun x => ?_)
  rw [h.judgeItem (h.staged items)]

end Sys2Proof.Machine
end

section
/-! # What keeps a session's number and key (R454, R455)

The next sequence number and the key of a session change when its own packets are taken, when it opens and when it closes. Records, messages,
frames of the bus, faults and the Forager's beats leave both. -/
namespace Sys2Proof.Machine

/-- The next sequence number and the key of a session. -/
def State.keyOf (n : Nat) (s : State) : Nat × Option Bytes := (s.sess n).seqAndKey

section
variable {n : Nat}

theorem keyOf_of_sessions {a b : State} (h : a.sessions = b.sessions) : a.keyOf n = b.keyOf n := State.seqAndKey_of_sessions h n

theorem lineBlind_keyOf : LineBlind (State.keyOf n) := .of_setPar (fun _ _ => rfl) (fun _ _ => rfl) (fun _ _ => rfl) (fun _ _ _ _ => rfl)

theorem State.incPar_keyOf (s : State) (p : Par) (i j k : Nat) : (s.incPar p i j k).keyOf n = s.keyOf n := keyOf_of_sessions (s.incPar_sessions ..)

/-! ### Frames of the bus -/

theorem State.notify_keyOf (s : State) (cls pos subj : Nat) (data : Bytes) : (s.notify cls pos subj data).keyOf n = s.keyOf n := s.notify_seqAndKey ..

theorem State.txPut_keyOf (s : State) (p id : Nat) (data : Bytes) (own : Bool) (xfer : Option Nat) (last : Bool) (copyOf : Option (Nat × Nat)) :
    (s.txPut p id data own xfer last copyOf).keyOf n = s.keyOf n := keyOf_of_sessions (s.txPut_sessions ..)

theorem State.feedGone_sessions (s : State) (f : TxFrame) : (s.feedGone f).sessions = s.sessions := by
  unfold State.feedGone
  split <;> rfl

theorem State.evict_keyOf (s : State) (p k f : Nat) : (s.evict p k f).keyOf n = s.keyOf n := by
  induction f generalizing s with
  | zero => rfl
  | succ f ih =>
    unfold State.evict
    dsimp only
    split
    · rfl
    · split
      · rfl
      · exact (ih _).trans ((State.incPar_keyOf ..).trans (keyOf_of_sessions (State.feedGone_sessions ..)))

theorem State.copyEmerg_keyOf (s : State) (p : Nat) (fs : List TxFrame) : (s.copyEmerg p fs).keyOf n = s.keyOf n := by
  unfold State.copyEmerg
  extract_lets q s1
  split
  · refine (State.notify_keyOf ..).trans (foldl_keeps (State.keyOf n) _ (fun y f => ?_) fs s)
    split
    · exact (State.incPar_keyOf ..).trans ((State.txPut_keyOf ..).trans (State.evict_keyOf ..))
    · rfl
  · rfl

theorem State.queueFrame_keyOf (s : State) (p id : Nat) (data : Bytes) (own : Bool) : (s.queueFrame p id data own).keyOf n = s.keyOf n := by
  unfold State.queueFrame
  dsimp only
  split
  · exact (State.copyEmerg_keyOf ..).trans (State.txPut_keyOf ..)
  · exact State.txPut_keyOf ..

theorem State.forwardOut_keyOf (s : State) (q id : Nat) (data : Bytes) (own : Bool) : (s.forwardOut q id data own).keyOf n = s.keyOf n := by
  unfold State.forwardOut
  dsimp only
  split
  · exact State.queueFrame_keyOf ..
  · exact (State.incPar_keyOf ..).trans (State.queueFrame_keyOf ..)

theorem State.forwardBcast_keyOf (s : State) (p src id : Nat) (data : Bytes) (own : Bool) : (s.forwardBcast p src id data own).keyOf n = s.keyOf n := by
  unfold State.forwardBcast
  dsimp only
  split
  · refine each_keeps (State.keyOf n) _ (fun q y => ?_) _ _
    split
    · exact State.forwardOut_keyOf ..
    · rfl
  · rfl

theorem State.emergency_keyOf (s : State) (code subj safe : Nat) : (s.emergency code subj safe).keyOf n = s.keyOf n := by
  have hcast (data : Bytes) : (s.ownBcast 0 0 s.swarm.emergCount data).keyOf n = s.keyOf n :=
    State.ownBcast_keeps (State.keyOf n) (fun y p id data => y.queueFrame_keyOf p id data true)
      (fun y p src id data => y.forwardBcast_keyOf p src id data true) s 0 0 _ data
  unfold State.emergency
  dsimp only
  split <;> exact hcast _

/-! ### Faults -/

theorem State.recordFault_sessions (s : State) (code subj safe : Nat) (path : String) (secondary : Bool) :
    (s.recordFault code subj safe path secondary).sessions = s.sessions := by
  have hfresh (y : State) (t : Tab FRec) (k : Int) : ((({ y with faultRing := t } : State).setPar P.frNext k).incSat P.frCount 256).sessions = y.sessions := rfl
  unfold State.recordFault
  dsimp only
  split
  · exact (hfresh ..).trans (State.incPar_sessions ..)
  · split
    · rfl
    · exact (hfresh ..).trans (State.incPar_sessions ..)

theorem State.frameRef_sessions (s : State) (before : Bool) (subj : Nat) : (s.frameRef before subj).sessions = s.sessions := by
  unfold State.frameRef
  extract_lets p se
  split
  · split <;> rfl
  · rfl

theorem State.report_keyOf (s : State) (code subj safe : Nat) (path : String) (secondary : Bool) :
    (s.report code subj safe path secondary).keyOf n = s.keyOf n := by
  unfold State.report
  extract_lets s1 s2 s3 hit armed
  have h2 : s2.keyOf n = s.keyOf n := (State.notify_keyOf ..).trans (keyOf_of_sessions (State.recordFault_sessions ..))
  have h3 : s3.keyOf n = s.keyOf n := by
    dsimp only [s3]
    split
    · exact (State.emergency_keyOf ..).trans h2
    · exact h2
  split
  · exact (keyOf_of_sessions (State.frameRef_sessions ..)).trans ((lineBlind_keyOf.panTrigger ..).trans h3)
  · exact h3

theorem State.stand_sessions (s : State) (f : Standing) : (s.stand f).sessions = s.sessions := by
  unfold State.stand
  dsimp only
  split <;> rfl

theorem State.raiseModule_keyOf (s : State) (code inst : Nat) (path : String) : (s.raiseModule code inst path).keyOf n = s.keyOf n :=
  (keyOf_of_sessions (State.stand_sessions ..)).trans (State.report_keyOf ..)

theorem State.unstandCode_keyOf (s : State) (code inst : Nat) : (s.unstandCode code inst).keyOf n = s.keyOf n := s.unstandCode_seqAndKey ..

/-! ### The end of a house core pair -/

theorem State.replyRun_keyOf (s : State) (m op seq : Nat) (ps : List Bytes) (boot : Bool) : (s.replyRun m op seq ps boot).keyOf n = s.keyOf n := by
  unfold State.replyRun
  dsimp only
  refine (foldl_keeps (State.keyOf n) _ (fun y p => keyOf_of_sessions (State.sendOrWait_sessions ..)) _ _).trans ?_
  refine (State.setSess_seqAndKey _ _ _ ?_ _).trans rfl
  rfl

theorem State.endOp_keyOf (s : State) (opcode target status : Nat) (extra : Bytes) : (s.endOp opcode target status extra).keyOf n = s.keyOf n :=
  keyOf_of_sessions (State.endOp_sessions ..)

theorem State.endLoad_keyOf (s : State) (status wingState : Nat) : (s.endLoad status wingState).keyOf n = s.keyOf n := by
  unfold State.endLoad
  split
  · rfl
  · dsimp only
    split
    · exact State.replyRun_keyOf ..
    · rfl

theorem State.endService_keyOf (s : State) : s.endService.keyOf n = s.keyOf n := by
  unfold State.endService
  extract_lets s1 s2 s3 s4
  have h1 : s1.keyOf n = s.keyOf n := State.endLoad_keyOf ..
  have h2 : s2.keyOf n = s1.keyOf n := by
    dsimp only [s2]
    split
    · exact State.endOp_keyOf ..
    · rfl
  have h3 : s3.keyOf n = s2.keyOf n := by
    dsimp only [s3]
    split
    · exact State.endOp_keyOf ..
    · rfl
  have h4 : s4.keyOf n = s3.keyOf n := by
    dsimp only [s4]
    split
    · exact State.endOp_keyOf ..
    · rfl
  exact h4.trans (h3.trans (h2.trans h1))

theorem State.enterRecovery_keyOf (s : State) (cause : Nat) : (s.enterRecovery cause).keyOf n = s.keyOf n := by
  unfold State.enterRecovery
  dsimp only
  split
  · exact State.endService_keyOf s
  · exact (State.moveDev_seqAndKey ..).trans (State.endService_keyOf s)

theorem State.activate_sessions (s : State) (p : Nat) : (s.activate p).sessions = s.sessions := by
  unfold State.activate
  refine each_keeps State.sessions _ (fun k y => ?_) _ _
  split <;> rfl

theorem State.setPair_sessions (s : State) (p : Nat) (x : Pair) : (s.setPair p x).sessions = s.sessions := by
  unfold State.setPair
  split <;> rfl

theorem State.coreFault_keyOf (s : State) (fw raise : Bool) : (s.coreFault fw raise).keyOf n = s.keyOf n := by
  unfold State.coreFault
  extract_lets p q ready s1 _ s2 _ s3 s4 _ s5 _ s6
  have h1 : s1.keyOf n = s.keyOf n := by
    dsimp only [s1]
    split
    · exact State.raiseModule_keyOf ..
    · rfl
  have h5 : s5.keyOf n = s1.keyOf n := by
    dsimp only [s5]
    split
    · exact keyOf_of_sessions ((State.activate_sessions ..).trans ((State.setPair_sessions s4 ..).trans (State.setPair_sessions s1 ..)))
    · exact keyOf_of_sessions ((State.setPair_sessions s4 ..).trans (State.setPair_sessions s1 ..))
  split
  · rfl
  · split
    · exact (State.enterRecovery_keyOf ..).trans (h5.trans h1)
    · exact h5.trans h1

theorem State.wordRewritten_keyOf (s : State) (w : Nat) : (s.wordRewritten w).keyOf n = s.keyOf n := by
  unfold State.wordRewritten
  split
  · exact State.unstandCode_keyOf ..
  · rfl

theorem State.lstore_keyOf (s : State) (a : Nat) (bs : Bytes) : (s.lstore a bs).keyOf n = s.keyOf n := by
  unfold State.lstore
  refine (foldl_keeps (State.keyOf n) _ (fun y w => ?_) _ _).trans rfl
  split
  · exact State.wordRewritten_keyOf ..
  · rfl

/-- (The regions are generalised first: the kernel must not decide where a variable address lies.) -/
theorem larderDed_keyOf_aux (f : State → Nat → List Nat → State) (hf : f = State.larderDed) (s : State) (w : Nat) (bits : List Nat) :
    (f s w bits).keyOf n = s.keyOf n := by
  have h : (s.raiseModule 0x0A02 w (bitPath w bits)).keyOf n = s.keyOf n := State.raiseModule_keyOf ..
  delta State.larderDed at hf
  generalize regionOf = r at hf
  as_aux_lemma =>
    subst hf
    dsimp only
    split
    · exact (State.coreFault_keyOf ..).trans h
    · exact (State.coreFault_keyOf ..).trans h
    · exact (State.coreFault_keyOf ..).trans h
    · split <;> exact h
    · exact h
    · exact (State.wordRewritten_keyOf ..).trans h

theorem State.larderDed_keyOf (s : State) (w : Nat) (bits : List Nat) : (s.larderDed w bits).keyOf n = s.keyOf n :=
  larderDed_keyOf_aux _ rfl s w bits

end

end Sys2Proof.Machine
end

section
/-! # What the Forager's beats leave of a session

The master of the Forager reaches no byte of the session table (Table 1.5), so its beats change no session; a read that meets a bad word ends
the active pair, which leaves the sequence numbers and the keys. -/
namespace Sys2Proof.Machine

section
variable {n : Nat}

/-- A view that does not show the free words shows nothing of a read. -/
theorem State.hread_keeps {β : Type} {g : State → β} (hfree : ∀ (s : State) (k : Nat), g { s with free := k } = g s) (s : State) (a k : Nat) :
    g (s.hread a k).2 = g s := by
  induction k generalizing s a with
  | zero => rfl
  | succ k ih =>
    rw [State.hread]
    refine (ih ..).trans ?_
    obtain h | h := State.hbyte_after _ rfl s a
    · rw [h]
    · rw [h]
      exact hfree ..

/-! ### Reads of a channel -/

theorem State.fgAccess_keyOf (s : State) (c : Nat) : (s.fgAccess c).keyOf n = s.keyOf n :=
  (lineBlind_keyOf.fgHalt s.hallwayFault c 0x12).trans (State.report_keyOf ..)

theorem fgRead_keyOf_aux (f : State → Nat → List Nat → Nat → Nat → FgRead) (hf : f = State.fgRead) (s : State) (c : Nat) (ded : List Nat) (a k : Nat) :
    (f s c ded a k).state.keyOf n = s.keyOf n := by
  delta State.fgRead at hf
  generalize mayReach = m at hf
  as_aux_lemma =>
    subst hf
    beta_reduce
    extract_lets x
    have hx : x.keyOf n = s.keyOf n := State.incPar_keyOf ..
    clear_value x
    split
    · exact (x.fgAccess_keyOf c).trans hx
    · split
      next w _ =>
        rw [FgRead.state_halt]
        exact (lineBlind_keyOf.fgHalt (x.larderDed w []) c 0x13).trans ((x.larderDed_keyOf w []).trans hx)
      · exact (State.hread_keeps (g := State.keyOf n) (fun _ _ => rfl) ..).trans hx

theorem State.fgRead_keyOf (s : State) (c : Nat) (ded : List Nat) (a k : Nat) : (s.fgRead c ded a k).state.keyOf n = s.keyOf n :=
  fgRead_keyOf_aux _ rfl s c ded a k

theorem fgRead_forager_aux (f : State → Nat → List Nat → Nat → Nat → FgRead) (hf : f = State.fgRead) (s : State) (c : Nat) (ded : List Nat) (a k : Nat)
    (bs : Bytes) (t : State) (h : f s c ded a k = .ok bs t) : t.forager = s.forager := by
  delta State.fgRead at hf
  generalize mayReach = m at hf
  as_aux_lemma =>
    subst hf
    beta_reduce at h
    extract_lets x at h
    have hx : x.forager = s.forager := State.incPar_keeps (g := State.forager) (fun _ _ => rfl) _ _ _ (fun _ _ => rfl) _ _
    split at h
    · cases h
    · split at h
      · cases h
      · cases h
        exact (State.hread_keeps (g := State.forager) (fun _ _ => rfl) ..).trans hx

/-- A read that ends well leaves the channels. -/
theorem State.fgRead_forager {s t : State} {c : Nat} {ded : List Nat} {a k : Nat} {bs : Bytes} (h : s.fgRead c ded a k = .ok bs t) : t.forager = s.forager :=
  fgRead_forager_aux _ rfl s c ded a k bs t h

theorem State.fgGather_keyOf (s : State) (c : Nat) (ded : List Nat) (size stride a k : Nat) :
    (s.fgGather c ded size stride a k).state.keyOf n = s.keyOf n := by
  induction k generalizing s a with
  | zero => rfl
  | succ k ih =>
    rw [State.fgGather]
    have h := s.fgRead_keyOf (n := n) c ded a size
    cases h1 : s.fgRead c ded a size with
    | halt s1 =>
      rw [h1] at h
      exact h
    | ok b s1 =>
      rw [h1] at h
      have h2 := ih s1 ((a + stride) % 4294967296)
      dsimp only
      cases h3 : s1.fgGather c ded size stride ((a + stride) % 4294967296) k with
      | halt s2 | ok r s2 =>
        rw [h3] at h2
        exact h2.trans h

theorem State.fgGather_forager {s t : State} {c : Nat} {ded : List Nat} {size stride a k : Nat} {bs : Bytes}
    (h : s.fgGather c ded size stride a k = .ok bs t) : t.forager = s.forager := by
  induction k generalizing s a bs t with
  | zero =>
    cases h
    rfl
  | succ k ih =>
    rw [State.fgGather] at h
    cases h1 : s.fgRead c ded a size with
    | halt s1 =>
      rw [h1] at h
      cases h
    | ok b s1 =>
      rw [h1] at h
      dsimp only at h
      cases h2 : s1.fgGather c ded size stride ((a + stride) % 4294967296) k with
      | halt s2 =>
        rw [h2] at h
        cases h
      | ok r s2 =>
        rw [h2] at h
        cases h
        exact (ih h2).trans (State.fgRead_forager h1)

/-! ### Beats -/

theorem hwrite_keyOf_aux (f : State → Nat → Bytes → State) (hf : f = State.hwrite) (s : State) (a : Nat) (bs : Bytes)
    (h : bs = [] ∨ regionOf a ≠ .sessions) : (f s a bs).keyOf n = s.keyOf n := by
  delta State.hwrite at hf
  generalize regionOf = r at hf h
  as_aux_lemma =>
    subst hf
    beta_reduce
    split
    · rfl
    · rfl
    next hr =>
      rcases h with h | h
      · subst h
        rfl
      · exact absurd hr h
    · exact State.lstore_keyOf ..

/-- No master 3 access reaches the session table. -/
theorem regionOf_of_mayReach {a k : Nat} (h : mayReach 3 a k true = true) (hk : 0 < k) : regionOf a ≠ .sessions := by
  unfold mayReach at h
  have h0 := List.all_eq_true.1 h 0 (List.mem_range.2 hk)
  rw [Nat.add_zero] at h0
  obtain ⟨-, h1⟩ := Bool.and_eq_true_iff.1 h0
  intro hr
  rw [hr] at h1
  cases h1

/-- A beat that the Forager may issue lands outside the session table. -/
theorem State.beatLands_keyOf (s : State) {b : FgBeat} (h : mayReach 3 b.addr b.data.length true = true) : (s.beatLands b).keyOf n = s.keyOf n := by
  unfold State.beatLands
  split
  · rfl
  · refine hwrite_keyOf_aux _ rfl s b.addr b.data ?_
    rcases Nat.eq_zero_or_pos b.data.length with h0 | h0
    · exact .inl (List.length_eq_zero_iff.1 h0)
    · exact .inr (regionOf_of_mayReach h h0)

theorem State.issue_keyOf (s : State) (c : Nat) (bs : List FgBeat) : (s.issue c bs).keyOf n = s.keyOf n := State.incPar_keyOf ..

/-- The beats before the first that is refused are allowed. -/
theorem takeWhile_ne_find {α : Type} [DecidableEq α] {l : List α} {p : α → Bool} {x : α} (h : l.find? p = some x) :
    ∀ y ∈ l.takeWhile (fun y => decide (y ≠ x)), p y = false := by
  obtain ⟨hx, as, bs, rfl, has⟩ := List.find?_eq_some_iff_append.1 h
  have hpre : ∀ y ∈ as, decide (y ≠ x) = true := fun y hy => decide_eq_true fun e => by
    have := has y hy
    rw [e, hx] at this
    cases this
  rw [List.takeWhile_append_of_pos hpre, List.takeWhile_cons_of_neg (by simp), List.append_nil]
  exact fun y hy => Bool.eq_false_iff.2 fun e => by
    have := has y hy
    rw [e] at this
    cases this

/-- Beats issued by a channel without outstanding ones. -/
theorem State.issueTo_keyOf (s : State) (c : Nat) (bs : List FgBeat) (h : (s.fg c).outstanding = []) : (s.issueTo c bs).keyOf n = s.keyOf n := by
  unfold State.issueTo
  split
  · exact State.issue_keyOf ..
  next bad hbad =>
    extract_lets before s1 s2
    have h1 : s1.forager = s.forager := State.incPar_keeps (g := State.forager) (fun _ _ => rfl) _ _ _ (fun _ _ => rfl) _ _
    have hout : (s1.fg c).outstanding ++ before = before := by
      rw [show s1.fg c = s.fg c from congrArg (fun t : Tab FgChan => tget t {} c) h1, h, List.nil_append]
    have hland (l : List FgBeat) (hl : ∀ b ∈ l, mayReach 3 b.addr b.data.length true = true) (y : State) :
        (l.foldl (fun s b => s.beatLands b) y).keyOf n = y.keyOf n := by
      induction l generalizing y with
      | nil => rfl
      | cons b l ih => exact (ih (fun b hb => hl b (.tail _ hb)) _).trans (y.beatLands_keyOf (hl b (.head _)))
    have h2 : s2.keyOf n = s1.keyOf n := by
      dsimp only [s2]
      rw [hout]
      exact hland before (fun b hb => by simpa using takeWhile_ne_find hbad b hb) s1
    exact (s2.fgAccess_keyOf c).trans (h2.trans (State.incPar_keyOf ..))

/-! ### The next chunk of a run -/

theorem State.enter_keyOf (s : State) (q : Nat) (data head : Bytes) : (s.enter q data head).keyOf n = s.keyOf n := by
  unfold State.enter
  dsimp only
  split
  · exact (lineBlind_keyOf.arrived ..).trans rfl
  · exact State.incPar_keyOf ..

theorem State.fgFinish_keyOf (s : State) (c : Nat) (r : FgRun) : (s.fgFinish c r).keyOf n = s.keyOf n := by
  have hx (b : Prop) [Decidable b] (y : State) (k v : Nat) : (if b then y.setXreg c k v else y).keyOf n = y.keyOf n := by
    split <;> rfl
  unfold State.fgFinish
  dsimp only
  split
  · exact (lineBlind_keyOf.fgAdvance ..).trans ((hx ..).trans ((hx ..).trans rfl))
  · exact (lineBlind_keyOf.fgAdvance ..).trans ((hx ..).trans ((hx ..).trans rfl))

theorem State.fgChunk_keyOf (s : State) (c : Nat) (ded : List Nat) (h : (s.fg c).outstanding = []) : (s.fgChunk c ded).keyOf n = s.keyOf n := by
  have hout {t : State} (ht : t.forager = s.forager) (r : Option FgRun) (bs : Bytes) (v : Int) :
      (((t.setFg c { t.fg c with run := r, staging := bs }).setPar P.fgCount v c).fg c).outstanding = [] := by
    have hfg : t.fg c = s.fg c := congrArg (fun t : Tab FgChan => tget t {} c) ht
    have hset : ((t.setFg c { t.fg c with run := r, staging := bs }).setPar P.fgCount v c).fg c = { t.fg c with run := r, staging := bs } := tget_tset_same ..
    rw [hset, hfg]
    exact h
  unfold State.fgChunk
  split
  · rfl
  next r _ =>
    extract_lets xs xd size m ss ds r' k s1 got _
    split
    · rfl
    · split
      · split
        · exact State.fgFinish_keyOf ..
        · have hkey := s.fgGather_keyOf (n := n) c ded size ss ((xs + r.done * ss) % 4294967296) m
          cases hg : s.fgGather c ded size ss ((xs + r.done * ss) % 4294967296) m with
          | halt s2 =>
            rw [hg] at hkey
            exact hkey
          | ok bs s2 =>
            rw [hg] at hkey
            dsimp only
            exact (State.issueTo_keyOf _ _ _ (hout (State.fgGather_forager hg) ..)).trans hkey
      · split
        · have h1 : s1.keyOf n = s.keyOf n := by
            dsimp only [s1]
            split
            · exact State.enter_keyOf ..
            · rfl
          exact (State.fgFinish_keyOf ..).trans h1
        · have hkey : got.state.keyOf n = s.keyOf n := by
            dsimp only [got]
            split
            · split
              · exact State.fgRead_keyOf ..
              · rfl
            · exact State.fgRead_keyOf ..
          have hfor (bs : Bytes) (t : State) (ht : got = .ok bs t) : t.forager = s.forager := by
            dsimp only [got] at ht
            split at ht
            · split at ht
              · exact State.fgRead_forager ht
              · cases ht
                rfl
            · exact State.fgRead_forager ht
          clear_value got
          cases got with
          | halt s2 => exact hkey
          | ok bs s2 =>
            dsimp only
            split
            · exact (State.issue_keyOf ..).trans hkey
            · exact (State.issueTo_keyOf _ _ _ (hout (hfor bs s2 rfl) ..)).trans hkey

theorem State.fgDrained_keyOf (s : State) (c : Nat) (h : (s.fg c).outstanding = []) : (s.fgDrained c).keyOf n = s.keyOf n := by
  unfold State.fgDrained
  split
  · exact (lineBlind_keyOf.fgHalt ..).trans rfl
  · split
    · exact s.fgChunk_keyOf c [] h
    · rfl

theorem fgDisableWrite_keyOf (c v : Nat) (s : State) : (fgDisableWrite c v s).keyOf n = s.keyOf n := by
  unfold fgDisableWrite
  split
  · rfl
  · extract_lets was s1 x st s2 _
    have h1 : s1.keyOf n = s.keyOf n := rfl
    have h2 : s2.keyOf n = s.keyOf n := rfl
    have hx : (s2.fg c).outstanding = x.outstanding := (congrArg FgChan.outstanding (tget_tset_same s1.forager {} c _) :)
    split
    · exact h1
    · split
      · split
        · split
          · exact lineBlind_keyOf.lineAt ..
          · exact h2
        · split
          next hrun => exact (s2.fgDrained_keyOf c (hx.trans (List.isEmpty_iff.1 hrun.2))).trans h2
          · exact h2
      · exact h1

end

end Sys2Proof.Machine
end

section
/-! # What a write of parameters leaves of a session (R479 to R481) -/
namespace Sys2Proof.Machine

section
variable {n : Nat}

/-! ### The bus -/

theorem State.feedDone_keyOf (s : State) (x : Nat) : (s.feedDone x).keyOf n = s.keyOf n := by
  unfold State.feedDone
  split
  · exact (keyOf_of_sessions (State.swarmFeed_sessions _)).trans rfl
  · rfl

theorem State.sbStop_keyOf (s : State) (p : Nat) : (s.sbStop p).keyOf n = s.keyOf n := by
  unfold State.sbStop
  dsimp only
  exact (foldl_keeps (State.keyOf n) _ (fun y x => y.feedDone_keyOf x) _ _).trans ((State.unstandCode_keyOf _ 0x0A06 p).trans rfl)

theorem State.startClaim_keyOf (s : State) (a : Nat) : (s.startClaim a).keyOf n = s.keyOf n := by
  unfold State.startClaim
  dsimp only
  split
  · rfl
  · exact (foldl_keeps (State.keyOf n) _ (fun y p => (y.setSb p { y.sb p with claiming := true }).queueFrame_keyOf ..) _ _).trans rfl

theorem sbEnWrite_keyOf (p v : Nat) (s : State) : (sbEnWrite p v s).keyOf n = s.keyOf n := by
  unfold sbEnWrite
  dsimp only
  split
  · rfl
  · split
    · split
      · exact (State.sbStop_keyOf ..).trans rfl
      · rfl
    · split
      · rfl
      · split
        · rfl
        · split
          · exact (State.claimNow_keeps State.startClaim_keyOf _).trans rfl
          · rfl

theorem sbRecover_keyOf (mask : Nat) (s : State) : (sbRecover mask s).keyOf n = s.keyOf n :=
  foldl_keeps (State.keyOf n) _ (fun y p => by split <;> rfl) _ _

theorem timeSet_keyOf (v : Nat) (s : State) : (timeSet v s).keyOf n = s.keyOf n := by
  unfold timeSet
  split <;> rfl

/-! ### The ring and the thermal commands -/

theorem State.hiveEnSet_keyOf (s : State) (v : Nat) : (s.hiveEnSet v).keyOf n = s.keyOf n := by
  have hstop (y : State) : y.hiveStop.keyOf n = y.keyOf n := by
    unfold State.hiveStop
    exact ((y.unstandCode 0x0705 0).unstandCode_keyOf 0x0704 0).trans (y.unstandCode_keyOf 0x0705 0)
  unfold State.hiveEnSet State.hiveEffect
  dsimp only
  split
  · rfl
  · split
    · rfl
    · exact (hstop _).trans rfl

theorem jtCalCmd_keyOf (b v : Nat) (s : State) : (jtCalCmd b v s).keyOf n = s.keyOf n := by
  unfold jtCalCmd
  extract_lets s1 s2
  have h2 : s2.sessions = s1.sessions :=
    each_keeps State.sessions (fun k y => y.setJunction (6 * b + k) { y.junction (6 * b + k) with testSum := 0, testN := 0 }) (fun _ _ => rfl) (upto 6) s1
  clear_value s2
  split
  · rfl
  · exact keyOf_of_sessions h2

theorem State.writeRow_keyOf (s : State) (q : Par) (i : Nat) (v : Int) : (s.writeRow q i v).keyOf n = s.keyOf n := by
  unfold State.writeRow
  dsimp only
  split
  · exact sbEnWrite_keyOf ..
  · split
    · exact sbRecover_keyOf ..
    · split
      · exact timeSet_keyOf ..
      · split
        · exact State.hiveEnSet_keyOf ..
        · split
          · split <;> rfl
          · split
            · exact jtCalCmd_keyOf ..
            · split
              · exact fgDisableWrite_keyOf ..
              · rfl

/-! ### Plain values -/

/-- A view that the values held for a change do not show. -/
theorem State.keepBridge_keeps {β : Type} {g : State → β} (h : ∀ (s : State) b x, g (s.setBridge b x) = g s) (s : State) (q : Par) (i j : Nat) :
    g (s.keepBridge q i j) = g s := foldl_keeps g _ (fun _ _ => h ..) _ _

theorem State.keepDrive_keeps {β : Type} {g : State → β} (haxis : ∀ (s : State) k a, a.st = (s.ax k).st → g (s.setAx k a) = g s)
    (hcell : ∀ (s : State) c x, g (s.setCell c x) = g s) (hlink : ∀ (s : State) k x, g (s.setLink k x) = g s)
    (hfanner : ∀ (s : State) f, g { s with fanner := f } = g s) (s : State) (q : Par) (i j : Nat) : g (s.keepDrive q i j) = g s := by
  unfold State.keepDrive
  extract_lets k keep axis cells
  have hcells (gs : List Nat) : g (cells gs) = g s := each_keeps g _ (fun _ _ => hcell ..) _ _
  split
  · exact haxis _ _ _ rfl
  · split
    · exact hcells _
    · split
      · exact hlink ..
      · split
        · exact hcells _
        · split
          · exact hcells _
          · split
            · exact hfanner ..
            · split
              · exact hfanner ..
              · split
                · split
                  · exact haxis _ _ _ rfl
                  · rfl
                · rfl

theorem State.keep_sessions (s : State) (q : Par) (i j : Nat) : ((s.keepBridge q i j).keepDrive q i j).sessions = s.sessions :=
  (State.keepDrive_keeps (g := State.sessions) (fun _ _ _ _ => rfl) (fun _ _ _ => rfl) (fun _ _ _ => rfl) (fun _ _ => rfl) ..).trans
    (State.keepBridge_keeps (g := State.sessions) (fun _ _ _ => rfl) ..)

theorem State.keep_params (s : State) (q : Par) (i j : Nat) : ((s.keepBridge q i j).keepDrive q i j).params = s.params :=
  (State.keepDrive_keeps (g := State.params) (fun _ _ _ _ => rfl) (fun _ _ _ => rfl) (fun _ _ _ => rfl) (fun _ _ => rfl) ..).trans
    (State.keepBridge_keeps (g := State.params) (fun _ _ _ => rfl) ..)

theorem State.writePlain_sessions (s : State) (q : Par) (i j : Nat) (v : Int) : (s.writePlain q i j v).sessions = s.sessions := by
  unfold State.writePlain
  split
  · rfl
  · split
    · rfl
    · split
      · rfl
      · have h := s.keep_sessions q i j
        dsimp only
        split
        · exact h
        · split <;> exact h

theorem State.applyItems_keyOf (s : State) (items : List (Nat × Nat)) : (s.applyItems items).keyOf n = s.keyOf n := by
  unfold State.applyItems
  extract_lets f
  have hf (row : Bool) (y : State) (it : Nat × Nat) : (f row y it).keyOf n = y.keyOf n := by
    dsimp only [f]
    cases findPar it.1 with
    | none => rfl
    | some e =>
      dsimp only
      split
      · rfl
      · split
        · exact State.writeRow_keyOf ..
        · exact keyOf_of_sessions (State.writePlain_sessions ..)
  exact (foldl_keeps (State.keyOf n) _ (hf true) _ _).trans (foldl_keeps (State.keyOf n) _ (hf false) _ _)

end

end Sys2Proof.Machine
end

section
/-! THEOREMS. Reading and writing parameters. -/
namespace Sys2Proof.Machine

/-! ### An owner's parameter

The counts of dropped transfers, of lost notifications and of violations are not the owner's, so what a message or a refused item counts
changes no parameter the owner writes. -/

theorem owner_pn_ne {pn : Nat} {q : Par} {i j : Nat} (h : findPar pn = some (q, i, j)) (hq : q.acc = .owner) : pn ≠ 49158 ∧ pn ≠ 49419 := by
  have hacc (m : Nat) (hm : (findPar m).any (fun e => decide (e.1.acc = .owner)) = false) : pn ≠ m := fun e => by
    subst e
    rw [h] at hm
    simp [hq] at hm
  exact ⟨hacc _ (by rfl), hacc _ (by rfl)⟩

/-! ### Violations -/

section
variable {s x : State} {n : Nat} {p : Pkt}

theorem State.violate_sess (x : State) (n k m : Nat) : ∃ v, ((x.violate n k).sess m) = { x.sess m with violations := v } := by
  unfold State.violate
  split
  · exact ⟨_, rfl⟩
  · rw [State.sess_congr (State.incPar_sessions ..)]
    by_cases h : n = m
    · subst h
      exact ⟨_, State.sess_setSess_same ..⟩
    · exact ⟨(x.sess m).violations, State.sess_setSess_other _ _ _ _ h⟩

theorem State.violate_keyOf (x : State) (n k m : Nat) : (x.violate n k).keyOf m = x.keyOf m := by
  obtain ⟨v, hv⟩ := x.violate_sess n k m
  unfold State.keyOf
  rw [hv]
  rfl

theorem State.violate_par (x : State) (n k : Nat) {q : Par} {i j : Nat} (h : q.pn i j ≠ 49419) : (x.violate n k).par q i j = x.par q i j := by
  unfold State.violate
  split
  · rfl
  · exact (State.incPar_par_other _ _ _ _ _ _ _ _ (Ne.symm h)).trans rfl

/-- A view that shows neither the sessions nor the parameters. -/
theorem State.violate_keeps {β : Type} {g : State → β} (hsess : ∀ (s : State) t, g { s with sessions := t } = g s)
    (hpar : ∀ (s : State) q v i j, g (s.setPar q v i j) = g s) (hfree : ∀ (s : State) m, g { s with free := m } = g s) (x : State) (n k : Nat) :
    g (x.violate n k) = g x := by
  unfold State.violate
  split
  · rfl
  · exact (State.incPar_keeps hfree _ _ _ (fun _ _ => hpar ..) _ _).trans (hsess ..)

theorem State.violate_alike (x : State) (n k : Nat) : Alike x (x.violate n k) where
  pars q i j m hm h1 h2 := x.violate_par n k (by rw [hm]; exact h2)
  ring := State.violate_keeps (g := State.ring) (fun _ _ => rfl) (fun _ _ _ _ _ => rfl) (fun _ _ => rfl) x n k
  now := State.violate_keeps (g := State.now) (fun _ _ => rfl) (fun _ _ _ _ _ => rfl) (fun _ _ => rfl) x n k
  axes := State.violate_keeps (g := State.axes) (fun _ _ => rfl) (fun _ _ _ _ _ => rfl) (fun _ _ => rfl) x n k
  service := State.violate_keeps (g := State.service) (fun _ _ => rfl) (fun _ _ _ _ _ => rfl) (fun _ _ => rfl) x n k
  fanner := State.violate_keeps (g := State.fanner) (fun _ _ => rfl) (fun _ _ _ _ _ => rfl) (fun _ _ => rfl) x n k

theorem State.Begins.alike (hx : s.Begins n p x) : Alike s x where
  pars q i j m hm h1 _ := hx.params q i j (by rw [hm]; exact Ne.symm h1)
  ring := hx.ring
  now := hx.now
  axes := hx.axes_eq
  service := hx.service
  fanner := hx.of_quiet (g := State.fanner) (fun h => (congrArg State.fanner h :)) fun _ _ => rfl

theorem Alike.trans {a b c : State} (h : Alike a b) (k : Alike b c) : Alike a c where
  pars q i j m hm h1 h2 := (k.pars q i j m hm h1 h2).trans (h.pars q i j m hm h1 h2)
  ring := k.ring.trans h.ring
  now := k.now.trans h.now
  axes := k.axes.trans h.axes
  service := k.service.trans h.service
  fanner := k.fanner.trans h.fanner

/-! ### An answer -/

/-- A row with an answer whose effect keeps the session's number and key answers with it. -/
theorem State.Begins.replied (hx : s.Begins n p x) {y : State} (hy : y.keyOf n = x.keyOf n) {w : Bytes} {ps : List Bytes} {a : Ans}
    (ha : a = { st := y, payloads := w :: ps }) {t : State} (ht : Ends (a.sent p) t) :
    s.Answers t n p (w :: ps) ∧ t.params = y.params ∧ Ends (y.replyRun n p.op p.seq (w :: ps)) t := by
  subst ha
  rw [hx.sent _ rfl] at ht
  exact ⟨(hx.answers hy _ _).of_ends ht, ht.params.trans (State.replyRun_params ..), ht⟩

/-! ### GET and GET_BLOCK -/

theorem length_flatMap_const {α β : Type} (l : List α) (f : α → List β) (m : Nat) (h : ∀ a ∈ l, (f a).length = m) : (l.flatMap f).length = m * l.length := by
  rw [List.length_flatMap, List.map_congr_left h, List.map_const', List.sum_replicate, smul_eq_mul, Nat.mul_comm]

theorem State.items_length (s : State) (sess : Nat) (own : Bool) (pns : List Nat) : (s.items sess own pns).length = 12 * pns.length := by
  unfold State.items
  refine length_flatMap_const _ _ 12 fun pn _ => ?_
  split <;> simp [valueBytes, leBytes_length]

theorem pieces_length {α : Type} (f : Nat) (l : List α) (h : l.length ≤ 127 * f) : (pieces 127 f l).length = (l.length + 126) / 127 := by
  induction f generalizing l with
  | zero =>
    obtain rfl := List.length_eq_zero_iff.1 (Nat.le_zero.1 h)
    simp [pieces]
  | succ f ih =>
    unfold pieces
    cases l with
    | nil => simp
    | cons a l =>
      have hdrop : ((a :: l).drop 127).length = (a :: l).length - 127 := List.length_drop
      rw [if_neg (by simp), List.length_cons, ih _ (by omega), hdrop]
      simp only [List.length_cons] at h ⊢
      omega

theorem getParams_answers (hx : s.Begins n p x) (h1 : 1 ≤ field p.payload 0 2) (h2 : field p.payload 0 2 ≤ 85) {t : State}
    (ht : Ends ((cmdGet.run x n p).sent p) t) :
    ∃ bs, bs.length = 12 * field p.payload 0 2 ∧ s.Answers t n p [leBytes 1 stDone ++ leBytes 1 0 ++ leBytes 2 (field p.payload 0 2) ++ bs] := by
  refine ⟨x.items n (x.owner.session = n) (pnsAt p.payload 2 (field p.payload 0 2)), ?_, ?_⟩
  · rw [State.items_length]
    unfold pnsAt upto
    rw [List.length_map, List.length_range]
  · have hrun : cmdGet.run x n p = { st := x.violate n (x.readViolations n (pnsAt p.payload 2 (field p.payload 0 2))),
                                        payloads := [leBytes 1 stDone ++ leBytes 1 0 ++ leBytes 2 (field p.payload 0 2) ++
                                          x.items n (x.owner.session = n) (pnsAt p.payload 2 (field p.payload 0 2))] } := if_neg (by omega)
    exact (hx.replied (x.violate_keyOf ..) hrun ht).1

theorem getParams_range (hx : s.Begins n p x) (h : field p.payload 0 2 = 0 ∨ 85 < field p.payload 0 2) {t : State}
    (ht : Ends ((cmdGet.run x n p).sent p) t) : s.AnswersStatus t n p stRange := by
  have hrun : cmdGet.run x n p = ansStatus x stRange := if_pos h
  rw [hrun] at ht
  exact (hx.said rfl ht).1

theorem getBlock_answers (hx : s.Begins n p x) (h1 : 1 ≤ field p.payload 2 2) (h2 : field p.payload 2 2 ≤ 4096)
    (h3 : field p.payload 0 2 + field p.payload 2 2 ≤ 0x10000) {t : State} (ht : Ends ((cmdGetBlock.run x n p).sent p) t) :
    ∃ ps, ps.length = (field p.payload 2 2 + 126) / 127 ∧ s.Answers t n p ps := by
  have hpns : ((upto (field p.payload 2 2)).map (field p.payload 0 2 + ·)).length = field p.payload 2 2 := by
    unfold upto
    rw [List.length_map, List.length_range]
  have hlen := pieces_length 33 ((upto (field p.payload 2 2)).map (field p.payload 0 2 + ·)) (by rw [hpns]; omega)
  rw [hpns] at hlen
  have hrun : ∃ y f, cmdGetBlock.run x n p =
      { st := y, payloads := (pieces 127 33 ((upto (field p.payload 2 2)).map (field p.payload 0 2 + ·))).map f } ∧ y.keyOf n = x.keyOf n :=
    ⟨_, _, if_neg (by omega), x.violate_keyOf ..⟩
  obtain ⟨y, f, hrun, hy⟩ := hrun
  generalize pieces 127 33 ((upto (field p.payload 2 2)).map (field p.payload 0 2 + ·)) = l at hlen hrun
  cases l with
  | nil =>
    rw [List.length_nil] at hlen
    omega
  | cons ks l => exact ⟨_, by rw [← hlen, ← List.length_map (f := f)]; rfl, (hx.replied hy hrun ht).1⟩

theorem getBlock_range (hx : s.Begins n p x) (h : field p.payload 2 2 = 0 ∨ 4096 < field p.payload 2 2) {t : State}
    (ht : Ends ((cmdGetBlock.run x n p).sent p) t) : s.AnswersStatus t n p stRange := by
  have hrun : cmdGetBlock.run x n p = ansStatus x stRange := if_pos (by omega)
  rw [hrun] at ht
  exact (hx.said rfl ht).1

/-! ### SNAPSHOT -/

theorem State.Begins.snaps (hx : s.Begins n p x) (k : Nat) : (x.violate n k).snaps = s.snaps :=
  (State.violate_keeps (g := State.snaps) (fun _ _ => rfl) (fun _ _ _ _ _ => rfl) (fun _ _ => rfl) x n k).trans
    (hx.of_quiet (g := State.snaps) (fun h => (congrArg State.snaps h :)) fun _ _ => rfl)

theorem snapshot_now (hx : s.Begins n p x) (h1 : 1 ≤ field p.payload 2 2) (h2 : field p.payload 2 2 ≤ 84) (h0 : field p.payload 0 1 = 0) {t : State}
    (ht : Ends ((cmdSnapshot.run x n p).sent p) t) : t.snaps = s.snaps ∧ ∃ bs, s.Answers t n p [leBytes 1 stDone ++ bs] := by
  obtain ⟨y, hy⟩ : ∃ y, y = x.violate n (x.readViolations n (pnsAt p.payload 4 (field p.payload 2 2))) := ⟨_, rfl⟩
  have hrun : cmdSnapshot.run x n p = { st := y, payloads := [y.snapReply n 0 (pnsAt p.payload 4 (field p.payload 2 2))] } := by
    show State.snapshot x n p = _
    unfold State.snapshot
    dsimp only
    rw [if_neg (by omega), if_pos h0, ← hy]
  have hsnaps : y.snaps = s.snaps := hy ▸ hx.snaps _
  obtain ⟨hans, -, hends⟩ := hx.replied (by rw [hy, State.violate_keyOf]) hrun ht
  refine ⟨(hends.snaps.trans (congrArg State.snaps (State.replyRun_quiet ..) :)).trans hsnaps, ?_⟩
  unfold State.snapReply at hans
  simp only [List.append_assoc] at hans
  exact ⟨_, hans⟩

theorem snapshot_waits (hx : s.Begins n p x) (h1 : 1 ≤ field p.payload 2 2) (h2 : field p.payload 2 2 ≤ 84) (h0 : 1 ≤ field p.payload 0 1)
    (h4 : field p.payload 0 1 ≤ 4) {t : State} (ht : Ends ((cmdSnapshot.run x n p).sent p) t) :
    t.snaps = s.snaps ++ [⟨field p.payload 0 1 - 1, n, p.seq, pnsAt p.payload 4 (field p.payload 2 2)⟩] ∧ (t.sess n).nextSeq = (p.seq + 1) % 65536 := by
  obtain ⟨y, hy⟩ : ∃ y, y = x.violate n (x.readViolations n (pnsAt p.payload 4 (field p.payload 2 2))) := ⟨_, rfl⟩
  have hkey : y.keyOf n = x.keyOf n := by rw [hy, State.violate_keyOf]
  have hrun : (cmdSnapshot.run x n p).sent p =
      { y with snaps := y.snaps ++ [⟨field p.payload 0 1 - 1, n, p.seq, pnsAt p.payload 4 (field p.payload 2 2)⟩] } := by
    show (State.snapshot x n p).sent p = _
    unfold State.snapshot
    dsimp only
    rw [if_neg (by omega), if_neg (by omega), ← hy]
    unfold Ans.sent
    rw [if_pos rfl]
    rfl
  rw [hrun] at ht
  have hsnaps : y.snaps = s.snaps := hy ▸ hx.snaps _
  rw [ht.snaps, ht.sess_eq]
  refine ⟨by rw [← hsnaps], ?_⟩
  exact (congrArg Prod.fst hkey).trans hx.nextSeq

/-! ### SET -/

/-- A parameter the owner writes by its number alone: it has no effect of its own, no operation holds it, and it is not COMB_ID (R481). -/
structure State.Plain (s : State) (pn : Nat) (q : Par) (i j : Nat) : Prop where
  found : findPar pn = some (q, i, j)
  number : q.pn i j = pn
  owner : q.acc = .owner
  noRow : ownRow q = false
  free : s.heldPar q i = false
  notComb : q ≠ P.combId

/-- What a taken packet and its violations count is no owner's parameter. -/
theorem Alike.par_of_plain {a b : State} (h : Alike a b) {c : State} {pn : Nat} {q : Par} {i j : Nat} (hp : c.Plain pn q i j) : b.par q i j = a.par q i j :=
  h.pars q i j pn hp.number (owner_pn_ne hp.found hp.owner).1 (owner_pn_ne hp.found hp.owner).2

theorem Alike.plain {a b : State} (h : Alike a b) {pn : Nat} {q : Par} {i j : Nat} (hp : a.Plain pn q i j) : b.Plain pn q i j :=
  { hp with free := (h.heldPar q i).trans hp.free }

theorem findPar_single {pn : Nat} {q : Par} {i j : Nat} (h : findPar pn = some (q, i, j)) (hq : q.n2 ≤ 1) : j = 0 := by
  unfold findPar at h
  obtain ⟨p, -, he⟩ := List.exists_of_findSome?_eq_some h
  obtain ⟨ij, hij, he⟩ := Option.map_eq_some_iff.1 he
  cases he
  unfold Par.index at hij
  dsimp only at hij
  split at hij
  · cases hij
  · split at hij
    · cases hij
      rfl
    · cases hij

/-- A plain value is written. -/
theorem State.writePlain_par {s : State} {pn : Nat} {q : Par} {i j : Nat} (hp : s.Plain pn q i j) (v : Int) : (s.writePlain q i j v).par q i j = v := by
  have hkeep : ((((s.keepBridge q i j).keepDrive q i j).setPar q v i j)).par q i j = v := State.par_setPar_same ..
  unfold State.writePlain
  rw [if_neg (by rw [hp.free]; decide), if_neg fun h => hp.notComb h.1]
  split
  next hq =>
    subst hq
    refine (State.par_setPar_other _ _ _ _ _ _ _ _ ?_).trans (State.par_setPar_same ..)
    rw [findPar_single hp.found (by decide)]
    change 4656 + 4096 * i + 1 * 0 ≠ 4612 + 4096 * i + 1 * 0
    omega
  · dsimp only
    split
    next hq =>
      subst hq
      refine (State.par_setPar_other _ _ _ _ _ _ _ _ ?_).trans hkeep
      rw [findPar_single hp.found (by decide)]
      change 29190 + 16 * i + 1 * 0 ≠ 29184 + 16 * i + 1 * 0
      omega
    · split <;> exact hkeep

theorem State.setAx_states (s : State) (k : Nat) (a : Axis) (h : a.st = (s.ax k).st) : (s.setAx k a).states = s.states := by
  refine Prod.ext rfl (funext fun j => ?_)
  by_cases hj : k = j
  · subst hj
    exact (congrArg Axis.st (s.ax_setAx_same k a)).trans h
  · exact congrArg Axis.st (s.ax_setAx_other k j a hj)

theorem State.writePlain_states (s : State) (q : Par) (i j : Nat) (v : Int) : (s.writePlain q i j v).states = s.states := by
  have hkeep : ((s.keepBridge q i j).keepDrive q i j).states = s.states :=
    (State.keepDrive_keeps State.setAx_states (fun _ _ _ => rfl) (fun _ _ _ => rfl) (fun _ _ => rfl) ..).trans
      (State.keepBridge_keeps (g := State.states) (fun _ _ _ => rfl) ..)
  unfold State.writePlain
  split
  · rfl
  · split
    · rfl
    · split
      · refine (State.modAx_states _ _ _ ?_).trans rfl
        exact fun a => rfl
      · dsimp only
        split
        · exact hkeep
        · split <;> exact hkeep

/-- A single plain item is its write. -/
theorem State.applyItems_single {s : State} {pn : Nat} {q : Par} {i j : Nat} (hp : s.Plain pn q i j) (v : Nat) :
    s.applyItems [(pn, v)] = s.writePlain q i j (q.valueOf v) := by
  unfold State.applyItems
  dsimp only [List.foldl_cons, List.foldl_nil]
  rw [hp.found]
  dsimp only
  rw [hp.owner, hp.noRow]
  simp

/-- What the items of a SET do, and the answer. -/
theorem State.Begins.setRun (hx : s.Begins n p x) (h1 : 1 ≤ field p.payload 0 2) (h2 : field p.payload 0 2 ≤ 85) {items : List (Nat × Nat)}
    (hitems : items = (upto (field p.payload 0 2)).map fun i => (field p.payload (4 + 12 * i) 2, field p.payload (8 + 12 * i) 8)) :
    ∃ y, Alike s y ∧ y.keyOf n = x.keyOf n ∧
      (∀ i st, s.firstBad items = some (i, st) → cmdSet.run x n p = { st := y, payloads := [leBytes 1 st ++ leBytes 1 0 ++ leBytes 2 i] }) ∧
      (s.firstBad items = none → cmdSet.run x n p = { st := y.applyItems items, payloads := [refusal 0x11 stDone] }) := by
  have hy := hx.alike.trans (x.violate_alike n (protCount (items.map (·.1))))
  have hrun : cmdSet.run x n p = x.writeItems n items := by
    rw [hitems]
    exact if_neg (by omega)
  refine ⟨_, hy, x.violate_keyOf .., fun i st hbad => ?_, fun hbad => ?_⟩
  · rw [hrun]
    unfold State.writeItems
    dsimp only
    rw [hy.firstBad, hbad]
  · rw [hrun]
    unfold State.writeItems
    dsimp only
    rw [hy.firstBad, hbad]

/-! ### SET_BLOCK -/

/-- A run's session rewritten and a status answered. -/
theorem State.Begins.runs (hx : s.Begins n p x) (b : Option BlockRun) {st : Nat}
    (hrun : cmdSetBlock.run x n p = { st := x.setSess n { x.sess n with block := b }, payloads := [refusal 0x13 st] }) {t : State}
    (ht : Ends ((cmdSetBlock.run x n p).sent p) t) : s.Answers t n p [refusal 0x13 st] ∧ (t.sess n).block = b := by
  have hsess : (x.setSess n { x.sess n with block := b }).sess n = { x.sess n with block := b } := State.sess_setSess_same ..
  obtain ⟨hans, -, hends⟩ := hx.replied (congrArg Session.seqAndKey hsess :) hrun ht
  refine ⟨hans, ?_⟩
  rw [hends.sess_eq, State.replyRun_sess, hsess]

theorem setBlock_empty (hx : s.Begins n p x) (h : field p.payload 2 2 = 0) {t : State} (ht : Ends ((cmdSetBlock.run x n p).sent p) t) :
    s.Answers t n p [refusal 0x13 stRange] ∧ (t.sess n).block = none := hx.runs none (if_pos (.inl h)) ht

theorem setBlock_begins (hx : s.Begins n p x) (hnone : (s.sess n).block = none) (h1 : 1 ≤ field p.payload 2 2) (h2 : field p.payload 2 2 ≤ 127)
    (h3 : field p.payload 4 2 ≤ 4096) (h4 : field p.payload 2 2 ≤ field p.payload 4 2) (hmore : p.more = true) {t : State}
    (ht : Ends ((cmdSetBlock.run x n p).sent p) t) :
    s.Answers t n p [refusal 0x13 stDone] ∧ ∃ run, (t.sess n).block = some run ∧ run.next = field p.payload 0 2 + field p.payload 2 2 ∧
      run.items.length = field p.payload 2 2 ∧ run.total = field p.payload 4 2 := by
  obtain ⟨items, hitems⟩ : ∃ items, items = (upto (field p.payload 2 2)).map fun i => (field p.payload 0 2 + i, field p.payload (8 + 8 * i) 8) := ⟨_, rfl⟩
  have hlen : items.length = field p.payload 2 2 := by
    rw [hitems]
    unfold upto
    rw [List.length_map, List.length_range]
  have hrun : cmdSetBlock.run x n p = { st := x.setSess n { x.sess n with block := some { next := field p.payload 0 2 + field p.payload 2 2, total := field p.payload 4 2, items := items } },
                                        payloads := [refusal 0x13 stDone] } := by
    show State.setBlock x n p = _
    unfold State.setBlock
    dsimp only
    rw [hx.unbegun hnone, ← hitems]
    dsimp only [Option.getD_none]
    rw [if_neg (by simp only [List.nil_append]; omega), if_pos hmore, List.nil_append]
  obtain ⟨hans, hblock⟩ := hx.runs _ hrun ht
  exact ⟨hans, _, hblock, rfl, hlen, rfl⟩

end

/-! ### The obligation -/

/-- Settles O35. What a row counts before it acts is no parameter that an item names and that no judgement reads (`Alike`), so the items are
judged in the state the packet was taken in; a write of parameters keeps the number and the key of every session (`State.applyItems_keyOf`),
so each command is answered. -/
theorem parameterCommands : Obligations.ParameterCommands := by
  unfold Obligations.ParameterCommands
  intro s0 τ tp n p s items plain
  have hplain {pn : Nat} {q : Par} {i j : Nat} (h : plain pn q i j) : (s0.at τ).Plain pn q i j := by
    obtain ⟨h1, h2, h3, h4, h5, h6⟩ := h
    exact ⟨h1, h2, h3, h4, h5, h6⟩
  refine ⟨fun hacc => ⟨fun h1 h2 => ?_, fun h => ?_⟩, fun hacc => ⟨fun h1 h2 h3 => ?_, fun h => ?_⟩, fun hacc h1 h2 => ⟨fun h => ?_, fun h h4 => ?_⟩,
    fun hacc h1 h2 => ⟨fun i st hbad => ?_, fun hbad => ?_, fun pn v q i j hitem hbad hp => ?_⟩, fun pn v q i j hp => ⟨fun hbad => ?_, fun hbad => ?_⟩,
    fun hacc => ⟨fun h => ?_, fun hnone h1 h2 h3 h4 hmore => ?_⟩⟩
  · exact hacc.does rfl fun x hx t ht => getParams_answers hx h1 h2 ht
  · exact hacc.does rfl fun x hx t ht => getParams_range hx h ht
  · exact hacc.does rfl fun x hx t ht => getBlock_answers hx h1 h2 h3 ht
  · exact hacc.does rfl fun x hx t ht => getBlock_range hx h ht
  · exact hacc.does rfl fun x hx t ht => snapshot_now hx h1 h2 h ht
  · exact hacc.does rfl fun x hx t ht => snapshot_waits hx h1 h2 h h4 ht
  · refine hacc.does rfl fun x hx t ht => ?_
    obtain ⟨y, hy, hkey, hrun, -⟩ := hx.setRun h1 h2 (items := items) rfl
    obtain ⟨hans, hpars, -⟩ := hx.replied hkey (hrun i st hbad) ht
    refine ⟨hans, fun pn q k l hp => ?_⟩
    exact (congrArg (fun t : Tab Int => tget t (q.dflt.value k l) (q.pn k l)) hpars :).trans (hy.par_of_plain (hplain hp))
  · refine hacc.does rfl fun x hx t ht => ?_
    obtain ⟨y, -, hkey, -, hrun⟩ := hx.setRun h1 h2 (items := items) rfl
    exact (hx.replied ((y.applyItems_keyOf items).trans hkey) (hrun hbad) ht).1
  · refine hacc.does rfl fun x hx t ht => ?_
    obtain ⟨y, hy, hkey, -, hrun⟩ := hx.setRun h1 h2 (items := items) rfl
    obtain ⟨-, hpars, -⟩ := hx.replied ((y.applyItems_keyOf items).trans hkey) (hrun hbad) ht
    have hpy := hy.plain (hplain hp)
    rw [hitem, State.applyItems_single hpy] at hpars
    exact (congrArg (fun t : Tab Int => tget t (q.dflt.value i j) (q.pn i j)) hpars :).trans (State.writePlain_par hpy _)
  · refine Does.of_answer rfl fun t ht => ?_
    have hwrite : parameterWrite pn v (s0.at τ) = (s0.at τ).writePlain q i j (q.valueOf v) := by
      unfold parameterWrite
      rw [(hplain hp).found]
      dsimp only
      rw [(hplain hp).noRow, show (s0.at τ).firstBad [(pn, v)] = none from hbad, if_neg (by simp), State.applyItems_single (hplain hp)]
    rw [hwrite] at ht
    refine ⟨(ht.par_eq ..).trans (State.writePlain_par (hplain hp) _), fun k => ?_⟩
    exact congrFun (congrArg Prod.snd (ht.states_eq.trans (State.writePlain_states ..))) k
  · refine Does.of_answer rfl fun t ht => ?_
    have hwrite : parameterWrite pn v (s0.at τ) = s0.at τ := by
      unfold parameterWrite
      rw [(hplain hp).found]
      exact if_pos (.inr hbad)
    rw [hwrite] at ht
    exact ⟨ht.params, ht.axes⟩
  · exact hacc.does rfl fun x hx t ht => setBlock_empty hx h ht
  · exact hacc.does rfl fun x hx t ht => setBlock_begins hx hnone h1 h2 h3 h4 hmore ht

end Sys2Proof.Machine
end
